-- ==== Sys2Proof/Word.lean ====
section
/-! DEFINITION. The word types of the VKL-9512 and the shape of a sparse table. -/
namespace Sys2Proof

/-- A register word (R7: every register is 32 bits wide). -/
abbrev Word := BitVec 32

/-- One byte of memory or of a packet. -/
abbrev Byte := BitVec 8

/-- A sparse table: instance number (or address) and value, in rising order of number. -/
abbrev SMap (α : Type) := List (Nat × α)

end Sys2Proof
end

