-- ==== Sys2Proof/Operand.lean ====
section
/-! DEFINITION. The data that commands carry from outside: observations of pins, clocks, networks and devices. -/
namespace Sys2Proof

/-- Announce data set of a grandmaster, in the order best-master selection compares it (R438). -/
structure GmData where
  prio1 : Nat
  cls : Nat
  acc : Nat
  var : Nat
  prio2 : Nat
  ident : Nat
  steps : Nat
  deriving DecidableEq, Repr

/-- The transport and peer a VCP packet comes from (R271). -/
inductive Xport where
  | pcie (qp : Nat)
  | spi
  | udp (ip port : Nat)
  deriving DecidableEq, Repr

/-- The header of the command that an opcode acts for: transport, session, flow, sequence number, TAG, ACK_REQ and
URGENT (R260). `id` is its number in the command pool. -/
structure Origin where
  id : Nat
  xport : Xport
  sess : Nat
  flow : Nat
  seq : Nat
  tag : Nat
  ack : Bool
  urgent : Bool
  deriving DecidableEq, Repr

/-- What a monitor measures on its marked sample (R44, R48): the stamps at its two points, in 0.8 ns, and the position of the sample
in its network packet. -/
structure LatStamps where
  inp : Nat
  out : Nat
  q : Nat
  deriving DecidableEq, Repr

/-- A received Ethernet frame: its length with FCS, whether the FCS is good, its bytes without FCS, and its receive stamp
at the balls (2^−16 ns of network time). -/
structure RxFrame where
  len : Nat
  fcsOk : Bool
  data : List (BitVec 8)
  stamp : Nat
  deriving DecidableEq, Repr

/-- A session announcement as firmware reads it (R429). -/
structure Announcement where
  sid : Nat
  name : List (BitVec 8)
  group : Nat
  source : Nat
  port : Nat
  chans : Nat
  rate : Nat
  pt : Nat
  ptime : Nat
  l32 : Bool
  /-- encoding L24 or L32, and the clock reference names the grandmaster and domain in use -/
  encOk : Bool
  clockOk : Bool
  offset : Nat
  deriving DecidableEq, Repr

/-- A transaction of the matrix (R469 to R474). -/
structure BusTx where
  master : Nat
  id : Nat
  addr : Nat
  wr : Bool
  len : Nat
  data : List (BitVec 8)
  lock : Bool
  unlock : Bool
  deriving DecidableEq, Repr

/-- What the part meets between two tick tokens: local time passed, whether DRAM accepted a command, Sward words read with a
parity error (object, age), and words of the convolution SRAM read with one (feed, slot, word). -/
structure TokenObs where
  dt : Nat
  dram : Bool
  sward : List (Nat × Nat)
  conv : List (Nat × Nat × Nat)
  deriving DecidableEq, Repr

end Sys2Proof
end

