-- ==== Sys2Proof/Syntax.lean ====
section
/-! DEFINITION. The commands of the block: one constructor per row of the opcode table, with what the command carries.
An opcode's row carries the header of its command, its parameters (packet offset 16 up to the trailer) and what its effect
meets outside the part. -/
namespace Sys2Proof

/-- The commands of the VKL-9512. -/
inductive Instr where
  /-- TICK_TOKEN (R24) -/
  | tickToken (x : TokenObs)
  /-- GRID_LOCK (R35) -/
  | gridLock
  /-- GRID_STEP_RESUME (R38) -/
  | gridStepResume (x : TokenObs)
  /-- GRID_SLEW_LONG (R37) -/
  | gridSlewLong
  /-- ROUTE_XFADE_END (R21) -/
  | routeXfadeEnd (i : Nat)
  /-- PLAY_PREFETCH (R56) -/
  | playPrefetch (p : Nat)
  /-- BULK_WRITE_LOST (R118) -/
  | bulkWriteLost (o t : Nat)
  /-- HP_TIMEOUT (R146) -/
  | hpTimeout (o : Nat)
  /-- BANK_XFADE_END (R168) -/
  | bankXfadeEnd (f : Nat)
  /-- SPECTRUM_WRITE_LOST (R172) -/
  | spectrumWriteLost (f b : Nat)
  /-- TRIM_XFADE_END (R178) -/
  | trimXfadeEnd (f : Nat)
  /-- ZERO_CROSSING (R184) -/
  | zeroCrossing (f : Nat) (mute : Bool)
  /-- ZC_TIMEOUT (R185) -/
  | zcTimeout (f : Nat) (mute : Bool)
  /-- GAIN_RAMP_END (R186) -/
  | gainRampEnd (f : Nat) (mute : Bool)
  /-- LA_XFADE_END (R190) -/
  | laXfadeEnd (f : Nat)
  /-- MEAS_RESULT_WRITE (R221) -/
  | measResultWrite (c : Nat)
  /-- LATENCY_REFRESH (R48) -/
  | latencyRefresh (m : Nat) (x : LatStamps)
  /-- ENGINE_COMPLETE (R230) -/
  | engineComplete (e count : Nat)
  /-- ENGINE_ABANDON (R233) -/
  | engineAbandon (cls : Nat)
  /-- ENGINE_ABANDON_ACK (R233) -/
  | engineAbandonAck (e : Nat)
  /-- FABRIC_HANG (R236) -/
  | fabricHang (e : Nat)
  /-- FABRIC_DONE (R226) -/
  | fabricDone
  /-- ENGINE_GROUP_GATE (R238) -/
  | engineGroupGate (k : Nat)
  /-- HERD_WINDOW (R257) -/
  | herdWindow (avs : Bool)
  /-- GROUP_AWAKE (R239) -/
  | groupAwake (k : Nat)
  /-- FAWN_READ (R243) -/
  | fawnRead (rates : List Nat)
  /-- TJ_READ (R245) -/
  | tjRead (tj : Int)
  /-- IBEX_EVALUATE (R251) -/
  | ibexEvaluate
  /-- AVS_WRITE (R248) -/
  | avsWrite (ok : Bool)
  /-- IBEX_STUCK (R253) -/
  | ibexStuck
  /-- AGEING_LOG_WRITE (R247) -/
  | ageingLogWrite
  /-- ASRC_SETTLING (R61) -/
  | asrcSettling (i : Nat) (old : Bool)
  /-- ASRC_LOCKED (R61) -/
  | asrcLocked (i : Nat) (old : Bool)
  /-- CONV_LOCKED (R196) -/
  | convLocked (i : Nat)
  /-- MUTE_N_LOW (R201) -/
  | muteNLow
  /-- MUTE_N_RELEASE (R203) -/
  | muteNRelease
  /-- HWMUTE_CLR_WRITE (R203) -/
  | hwmuteClrWrite (v : Nat)
  /-- HWMUTE_CFG_WRITE (R203) -/
  | hwmuteCfgWrite (v : Nat)
  /-- ERROR_HANDLED (R540) -/
  | errorHandled
  /-- FATAL_HANDLING_TIMEOUT (R541) -/
  | fatalHandlingTimeout
  /-- ESCALATION_RESET (R542) -/
  | escalationReset (wclk : Nat)
  /-- ERR_ACK_WRITE (R537) -/
  | errAckWrite (upTo : Nat)
  /-- POWER_ON (R510) -/
  | powerOn (wclk : Nat) (watchNew : Bool)
  /-- RESET_N_ASSERT (R510) -/
  | resetNAssert (wclk ns : Nat) (taken held : Bool)
  /-- PERST_N_ASSERT (R510) -/
  | perstNAssert (wclk : Nat)
  /-- PCIE_HOT_RESET (R510) -/
  | pcieHotReset (wclk : Nat)
  /-- THERMAL_TRIP (R510) -/
  | thermalTrip (wclk : Nat)
  /-- BROWN_OUT (R533) -/
  | brownOut (wclk : Nat) (watch : Bool)
  /-- IOASP_BROWN_OUT (R533) -/
  | ioaspBrownOut (bank : Nat) (bad : Bool)
  /-- WATCHDOG_EXPIRE (R382) -/
  | watchdogExpire (core : Nat)
  /-- ORDERED_RESET_START (R511) -/
  | orderedResetStart (wclk : Nat)
  /-- STORM_RELEASE (R515) -/
  | stormRelease
  /-- OPTION_LOAD (R519) -/
  | optionLoad (tj vio33 : Nat)
  /-- DRAM_TRAINING (R494) -/
  | dramTraining (good : List Nat) (ok1 : Bool) (cause : Nat)
  /-- FABRIC_SELFTEST (R520) -/
  | fabricSelftest (bad rates : List Nat) (tj : Int)
  /-- FIRMWARE_BOOT (R521) -/
  | firmwareBoot (ok0 ok1 : Bool)
  /-- FW_PUSH_GO (R521) -/
  | fwPushGo (v : Nat) (valid : Bool)
  /-- WAKE_N_WAKE (R530) -/
  | wakeNWake (early : Bool)
  /-- RTC_ALARM (R530) -/
  | rtcAlarm (early : Bool)
  /-- XIN_LOST (R466) -/
  | xinLost
  /-- XIN_RESTORED (R466) -/
  | xinRestored
  /-- BLK_RST_WRITE (R524) -/
  | blkRstWrite (v : Nat) (pcie : Bool)
  /-- BLOCK_RESET_END (R525) -/
  | blockResetEnd (block : Nat)
  /-- PLL_COMMIT (R462) -/
  | pllCommit (pll v : Nat)
  /-- PLL_LOCK (R461) -/
  | pllLock (pll : Nat)
  /-- PLL_LOSS_OF_LOCK (R465) -/
  | pllLossOfLock (pll : Nat) (pherr : Int)
  /-- BAND_TIMEOUT (R460) -/
  | bandTimeout (pll : Nat)
  /-- BAND_RETRY (R460) -/
  | bandRetry (pll : Nat)
  /-- PLL_SYS_RETURN (R465) -/
  | pllSysReturn
  /-- DRAM_HOLD_TIMEOUT (R506) -/
  | dramHoldTimeout
  /-- DRAM_FREQ_SWITCH (R504) -/
  | dramFreqSwitch
  /-- DRAM_FREQ_ABANDON (R505) -/
  | dramFreqAbandon
  /-- DDRC_FREQ_GO (R504) -/
  | ddrcFreqGo (v : Nat)
  /-- DRAM_ALERT (R500) -/
  | dramAlert (ok : Bool)
  /-- DRAM_REFRESH (R495) -/
  | dramRefresh (bank : Option Nat)
  /-- DRAM_ZQ_CAL (R495) -/
  | dramZqCal
  /-- DRAM_DQS_TRACK (R495) -/
  | dramDqsTrack
  /-- DRAM_TEMP_READ (R495) -/
  | dramTempRead (hottest : Nat)
  /-- DRAM_WRITE_DRAIN (R497) -/
  | dramWriteDrain
  /-- DRAM_READ_COMPLETE (R501) -/
  | dramReadComplete (addr reader : Nat)
  /-- SCRUB_READ (R503) -/
  | scrubRead
  /-- DDRC_ECC_CLR (R501) -/
  | ddrcEccClr (v : Nat)
  /-- DDRC_CNT_CLR (R509) -/
  | ddrcCntClr (v : Nat)
  /-- BUS_REQUEST (R469) -/
  | busRequest (tx : BusTx)
  /-- BUS_RESPONSE (R475) -/
  | busResponse (m id t : Nat) (wr : Bool) (code : Nat)
  /-- BUS_TIMEOUT (R476) -/
  | busTimeout (target : Nat)
  /-- LOCK_BREAK (R474) -/
  | lockBreak (target : Nat)
  /-- MATRIX_ERR_CLR (R475) -/
  | matrixErrClr (v : Nat)
  /-- DMA_GO (R481) -/
  | dmaGo (chan v : Nat) (pcie : Bool)
  /-- DMA_CTRL_STOP (R488) -/
  | dmaCtrlStop (chan : Nat) (pcie : Bool)
  /-- DMA_BURST_DONE (R484) -/
  | dmaBurstDone (chan code : Nat)
  /-- DMA_DESC_FETCH (R486) -/
  | dmaDescFetch (chan code : Nat)
  /-- CORE_FAULT (R368) -/
  | coreFault (core : Nat)
  /-- SLICE_EXPIRE (R373) -/
  | sliceExpire (core cycles : Nat) (stop : Bool)
  /-- THREAD_READY (R372) -/
  | threadReady (thread level : Nat)
  /-- PCIE_CQ_TAIL_WRITE (R282) -/
  | pcieCqTailWrite (q v : Nat)
  /-- PCIE_DESCRIPTOR_FETCH (R282) -/
  | pcieDescriptorFetch (q : Nat) (err : Bool)
  /-- PCIE_REPLY_WRITE (R283) -/
  | pcieReplyWrite (q : Nat)
  /-- PCIE_RQ_HEAD_WRITE (R283) -/
  | pcieRqHeadWrite (q v : Nat)
  /-- QP_CTRL_WRITE (R284) -/
  | qpCtrlWrite (q v : Nat)
  /-- SPI_WRITE (R285) -/
  | spiWrite (pkt : List Byte)
  /-- SPI_READ (R285) -/
  | spiRead (n : Nat)
  /-- SPI_STATUS (R286) -/
  | spiStatus
  /-- COMMAND_RELEASE (R276) -/
  | commandRelease (id : Nat) (obs : List Nat)
  /-- GAP_TIMEOUT (R277) -/
  | gapTimeout (flow : Nat)
  /-- SESSION_IDLE_TIMEOUT (R272) -/
  | sessionIdleTimeout (sess : Nat)
  /-- SYS_SESSION_OPEN (R271) -/
  | sysSessionOpen (o : Origin) (p : List Byte) (obs : List Nat)
  /-- SYS_SESSION_CLOSE (R272) -/
  | sysSessionClose (o : Origin) (p : List Byte) (obs : List Nat)
  /-- SYS_FLOW_OPEN (R274) -/
  | sysFlowOpen (o : Origin) (p : List Byte) (obs : List Nat)
  /-- SYS_FLOW_CLOSE (R274) -/
  | sysFlowClose (o : Origin) (p : List Byte) (obs : List Nat)
  /-- SYS_PING (R342) -/
  | sysPing (o : Origin) (p : List Byte) (obs : List Nat)
  /-- SYS_INFO (R341) -/
  | sysInfo (o : Origin) (p : List Byte) (obs : List Nat)
  /-- SYS_POWER (R344) -/
  | sysPower (o : Origin) (p : List Byte) (obs : List Nat)
  /-- SYS_RESET (R345) -/
  | sysReset (o : Origin) (p : List Byte) (obs : List Nat)
  /-- SYS_RESET_HOLD (R346) -/
  | sysResetHold (o : Origin) (p : List Byte) (obs : List Nat)
  /-- RESET_HOLD_END (R346) -/
  | resetHoldEnd (wclk : Nat)
  /-- SYS_ERR_READ (R347) -/
  | sysErrRead (o : Origin) (p : List Byte) (obs : List Nat)
  /-- SYS_ERR_ACK (R347) -/
  | sysErrAck (o : Origin) (p : List Byte) (obs : List Nat)
  /-- SYS_RTC (R348) -/
  | sysRtc (o : Origin) (p : List Byte) (obs : List Nat)
  /-- SYS_OPTION_READ (R348) -/
  | sysOptionRead (o : Origin) (p : List Byte) (obs : List Nat)
  /-- SYS_FW_UPDATE (R348) -/
  | sysFwUpdate (o : Origin) (p : List Byte) (obs : List Nat)
  /-- SCN_COMMIT (R301) -/
  | scnCommit (o : Origin) (p : List Byte) (obs : List Nat)
  /-- SCN_LOAD (R302) -/
  | scnLoad (o : Origin) (p : List Byte) (obs : List Nat)
  /-- SCN_DISCARD (R303) -/
  | scnDiscard (o : Origin) (p : List Byte) (obs : List Nat)
  /-- SCN_READ (R304) -/
  | scnRead (o : Origin) (p : List Byte) (obs : List Nat)
  /-- SCN_STORE_WRITE (R305) -/
  | scnStoreWrite (o : Origin) (p : List Byte) (obs : List Nat)
  /-- SCN_STORE_RECALL (R306) -/
  | scnStoreRecall (o : Origin) (p : List Byte) (obs : List Nat)
  /-- SCN_STORE_INFO (R306) -/
  | scnStoreInfo (o : Origin) (p : List Byte) (obs : List Nat)
  /-- SCN_STORE_ERASE (R306) -/
  | scnStoreErase (o : Origin) (p : List Byte) (obs : List Nat)
  /-- SCN_STATUS (R307) -/
  | scnStatus (o : Origin) (p : List Byte) (obs : List Nat)
  /-- OBJ_SET_PARAMS (R308) -/
  | objSetParams (o : Origin) (p : List Byte) (obs : List Nat)
  /-- OBJ_SET_GAIN (R309) -/
  | objSetGain (o : Origin) (p : List Byte) (obs : List Nat)
  /-- OBJ_GET_PARAMS (R310) -/
  | objGetParams (o : Origin) (p : List Byte) (obs : List Nat)
  /-- OBJ_STATUS (R311) -/
  | objStatus (o : Origin) (p : List Byte) (obs : List Nat)
  /-- GEO_SPK_LOAD (R312) -/
  | geoSpkLoad (o : Origin) (p : List Byte) (obs : List Nat)
  /-- GEO_ATMOS_SET (R313) -/
  | geoAtmosSet (o : Origin) (p : List Byte) (obs : List Nat)
  /-- GEO_OBJ_SET (R314) -/
  | geoObjSet (o : Origin) (p : List Byte) (obs : List Nat)
  /-- GEO_KEY (R315) -/
  | geoKey (o : Origin) (p : List Byte) (obs : List Nat)
  /-- GEO_KEY_FLUSH (R316) -/
  | geoKeyFlush (o : Origin) (p : List Byte) (obs : List Nat)
  /-- GEO_GET_OBJ (R317) -/
  | geoGetObj (o : Origin) (p : List Byte) (obs : List Nat)
  /-- GEO_GET_PATHS (R318) -/
  | geoGetPaths (o : Origin) (p : List Byte) (obs : List Nat)
  /-- GEO_BULK_REGION (R319) -/
  | geoBulkRegion (o : Origin) (p : List Byte) (obs : List Nat)
  /-- PATH_UPDATE (R320) -/
  | pathUpdate (o : Origin) (p : List Byte) (obs : List Nat)
  /-- PATH_UPDATE_BUF (R321) -/
  | pathUpdateBuf (o : Origin) (p : List Byte) (obs : List Nat)
  /-- PATH_MODE (R322) -/
  | pathMode (o : Origin) (p : List Byte) (obs : List Nat)
  /-- PATH_STATUS (R323) -/
  | pathStatus (o : Origin) (p : List Byte) (obs : List Nat)
  /-- FEED_EQ_SET (R324) -/
  | feedEqSet (o : Origin) (p : List Byte) (obs : List Nat)
  /-- FEED_TRIM_SET (R324) -/
  | feedTrimSet (o : Origin) (p : List Byte) (obs : List Nat)
  /-- FEED_OUT_SET (R324) -/
  | feedOutSet (o : Origin) (p : List Byte) (obs : List Nat)
  /-- FEED_GAIN_SET (R324) -/
  | feedGainSet (o : Origin) (p : List Byte) (obs : List Nat)
  /-- FEED_LIMIT_SET (R324) -/
  | feedLimitSet (o : Origin) (p : List Byte) (obs : List Nat)
  /-- FEED_RATING_SET (R324) -/
  | feedRatingSet (o : Origin) (p : List Byte) (obs : List Nat)
  /-- FEED_GET (R325) -/
  | feedGet (o : Origin) (p : List Byte) (obs : List Nat)
  /-- FEED_STATUS (R326) -/
  | feedStatus (o : Origin) (p : List Byte) (obs : List Nat)
  /-- CORR_LOAD (R327) -/
  | corrLoad (o : Origin) (p : List Byte) (obs : List Nat)
  /-- CORR_LOAD_MULTI (R328) -/
  | corrLoadMulti (o : Origin) (p : List Byte) (obs : List Nat)
  /-- CORR_SWAP (R329) -/
  | corrSwap (o : Origin) (p : List Byte) (obs : List Nat)
  /-- CORR_XFCFG (R330) -/
  | corrXfcfg (o : Origin) (p : List Byte) (obs : List Nat)
  /-- CORR_STATUS (R331) -/
  | corrStatus (o : Origin) (p : List Byte) (obs : List Nat)
  /-- CORR_REGION (R333) -/
  | corrRegion (o : Origin) (p : List Byte) (obs : List Nat)
  /-- CORR_RESET_SLOT (R332) -/
  | corrResetSlot (o : Origin) (p : List Byte) (obs : List Nat)
  /-- ROUTE_IN_SET (R334) -/
  | routeInSet (o : Origin) (p : List Byte) (obs : List Nat)
  /-- ROUTE_OUT_SET (R334) -/
  | routeOutSet (o : Origin) (p : List Byte) (obs : List Nat)
  /-- ROUTE_MATRIX_SET (R335) -/
  | routeMatrixSet (o : Origin) (p : List Byte) (obs : List Nat)
  /-- ROUTE_GEN_SET (R336) -/
  | routeGenSet (o : Origin) (p : List Byte) (obs : List Nat)
  /-- ROUTE_RING_SET (R337) -/
  | routeRingSet (o : Origin) (p : List Byte) (obs : List Nat)
  /-- ROUTE_STATUS (R338) -/
  | routeStatus (o : Origin) (p : List Byte) (obs : List Nat)
  /-- ASP_CONFIG (R350) -/
  | aspConfig (o : Origin) (p : List Byte) (obs : List Nat)
  /-- ASP_SLOTMASK (R350) -/
  | aspSlotmask (o : Origin) (p : List Byte) (obs : List Nat)
  /-- ASP_ENABLE (R350) -/
  | aspEnable (o : Origin) (p : List Byte) (obs : List Nat)
  /-- ASP_MCLK (R350) -/
  | aspMclk (o : Origin) (p : List Byte) (obs : List Nat)
  /-- ASP_STATUS (R349) -/
  | aspStatus (o : Origin) (p : List Byte) (obs : List Nat)
  /-- NET_PORT_CFG (R353) -/
  | netPortCfg (o : Origin) (p : List Byte) (obs : List Nat)
  /-- NET_IP_CFG (R351) -/
  | netIpCfg (o : Origin) (p : List Byte) (obs : List Nat)
  /-- NET_RING_CFG (R353) -/
  | netRingCfg (o : Origin) (p : List Byte) (obs : List Nat)
  /-- NET_STREAM_IN (R352) -/
  | netStreamIn (o : Origin) (p : List Byte) (obs : List Nat)
  /-- NET_STREAM_OUT (R352) -/
  | netStreamOut (o : Origin) (p : List Byte) (obs : List Nat)
  /-- NET_STREAM_STOP (R352) -/
  | netStreamStop (o : Origin) (p : List Byte) (obs : List Nat)
  /-- NET_DISCOVERED (R352) -/
  | netDiscovered (o : Origin) (p : List Byte) (obs : List Nat)
  /-- NET_SUBSCRIBE (R352) -/
  | netSubscribe (o : Origin) (p : List Byte) (obs : List Nat)
  /-- NET_STATUS (R353) -/
  | netStatus (o : Origin) (p : List Byte) (obs : List Nat)
  /-- NET_STREAM_STATUS (R351) -/
  | netStreamStatus (o : Origin) (p : List Byte) (obs : List Nat)
  /-- NET_REDUND_CFG (R352) -/
  | netRedundCfg (o : Origin) (p : List Byte) (obs : List Nat)
  /-- NET_MDIO (R353) -/
  | netMdio (o : Origin) (p : List Byte) (obs : List Nat)
  /-- TIME_CFG (R355) -/
  | timeCfg (o : Origin) (p : List Byte) (obs : List Nat)
  /-- TIME_STATUS (R354) -/
  | timeStatus (o : Origin) (p : List Byte) (obs : List Nat)
  /-- TIME_ADJUST (R443) -/
  | timeAdjust (o : Origin) (p : List Byte) (obs : List Nat)
  /-- TIME_SERVO_CFG (R355) -/
  | timeServoCfg (o : Origin) (p : List Byte) (obs : List Nat)
  /-- TIME_GRID_CFG (R355) -/
  | timeGridCfg (o : Origin) (p : List Byte) (obs : List Nat)
  /-- TIME_LAT_SET (R355) -/
  | timeLatSet (o : Origin) (p : List Byte) (obs : List Nat)
  /-- TIME_LAT_READ (R355) -/
  | timeLatRead (o : Origin) (p : List Byte) (obs : List Nat)
  /-- TIME_PPS_CFG (R355) -/
  | timePpsCfg (o : Origin) (p : List Byte) (obs : List Nat)
  /-- TIME_EVT_READ (R355) -/
  | timeEvtRead (o : Origin) (p : List Byte) (obs : List Nat)
  /-- TIME_FAILOVER (R454) -/
  | timeFailover (o : Origin) (p : List Byte) (obs : List Nat)
  /-- MEAS_CFG (R357) -/
  | measCfg (o : Origin) (p : List Byte) (obs : List Nat)
  /-- MEAS_STREAM (R357) -/
  | measStream (o : Origin) (p : List Byte) (obs : List Nat)
  /-- MEAS_STATUS (R356) -/
  | measStatus (o : Origin) (p : List Byte) (obs : List Nat)
  /-- MEAS_RESTART (R357) -/
  | measRestart (o : Origin) (p : List Byte) (obs : List Nat)
  /-- HLTH_STATUS (R358) -/
  | hlthStatus (o : Origin) (p : List Byte) (obs : List Nat)
  /-- HLTH_LOG_READ (R359) -/
  | hlthLogRead (o : Origin) (p : List Byte) (obs : List Nat)
  /-- HLTH_IBEX_CFG (R359) -/
  | hlthIbexCfg (o : Origin) (p : List Byte) (obs : List Nat)
  /-- HLTH_APPROVE (R359) -/
  | hlthApprove (o : Origin) (p : List Byte) (obs : List Nat)
  /-- HLTH_FAWN (R358) -/
  | hlthFawn (o : Origin) (p : List Byte) (obs : List Nat)
  /-- HLTH_SLACK (R359) -/
  | hlthSlack (o : Origin) (p : List Byte) (obs : List Nat)
  /-- MEM_READ (R361) -/
  | memRead (o : Origin) (p : List Byte) (obs : List Nat)
  /-- MEM_WRITE (R361) -/
  | memWrite (o : Origin) (p : List Byte) (obs : List Nat)
  /-- MEM_COPY (R361) -/
  | memCopy (o : Origin) (p : List Byte) (obs : List Nat)
  /-- MEM_DRAM_INFO (R360) -/
  | memDramInfo (o : Origin) (p : List Byte) (obs : List Nat)
  /-- MEM_DRAM_FREQ (R362) -/
  | memDramFreq (o : Origin) (p : List Byte) (obs : List Nat)
  /-- DMA_START (R362) -/
  | dmaStart (o : Origin) (p : List Byte) (obs : List Nat)
  /-- DMA_STOP (R362) -/
  | dmaStop (o : Origin) (p : List Byte) (obs : List Nat)
  /-- DMA_STATUS (R360) -/
  | dmaStatus (o : Origin) (p : List Byte) (obs : List Nat)
  /-- PLACE_SET (R290) -/
  | placeSet (o : Origin) (p : List Byte) (obs : List Nat)
  /-- PLACE_GET (R363) -/
  | placeGet (o : Origin) (p : List Byte) (obs : List Nat)
  /-- DIAG_REG_READ (R366) -/
  | diagRegRead (o : Origin) (p : List Byte) (obs : List Nat)
  /-- DIAG_REG_WRITE (R366) -/
  | diagRegWrite (o : Origin) (p : List Byte) (obs : List Nat)
  /-- DIAG_SWARD_READ (R366) -/
  | diagSwardRead (o : Origin) (p : List Byte) (obs : List Nat)
  /-- DIAG_SELFTEST (R366) -/
  | diagSelftest (o : Origin) (p : List Byte) (obs : List Nat)
  /-- DIAG_LOOPBACK (R366) -/
  | diagLoopback (o : Origin) (p : List Byte) (obs : List Nat)
  /-- DIAG_ERR_INJECT (R366) -/
  | diagErrInject (o : Origin) (p : List Byte) (obs : List Nat)
  /-- ASP_FRAME (R387) -/
  | aspFrame (port bitCount ps : Nat) (slots : List Nat) (ph : Int) (held : Nat)
  /-- ASP_CLOCK_TIMEOUT (R397) -/
  | aspClockTimeout (port cause : Nat)
  /-- ASP_CLOCK_RETURN (R392) -/
  | aspClockReturn (port : Nat)
  /-- ASP_RATE_MEASURE (R394) -/
  | aspRateMeasure (port count : Nat)
  /-- ASP_MCLK_MEASURE (R385) -/
  | aspMclkMeasure (bank hz : Nat)
  /-- ASP_COMMIT (R389) -/
  | aspCommit (port v : Nat)
  /-- ASP_CTRL_WRITE (R390) -/
  | aspCtrlWrite (port v : Nat)
  /-- ASP_MASK_WRITE (R391) -/
  | aspMaskWrite (port v : Nat) (late : Bool)
  /-- ASP_BANK_CFG_WRITE (R400) -/
  | aspBankCfgWrite (bank v : Nat)
  /-- ASP_CNT_CLR (R402) -/
  | aspCntClr (port v : Nat)
  /-- NET_RX_FRAME (R406) -/
  | netRxFrame (port : Nat) (f : RxFrame)
  /-- NET_RX_OVERFLOW (R407) -/
  | netRxOverflow (port : Nat)
  /-- PAUSE_END (R417) -/
  | pauseEnd (port : Nat)
  /-- PAUSE_WATCHDOG (R418) -/
  | pauseWatchdog (port : Nat)
  /-- PAUSE_IGNORE_END (R418) -/
  | pauseIgnoreEnd (port : Nat)
  /-- NET_TX_FRAME_START (R413) -/
  | netTxFrameStart (port : Nat)
  /-- NET_TX_FRAME_DONE (R412) -/
  | netTxFrameDone (port t : Nat) (underrun : Bool)
  /-- LAUNCH_TIME_REACHED (R445) -/
  | launchTimeReached (port ring : Nat)
  /-- MEDIA_PACKET_LAUNCH (R428) -/
  | mediaPacketLaunch (stream : Nat)
  /-- MEDIA_LATE_DROP (R419) -/
  | mediaLateDrop (port : Nat)
  /-- NET_LINK_UP (R403) -/
  | netLinkUp (port speed : Nat) (half : Bool)
  /-- NET_LINK_DOWN (R416) -/
  | netLinkDown (port : Nat) (cut : Bool)
  /-- LPI_ENTER (R420) -/
  | lpiEnter (port : Nat)
  /-- LPI_WAKE (R420) -/
  | lpiWake (port : Nat)
  /-- DOWNSHIFT (R421) -/
  | downshift (port : Nat)
  /-- NET_RX_TAIL_WRITE (R409) -/
  | netRxTailWrite (port ring v : Nat)
  /-- NET_POOL_TAIL_WRITE (R409) -/
  | netPoolTailWrite (port ring v : Nat)
  /-- NET_TX_TAIL_WRITE (R412) -/
  | netTxTailWrite (port ring v : Nat)
  /-- NET_RING_CTRL_WRITE (R431) -/
  | netRingCtrlWrite (port : Nat) (tx : Bool) (ring v : Nat)
  /-- NET_CNT_CLR (R431) -/
  | netCntClr (port v : Nat)
  /-- MERGE_WINDOW_EXPIRE (R449) -/
  | mergeWindowExpire (stream seq : Nat)
  /-- STREAM_LOST (R427) -/
  | streamLost (stream : Nat)
  /-- STRM_REGION_WRITE (R422) -/
  | strmRegionWrite (v : Nat)
  /-- STRM_CNT_CLR (R432) -/
  | strmCntClr (v : Nat)
  /-- DISCOVERY_ANNOUNCEMENT (R429) -/
  | discoveryAnnouncement (a : Announcement)
  /-- DISCOVERY_EXPIRE (R352) -/
  | discoveryExpire (sid : Nat)
  /-- STREAM_ANNOUNCE (R429) -/
  | streamAnnounce (stream : Nat)
  /-- FIRMWARE_PROTOCOL_REPLY (R406) -/
  | firmwareProtocolReply (port : Nat)
  /-- PTP_SYNC_RECEIVE (R440) -/
  | ptpSyncReceive (port seq gm : Nat) (twoStep : Bool) (t1 : Nat) (corr : Int) (t2 : Nat)
  /-- SERVO_SNAPSHOT (R453) -/
  | servoSnapshot
  /-- STANDBY_SILENT (R452) -/
  | standbySilent
  /-- PTP_ANNOUNCE_RECEIVE (R438) -/
  | ptpAnnounceReceive (port : Nat) (d : GmData)
  /-- PTP_DELAY_RESP_RECEIVE (R440) -/
  | ptpDelayRespReceive (port seq t4 t2p t3p : Nat)
  /-- PTP_PDELAY_REQ_RECEIVE (R438) -/
  | ptpPdelayReqReceive (port seq : Nat)
  /-- PTP_DELAY_REQ_SEND (R437) -/
  | ptpDelayReqSend (port seq t3 : Nat)
  /-- TIME_SOURCE_LOST (R439) -/
  | timeSourceLost (port cause : Nat)
  /-- FAILOVER_TIMEOUT (R454) -/
  | failoverTimeout
  /-- PHASE_SLEW_END (R443) -/
  | phaseSlewEnd
  /-- CTRL_PORT_RETURN (R455) -/
  | ctrlPortReturn
  /-- PPS_PULSE (R448) -/
  | ppsPulse
  /-- PTP_EVT_IN_EDGE (R448) -/
  | ptpEvtInEdge (rising : Bool) (t : Nat)
  /-- TIME_COMMIT (R437) -/
  | timeCommit (v : Nat)
  /-- TIME_ADJ_GO (R443) -/
  | timeAdjGo (v : Nat)
  /-- TIME_FAILOVER_GO (R454) -/
  | timeFailoverGo (v : Nat)
  /-- TXTS_POP (R446) -/
  | txtsPop (port v : Nat)
  /-- EVTQ_POP (R448) -/
  | evtqPop (v : Nat)
  /-- TIME_NOW_NS_READ (R436) -/
  | timeNowNsRead
  /-- TIME_LAT_COMMIT (R50) -/
  | timeLatCommit (v : Nat)
  /-- RENDER_COMMIT_INPUT (R57) -/
  | renderCommitInput (v : Nat)
  /-- RENDER_COMMIT_GEN (R55) -/
  | renderCommitGen (v : Nat)
  /-- INSEL_WRITE (R57) -/
  | inselWrite (i v : Nat)
  /-- PLAY_CTRL_WRITE (R56) -/
  | playCtrlWrite (p v : Nat)
  /-- PLAY_WR_WRITE (R56) -/
  | playWrWrite (p v : Nat)
  /-- CAP_CTRL_WRITE (R200) -/
  | capCtrlWrite (c v : Nat)
  /-- OUT_COMMIT (R197) -/
  | outCommit (v : Nat)
  /-- OUTSEL_WRITE (R197) -/
  | outselWrite (i v : Nat)
  /-- HP_COMMIT (R149) -/
  | hpCommit (v : Nat)
  /-- BULK_BASE_WRITE (R116) -/
  | bulkBaseWrite (v : Nat)
  /-- CORR_BASE_WRITE (R159) -/
  | corrBaseWrite (v : Nat)
  /-- MEAS_COMMIT (R208) -/
  | measCommit (v : Nat)
  /-- MEAS_STR_CTRL_WRITE (R222) -/
  | measStrCtrlWrite (c v : Nat)
  /-- FAB_MIN_CLR (R242) -/
  | fabMinClr (v : Nat)
  /-- IBEX_APPROVE_WRITE (R254) -/
  | ibexApproveWrite (v : Nat)
  /-- RC_FIELD_READ (R10) -/
  | rcFieldRead (a : Nat)
  /-- COUNTER_LOW_READ (R11) -/
  | counterLowRead (a : Nat)
  /-- REGISTER_WRITE (R9) -/
  | registerWrite (a v : Nat) (pcie valid : Bool)
  /-- PTP_FOLLOW_UP_RECEIVE (R440) -/
  | ptpFollowUpReceive (port seq gm t1 : Nat) (corr : Int)
  /-- PCIE_LINK_UP (R553) -/
  | pcieLinkUp (gen width : Nat)
  /-- PCIE_LINK_DOWN (R554) -/
  | pcieLinkDown
  /-- PCIE_CONFIG_WRITE (R553) -/
  | pcieConfigWrite (d3 bme msix fmask : Bool)
  /-- HOST_COMPLETION_TIMEOUT (R476) -/
  | hostCompletionTimeout
  /-- COMMAND_PROCESSING_END (R377) -/
  | commandProcessingEnd (id cycles : Nat)
  /-- DRAM_WRITE_COMPLETE (R580) -/
  | dramWriteComplete (kind i n : Nat)
  /-- DOWNSHIFT_RENEGOTIATION_TIMEOUT (R421) -/
  | downshiftRenegotiationTimeout (p : Nat)
  /-- HELD_WAKE_RELEASE (R534) -/
  | heldWakeRelease
  /-- JTAG_UPDATE_IR (R569) -/
  | jtagUpdateIr (code : Nat)
  /-- MRAM_ACC_GO (R570) -/
  | mramAccGo (data : Word) (waddr : Nat) (wr go : Bool)
  /-- MRAM_ACC_DONE (R570) -/
  | mramAccDone
  deriving DecidableEq, Repr

end Sys2Proof
end

