-- ==== Sys2Proof/Config.lean ====
section
/-! DEFINITION. The free values: what the manual leaves open although the part goes on. Each is an opaque constant
applied to plain numbers, so nothing can be proved of its value (see the assumption log for each). -/
namespace Sys2Proof

/-- Output sample of an ASRC or sink converter: R61 and R196 give its delay and its limits, not its filter. The argument
is the model's free-value counter. -/
opaque Config.convSample : Nat → Int

/-- Pink noise before its clamp (R53 gives spectrum and level, not the sequence): seed, sample index, level. -/
opaque Config.pinkSample : Nat → Nat → Nat → Int

/-- Deviation of the partition convolution from the exact one (R152 bounds it, and does not fix it): coefficient bytes, samples,
scale of the tail. -/
opaque Config.convResidue : List (BitVec 8) → List Int → Nat → Rat

/-- Coefficients of the decimation filters (R209 gives their symmetry, sum and response, not their values): DLOG, tap. -/
opaque Config.decCoef : Nat → Nat → Int

/-- Rounding of a cross-spectrum sum to binary32 (R218 gives the sums, not the order of their operations). -/
opaque Config.anaResidue : Nat → Rat

/-- Ageing index of a sensor whose birth reference is 0 (R245 divides by it): its rate. -/
opaque Config.indexAtZero : Nat → Int

/-- FW_VER and FW_ID of the image that a firmware bank holds before the first update (R341): bank. -/
opaque Config.fwVer : Nat → BitVec 32
opaque Config.fwId : Nat → BitVec 64

/-- A byte whose value the manual leaves undefined (bytes of a failed burst). -/
opaque Config.openByte : Nat → BitVec 8

/-- A word whose value the manual does not state. -/
opaque Config.openWord : Nat → BitVec 32

/-- A number whose value the manual does not state. -/
opaque Config.openNat : Nat → Nat

/-- A binary32 value that the manual does not state. -/
opaque Config.openReal : Nat → Rat

end Sys2Proof
end

