-- ==== Sys2Proof/Machine/Data.lean ====
section
/-! DEFINITION. Sparse tables, bytes and bit fields: the plain data operations every chapter uses. -/
namespace Sys2Proof.Machine

/-- What a sparse table holds at `k`, `d` where it lists nothing. -/
def mget {α : Type} (d : α) : SMap α → Nat → α
  | [], _ => d
  | (j, v) :: r, k => if j = k then v else mget d r k

/-- The entry listed at `k`, if any. -/
def mfind {α : Type} : SMap α → Nat → Option α
  | [], _ => none
  | (j, v) :: r, k => if j = k then some v else mfind r k

/-- List `v` at `k`, in rising order of number. -/
def mput {α : Type} : SMap α → Nat → α → SMap α
  | [], k, v => [(k, v)]
  | (j, w) :: r, k, v =>
    if k < j then (k, v) :: (j, w) :: r else if k = j then (k, v) :: r else (j, w) :: mput r k v

/-- List nothing at `k`. -/
def mdel {α : Type} (m : SMap α) (k : Nat) : SMap α := m.filter (fun e => e.1 != k)

/-- Write `v` at `k` in canonical form: a value equal to what an unlisted number reads as is not listed. -/
def mset {α : Type} [DecidableEq α] (d : α) (m : SMap α) (k : Nat) (v : α) : SMap α :=
  if v = d then mdel m k else mput m k v

/-- Change the entry at `k`. -/
def mmod {α : Type} (d : α) (m : SMap α) (k : Nat) (f : α → α) : SMap α := mput m k (f (mget d m k))

/-- Numbers strictly rising. -/
def risingFrom : Nat → List (Nat × α) → Bool
  | _, [] => true
  | n, (j, _) :: r => decide (n ≤ j) && risingFrom (j + 1) r

/-- Canonical form of a sparse table: strictly rising numbers, no entry equal to the unlisted value. -/
def mwf {α : Type} [DecidableEq α] (d : α) (m : SMap α) : Bool :=
  risingFrom 0 m && m.all (fun e => decide (e.2 ≠ d))

/-- The numbers `0 … n-1`. -/
def upto (n : Nat) : List Nat := List.range n

/-- Replace element `i` of a list (no effect beyond its end). -/
def lset {α : Type} (l : List α) (i : Nat) (v : α) : List α := l.set i v

/-- The last `n` elements of a list. -/
def lastN {α : Type} (n : Nat) (l : List α) : List α := l.drop (l.length - n)

/-- Bits `lo+len-1 … lo` of a number. -/
def bits (v lo len : Nat) : Nat := (v >>> lo) % 2 ^ len

/-- Bit `i` of a number. -/
def bitOf (v i : Nat) : Bool := (v >>> i) % 2 == 1

/-- Replace bits `lo+len-1 … lo` of `v` by the low bits of `x`. -/
def putBits (v lo len x : Nat) : Nat :=
  v - (bits v lo len) * 2 ^ lo + (x % 2 ^ len) * 2 ^ lo

/-- A truth value as a bit. -/
def b2n (b : Bool) : Nat := if b then 1 else 0

/-- Two's complement reading of the low `w` bits. -/
def sext (w v : Nat) : Int :=
  if v % 2 ^ w < 2 ^ (w - 1) then Int.ofNat (v % 2 ^ w) else Int.ofNat (v % 2 ^ w) - Int.ofNat (2 ^ w)

/-- Two's complement form in `w` bits. -/
def toU (w : Nat) (v : Int) : Nat := (v % Int.ofNat (2 ^ w)).toNat

/-- Little-endian number of a byte string. -/
def leNat : List Byte → Nat
  | [] => 0
  | b :: r => b.toNat + 256 * leNat r

/-- Little-endian bytes of a number. -/
def toLE : Nat → Nat → List Byte
  | 0, _ => []
  | n + 1, v => BitVec.ofNat 8 v :: toLE n (v / 256)

/-- Big-endian bytes of a number. -/
def toBE (n v : Nat) : List Byte := (toLE n v).reverse

/-- Big-endian number of a byte string. -/
def beNat (l : List Byte) : Nat := leNat l.reverse

/-- `n` bytes from offset `o`. -/
def slice (l : List Byte) (o n : Nat) : List Byte := (l.drop o).take n

/-- Little-endian field of `n` bytes at offset `o` (bytes beyond the end count as zero). -/
def fld (l : List Byte) (o n : Nat) : Nat := leNat (slice l o n)

/-- Signed little-endian field. -/
def sfld (l : List Byte) (o n : Nat) : Int := sext (8 * n) (fld l o n)

/-- Pad with zero bytes to `n`. -/
def padTo (n : Nat) (l : List Byte) : List Byte := l ++ List.replicate (n - l.length) 0

/-- Are these bytes all zero? -/
def allZero (l : List Byte) : Bool := l.all (fun b => b == 0)

/-- Cut a byte string into pieces of `n` bytes (`n` above 0), at most `k` pieces. -/
def chunks (n : Nat) : Nat → List Byte → List (List Byte)
  | 0, _ => []
  | k + 1, l => if l.isEmpty then [] else l.take n :: chunks n k (l.drop n)

/-- Position of the first element that satisfies `p`. -/
def findPos {α : Type} (p : α → Bool) : List α → Option Nat
  | [] => none
  | a :: r => if p a then some 0 else (findPos p r).map (· + 1)

/-- Stable insertion sort by a key. -/
def insertBy {α : Type} (key : α → Nat) (a : α) : List α → List α
  | [] => [a]
  | b :: r => if key a < key b then a :: b :: r else b :: insertBy key a r

/-- Stable sort by a key. -/
def sortBy {α : Type} (key : α → Nat) (l : List α) : List α := l.foldl (fun acc a => insertBy key a acc) []

end Sys2Proof.Machine
end

