-- ==== Sys2Proof/Machine/RegMap.lean ====
section
/-! DEFINITION. Every register of the register region and every field, as the register tables of spec/ give them
(R6, R40, R50, R72, R110, R134, R149, R180, R205, R224, R242, R259, R291, R292, R383, R402, R431, R432, R457, R468,
R489, R490, R509, R535, R548, R554), at the bases of R551 and the strides of R555. -/
namespace Sys2Proof.Machine

/-- A register family: absolute address of instance (0, 0), instances and strides of two indices, reset value. -/
structure Reg where
  base : Nat
  n1 : Nat
  s1 : Nat
  n2 : Nat
  s2 : Nat
  reset : Nat
  deriving DecidableEq, Repr

/-- A field of a register family: lowest bit and width. -/
structure Fld where
  reg : Reg
  lo : Nat
  len : Nat
  deriving DecidableEq, Repr

/-- A row of the access tables: which bits of the register have which access code of R9. -/
structure RegRow where
  reg : Reg
  rw : Nat
  ro : Nat
  w1c : Nat
  w1s : Nat
  wo : Nat
  rc : Nat
  rwc : Nat
  deriving DecidableEq, Repr

namespace R

/-- SYS.PART_ID (R6): Part number and family. -/
def SYS_PART_ID : Reg := ⟨0x0, 1, 0x0, 1, 0x0, 0x95125600⟩
/-- SYS.REV (R6): Silicon revision. -/
def SYS_REV : Reg := ⟨0x4, 1, 0x0, 1, 0x0, 0x4230⟩
/-- SYS.LIMITS (R6): Variant limits. -/
def SYS_LIMITS : Reg := ⟨0x8, 1, 0x0, 1, 0x0, 0x8020200⟩
/-- TIME.TICK_LO (R40): Render tick number, low word. -/
def TIME_TICK_LO : Reg := ⟨0x380800, 1, 0x0, 1, 0x0, 0x0⟩
/-- TIME.TICK_HI (R40): Render tick number, high word. -/
def TIME_TICK_HI : Reg := ⟨0x380804, 1, 0x0, 1, 0x0, 0x0⟩
/-- TIME.GRID_STAT (R40): Grid state. -/
def TIME_GRID_STAT : Reg := ⟨0x380808, 1, 0x0, 1, 0x0, 0x0⟩
/-- TIME.GRID_ERR (R40): Grid error at the last token. -/
def TIME_GRID_ERR : Reg := ⟨0x38080C, 1, 0x0, 1, 0x0, 0x0⟩
/-- TIME.GRID_CTRL (R40): Slew and step limits. -/
def TIME_GRID_CTRL : Reg := ⟨0x380810, 1, 0x0, 1, 0x0, 0x3E80⟩
/-- TIME.GRID_EVT (R40): Grid events. -/
def TIME_GRID_EVT : Reg := ⟨0x380814, 1, 0x0, 1, 0x0, 0x0⟩
/-- TIME.LAT_COMMIT (R40): Applies staged latency-monitor fields. -/
def TIME_LAT_COMMIT : Reg := ⟨0x380818, 1, 0x0, 1, 0x0, 0x0⟩
/-- TIME.LAT[m].SRC (R50): Source selector. -/
def TIME_LAT_SRC : Reg := ⟨0x380900, 4, 0x40, 1, 0x0, 0x0⟩
/-- TIME.LAT[m].VIA (R50): Object or direct channel, and feed. -/
def TIME_LAT_VIA : Reg := ⟨0x380904, 4, 0x40, 1, 0x0, 0x0⟩
/-- TIME.LAT[m].SINK (R50): Sink identifier and enable. -/
def TIME_LAT_SINK : Reg := ⟨0x380908, 4, 0x40, 1, 0x0, 0x0⟩
/-- TIME.LAT[m].FLOOR (R50): Floor, ns. -/
def TIME_LAT_FLOOR : Reg := ⟨0x380910, 4, 0x40, 1, 0x0, 0x0⟩
/-- TIME.LAT[m].PASS (R50): Pass-through, ns. -/
def TIME_LAT_PASS : Reg := ⟨0x380914, 4, 0x40, 1, 0x0, 0x0⟩
/-- TIME.LAT[m].PROG (R50): Programmed delay excluded, ns. -/
def TIME_LAT_PROG : Reg := ⟨0x380918, 4, 0x40, 1, 0x0, 0x0⟩
/-- TIME.LAT[m].RATIO (R50): PASS / FLOOR. -/
def TIME_LAT_RATIO : Reg := ⟨0x38091C, 4, 0x40, 1, 0x0, 0x0⟩
/-- TIME.LAT[m].STAT (R50): Validity and flags. -/
def TIME_LAT_STAT : Reg := ⟨0x380920, 4, 0x40, 1, 0x0, 0x0⟩
/-- RENDER.COMMIT (R72): Applies staged input selectors and generator fields. -/
def RENDER_COMMIT : Reg := ⟨0x800000, 1, 0x0, 1, 0x0, 0x0⟩
/-- RENDER.FE_EVT (R72): Front-end events. -/
def RENDER_FE_EVT : Reg := ⟨0x800004, 1, 0x0, 1, 0x0, 0x0⟩
/-- RENDER.FE_EVT_EN (R72): Enables each FE_EVT bit to raise its event. -/
def RENDER_FE_EVT_EN : Reg := ⟨0x800008, 1, 0x0, 1, 0x0, 0x0⟩
/-- RENDER.INSEL[i] (R72): Selector and bypass; i = 0–639. -/
def RENDER_INSEL : Reg := ⟨0x801000, 640, 0x4, 1, 0x0, 0x0⟩
/-- RENDER.INSTAT[i] (R72): Input status. -/
def RENDER_INSTAT : Reg := ⟨0x802000, 640, 0x4, 1, 0x0, 0x0⟩
/-- RENDER.IN_RATIO[i] (R72): Measured rate offset. -/
def RENDER_IN_RATIO : Reg := ⟨0x803000, 640, 0x4, 1, 0x0, 0x0⟩
/-- RENDER.GEN[g].CTRL (R72): Type and MLS order; g = 0–15. -/
def RENDER_GEN_CTRL : Reg := ⟨0x804000, 16, 0x20, 1, 0x0, 0xA00⟩
/-- RENDER.GEN[g].FREQ (R72): Sine phase increment. -/
def RENDER_GEN_FREQ : Reg := ⟨0x804004, 16, 0x20, 1, 0x0, 0x0⟩
/-- RENDER.GEN[g].LEVEL (R72): Peak level. -/
def RENDER_GEN_LEVEL : Reg := ⟨0x804008, 16, 0x20, 1, 0x0, 0x0⟩
/-- RENDER.GEN[g].SEED (R72): Noise and MLS seed. -/
def RENDER_GEN_SEED : Reg := ⟨0x80400C, 16, 0x20, 1, 0x0, 0x1⟩
/-- RENDER.PLAY[p].CTRL (R72): Enable; p = 0–63. -/
def RENDER_PLAY_CTRL : Reg := ⟨0x804400, 64, 0x20, 1, 0x0, 0x0⟩
/-- RENDER.PLAY[p].BASE_LO (R72): Ring base [31:0]. -/
def RENDER_PLAY_BASE_LO : Reg := ⟨0x804404, 64, 0x20, 1, 0x0, 0x0⟩
/-- RENDER.PLAY[p].BASE_HI (R72): Ring base [39:32]. -/
def RENDER_PLAY_BASE_HI : Reg := ⟨0x804408, 64, 0x20, 1, 0x0, 0x0⟩
/-- RENDER.PLAY[p].SIZE (R72): Ring size, bytes. -/
def RENDER_PLAY_SIZE : Reg := ⟨0x80440C, 64, 0x20, 1, 0x0, 0x400⟩
/-- RENDER.PLAY[p].WR (R72): Host write offset. -/
def RENDER_PLAY_WR : Reg := ⟨0x804410, 64, 0x20, 1, 0x0, 0x0⟩
/-- RENDER.PLAY[p].RD (R72): Part read offset. -/
def RENDER_PLAY_RD : Reg := ⟨0x804414, 64, 0x20, 1, 0x0, 0x0⟩
/-- RENDER.PLAY[p].UNDERRUN (R72): PLAY_UNDERRUN count. -/
def RENDER_PLAY_UNDERRUN : Reg := ⟨0x804418, 64, 0x20, 1, 0x0, 0x0⟩
/-- RENDER.CLIP[i] (R72): OBJ_CLIP count. -/
def RENDER_CLIP : Reg := ⟨0x805000, 640, 0x4, 1, 0x0, 0x0⟩
/-- RENDER.GEO_STAT (R110): Engine status. -/
def RENDER_GEO_STAT : Reg := ⟨0x808000, 1, 0x0, 1, 0x0, 0x0⟩
/-- RENDER.GEO_ACTIVE (R110): Occupied path slots. -/
def RENDER_GEO_ACTIVE : Reg := ⟨0x808004, 1, 0x0, 1, 0x0, 0x0⟩
/-- RENDER.GEO_BUDGET (R110): Budget in force. -/
def RENDER_GEO_BUDGET : Reg := ⟨0x808008, 1, 0x0, 1, 0x0, 0x20000⟩
/-- RENDER.GEO_EVT (R110): Geometry events. -/
def RENDER_GEO_EVT : Reg := ⟨0x80800C, 1, 0x0, 1, 0x0, 0x0⟩
/-- RENDER.GEO_EVT_EN (R110): Enables each GEO_EVT bit to raise its event. -/
def RENDER_GEO_EVT_EN : Reg := ⟨0x808010, 1, 0x0, 1, 0x0, 0x0⟩
/-- RENDER.GEO_C (R110): Effective speed of sound. -/
def RENDER_GEO_C : Reg := ⟨0x808014, 1, 0x0, 1, 0x0, 0x1570000⟩
/-- RENDER.GEO_ALPHA (R110): Air coefficient α. -/
def RENDER_GEO_ALPHA : Reg := ⟨0x808018, 1, 0x0, 1, 0x0, 0x0⟩
/-- RENDER.GEO_TABLE (R110): Live speaker table. -/
def RENDER_GEO_TABLE : Reg := ⟨0x80801C, 1, 0x0, 1, 0x0, 0x0⟩
/-- RENDER.DOPPLER_CLAMP (R110): Count under R96. -/
def RENDER_DOPPLER_CLAMP : Reg := ⟨0x808020, 1, 0x0, 1, 0x0, 0x0⟩
/-- RENDER.DELAY_CLAMP (R110): Count under R95. -/
def RENDER_DELAY_CLAMP : Reg := ⟨0x808024, 1, 0x0, 1, 0x0, 0x0⟩
/-- RENDER.PATH_DENIED (R110): Count under R106. -/
def RENDER_PATH_DENIED : Reg := ⟨0x808028, 1, 0x0, 1, 0x0, 0x0⟩
/-- RENDER.KEY_LATE (R110): Count under R92. -/
def RENDER_KEY_LATE : Reg := ⟨0x80802C, 1, 0x0, 1, 0x0, 0x0⟩
/-- RENDER.KEY_STALE (R110): Count under R92. -/
def RENDER_KEY_STALE : Reg := ⟨0x808030, 1, 0x0, 1, 0x0, 0x0⟩
/-- RENDER.GEO_LATE (R110): Count under R109. -/
def RENDER_GEO_LATE : Reg := ⟨0x808034, 1, 0x0, 1, 0x0, 0x0⟩
/-- RENDER.GEO_DIAG_OBJ (R110): Object selected for position readback. -/
def RENDER_GEO_DIAG_OBJ : Reg := ⟨0x808040, 1, 0x0, 1, 0x0, 0x0⟩
/-- RENDER.GEO_POS_X (R110): Position X at the last evaluated instant. -/
def RENDER_GEO_POS_X : Reg := ⟨0x808044, 1, 0x0, 1, 0x0, 0x0⟩
/-- RENDER.GEO_POS_Y (R110): Position Y. -/
def RENDER_GEO_POS_Y : Reg := ⟨0x808048, 1, 0x0, 1, 0x0, 0x0⟩
/-- RENDER.GEO_POS_Z (R110): Position Z. -/
def RENDER_GEO_POS_Z : Reg := ⟨0x80804C, 1, 0x0, 1, 0x0, 0x0⟩
/-- RENDER.GEO_OBJSTAT[o] (R110): Object status; o = 0–511. -/
def RENDER_GEO_OBJSTAT : Reg := ⟨0x809000, 512, 0x4, 1, 0x0, 0x0⟩
/-- RENDER.BULK_BASE_LO (R134): Bulk-delay region base, low. -/
def RENDER_BULK_BASE_LO : Reg := ⟨0x80A000, 1, 0x0, 1, 0x0, 0x0⟩
/-- RENDER.BULK_BASE_HI (R134): Bulk-delay region base, high, and enable. -/
def RENDER_BULK_BASE_HI : Reg := ⟨0x80A004, 1, 0x0, 1, 0x0, 0x0⟩
/-- RENDER.PR_STAT (R134): Kernel and bulk status. -/
def RENDER_PR_STAT : Reg := ⟨0x80A008, 1, 0x0, 1, 0x0, 0x0⟩
/-- RENDER.PR_EVT (R134): Path-rendering events. -/
def RENDER_PR_EVT : Reg := ⟨0x80A00C, 1, 0x0, 1, 0x0, 0x0⟩
/-- RENDER.PR_EVT_EN (R134): Enables each PR_EVT bit to raise its event. -/
def RENDER_PR_EVT_EN : Reg := ⟨0x80A010, 1, 0x0, 1, 0x0, 0x0⟩
/-- RENDER.STEP_LIMIT (R134): Count under R120. -/
def RENDER_STEP_LIMIT : Reg := ⟨0x80A014, 1, 0x0, 1, 0x0, 0x0⟩
/-- RENDER.BULK_STARVE (R134): Count under R118. -/
def RENDER_BULK_STARVE : Reg := ⟨0x80A018, 1, 0x0, 1, 0x0, 0x0⟩
/-- RENDER.SWARD_PERR (R134): Count under R115. -/
def RENDER_SWARD_PERR : Reg := ⟨0x80A01C, 1, 0x0, 1, 0x0, 0x0⟩
/-- RENDER.SWARD_DIAG_ADDR (R134): Sward word selected for readback. -/
def RENDER_SWARD_DIAG_ADDR : Reg := ⟨0x80A020, 1, 0x0, 1, 0x0, 0x0⟩
/-- RENDER.SWARD_DIAG_DATA (R134): Selected Sward word. -/
def RENDER_SWARD_DIAG_DATA : Reg := ⟨0x80A024, 1, 0x0, 1, 0x0, 0x0⟩
/-- RENDER.SWARD_FILL (R134): Fill mark of the selected object. -/
def RENDER_SWARD_FILL : Reg := ⟨0x80A028, 1, 0x0, 1, 0x0, 0x0⟩
/-- RENDER.PE_OCC[p] (R134): Occupied slots of engine p; p = 0–63. -/
def RENDER_PE_OCC : Reg := ⟨0x80A100, 64, 0x4, 1, 0x0, 0x0⟩
/-- RENDER.BULK_STAT[o] (R134): Bulk state of object o; o = 0–511. -/
def RENDER_BULK_STAT : Reg := ⟨0x80A200, 512, 0x4, 1, 0x0, 0x0⟩
/-- RENDER.HP_STAT (R149): Host-path slots and objects. -/
def RENDER_HP_STAT : Reg := ⟨0x80B000, 1, 0x0, 1, 0x0, 0x0⟩
/-- RENDER.HP_EVT (R149): Host-path events. -/
def RENDER_HP_EVT : Reg := ⟨0x80B004, 1, 0x0, 1, 0x0, 0x0⟩
/-- RENDER.HP_EVT_EN (R149): Enables each HP_EVT bit to raise its event. -/
def RENDER_HP_EVT_EN : Reg := ⟨0x80B008, 1, 0x0, 1, 0x0, 0x0⟩
/-- RENDER.HP_LATE (R149): Count under R142. -/
def RENDER_HP_LATE : Reg := ⟨0x80B00C, 1, 0x0, 1, 0x0, 0x0⟩
/-- RENDER.HP_STALE (R149): Count under R142. -/
def RENDER_HP_STALE : Reg := ⟨0x80B010, 1, 0x0, 1, 0x0, 0x0⟩
/-- RENDER.HP_HOLD (R149): Count under R145. -/
def RENDER_HP_HOLD : Reg := ⟨0x80B014, 1, 0x0, 1, 0x0, 0x0⟩
/-- RENDER.HP_TIMEOUT (R149): Count under R146. -/
def RENDER_HP_TIMEOUT : Reg := ⟨0x80B018, 1, 0x0, 1, 0x0, 0x0⟩
/-- RENDER.HP_POOL (R149): Free pool entries. -/
def RENDER_HP_POOL : Reg := ⟨0x80B01C, 1, 0x0, 1, 0x0, 0x40000⟩
/-- RENDER.HP_COMMIT (R149): Applies staged HP_CFG fields. -/
def RENDER_HP_COMMIT : Reg := ⟨0x80B020, 1, 0x0, 1, 0x0, 0x0⟩
/-- RENDER.HP_CFG[o] (R149): Mode and HOLDMAX; o = 0–511. -/
def RENDER_HP_CFG : Reg := ⟨0x80B800, 512, 0x4, 1, 0x0, 0x78⟩
/-- RENDER.HP_OBJSTAT[o] (R149): Per-object host-path status. -/
def RENDER_HP_OBJSTAT : Reg := ⟨0x80C000, 512, 0x4, 1, 0x0, 0x0⟩
/-- FEED.CORR_BASE_LO (R180): Correction region base, low. -/
def FEED_CORR_BASE_LO : Reg := ⟨0x900000, 1, 0x0, 1, 0x0, 0x0⟩
/-- FEED.CORR_BASE_HI (R180): Correction region base, high, and enable. -/
def FEED_CORR_BASE_HI : Reg := ⟨0x900004, 1, 0x0, 1, 0x0, 0x0⟩
/-- FEED.CORR_STAT (R180): Pool use and queue depth. -/
def FEED_CORR_STAT : Reg := ⟨0x900008, 1, 0x0, 1, 0x0, 0x0⟩
/-- FEED.CORR_EVT (R180): Correction events. -/
def FEED_CORR_EVT : Reg := ⟨0x90000C, 1, 0x0, 1, 0x0, 0x0⟩
/-- FEED.CORR_EVT_EN (R180): Enables each CORR_EVT bit to raise its event. -/
def FEED_CORR_EVT_EN : Reg := ⟨0x900010, 1, 0x0, 1, 0x0, 0x0⟩
/-- FEED.TAIL_MISS (R180): Count under R171. -/
def FEED_TAIL_MISS : Reg := ⟨0x900014, 1, 0x0, 1, 0x0, 0x0⟩
/-- FEED.CORR_ECC (R180): Count under R172. -/
def FEED_CORR_ECC : Reg := ⟨0x900018, 1, 0x0, 1, 0x0, 0x0⟩
/-- FEED.CORR_PERR (R180): Count under R172. -/
def FEED_CORR_PERR : Reg := ⟨0x90001C, 1, 0x0, 1, 0x0, 0x0⟩
/-- FEED.XF_QUEUED (R180): Count under R167. -/
def FEED_XF_QUEUED : Reg := ⟨0x900020, 1, 0x0, 1, 0x0, 0x0⟩
/-- FEED.XF_REPLACED (R180): Count under R166. -/
def FEED_XF_REPLACED : Reg := ⟨0x900024, 1, 0x0, 1, 0x0, 0x0⟩
/-- FEED.XF_NOCHANGE (R180): Count under R167 and R168. -/
def FEED_XF_NOCHANGE : Reg := ⟨0x900028, 1, 0x0, 1, 0x0, 0x0⟩
/-- FEED.XF_DEFER (R180): Count under R173. -/
def FEED_XF_DEFER : Reg := ⟨0x90002C, 1, 0x0, 1, 0x0, 0x0⟩
/-- FEED.TRIM_STARVE (R180): Count under R179. -/
def FEED_TRIM_STARVE : Reg := ⟨0x900030, 1, 0x0, 1, 0x0, 0x0⟩
/-- FEED.BQ_CLAMP (R180): Count under R176. -/
def FEED_BQ_CLAMP : Reg := ⟨0x900034, 1, 0x0, 1, 0x0, 0x0⟩
/-- FEED.ID_SEL (R180): Feed and slot whose bank identifier is reported. -/
def FEED_ID_SEL : Reg := ⟨0x900038, 1, 0x0, 1, 0x0, 0x0⟩
/-- FEED.ID_LO (R180): Bank identifier, low word. -/
def FEED_ID_LO : Reg := ⟨0x90003C, 1, 0x0, 1, 0x0, 0x0⟩
/-- FEED.ID_HI (R180): Bank identifier, high word. -/
def FEED_ID_HI : Reg := ⟨0x900040, 1, 0x0, 1, 0x0, 0x0⟩
/-- FEED.XFCFG[f] (R180): Cross-fade length and curve; f = 0–511. -/
def FEED_XFCFG : Reg := ⟨0x901000, 512, 0x4, 1, 0x0, 0xC⟩
/-- FEED.BANK_STAT[f] (R180): Bank slots, cross-fade and request state. -/
def FEED_BANK_STAT : Reg := ⟨0x902000, 512, 0x4, 1, 0x0, 0x4⟩
/-- FEED.XF_POS[f] (R180): Position in the running cross-fade. -/
def FEED_XF_POS : Reg := ⟨0x903000, 512, 0x4, 1, 0x0, 0x0⟩
/-- FEED.TRIM_STAT[f] (R180): Trim state. -/
def FEED_TRIM_STAT : Reg := ⟨0x904000, 512, 0x4, 1, 0x0, 0x0⟩
/-- FEED.OUT_COMMIT (R205): Applies staged output selectors. -/
def FEED_OUT_COMMIT : Reg := ⟨0x900100, 1, 0x0, 1, 0x0, 0x0⟩
/-- FEED.OUT_EVT (R205): Output events. -/
def FEED_OUT_EVT : Reg := ⟨0x900104, 1, 0x0, 1, 0x0, 0x0⟩
/-- FEED.OUT_EVT_EN (R205): Enables each OUT_EVT bit to raise its event. -/
def FEED_OUT_EVT_EN : Reg := ⟨0x900108, 1, 0x0, 1, 0x0, 0x0⟩
/-- FEED.WORD_CLAMP (R205): Count under R194. -/
def FEED_WORD_CLAMP : Reg := ⟨0x90010C, 1, 0x0, 1, 0x0, 0x0⟩
/-- FEED.CONV_SAT (R205): Count under R195. -/
def FEED_CONV_SAT : Reg := ⟨0x900110, 1, 0x0, 1, 0x0, 0x0⟩
/-- FEED.CONV_SAT_LAST (R205): Sink of the last CONV_SAT. -/
def FEED_CONV_SAT_LAST : Reg := ⟨0x900114, 1, 0x0, 1, 0x0, 0x0⟩
/-- FEED.ZC_TIMEOUT (R205): Count under R185. -/
def FEED_ZC_TIMEOUT : Reg := ⟨0x900118, 1, 0x0, 1, 0x0, 0x0⟩
/-- FEED.HWMUTE_CFG (R205): MUTE_N enable, latch and release time. -/
def FEED_HWMUTE_CFG : Reg := ⟨0x90011C, 1, 0x0, 1, 0x0, 0x2000A⟩
/-- FEED.HWMUTE_STAT (R205): Emergency mute state. -/
def FEED_HWMUTE_STAT : Reg := ⟨0x900120, 1, 0x0, 1, 0x0, 0x0⟩
/-- FEED.HWMUTE_CLR (R205): Releases a latched mute. -/
def FEED_HWMUTE_CLR : Reg := ⟨0x900124, 1, 0x0, 1, 0x0, 0x0⟩
/-- FEED.BE_STAT[f] (R205): Back-end state; f = 0–511. -/
def FEED_BE_STAT : Reg := ⟨0x905000, 512, 0x4, 1, 0x0, 0x2011⟩
/-- FEED.LIM_GR[f] (R205): Deepest limiter gain reduction. -/
def FEED_LIM_GR : Reg := ⟨0x905800, 512, 0x4, 1, 0x0, 0x0⟩
/-- FEED.SAT[f] (R205): Count under R194. -/
def FEED_SAT : Reg := ⟨0x906000, 512, 0x4, 1, 0x0, 0x0⟩
/-- FEED.OUTSEL[i] (R205): Sink selector; i = 0–2,623. -/
def FEED_OUTSEL : Reg := ⟨0x908000, 2624, 0x4, 1, 0x0, 0x0⟩
/-- FEED.CAP[c].CTRL (R205): Enable; c = 0–63. -/
def FEED_CAP_CTRL : Reg := ⟨0x90B000, 64, 0x40, 1, 0x0, 0x0⟩
/-- FEED.CAP[c].BASE_LO (R205): Ring base [31:0]. -/
def FEED_CAP_BASE_LO : Reg := ⟨0x90B004, 64, 0x40, 1, 0x0, 0x0⟩
/-- FEED.CAP[c].BASE_HI (R205): Ring base [39:32]. -/
def FEED_CAP_BASE_HI : Reg := ⟨0x90B008, 64, 0x40, 1, 0x0, 0x0⟩
/-- FEED.CAP[c].SIZE (R205): Ring size, bytes. -/
def FEED_CAP_SIZE : Reg := ⟨0x90B00C, 64, 0x40, 1, 0x0, 0x400⟩
/-- FEED.CAP[c].WR (R205): Part write offset. -/
def FEED_CAP_WR : Reg := ⟨0x90B010, 64, 0x40, 1, 0x0, 0x0⟩
/-- FEED.CAP[c].RD (R205): Host read offset. -/
def FEED_CAP_RD : Reg := ⟨0x90B014, 64, 0x40, 1, 0x0, 0x0⟩
/-- FEED.CAP[c].OVERRUN (R205): CAP_OVERRUN count. -/
def FEED_CAP_OVERRUN : Reg := ⟨0x90B018, 64, 0x40, 1, 0x0, 0x0⟩
/-- FEED.CAP[c].T0_LO (R205): Tick of the first word written, low. -/
def FEED_CAP_T0_LO : Reg := ⟨0x90B01C, 64, 0x40, 1, 0x0, 0x0⟩
/-- FEED.CAP[c].T0_HI (R205): Tick of the first word written, high. -/
def FEED_CAP_T0_HI : Reg := ⟨0x90B020, 64, 0x40, 1, 0x0, 0x0⟩
/-- FEED.SINK_STAT[i] (R205): Sink state. -/
def FEED_SINK_STAT : Reg := ⟨0x90C000, 2624, 0x4, 1, 0x0, 0x0⟩
/-- MEAS.COMMIT (R224): Applies staged channel fields. -/
def MEAS_COMMIT : Reg := ⟨0xA00000, 1, 0x0, 1, 0x0, 0x0⟩
/-- MEAS.EVT (R224): Measurement events. -/
def MEAS_EVT : Reg := ⟨0xA00004, 1, 0x0, 1, 0x0, 0x0⟩
/-- MEAS.EVT_EN (R224): Enables each EVT bit to raise its event. -/
def MEAS_EVT_EN : Reg := ⟨0xA00008, 1, 0x0, 1, 0x0, 0x0⟩
/-- MEAS.STREAM_OVERRUN (R224): Count under R222. -/
def MEAS_STREAM_OVERRUN : Reg := ⟨0xA0000C, 1, 0x0, 1, 0x0, 0x0⟩
/-- MEAS.ANA_RESTART (R224): Count under R220. -/
def MEAS_ANA_RESTART : Reg := ⟨0xA00010, 1, 0x0, 1, 0x0, 0x0⟩
/-- MEAS.CH[c].CFG (R224): Tap and decimation. -/
def MEAS_CH_CFG : Reg := ⟨0xA01000, 32, 0x80, 1, 0x0, 0x0⟩
/-- MEAS.CH[c].LVL_CFG (R224): Level period and rank filter. -/
def MEAS_CH_LVL_CFG : Reg := ⟨0xA01004, 32, 0x80, 1, 0x0, 0x118⟩
/-- MEAS.CH[c].ANA_CFG (R224): Analysis reference, alignment and mode. -/
def MEAS_CH_ANA_CFG : Reg := ⟨0xA01008, 32, 0x80, 1, 0x0, 0x0⟩
/-- MEAS.CH[c].ANA_N (R224): Average length and update rate. -/
def MEAS_CH_ANA_N : Reg := ⟨0xA0100C, 32, 0x80, 1, 0x0, 0x10010⟩
/-- MEAS.CH[c].RES_BASE_LO (R224): Result region base [31:0]. -/
def MEAS_CH_RES_BASE_LO : Reg := ⟨0xA01010, 32, 0x80, 1, 0x0, 0x0⟩
/-- MEAS.CH[c].RES_BASE_HI (R224): Result region base [39:32]. -/
def MEAS_CH_RES_BASE_HI : Reg := ⟨0xA01014, 32, 0x80, 1, 0x0, 0x0⟩
/-- MEAS.CH[c].STR_CTRL (R224): Stream enable. -/
def MEAS_CH_STR_CTRL : Reg := ⟨0xA01018, 32, 0x80, 1, 0x0, 0x0⟩
/-- MEAS.CH[c].STR_BASE_LO (R224): Stream ring base [31:0]. -/
def MEAS_CH_STR_BASE_LO : Reg := ⟨0xA0101C, 32, 0x80, 1, 0x0, 0x0⟩
/-- MEAS.CH[c].STR_BASE_HI (R224): Stream ring base [39:32]. -/
def MEAS_CH_STR_BASE_HI : Reg := ⟨0xA01020, 32, 0x80, 1, 0x0, 0x0⟩
/-- MEAS.CH[c].STR_SIZE (R224): Stream ring size, bytes. -/
def MEAS_CH_STR_SIZE : Reg := ⟨0xA01024, 32, 0x80, 1, 0x0, 0x1000⟩
/-- MEAS.CH[c].STR_WR (R224): Part write offset. -/
def MEAS_CH_STR_WR : Reg := ⟨0xA01028, 32, 0x80, 1, 0x0, 0x0⟩
/-- MEAS.CH[c].STR_RD (R224): Host read offset. -/
def MEAS_CH_STR_RD : Reg := ⟨0xA0102C, 32, 0x80, 1, 0x0, 0x0⟩
/-- MEAS.CH[c].STAT (R224): Channel state. -/
def MEAS_CH_STAT : Reg := ⟨0xA01030, 32, 0x80, 1, 0x0, 0x0⟩
/-- MEAS.CH[c].LVL (R224): Filtered levels. -/
def MEAS_CH_LVL : Reg := ⟨0xA01034, 32, 0x80, 1, 0x0, 0xB1E0B1E0⟩
/-- MEAS.CH[c].RES_SEQ (R224): Results written. -/
def MEAS_CH_RES_SEQ : Reg := ⟨0xA01038, 32, 0x80, 1, 0x0, 0x0⟩
/-- MEAS.CH[c].FRAMES (R224): Frames in the current average. -/
def MEAS_CH_FRAMES : Reg := ⟨0xA0103C, 32, 0x80, 1, 0x0, 0x0⟩
/-- MEAS.CH[c].FIRST_LO (R224): m0, low word. -/
def MEAS_CH_FIRST_LO : Reg := ⟨0xA01040, 32, 0x80, 1, 0x0, 0x0⟩
/-- MEAS.CH[c].FIRST_HI (R224): m0, high word. -/
def MEAS_CH_FIRST_HI : Reg := ⟨0xA01044, 32, 0x80, 1, 0x0, 0x0⟩
/-- FAB.STAT (R242): Fabric state. -/
def FAB_STAT : Reg := ⟨0x700000, 1, 0x0, 1, 0x0, 0x0⟩
/-- FAB.EVT (R242): Fabric events. -/
def FAB_EVT : Reg := ⟨0x700004, 1, 0x0, 1, 0x0, 0x0⟩
/-- FAB.EVT_EN (R242): Enables each EVT bit to raise its event. -/
def FAB_EVT_EN : Reg := ⟨0x700008, 1, 0x0, 1, 0x0, 0x0⟩
/-- FAB.GATE_CFG (R242): Gating enables and delay. -/
def FAB_GATE_CFG : Reg := ⟨0x70000C, 1, 0x0, 1, 0x0, 0x30258⟩
/-- FAB.TICK_SLACK (R242): Slack of the last tick. -/
def FAB_TICK_SLACK : Reg := ⟨0x700010, 1, 0x0, 1, 0x0, 0x7FFF⟩
/-- FAB.SLACK_MIN (R242): Lowest tick slack since MIN_CLR. -/
def FAB_SLACK_MIN : Reg := ⟨0x700014, 1, 0x0, 1, 0x0, 0x7FFF⟩
/-- FAB.MIN_CLR (R242): Restarts every minimum. -/
def FAB_MIN_CLR : Reg := ⟨0x700018, 1, 0x0, 1, 0x0, 0x0⟩
/-- FAB.LATE_TICKS (R242): Count under R232. -/
def FAB_LATE_TICKS : Reg := ⟨0x70001C, 1, 0x0, 1, 0x0, 0x0⟩
/-- FAB.MISS_TICKS (R242): Count under R235. -/
def FAB_MISS_TICKS : Reg := ⟨0x700020, 1, 0x0, 1, 0x0, 0x0⟩
/-- FAB.MISS_TICK_LO (R242): Last TICK_MISS tick, low word. -/
def FAB_MISS_TICK_LO : Reg := ⟨0x700024, 1, 0x0, 1, 0x0, 0x0⟩
/-- FAB.MISS_TICK_HI (R242): Last TICK_MISS tick, high word. -/
def FAB_MISS_TICK_HI : Reg := ⟨0x700028, 1, 0x0, 1, 0x0, 0x0⟩
/-- FAB.HANG_ENG (R242): First engine isolated under R236 since reset. -/
def FAB_HANG_ENG : Reg := ⟨0x70002C, 1, 0x0, 1, 0x0, 0x0⟩
/-- FAB.GATE_STAT (R242): Gated groups. -/
def FAB_GATE_STAT : Reg := ⟨0x700030, 1, 0x0, 1, 0x0, 0xFFFFF⟩
/-- FAB.WAKE_STAT (R242): Waking groups. -/
def FAB_WAKE_STAT : Reg := ⟨0x700034, 1, 0x0, 1, 0x0, 0x0⟩
/-- FAB.WAKE_DEFER (R242): Count under R240. -/
def FAB_WAKE_DEFER : Reg := ⟨0x700038, 1, 0x0, 1, 0x0, 0x0⟩
/-- FAB.SLACK_HIST[k] (R242): Histogram bin; k = 0–15. -/
def FAB_SLACK_HIST : Reg := ⟨0x700100, 16, 0x4, 1, 0x0, 0x0⟩
/-- FAB.ENG_SLACK[e] (R242): Last and lowest slack of engine e. -/
def FAB_ENG_SLACK : Reg := ⟨0x700200, 106, 0x4, 1, 0x0, 0x7FFF7FFF⟩
/-- FAB.ENG_LATE[e] (R242): Late completions of engine e. -/
def FAB_ENG_LATE : Reg := ⟨0x700400, 106, 0x4, 1, 0x0, 0x0⟩
/-- FAB.ENG_MISS[e] (R242): Misses of engine e. -/
def FAB_ENG_MISS : Reg := ⟨0x700600, 106, 0x4, 1, 0x0, 0x0⟩
/-- FAB.ENG_CYC[e] (R242): Completion stamp of engine e. -/
def FAB_ENG_CYC : Reg := ⟨0x700800, 106, 0x4, 1, 0x0, 0x0⟩
/-- FAB.IBEX_STAT (R259): Tier, phase, voltage. -/
def FAB_IBEX_STAT : Reg := ⟨0x701000, 1, 0x0, 1, 0x0, 0x0⟩
/-- FAB.IBEX_CFG (R259): Targets and hold. -/
def FAB_IBEX_CFG : Reg := ⟨0x701004, 1, 0x0, 1, 0x0, 0x8290CD⟩
/-- FAB.IBEX_EVT (R259): Ibex events. -/
def FAB_IBEX_EVT : Reg := ⟨0x701008, 1, 0x0, 1, 0x0, 0x0⟩
/-- FAB.IBEX_EVT_EN (R259): Enables each IBEX_EVT bit to raise its event. -/
def FAB_IBEX_EVT_EN : Reg := ⟨0x70100C, 1, 0x0, 1, 0x0, 0x0⟩
/-- FAB.IBEX_APPROVE (R259): Approvals under R254. -/
def FAB_IBEX_APPROVE : Reg := ⟨0x701010, 1, 0x0, 1, 0x0, 0x0⟩
/-- FAB.IBEX_REQ (R259): Pending tier request. -/
def FAB_IBEX_REQ : Reg := ⟨0x701014, 1, 0x0, 1, 0x0, 0x0⟩
/-- FAB.VFLOOR (R259): Floors. -/
def FAB_VFLOOR : Reg := ⟨0x701018, 1, 0x0, 1, 0x0, 0x0⟩
/-- FAB.PRED (R259): Predicted slacks. -/
def FAB_PRED : Reg := ⟨0x70101C, 1, 0x0, 1, 0x0, 0x0⟩
/-- FAB.AGE (R259): Ageing index. -/
def FAB_AGE : Reg := ⟨0x701020, 1, 0x0, 1, 0x0, 0x0⟩
/-- FAB.SUP_OPT (R259): Supply options of R249. -/
def FAB_SUP_OPT : Reg := ⟨0x701024, 1, 0x0, 1, 0x0, 0xA10⟩
/-- FAB.IBEX_UP (R259): Steps up. -/
def FAB_IBEX_UP : Reg := ⟨0x701028, 1, 0x0, 1, 0x0, 0x0⟩
/-- FAB.IBEX_DOWN (R259): Steps down. -/
def FAB_IBEX_DOWN : Reg := ⟨0x70102C, 1, 0x0, 1, 0x0, 0x0⟩
/-- FAB.EMERG (R259): Count under R255. -/
def FAB_EMERG : Reg := ⟨0x701030, 1, 0x0, 1, 0x0, 0x0⟩
/-- FAB.AVS_ERR (R259): Count under R248. -/
def FAB_AVS_ERR : Reg := ⟨0x701034, 1, 0x0, 1, 0x0, 0x0⟩
/-- FAB.TIER_CHG (R259): Tier changes. -/
def FAB_TIER_CHG : Reg := ⟨0x701038, 1, 0x0, 1, 0x0, 0x0⟩
/-- FAB.HERD_STAT (R259): Wake staging. -/
def FAB_HERD_STAT : Reg := ⟨0x70103C, 1, 0x0, 1, 0x0, 0x0⟩
/-- FAB.LOG_STAT (R259): Ageing log state. -/
def FAB_LOG_STAT : Reg := ⟨0x701040, 1, 0x0, 1, 0x0, 0x0⟩
/-- FAB.FAWN_RATE[s] (R259): Last rate of sensor s; s = 0–47. -/
def FAB_FAWN_RATE : Reg := ⟨0x701100, 48, 0x4, 1, 0x0, 0x0⟩
/-- FAB.FAWN_AGE[s] (R259): Index and health of sensor s. -/
def FAB_FAWN_AGE : Reg := ⟨0x701200, 48, 0x4, 1, 0x0, 0x0⟩
/-- SYS.PLACE_STAT (R291): Live and pending modes. -/
def SYS_PLACE_STAT : Reg := ⟨0x100, 1, 0x0, 1, 0x0, 0x0⟩
/-- SYS.PLACE_CHG (R291): Count under R290. -/
def SYS_PLACE_CHG : Reg := ⟨0x104, 1, 0x0, 1, 0x0, 0x0⟩
/-- SYS.PLACE_DISCARD (R291): Count under R270. -/
def SYS_PLACE_DISCARD : Reg := ⟨0x108, 1, 0x0, 1, 0x0, 0x0⟩
/-- CMD.STAT (R292): Transport and session state. -/
def CMD_STAT : Reg := ⟨0xC00000, 1, 0x0, 1, 0x0, 0x0⟩
/-- CMD.EVT (R292): Command events. -/
def CMD_EVT : Reg := ⟨0xC00004, 1, 0x0, 1, 0x0, 0x0⟩
/-- CMD.EVT_EN (R292): Enables each EVT bit to raise its event. -/
def CMD_EVT_EN : Reg := ⟨0xC00008, 1, 0x0, 1, 0x0, 0x0⟩
/-- CMD.RX_BAD (R292): Count under R262, R287. -/
def CMD_RX_BAD : Reg := ⟨0xC0000C, 1, 0x0, 1, 0x0, 0x0⟩
/-- CMD.CRC_ERR (R292): Count under R262. -/
def CMD_CRC_ERR : Reg := ⟨0xC00010, 1, 0x0, 1, 0x0, 0x0⟩
/-- CMD.RX_DUP (R292): Count under R275, R278. -/
def CMD_RX_DUP : Reg := ⟨0xC00014, 1, 0x0, 1, 0x0, 0x0⟩
/-- CMD.RX_DROP (R292): Count under R280. -/
def CMD_RX_DROP : Reg := ⟨0xC00018, 1, 0x0, 1, 0x0, 0x0⟩
/-- CMD.GAP_TIMEOUT (R292): Count under R277. -/
def CMD_GAP_TIMEOUT : Reg := ⟨0xC0001C, 1, 0x0, 1, 0x0, 0x0⟩
/-- CMD.UDP_FOREIGN (R292): Count under R288. -/
def CMD_UDP_FOREIGN : Reg := ⟨0xC00020, 1, 0x0, 1, 0x0, 0x0⟩
/-- CMD.UDP_CFG (R292): Port and enable. -/
def CMD_UDP_CFG : Reg := ⟨0xC00024, 1, 0x0, 1, 0x0, 0xB928⟩
/-- CMD.GAP_CFG (R292): Gap timeout. -/
def CMD_GAP_CFG : Reg := ⟨0xC00028, 1, 0x0, 1, 0x0, 0x64⟩
/-- CMD.SPI_CFG (R292): Mailbox enable and interrupt. -/
def CMD_SPI_CFG : Reg := ⟨0xC0002C, 1, 0x0, 1, 0x0, 0x1⟩
/-- CMD.UDP_ALLOW[n].ADDR (R292): Allowed IPv4 network; n = 0–3. -/
def CMD_UDP_ALLOW_ADDR : Reg := ⟨0xC00030, 4, 0x8, 1, 0x0, 0x0⟩
/-- CMD.UDP_ALLOW[n].MASK (R292): Prefix length and enable. -/
def CMD_UDP_ALLOW_MASK : Reg := ⟨0xC00034, 4, 0x8, 1, 0x0, 0x0⟩
/-- CMD.QP[q].CQ_BASE_LO (R292): CQ host address [31:0]. -/
def CMD_QP_CQ_BASE_LO : Reg := ⟨0xC00100, 2, 0x40, 1, 0x0, 0x0⟩
/-- CMD.QP[q].CQ_BASE_HI (R292): CQ host address [63:32]. -/
def CMD_QP_CQ_BASE_HI : Reg := ⟨0xC00104, 2, 0x40, 1, 0x0, 0x0⟩
/-- CMD.QP[q].RQ_BASE_LO (R292): RQ host address [31:0]. -/
def CMD_QP_RQ_BASE_LO : Reg := ⟨0xC00108, 2, 0x40, 1, 0x0, 0x0⟩
/-- CMD.QP[q].RQ_BASE_HI (R292): RQ host address [63:32]. -/
def CMD_QP_RQ_BASE_HI : Reg := ⟨0xC0010C, 2, 0x40, 1, 0x0, 0x0⟩
/-- CMD.QP[q].WB_LO (R292): Write-back address [31:0]. -/
def CMD_QP_WB_LO : Reg := ⟨0xC00110, 2, 0x40, 1, 0x0, 0x0⟩
/-- CMD.QP[q].WB_HI (R292): Write-back address [63:32]. -/
def CMD_QP_WB_HI : Reg := ⟨0xC00114, 2, 0x40, 1, 0x0, 0x0⟩
/-- CMD.QP[q].CTRL (R292): Enable, sizes, interrupt. -/
def CMD_QP_CTRL : Reg := ⟨0xC00118, 2, 0x40, 1, 0x0, 0x0⟩
/-- CMD.QP[q].CQ_TAIL (R292): CQ doorbell. -/
def CMD_QP_CQ_TAIL : Reg := ⟨0xC0011C, 2, 0x40, 1, 0x0, 0x0⟩
/-- CMD.QP[q].CQ_HEAD (R292): Next descriptor fetched. -/
def CMD_QP_CQ_HEAD : Reg := ⟨0xC00120, 2, 0x40, 1, 0x0, 0x0⟩
/-- CMD.QP[q].RQ_TAIL (R292): Next entry written. -/
def CMD_QP_RQ_TAIL : Reg := ⟨0xC00124, 2, 0x40, 1, 0x0, 0x0⟩
/-- CMD.QP[q].RQ_HEAD (R292): RQ doorbell. -/
def CMD_QP_RQ_HEAD : Reg := ⟨0xC00128, 2, 0x40, 1, 0x0, 0x0⟩
/-- CMD.SESS[s] (R292): Session state; s = 0–15. -/
def CMD_SESS : Reg := ⟨0xC00200, 16, 0x4, 1, 0x0, 0x0⟩
/-- CMD.FLOW[i] (R292): Ordered-flow table entry; i = 0–63. -/
def CMD_FLOW : Reg := ⟨0xC00300, 64, 0x4, 1, 0x0, 0x0⟩
/-- SCHED.STAT (R383): Cores in service, clock, ready threads. -/
def SCHED_STAT : Reg := ⟨0xB00000, 1, 0x0, 1, 0x0, 0x3F⟩
/-- SCHED.EVT (R383): Scheduler events. -/
def SCHED_EVT : Reg := ⟨0xB00004, 1, 0x0, 1, 0x0, 0x0⟩
/-- SCHED.EVT_EN (R383): Enables each EVT bit to raise its event. -/
def SCHED_EVT_EN : Reg := ⟨0xB00008, 1, 0x0, 1, 0x0, 0x0⟩
/-- SCHED.CFG (R383): Latency limit and watchdog. -/
def SCHED_CFG : Reg := ⟨0xB0000C, 1, 0x0, 1, 0x0, 0xFA00C8⟩
/-- SCHED.READY_MAP (R383): Levels with a ready thread. -/
def SCHED_READY_MAP : Reg := ⟨0xB00010, 1, 0x0, 1, 0x0, 0x0⟩
/-- SCHED.THREADS (R383): Free command threads and waiting commands. -/
def SCHED_THREADS : Reg := ⟨0xB00014, 1, 0x0, 1, 0x0, 0xE0⟩
/-- SCHED.PREEMPT (R383): Count under R373. -/
def SCHED_PREEMPT : Reg := ⟨0xB00018, 1, 0x0, 1, 0x0, 0x0⟩
/-- SCHED.LAT_HIGH (R383): Count under R381. -/
def SCHED_LAT_HIGH : Reg := ⟨0xB0001C, 1, 0x0, 1, 0x0, 0x0⟩
/-- SCHED.URG_DEMOTE (R383): Count under R376. -/
def SCHED_URG_DEMOTE : Reg := ⟨0xB00020, 1, 0x0, 1, 0x0, 0x0⟩
/-- SCHED.CORE[k] (R383): Thread on core k; k = 0–5. -/
def SCHED_CORE : Reg := ⟨0xB00040, 6, 0x4, 1, 0x0, 0x1000000⟩
/-- SCHED.GRP[g].WEIGHT (R383): Group weight. -/
def SCHED_GRP_WEIGHT : Reg := ⟨0xB00100, 8, 0x20, 1, 0x0, 0x0⟩
/-- SCHED.GRP[g].RESV (R383): Reserved threads. -/
def SCHED_GRP_RESV : Reg := ⟨0xB00104, 8, 0x20, 1, 0x0, 0x0⟩
/-- SCHED.GRP[g].STAT (R383): Ready, running and waiting work. -/
def SCHED_GRP_STAT : Reg := ⟨0xB00108, 8, 0x20, 1, 0x0, 0x0⟩
/-- SCHED.GRP[g].DISPATCH (R383): Dispatches of the group. -/
def SCHED_GRP_DISPATCH : Reg := ⟨0xB0010C, 8, 0x20, 1, 0x0, 0x0⟩
/-- SCHED.GRP[g].RUN_LO (R383): Core cycles used, low word. -/
def SCHED_GRP_RUN_LO : Reg := ⟨0xB00110, 8, 0x20, 1, 0x0, 0x0⟩
/-- SCHED.GRP[g].RUN_HI (R383): Core cycles used, high word. -/
def SCHED_GRP_RUN_HI : Reg := ⟨0xB00114, 8, 0x20, 1, 0x0, 0x0⟩
/-- SCHED.GRP[g].LAT_MAX (R383): Longest wait to start of processing. -/
def SCHED_GRP_LAT_MAX : Reg := ⟨0xB00118, 8, 0x20, 1, 0x0, 0x0⟩
/-- SCHED.THREAD[t] (R383): State of thread t; t = 0–255. -/
def SCHED_THREAD : Reg := ⟨0xB00400, 256, 0x4, 1, 0x0, 0x700000⟩
/-- ASP.CFG (R402): Format, direction, role, slots, rate. -/
def ASP_CFG : Reg := ⟨0x200000, 64, 0x1000, 1, 0x0, 0x41820⟩
/-- ASP.CTRL (R402): Enable, bit-clock watch, tristate. -/
def ASP_CTRL : Reg := ⟨0x200004, 64, 0x1000, 1, 0x0, 0x0⟩
/-- ASP.COMMIT (R402): Applies CFG. -/
def ASP_COMMIT : Reg := ⟨0x200008, 64, 0x1000, 1, 0x0, 0x0⟩
/-- ASP.MASK (R402): Staged slot mask. -/
def ASP_MASK : Reg := ⟨0x20000C, 64, 0x1000, 1, 0x0, 0x3⟩
/-- ASP.MASK_LIVE (R402): Slot mask in force. -/
def ASP_MASK_LIVE : Reg := ⟨0x200010, 64, 0x1000, 1, 0x0, 0x3⟩
/-- ASP.STAT (R402): Port state. -/
def ASP_STAT : Reg := ⟨0x200014, 64, 0x1000, 1, 0x0, 0x0⟩
/-- ASP.RATE (R402): Last frame-rate measurement, mHz. -/
def ASP_RATE : Reg := ⟨0x200018, 64, 0x1000, 1, 0x0, 0x0⟩
/-- ASP.STABLE (R402): Stable rate, mHz. -/
def ASP_STABLE : Reg := ⟨0x20001C, 64, 0x1000, 1, 0x0, 0x0⟩
/-- ASP.PHASE (R402): Frame start phase against the grid. -/
def ASP_PHASE : Reg := ⟨0x200020, 64, 0x1000, 1, 0x0, 0x0⟩
/-- ASP.EVT (R402): Port events. -/
def ASP_EVT : Reg := ⟨0x200024, 64, 0x1000, 1, 0x0, 0x0⟩
/-- ASP.EVT_EN (R402): Enables each EVT bit to raise its event. -/
def ASP_EVT_EN : Reg := ⟨0x200028, 64, 0x1000, 1, 0x0, 0x0⟩
/-- ASP.SLIP (R402): Count under R399. -/
def ASP_SLIP : Reg := ⟨0x20002C, 64, 0x1000, 1, 0x0, 0x0⟩
/-- ASP.GLITCH (R402): Count under R398. -/
def ASP_GLITCH : Reg := ⟨0x200030, 64, 0x1000, 1, 0x0, 0x0⟩
/-- ASP.LOSSES (R402): Count under R397. -/
def ASP_LOSSES : Reg := ⟨0x200034, 64, 0x1000, 1, 0x0, 0x0⟩
/-- ASP.CNT_CLR (R402): Clears the three counts. -/
def ASP_CNT_CLR : Reg := ⟨0x200038, 64, 0x1000, 1, 0x0, 0x0⟩
/-- ASP.TERM (R402): Port term of R46. -/
def ASP_TERM : Reg := ⟨0x20003C, 64, 0x1000, 1, 0x0, 0x0⟩
/-- ASP.LOAD (R402): Total channel weight. -/
def ASP_LOAD : Reg := ⟨0x240000, 1, 0x0, 1, 0x0, 0x0⟩
/-- ASP.BANK[b].CFG (R402): Bank reference; b = 0–7. -/
def ASP_BANK_CFG : Reg := ⟨0x240100, 8, 0x10, 1, 0x0, 0x4⟩
/-- ASP.BANK[b].STAT (R402): Bank reference state. -/
def ASP_BANK_STAT : Reg := ⟨0x240104, 8, 0x10, 1, 0x0, 0x0⟩
/-- NET.CFG (R431): Speed and port options. -/
def NET_CFG : Reg := ⟨0x300000, 2, 0x40000, 1, 0x0, 0x104⟩
/-- NET.STAT (R431): Link and port state. -/
def NET_STAT : Reg := ⟨0x300004, 2, 0x40000, 1, 0x0, 0x0⟩
/-- NET.EVT (R431): Port events. -/
def NET_EVT : Reg := ⟨0x300008, 2, 0x40000, 1, 0x0, 0x0⟩
/-- NET.EVT_EN (R431): Enables each EVT bit to raise its event. -/
def NET_EVT_EN : Reg := ⟨0x30000C, 2, 0x40000, 1, 0x0, 0x0⟩
/-- NET.PAUSE_CFG (R431): Pause watchdog. -/
def NET_PAUSE_CFG : Reg := ⟨0x300010, 2, 0x40000, 1, 0x0, 0x14⟩
/-- NET.DS_CFG (R431): Downshift threshold and hold. -/
def NET_DS_CFG : Reg := ⟨0x300014, 2, 0x40000, 1, 0x0, 0xA0064⟩
/-- NET.CT_CFG (R431): Cut-through threshold. -/
def NET_CT_CFG : Reg := ⟨0x300018, 2, 0x40000, 1, 0x0, 0x100⟩
/-- NET.CT_LIVE (R431): Threshold in force. -/
def NET_CT_LIVE : Reg := ⟨0x30001C, 2, 0x40000, 1, 0x0, 0x100⟩
/-- NET.MTU (R431): IP MTU for egress streams. -/
def NET_MTU : Reg := ⟨0x300020, 2, 0x40000, 1, 0x0, 0x5DC⟩
/-- NET.MEDIA_BUDGET (R431): Media launch budget. -/
def NET_MEDIA_BUDGET : Reg := ⟨0x300024, 2, 0x40000, 1, 0x0, 0x19⟩
/-- NET.MDIO_CFG (R431): MDC divider. -/
def NET_MDIO_CFG : Reg := ⟨0x300028, 2, 0x40000, 1, 0x0, 0x13⟩
/-- NET.CNT_CLR (R431): Clears every counter. -/
def NET_CNT_CLR : Reg := ⟨0x30002C, 2, 0x40000, 1, 0x0, 0x0⟩
/-- NET.RX_FRAMES (R431): Counters, in this order, 4 bytes apart. -/
def NET_RX_FRAMES : Reg := ⟨0x300100, 2, 0x40000, 1, 0x0, 0x0⟩
/-- NET.TX_FRAMES (R431): Counters, in this order, 4 bytes apart. -/
def NET_TX_FRAMES : Reg := ⟨0x300104, 2, 0x40000, 1, 0x0, 0x0⟩
/-- NET.RX_NOBUF_DROP (R431): Counters, in this order, 4 bytes apart. -/
def NET_RX_NOBUF_DROP : Reg := ⟨0x300108, 2, 0x40000, 1, 0x0, 0x0⟩
/-- NET.RX_OVERFLOW (R431): Counters, in this order, 4 bytes apart. -/
def NET_RX_OVERFLOW : Reg := ⟨0x30010C, 2, 0x40000, 1, 0x0, 0x0⟩
/-- NET.RUNT (R431): Counters, in this order, 4 bytes apart. -/
def NET_RUNT : Reg := ⟨0x300110, 2, 0x40000, 1, 0x0, 0x0⟩
/-- NET.FCS_ERR (R431): Counters, in this order, 4 bytes apart. -/
def NET_FCS_ERR : Reg := ⟨0x300114, 2, 0x40000, 1, 0x0, 0x0⟩
/-- NET.OVERSIZE (R431): Counters, in this order, 4 bytes apart. -/
def NET_OVERSIZE : Reg := ⟨0x300118, 2, 0x40000, 1, 0x0, 0x0⟩
/-- NET.PAUSE_WD (R431): Counters, in this order, 4 bytes apart. -/
def NET_PAUSE_WD : Reg := ⟨0x30011C, 2, 0x40000, 1, 0x0, 0x0⟩
/-- NET.MEDIA_LATE_DROP (R431): Counters, in this order, 4 bytes apart. -/
def NET_MEDIA_LATE_DROP : Reg := ⟨0x300120, 2, 0x40000, 1, 0x0, 0x0⟩
/-- NET.TX_UNDERRUN (R431): Counters, in this order, 4 bytes apart. -/
def NET_TX_UNDERRUN : Reg := ⟨0x300124, 2, 0x40000, 1, 0x0, 0x0⟩
/-- NET.PAUSE_RCVD (R431): Counters, in this order, 4 bytes apart. -/
def NET_PAUSE_RCVD : Reg := ⟨0x300128, 2, 0x40000, 1, 0x0, 0x0⟩
/-- NET.RX_NOMATCH (R431): Counters, in this order, 4 bytes apart. -/
def NET_RX_NOMATCH : Reg := ⟨0x30012C, 2, 0x40000, 1, 0x0, 0x0⟩
/-- NET.TX_DOWN_DROP (R431): Counters, in this order, 4 bytes apart. -/
def NET_TX_DOWN_DROP : Reg := ⟨0x300130, 2, 0x40000, 1, 0x0, 0x0⟩
/-- NET.CLASS[k] (R431): Classifier entry; k = 0–15. -/
def NET_CLASS : Reg := ⟨0x300800, 2, 0x40000, 16, 0x4, 0x0⟩
/-- NET.RX[r].BASE_LO (R431): Ring address [31:0]. -/
def NET_RX_BASE_LO : Reg := ⟨0x301000, 2, 0x40000, 8, 0x40, 0x0⟩
/-- NET.RX[r].BASE_HI (R431): Ring address [39:32]. -/
def NET_RX_BASE_HI : Reg := ⟨0x301004, 2, 0x40000, 8, 0x40, 0x0⟩
/-- NET.RX[r].CTRL (R431): Enable, size, buffer size. -/
def NET_RX_CTRL : Reg := ⟨0x301008, 2, 0x40000, 8, 0x40, 0x1000040⟩
/-- NET.RX[r].HEAD (R431): Next descriptor the part fills. -/
def NET_RX_HEAD : Reg := ⟨0x30100C, 2, 0x40000, 8, 0x40, 0x0⟩
/-- NET.RX[r].TAIL (R431): Host doorbell. -/
def NET_RX_TAIL : Reg := ⟨0x301010, 2, 0x40000, 8, 0x40, 0x0⟩
/-- NET.RX[r].POOL_LO (R431): Pool address [31:0]. -/
def NET_RX_POOL_LO : Reg := ⟨0x301014, 2, 0x40000, 8, 0x40, 0x0⟩
/-- NET.RX[r].POOL_HI (R431): Pool address [39:32]. -/
def NET_RX_POOL_HI : Reg := ⟨0x301018, 2, 0x40000, 8, 0x40, 0x0⟩
/-- NET.RX[r].POOL_HEAD (R431): Next pool entry taken. -/
def NET_RX_POOL_HEAD : Reg := ⟨0x30101C, 2, 0x40000, 8, 0x40, 0x0⟩
/-- NET.RX[r].POOL_TAIL (R431): Pool doorbell. -/
def NET_RX_POOL_TAIL : Reg := ⟨0x301020, 2, 0x40000, 8, 0x40, 0x0⟩
/-- NET.TX[t].BASE_LO (R431): Ring address [31:0]. -/
def NET_TX_BASE_LO : Reg := ⟨0x301800, 2, 0x40000, 4, 0x40, 0x0⟩
/-- NET.TX[t].BASE_HI (R431): Ring address [39:32]. -/
def NET_TX_BASE_HI : Reg := ⟨0x301804, 2, 0x40000, 4, 0x40, 0x0⟩
/-- NET.TX[t].CTRL (R431): Enable and size. -/
def NET_TX_CTRL : Reg := ⟨0x301808, 2, 0x40000, 4, 0x40, 0x40⟩
/-- NET.TX[t].HEAD (R431): Next descriptor sent. -/
def NET_TX_HEAD : Reg := ⟨0x30180C, 2, 0x40000, 4, 0x40, 0x0⟩
/-- NET.TX[t].TAIL (R431): Host doorbell. -/
def NET_TX_TAIL : Reg := ⟨0x301810, 2, 0x40000, 4, 0x40, 0x0⟩
/-- STRM.REGION_LO (R432): Region base, low. -/
def STRM_REGION_LO : Reg := ⟨0x320000, 1, 0x0, 1, 0x0, 0x0⟩
/-- STRM.REGION_HI (R432): Region base, high, and enable. -/
def STRM_REGION_HI : Reg := ⟨0x320004, 1, 0x0, 1, 0x0, 0x0⟩
/-- STRM.STAT (R432): Running streams. -/
def STRM_STAT : Reg := ⟨0x320008, 1, 0x0, 1, 0x0, 0x0⟩
/-- STRM.EVT (R432): Stream events. -/
def STRM_EVT : Reg := ⟨0x32000C, 1, 0x0, 1, 0x0, 0x0⟩
/-- STRM.EVT_EN (R432): Enables each EVT bit to raise its event. -/
def STRM_EVT_EN : Reg := ⟨0x320010, 1, 0x0, 1, 0x0, 0x0⟩
/-- STRM.CFG (R432): Loss timeout. -/
def STRM_CFG : Reg := ⟨0x320014, 1, 0x0, 1, 0x0, 0xA⟩
/-- STRM.CNT_CLR (R432): Clears every stream counter. -/
def STRM_CNT_CLR : Reg := ⟨0x320018, 1, 0x0, 1, 0x0, 0x0⟩
/-- STRM.IN[s].STAT (R432): Ingress state. -/
def STRM_IN_STAT : Reg := ⟨0x321000, 256, 0x20, 1, 0x0, 0x0⟩
/-- STRM.IN[s].PKTS (R432): Ingress counters, in this order. -/
def STRM_IN_PKTS : Reg := ⟨0x321004, 256, 0x20, 1, 0x0, 0x0⟩
/-- STRM.IN[s].LOST (R432): Ingress counters, in this order. -/
def STRM_IN_LOST : Reg := ⟨0x321008, 256, 0x20, 1, 0x0, 0x0⟩
/-- STRM.IN[s].DUP (R432): Ingress counters, in this order. -/
def STRM_IN_DUP : Reg := ⟨0x32100C, 256, 0x20, 1, 0x0, 0x0⟩
/-- STRM.IN[s].LATE (R432): Ingress counters, in this order. -/
def STRM_IN_LATE : Reg := ⟨0x321010, 256, 0x20, 1, 0x0, 0x0⟩
/-- STRM.IN[s].EARLY (R432): Ingress counters, in this order. -/
def STRM_IN_EARLY : Reg := ⟨0x321014, 256, 0x20, 1, 0x0, 0x0⟩
/-- STRM.IN[s].BAD (R432): Ingress counters, in this order. -/
def STRM_IN_BAD : Reg := ⟨0x321018, 256, 0x20, 1, 0x0, 0x0⟩
/-- STRM.OUT[s].STAT (R432): Egress state. -/
def STRM_OUT_STAT : Reg := ⟨0x323000, 256, 0x20, 1, 0x0, 0x0⟩
/-- STRM.OUT[s].PKTS (R432): Packets sent. -/
def STRM_OUT_PKTS : Reg := ⟨0x323004, 256, 0x20, 1, 0x0, 0x0⟩
/-- STRM.OUT[s].DROP (R432): Packets dropped under R416 or R419. -/
def STRM_OUT_DROP : Reg := ⟨0x323008, 256, 0x20, 1, 0x0, 0x0⟩
/-- TIME.CFG (R457): Profile, domain, step mode. -/
def TIME_CFG : Reg := ⟨0x380000, 1, 0x0, 1, 0x0, 0x10001⟩
/-- TIME.MSG (R457): Message intervals and timeout. -/
def TIME_MSG : Reg := ⟨0x380004, 1, 0x0, 1, 0x0, 0x30001FD⟩
/-- TIME.COMMIT (R457): Applies CFG and MSG; restarts the unit. -/
def TIME_COMMIT : Reg := ⟨0x380008, 1, 0x0, 1, 0x0, 0x0⟩
/-- TIME.STAT (R457): Unit, role and redundancy state. -/
def TIME_STAT : Reg := ⟨0x38000C, 1, 0x0, 1, 0x0, 0x0⟩
/-- TIME.EVT (R457): Time events. -/
def TIME_EVT : Reg := ⟨0x380010, 1, 0x0, 1, 0x0, 0x0⟩
/-- TIME.EVT_EN (R457): Enables each EVT bit to raise its event. -/
def TIME_EVT_EN : Reg := ⟨0x380014, 1, 0x0, 1, 0x0, 0x0⟩
/-- TIME.NOW_NS (R457): Network time, ns; latches the seconds. -/
def TIME_NOW_NS : Reg := ⟨0x380018, 1, 0x0, 1, 0x0, 0x0⟩
/-- TIME.NOW_SEC_LO (R457): Seconds [31:0]. -/
def TIME_NOW_SEC_LO : Reg := ⟨0x38001C, 1, 0x0, 1, 0x0, 0x0⟩
/-- TIME.NOW_SEC_HI (R457): Seconds [47:32]. -/
def TIME_NOW_SEC_HI : Reg := ⟨0x380020, 1, 0x0, 1, 0x0, 0x0⟩
/-- TIME.SERVO_KP (R457): KP, Q16.16. -/
def TIME_SERVO_KP : Reg := ⟨0x380024, 1, 0x0, 1, 0x0, 0xB333⟩
/-- TIME.SERVO_KI (R457): KI, Q16.16. -/
def TIME_SERVO_KI : Reg := ⟨0x380028, 1, 0x0, 1, 0x0, 0x4CCD⟩
/-- TIME.STEP_NS (R457): Step threshold. -/
def TIME_STEP_NS : Reg := ⟨0x38002C, 1, 0x0, 1, 0x0, 0x0⟩
/-- TIME.FREQ (R457): Frequency in force. -/
def TIME_FREQ : Reg := ⟨0x380030, 1, 0x0, 1, 0x0, 0x0⟩
/-- TIME.OFS_LO (R457): Active offset, low word. -/
def TIME_OFS_LO : Reg := ⟨0x380034, 1, 0x0, 1, 0x0, 0x0⟩
/-- TIME.OFS_HI (R457): Active offset, high word. -/
def TIME_OFS_HI : Reg := ⟨0x380038, 1, 0x0, 1, 0x0, 0x0⟩
/-- TIME.MPD (R457): Active mpd. -/
def TIME_MPD : Reg := ⟨0x38003C, 1, 0x0, 1, 0x0, 0x0⟩
/-- TIME.SHADOW_LO (R457): Shadow offset, low word. -/
def TIME_SHADOW_LO : Reg := ⟨0x380040, 1, 0x0, 1, 0x0, 0x0⟩
/-- TIME.SHADOW_HI (R457): Shadow offset, high word. -/
def TIME_SHADOW_HI : Reg := ⟨0x380044, 1, 0x0, 1, 0x0, 0x0⟩
/-- TIME.SHADOW_MPD (R457): Standby mpd. -/
def TIME_SHADOW_MPD : Reg := ⟨0x380048, 1, 0x0, 1, 0x0, 0x0⟩
/-- TIME.SAMPLE_SEQ (R457): Accepted active offsets. -/
def TIME_SAMPLE_SEQ : Reg := ⟨0x38004C, 1, 0x0, 1, 0x0, 0x0⟩
/-- TIME.GM_LO (R457): Grandmaster identity, low word. -/
def TIME_GM_LO : Reg := ⟨0x380050, 1, 0x0, 1, 0x0, 0x0⟩
/-- TIME.GM_HI (R457): Grandmaster identity, high word. -/
def TIME_GM_HI : Reg := ⟨0x380054, 1, 0x0, 1, 0x0, 0x0⟩
/-- TIME.ADJ_FREQ (R457): Host frequency. -/
def TIME_ADJ_FREQ : Reg := ⟨0x380058, 1, 0x0, 1, 0x0, 0x0⟩
/-- TIME.ADJ_PHASE (R457): Host phase. -/
def TIME_ADJ_PHASE : Reg := ⟨0x38005C, 1, 0x0, 1, 0x0, 0x0⟩
/-- TIME.ADJ_CTRL (R457): Applies a host adjustment. -/
def TIME_ADJ_CTRL : Reg := ⟨0x380060, 1, 0x0, 1, 0x0, 0x0⟩
/-- TIME.FAILOVER (R457): Host failover. -/
def TIME_FAILOVER : Reg := ⟨0x380064, 1, 0x0, 1, 0x0, 0x0⟩
/-- TIME.REDUND (R457): Merge window and port preferences. -/
def TIME_REDUND : Reg := ⟨0x380068, 1, 0x0, 1, 0x0, 0x108⟩
/-- TIME.LAUNCH_CFG (R457): Launch limits. -/
def TIME_LAUNCH_CFG : Reg := ⟨0x38006C, 1, 0x0, 1, 0x0, 0x2000A⟩
/-- TIME.PPS_CFG (R457): Pulse and event pins. -/
def TIME_PPS_CFG : Reg := ⟨0x380070, 1, 0x0, 1, 0x0, 0x640000⟩
/-- TIME.PPS_OFS (R457): Pulse offset. -/
def TIME_PPS_OFS : Reg := ⟨0x380074, 1, 0x0, 1, 0x0, 0x0⟩
/-- TIME.EVTQ_STAT (R457): Event stamp queue. -/
def TIME_EVTQ_STAT : Reg := ⟨0x380078, 1, 0x0, 1, 0x0, 0x0⟩
/-- TIME.EVTQ_SEC_LO (R457): Head stamp, seconds [31:0]. -/
def TIME_EVTQ_SEC_LO : Reg := ⟨0x38007C, 1, 0x0, 1, 0x0, 0x0⟩
/-- TIME.EVTQ_SEC_HI (R457): Head stamp, seconds [47:32] and SUB. -/
def TIME_EVTQ_SEC_HI : Reg := ⟨0x380080, 1, 0x0, 1, 0x0, 0x0⟩
/-- TIME.EVTQ_NS (R457): Head stamp, ns. -/
def TIME_EVTQ_NS : Reg := ⟨0x380084, 1, 0x0, 1, 0x0, 0x0⟩
/-- TIME.EVTQ_POP (R457): Removes the head stamp. -/
def TIME_EVTQ_POP : Reg := ⟨0x380088, 1, 0x0, 1, 0x0, 0x0⟩
/-- TIME.FAILOVERS (R457): Counters, in this order, 4 bytes apart. -/
def TIME_FAILOVERS : Reg := ⟨0x380090, 1, 0x0, 1, 0x0, 0x0⟩
/-- TIME.SYNC_TO (R457): Counters, in this order, 4 bytes apart. -/
def TIME_SYNC_TO : Reg := ⟨0x380094, 1, 0x0, 1, 0x0, 0x0⟩
/-- TIME.ANN_TO (R457): Counters, in this order, 4 bytes apart. -/
def TIME_ANN_TO : Reg := ⟨0x380098, 1, 0x0, 1, 0x0, 0x0⟩
/-- TIME.OUTLIERS (R457): Counters, in this order, 4 bytes apart. -/
def TIME_OUTLIERS : Reg := ⟨0x38009C, 1, 0x0, 1, 0x0, 0x0⟩
/-- TIME.SUSPECTS (R457): Counters, in this order, 4 bytes apart. -/
def TIME_SUSPECTS : Reg := ⟨0x3800A0, 1, 0x0, 1, 0x0, 0x0⟩
/-- TIME.LAUNCH_LATE (R457): Counters, in this order, 4 bytes apart. -/
def TIME_LAUNCH_LATE : Reg := ⟨0x3800A4, 1, 0x0, 1, 0x0, 0x0⟩
/-- TIME.CTRL_MOVES (R457): Counters, in this order, 4 bytes apart. -/
def TIME_CTRL_MOVES : Reg := ⟨0x3800A8, 1, 0x0, 1, 0x0, 0x0⟩
/-- TIME.STEPS (R457): Counters, in this order, 4 bytes apart. -/
def TIME_STEPS : Reg := ⟨0x3800AC, 1, 0x0, 1, 0x0, 0x0⟩
/-- TIME.PORT[p].STAT (R457): Port time state. -/
def TIME_PORT_STAT : Reg := ⟨0x380100, 2, 0x40, 1, 0x0, 0x0⟩
/-- TIME.PORT[p].RX_LAT (R457): Receive latency. -/
def TIME_PORT_RX_LAT : Reg := ⟨0x380104, 2, 0x40, 1, 0x0, 0x0⟩
/-- TIME.PORT[p].TX_LAT (R457): Transmit latency. -/
def TIME_PORT_TX_LAT : Reg := ⟨0x380108, 2, 0x40, 1, 0x0, 0x0⟩
/-- TIME.PORT[p].ASYM (R457): Delay asymmetry. -/
def TIME_PORT_ASYM : Reg := ⟨0x38010C, 2, 0x40, 1, 0x0, 0x0⟩
/-- TIME.PORT[p].TXTS_STAT (R457): Stamp queue state. -/
def TIME_PORT_TXTS_STAT : Reg := ⟨0x380110, 2, 0x40, 1, 0x0, 0x0⟩
/-- TIME.PORT[p].TXTS_ID (R457): Head entry identifier. -/
def TIME_PORT_TXTS_ID : Reg := ⟨0x380114, 2, 0x40, 1, 0x0, 0x0⟩
/-- TIME.PORT[p].TXTS_SEC_LO (R457): Head stamp, seconds [31:0]. -/
def TIME_PORT_TXTS_SEC_LO : Reg := ⟨0x380118, 2, 0x40, 1, 0x0, 0x0⟩
/-- TIME.PORT[p].TXTS_SEC_HI (R457): Head stamp, seconds [47:32] and SUB. -/
def TIME_PORT_TXTS_SEC_HI : Reg := ⟨0x38011C, 2, 0x40, 1, 0x0, 0x0⟩
/-- TIME.PORT[p].TXTS_NS (R457): Head stamp, ns. -/
def TIME_PORT_TXTS_NS : Reg := ⟨0x380120, 2, 0x40, 1, 0x0, 0x0⟩
/-- TIME.PORT[p].TXTS_POP (R457): Removes the head entry. -/
def TIME_PORT_TXTS_POP : Reg := ⟨0x380124, 2, 0x40, 1, 0x0, 0x0⟩
/-- TIME.PORT[p].TXTS_LOST (R457): Count under R447. -/
def TIME_PORT_TXTS_LOST : Reg := ⟨0x380128, 2, 0x40, 1, 0x0, 0x0⟩
/-- CLK.STAT (R468): Lock, backup and hold state. -/
def CLK_STAT : Reg := ⟨0x100000, 1, 0x0, 1, 0x0, 0x0⟩
/-- CLK.EVT (R468): Clock events. -/
def CLK_EVT : Reg := ⟨0x100004, 1, 0x0, 1, 0x0, 0x0⟩
/-- CLK.EVT_EN (R468): Enables each EVT bit to raise its event. -/
def CLK_EVT_EN : Reg := ⟨0x100008, 1, 0x0, 1, 0x0, 0x0⟩
/-- CLK.REFIN_STAT (R468): REFIN measurement. -/
def CLK_REFIN_STAT : Reg := ⟨0x10000C, 1, 0x0, 1, 0x0, 0x0⟩
/-- CLK.SYS_CFG (R468): PLL_SYS return delay. -/
def CLK_SYS_CFG : Reg := ⟨0x100010, 1, 0x0, 1, 0x0, 0x64⟩
/-- CLK.PLL[p].CTRL (R468): Multiplier integer and reference. -/
def CLK_PLL_CTRL : Reg := ⟨0x100100, 4, 0x100, 1, 0x0, 0x0⟩
/-- CLK.PLL[p].FRAC (R468): Multiplier fraction. -/
def CLK_PLL_FRAC : Reg := ⟨0x100104, 4, 0x100, 1, 0x0, 0x0⟩
/-- CLK.PLL[p].COMMIT (R468): Applies staged fields. -/
def CLK_PLL_COMMIT : Reg := ⟨0x100108, 4, 0x100, 1, 0x0, 0x0⟩
/-- CLK.PLL[p].STAT (R468): State and band. -/
def CLK_PLL_STAT : Reg := ⟨0x10010C, 4, 0x100, 1, 0x0, 0x0⟩
/-- CLK.PLL[p].LOCK_CFG (R468): Lock window and count. -/
def CLK_PLL_LOCK_CFG : Reg := ⟨0x100110, 4, 0x100, 1, 0x0, 0x40064⟩
/-- CLK.PLL[p].PHERR (R468): Phase error. -/
def CLK_PLL_PHERR : Reg := ⟨0x100114, 4, 0x100, 1, 0x0, 0x0⟩
/-- CLK.PLL[p].LOL (R468): Count under R461. -/
def CLK_PLL_LOL : Reg := ⟨0x100118, 4, 0x100, 1, 0x0, 0x0⟩
/-- CLK.PLL[p].DCO (R468): Live fraction. -/
def CLK_PLL_DCO : Reg := ⟨0x10011C, 4, 0x100, 1, 0x0, 0x0⟩
/-- CLK.PLL[p].OUT[o].DIV (R468): Divider. -/
def CLK_PLL_OUT_DIV : Reg := ⟨0x100120, 4, 0x100, 4, 0x10, 0x0⟩
/-- CLK.PLL[p].OUT[o].PHASE (R468): Phase delay. -/
def CLK_PLL_OUT_PHASE : Reg := ⟨0x100124, 4, 0x100, 4, 0x10, 0x0⟩
/-- CLK.PLL[p].OUT[o].CTL (R468): Enable and guard. -/
def CLK_PLL_OUT_CTL : Reg := ⟨0x100128, 4, 0x100, 4, 0x10, 0x0⟩
/-- CLK.PLL[p].OUT[o].SAFE (R468): Safe divider and limit. -/
def CLK_PLL_OUT_SAFE : Reg := ⟨0x10012C, 4, 0x100, 4, 0x10, 0x0⟩
/-- CLK.PLL[p].BAND[e].RANGE (R468): VCO range. -/
def CLK_PLL_BAND_RANGE : Reg := ⟨0x100180, 4, 0x100, 16, 0x8, 0x0⟩
/-- CLK.PLL[p].BAND[e].CODE (R468): Coarse code and validity. -/
def CLK_PLL_BAND_CODE : Reg := ⟨0x100184, 4, 0x100, 16, 0x8, 0x0⟩
/-- MATRIX.EVT (R489): Matrix events. -/
def MATRIX_EVT : Reg := ⟨0x500000, 1, 0x0, 1, 0x0, 0x0⟩
/-- MATRIX.EVT_EN (R489): Enables each EVT bit to raise its event. -/
def MATRIX_EVT_EN : Reg := ⟨0x500004, 1, 0x0, 1, 0x0, 0x0⟩
/-- MATRIX.ERR_ADDR_LO (R489): First error address [31:0]. -/
def MATRIX_ERR_ADDR_LO : Reg := ⟨0x500008, 1, 0x0, 1, 0x0, 0x0⟩
/-- MATRIX.ERR_ADDR_HI (R489): First error address [63:32]. -/
def MATRIX_ERR_ADDR_HI : Reg := ⟨0x50000C, 1, 0x0, 1, 0x0, 0x0⟩
/-- MATRIX.ERR_INFO (R489): First error details. -/
def MATRIX_ERR_INFO : Reg := ⟨0x500010, 1, 0x0, 1, 0x0, 0x0⟩
/-- MATRIX.ERR_CLR (R489): Rearms the first-error latch. -/
def MATRIX_ERR_CLR : Reg := ⟨0x500014, 1, 0x0, 1, 0x0, 0x0⟩
/-- MATRIX.ERRORS (R489): Error responses of all kinds. -/
def MATRIX_ERRORS : Reg := ⟨0x500018, 1, 0x0, 1, 0x0, 0x0⟩
/-- MATRIX.LOCK_BREAK (R489): Count under R474. -/
def MATRIX_LOCK_BREAK : Reg := ⟨0x50001C, 1, 0x0, 1, 0x0, 0x0⟩
/-- MATRIX.PROT_ERR (R489): Count under R477. -/
def MATRIX_PROT_ERR : Reg := ⟨0x500020, 1, 0x0, 1, 0x0, 0x0⟩
/-- MATRIX.MPRI[m] (R489): Arbitration priority. -/
def MATRIX_MPRI : Reg := ⟨0x500100, 10, 0x4, 1, 0x0, 0x1⟩
/-- MATRIX.MSTAT[m] (R489): Master state. -/
def MATRIX_MSTAT : Reg := ⟨0x500200, 10, 0x4, 1, 0x0, 0x0⟩
/-- MATRIX.TSTAT[t] (R489): Target state. -/
def MATRIX_TSTAT : Reg := ⟨0x500300, 8, 0x4, 1, 0x0, 0x0⟩
/-- MATRIX.TIMEOUT[t] (R489): Count under R476. -/
def MATRIX_TIMEOUT : Reg := ⟨0x500400, 8, 0x4, 1, 0x0, 0x0⟩
/-- DMA[c].SRC_LO (R490): Source [31:0]. -/
def DMA_SRC_LO : Reg := ⟨0x400000, 32, 0x100, 1, 0x0, 0x0⟩
/-- DMA[c].SRC_HI (R490): Source [63:32]. -/
def DMA_SRC_HI : Reg := ⟨0x400004, 32, 0x100, 1, 0x0, 0x0⟩
/-- DMA[c].DST_LO (R490): Destination [31:0]. -/
def DMA_DST_LO : Reg := ⟨0x400008, 32, 0x100, 1, 0x0, 0x0⟩
/-- DMA[c].DST_HI (R490): Destination [63:32]. -/
def DMA_DST_HI : Reg := ⟨0x40000C, 32, 0x100, 1, 0x0, 0x0⟩
/-- DMA[c].CNT (R490): Bytes not yet issued. -/
def DMA_CNT : Reg := ⟨0x400010, 32, 0x100, 1, 0x0, 0x0⟩
/-- DMA[c].CTRL (R490): Start, stop and mode. -/
def DMA_CTRL : Reg := ⟨0x400014, 32, 0x100, 1, 0x0, 0x260⟩
/-- DMA[c].STAT (R490): Channel state. -/
def DMA_STAT : Reg := ⟨0x400018, 32, 0x100, 1, 0x0, 0x0⟩
/-- DMA[c].NEXT_LO (R490): Descriptor address [31:0]. -/
def DMA_NEXT_LO : Reg := ⟨0x40001C, 32, 0x100, 1, 0x0, 0x0⟩
/-- DMA[c].NEXT_HI (R490): Descriptor address [63:32]. -/
def DMA_NEXT_HI : Reg := ⟨0x400020, 32, 0x100, 1, 0x0, 0x0⟩
/-- DMA[c].HOPS (R490): Descriptors fetched since GO. -/
def DMA_HOPS : Reg := ⟨0x400024, 32, 0x100, 1, 0x0, 0x0⟩
/-- DMA[c].RETRIES (R490): Count under R484. -/
def DMA_RETRIES : Reg := ⟨0x400028, 32, 0x100, 1, 0x0, 0x0⟩
/-- DMA[c].HOPMAX (R490): Descriptor limit. -/
def DMA_HOPMAX : Reg := ⟨0x40002C, 32, 0x100, 1, 0x0, 0x400⟩
/-- DMA.DONE (R490): Bit c: channel c set DONE. -/
def DMA_DONE : Reg := ⟨0x402000, 1, 0x0, 1, 0x0, 0x0⟩
/-- DMA.ERR (R490): Bit c: channel c halted on ERR, TAIL_ERR or LOOP. -/
def DMA_ERR : Reg := ⟨0x402004, 1, 0x0, 1, 0x0, 0x0⟩
/-- DMA.DESC (R490): Bit c: a descriptor with IRQ completed. -/
def DMA_DESC : Reg := ⟨0x402008, 1, 0x0, 1, 0x0, 0x0⟩
/-- DMA.EVT (R490): Engine events. -/
def DMA_EVT : Reg := ⟨0x40200C, 1, 0x0, 1, 0x0, 0x0⟩
/-- DMA.EVT_EN (R490): Enables each EVT bit to raise its event. -/
def DMA_EVT_EN : Reg := ⟨0x402010, 1, 0x0, 1, 0x0, 0x0⟩
/-- DDRC.STAT (R509): Size, organisation and state. -/
def DDRC_STAT : Reg := ⟨0x600000, 1, 0x0, 1, 0x0, 0x0⟩
/-- DDRC.EVT (R509): Controller events. -/
def DDRC_EVT : Reg := ⟨0x600004, 1, 0x0, 1, 0x0, 0x0⟩
/-- DDRC.EVT_EN (R509): Enables each EVT bit to raise its event. -/
def DDRC_EVT_EN : Reg := ⟨0x600008, 1, 0x0, 1, 0x0, 0x0⟩
/-- DDRC.CFG (R509): Page threshold and write watermarks. -/
def DDRC_CFG : Reg := ⟨0x60000C, 1, 0x0, 1, 0x0, 0x8103002⟩
/-- DDRC.FREQ_CTRL (R509): Frequency change. -/
def DDRC_FREQ_CTRL : Reg := ⟨0x600010, 1, 0x0, 1, 0x0, 0x0⟩
/-- DDRC.SET (R509): Timing set 0. -/
def DDRC_SET : Reg := ⟨0x600014, 2, 0x4, 1, 0x0, 0x0⟩
/-- DDRC.SCRUB_CFG (R509): Patrol scrub. -/
def DDRC_SCRUB_CFG : Reg := ⟨0x60001C, 1, 0x0, 1, 0x0, 0x80000018⟩
/-- DDRC.ECC_ADDR_LO (R509): First uncorrectable address [31:0]. -/
def DDRC_ECC_ADDR_LO : Reg := ⟨0x600020, 1, 0x0, 1, 0x0, 0x0⟩
/-- DDRC.ECC_ADDR_HI (R509): First uncorrectable address [39:32]. -/
def DDRC_ECC_ADDR_HI : Reg := ⟨0x600024, 1, 0x0, 1, 0x0, 0x0⟩
/-- DDRC.ECC_INFO (R509): First uncorrectable details. -/
def DDRC_ECC_INFO : Reg := ⟨0x600028, 1, 0x0, 1, 0x0, 0x0⟩
/-- DDRC.ECC_CLR (R509): Rearms the latch. -/
def DDRC_ECC_CLR : Reg := ⟨0x60002C, 1, 0x0, 1, 0x0, 0x0⟩
/-- DDRC.CNT_CLR (R509): Clears every counter. -/
def DDRC_CNT_CLR : Reg := ⟨0x600030, 1, 0x0, 1, 0x0, 0x0⟩
/-- DDRC.ECC_CORR (R509): Counters, in this order, 4 bytes apart. -/
def DDRC_ECC_CORR : Reg := ⟨0x600040, 1, 0x0, 1, 0x0, 0x0⟩
/-- DDRC.ECC_UNCORR (R509): Counters, in this order, 4 bytes apart. -/
def DDRC_ECC_UNCORR : Reg := ⟨0x600044, 1, 0x0, 1, 0x0, 0x0⟩
/-- DDRC.REPLAY (R509): Counters, in this order, 4 bytes apart. -/
def DDRC_REPLAY : Reg := ⟨0x600048, 1, 0x0, 1, 0x0, 0x0⟩
/-- DDRC.REPLAY_FAIL (R509): Counters, in this order, 4 bytes apart. -/
def DDRC_REPLAY_FAIL : Reg := ⟨0x60004C, 1, 0x0, 1, 0x0, 0x0⟩
/-- DDRC.FREQ_CHG (R509): Counters, in this order, 4 bytes apart. -/
def DDRC_FREQ_CHG : Reg := ⟨0x600050, 1, 0x0, 1, 0x0, 0x0⟩
/-- DDRC.FREQ_FAIL (R509): Counters, in this order, 4 bytes apart. -/
def DDRC_FREQ_FAIL : Reg := ⟨0x600054, 1, 0x0, 1, 0x0, 0x0⟩
/-- DDRC.RMW (R509): Counters, in this order, 4 bytes apart. -/
def DDRC_RMW : Reg := ⟨0x600058, 1, 0x0, 1, 0x0, 0x0⟩
/-- SYS.BOOT_STAT (R535): Phase, page, firmware. -/
def SYS_BOOT_STAT : Reg := ⟨0x200, 1, 0x0, 1, 0x0, 0x0⟩
/-- SYS.RESET_CAUSE (R535): Sources of the last reset. -/
def SYS_RESET_CAUSE : Reg := ⟨0x204, 1, 0x0, 1, 0x0, 0x0⟩
/-- SYS.WAKE_STAT (R535): Reason for the last wake. -/
def SYS_WAKE_STAT : Reg := ⟨0x208, 1, 0x0, 1, 0x0, 0x0⟩
/-- SYS.STORM (R535): Storm record. -/
def SYS_STORM : Reg := ⟨0x20C, 1, 0x0, 1, 0x0, 0x0⟩
/-- SYS.FW_PUSH_ADDR (R535): Pushed image offset. -/
def SYS_FW_PUSH_ADDR : Reg := ⟨0x210, 1, 0x0, 1, 0x0, 0x0⟩
/-- SYS.FW_PUSH_LEN (R535): Pushed image length. -/
def SYS_FW_PUSH_LEN : Reg := ⟨0x214, 1, 0x0, 1, 0x0, 0x0⟩
/-- SYS.FW_PUSH_GO (R535): Starts a push check. -/
def SYS_FW_PUSH_GO : Reg := ⟨0x218, 1, 0x0, 1, 0x0, 0x0⟩
/-- SYS.BLK_RST (R535): Block reset. -/
def SYS_BLK_RST : Reg := ⟨0x21C, 1, 0x0, 1, 0x0, 0x0⟩
/-- SYS.BLK_RST_STAT (R535): Blocks in reset. -/
def SYS_BLK_RST_STAT : Reg := ⟨0x220, 1, 0x0, 1, 0x0, 0x0⟩
/-- SYS.PWR_STAT (R535): Power state. -/
def SYS_PWR_STAT : Reg := ⟨0x224, 1, 0x0, 1, 0x0, 0x22⟩
/-- SYS.UPTIME (R535): Seconds since P6. -/
def SYS_UPTIME : Reg := ⟨0x228, 1, 0x0, 1, 0x0, 0x0⟩
/-- SYS.EVT (R535): Events. -/
def SYS_EVT : Reg := ⟨0x22C, 1, 0x0, 1, 0x0, 0x0⟩
/-- SYS.EVT_EN (R535): Enables each EVT bit to raise its event. -/
def SYS_EVT_EN : Reg := ⟨0x230, 1, 0x0, 1, 0x0, 0x0⟩
/-- SYS.RTC_LO (R535): RTC seconds [31:0]. -/
def SYS_RTC_LO : Reg := ⟨0x240, 1, 0x0, 1, 0x0, 0x0⟩
/-- SYS.RTC_HI (R535): RTC seconds [47:32]. -/
def SYS_RTC_HI : Reg := ⟨0x244, 1, 0x0, 1, 0x0, 0x0⟩
/-- SYS.ALARM_LO (R535): Alarm seconds [31:0]. -/
def SYS_ALARM_LO : Reg := ⟨0x248, 1, 0x0, 1, 0x0, 0x0⟩
/-- SYS.ALARM_HI (R535): Alarm seconds [47:32], armed. -/
def SYS_ALARM_HI : Reg := ⟨0x24C, 1, 0x0, 1, 0x0, 0x0⟩
/-- ERR.STAT (R548): Ring, handling and safe state. -/
def ERR_STAT : Reg := ⟨0xD00000, 1, 0x0, 1, 0x0, 0x0⟩
/-- ERR.EVT (R548): Error events. -/
def ERR_EVT : Reg := ⟨0xD00004, 1, 0x0, 1, 0x0, 0x0⟩
/-- ERR.EVT_EN (R548): Enables each EVT bit to raise its event. -/
def ERR_EVT_EN : Reg := ⟨0xD00008, 1, 0x0, 1, 0x0, 0x0⟩
/-- ERR.CFG (R548): Interrupt severity and merge window. -/
def ERR_CFG : Reg := ⟨0xD0000C, 1, 0x0, 1, 0x0, 0xA02⟩
/-- ERR.SEQ (R548): Next sequence number. -/
def ERR_SEQ : Reg := ⟨0xD00010, 1, 0x0, 1, 0x0, 0x0⟩
/-- ERR.DROPPED (R548): Count under R537. -/
def ERR_DROPPED : Reg := ⟨0xD00014, 1, 0x0, 1, 0x0, 0x0⟩
/-- ERR.RST_REMAIN (R548): Reset countdown under R542. -/
def ERR_RST_REMAIN : Reg := ⟨0xD00018, 1, 0x0, 1, 0x0, 0x0⟩
/-- ERR.PEND (R548): Pending sources 0–17. -/
def ERR_PEND : Reg := ⟨0xD0001C, 1, 0x0, 1, 0x0, 0x0⟩
/-- ERR.PEND_DMA (R548): Pending DMA channel sources. -/
def ERR_PEND_DMA : Reg := ⟨0xD00020, 1, 0x0, 1, 0x0, 0x0⟩
/-- ERR.IRQN_EN (R548): IRQ_N enables, sources 0–17. -/
def ERR_IRQN_EN : Reg := ⟨0xD00024, 1, 0x0, 1, 0x0, 0x0⟩
/-- ERR.IRQN_EN_DMA (R548): IRQ_N enables, DMA channels. -/
def ERR_IRQN_EN_DMA : Reg := ⟨0xD00028, 1, 0x0, 1, 0x0, 0x0⟩
/-- ERR.ACK (R548): Acknowledges records. -/
def ERR_ACK : Reg := ⟨0xD0002C, 1, 0x0, 1, 0x0, 0x0⟩
/-- ERR.VEC[k] (R548): Source vector; k = 0–49. -/
def ERR_VEC : Reg := ⟨0xD00100, 50, 0x4, 1, 0x0, 0x80000000⟩
/-- ERR.REC[i] (R548): Word w of slot i; i = 0–63, w = 0–7. -/
def ERR_REC : Reg := ⟨0xD01000, 64, 0x20, 8, 0x4, 0x0⟩
/-- PCIE.STAT (R554): Link and function state. -/
def PCIE_STAT : Reg := ⟨0xE00000, 1, 0x0, 1, 0x0, 0x0⟩
/-- PCIE.ID (R554): Vendor and device identifiers. -/
def PCIE_ID : Reg := ⟨0xE00004, 1, 0x0, 1, 0x0, 0x0⟩
/-- PCIE.SUBID (R554): Subsystem identifiers. -/
def PCIE_SUBID : Reg := ⟨0xE00008, 1, 0x0, 1, 0x0, 0x0⟩
/-- PCIE.CORR_ERR (R554): Correctable errors reported. -/
def PCIE_CORR_ERR : Reg := ⟨0xE0000C, 1, 0x0, 1, 0x0, 0x0⟩
/-- PCIE.UNCORR_ERR (R554): Uncorrectable errors reported. -/
def PCIE_UNCORR_ERR : Reg := ⟨0xE00010, 1, 0x0, 1, 0x0, 0x0⟩
/-- PCIE.CPL_TIMEOUT (R554): Host reads answered ERR_TIMEOUT under R476. -/
def PCIE_CPL_TIMEOUT : Reg := ⟨0xE00014, 1, 0x0, 1, 0x0, 0x0⟩
/-- PCIE.CPL_ABORT (R554): Completer Abort completions sent under R475. -/
def PCIE_CPL_ABORT : Reg := ⟨0xE00018, 1, 0x0, 1, 0x0, 0x0⟩
/-- PCIE.LINK_DOWN (R554): Transitions from link up to link down. -/
def PCIE_LINK_DOWN : Reg := ⟨0xE0001C, 1, 0x0, 1, 0x0, 0x0⟩
/-- PCIE.MSIX[v].ADDR_LO (R554): Message address [31:0]; v = 0–63. -/
def PCIE_MSIX_ADDR_LO : Reg := ⟨0xE01000, 64, 0x10, 1, 0x0, 0x0⟩
/-- PCIE.MSIX[v].ADDR_HI (R554): Message address [63:32]. -/
def PCIE_MSIX_ADDR_HI : Reg := ⟨0xE01004, 64, 0x10, 1, 0x0, 0x0⟩
/-- PCIE.MSIX[v].DATA (R554): Message data. -/
def PCIE_MSIX_DATA : Reg := ⟨0xE01008, 64, 0x10, 1, 0x0, 0x0⟩
/-- PCIE.MSIX[v].CTRL (R554): Vector control. -/
def PCIE_MSIX_CTRL : Reg := ⟨0xE0100C, 64, 0x10, 1, 0x0, 0x1⟩
/-- PCIE.PBA_LO (R554): Pending bits, vectors 0–31. -/
def PCIE_PBA_LO : Reg := ⟨0xE02000, 1, 0x0, 1, 0x0, 0x0⟩
/-- PCIE.PBA_HI (R554): Pending bits, vectors 32–63. -/
def PCIE_PBA_HI : Reg := ⟨0xE02004, 1, 0x0, 1, 0x0, 0x0⟩
/-- SYS.OPT[w] (R554): Word w of the loaded option page; w = 0–1,023. -/
def SYS_OPT : Reg := ⟨0x1000, 1024, 0x4, 1, 0x0, 0x0⟩

end R

namespace F

def SYS_PART_ID_PART : Fld := ⟨R.SYS_PART_ID, 16, 16⟩
def SYS_PART_ID_FAMILY : Fld := ⟨R.SYS_PART_ID, 8, 8⟩
def SYS_REV_LETTER : Fld := ⟨R.SYS_REV, 8, 8⟩
def SYS_REV_DIGIT : Fld := ⟨R.SYS_REV, 0, 8⟩
def SYS_LIMITS_PATHK : Fld := ⟨R.SYS_LIMITS, 20, 8⟩
def SYS_LIMITS_FEEDS : Fld := ⟨R.SYS_LIMITS, 10, 10⟩
def SYS_LIMITS_OBJECTS : Fld := ⟨R.SYS_LIMITS, 0, 10⟩
def TIME_TICK_LO_ALL : Fld := ⟨R.TIME_TICK_LO, 0, 32⟩
def TIME_TICK_HI_ALL : Fld := ⟨R.TIME_TICK_HI, 0, 32⟩
def TIME_GRID_STAT_STATE : Fld := ⟨R.TIME_GRID_STAT, 0, 2⟩
def TIME_GRID_STAT_LOCKRUN : Fld := ⟨R.TIME_GRID_STAT, 8, 8⟩
def TIME_GRID_ERR_ERR : Fld := ⟨R.TIME_GRID_ERR, 0, 32⟩
def TIME_GRID_CTRL_SLEW_PPM : Fld := ⟨R.TIME_GRID_CTRL, 0, 10⟩
def TIME_GRID_CTRL_STEP_US : Fld := ⟨R.TIME_GRID_CTRL, 10, 20⟩
def TIME_GRID_CTRL_STEP_ACTIVE : Fld := ⟨R.TIME_GRID_CTRL, 31, 1⟩
def TIME_GRID_EVT_STEPPED : Fld := ⟨R.TIME_GRID_EVT, 0, 1⟩
def TIME_GRID_EVT_LOCKED : Fld := ⟨R.TIME_GRID_EVT, 1, 1⟩
def TIME_GRID_EVT_HOLDOVER : Fld := ⟨R.TIME_GRID_EVT, 2, 1⟩
def TIME_GRID_EVT_SLEW_LONG : Fld := ⟨R.TIME_GRID_EVT, 3, 1⟩
def TIME_LAT_COMMIT_GO : Fld := ⟨R.TIME_LAT_COMMIT, 0, 1⟩
def TIME_LAT_SRC_SEL : Fld := ⟨R.TIME_LAT_SRC, 0, 16⟩
def TIME_LAT_VIA_INDEX : Fld := ⟨R.TIME_LAT_VIA, 0, 10⟩
def TIME_LAT_VIA_DIRECT : Fld := ⟨R.TIME_LAT_VIA, 15, 1⟩
def TIME_LAT_VIA_FEED : Fld := ⟨R.TIME_LAT_VIA, 16, 9⟩
def TIME_LAT_SINK_ID : Fld := ⟨R.TIME_LAT_SINK, 0, 16⟩
def TIME_LAT_SINK_EN : Fld := ⟨R.TIME_LAT_SINK, 31, 1⟩
def TIME_LAT_FLOOR_NS : Fld := ⟨R.TIME_LAT_FLOOR, 0, 32⟩
def TIME_LAT_PASS_NS : Fld := ⟨R.TIME_LAT_PASS, 0, 32⟩
def TIME_LAT_PROG_NS : Fld := ⟨R.TIME_LAT_PROG, 0, 32⟩
def TIME_LAT_RATIO_Q10 : Fld := ⟨R.TIME_LAT_RATIO, 0, 16⟩
def TIME_LAT_STAT_VALID : Fld := ⟨R.TIME_LAT_STAT, 0, 1⟩
def TIME_LAT_STAT_BELOW_MIN : Fld := ⟨R.TIME_LAT_STAT, 1, 1⟩
def TIME_LAT_STAT_UNSUPPORTED : Fld := ⟨R.TIME_LAT_STAT, 2, 1⟩
def TIME_LAT_STAT_NO_PATH : Fld := ⟨R.TIME_LAT_STAT, 3, 1⟩
def TIME_LAT_STAT_ABSENT : Fld := ⟨R.TIME_LAT_STAT, 4, 1⟩
def TIME_LAT_STAT_BREACH : Fld := ⟨R.TIME_LAT_STAT, 5, 1⟩
def TIME_LAT_STAT_SLAVE_TERM : Fld := ⟨R.TIME_LAT_STAT, 6, 1⟩
def RENDER_COMMIT_INPUT : Fld := ⟨R.RENDER_COMMIT, 0, 1⟩
def RENDER_COMMIT_GEN : Fld := ⟨R.RENDER_COMMIT, 1, 1⟩
def RENDER_FE_EVT_ASRC_UNLOCK : Fld := ⟨R.RENDER_FE_EVT, 0, 1⟩
def RENDER_FE_EVT_BYPASS_UNSYNC : Fld := ⟨R.RENDER_FE_EVT, 1, 1⟩
def RENDER_FE_EVT_PLAY_UNDERRUN : Fld := ⟨R.RENDER_FE_EVT, 2, 1⟩
def RENDER_FE_EVT_OBJ_CLIP : Fld := ⟨R.RENDER_FE_EVT, 3, 1⟩
def RENDER_FE_EVT_BAD_SEL : Fld := ⟨R.RENDER_FE_EVT, 4, 1⟩
def RENDER_FE_EVT_EN_EN : Fld := ⟨R.RENDER_FE_EVT_EN, 0, 5⟩
def RENDER_INSEL_SEL : Fld := ⟨R.RENDER_INSEL, 0, 16⟩
def RENDER_INSEL_BYPASS : Fld := ⟨R.RENDER_INSEL, 16, 1⟩
def RENDER_INSTAT_ABSENT : Fld := ⟨R.RENDER_INSTAT, 0, 1⟩
def RENDER_INSTAT_SYNC : Fld := ⟨R.RENDER_INSTAT, 1, 1⟩
def RENDER_INSTAT_ASRC : Fld := ⟨R.RENDER_INSTAT, 2, 2⟩
def RENDER_INSTAT_BYPASS_UNSYNC : Fld := ⟨R.RENDER_INSTAT, 4, 1⟩
def RENDER_INSTAT_XFADE : Fld := ⟨R.RENDER_INSTAT, 5, 1⟩
def RENDER_INSTAT_PENDING : Fld := ⟨R.RENDER_INSTAT, 6, 1⟩
def RENDER_INSTAT_RATE : Fld := ⟨R.RENDER_INSTAT, 8, 3⟩
def RENDER_IN_RATIO_PPB : Fld := ⟨R.RENDER_IN_RATIO, 0, 32⟩
def RENDER_GEN_CTRL_TYPE : Fld := ⟨R.RENDER_GEN_CTRL, 0, 3⟩
def RENDER_GEN_CTRL_ORDER : Fld := ⟨R.RENDER_GEN_CTRL, 8, 5⟩
def RENDER_GEN_FREQ_INC : Fld := ⟨R.RENDER_GEN_FREQ, 0, 32⟩
def RENDER_GEN_LEVEL_PEAK : Fld := ⟨R.RENDER_GEN_LEVEL, 0, 24⟩
def RENDER_GEN_SEED_SEED : Fld := ⟨R.RENDER_GEN_SEED, 0, 32⟩
def RENDER_PLAY_CTRL_EN : Fld := ⟨R.RENDER_PLAY_CTRL, 0, 1⟩
def RENDER_PLAY_BASE_LO_ADDR : Fld := ⟨R.RENDER_PLAY_BASE_LO, 6, 26⟩
def RENDER_PLAY_BASE_HI_ADDR : Fld := ⟨R.RENDER_PLAY_BASE_HI, 0, 8⟩
def RENDER_PLAY_SIZE_BYTES : Fld := ⟨R.RENDER_PLAY_SIZE, 0, 25⟩
def RENDER_PLAY_WR_OFFSET : Fld := ⟨R.RENDER_PLAY_WR, 0, 24⟩
def RENDER_PLAY_RD_OFFSET : Fld := ⟨R.RENDER_PLAY_RD, 0, 24⟩
def RENDER_PLAY_UNDERRUN_COUNT : Fld := ⟨R.RENDER_PLAY_UNDERRUN, 0, 32⟩
def RENDER_CLIP_COUNT : Fld := ⟨R.RENDER_CLIP, 0, 32⟩
def RENDER_GEO_STAT_TABLE_VALID : Fld := ⟨R.RENDER_GEO_STAT, 0, 1⟩
def RENDER_GEO_STAT_C_SLEWING : Fld := ⟨R.RENDER_GEO_STAT, 1, 1⟩
def RENDER_GEO_STAT_REDUCED : Fld := ⟨R.RENDER_GEO_STAT, 2, 1⟩
def RENDER_GEO_STAT_REDUCING : Fld := ⟨R.RENDER_GEO_STAT, 3, 1⟩
def RENDER_GEO_ACTIVE_COUNT : Fld := ⟨R.RENDER_GEO_ACTIVE, 0, 18⟩
def RENDER_GEO_BUDGET_COUNT : Fld := ⟨R.RENDER_GEO_BUDGET, 0, 18⟩
def RENDER_GEO_EVT_DOPPLER_CLAMP : Fld := ⟨R.RENDER_GEO_EVT, 0, 1⟩
def RENDER_GEO_EVT_DELAY_CLAMP : Fld := ⟨R.RENDER_GEO_EVT, 1, 1⟩
def RENDER_GEO_EVT_BUDGET_FULL : Fld := ⟨R.RENDER_GEO_EVT, 2, 1⟩
def RENDER_GEO_EVT_KEY_LATE : Fld := ⟨R.RENDER_GEO_EVT, 3, 1⟩
def RENDER_GEO_EVT_KEY_STALE : Fld := ⟨R.RENDER_GEO_EVT, 4, 1⟩
def RENDER_GEO_EVT_GEO_LATE : Fld := ⟨R.RENDER_GEO_EVT, 5, 1⟩
def RENDER_GEO_EVT_TABLE_SWAP : Fld := ⟨R.RENDER_GEO_EVT, 6, 1⟩
def RENDER_GEO_EVT_GAIN_CLAMP : Fld := ⟨R.RENDER_GEO_EVT, 7, 1⟩
def RENDER_GEO_EVT_EN_EN : Fld := ⟨R.RENDER_GEO_EVT_EN, 0, 8⟩
def RENDER_GEO_C_MPS : Fld := ⟨R.RENDER_GEO_C, 0, 32⟩
def RENDER_GEO_ALPHA_DBPM : Fld := ⟨R.RENDER_GEO_ALPHA, 0, 32⟩
def RENDER_GEO_TABLE_NSPK : Fld := ⟨R.RENDER_GEO_TABLE, 0, 10⟩
def RENDER_GEO_TABLE_NTRI : Fld := ⟨R.RENDER_GEO_TABLE, 10, 11⟩
def RENDER_GEO_TABLE_GEN : Fld := ⟨R.RENDER_GEO_TABLE, 24, 8⟩
def RENDER_DOPPLER_CLAMP_ALL : Fld := ⟨R.RENDER_DOPPLER_CLAMP, 0, 32⟩
def RENDER_DELAY_CLAMP_ALL : Fld := ⟨R.RENDER_DELAY_CLAMP, 0, 32⟩
def RENDER_PATH_DENIED_ALL : Fld := ⟨R.RENDER_PATH_DENIED, 0, 32⟩
def RENDER_KEY_LATE_ALL : Fld := ⟨R.RENDER_KEY_LATE, 0, 32⟩
def RENDER_KEY_STALE_ALL : Fld := ⟨R.RENDER_KEY_STALE, 0, 32⟩
def RENDER_GEO_LATE_ALL : Fld := ⟨R.RENDER_GEO_LATE, 0, 32⟩
def RENDER_GEO_DIAG_OBJ_OBJ : Fld := ⟨R.RENDER_GEO_DIAG_OBJ, 0, 9⟩
def RENDER_GEO_POS_X_POS : Fld := ⟨R.RENDER_GEO_POS_X, 0, 32⟩
def RENDER_GEO_POS_Y_POS : Fld := ⟨R.RENDER_GEO_POS_Y, 0, 32⟩
def RENDER_GEO_POS_Z_POS : Fld := ⟨R.RENDER_GEO_POS_Z, 0, 32⟩
def RENDER_GEO_OBJSTAT_PATHS : Fld := ⟨R.RENDER_GEO_OBJSTAT, 0, 10⟩
def RENDER_GEO_OBJSTAT_QDEPTH : Fld := ⟨R.RENDER_GEO_OBJSTAT, 12, 4⟩
def RENDER_GEO_OBJSTAT_LAW : Fld := ⟨R.RENDER_GEO_OBJSTAT, 16, 2⟩
def RENDER_GEO_OBJSTAT_HOLD : Fld := ⟨R.RENDER_GEO_OBJSTAT, 18, 1⟩
def RENDER_GEO_OBJSTAT_CUTTING : Fld := ⟨R.RENDER_GEO_OBJSTAT, 19, 1⟩
def RENDER_GEO_OBJSTAT_CLAMPED : Fld := ⟨R.RENDER_GEO_OBJSTAT, 20, 1⟩
def RENDER_GEO_OBJSTAT_HOST : Fld := ⟨R.RENDER_GEO_OBJSTAT, 21, 1⟩
def RENDER_BULK_BASE_LO_ADDR : Fld := ⟨R.RENDER_BULK_BASE_LO, 20, 12⟩
def RENDER_BULK_BASE_HI_ADDR : Fld := ⟨R.RENDER_BULK_BASE_HI, 0, 8⟩
def RENDER_BULK_BASE_HI_EN : Fld := ⟨R.RENDER_BULK_BASE_HI, 31, 1⟩
def RENDER_PR_STAT_KERNEL : Fld := ⟨R.RENDER_PR_STAT, 0, 2⟩
def RENDER_PR_STAT_BULK_OBJS : Fld := ⟨R.RENDER_PR_STAT, 16, 10⟩
def RENDER_PR_EVT_STEP_LIMIT : Fld := ⟨R.RENDER_PR_EVT, 0, 1⟩
def RENDER_PR_EVT_BULK_STARVE : Fld := ⟨R.RENDER_PR_EVT, 1, 1⟩
def RENDER_PR_EVT_SWARD_PERR : Fld := ⟨R.RENDER_PR_EVT, 2, 1⟩
def RENDER_PR_EVT_KERNEL_SWAP : Fld := ⟨R.RENDER_PR_EVT, 3, 1⟩
def RENDER_PR_EVT_EN_EN : Fld := ⟨R.RENDER_PR_EVT_EN, 0, 4⟩
def RENDER_STEP_LIMIT_COUNT : Fld := ⟨R.RENDER_STEP_LIMIT, 0, 32⟩
def RENDER_BULK_STARVE_COUNT : Fld := ⟨R.RENDER_BULK_STARVE, 0, 32⟩
def RENDER_SWARD_PERR_COUNT : Fld := ⟨R.RENDER_SWARD_PERR, 0, 32⟩
def RENDER_SWARD_DIAG_ADDR_OBJ : Fld := ⟨R.RENDER_SWARD_DIAG_ADDR, 0, 9⟩
def RENDER_SWARD_DIAG_ADDR_AGE : Fld := ⟨R.RENDER_SWARD_DIAG_ADDR, 10, 15⟩
def RENDER_SWARD_DIAG_DATA_SAMPLE : Fld := ⟨R.RENDER_SWARD_DIAG_DATA, 0, 32⟩
def RENDER_SWARD_FILL_COUNT : Fld := ⟨R.RENDER_SWARD_FILL, 0, 16⟩
def RENDER_PE_OCC_COUNT : Fld := ⟨R.RENDER_PE_OCC, 0, 12⟩
def RENDER_BULK_STAT_ACTIVE : Fld := ⟨R.RENDER_BULK_STAT, 0, 1⟩
def RENDER_BULK_STAT_REFILL : Fld := ⟨R.RENDER_BULK_STAT, 1, 1⟩
def RENDER_BULK_STAT_STARVED : Fld := ⟨R.RENDER_BULK_STAT, 2, 1⟩
def RENDER_BULK_STAT_DEPTH : Fld := ⟨R.RENDER_BULK_STAT, 4, 3⟩
def RENDER_HP_STAT_SLOTS : Fld := ⟨R.RENDER_HP_STAT, 0, 18⟩
def RENDER_HP_STAT_OBJS : Fld := ⟨R.RENDER_HP_STAT, 18, 10⟩
def RENDER_HP_EVT_LATE : Fld := ⟨R.RENDER_HP_EVT, 0, 1⟩
def RENDER_HP_EVT_STALE : Fld := ⟨R.RENDER_HP_EVT, 1, 1⟩
def RENDER_HP_EVT_HOLD : Fld := ⟨R.RENDER_HP_EVT, 2, 1⟩
def RENDER_HP_EVT_TIMEOUT : Fld := ⟨R.RENDER_HP_EVT, 3, 1⟩
def RENDER_HP_EVT_DENIED : Fld := ⟨R.RENDER_HP_EVT, 4, 1⟩
def RENDER_HP_EVT_POOL_FULL : Fld := ⟨R.RENDER_HP_EVT, 5, 1⟩
def RENDER_HP_EVT_REFUSED : Fld := ⟨R.RENDER_HP_EVT, 6, 1⟩
def RENDER_HP_EVT_EN_EN : Fld := ⟨R.RENDER_HP_EVT_EN, 0, 7⟩
def RENDER_HP_LATE_COUNT : Fld := ⟨R.RENDER_HP_LATE, 0, 32⟩
def RENDER_HP_STALE_COUNT : Fld := ⟨R.RENDER_HP_STALE, 0, 32⟩
def RENDER_HP_HOLD_COUNT : Fld := ⟨R.RENDER_HP_HOLD, 0, 32⟩
def RENDER_HP_TIMEOUT_COUNT : Fld := ⟨R.RENDER_HP_TIMEOUT, 0, 32⟩
def RENDER_HP_POOL_FREE : Fld := ⟨R.RENDER_HP_POOL, 0, 19⟩
def RENDER_HP_COMMIT_GO : Fld := ⟨R.RENDER_HP_COMMIT, 0, 1⟩
def RENDER_HP_CFG_HOST : Fld := ⟨R.RENDER_HP_CFG, 0, 1⟩
def RENDER_HP_CFG_HOLDMAX : Fld := ⟨R.RENDER_HP_CFG, 1, 13⟩
def RENDER_HP_OBJSTAT_QDEPTH : Fld := ⟨R.RENDER_HP_OBJSTAT, 0, 3⟩
def RENDER_HP_OBJSTAT_HOLDING : Fld := ⟨R.RENDER_HP_OBJSTAT, 3, 1⟩
def RENDER_HP_OBJSTAT_HOLDRUN : Fld := ⟨R.RENDER_HP_OBJSTAT, 4, 12⟩
def RENDER_HP_OBJSTAT_DENIED : Fld := ⟨R.RENDER_HP_OBJSTAT, 16, 10⟩
def RENDER_HP_OBJSTAT_EMPTY : Fld := ⟨R.RENDER_HP_OBJSTAT, 26, 1⟩
def FEED_CORR_BASE_LO_ADDR : Fld := ⟨R.FEED_CORR_BASE_LO, 20, 12⟩
def FEED_CORR_BASE_HI_ADDR : Fld := ⟨R.FEED_CORR_BASE_HI, 0, 8⟩
def FEED_CORR_BASE_HI_EN : Fld := ⟨R.FEED_CORR_BASE_HI, 31, 1⟩
def FEED_CORR_STAT_POOL_USED : Fld := ⟨R.FEED_CORR_STAT, 0, 8⟩
def FEED_CORR_STAT_WAITING : Fld := ⟨R.FEED_CORR_STAT, 8, 10⟩
def FEED_CORR_EVT_XF_DONE : Fld := ⟨R.FEED_CORR_EVT, 0, 1⟩
def FEED_CORR_EVT_XF_QUEUED : Fld := ⟨R.FEED_CORR_EVT, 1, 1⟩
def FEED_CORR_EVT_XF_REPLACED : Fld := ⟨R.FEED_CORR_EVT, 2, 1⟩
def FEED_CORR_EVT_TAIL_MISS : Fld := ⟨R.FEED_CORR_EVT, 3, 1⟩
def FEED_CORR_EVT_CORR_ECC : Fld := ⟨R.FEED_CORR_EVT, 4, 1⟩
def FEED_CORR_EVT_CORR_PERR : Fld := ⟨R.FEED_CORR_EVT, 5, 1⟩
def FEED_CORR_EVT_XF_DEFER : Fld := ⟨R.FEED_CORR_EVT, 6, 1⟩
def FEED_CORR_EVT_TRIM_STARVE : Fld := ⟨R.FEED_CORR_EVT, 7, 1⟩
def FEED_CORR_EVT_BQ_CLAMP : Fld := ⟨R.FEED_CORR_EVT, 8, 1⟩
def FEED_CORR_EVT_LOAD_FAIL : Fld := ⟨R.FEED_CORR_EVT, 9, 1⟩
def FEED_CORR_EVT_EN_EN : Fld := ⟨R.FEED_CORR_EVT_EN, 0, 10⟩
def FEED_TAIL_MISS_ALL : Fld := ⟨R.FEED_TAIL_MISS, 0, 32⟩
def FEED_CORR_ECC_ALL : Fld := ⟨R.FEED_CORR_ECC, 0, 32⟩
def FEED_CORR_PERR_ALL : Fld := ⟨R.FEED_CORR_PERR, 0, 32⟩
def FEED_XF_QUEUED_ALL : Fld := ⟨R.FEED_XF_QUEUED, 0, 32⟩
def FEED_XF_REPLACED_ALL : Fld := ⟨R.FEED_XF_REPLACED, 0, 32⟩
def FEED_XF_NOCHANGE_ALL : Fld := ⟨R.FEED_XF_NOCHANGE, 0, 32⟩
def FEED_XF_DEFER_ALL : Fld := ⟨R.FEED_XF_DEFER, 0, 32⟩
def FEED_TRIM_STARVE_ALL : Fld := ⟨R.FEED_TRIM_STARVE, 0, 32⟩
def FEED_BQ_CLAMP_ALL : Fld := ⟨R.FEED_BQ_CLAMP, 0, 32⟩
def FEED_ID_SEL_FEED : Fld := ⟨R.FEED_ID_SEL, 0, 9⟩
def FEED_ID_SEL_SLOT : Fld := ⟨R.FEED_ID_SEL, 16, 1⟩
def FEED_ID_LO_ID : Fld := ⟨R.FEED_ID_LO, 0, 32⟩
def FEED_ID_HI_ID : Fld := ⟨R.FEED_ID_HI, 0, 32⟩
def FEED_XFCFG_LENLOG : Fld := ⟨R.FEED_XFCFG, 0, 4⟩
def FEED_XFCFG_CURVE : Fld := ⟨R.FEED_XFCFG, 4, 1⟩
def FEED_BANK_STAT_LIVE : Fld := ⟨R.FEED_BANK_STAT, 0, 1⟩
def FEED_BANK_STAT_STATE_A : Fld := ⟨R.FEED_BANK_STAT, 1, 2⟩
def FEED_BANK_STAT_STATE_B : Fld := ⟨R.FEED_BANK_STAT, 3, 2⟩
def FEED_BANK_STAT_XF : Fld := ⟨R.FEED_BANK_STAT, 5, 1⟩
def FEED_BANK_STAT_LINGER : Fld := ⟨R.FEED_BANK_STAT, 6, 1⟩
def FEED_BANK_STAT_PEND : Fld := ⟨R.FEED_BANK_STAT, 7, 2⟩
def FEED_BANK_STAT_PEND_SLOT : Fld := ⟨R.FEED_BANK_STAT, 9, 1⟩
def FEED_BANK_STAT_DELAY : Fld := ⟨R.FEED_BANK_STAT, 16, 14⟩
def FEED_XF_POS_SAMPLES : Fld := ⟨R.FEED_XF_POS, 0, 15⟩
def FEED_TRIM_STAT_TRIM : Fld := ⟨R.FEED_TRIM_STAT, 0, 14⟩
def FEED_TRIM_STAT_XF : Fld := ⟨R.FEED_TRIM_STAT, 14, 1⟩
def FEED_TRIM_STAT_PENDING : Fld := ⟨R.FEED_TRIM_STAT, 15, 1⟩
def FEED_TRIM_STAT_STARVED : Fld := ⟨R.FEED_TRIM_STAT, 16, 1⟩
def FEED_OUT_COMMIT_OUTSEL : Fld := ⟨R.FEED_OUT_COMMIT, 0, 1⟩
def FEED_OUT_EVT_SAT : Fld := ⟨R.FEED_OUT_EVT, 0, 1⟩
def FEED_OUT_EVT_WORD_CLAMP : Fld := ⟨R.FEED_OUT_EVT, 1, 1⟩
def FEED_OUT_EVT_CONV_SAT : Fld := ⟨R.FEED_OUT_EVT, 2, 1⟩
def FEED_OUT_EVT_ZC_TIMEOUT : Fld := ⟨R.FEED_OUT_EVT, 3, 1⟩
def FEED_OUT_EVT_MUTE_IN : Fld := ⟨R.FEED_OUT_EVT, 4, 1⟩
def FEED_OUT_EVT_MUTE_REL : Fld := ⟨R.FEED_OUT_EVT, 5, 1⟩
def FEED_OUT_EVT_CAP_OVERRUN : Fld := ⟨R.FEED_OUT_EVT, 6, 1⟩
def FEED_OUT_EVT_BAD_SEL : Fld := ⟨R.FEED_OUT_EVT, 7, 1⟩
def FEED_OUT_EVT_CONV_UNLOCK : Fld := ⟨R.FEED_OUT_EVT, 8, 1⟩
def FEED_OUT_EVT_EN_EN : Fld := ⟨R.FEED_OUT_EVT_EN, 0, 9⟩
def FEED_WORD_CLAMP_ALL : Fld := ⟨R.FEED_WORD_CLAMP, 0, 32⟩
def FEED_CONV_SAT_ALL : Fld := ⟨R.FEED_CONV_SAT, 0, 32⟩
def FEED_CONV_SAT_LAST_SINK : Fld := ⟨R.FEED_CONV_SAT_LAST, 0, 12⟩
def FEED_ZC_TIMEOUT_ALL : Fld := ⟨R.FEED_ZC_TIMEOUT, 0, 32⟩
def FEED_HWMUTE_CFG_REL_MS : Fld := ⟨R.FEED_HWMUTE_CFG, 0, 10⟩
def FEED_HWMUTE_CFG_LATCH : Fld := ⟨R.FEED_HWMUTE_CFG, 16, 1⟩
def FEED_HWMUTE_CFG_EN : Fld := ⟨R.FEED_HWMUTE_CFG, 17, 1⟩
def FEED_HWMUTE_STAT_PIN : Fld := ⟨R.FEED_HWMUTE_STAT, 0, 1⟩
def FEED_HWMUTE_STAT_ACTIVE : Fld := ⟨R.FEED_HWMUTE_STAT, 1, 1⟩
def FEED_HWMUTE_STAT_SAFE : Fld := ⟨R.FEED_HWMUTE_STAT, 2, 1⟩
def FEED_HWMUTE_STAT_LATCHED : Fld := ⟨R.FEED_HWMUTE_STAT, 3, 1⟩
def FEED_HWMUTE_CLR_GO : Fld := ⟨R.FEED_HWMUTE_CLR, 0, 1⟩
def FEED_BE_STAT_MUTE : Fld := ⟨R.FEED_BE_STAT, 0, 1⟩
def FEED_BE_STAT_ZC_WAIT : Fld := ⟨R.FEED_BE_STAT, 1, 1⟩
def FEED_BE_STAT_RAMP : Fld := ⟨R.FEED_BE_STAT, 2, 1⟩
def FEED_BE_STAT_PEND : Fld := ⟨R.FEED_BE_STAT, 3, 1⟩
def FEED_BE_STAT_LIM_EN : Fld := ⟨R.FEED_BE_STAT, 4, 1⟩
def FEED_BE_STAT_LIMITING : Fld := ⟨R.FEED_BE_STAT, 5, 1⟩
def FEED_BE_STAT_LA_XF : Fld := ⟨R.FEED_BE_STAT, 6, 1⟩
def FEED_BE_STAT_LA : Fld := ⟨R.FEED_BE_STAT, 8, 7⟩
def FEED_BE_STAT_RATED : Fld := ⟨R.FEED_BE_STAT, 16, 1⟩
def FEED_LIM_GR_GR : Fld := ⟨R.FEED_LIM_GR, 0, 16⟩
def FEED_SAT_COUNT : Fld := ⟨R.FEED_SAT, 0, 32⟩
def FEED_OUTSEL_SEL : Fld := ⟨R.FEED_OUTSEL, 0, 16⟩
def FEED_CAP_CTRL_EN : Fld := ⟨R.FEED_CAP_CTRL, 0, 1⟩
def FEED_CAP_BASE_LO_ADDR : Fld := ⟨R.FEED_CAP_BASE_LO, 6, 26⟩
def FEED_CAP_BASE_HI_ADDR : Fld := ⟨R.FEED_CAP_BASE_HI, 0, 8⟩
def FEED_CAP_SIZE_BYTES : Fld := ⟨R.FEED_CAP_SIZE, 0, 25⟩
def FEED_CAP_WR_OFFSET : Fld := ⟨R.FEED_CAP_WR, 0, 24⟩
def FEED_CAP_RD_OFFSET : Fld := ⟨R.FEED_CAP_RD, 0, 24⟩
def FEED_CAP_OVERRUN_COUNT : Fld := ⟨R.FEED_CAP_OVERRUN, 0, 32⟩
def FEED_CAP_T0_LO_TICK : Fld := ⟨R.FEED_CAP_T0_LO, 0, 32⟩
def FEED_CAP_T0_HI_TICK : Fld := ⟨R.FEED_CAP_T0_HI, 0, 32⟩
def FEED_SINK_STAT_XFADE : Fld := ⟨R.FEED_SINK_STAT, 0, 1⟩
def FEED_SINK_STAT_PENDING : Fld := ⟨R.FEED_SINK_STAT, 1, 1⟩
def FEED_SINK_STAT_CONV : Fld := ⟨R.FEED_SINK_STAT, 2, 2⟩
def FEED_SINK_STAT_EMUTE : Fld := ⟨R.FEED_SINK_STAT, 4, 1⟩
def FEED_SINK_STAT_IDLE : Fld := ⟨R.FEED_SINK_STAT, 5, 1⟩
def MEAS_COMMIT_GO : Fld := ⟨R.MEAS_COMMIT, 0, 1⟩
def MEAS_EVT_SETTLED : Fld := ⟨R.MEAS_EVT, 0, 1⟩
def MEAS_EVT_RESULT : Fld := ⟨R.MEAS_EVT, 1, 1⟩
def MEAS_EVT_OVERRUN : Fld := ⟨R.MEAS_EVT, 2, 1⟩
def MEAS_EVT_REFUSED : Fld := ⟨R.MEAS_EVT, 3, 1⟩
def MEAS_EVT_RESTART : Fld := ⟨R.MEAS_EVT, 4, 1⟩
def MEAS_EVT_EN_EN : Fld := ⟨R.MEAS_EVT_EN, 0, 5⟩
def MEAS_STREAM_OVERRUN_ALL : Fld := ⟨R.MEAS_STREAM_OVERRUN, 0, 32⟩
def MEAS_ANA_RESTART_ALL : Fld := ⟨R.MEAS_ANA_RESTART, 0, 32⟩
def MEAS_CH_CFG_TAP : Fld := ⟨R.MEAS_CH_CFG, 0, 16⟩
def MEAS_CH_CFG_DLOG : Fld := ⟨R.MEAS_CH_CFG, 16, 3⟩
def MEAS_CH_LVL_CFG_PLOG : Fld := ⟨R.MEAS_CH_LVL_CFG, 0, 4⟩
def MEAS_CH_LVL_CFG_K : Fld := ⟨R.MEAS_CH_LVL_CFG, 4, 4⟩
def MEAS_CH_LVL_CFG_RANK : Fld := ⟨R.MEAS_CH_LVL_CFG, 8, 4⟩
def MEAS_CH_ANA_CFG_REFCH : Fld := ⟨R.MEAS_CH_ANA_CFG, 0, 5⟩
def MEAS_CH_ANA_CFG_ALIGN : Fld := ⟨R.MEAS_CH_ANA_CFG, 5, 13⟩
def MEAS_CH_ANA_CFG_AVG : Fld := ⟨R.MEAS_CH_ANA_CFG, 18, 1⟩
def MEAS_CH_ANA_CFG_EXPK : Fld := ⟨R.MEAS_CH_ANA_CFG, 19, 4⟩
def MEAS_CH_ANA_CFG_ANA_EN : Fld := ⟨R.MEAS_CH_ANA_CFG, 23, 1⟩
def MEAS_CH_ANA_CFG_ONESHOT : Fld := ⟨R.MEAS_CH_ANA_CFG, 24, 1⟩
def MEAS_CH_ANA_N_NAVG : Fld := ⟨R.MEAS_CH_ANA_N, 0, 16⟩
def MEAS_CH_ANA_N_UPDATE : Fld := ⟨R.MEAS_CH_ANA_N, 16, 8⟩
def MEAS_CH_RES_BASE_LO_ADDR : Fld := ⟨R.MEAS_CH_RES_BASE_LO, 8, 24⟩
def MEAS_CH_RES_BASE_HI_ADDR : Fld := ⟨R.MEAS_CH_RES_BASE_HI, 0, 8⟩
def MEAS_CH_STR_CTRL_EN : Fld := ⟨R.MEAS_CH_STR_CTRL, 0, 1⟩
def MEAS_CH_STR_BASE_LO_ADDR : Fld := ⟨R.MEAS_CH_STR_BASE_LO, 8, 24⟩
def MEAS_CH_STR_BASE_HI_ADDR : Fld := ⟨R.MEAS_CH_STR_BASE_HI, 0, 8⟩
def MEAS_CH_STR_SIZE_BYTES : Fld := ⟨R.MEAS_CH_STR_SIZE, 0, 25⟩
def MEAS_CH_STR_WR_OFFSET : Fld := ⟨R.MEAS_CH_STR_WR, 0, 24⟩
def MEAS_CH_STR_RD_OFFSET : Fld := ⟨R.MEAS_CH_STR_RD, 0, 24⟩
def MEAS_CH_STAT_SETTLED : Fld := ⟨R.MEAS_CH_STAT, 0, 1⟩
def MEAS_CH_STAT_LVL_VALID : Fld := ⟨R.MEAS_CH_STAT, 1, 1⟩
def MEAS_CH_STAT_ANA_RUN : Fld := ⟨R.MEAS_CH_STAT, 2, 1⟩
def MEAS_CH_STAT_ABSENT : Fld := ⟨R.MEAS_CH_STAT, 3, 1⟩
def MEAS_CH_STAT_REF_MISMATCH : Fld := ⟨R.MEAS_CH_STAT, 4, 1⟩
def MEAS_CH_STAT_STREAMING : Fld := ⟨R.MEAS_CH_STAT, 5, 1⟩
def MEAS_CH_LVL_RMS : Fld := ⟨R.MEAS_CH_LVL, 0, 16⟩
def MEAS_CH_LVL_PEAK : Fld := ⟨R.MEAS_CH_LVL, 16, 16⟩
def MEAS_CH_RES_SEQ_COUNT : Fld := ⟨R.MEAS_CH_RES_SEQ, 0, 32⟩
def MEAS_CH_FRAMES_COUNT : Fld := ⟨R.MEAS_CH_FRAMES, 0, 32⟩
def MEAS_CH_FIRST_LO_INDEX : Fld := ⟨R.MEAS_CH_FIRST_LO, 0, 32⟩
def MEAS_CH_FIRST_HI_INDEX : Fld := ⟨R.MEAS_CH_FIRST_HI, 0, 32⟩
def FAB_STAT_RUN : Fld := ⟨R.FAB_STAT, 0, 1⟩
def FAB_STAT_BACKUP : Fld := ⟨R.FAB_STAT, 1, 1⟩
def FAB_STAT_WAKING : Fld := ⟨R.FAB_STAT, 2, 1⟩
def FAB_EVT_LATE : Fld := ⟨R.FAB_EVT, 0, 1⟩
def FAB_EVT_TICK_MISS : Fld := ⟨R.FAB_EVT, 1, 1⟩
def FAB_EVT_HANG : Fld := ⟨R.FAB_EVT, 2, 1⟩
def FAB_EVT_WAKE : Fld := ⟨R.FAB_EVT, 3, 1⟩
def FAB_EVT_GATE : Fld := ⟨R.FAB_EVT, 4, 1⟩
def FAB_EVT_EN_EN : Fld := ⟨R.FAB_EVT_EN, 0, 5⟩
def FAB_GATE_CFG_GATE_TICKS : Fld := ⟨R.FAB_GATE_CFG, 0, 13⟩
def FAB_GATE_CFG_PE_GATE : Fld := ⟨R.FAB_GATE_CFG, 16, 1⟩
def FAB_GATE_CFG_FE_GATE : Fld := ⟨R.FAB_GATE_CFG, 17, 1⟩
def FAB_TICK_SLACK_SLACK : Fld := ⟨R.FAB_TICK_SLACK, 0, 16⟩
def FAB_TICK_SLACK_WORST : Fld := ⟨R.FAB_TICK_SLACK, 16, 7⟩
def FAB_TICK_SLACK_MISS : Fld := ⟨R.FAB_TICK_SLACK, 31, 1⟩
def FAB_SLACK_MIN_SLACK : Fld := ⟨R.FAB_SLACK_MIN, 0, 16⟩
def FAB_SLACK_MIN_WORST : Fld := ⟨R.FAB_SLACK_MIN, 16, 7⟩
def FAB_MIN_CLR_GO : Fld := ⟨R.FAB_MIN_CLR, 0, 1⟩
def FAB_LATE_TICKS_COUNT : Fld := ⟨R.FAB_LATE_TICKS, 0, 32⟩
def FAB_MISS_TICKS_COUNT : Fld := ⟨R.FAB_MISS_TICKS, 0, 32⟩
def FAB_MISS_TICK_LO_TICK : Fld := ⟨R.FAB_MISS_TICK_LO, 0, 32⟩
def FAB_MISS_TICK_HI_TICK : Fld := ⟨R.FAB_MISS_TICK_HI, 0, 32⟩
def FAB_HANG_ENG_ENG : Fld := ⟨R.FAB_HANG_ENG, 0, 7⟩
def FAB_HANG_ENG_VALID : Fld := ⟨R.FAB_HANG_ENG, 7, 1⟩
def FAB_GATE_STAT_PG : Fld := ⟨R.FAB_GATE_STAT, 0, 16⟩
def FAB_GATE_STAT_FG : Fld := ⟨R.FAB_GATE_STAT, 16, 4⟩
def FAB_WAKE_STAT_PG : Fld := ⟨R.FAB_WAKE_STAT, 0, 16⟩
def FAB_WAKE_STAT_FG : Fld := ⟨R.FAB_WAKE_STAT, 16, 4⟩
def FAB_WAKE_DEFER_COUNT : Fld := ⟨R.FAB_WAKE_DEFER, 0, 32⟩
def FAB_SLACK_HIST_COUNT : Fld := ⟨R.FAB_SLACK_HIST, 0, 32⟩
def FAB_ENG_SLACK_LAST : Fld := ⟨R.FAB_ENG_SLACK, 0, 16⟩
def FAB_ENG_SLACK_MIN : Fld := ⟨R.FAB_ENG_SLACK, 16, 16⟩
def FAB_ENG_LATE_COUNT : Fld := ⟨R.FAB_ENG_LATE, 0, 32⟩
def FAB_ENG_MISS_COUNT : Fld := ⟨R.FAB_ENG_MISS, 0, 32⟩
def FAB_ENG_CYC_CYC : Fld := ⟨R.FAB_ENG_CYC, 0, 18⟩
def FAB_IBEX_STAT_TIER : Fld := ⟨R.FAB_IBEX_STAT, 0, 2⟩
def FAB_IBEX_STAT_PHASE : Fld := ⟨R.FAB_IBEX_STAT, 2, 3⟩
def FAB_IBEX_STAT_VDD : Fld := ⟨R.FAB_IBEX_STAT, 16, 10⟩
def FAB_IBEX_CFG_TARGET : Fld := ⟨R.FAB_IBEX_CFG, 0, 10⟩
def FAB_IBEX_CFG_HYST : Fld := ⟨R.FAB_IBEX_CFG, 12, 6⟩
def FAB_IBEX_CFG_XF_MARGIN : Fld := ⟨R.FAB_IBEX_CFG, 18, 7⟩
def FAB_IBEX_CFG_HOLD : Fld := ⟨R.FAB_IBEX_CFG, 31, 1⟩
def FAB_IBEX_EVT_STEP : Fld := ⟨R.FAB_IBEX_EVT, 0, 1⟩
def FAB_IBEX_EVT_EMERG : Fld := ⟨R.FAB_IBEX_EVT, 1, 1⟩
def FAB_IBEX_EVT_TIER : Fld := ⟨R.FAB_IBEX_EVT, 2, 1⟩
def FAB_IBEX_EVT_TIER_REQ : Fld := ⟨R.FAB_IBEX_EVT, 3, 1⟩
def FAB_IBEX_EVT_AVS_ERR : Fld := ⟨R.FAB_IBEX_EVT, 4, 1⟩
def FAB_IBEX_EVT_FAWN_FAULT : Fld := ⟨R.FAB_IBEX_EVT, 5, 1⟩
def FAB_IBEX_EVT_FLOOR : Fld := ⟨R.FAB_IBEX_EVT, 6, 1⟩
def FAB_IBEX_EVT_STUCK : Fld := ⟨R.FAB_IBEX_EVT, 7, 1⟩
def FAB_IBEX_EVT_EN_EN : Fld := ⟨R.FAB_IBEX_EVT_EN, 0, 8⟩
def FAB_IBEX_APPROVE_ONCE_M2 : Fld := ⟨R.FAB_IBEX_APPROVE, 0, 1⟩
def FAB_IBEX_APPROVE_ONCE_M3 : Fld := ⟨R.FAB_IBEX_APPROVE, 1, 1⟩
def FAB_IBEX_APPROVE_STANDING_M2 : Fld := ⟨R.FAB_IBEX_APPROVE, 8, 1⟩
def FAB_IBEX_APPROVE_STANDING_M3 : Fld := ⟨R.FAB_IBEX_APPROVE, 9, 1⟩
def FAB_IBEX_APPROVE_DENY : Fld := ⟨R.FAB_IBEX_APPROVE, 16, 1⟩
def FAB_IBEX_REQ_TIER : Fld := ⟨R.FAB_IBEX_REQ, 0, 2⟩
def FAB_IBEX_REQ_PENDING : Fld := ⟨R.FAB_IBEX_REQ, 2, 1⟩
def FAB_VFLOOR_BIRTH : Fld := ⟨R.FAB_VFLOOR, 0, 10⟩
def FAB_VFLOOR_NOW : Fld := ⟨R.FAB_VFLOOR, 16, 10⟩
def FAB_PRED_TIER : Fld := ⟨R.FAB_PRED, 0, 16⟩
def FAB_PRED_XF : Fld := ⟨R.FAB_PRED, 16, 16⟩
def FAB_AGE_INDEX : Fld := ⟨R.FAB_AGE, 0, 16⟩
def FAB_AGE_WORST : Fld := ⟨R.FAB_AGE, 16, 6⟩
def FAB_AGE_HEALTHY : Fld := ⟨R.FAB_AGE, 24, 6⟩
def FAB_SUP_OPT_ISTEP : Fld := ⟨R.FAB_SUP_OPT, 0, 8⟩
def FAB_SUP_OPT_SLEW : Fld := ⟨R.FAB_SUP_OPT, 8, 8⟩
def FAB_SUP_OPT_AVS_ADDR : Fld := ⟨R.FAB_SUP_OPT, 16, 4⟩
def FAB_IBEX_UP_COUNT : Fld := ⟨R.FAB_IBEX_UP, 0, 32⟩
def FAB_IBEX_DOWN_COUNT : Fld := ⟨R.FAB_IBEX_DOWN, 0, 32⟩
def FAB_EMERG_COUNT : Fld := ⟨R.FAB_EMERG, 0, 32⟩
def FAB_AVS_ERR_COUNT : Fld := ⟨R.FAB_AVS_ERR, 0, 32⟩
def FAB_TIER_CHG_COUNT : Fld := ⟨R.FAB_TIER_CHG, 0, 32⟩
def FAB_HERD_STAT_QUEUED : Fld := ⟨R.FAB_HERD_STAT, 0, 5⟩
def FAB_HERD_STAT_WINDOWS : Fld := ⟨R.FAB_HERD_STAT, 8, 5⟩
def FAB_LOG_STAT_COUNT : Fld := ⟨R.FAB_LOG_STAT, 0, 13⟩
def FAB_LOG_STAT_NEWEST : Fld := ⟨R.FAB_LOG_STAT, 16, 16⟩
def FAB_FAWN_RATE_RATE : Fld := ⟨R.FAB_FAWN_RATE, 0, 24⟩
def FAB_FAWN_AGE_INDEX : Fld := ⟨R.FAB_FAWN_AGE, 0, 16⟩
def FAB_FAWN_AGE_FAULT : Fld := ⟨R.FAB_FAWN_AGE, 16, 1⟩
def SYS_PLACE_STAT_HOST : Fld := ⟨R.SYS_PLACE_STAT, 0, 8⟩
def SYS_PLACE_STAT_PEND : Fld := ⟨R.SYS_PLACE_STAT, 8, 8⟩
def SYS_PLACE_CHG_COUNT : Fld := ⟨R.SYS_PLACE_CHG, 0, 32⟩
def SYS_PLACE_DISCARD_COUNT : Fld := ⟨R.SYS_PLACE_DISCARD, 0, 32⟩
def CMD_STAT_READY : Fld := ⟨R.CMD_STAT, 0, 1⟩
def CMD_STAT_SESSIONS : Fld := ⟨R.CMD_STAT, 4, 5⟩
def CMD_STAT_FLOWS : Fld := ⟨R.CMD_STAT, 16, 7⟩
def CMD_EVT_RQ_FULL : Fld := ⟨R.CMD_EVT, 0, 1⟩
def CMD_EVT_BAD_DOORBELL : Fld := ⟨R.CMD_EVT, 1, 1⟩
def CMD_EVT_GAP_TIMEOUT : Fld := ⟨R.CMD_EVT, 2, 1⟩
def CMD_EVT_SESSION_TIMEOUT : Fld := ⟨R.CMD_EVT, 3, 1⟩
def CMD_EVT_POOL_FULL : Fld := ⟨R.CMD_EVT, 4, 1⟩
def CMD_EVT_EN_EN : Fld := ⟨R.CMD_EVT_EN, 0, 5⟩
def CMD_RX_BAD_ALL : Fld := ⟨R.CMD_RX_BAD, 0, 32⟩
def CMD_CRC_ERR_ALL : Fld := ⟨R.CMD_CRC_ERR, 0, 32⟩
def CMD_RX_DUP_ALL : Fld := ⟨R.CMD_RX_DUP, 0, 32⟩
def CMD_RX_DROP_ALL : Fld := ⟨R.CMD_RX_DROP, 0, 32⟩
def CMD_GAP_TIMEOUT_ALL : Fld := ⟨R.CMD_GAP_TIMEOUT, 0, 32⟩
def CMD_UDP_FOREIGN_ALL : Fld := ⟨R.CMD_UDP_FOREIGN, 0, 32⟩
def CMD_UDP_CFG_PORT : Fld := ⟨R.CMD_UDP_CFG, 0, 16⟩
def CMD_UDP_CFG_EN : Fld := ⟨R.CMD_UDP_CFG, 16, 1⟩
def CMD_GAP_CFG_MS : Fld := ⟨R.CMD_GAP_CFG, 0, 10⟩
def CMD_SPI_CFG_EN : Fld := ⟨R.CMD_SPI_CFG, 0, 1⟩
def CMD_SPI_CFG_IRQ : Fld := ⟨R.CMD_SPI_CFG, 1, 1⟩
def CMD_UDP_ALLOW_ADDR_IP : Fld := ⟨R.CMD_UDP_ALLOW_ADDR, 0, 32⟩
def CMD_UDP_ALLOW_MASK_PREFIX : Fld := ⟨R.CMD_UDP_ALLOW_MASK, 0, 6⟩
def CMD_UDP_ALLOW_MASK_EN : Fld := ⟨R.CMD_UDP_ALLOW_MASK, 31, 1⟩
def CMD_QP_CQ_BASE_LO_ADDR : Fld := ⟨R.CMD_QP_CQ_BASE_LO, 6, 26⟩
def CMD_QP_CQ_BASE_HI_ADDR : Fld := ⟨R.CMD_QP_CQ_BASE_HI, 0, 32⟩
def CMD_QP_RQ_BASE_LO_ADDR : Fld := ⟨R.CMD_QP_RQ_BASE_LO, 12, 20⟩
def CMD_QP_RQ_BASE_HI_ADDR : Fld := ⟨R.CMD_QP_RQ_BASE_HI, 0, 32⟩
def CMD_QP_WB_LO_ADDR : Fld := ⟨R.CMD_QP_WB_LO, 3, 29⟩
def CMD_QP_WB_HI_ADDR : Fld := ⟨R.CMD_QP_WB_HI, 0, 32⟩
def CMD_QP_CTRL_EN : Fld := ⟨R.CMD_QP_CTRL, 0, 1⟩
def CMD_QP_CTRL_IRQ : Fld := ⟨R.CMD_QP_CTRL, 1, 1⟩
def CMD_QP_CTRL_CQ_SIZE : Fld := ⟨R.CMD_QP_CTRL, 4, 4⟩
def CMD_QP_CTRL_RQ_SIZE : Fld := ⟨R.CMD_QP_CTRL, 8, 4⟩
def CMD_QP_CTRL_VEC : Fld := ⟨R.CMD_QP_CTRL, 16, 6⟩
def CMD_QP_CQ_TAIL_INDEX : Fld := ⟨R.CMD_QP_CQ_TAIL, 0, 12⟩
def CMD_QP_CQ_HEAD_INDEX : Fld := ⟨R.CMD_QP_CQ_HEAD, 0, 12⟩
def CMD_QP_RQ_TAIL_INDEX : Fld := ⟨R.CMD_QP_RQ_TAIL, 0, 10⟩
def CMD_QP_RQ_HEAD_INDEX : Fld := ⟨R.CMD_QP_RQ_HEAD, 0, 10⟩
def CMD_SESS_OPEN : Fld := ⟨R.CMD_SESS, 0, 1⟩
def CMD_SESS_TRANSPORT : Fld := ⟨R.CMD_SESS, 1, 2⟩
def CMD_SESS_QP : Fld := ⟨R.CMD_SESS, 3, 1⟩
def CMD_SESS_FLOWS : Fld := ⟨R.CMD_SESS, 4, 7⟩
def CMD_SESS_IDLE : Fld := ⟨R.CMD_SESS, 16, 12⟩
def CMD_FLOW_NEXT : Fld := ⟨R.CMD_FLOW, 0, 16⟩
def CMD_FLOW_SESSION : Fld := ⟨R.CMD_FLOW, 16, 4⟩
def CMD_FLOW_NUMBER : Fld := ⟨R.CMD_FLOW, 20, 8⟩
def CMD_FLOW_GROUP : Fld := ⟨R.CMD_FLOW, 28, 3⟩
def CMD_FLOW_OPEN : Fld := ⟨R.CMD_FLOW, 31, 1⟩
def SCHED_STAT_CORES : Fld := ⟨R.SCHED_STAT, 0, 6⟩
def SCHED_STAT_BACKUP : Fld := ⟨R.SCHED_STAT, 8, 1⟩
def SCHED_STAT_READY : Fld := ⟨R.SCHED_STAT, 16, 9⟩
def SCHED_EVT_LAT_HIGH : Fld := ⟨R.SCHED_EVT, 0, 1⟩
def SCHED_EVT_CORE_FAULT : Fld := ⟨R.SCHED_EVT, 1, 1⟩
def SCHED_EVT_URG_DEMOTE : Fld := ⟨R.SCHED_EVT, 2, 1⟩
def SCHED_EVT_THREADS_OUT : Fld := ⟨R.SCHED_EVT, 3, 1⟩
def SCHED_EVT_REFUSED : Fld := ⟨R.SCHED_EVT, 4, 1⟩
def SCHED_EVT_EN_EN : Fld := ⟨R.SCHED_EVT_EN, 0, 5⟩
def SCHED_CFG_LAT_LIMIT : Fld := ⟨R.SCHED_CFG, 0, 16⟩
def SCHED_CFG_WDOG_MS : Fld := ⟨R.SCHED_CFG, 16, 10⟩
def SCHED_READY_MAP_LEVEL : Fld := ⟨R.SCHED_READY_MAP, 0, 32⟩
def SCHED_THREADS_FREE : Fld := ⟨R.SCHED_THREADS, 0, 8⟩
def SCHED_THREADS_WAIT : Fld := ⟨R.SCHED_THREADS, 8, 10⟩
def SCHED_PREEMPT_ALL : Fld := ⟨R.SCHED_PREEMPT, 0, 32⟩
def SCHED_LAT_HIGH_ALL : Fld := ⟨R.SCHED_LAT_HIGH, 0, 32⟩
def SCHED_URG_DEMOTE_ALL : Fld := ⟨R.SCHED_URG_DEMOTE, 0, 32⟩
def SCHED_CORE_THREAD : Fld := ⟨R.SCHED_CORE, 0, 8⟩
def SCHED_CORE_LEVEL : Fld := ⟨R.SCHED_CORE, 8, 5⟩
def SCHED_CORE_GROUP : Fld := ⟨R.SCHED_CORE, 16, 3⟩
def SCHED_CORE_IDLE : Fld := ⟨R.SCHED_CORE, 24, 1⟩
def SCHED_GRP_WEIGHT_WEIGHT : Fld := ⟨R.SCHED_GRP_WEIGHT, 0, 8⟩
def SCHED_GRP_RESV_RESV : Fld := ⟨R.SCHED_GRP_RESV, 0, 7⟩
def SCHED_GRP_STAT_READY : Fld := ⟨R.SCHED_GRP_STAT, 0, 8⟩
def SCHED_GRP_STAT_THREADS : Fld := ⟨R.SCHED_GRP_STAT, 8, 8⟩
def SCHED_GRP_STAT_WAIT : Fld := ⟨R.SCHED_GRP_STAT, 16, 10⟩
def SCHED_GRP_DISPATCH_COUNT : Fld := ⟨R.SCHED_GRP_DISPATCH, 0, 32⟩
def SCHED_GRP_RUN_LO_CYCLES : Fld := ⟨R.SCHED_GRP_RUN_LO, 0, 32⟩
def SCHED_GRP_RUN_HI_CYCLES : Fld := ⟨R.SCHED_GRP_RUN_HI, 0, 32⟩
def SCHED_GRP_LAT_MAX_NS100 : Fld := ⟨R.SCHED_GRP_LAT_MAX, 0, 32⟩
def SCHED_THREAD_STATE : Fld := ⟨R.SCHED_THREAD, 0, 2⟩
def SCHED_THREAD_LEVEL : Fld := ⟨R.SCHED_THREAD, 8, 5⟩
def SCHED_THREAD_GROUP : Fld := ⟨R.SCHED_THREAD, 16, 3⟩
def SCHED_THREAD_CORE : Fld := ⟨R.SCHED_THREAD, 20, 3⟩
def ASP_CFG_FORMAT : Fld := ⟨R.ASP_CFG, 0, 2⟩
def ASP_CFG_DIR : Fld := ⟨R.ASP_CFG, 2, 1⟩
def ASP_CFG_ROLE : Fld := ⟨R.ASP_CFG, 3, 1⟩
def ASP_CFG_SLOTS : Fld := ⟨R.ASP_CFG, 4, 6⟩
def ASP_CFG_WIDTH : Fld := ⟨R.ASP_CFG, 10, 2⟩
def ASP_CFG_WORD : Fld := ⟨R.ASP_CFG, 12, 2⟩
def ASP_CFG_RATE : Fld := ⟨R.ASP_CFG, 16, 3⟩
def ASP_CFG_EDGE : Fld := ⟨R.ASP_CFG, 20, 1⟩
def ASP_CFG_FSINV : Fld := ⟨R.ASP_CFG, 21, 1⟩
def ASP_CFG_FS1 : Fld := ⟨R.ASP_CFG, 22, 1⟩
def ASP_CTRL_EN : Fld := ⟨R.ASP_CTRL, 0, 1⟩
def ASP_CTRL_BCW : Fld := ⟨R.ASP_CTRL, 1, 1⟩
def ASP_CTRL_TRI : Fld := ⟨R.ASP_CTRL, 2, 1⟩
def ASP_COMMIT_GO : Fld := ⟨R.ASP_COMMIT, 0, 1⟩
def ASP_MASK_MASK : Fld := ⟨R.ASP_MASK, 0, 32⟩
def ASP_MASK_LIVE_MASK : Fld := ⟨R.ASP_MASK_LIVE, 0, 32⟩
def ASP_STAT_EN : Fld := ⟨R.ASP_STAT, 0, 1⟩
def ASP_STAT_LOSS : Fld := ⟨R.ASP_STAT, 1, 1⟩
def ASP_STAT_MASTER : Fld := ⟨R.ASP_STAT, 2, 1⟩
def ASP_STAT_SYNC : Fld := ⟨R.ASP_STAT, 3, 1⟩
def ASP_STAT_RATE : Fld := ⟨R.ASP_STAT, 4, 3⟩
def ASP_STAT_STATE : Fld := ⟨R.ASP_STAT, 8, 2⟩
def ASP_STAT_CAUSE : Fld := ⟨R.ASP_STAT, 12, 3⟩
def ASP_STAT_WRONG_RATE : Fld := ⟨R.ASP_STAT, 15, 1⟩
def ASP_STAT_MASKPEND : Fld := ⟨R.ASP_STAT, 16, 1⟩
def ASP_STAT_FILL : Fld := ⟨R.ASP_STAT, 17, 3⟩
def ASP_RATE_MHZ : Fld := ⟨R.ASP_RATE, 0, 32⟩
def ASP_STABLE_MHZ : Fld := ⟨R.ASP_STABLE, 0, 32⟩
def ASP_PHASE_PHASE : Fld := ⟨R.ASP_PHASE, 0, 32⟩
def ASP_EVT_LOSS : Fld := ⟨R.ASP_EVT, 0, 1⟩
def ASP_EVT_ACQ : Fld := ⟨R.ASP_EVT, 1, 1⟩
def ASP_EVT_RATE_MOVE : Fld := ⟨R.ASP_EVT, 2, 1⟩
def ASP_EVT_GLITCH : Fld := ⟨R.ASP_EVT, 3, 1⟩
def ASP_EVT_SLIP : Fld := ⟨R.ASP_EVT, 4, 1⟩
def ASP_EVT_WRONG_RATE : Fld := ⟨R.ASP_EVT, 5, 1⟩
def ASP_EVT_REFUSED : Fld := ⟨R.ASP_EVT, 6, 1⟩
def ASP_EVT_EN_EN : Fld := ⟨R.ASP_EVT_EN, 0, 7⟩
def ASP_SLIP_COUNT : Fld := ⟨R.ASP_SLIP, 0, 32⟩
def ASP_GLITCH_COUNT : Fld := ⟨R.ASP_GLITCH, 0, 32⟩
def ASP_LOSSES_COUNT : Fld := ⟨R.ASP_LOSSES, 0, 32⟩
def ASP_CNT_CLR_GO : Fld := ⟨R.ASP_CNT_CLR, 0, 1⟩
def ASP_TERM_FRAMES : Fld := ⟨R.ASP_TERM, 0, 12⟩
def ASP_LOAD_HALF : Fld := ⟨R.ASP_LOAD, 0, 12⟩
def ASP_BANK_CFG_SRC : Fld := ⟨R.ASP_BANK_CFG, 0, 2⟩
def ASP_BANK_CFG_RATIO : Fld := ⟨R.ASP_BANK_CFG, 2, 2⟩
def ASP_BANK_STAT_FREQ : Fld := ⟨R.ASP_BANK_STAT, 0, 26⟩
def ASP_BANK_STAT_FAMILY : Fld := ⟨R.ASP_BANK_STAT, 28, 1⟩
def ASP_BANK_STAT_PRESENT : Fld := ⟨R.ASP_BANK_STAT, 30, 1⟩
def ASP_BANK_STAT_VIO33 : Fld := ⟨R.ASP_BANK_STAT, 31, 1⟩
def NET_CFG_SPEED : Fld := ⟨R.NET_CFG, 0, 3⟩
def NET_CFG_EEE : Fld := ⟨R.NET_CFG, 4, 1⟩
def NET_CFG_DOWNSHIFT : Fld := ⟨R.NET_CFG, 5, 1⟩
def NET_CFG_RUNT_SILENT : Fld := ⟨R.NET_CFG, 6, 1⟩
def NET_CFG_CUT_THROUGH : Fld := ⟨R.NET_CFG, 7, 1⟩
def NET_CFG_PAUSE_RX : Fld := ⟨R.NET_CFG, 8, 1⟩
def NET_STAT_LINK : Fld := ⟨R.NET_STAT, 0, 1⟩
def NET_STAT_SPEED : Fld := ⟨R.NET_STAT, 1, 3⟩
def NET_STAT_LPI : Fld := ⟨R.NET_STAT, 4, 1⟩
def NET_STAT_PAUSED : Fld := ⟨R.NET_STAT, 5, 1⟩
def NET_STAT_TIME_ACTIVE : Fld := ⟨R.NET_STAT, 6, 1⟩
def NET_STAT_CTRL_PORT : Fld := ⟨R.NET_STAT, 7, 1⟩
def NET_STAT_DOWNSHIFTED : Fld := ⟨R.NET_STAT, 8, 1⟩
def NET_EVT_LINK_UP : Fld := ⟨R.NET_EVT, 0, 1⟩
def NET_EVT_LINK_DOWN : Fld := ⟨R.NET_EVT, 1, 1⟩
def NET_EVT_RUNT : Fld := ⟨R.NET_EVT, 2, 1⟩
def NET_EVT_NOBUF : Fld := ⟨R.NET_EVT, 3, 1⟩
def NET_EVT_OVERFLOW : Fld := ⟨R.NET_EVT, 4, 1⟩
def NET_EVT_PAUSE_WD : Fld := ⟨R.NET_EVT, 5, 1⟩
def NET_EVT_UNDERRUN : Fld := ⟨R.NET_EVT, 6, 1⟩
def NET_EVT_MEDIA_LATE : Fld := ⟨R.NET_EVT, 7, 1⟩
def NET_EVT_DOWNSHIFT : Fld := ⟨R.NET_EVT, 8, 1⟩
def NET_EVT_HALF : Fld := ⟨R.NET_EVT, 9, 1⟩
def NET_EVT_BAD_DOORBELL : Fld := ⟨R.NET_EVT, 10, 1⟩
def NET_EVT_EN_EN : Fld := ⟨R.NET_EVT_EN, 0, 11⟩
def NET_PAUSE_CFG_PAUSE_WD : Fld := ⟨R.NET_PAUSE_CFG, 0, 10⟩
def NET_DS_CFG_DS_MBPS : Fld := ⟨R.NET_DS_CFG, 0, 13⟩
def NET_DS_CFG_DS_HOLD : Fld := ⟨R.NET_DS_CFG, 16, 8⟩
def NET_CT_CFG_CT_BYTES : Fld := ⟨R.NET_CT_CFG, 0, 14⟩
def NET_CT_LIVE_BYTES : Fld := ⟨R.NET_CT_LIVE, 0, 14⟩
def NET_MTU_BYTES : Fld := ⟨R.NET_MTU, 0, 14⟩
def NET_MEDIA_BUDGET_US : Fld := ⟨R.NET_MEDIA_BUDGET, 0, 10⟩
def NET_MDIO_CFG_DIV : Fld := ⟨R.NET_MDIO_CFG, 0, 8⟩
def NET_CNT_CLR_GO : Fld := ⟨R.NET_CNT_CLR, 0, 1⟩
def NET_RX_FRAMES_COUNT : Fld := ⟨R.NET_RX_FRAMES, 0, 32⟩
def NET_TX_FRAMES_COUNT : Fld := ⟨R.NET_TX_FRAMES, 0, 32⟩
def NET_RX_NOBUF_DROP_COUNT : Fld := ⟨R.NET_RX_NOBUF_DROP, 0, 32⟩
def NET_RX_OVERFLOW_COUNT : Fld := ⟨R.NET_RX_OVERFLOW, 0, 32⟩
def NET_RUNT_COUNT : Fld := ⟨R.NET_RUNT, 0, 32⟩
def NET_FCS_ERR_COUNT : Fld := ⟨R.NET_FCS_ERR, 0, 32⟩
def NET_OVERSIZE_COUNT : Fld := ⟨R.NET_OVERSIZE, 0, 32⟩
def NET_PAUSE_WD_COUNT : Fld := ⟨R.NET_PAUSE_WD, 0, 32⟩
def NET_MEDIA_LATE_DROP_COUNT : Fld := ⟨R.NET_MEDIA_LATE_DROP, 0, 32⟩
def NET_TX_UNDERRUN_COUNT : Fld := ⟨R.NET_TX_UNDERRUN, 0, 32⟩
def NET_PAUSE_RCVD_COUNT : Fld := ⟨R.NET_PAUSE_RCVD, 0, 32⟩
def NET_RX_NOMATCH_COUNT : Fld := ⟨R.NET_RX_NOMATCH, 0, 32⟩
def NET_TX_DOWN_DROP_COUNT : Fld := ⟨R.NET_TX_DOWN_DROP, 0, 32⟩
def NET_CLASS_VALUE : Fld := ⟨R.NET_CLASS, 0, 16⟩
def NET_CLASS_KIND : Fld := ⟨R.NET_CLASS, 16, 2⟩
def NET_CLASS_RING : Fld := ⟨R.NET_CLASS, 24, 3⟩
def NET_RX_BASE_LO_ADDR : Fld := ⟨R.NET_RX_BASE_LO, 6, 26⟩
def NET_RX_BASE_HI_ADDR : Fld := ⟨R.NET_RX_BASE_HI, 0, 8⟩
def NET_RX_CTRL_EN : Fld := ⟨R.NET_RX_CTRL, 0, 1⟩
def NET_RX_CTRL_SIZE : Fld := ⟨R.NET_RX_CTRL, 4, 4⟩
def NET_RX_CTRL_BUFSZ : Fld := ⟨R.NET_RX_CTRL, 16, 14⟩
def NET_RX_HEAD_INDEX : Fld := ⟨R.NET_RX_HEAD, 0, 12⟩
def NET_RX_TAIL_INDEX : Fld := ⟨R.NET_RX_TAIL, 0, 12⟩
def NET_RX_POOL_LO_ADDR : Fld := ⟨R.NET_RX_POOL_LO, 6, 26⟩
def NET_RX_POOL_HI_ADDR : Fld := ⟨R.NET_RX_POOL_HI, 0, 8⟩
def NET_RX_POOL_HEAD_INDEX : Fld := ⟨R.NET_RX_POOL_HEAD, 0, 12⟩
def NET_RX_POOL_TAIL_INDEX : Fld := ⟨R.NET_RX_POOL_TAIL, 0, 12⟩
def NET_TX_BASE_LO_ADDR : Fld := ⟨R.NET_TX_BASE_LO, 6, 26⟩
def NET_TX_BASE_HI_ADDR : Fld := ⟨R.NET_TX_BASE_HI, 0, 8⟩
def NET_TX_CTRL_EN : Fld := ⟨R.NET_TX_CTRL, 0, 1⟩
def NET_TX_CTRL_SIZE : Fld := ⟨R.NET_TX_CTRL, 4, 4⟩
def NET_TX_HEAD_INDEX : Fld := ⟨R.NET_TX_HEAD, 0, 12⟩
def NET_TX_TAIL_INDEX : Fld := ⟨R.NET_TX_TAIL, 0, 12⟩
def STRM_REGION_LO_ADDR : Fld := ⟨R.STRM_REGION_LO, 20, 12⟩
def STRM_REGION_HI_ADDR : Fld := ⟨R.STRM_REGION_HI, 0, 8⟩
def STRM_REGION_HI_EN : Fld := ⟨R.STRM_REGION_HI, 31, 1⟩
def STRM_STAT_IN_RUN : Fld := ⟨R.STRM_STAT, 0, 9⟩
def STRM_STAT_OUT_RUN : Fld := ⟨R.STRM_STAT, 16, 9⟩
def STRM_EVT_LOST : Fld := ⟨R.STRM_EVT, 0, 1⟩
def STRM_EVT_RESUME : Fld := ⟨R.STRM_EVT, 1, 1⟩
def STRM_EVT_LATE : Fld := ⟨R.STRM_EVT, 2, 1⟩
def STRM_EVT_EARLY : Fld := ⟨R.STRM_EVT, 3, 1⟩
def STRM_EVT_BAD_PAYLOAD : Fld := ⟨R.STRM_EVT, 4, 1⟩
def STRM_EVT_DISC_CHANGE : Fld := ⟨R.STRM_EVT, 5, 1⟩
def STRM_EVT_EN_EN : Fld := ⟨R.STRM_EVT_EN, 0, 6⟩
def STRM_CFG_LOST_MS : Fld := ⟨R.STRM_CFG, 0, 8⟩
def STRM_CNT_CLR_GO : Fld := ⟨R.STRM_CNT_CLR, 0, 1⟩
def STRM_IN_STAT_STATE : Fld := ⟨R.STRM_IN_STAT, 0, 2⟩
def STRM_IN_STAT_SEEN_A : Fld := ⟨R.STRM_IN_STAT, 2, 1⟩
def STRM_IN_STAT_SEEN_B : Fld := ⟨R.STRM_IN_STAT, 3, 1⟩
def STRM_IN_STAT_FILL : Fld := ⟨R.STRM_IN_STAT, 16, 16⟩
def STRM_IN_PKTS_COUNT : Fld := ⟨R.STRM_IN_PKTS, 0, 32⟩
def STRM_IN_LOST_COUNT : Fld := ⟨R.STRM_IN_LOST, 0, 32⟩
def STRM_IN_DUP_COUNT : Fld := ⟨R.STRM_IN_DUP, 0, 32⟩
def STRM_IN_LATE_COUNT : Fld := ⟨R.STRM_IN_LATE, 0, 32⟩
def STRM_IN_EARLY_COUNT : Fld := ⟨R.STRM_IN_EARLY, 0, 32⟩
def STRM_IN_BAD_COUNT : Fld := ⟨R.STRM_IN_BAD, 0, 32⟩
def STRM_OUT_STAT_EN : Fld := ⟨R.STRM_OUT_STAT, 0, 1⟩
def STRM_OUT_STAT_ANNOUNCED : Fld := ⟨R.STRM_OUT_STAT, 1, 1⟩
def STRM_OUT_PKTS_COUNT : Fld := ⟨R.STRM_OUT_PKTS, 0, 32⟩
def STRM_OUT_DROP_COUNT : Fld := ⟨R.STRM_OUT_DROP, 0, 32⟩
def TIME_CFG_PROFILE : Fld := ⟨R.TIME_CFG, 0, 2⟩
def TIME_CFG_DOMAIN : Fld := ⟨R.TIME_CFG, 8, 8⟩
def TIME_CFG_TWO_STEP : Fld := ⟨R.TIME_CFG, 16, 1⟩
def TIME_CFG_P2P : Fld := ⟨R.TIME_CFG, 17, 1⟩
def TIME_MSG_LOG_SYNC : Fld := ⟨R.TIME_MSG, 0, 8⟩
def TIME_MSG_LOG_ANN : Fld := ⟨R.TIME_MSG, 8, 8⟩
def TIME_MSG_LOG_DREQ : Fld := ⟨R.TIME_MSG, 16, 8⟩
def TIME_MSG_ANN_TO : Fld := ⟨R.TIME_MSG, 24, 4⟩
def TIME_COMMIT_GO : Fld := ⟨R.TIME_COMMIT, 0, 1⟩
def TIME_STAT_STATE : Fld := ⟨R.TIME_STAT, 0, 2⟩
def TIME_STAT_ACTIVE : Fld := ⟨R.TIME_STAT, 2, 2⟩
def TIME_STAT_TIME_VALID : Fld := ⟨R.TIME_STAT, 4, 1⟩
def TIME_STAT_STANDBY_SUSPECT : Fld := ⟨R.TIME_STAT, 5, 1⟩
def TIME_STAT_SUSPECT_CAUSE : Fld := ⟨R.TIME_STAT, 6, 2⟩
def TIME_STAT_FAILING : Fld := ⟨R.TIME_STAT, 8, 1⟩
def TIME_STAT_SNAPSHOT_USED : Fld := ⟨R.TIME_STAT, 9, 1⟩
def TIME_STAT_CTRL_PORT : Fld := ⟨R.TIME_STAT, 10, 2⟩
def TIME_STAT_SLEWING : Fld := ⟨R.TIME_STAT, 12, 1⟩
def TIME_EVT_VALID : Fld := ⟨R.TIME_EVT, 0, 1⟩
def TIME_EVT_LOST : Fld := ⟨R.TIME_EVT, 1, 1⟩
def TIME_EVT_FAILOVER : Fld := ⟨R.TIME_EVT, 2, 1⟩
def TIME_EVT_SUSPECT : Fld := ⟨R.TIME_EVT, 3, 1⟩
def TIME_EVT_GM_CHANGE : Fld := ⟨R.TIME_EVT, 4, 1⟩
def TIME_EVT_SAMPLE : Fld := ⟨R.TIME_EVT, 5, 1⟩
def TIME_EVT_TXTS : Fld := ⟨R.TIME_EVT, 6, 1⟩
def TIME_EVT_TXTS_OVF : Fld := ⟨R.TIME_EVT, 7, 1⟩
def TIME_EVT_LAUNCH_LATE : Fld := ⟨R.TIME_EVT, 8, 1⟩
def TIME_EVT_CTRL_MOVE : Fld := ⟨R.TIME_EVT, 9, 1⟩
def TIME_EVT_EVTQ : Fld := ⟨R.TIME_EVT, 10, 1⟩
def TIME_EVT_REFUSED : Fld := ⟨R.TIME_EVT, 11, 1⟩
def TIME_EVT_EN_EN : Fld := ⟨R.TIME_EVT_EN, 0, 12⟩
def TIME_NOW_NS_NS : Fld := ⟨R.TIME_NOW_NS, 0, 30⟩
def TIME_NOW_SEC_LO_SEC : Fld := ⟨R.TIME_NOW_SEC_LO, 0, 32⟩
def TIME_NOW_SEC_HI_SEC : Fld := ⟨R.TIME_NOW_SEC_HI, 0, 16⟩
def TIME_SERVO_KP_GAIN : Fld := ⟨R.TIME_SERVO_KP, 0, 32⟩
def TIME_SERVO_KI_GAIN : Fld := ⟨R.TIME_SERVO_KI, 0, 32⟩
def TIME_STEP_NS_NS : Fld := ⟨R.TIME_STEP_NS, 0, 32⟩
def TIME_FREQ_FREQ : Fld := ⟨R.TIME_FREQ, 0, 32⟩
def TIME_OFS_LO_OFS : Fld := ⟨R.TIME_OFS_LO, 0, 32⟩
def TIME_OFS_HI_OFS : Fld := ⟨R.TIME_OFS_HI, 0, 32⟩
def TIME_MPD_NS : Fld := ⟨R.TIME_MPD, 0, 32⟩
def TIME_SHADOW_LO_OFS : Fld := ⟨R.TIME_SHADOW_LO, 0, 32⟩
def TIME_SHADOW_HI_OFS : Fld := ⟨R.TIME_SHADOW_HI, 0, 32⟩
def TIME_SHADOW_MPD_NS : Fld := ⟨R.TIME_SHADOW_MPD, 0, 32⟩
def TIME_SAMPLE_SEQ_COUNT : Fld := ⟨R.TIME_SAMPLE_SEQ, 0, 32⟩
def TIME_GM_LO_ID : Fld := ⟨R.TIME_GM_LO, 0, 32⟩
def TIME_GM_HI_ID : Fld := ⟨R.TIME_GM_HI, 0, 32⟩
def TIME_ADJ_FREQ_FREQ : Fld := ⟨R.TIME_ADJ_FREQ, 0, 32⟩
def TIME_ADJ_PHASE_NS : Fld := ⟨R.TIME_ADJ_PHASE, 0, 32⟩
def TIME_ADJ_CTRL_MODE : Fld := ⟨R.TIME_ADJ_CTRL, 0, 2⟩
def TIME_ADJ_CTRL_GO : Fld := ⟨R.TIME_ADJ_CTRL, 31, 1⟩
def TIME_FAILOVER_GO : Fld := ⟨R.TIME_FAILOVER, 0, 1⟩
def TIME_REDUND_MERGE_MS : Fld := ⟨R.TIME_REDUND, 0, 5⟩
def TIME_REDUND_DUP_EGRESS : Fld := ⟨R.TIME_REDUND, 8, 1⟩
def TIME_REDUND_TIME_PREF_B : Fld := ⟨R.TIME_REDUND, 9, 1⟩
def TIME_LAUNCH_CFG_LATE_US : Fld := ⟨R.TIME_LAUNCH_CFG, 0, 10⟩
def TIME_LAUNCH_CFG_AHEAD_S : Fld := ⟨R.TIME_LAUNCH_CFG, 16, 6⟩
def TIME_PPS_CFG_PPS_EN : Fld := ⟨R.TIME_PPS_CFG, 0, 1⟩
def TIME_PPS_CFG_EVT_EN : Fld := ⟨R.TIME_PPS_CFG, 1, 1⟩
def TIME_PPS_CFG_EVT_FALL : Fld := ⟨R.TIME_PPS_CFG, 2, 1⟩
def TIME_PPS_CFG_WIDTH_US : Fld := ⟨R.TIME_PPS_CFG, 16, 16⟩
def TIME_PPS_OFS_NS : Fld := ⟨R.TIME_PPS_OFS, 0, 32⟩
def TIME_EVTQ_STAT_COUNT : Fld := ⟨R.TIME_EVTQ_STAT, 0, 5⟩
def TIME_EVTQ_STAT_LOST : Fld := ⟨R.TIME_EVTQ_STAT, 8, 8⟩
def TIME_EVTQ_SEC_LO_ALL : Fld := ⟨R.TIME_EVTQ_SEC_LO, 0, 32⟩
def TIME_EVTQ_SEC_HI_SEC : Fld := ⟨R.TIME_EVTQ_SEC_HI, 0, 16⟩
def TIME_EVTQ_SEC_HI_SUB : Fld := ⟨R.TIME_EVTQ_SEC_HI, 16, 16⟩
def TIME_EVTQ_NS_NS : Fld := ⟨R.TIME_EVTQ_NS, 0, 30⟩
def TIME_EVTQ_POP_GO : Fld := ⟨R.TIME_EVTQ_POP, 0, 1⟩
def TIME_FAILOVERS_COUNT : Fld := ⟨R.TIME_FAILOVERS, 0, 32⟩
def TIME_SYNC_TO_COUNT : Fld := ⟨R.TIME_SYNC_TO, 0, 32⟩
def TIME_ANN_TO_COUNT : Fld := ⟨R.TIME_ANN_TO, 0, 32⟩
def TIME_OUTLIERS_COUNT : Fld := ⟨R.TIME_OUTLIERS, 0, 32⟩
def TIME_SUSPECTS_COUNT : Fld := ⟨R.TIME_SUSPECTS, 0, 32⟩
def TIME_LAUNCH_LATE_COUNT : Fld := ⟨R.TIME_LAUNCH_LATE, 0, 32⟩
def TIME_CTRL_MOVES_COUNT : Fld := ⟨R.TIME_CTRL_MOVES, 0, 32⟩
def TIME_STEPS_COUNT : Fld := ⟨R.TIME_STEPS, 0, 32⟩
def TIME_PORT_STAT_ROLE : Fld := ⟨R.TIME_PORT_STAT, 0, 2⟩
def TIME_PORT_STAT_SOURCE : Fld := ⟨R.TIME_PORT_STAT, 2, 1⟩
def TIME_PORT_STAT_GM_MATCH : Fld := ⟨R.TIME_PORT_STAT, 3, 1⟩
def TIME_PORT_STAT_READY : Fld := ⟨R.TIME_PORT_STAT, 4, 1⟩
def TIME_PORT_STAT_SAMPLES : Fld := ⟨R.TIME_PORT_STAT, 8, 8⟩
def TIME_PORT_RX_LAT_PS : Fld := ⟨R.TIME_PORT_RX_LAT, 0, 16⟩
def TIME_PORT_TX_LAT_PS : Fld := ⟨R.TIME_PORT_TX_LAT, 0, 16⟩
def TIME_PORT_ASYM_PS : Fld := ⟨R.TIME_PORT_ASYM, 0, 32⟩
def TIME_PORT_TXTS_STAT_COUNT : Fld := ⟨R.TIME_PORT_TXTS_STAT, 0, 5⟩
def TIME_PORT_TXTS_STAT_OVF : Fld := ⟨R.TIME_PORT_TXTS_STAT, 8, 1⟩
def TIME_PORT_TXTS_STAT_FIRST_LOST : Fld := ⟨R.TIME_PORT_TXTS_STAT, 16, 16⟩
def TIME_PORT_TXTS_ID_TSID : Fld := ⟨R.TIME_PORT_TXTS_ID, 0, 16⟩
def TIME_PORT_TXTS_ID_VALID : Fld := ⟨R.TIME_PORT_TXTS_ID, 16, 1⟩
def TIME_PORT_TXTS_SEC_LO_ALL : Fld := ⟨R.TIME_PORT_TXTS_SEC_LO, 0, 32⟩
def TIME_PORT_TXTS_SEC_HI_SEC : Fld := ⟨R.TIME_PORT_TXTS_SEC_HI, 0, 16⟩
def TIME_PORT_TXTS_SEC_HI_SUB : Fld := ⟨R.TIME_PORT_TXTS_SEC_HI, 16, 16⟩
def TIME_PORT_TXTS_NS_NS : Fld := ⟨R.TIME_PORT_TXTS_NS, 0, 30⟩
def TIME_PORT_TXTS_POP_GO : Fld := ⟨R.TIME_PORT_TXTS_POP, 0, 1⟩
def TIME_PORT_TXTS_LOST_COUNT : Fld := ⟨R.TIME_PORT_TXTS_LOST, 0, 32⟩
def CLK_STAT_LOCKED : Fld := ⟨R.CLK_STAT, 0, 4⟩
def CLK_STAT_BACKUP : Fld := ⟨R.CLK_STAT, 8, 1⟩
def CLK_STAT_MEDIA_HOLD : Fld := ⟨R.CLK_STAT, 9, 1⟩
def CLK_STAT_XIN_OK : Fld := ⟨R.CLK_STAT, 10, 1⟩
def CLK_EVT_LOL : Fld := ⟨R.CLK_EVT, 0, 4⟩
def CLK_EVT_LOCK : Fld := ⟨R.CLK_EVT, 4, 4⟩
def CLK_EVT_BAND_FAIL : Fld := ⟨R.CLK_EVT, 8, 1⟩
def CLK_EVT_REFUSED : Fld := ⟨R.CLK_EVT, 9, 1⟩
def CLK_EVT_BACKUP : Fld := ⟨R.CLK_EVT, 10, 1⟩
def CLK_EVT_RETURN : Fld := ⟨R.CLK_EVT, 11, 1⟩
def CLK_EVT_EN_EN : Fld := ⟨R.CLK_EVT_EN, 0, 12⟩
def CLK_REFIN_STAT_FREQ : Fld := ⟨R.CLK_REFIN_STAT, 0, 24⟩
def CLK_REFIN_STAT_KIND : Fld := ⟨R.CLK_REFIN_STAT, 24, 2⟩
def CLK_REFIN_STAT_PRESENT : Fld := ⟨R.CLK_REFIN_STAT, 31, 1⟩
def CLK_SYS_CFG_RETURN_MS : Fld := ⟨R.CLK_SYS_CFG, 0, 10⟩
def CLK_PLL_CTRL_NINT : Fld := ⟨R.CLK_PLL_CTRL, 0, 10⟩
def CLK_PLL_CTRL_REFSEL : Fld := ⟨R.CLK_PLL_CTRL, 16, 1⟩
def CLK_PLL_FRAC_FRAC : Fld := ⟨R.CLK_PLL_FRAC, 0, 32⟩
def CLK_PLL_COMMIT_GO : Fld := ⟨R.CLK_PLL_COMMIT, 0, 1⟩
def CLK_PLL_STAT_STATE : Fld := ⟨R.CLK_PLL_STAT, 0, 3⟩
def CLK_PLL_STAT_BAND : Fld := ⟨R.CLK_PLL_STAT, 4, 4⟩
def CLK_PLL_STAT_LOCKRUN : Fld := ⟨R.CLK_PLL_STAT, 8, 16⟩
def CLK_PLL_LOCK_CFG_LOCKWIN : Fld := ⟨R.CLK_PLL_LOCK_CFG, 0, 10⟩
def CLK_PLL_LOCK_CFG_LOCKN : Fld := ⟨R.CLK_PLL_LOCK_CFG, 10, 16⟩
def CLK_PLL_PHERR_PS : Fld := ⟨R.CLK_PLL_PHERR, 0, 16⟩
def CLK_PLL_LOL_COUNT : Fld := ⟨R.CLK_PLL_LOL, 0, 32⟩
def CLK_PLL_DCO_FRAC : Fld := ⟨R.CLK_PLL_DCO, 0, 32⟩
def CLK_PLL_OUT_DIV_HDIV : Fld := ⟨R.CLK_PLL_OUT_DIV, 0, 18⟩
def CLK_PLL_OUT_PHASE_HPH : Fld := ⟨R.CLK_PLL_OUT_PHASE, 0, 18⟩
def CLK_PLL_OUT_CTL_EN : Fld := ⟨R.CLK_PLL_OUT_CTL, 0, 1⟩
def CLK_PLL_OUT_CTL_GUARD : Fld := ⟨R.CLK_PLL_OUT_CTL, 1, 1⟩
def CLK_PLL_OUT_SAFE_HSAFE : Fld := ⟨R.CLK_PLL_OUT_SAFE, 0, 18⟩
def CLK_PLL_OUT_SAFE_FMAX : Fld := ⟨R.CLK_PLL_OUT_SAFE, 22, 10⟩
def CLK_PLL_BAND_RANGE_FMIN : Fld := ⟨R.CLK_PLL_BAND_RANGE, 0, 16⟩
def CLK_PLL_BAND_RANGE_FMAX : Fld := ⟨R.CLK_PLL_BAND_RANGE, 16, 16⟩
def CLK_PLL_BAND_CODE_CODE : Fld := ⟨R.CLK_PLL_BAND_CODE, 0, 8⟩
def CLK_PLL_BAND_CODE_VALID : Fld := ⟨R.CLK_PLL_BAND_CODE, 31, 1⟩
def MATRIX_EVT_ERROR : Fld := ⟨R.MATRIX_EVT, 0, 1⟩
def MATRIX_EVT_TIMEOUT : Fld := ⟨R.MATRIX_EVT, 1, 1⟩
def MATRIX_EVT_LOCK_BREAK : Fld := ⟨R.MATRIX_EVT, 2, 1⟩
def MATRIX_EVT_PROT : Fld := ⟨R.MATRIX_EVT, 3, 1⟩
def MATRIX_EVT_ISO : Fld := ⟨R.MATRIX_EVT, 4, 1⟩
def MATRIX_EVT_EN_EN : Fld := ⟨R.MATRIX_EVT_EN, 0, 5⟩
def MATRIX_ERR_ADDR_LO_ADDR : Fld := ⟨R.MATRIX_ERR_ADDR_LO, 0, 32⟩
def MATRIX_ERR_ADDR_HI_ADDR : Fld := ⟨R.MATRIX_ERR_ADDR_HI, 0, 32⟩
def MATRIX_ERR_INFO_MASTER : Fld := ⟨R.MATRIX_ERR_INFO, 0, 4⟩
def MATRIX_ERR_INFO_ID : Fld := ⟨R.MATRIX_ERR_INFO, 4, 6⟩
def MATRIX_ERR_INFO_TARGET : Fld := ⟨R.MATRIX_ERR_INFO, 12, 3⟩
def MATRIX_ERR_INFO_WR : Fld := ⟨R.MATRIX_ERR_INFO, 15, 1⟩
def MATRIX_ERR_INFO_CODE : Fld := ⟨R.MATRIX_ERR_INFO, 16, 3⟩
def MATRIX_ERR_INFO_VALID : Fld := ⟨R.MATRIX_ERR_INFO, 31, 1⟩
def MATRIX_ERR_CLR_GO : Fld := ⟨R.MATRIX_ERR_CLR, 0, 1⟩
def MATRIX_ERRORS_COUNT : Fld := ⟨R.MATRIX_ERRORS, 0, 32⟩
def MATRIX_LOCK_BREAK_COUNT : Fld := ⟨R.MATRIX_LOCK_BREAK, 0, 32⟩
def MATRIX_PROT_ERR_COUNT : Fld := ⟨R.MATRIX_PROT_ERR, 0, 32⟩
def MATRIX_MPRI_PRI : Fld := ⟨R.MATRIX_MPRI, 0, 2⟩
def MATRIX_MSTAT_OUT : Fld := ⟨R.MATRIX_MSTAT, 0, 6⟩
def MATRIX_MSTAT_ISO : Fld := ⟨R.MATRIX_MSTAT, 8, 1⟩
def MATRIX_MSTAT_LOCK : Fld := ⟨R.MATRIX_MSTAT, 9, 1⟩
def MATRIX_TSTAT_PARK : Fld := ⟨R.MATRIX_TSTAT, 0, 4⟩
def MATRIX_TSTAT_LOCKED : Fld := ⟨R.MATRIX_TSTAT, 4, 1⟩
def MATRIX_TSTAT_OWNER : Fld := ⟨R.MATRIX_TSTAT, 8, 4⟩
def MATRIX_TSTAT_ISO : Fld := ⟨R.MATRIX_TSTAT, 12, 1⟩
def MATRIX_TIMEOUT_COUNT : Fld := ⟨R.MATRIX_TIMEOUT, 0, 32⟩
def DMA_SRC_LO_ALL : Fld := ⟨R.DMA_SRC_LO, 0, 32⟩
def DMA_SRC_HI_HOST : Fld := ⟨R.DMA_SRC_HI, 31, 1⟩
def DMA_SRC_HI_ADDR : Fld := ⟨R.DMA_SRC_HI, 0, 31⟩
def DMA_DST_LO_ALL : Fld := ⟨R.DMA_DST_LO, 0, 32⟩
def DMA_DST_HI_HOST : Fld := ⟨R.DMA_DST_HI, 31, 1⟩
def DMA_DST_HI_ADDR : Fld := ⟨R.DMA_DST_HI, 0, 31⟩
def DMA_CNT_BYTES : Fld := ⟨R.DMA_CNT, 0, 32⟩
def DMA_CTRL_GO : Fld := ⟨R.DMA_CTRL, 0, 1⟩
def DMA_CTRL_STOP : Fld := ⟨R.DMA_CTRL, 1, 1⟩
def DMA_CTRL_CHAIN : Fld := ⟨R.DMA_CTRL, 2, 1⟩
def DMA_CTRL_SWAP : Fld := ⟨R.DMA_CTRL, 3, 2⟩
def DMA_CTRL_RETRY : Fld := ⟨R.DMA_CTRL, 5, 3⟩
def DMA_CTRL_IRQ_DONE : Fld := ⟨R.DMA_CTRL, 8, 1⟩
def DMA_CTRL_IRQ_ERR : Fld := ⟨R.DMA_CTRL, 9, 1⟩
def DMA_STAT_BUSY : Fld := ⟨R.DMA_STAT, 0, 1⟩
def DMA_STAT_DONE : Fld := ⟨R.DMA_STAT, 1, 1⟩
def DMA_STAT_ERR : Fld := ⟨R.DMA_STAT, 2, 1⟩
def DMA_STAT_TAIL_ERR : Fld := ⟨R.DMA_STAT, 3, 1⟩
def DMA_STAT_LOOP : Fld := ⟨R.DMA_STAT, 4, 1⟩
def DMA_STAT_STOPPED : Fld := ⟨R.DMA_STAT, 5, 1⟩
def DMA_STAT_DESC_ERR : Fld := ⟨R.DMA_STAT, 6, 1⟩
def DMA_STAT_CFG : Fld := ⟨R.DMA_STAT, 7, 1⟩
def DMA_STAT_RESP : Fld := ⟨R.DMA_STAT, 8, 3⟩
def DMA_STAT_WR : Fld := ⟨R.DMA_STAT, 11, 1⟩
def DMA_NEXT_LO_ADDR : Fld := ⟨R.DMA_NEXT_LO, 5, 27⟩
def DMA_NEXT_HI_HOST : Fld := ⟨R.DMA_NEXT_HI, 31, 1⟩
def DMA_NEXT_HI_ADDR : Fld := ⟨R.DMA_NEXT_HI, 0, 31⟩
def DMA_HOPS_COUNT : Fld := ⟨R.DMA_HOPS, 0, 32⟩
def DMA_RETRIES_COUNT : Fld := ⟨R.DMA_RETRIES, 0, 32⟩
def DMA_HOPMAX_LIMIT : Fld := ⟨R.DMA_HOPMAX, 0, 16⟩
def DMA_DONE_CH : Fld := ⟨R.DMA_DONE, 0, 32⟩
def DMA_ERR_CH : Fld := ⟨R.DMA_ERR, 0, 32⟩
def DMA_DESC_CH : Fld := ⟨R.DMA_DESC, 0, 32⟩
def DMA_EVT_REFUSED : Fld := ⟨R.DMA_EVT, 0, 1⟩
def DMA_EVT_EN_EN : Fld := ⟨R.DMA_EVT_EN, 0, 1⟩
def DDRC_STAT_SIZE : Fld := ⟨R.DDRC_STAT, 0, 16⟩
def DDRC_STAT_RANKS : Fld := ⟨R.DDRC_STAT, 16, 2⟩
def DDRC_STAT_X16 : Fld := ⟨R.DDRC_STAT, 18, 1⟩
def DDRC_STAT_STATE : Fld := ⟨R.DDRC_STAT, 20, 3⟩
def DDRC_STAT_SET : Fld := ⟨R.DDRC_STAT, 24, 1⟩
def DDRC_STAT_CAUSE : Fld := ⟨R.DDRC_STAT, 25, 3⟩
def DDRC_EVT_ECC_CORR : Fld := ⟨R.DDRC_EVT, 0, 1⟩
def DDRC_EVT_ECC_UNCORR : Fld := ⟨R.DDRC_EVT, 1, 1⟩
def DDRC_EVT_REPLAY : Fld := ⟨R.DDRC_EVT, 2, 1⟩
def DDRC_EVT_REPLAY_FAIL : Fld := ⟨R.DDRC_EVT, 3, 1⟩
def DDRC_EVT_FREQ_DONE : Fld := ⟨R.DDRC_EVT, 4, 1⟩
def DDRC_EVT_FREQ_FAIL : Fld := ⟨R.DDRC_EVT, 5, 1⟩
def DDRC_EVT_TEMP_HIGH : Fld := ⟨R.DDRC_EVT, 6, 1⟩
def DDRC_EVT_REFUSED : Fld := ⟨R.DDRC_EVT, 7, 1⟩
def DDRC_EVT_EN_EN : Fld := ⟨R.DDRC_EVT_EN, 0, 8⟩
def DDRC_CFG_PAGE_THR : Fld := ⟨R.DDRC_CFG, 0, 3⟩
def DDRC_CFG_WR_HI : Fld := ⟨R.DDRC_CFG, 8, 7⟩
def DDRC_CFG_WR_LO : Fld := ⟨R.DDRC_CFG, 16, 7⟩
def DDRC_CFG_WR_AGE_US : Fld := ⟨R.DDRC_CFG, 24, 8⟩
def DDRC_FREQ_CTRL_SET : Fld := ⟨R.DDRC_FREQ_CTRL, 0, 1⟩
def DDRC_FREQ_CTRL_GO : Fld := ⟨R.DDRC_FREQ_CTRL, 31, 1⟩
def DDRC_SET_RATE : Fld := ⟨R.DDRC_SET, 0, 16⟩
def DDRC_SET_TRAINED : Fld := ⟨R.DDRC_SET, 31, 1⟩
def DDRC_SCRUB_CFG_HOURS : Fld := ⟨R.DDRC_SCRUB_CFG, 0, 8⟩
def DDRC_SCRUB_CFG_EN : Fld := ⟨R.DDRC_SCRUB_CFG, 31, 1⟩
def DDRC_ECC_ADDR_LO_ADDR : Fld := ⟨R.DDRC_ECC_ADDR_LO, 0, 32⟩
def DDRC_ECC_ADDR_HI_ADDR : Fld := ⟨R.DDRC_ECC_ADDR_HI, 0, 8⟩
def DDRC_ECC_INFO_READER : Fld := ⟨R.DDRC_ECC_INFO, 0, 3⟩
def DDRC_ECC_INFO_ADDR_PAR : Fld := ⟨R.DDRC_ECC_INFO, 3, 1⟩
def DDRC_ECC_INFO_VALID : Fld := ⟨R.DDRC_ECC_INFO, 31, 1⟩
def DDRC_ECC_CLR_GO : Fld := ⟨R.DDRC_ECC_CLR, 0, 1⟩
def DDRC_CNT_CLR_GO : Fld := ⟨R.DDRC_CNT_CLR, 0, 1⟩
def DDRC_ECC_CORR_COUNT : Fld := ⟨R.DDRC_ECC_CORR, 0, 32⟩
def DDRC_ECC_UNCORR_COUNT : Fld := ⟨R.DDRC_ECC_UNCORR, 0, 32⟩
def DDRC_REPLAY_COUNT : Fld := ⟨R.DDRC_REPLAY, 0, 32⟩
def DDRC_REPLAY_FAIL_COUNT : Fld := ⟨R.DDRC_REPLAY_FAIL, 0, 32⟩
def DDRC_FREQ_CHG_COUNT : Fld := ⟨R.DDRC_FREQ_CHG, 0, 32⟩
def DDRC_FREQ_FAIL_COUNT : Fld := ⟨R.DDRC_FREQ_FAIL, 0, 32⟩
def DDRC_RMW_COUNT : Fld := ⟨R.DDRC_RMW, 0, 32⟩
def SYS_BOOT_STAT_PHASE : Fld := ⟨R.SYS_BOOT_STAT, 0, 3⟩
def SYS_BOOT_STAT_OPTPAGE : Fld := ⟨R.SYS_BOOT_STAT, 4, 1⟩
def SYS_BOOT_STAT_FWBANK : Fld := ⟨R.SYS_BOOT_STAT, 5, 1⟩
def SYS_BOOT_STAT_FWSRC : Fld := ⟨R.SYS_BOOT_STAT, 6, 1⟩
def SYS_BOOT_STAT_FW_ERR : Fld := ⟨R.SYS_BOOT_STAT, 8, 1⟩
def SYS_BOOT_STAT_SELFTEST_ERR : Fld := ⟨R.SYS_BOOT_STAT, 9, 1⟩
def SYS_BOOT_STAT_PAGE_A_BAD : Fld := ⟨R.SYS_BOOT_STAT, 10, 1⟩
def SYS_BOOT_STAT_PAGE_B_BAD : Fld := ⟨R.SYS_BOOT_STAT, 11, 1⟩
def SYS_RESET_CAUSE_CAUSE : Fld := ⟨R.SYS_RESET_CAUSE, 0, 9⟩
def SYS_WAKE_STAT_WAKE_N : Fld := ⟨R.SYS_WAKE_STAT, 0, 1⟩
def SYS_WAKE_STAT_ALARM : Fld := ⟨R.SYS_WAKE_STAT, 1, 1⟩
def SYS_WAKE_STAT_RESET_N : Fld := ⟨R.SYS_WAKE_STAT, 2, 1⟩
def SYS_STORM_COUNT : Fld := ⟨R.SYS_STORM, 0, 4⟩
def SYS_STORM_HOLD : Fld := ⟨R.SYS_STORM, 8, 1⟩
def SYS_FW_PUSH_ADDR_OFFSET : Fld := ⟨R.SYS_FW_PUSH_ADDR, 6, 18⟩
def SYS_FW_PUSH_LEN_BYTES : Fld := ⟨R.SYS_FW_PUSH_LEN, 0, 24⟩
def SYS_FW_PUSH_GO_GO : Fld := ⟨R.SYS_FW_PUSH_GO, 0, 1⟩
def SYS_BLK_RST_BLOCK : Fld := ⟨R.SYS_BLK_RST, 0, 4⟩
def SYS_BLK_RST_GO : Fld := ⟨R.SYS_BLK_RST, 31, 1⟩
def SYS_BLK_RST_STAT_BLOCKS : Fld := ⟨R.SYS_BLK_RST_STAT, 0, 10⟩
def SYS_PWR_STAT_STATE : Fld := ⟨R.SYS_PWR_STAT, 0, 3⟩
def SYS_PWR_STAT_TARGET : Fld := ⟨R.SYS_PWR_STAT, 4, 3⟩
def SYS_PWR_STAT_BUSY : Fld := ⟨R.SYS_PWR_STAT, 8, 1⟩
def SYS_UPTIME_SEC : Fld := ⟨R.SYS_UPTIME, 0, 32⟩
def SYS_EVT_BLK_DONE : Fld := ⟨R.SYS_EVT, 0, 1⟩
def SYS_EVT_REFUSED : Fld := ⟨R.SYS_EVT, 1, 1⟩
def SYS_EVT_EN_EN : Fld := ⟨R.SYS_EVT_EN, 0, 2⟩
def SYS_RTC_LO_SEC : Fld := ⟨R.SYS_RTC_LO, 0, 32⟩
def SYS_RTC_HI_SEC : Fld := ⟨R.SYS_RTC_HI, 0, 16⟩
def SYS_ALARM_LO_SEC : Fld := ⟨R.SYS_ALARM_LO, 0, 32⟩
def SYS_ALARM_HI_SEC : Fld := ⟨R.SYS_ALARM_HI, 0, 16⟩
def SYS_ALARM_HI_ARMED : Fld := ⟨R.SYS_ALARM_HI, 31, 1⟩
def ERR_STAT_HELD : Fld := ⟨R.ERR_STAT, 0, 7⟩
def ERR_STAT_RESV_USED : Fld := ⟨R.ERR_STAT, 8, 5⟩
def ERR_STAT_SAFE : Fld := ⟨R.ERR_STAT, 16, 1⟩
def ERR_STAT_H_ERROR : Fld := ⟨R.ERR_STAT, 17, 1⟩
def ERR_STAT_H_FATAL : Fld := ⟨R.ERR_STAT, 18, 1⟩
def ERR_STAT_FAULT : Fld := ⟨R.ERR_STAT, 19, 1⟩
def ERR_EVT_REC : Fld := ⟨R.ERR_EVT, 0, 1⟩
def ERR_EVT_FATAL : Fld := ⟨R.ERR_EVT, 1, 1⟩
def ERR_EVT_SAFE : Fld := ⟨R.ERR_EVT, 2, 1⟩
def ERR_EVT_DROP : Fld := ⟨R.ERR_EVT, 3, 1⟩
def ERR_EVT_RESV_FULL : Fld := ⟨R.ERR_EVT, 4, 1⟩
def ERR_EVT_EN_EN : Fld := ⟨R.ERR_EVT_EN, 0, 5⟩
def ERR_CFG_IRQ_SEV : Fld := ⟨R.ERR_CFG, 0, 2⟩
def ERR_CFG_MERGE_S : Fld := ⟨R.ERR_CFG, 8, 8⟩
def ERR_SEQ_SEQ : Fld := ⟨R.ERR_SEQ, 0, 32⟩
def ERR_DROPPED_COUNT : Fld := ⟨R.ERR_DROPPED, 0, 32⟩
def ERR_RST_REMAIN_MS : Fld := ⟨R.ERR_RST_REMAIN, 0, 7⟩
def ERR_PEND_SRC : Fld := ⟨R.ERR_PEND, 0, 18⟩
def ERR_PEND_DMA_CH : Fld := ⟨R.ERR_PEND_DMA, 0, 32⟩
def ERR_IRQN_EN_SRC : Fld := ⟨R.ERR_IRQN_EN, 0, 18⟩
def ERR_IRQN_EN_DMA_CH : Fld := ⟨R.ERR_IRQN_EN_DMA, 0, 32⟩
def ERR_ACK_UPTO : Fld := ⟨R.ERR_ACK, 0, 32⟩
def ERR_VEC_VEC : Fld := ⟨R.ERR_VEC, 0, 6⟩
def ERR_VEC_EN : Fld := ⟨R.ERR_VEC, 31, 1⟩
def ERR_REC_DATA : Fld := ⟨R.ERR_REC, 0, 32⟩
def PCIE_STAT_LINK_UP : Fld := ⟨R.PCIE_STAT, 0, 1⟩
def PCIE_STAT_GEN : Fld := ⟨R.PCIE_STAT, 1, 3⟩
def PCIE_STAT_WIDTH : Fld := ⟨R.PCIE_STAT, 4, 3⟩
def PCIE_STAT_BME : Fld := ⟨R.PCIE_STAT, 8, 1⟩
def PCIE_STAT_MSIX_EN : Fld := ⟨R.PCIE_STAT, 9, 1⟩
def PCIE_STAT_FMASK : Fld := ⟨R.PCIE_STAT, 10, 1⟩
def PCIE_STAT_DSTATE : Fld := ⟨R.PCIE_STAT, 12, 2⟩
def PCIE_ID_VENDOR : Fld := ⟨R.PCIE_ID, 0, 16⟩
def PCIE_ID_DEVICE : Fld := ⟨R.PCIE_ID, 16, 16⟩
def PCIE_SUBID_SVID : Fld := ⟨R.PCIE_SUBID, 0, 16⟩
def PCIE_SUBID_SSID : Fld := ⟨R.PCIE_SUBID, 16, 16⟩
def PCIE_CORR_ERR_COUNT : Fld := ⟨R.PCIE_CORR_ERR, 0, 32⟩
def PCIE_UNCORR_ERR_COUNT : Fld := ⟨R.PCIE_UNCORR_ERR, 0, 32⟩
def PCIE_CPL_TIMEOUT_COUNT : Fld := ⟨R.PCIE_CPL_TIMEOUT, 0, 32⟩
def PCIE_CPL_ABORT_COUNT : Fld := ⟨R.PCIE_CPL_ABORT, 0, 32⟩
def PCIE_LINK_DOWN_COUNT : Fld := ⟨R.PCIE_LINK_DOWN, 0, 32⟩
def PCIE_MSIX_ADDR_LO_ADDR : Fld := ⟨R.PCIE_MSIX_ADDR_LO, 2, 30⟩
def PCIE_MSIX_ADDR_HI_ADDR : Fld := ⟨R.PCIE_MSIX_ADDR_HI, 0, 32⟩
def PCIE_MSIX_DATA_DATA : Fld := ⟨R.PCIE_MSIX_DATA, 0, 32⟩
def PCIE_MSIX_CTRL_MASK : Fld := ⟨R.PCIE_MSIX_CTRL, 0, 1⟩
def PCIE_PBA_LO_PEND : Fld := ⟨R.PCIE_PBA_LO, 0, 32⟩
def PCIE_PBA_HI_PEND : Fld := ⟨R.PCIE_PBA_HI, 0, 32⟩
def SYS_OPT_DATA : Fld := ⟨R.SYS_OPT, 0, 32⟩

end F

/-- Access codes of block SYS. -/
def rowsSYS : List RegRow := [
  ⟨R.SYS_PART_ID, 0x0, 0xFFFFFF00, 0x0, 0x0, 0x0, 0x0, 0x0⟩,
  ⟨R.SYS_REV, 0x0, 0xFFFF, 0x0, 0x0, 0x0, 0x0, 0x0⟩,
  ⟨R.SYS_LIMITS, 0x0, 0xFFFFFFF, 0x0, 0x0, 0x0, 0x0, 0x0⟩,
  ⟨R.SYS_PLACE_STAT, 0x0, 0xFFFF, 0x0, 0x0, 0x0, 0x0, 0x0⟩,
  ⟨R.SYS_PLACE_CHG, 0x0, 0x0, 0x0, 0x0, 0x0, 0xFFFFFFFF, 0x0⟩,
  ⟨R.SYS_PLACE_DISCARD, 0x0, 0x0, 0x0, 0x0, 0x0, 0xFFFFFFFF, 0x0⟩,
  ⟨R.SYS_BOOT_STAT, 0x0, 0xF77, 0x0, 0x0, 0x0, 0x0, 0x0⟩,
  ⟨R.SYS_RESET_CAUSE, 0x0, 0x1FF, 0x0, 0x0, 0x0, 0x0, 0x0⟩,
  ⟨R.SYS_WAKE_STAT, 0x0, 0x7, 0x0, 0x0, 0x0, 0x0, 0x0⟩,
  ⟨R.SYS_STORM, 0x0, 0x10F, 0x0, 0x0, 0x0, 0x0, 0x0⟩,
  ⟨R.SYS_FW_PUSH_ADDR, 0xFFFFC0, 0x0, 0x0, 0x0, 0x0, 0x0, 0x0⟩,
  ⟨R.SYS_FW_PUSH_LEN, 0xFFFFFF, 0x0, 0x0, 0x0, 0x0, 0x0, 0x0⟩,
  ⟨R.SYS_FW_PUSH_GO, 0x0, 0x0, 0x0, 0x0, 0x1, 0x0, 0x0⟩,
  ⟨R.SYS_BLK_RST, 0x0, 0x0, 0x0, 0x0, 0x8000000F, 0x0, 0x0⟩,
  ⟨R.SYS_BLK_RST_STAT, 0x0, 0x3FF, 0x0, 0x0, 0x0, 0x0, 0x0⟩,
  ⟨R.SYS_PWR_STAT, 0x0, 0x177, 0x0, 0x0, 0x0, 0x0, 0x0⟩,
  ⟨R.SYS_UPTIME, 0x0, 0xFFFFFFFF, 0x0, 0x0, 0x0, 0x0, 0x0⟩,
  ⟨R.SYS_EVT, 0x0, 0x0, 0x3, 0x0, 0x0, 0x0, 0x0⟩,
  ⟨R.SYS_EVT_EN, 0x3, 0x0, 0x0, 0x0, 0x0, 0x0, 0x0⟩,
  ⟨R.SYS_RTC_LO, 0x0, 0xFFFFFFFF, 0x0, 0x0, 0x0, 0x0, 0x0⟩,
  ⟨R.SYS_RTC_HI, 0x0, 0xFFFF, 0x0, 0x0, 0x0, 0x0, 0x0⟩,
  ⟨R.SYS_ALARM_LO, 0x0, 0xFFFFFFFF, 0x0, 0x0, 0x0, 0x0, 0x0⟩,
  ⟨R.SYS_ALARM_HI, 0x0, 0x8000FFFF, 0x0, 0x0, 0x0, 0x0, 0x0⟩,
  ⟨R.SYS_OPT, 0x0, 0xFFFFFFFF, 0x0, 0x0, 0x0, 0x0, 0x0⟩]

/-- Access codes of block TIME. -/
def rowsTIME0 : List RegRow := [
  ⟨R.TIME_TICK_LO, 0x0, 0xFFFFFFFF, 0x0, 0x0, 0x0, 0x0, 0x0⟩,
  ⟨R.TIME_TICK_HI, 0x0, 0xFFFFFFFF, 0x0, 0x0, 0x0, 0x0, 0x0⟩,
  ⟨R.TIME_GRID_STAT, 0x0, 0xFF03, 0x0, 0x0, 0x0, 0x0, 0x0⟩,
  ⟨R.TIME_GRID_ERR, 0x0, 0xFFFFFFFF, 0x0, 0x0, 0x0, 0x0, 0x0⟩,
  ⟨R.TIME_GRID_CTRL, 0xBFFFFFFF, 0x0, 0x0, 0x0, 0x0, 0x0, 0x0⟩,
  ⟨R.TIME_GRID_EVT, 0x0, 0x0, 0xF, 0x0, 0x0, 0x0, 0x0⟩,
  ⟨R.TIME_LAT_COMMIT, 0x0, 0x0, 0x0, 0x0, 0x1, 0x0, 0x0⟩,
  ⟨R.TIME_LAT_SRC, 0x0, 0x0, 0x0, 0x0, 0x0, 0x0, 0xFFFF⟩,
  ⟨R.TIME_LAT_VIA, 0x0, 0x0, 0x0, 0x0, 0x0, 0x0, 0x1FF83FF⟩,
  ⟨R.TIME_LAT_SINK, 0x0, 0x0, 0x0, 0x0, 0x0, 0x0, 0x8000FFFF⟩,
  ⟨R.TIME_LAT_FLOOR, 0x0, 0xFFFFFFFF, 0x0, 0x0, 0x0, 0x0, 0x0⟩,
  ⟨R.TIME_LAT_PASS, 0x0, 0xFFFFFFFF, 0x0, 0x0, 0x0, 0x0, 0x0⟩,
  ⟨R.TIME_LAT_PROG, 0x0, 0xFFFFFFFF, 0x0, 0x0, 0x0, 0x0, 0x0⟩,
  ⟨R.TIME_LAT_RATIO, 0x0, 0xFFFF, 0x0, 0x0, 0x0, 0x0, 0x0⟩,
  ⟨R.TIME_LAT_STAT, 0x0, 0x7F, 0x0, 0x0, 0x0, 0x0, 0x0⟩,
  ⟨R.TIME_CFG, 0x0, 0x0, 0x0, 0x0, 0x0, 0x0, 0x3FF03⟩,
  ⟨R.TIME_MSG, 0x0, 0x0, 0x0, 0x0, 0x0, 0x0, 0xFFFFFFF⟩,
  ⟨R.TIME_COMMIT, 0x0, 0x0, 0x0, 0x0, 0x1, 0x0, 0x0⟩,
  ⟨R.TIME_STAT, 0x0, 0x1FFF, 0x0, 0x0, 0x0, 0x0, 0x0⟩,
  ⟨R.TIME_EVT, 0x0, 0x0, 0xFFF, 0x0, 0x0, 0x0, 0x0⟩,
  ⟨R.TIME_EVT_EN, 0xFFF, 0x0, 0x0, 0x0, 0x0, 0x0, 0x0⟩,
  ⟨R.TIME_NOW_NS, 0x0, 0x3FFFFFFF, 0x0, 0x0, 0x0, 0x0, 0x0⟩,
  ⟨R.TIME_NOW_SEC_LO, 0x0, 0xFFFFFFFF, 0x0, 0x0, 0x0, 0x0, 0x0⟩,
  ⟨R.TIME_NOW_SEC_HI, 0x0, 0xFFFF, 0x0, 0x0, 0x0, 0x0, 0x0⟩,
  ⟨R.TIME_SERVO_KP, 0xFFFFFFFF, 0x0, 0x0, 0x0, 0x0, 0x0, 0x0⟩,
  ⟨R.TIME_SERVO_KI, 0xFFFFFFFF, 0x0, 0x0, 0x0, 0x0, 0x0, 0x0⟩,
  ⟨R.TIME_STEP_NS, 0xFFFFFFFF, 0x0, 0x0, 0x0, 0x0, 0x0, 0x0⟩,
  ⟨R.TIME_FREQ, 0x0, 0xFFFFFFFF, 0x0, 0x0, 0x0, 0x0, 0x0⟩,
  ⟨R.TIME_OFS_LO, 0x0, 0xFFFFFFFF, 0x0, 0x0, 0x0, 0x0, 0x0⟩,
  ⟨R.TIME_OFS_HI, 0x0, 0xFFFFFFFF, 0x0, 0x0, 0x0, 0x0, 0x0⟩]

/-- Access codes of block TIME. -/
def rowsTIME1 : List RegRow := [
  ⟨R.TIME_MPD, 0x0, 0xFFFFFFFF, 0x0, 0x0, 0x0, 0x0, 0x0⟩,
  ⟨R.TIME_SHADOW_LO, 0x0, 0xFFFFFFFF, 0x0, 0x0, 0x0, 0x0, 0x0⟩,
  ⟨R.TIME_SHADOW_HI, 0x0, 0xFFFFFFFF, 0x0, 0x0, 0x0, 0x0, 0x0⟩,
  ⟨R.TIME_SHADOW_MPD, 0x0, 0xFFFFFFFF, 0x0, 0x0, 0x0, 0x0, 0x0⟩,
  ⟨R.TIME_SAMPLE_SEQ, 0x0, 0xFFFFFFFF, 0x0, 0x0, 0x0, 0x0, 0x0⟩,
  ⟨R.TIME_GM_LO, 0x0, 0xFFFFFFFF, 0x0, 0x0, 0x0, 0x0, 0x0⟩,
  ⟨R.TIME_GM_HI, 0x0, 0xFFFFFFFF, 0x0, 0x0, 0x0, 0x0, 0x0⟩,
  ⟨R.TIME_ADJ_FREQ, 0xFFFFFFFF, 0x0, 0x0, 0x0, 0x0, 0x0, 0x0⟩,
  ⟨R.TIME_ADJ_PHASE, 0xFFFFFFFF, 0x0, 0x0, 0x0, 0x0, 0x0, 0x0⟩,
  ⟨R.TIME_ADJ_CTRL, 0x0, 0x0, 0x0, 0x0, 0x80000003, 0x0, 0x0⟩,
  ⟨R.TIME_FAILOVER, 0x0, 0x0, 0x0, 0x0, 0x1, 0x0, 0x0⟩,
  ⟨R.TIME_REDUND, 0x31F, 0x0, 0x0, 0x0, 0x0, 0x0, 0x0⟩,
  ⟨R.TIME_LAUNCH_CFG, 0x3F03FF, 0x0, 0x0, 0x0, 0x0, 0x0, 0x0⟩,
  ⟨R.TIME_PPS_CFG, 0xFFFF0007, 0x0, 0x0, 0x0, 0x0, 0x0, 0x0⟩,
  ⟨R.TIME_PPS_OFS, 0xFFFFFFFF, 0x0, 0x0, 0x0, 0x0, 0x0, 0x0⟩,
  ⟨R.TIME_EVTQ_STAT, 0x0, 0xFF1F, 0x0, 0x0, 0x0, 0x0, 0x0⟩,
  ⟨R.TIME_EVTQ_SEC_LO, 0x0, 0xFFFFFFFF, 0x0, 0x0, 0x0, 0x0, 0x0⟩,
  ⟨R.TIME_EVTQ_SEC_HI, 0x0, 0xFFFFFFFF, 0x0, 0x0, 0x0, 0x0, 0x0⟩,
  ⟨R.TIME_EVTQ_NS, 0x0, 0x3FFFFFFF, 0x0, 0x0, 0x0, 0x0, 0x0⟩,
  ⟨R.TIME_EVTQ_POP, 0x0, 0x0, 0x0, 0x0, 0x1, 0x0, 0x0⟩,
  ⟨R.TIME_FAILOVERS, 0x0, 0x0, 0x0, 0x0, 0x0, 0xFFFFFFFF, 0x0⟩,
  ⟨R.TIME_SYNC_TO, 0x0, 0x0, 0x0, 0x0, 0x0, 0xFFFFFFFF, 0x0⟩,
  ⟨R.TIME_ANN_TO, 0x0, 0x0, 0x0, 0x0, 0x0, 0xFFFFFFFF, 0x0⟩,
  ⟨R.TIME_OUTLIERS, 0x0, 0x0, 0x0, 0x0, 0x0, 0xFFFFFFFF, 0x0⟩,
  ⟨R.TIME_SUSPECTS, 0x0, 0x0, 0x0, 0x0, 0x0, 0xFFFFFFFF, 0x0⟩,
  ⟨R.TIME_LAUNCH_LATE, 0x0, 0x0, 0x0, 0x0, 0x0, 0xFFFFFFFF, 0x0⟩,
  ⟨R.TIME_CTRL_MOVES, 0x0, 0x0, 0x0, 0x0, 0x0, 0xFFFFFFFF, 0x0⟩,
  ⟨R.TIME_STEPS, 0x0, 0x0, 0x0, 0x0, 0x0, 0xFFFFFFFF, 0x0⟩,
  ⟨R.TIME_PORT_STAT, 0x0, 0xFF1F, 0x0, 0x0, 0x0, 0x0, 0x0⟩,
  ⟨R.TIME_PORT_RX_LAT, 0xFFFF, 0x0, 0x0, 0x0, 0x0, 0x0, 0x0⟩]

/-- Access codes of block TIME. -/
def rowsTIME2 : List RegRow := [
  ⟨R.TIME_PORT_TX_LAT, 0xFFFF, 0x0, 0x0, 0x0, 0x0, 0x0, 0x0⟩,
  ⟨R.TIME_PORT_ASYM, 0xFFFFFFFF, 0x0, 0x0, 0x0, 0x0, 0x0, 0x0⟩,
  ⟨R.TIME_PORT_TXTS_STAT, 0x0, 0xFFFF001F, 0x100, 0x0, 0x0, 0x0, 0x0⟩,
  ⟨R.TIME_PORT_TXTS_ID, 0x0, 0x1FFFF, 0x0, 0x0, 0x0, 0x0, 0x0⟩,
  ⟨R.TIME_PORT_TXTS_SEC_LO, 0x0, 0xFFFFFFFF, 0x0, 0x0, 0x0, 0x0, 0x0⟩,
  ⟨R.TIME_PORT_TXTS_SEC_HI, 0x0, 0xFFFFFFFF, 0x0, 0x0, 0x0, 0x0, 0x0⟩,
  ⟨R.TIME_PORT_TXTS_NS, 0x0, 0x3FFFFFFF, 0x0, 0x0, 0x0, 0x0, 0x0⟩,
  ⟨R.TIME_PORT_TXTS_POP, 0x0, 0x0, 0x0, 0x0, 0x1, 0x0, 0x0⟩,
  ⟨R.TIME_PORT_TXTS_LOST, 0x0, 0x0, 0x0, 0x0, 0x0, 0xFFFFFFFF, 0x0⟩]

/-- Access codes of block RENDER. -/
def rowsRENDER0 : List RegRow := [
  ⟨R.RENDER_COMMIT, 0x0, 0x0, 0x0, 0x0, 0x3, 0x0, 0x0⟩,
  ⟨R.RENDER_FE_EVT, 0x0, 0x0, 0x1F, 0x0, 0x0, 0x0, 0x0⟩,
  ⟨R.RENDER_FE_EVT_EN, 0x1F, 0x0, 0x0, 0x0, 0x0, 0x0, 0x0⟩,
  ⟨R.RENDER_INSEL, 0x0, 0x0, 0x0, 0x0, 0x0, 0x0, 0x1FFFF⟩,
  ⟨R.RENDER_INSTAT, 0x0, 0x77F, 0x0, 0x0, 0x0, 0x0, 0x0⟩,
  ⟨R.RENDER_IN_RATIO, 0x0, 0xFFFFFFFF, 0x0, 0x0, 0x0, 0x0, 0x0⟩,
  ⟨R.RENDER_GEN_CTRL, 0x0, 0x0, 0x0, 0x0, 0x0, 0x0, 0x1F07⟩,
  ⟨R.RENDER_GEN_FREQ, 0x0, 0x0, 0x0, 0x0, 0x0, 0x0, 0xFFFFFFFF⟩,
  ⟨R.RENDER_GEN_LEVEL, 0x0, 0x0, 0x0, 0x0, 0x0, 0x0, 0xFFFFFF⟩,
  ⟨R.RENDER_GEN_SEED, 0x0, 0x0, 0x0, 0x0, 0x0, 0x0, 0xFFFFFFFF⟩,
  ⟨R.RENDER_PLAY_CTRL, 0x1, 0x0, 0x0, 0x0, 0x0, 0x0, 0x0⟩,
  ⟨R.RENDER_PLAY_BASE_LO, 0xFFFFFFC0, 0x0, 0x0, 0x0, 0x0, 0x0, 0x0⟩,
  ⟨R.RENDER_PLAY_BASE_HI, 0xFF, 0x0, 0x0, 0x0, 0x0, 0x0, 0x0⟩,
  ⟨R.RENDER_PLAY_SIZE, 0x1FFFFFF, 0x0, 0x0, 0x0, 0x0, 0x0, 0x0⟩,
  ⟨R.RENDER_PLAY_WR, 0xFFFFFF, 0x0, 0x0, 0x0, 0x0, 0x0, 0x0⟩,
  ⟨R.RENDER_PLAY_RD, 0x0, 0xFFFFFF, 0x0, 0x0, 0x0, 0x0, 0x0⟩,
  ⟨R.RENDER_PLAY_UNDERRUN, 0x0, 0x0, 0x0, 0x0, 0x0, 0xFFFFFFFF, 0x0⟩,
  ⟨R.RENDER_CLIP, 0x0, 0x0, 0x0, 0x0, 0x0, 0xFFFFFFFF, 0x0⟩,
  ⟨R.RENDER_GEO_STAT, 0x0, 0xF, 0x0, 0x0, 0x0, 0x0, 0x0⟩,
  ⟨R.RENDER_GEO_ACTIVE, 0x0, 0x3FFFF, 0x0, 0x0, 0x0, 0x0, 0x0⟩,
  ⟨R.RENDER_GEO_BUDGET, 0x0, 0x3FFFF, 0x0, 0x0, 0x0, 0x0, 0x0⟩,
  ⟨R.RENDER_GEO_EVT, 0x0, 0x0, 0xFF, 0x0, 0x0, 0x0, 0x0⟩,
  ⟨R.RENDER_GEO_EVT_EN, 0xFF, 0x0, 0x0, 0x0, 0x0, 0x0, 0x0⟩,
  ⟨R.RENDER_GEO_C, 0x0, 0xFFFFFFFF, 0x0, 0x0, 0x0, 0x0, 0x0⟩,
  ⟨R.RENDER_GEO_ALPHA, 0x0, 0xFFFFFFFF, 0x0, 0x0, 0x0, 0x0, 0x0⟩,
  ⟨R.RENDER_GEO_TABLE, 0x0, 0xFF1FFFFF, 0x0, 0x0, 0x0, 0x0, 0x0⟩,
  ⟨R.RENDER_DOPPLER_CLAMP, 0x0, 0x0, 0x0, 0x0, 0x0, 0xFFFFFFFF, 0x0⟩,
  ⟨R.RENDER_DELAY_CLAMP, 0x0, 0x0, 0x0, 0x0, 0x0, 0xFFFFFFFF, 0x0⟩,
  ⟨R.RENDER_PATH_DENIED, 0x0, 0x0, 0x0, 0x0, 0x0, 0xFFFFFFFF, 0x0⟩,
  ⟨R.RENDER_KEY_LATE, 0x0, 0x0, 0x0, 0x0, 0x0, 0xFFFFFFFF, 0x0⟩]

/-- Access codes of block RENDER. -/
def rowsRENDER1 : List RegRow := [
  ⟨R.RENDER_KEY_STALE, 0x0, 0x0, 0x0, 0x0, 0x0, 0xFFFFFFFF, 0x0⟩,
  ⟨R.RENDER_GEO_LATE, 0x0, 0x0, 0x0, 0x0, 0x0, 0xFFFFFFFF, 0x0⟩,
  ⟨R.RENDER_GEO_DIAG_OBJ, 0x1FF, 0x0, 0x0, 0x0, 0x0, 0x0, 0x0⟩,
  ⟨R.RENDER_GEO_POS_X, 0x0, 0xFFFFFFFF, 0x0, 0x0, 0x0, 0x0, 0x0⟩,
  ⟨R.RENDER_GEO_POS_Y, 0x0, 0xFFFFFFFF, 0x0, 0x0, 0x0, 0x0, 0x0⟩,
  ⟨R.RENDER_GEO_POS_Z, 0x0, 0xFFFFFFFF, 0x0, 0x0, 0x0, 0x0, 0x0⟩,
  ⟨R.RENDER_GEO_OBJSTAT, 0x0, 0x3FF3FF, 0x0, 0x0, 0x0, 0x0, 0x0⟩,
  ⟨R.RENDER_BULK_BASE_LO, 0xFFF00000, 0x0, 0x0, 0x0, 0x0, 0x0, 0x0⟩,
  ⟨R.RENDER_BULK_BASE_HI, 0x800000FF, 0x0, 0x0, 0x0, 0x0, 0x0, 0x0⟩,
  ⟨R.RENDER_PR_STAT, 0x0, 0x3FF0003, 0x0, 0x0, 0x0, 0x0, 0x0⟩,
  ⟨R.RENDER_PR_EVT, 0x0, 0x0, 0xF, 0x0, 0x0, 0x0, 0x0⟩,
  ⟨R.RENDER_PR_EVT_EN, 0xF, 0x0, 0x0, 0x0, 0x0, 0x0, 0x0⟩,
  ⟨R.RENDER_STEP_LIMIT, 0x0, 0x0, 0x0, 0x0, 0x0, 0xFFFFFFFF, 0x0⟩,
  ⟨R.RENDER_BULK_STARVE, 0x0, 0x0, 0x0, 0x0, 0x0, 0xFFFFFFFF, 0x0⟩,
  ⟨R.RENDER_SWARD_PERR, 0x0, 0x0, 0x0, 0x0, 0x0, 0xFFFFFFFF, 0x0⟩,
  ⟨R.RENDER_SWARD_DIAG_ADDR, 0x1FFFDFF, 0x0, 0x0, 0x0, 0x0, 0x0, 0x0⟩,
  ⟨R.RENDER_SWARD_DIAG_DATA, 0x0, 0xFFFFFFFF, 0x0, 0x0, 0x0, 0x0, 0x0⟩,
  ⟨R.RENDER_SWARD_FILL, 0x0, 0xFFFF, 0x0, 0x0, 0x0, 0x0, 0x0⟩,
  ⟨R.RENDER_PE_OCC, 0x0, 0xFFF, 0x0, 0x0, 0x0, 0x0, 0x0⟩,
  ⟨R.RENDER_BULK_STAT, 0x0, 0x77, 0x0, 0x0, 0x0, 0x0, 0x0⟩,
  ⟨R.RENDER_HP_STAT, 0x0, 0xFFFFFFF, 0x0, 0x0, 0x0, 0x0, 0x0⟩,
  ⟨R.RENDER_HP_EVT, 0x0, 0x0, 0x7F, 0x0, 0x0, 0x0, 0x0⟩,
  ⟨R.RENDER_HP_EVT_EN, 0x7F, 0x0, 0x0, 0x0, 0x0, 0x0, 0x0⟩,
  ⟨R.RENDER_HP_LATE, 0x0, 0x0, 0x0, 0x0, 0x0, 0xFFFFFFFF, 0x0⟩,
  ⟨R.RENDER_HP_STALE, 0x0, 0x0, 0x0, 0x0, 0x0, 0xFFFFFFFF, 0x0⟩,
  ⟨R.RENDER_HP_HOLD, 0x0, 0x0, 0x0, 0x0, 0x0, 0xFFFFFFFF, 0x0⟩,
  ⟨R.RENDER_HP_TIMEOUT, 0x0, 0x0, 0x0, 0x0, 0x0, 0xFFFFFFFF, 0x0⟩,
  ⟨R.RENDER_HP_POOL, 0x0, 0x7FFFF, 0x0, 0x0, 0x0, 0x0, 0x0⟩,
  ⟨R.RENDER_HP_COMMIT, 0x0, 0x0, 0x0, 0x0, 0x1, 0x0, 0x0⟩,
  ⟨R.RENDER_HP_CFG, 0x0, 0x0, 0x0, 0x0, 0x0, 0x0, 0x3FFF⟩]

/-- Access codes of block RENDER. -/
def rowsRENDER2 : List RegRow := [
  ⟨R.RENDER_HP_OBJSTAT, 0x0, 0x7FFFFFF, 0x0, 0x0, 0x0, 0x0, 0x0⟩]

/-- Access codes of block FEED. -/
def rowsFEED0 : List RegRow := [
  ⟨R.FEED_CORR_BASE_LO, 0xFFF00000, 0x0, 0x0, 0x0, 0x0, 0x0, 0x0⟩,
  ⟨R.FEED_CORR_BASE_HI, 0x800000FF, 0x0, 0x0, 0x0, 0x0, 0x0, 0x0⟩,
  ⟨R.FEED_CORR_STAT, 0x0, 0x3FFFF, 0x0, 0x0, 0x0, 0x0, 0x0⟩,
  ⟨R.FEED_CORR_EVT, 0x0, 0x0, 0x3FF, 0x0, 0x0, 0x0, 0x0⟩,
  ⟨R.FEED_CORR_EVT_EN, 0x3FF, 0x0, 0x0, 0x0, 0x0, 0x0, 0x0⟩,
  ⟨R.FEED_TAIL_MISS, 0x0, 0x0, 0x0, 0x0, 0x0, 0xFFFFFFFF, 0x0⟩,
  ⟨R.FEED_CORR_ECC, 0x0, 0x0, 0x0, 0x0, 0x0, 0xFFFFFFFF, 0x0⟩,
  ⟨R.FEED_CORR_PERR, 0x0, 0x0, 0x0, 0x0, 0x0, 0xFFFFFFFF, 0x0⟩,
  ⟨R.FEED_XF_QUEUED, 0x0, 0x0, 0x0, 0x0, 0x0, 0xFFFFFFFF, 0x0⟩,
  ⟨R.FEED_XF_REPLACED, 0x0, 0x0, 0x0, 0x0, 0x0, 0xFFFFFFFF, 0x0⟩,
  ⟨R.FEED_XF_NOCHANGE, 0x0, 0x0, 0x0, 0x0, 0x0, 0xFFFFFFFF, 0x0⟩,
  ⟨R.FEED_XF_DEFER, 0x0, 0x0, 0x0, 0x0, 0x0, 0xFFFFFFFF, 0x0⟩,
  ⟨R.FEED_TRIM_STARVE, 0x0, 0x0, 0x0, 0x0, 0x0, 0xFFFFFFFF, 0x0⟩,
  ⟨R.FEED_BQ_CLAMP, 0x0, 0x0, 0x0, 0x0, 0x0, 0xFFFFFFFF, 0x0⟩,
  ⟨R.FEED_ID_SEL, 0x101FF, 0x0, 0x0, 0x0, 0x0, 0x0, 0x0⟩,
  ⟨R.FEED_ID_LO, 0x0, 0xFFFFFFFF, 0x0, 0x0, 0x0, 0x0, 0x0⟩,
  ⟨R.FEED_ID_HI, 0x0, 0xFFFFFFFF, 0x0, 0x0, 0x0, 0x0, 0x0⟩,
  ⟨R.FEED_XFCFG, 0x1F, 0x0, 0x0, 0x0, 0x0, 0x0, 0x0⟩,
  ⟨R.FEED_BANK_STAT, 0x0, 0x3FFF03FF, 0x0, 0x0, 0x0, 0x0, 0x0⟩,
  ⟨R.FEED_XF_POS, 0x0, 0x7FFF, 0x0, 0x0, 0x0, 0x0, 0x0⟩,
  ⟨R.FEED_TRIM_STAT, 0x0, 0x1FFFF, 0x0, 0x0, 0x0, 0x0, 0x0⟩,
  ⟨R.FEED_OUT_COMMIT, 0x0, 0x0, 0x0, 0x0, 0x1, 0x0, 0x0⟩,
  ⟨R.FEED_OUT_EVT, 0x0, 0x0, 0x1FF, 0x0, 0x0, 0x0, 0x0⟩,
  ⟨R.FEED_OUT_EVT_EN, 0x1FF, 0x0, 0x0, 0x0, 0x0, 0x0, 0x0⟩,
  ⟨R.FEED_WORD_CLAMP, 0x0, 0x0, 0x0, 0x0, 0x0, 0xFFFFFFFF, 0x0⟩,
  ⟨R.FEED_CONV_SAT, 0x0, 0x0, 0x0, 0x0, 0x0, 0xFFFFFFFF, 0x0⟩,
  ⟨R.FEED_CONV_SAT_LAST, 0x0, 0xFFF, 0x0, 0x0, 0x0, 0x0, 0x0⟩,
  ⟨R.FEED_ZC_TIMEOUT, 0x0, 0x0, 0x0, 0x0, 0x0, 0xFFFFFFFF, 0x0⟩,
  ⟨R.FEED_HWMUTE_CFG, 0x303FF, 0x0, 0x0, 0x0, 0x0, 0x0, 0x0⟩,
  ⟨R.FEED_HWMUTE_STAT, 0x0, 0xF, 0x0, 0x0, 0x0, 0x0, 0x0⟩]

/-- Access codes of block FEED. -/
def rowsFEED1 : List RegRow := [
  ⟨R.FEED_HWMUTE_CLR, 0x0, 0x0, 0x0, 0x0, 0x1, 0x0, 0x0⟩,
  ⟨R.FEED_BE_STAT, 0x0, 0x17F7F, 0x0, 0x0, 0x0, 0x0, 0x0⟩,
  ⟨R.FEED_LIM_GR, 0x0, 0x0, 0x0, 0x0, 0x0, 0xFFFF, 0x0⟩,
  ⟨R.FEED_SAT, 0x0, 0x0, 0x0, 0x0, 0x0, 0xFFFFFFFF, 0x0⟩,
  ⟨R.FEED_OUTSEL, 0x0, 0x0, 0x0, 0x0, 0x0, 0x0, 0xFFFF⟩,
  ⟨R.FEED_CAP_CTRL, 0x1, 0x0, 0x0, 0x0, 0x0, 0x0, 0x0⟩,
  ⟨R.FEED_CAP_BASE_LO, 0xFFFFFFC0, 0x0, 0x0, 0x0, 0x0, 0x0, 0x0⟩,
  ⟨R.FEED_CAP_BASE_HI, 0xFF, 0x0, 0x0, 0x0, 0x0, 0x0, 0x0⟩,
  ⟨R.FEED_CAP_SIZE, 0x1FFFFFF, 0x0, 0x0, 0x0, 0x0, 0x0, 0x0⟩,
  ⟨R.FEED_CAP_WR, 0x0, 0xFFFFFF, 0x0, 0x0, 0x0, 0x0, 0x0⟩,
  ⟨R.FEED_CAP_RD, 0xFFFFFF, 0x0, 0x0, 0x0, 0x0, 0x0, 0x0⟩,
  ⟨R.FEED_CAP_OVERRUN, 0x0, 0x0, 0x0, 0x0, 0x0, 0xFFFFFFFF, 0x0⟩,
  ⟨R.FEED_CAP_T0_LO, 0x0, 0xFFFFFFFF, 0x0, 0x0, 0x0, 0x0, 0x0⟩,
  ⟨R.FEED_CAP_T0_HI, 0x0, 0xFFFFFFFF, 0x0, 0x0, 0x0, 0x0, 0x0⟩,
  ⟨R.FEED_SINK_STAT, 0x0, 0x3F, 0x0, 0x0, 0x0, 0x0, 0x0⟩]

/-- Access codes of block MEAS. -/
def rowsMEAS : List RegRow := [
  ⟨R.MEAS_COMMIT, 0x0, 0x0, 0x0, 0x0, 0x1, 0x0, 0x0⟩,
  ⟨R.MEAS_EVT, 0x0, 0x0, 0x1F, 0x0, 0x0, 0x0, 0x0⟩,
  ⟨R.MEAS_EVT_EN, 0x1F, 0x0, 0x0, 0x0, 0x0, 0x0, 0x0⟩,
  ⟨R.MEAS_STREAM_OVERRUN, 0x0, 0x0, 0x0, 0x0, 0x0, 0xFFFFFFFF, 0x0⟩,
  ⟨R.MEAS_ANA_RESTART, 0x0, 0x0, 0x0, 0x0, 0x0, 0xFFFFFFFF, 0x0⟩,
  ⟨R.MEAS_CH_CFG, 0x0, 0x0, 0x0, 0x0, 0x0, 0x0, 0x7FFFF⟩,
  ⟨R.MEAS_CH_LVL_CFG, 0x0, 0x0, 0x0, 0x0, 0x0, 0x0, 0xFFF⟩,
  ⟨R.MEAS_CH_ANA_CFG, 0x0, 0x0, 0x0, 0x0, 0x0, 0x0, 0x1FFFFFF⟩,
  ⟨R.MEAS_CH_ANA_N, 0x0, 0x0, 0x0, 0x0, 0x0, 0x0, 0xFFFFFF⟩,
  ⟨R.MEAS_CH_RES_BASE_LO, 0x0, 0x0, 0x0, 0x0, 0x0, 0x0, 0xFFFFFF00⟩,
  ⟨R.MEAS_CH_RES_BASE_HI, 0x0, 0x0, 0x0, 0x0, 0x0, 0x0, 0xFF⟩,
  ⟨R.MEAS_CH_STR_CTRL, 0x1, 0x0, 0x0, 0x0, 0x0, 0x0, 0x0⟩,
  ⟨R.MEAS_CH_STR_BASE_LO, 0xFFFFFF00, 0x0, 0x0, 0x0, 0x0, 0x0, 0x0⟩,
  ⟨R.MEAS_CH_STR_BASE_HI, 0xFF, 0x0, 0x0, 0x0, 0x0, 0x0, 0x0⟩,
  ⟨R.MEAS_CH_STR_SIZE, 0x1FFFFFF, 0x0, 0x0, 0x0, 0x0, 0x0, 0x0⟩,
  ⟨R.MEAS_CH_STR_WR, 0x0, 0xFFFFFF, 0x0, 0x0, 0x0, 0x0, 0x0⟩,
  ⟨R.MEAS_CH_STR_RD, 0xFFFFFF, 0x0, 0x0, 0x0, 0x0, 0x0, 0x0⟩,
  ⟨R.MEAS_CH_STAT, 0x0, 0x3F, 0x0, 0x0, 0x0, 0x0, 0x0⟩,
  ⟨R.MEAS_CH_LVL, 0x0, 0xFFFFFFFF, 0x0, 0x0, 0x0, 0x0, 0x0⟩,
  ⟨R.MEAS_CH_RES_SEQ, 0x0, 0xFFFFFFFF, 0x0, 0x0, 0x0, 0x0, 0x0⟩,
  ⟨R.MEAS_CH_FRAMES, 0x0, 0xFFFFFFFF, 0x0, 0x0, 0x0, 0x0, 0x0⟩,
  ⟨R.MEAS_CH_FIRST_LO, 0x0, 0xFFFFFFFF, 0x0, 0x0, 0x0, 0x0, 0x0⟩,
  ⟨R.MEAS_CH_FIRST_HI, 0x0, 0xFFFFFFFF, 0x0, 0x0, 0x0, 0x0, 0x0⟩]

/-- Access codes of block FAB. -/
def rowsFAB0 : List RegRow := [
  ⟨R.FAB_STAT, 0x0, 0x7, 0x0, 0x0, 0x0, 0x0, 0x0⟩,
  ⟨R.FAB_EVT, 0x0, 0x0, 0x1F, 0x0, 0x0, 0x0, 0x0⟩,
  ⟨R.FAB_EVT_EN, 0x1F, 0x0, 0x0, 0x0, 0x0, 0x0, 0x0⟩,
  ⟨R.FAB_GATE_CFG, 0x31FFF, 0x0, 0x0, 0x0, 0x0, 0x0, 0x0⟩,
  ⟨R.FAB_TICK_SLACK, 0x0, 0x807FFFFF, 0x0, 0x0, 0x0, 0x0, 0x0⟩,
  ⟨R.FAB_SLACK_MIN, 0x0, 0x7FFFFF, 0x0, 0x0, 0x0, 0x0, 0x0⟩,
  ⟨R.FAB_MIN_CLR, 0x0, 0x0, 0x0, 0x0, 0x1, 0x0, 0x0⟩,
  ⟨R.FAB_LATE_TICKS, 0x0, 0x0, 0x0, 0x0, 0x0, 0xFFFFFFFF, 0x0⟩,
  ⟨R.FAB_MISS_TICKS, 0x0, 0x0, 0x0, 0x0, 0x0, 0xFFFFFFFF, 0x0⟩,
  ⟨R.FAB_MISS_TICK_LO, 0x0, 0xFFFFFFFF, 0x0, 0x0, 0x0, 0x0, 0x0⟩,
  ⟨R.FAB_MISS_TICK_HI, 0x0, 0xFFFFFFFF, 0x0, 0x0, 0x0, 0x0, 0x0⟩,
  ⟨R.FAB_HANG_ENG, 0x0, 0xFF, 0x0, 0x0, 0x0, 0x0, 0x0⟩,
  ⟨R.FAB_GATE_STAT, 0x0, 0xFFFFF, 0x0, 0x0, 0x0, 0x0, 0x0⟩,
  ⟨R.FAB_WAKE_STAT, 0x0, 0xFFFFF, 0x0, 0x0, 0x0, 0x0, 0x0⟩,
  ⟨R.FAB_WAKE_DEFER, 0x0, 0x0, 0x0, 0x0, 0x0, 0xFFFFFFFF, 0x0⟩,
  ⟨R.FAB_SLACK_HIST, 0x0, 0x0, 0x0, 0x0, 0x0, 0xFFFFFFFF, 0x0⟩,
  ⟨R.FAB_ENG_SLACK, 0x0, 0xFFFFFFFF, 0x0, 0x0, 0x0, 0x0, 0x0⟩,
  ⟨R.FAB_ENG_LATE, 0x0, 0x0, 0x0, 0x0, 0x0, 0xFFFFFFFF, 0x0⟩,
  ⟨R.FAB_ENG_MISS, 0x0, 0x0, 0x0, 0x0, 0x0, 0xFFFFFFFF, 0x0⟩,
  ⟨R.FAB_ENG_CYC, 0x0, 0x3FFFF, 0x0, 0x0, 0x0, 0x0, 0x0⟩,
  ⟨R.FAB_IBEX_STAT, 0x0, 0x3FF001F, 0x0, 0x0, 0x0, 0x0, 0x0⟩,
  ⟨R.FAB_IBEX_CFG, 0x81FFF3FF, 0x0, 0x0, 0x0, 0x0, 0x0, 0x0⟩,
  ⟨R.FAB_IBEX_EVT, 0x0, 0x0, 0xFF, 0x0, 0x0, 0x0, 0x0⟩,
  ⟨R.FAB_IBEX_EVT_EN, 0xFF, 0x0, 0x0, 0x0, 0x0, 0x0, 0x0⟩,
  ⟨R.FAB_IBEX_APPROVE, 0x300, 0x0, 0x0, 0x10003, 0x0, 0x0, 0x0⟩,
  ⟨R.FAB_IBEX_REQ, 0x0, 0x7, 0x0, 0x0, 0x0, 0x0, 0x0⟩,
  ⟨R.FAB_VFLOOR, 0x0, 0x3FF03FF, 0x0, 0x0, 0x0, 0x0, 0x0⟩,
  ⟨R.FAB_PRED, 0x0, 0xFFFFFFFF, 0x0, 0x0, 0x0, 0x0, 0x0⟩,
  ⟨R.FAB_AGE, 0x0, 0x3F3FFFFF, 0x0, 0x0, 0x0, 0x0, 0x0⟩,
  ⟨R.FAB_SUP_OPT, 0x0, 0xFFFFF, 0x0, 0x0, 0x0, 0x0, 0x0⟩]

/-- Access codes of block FAB. -/
def rowsFAB1 : List RegRow := [
  ⟨R.FAB_IBEX_UP, 0x0, 0x0, 0x0, 0x0, 0x0, 0xFFFFFFFF, 0x0⟩,
  ⟨R.FAB_IBEX_DOWN, 0x0, 0x0, 0x0, 0x0, 0x0, 0xFFFFFFFF, 0x0⟩,
  ⟨R.FAB_EMERG, 0x0, 0x0, 0x0, 0x0, 0x0, 0xFFFFFFFF, 0x0⟩,
  ⟨R.FAB_AVS_ERR, 0x0, 0x0, 0x0, 0x0, 0x0, 0xFFFFFFFF, 0x0⟩,
  ⟨R.FAB_TIER_CHG, 0x0, 0x0, 0x0, 0x0, 0x0, 0xFFFFFFFF, 0x0⟩,
  ⟨R.FAB_HERD_STAT, 0x0, 0x1F1F, 0x0, 0x0, 0x0, 0x0, 0x0⟩,
  ⟨R.FAB_LOG_STAT, 0x0, 0xFFFF1FFF, 0x0, 0x0, 0x0, 0x0, 0x0⟩,
  ⟨R.FAB_FAWN_RATE, 0x0, 0xFFFFFF, 0x0, 0x0, 0x0, 0x0, 0x0⟩,
  ⟨R.FAB_FAWN_AGE, 0x0, 0x1FFFF, 0x0, 0x0, 0x0, 0x0, 0x0⟩]

/-- Access codes of block CMD. -/
def rowsCMD : List RegRow := [
  ⟨R.CMD_STAT, 0x0, 0x7F01F1, 0x0, 0x0, 0x0, 0x0, 0x0⟩,
  ⟨R.CMD_EVT, 0x0, 0x0, 0x1F, 0x0, 0x0, 0x0, 0x0⟩,
  ⟨R.CMD_EVT_EN, 0x1F, 0x0, 0x0, 0x0, 0x0, 0x0, 0x0⟩,
  ⟨R.CMD_RX_BAD, 0x0, 0x0, 0x0, 0x0, 0x0, 0xFFFFFFFF, 0x0⟩,
  ⟨R.CMD_CRC_ERR, 0x0, 0x0, 0x0, 0x0, 0x0, 0xFFFFFFFF, 0x0⟩,
  ⟨R.CMD_RX_DUP, 0x0, 0x0, 0x0, 0x0, 0x0, 0xFFFFFFFF, 0x0⟩,
  ⟨R.CMD_RX_DROP, 0x0, 0x0, 0x0, 0x0, 0x0, 0xFFFFFFFF, 0x0⟩,
  ⟨R.CMD_GAP_TIMEOUT, 0x0, 0x0, 0x0, 0x0, 0x0, 0xFFFFFFFF, 0x0⟩,
  ⟨R.CMD_UDP_FOREIGN, 0x0, 0x0, 0x0, 0x0, 0x0, 0xFFFFFFFF, 0x0⟩,
  ⟨R.CMD_UDP_CFG, 0x1FFFF, 0x0, 0x0, 0x0, 0x0, 0x0, 0x0⟩,
  ⟨R.CMD_GAP_CFG, 0x3FF, 0x0, 0x0, 0x0, 0x0, 0x0, 0x0⟩,
  ⟨R.CMD_SPI_CFG, 0x3, 0x0, 0x0, 0x0, 0x0, 0x0, 0x0⟩,
  ⟨R.CMD_UDP_ALLOW_ADDR, 0xFFFFFFFF, 0x0, 0x0, 0x0, 0x0, 0x0, 0x0⟩,
  ⟨R.CMD_UDP_ALLOW_MASK, 0x8000003F, 0x0, 0x0, 0x0, 0x0, 0x0, 0x0⟩,
  ⟨R.CMD_QP_CQ_BASE_LO, 0xFFFFFFC0, 0x0, 0x0, 0x0, 0x0, 0x0, 0x0⟩,
  ⟨R.CMD_QP_CQ_BASE_HI, 0xFFFFFFFF, 0x0, 0x0, 0x0, 0x0, 0x0, 0x0⟩,
  ⟨R.CMD_QP_RQ_BASE_LO, 0xFFFFF000, 0x0, 0x0, 0x0, 0x0, 0x0, 0x0⟩,
  ⟨R.CMD_QP_RQ_BASE_HI, 0xFFFFFFFF, 0x0, 0x0, 0x0, 0x0, 0x0, 0x0⟩,
  ⟨R.CMD_QP_WB_LO, 0xFFFFFFF8, 0x0, 0x0, 0x0, 0x0, 0x0, 0x0⟩,
  ⟨R.CMD_QP_WB_HI, 0xFFFFFFFF, 0x0, 0x0, 0x0, 0x0, 0x0, 0x0⟩,
  ⟨R.CMD_QP_CTRL, 0x3F0FF3, 0x0, 0x0, 0x0, 0x0, 0x0, 0x0⟩,
  ⟨R.CMD_QP_CQ_TAIL, 0xFFF, 0x0, 0x0, 0x0, 0x0, 0x0, 0x0⟩,
  ⟨R.CMD_QP_CQ_HEAD, 0x0, 0xFFF, 0x0, 0x0, 0x0, 0x0, 0x0⟩,
  ⟨R.CMD_QP_RQ_TAIL, 0x0, 0x3FF, 0x0, 0x0, 0x0, 0x0, 0x0⟩,
  ⟨R.CMD_QP_RQ_HEAD, 0x3FF, 0x0, 0x0, 0x0, 0x0, 0x0, 0x0⟩,
  ⟨R.CMD_SESS, 0x0, 0xFFF07FF, 0x0, 0x0, 0x0, 0x0, 0x0⟩,
  ⟨R.CMD_FLOW, 0x0, 0xFFFFFFFF, 0x0, 0x0, 0x0, 0x0, 0x0⟩]

/-- Access codes of block SCHED. -/
def rowsSCHED : List RegRow := [
  ⟨R.SCHED_STAT, 0x0, 0x1FF013F, 0x0, 0x0, 0x0, 0x0, 0x0⟩,
  ⟨R.SCHED_EVT, 0x0, 0x0, 0x1F, 0x0, 0x0, 0x0, 0x0⟩,
  ⟨R.SCHED_EVT_EN, 0x1F, 0x0, 0x0, 0x0, 0x0, 0x0, 0x0⟩,
  ⟨R.SCHED_CFG, 0x3FFFFFF, 0x0, 0x0, 0x0, 0x0, 0x0, 0x0⟩,
  ⟨R.SCHED_READY_MAP, 0x0, 0xFFFFFFFF, 0x0, 0x0, 0x0, 0x0, 0x0⟩,
  ⟨R.SCHED_THREADS, 0x0, 0x3FFFF, 0x0, 0x0, 0x0, 0x0, 0x0⟩,
  ⟨R.SCHED_PREEMPT, 0x0, 0x0, 0x0, 0x0, 0x0, 0xFFFFFFFF, 0x0⟩,
  ⟨R.SCHED_LAT_HIGH, 0x0, 0x0, 0x0, 0x0, 0x0, 0xFFFFFFFF, 0x0⟩,
  ⟨R.SCHED_URG_DEMOTE, 0x0, 0x0, 0x0, 0x0, 0x0, 0xFFFFFFFF, 0x0⟩,
  ⟨R.SCHED_CORE, 0x0, 0x1071FFF, 0x0, 0x0, 0x0, 0x0, 0x0⟩,
  ⟨R.SCHED_GRP_WEIGHT, 0xFF, 0x0, 0x0, 0x0, 0x0, 0x0, 0x0⟩,
  ⟨R.SCHED_GRP_RESV, 0x7F, 0x0, 0x0, 0x0, 0x0, 0x0, 0x0⟩,
  ⟨R.SCHED_GRP_STAT, 0x0, 0x3FFFFFF, 0x0, 0x0, 0x0, 0x0, 0x0⟩,
  ⟨R.SCHED_GRP_DISPATCH, 0x0, 0x0, 0x0, 0x0, 0x0, 0xFFFFFFFF, 0x0⟩,
  ⟨R.SCHED_GRP_RUN_LO, 0x0, 0xFFFFFFFF, 0x0, 0x0, 0x0, 0x0, 0x0⟩,
  ⟨R.SCHED_GRP_RUN_HI, 0x0, 0xFFFFFFFF, 0x0, 0x0, 0x0, 0x0, 0x0⟩,
  ⟨R.SCHED_GRP_LAT_MAX, 0x0, 0x0, 0x0, 0x0, 0x0, 0xFFFFFFFF, 0x0⟩,
  ⟨R.SCHED_THREAD, 0x0, 0x771F03, 0x0, 0x0, 0x0, 0x0, 0x0⟩]

/-- Access codes of block ASP. -/
def rowsASP : List RegRow := [
  ⟨R.ASP_CFG, 0x0, 0x0, 0x0, 0x0, 0x0, 0x0, 0x773FFF⟩,
  ⟨R.ASP_CTRL, 0x7, 0x0, 0x0, 0x0, 0x0, 0x0, 0x0⟩,
  ⟨R.ASP_COMMIT, 0x0, 0x0, 0x0, 0x0, 0x1, 0x0, 0x0⟩,
  ⟨R.ASP_MASK, 0xFFFFFFFF, 0x0, 0x0, 0x0, 0x0, 0x0, 0x0⟩,
  ⟨R.ASP_MASK_LIVE, 0x0, 0xFFFFFFFF, 0x0, 0x0, 0x0, 0x0, 0x0⟩,
  ⟨R.ASP_STAT, 0x0, 0xFF37F, 0x0, 0x0, 0x0, 0x0, 0x0⟩,
  ⟨R.ASP_RATE, 0x0, 0xFFFFFFFF, 0x0, 0x0, 0x0, 0x0, 0x0⟩,
  ⟨R.ASP_STABLE, 0x0, 0xFFFFFFFF, 0x0, 0x0, 0x0, 0x0, 0x0⟩,
  ⟨R.ASP_PHASE, 0x0, 0xFFFFFFFF, 0x0, 0x0, 0x0, 0x0, 0x0⟩,
  ⟨R.ASP_EVT, 0x0, 0x0, 0x7F, 0x0, 0x0, 0x0, 0x0⟩,
  ⟨R.ASP_EVT_EN, 0x7F, 0x0, 0x0, 0x0, 0x0, 0x0, 0x0⟩,
  ⟨R.ASP_SLIP, 0x0, 0xFFFFFFFF, 0x0, 0x0, 0x0, 0x0, 0x0⟩,
  ⟨R.ASP_GLITCH, 0x0, 0xFFFFFFFF, 0x0, 0x0, 0x0, 0x0, 0x0⟩,
  ⟨R.ASP_LOSSES, 0x0, 0xFFFFFFFF, 0x0, 0x0, 0x0, 0x0, 0x0⟩,
  ⟨R.ASP_CNT_CLR, 0x0, 0x0, 0x0, 0x0, 0x1, 0x0, 0x0⟩,
  ⟨R.ASP_TERM, 0x0, 0xFFF, 0x0, 0x0, 0x0, 0x0, 0x0⟩,
  ⟨R.ASP_LOAD, 0x0, 0xFFF, 0x0, 0x0, 0x0, 0x0, 0x0⟩,
  ⟨R.ASP_BANK_CFG, 0xF, 0x0, 0x0, 0x0, 0x0, 0x0, 0x0⟩,
  ⟨R.ASP_BANK_STAT, 0x0, 0xD3FFFFFF, 0x0, 0x0, 0x0, 0x0, 0x0⟩]

/-- Access codes of block NET. -/
def rowsNET0 : List RegRow := [
  ⟨R.NET_CFG, 0x1F7, 0x0, 0x0, 0x0, 0x0, 0x0, 0x0⟩,
  ⟨R.NET_STAT, 0x0, 0x1FF, 0x0, 0x0, 0x0, 0x0, 0x0⟩,
  ⟨R.NET_EVT, 0x0, 0x0, 0x7FF, 0x0, 0x0, 0x0, 0x0⟩,
  ⟨R.NET_EVT_EN, 0x7FF, 0x0, 0x0, 0x0, 0x0, 0x0, 0x0⟩,
  ⟨R.NET_PAUSE_CFG, 0x3FF, 0x0, 0x0, 0x0, 0x0, 0x0, 0x0⟩,
  ⟨R.NET_DS_CFG, 0xFF1FFF, 0x0, 0x0, 0x0, 0x0, 0x0, 0x0⟩,
  ⟨R.NET_CT_CFG, 0x3FFF, 0x0, 0x0, 0x0, 0x0, 0x0, 0x0⟩,
  ⟨R.NET_CT_LIVE, 0x0, 0x3FFF, 0x0, 0x0, 0x0, 0x0, 0x0⟩,
  ⟨R.NET_MTU, 0x3FFF, 0x0, 0x0, 0x0, 0x0, 0x0, 0x0⟩,
  ⟨R.NET_MEDIA_BUDGET, 0x3FF, 0x0, 0x0, 0x0, 0x0, 0x0, 0x0⟩,
  ⟨R.NET_MDIO_CFG, 0xFF, 0x0, 0x0, 0x0, 0x0, 0x0, 0x0⟩,
  ⟨R.NET_CNT_CLR, 0x0, 0x0, 0x0, 0x0, 0x1, 0x0, 0x0⟩,
  ⟨R.NET_RX_FRAMES, 0x0, 0xFFFFFFFF, 0x0, 0x0, 0x0, 0x0, 0x0⟩,
  ⟨R.NET_TX_FRAMES, 0x0, 0xFFFFFFFF, 0x0, 0x0, 0x0, 0x0, 0x0⟩,
  ⟨R.NET_RX_NOBUF_DROP, 0x0, 0xFFFFFFFF, 0x0, 0x0, 0x0, 0x0, 0x0⟩,
  ⟨R.NET_RX_OVERFLOW, 0x0, 0xFFFFFFFF, 0x0, 0x0, 0x0, 0x0, 0x0⟩,
  ⟨R.NET_RUNT, 0x0, 0xFFFFFFFF, 0x0, 0x0, 0x0, 0x0, 0x0⟩,
  ⟨R.NET_FCS_ERR, 0x0, 0xFFFFFFFF, 0x0, 0x0, 0x0, 0x0, 0x0⟩,
  ⟨R.NET_OVERSIZE, 0x0, 0xFFFFFFFF, 0x0, 0x0, 0x0, 0x0, 0x0⟩,
  ⟨R.NET_PAUSE_WD, 0x0, 0xFFFFFFFF, 0x0, 0x0, 0x0, 0x0, 0x0⟩,
  ⟨R.NET_MEDIA_LATE_DROP, 0x0, 0xFFFFFFFF, 0x0, 0x0, 0x0, 0x0, 0x0⟩,
  ⟨R.NET_TX_UNDERRUN, 0x0, 0xFFFFFFFF, 0x0, 0x0, 0x0, 0x0, 0x0⟩,
  ⟨R.NET_PAUSE_RCVD, 0x0, 0xFFFFFFFF, 0x0, 0x0, 0x0, 0x0, 0x0⟩,
  ⟨R.NET_RX_NOMATCH, 0x0, 0xFFFFFFFF, 0x0, 0x0, 0x0, 0x0, 0x0⟩,
  ⟨R.NET_TX_DOWN_DROP, 0x0, 0xFFFFFFFF, 0x0, 0x0, 0x0, 0x0, 0x0⟩,
  ⟨R.NET_CLASS, 0x703FFFF, 0x0, 0x0, 0x0, 0x0, 0x0, 0x0⟩,
  ⟨R.NET_RX_BASE_LO, 0xFFFFFFC0, 0x0, 0x0, 0x0, 0x0, 0x0, 0x0⟩,
  ⟨R.NET_RX_BASE_HI, 0xFF, 0x0, 0x0, 0x0, 0x0, 0x0, 0x0⟩,
  ⟨R.NET_RX_CTRL, 0x3FFF00F1, 0x0, 0x0, 0x0, 0x0, 0x0, 0x0⟩,
  ⟨R.NET_RX_HEAD, 0x0, 0xFFF, 0x0, 0x0, 0x0, 0x0, 0x0⟩]

/-- Access codes of block NET. -/
def rowsNET1 : List RegRow := [
  ⟨R.NET_RX_TAIL, 0xFFF, 0x0, 0x0, 0x0, 0x0, 0x0, 0x0⟩,
  ⟨R.NET_RX_POOL_LO, 0xFFFFFFC0, 0x0, 0x0, 0x0, 0x0, 0x0, 0x0⟩,
  ⟨R.NET_RX_POOL_HI, 0xFF, 0x0, 0x0, 0x0, 0x0, 0x0, 0x0⟩,
  ⟨R.NET_RX_POOL_HEAD, 0x0, 0xFFF, 0x0, 0x0, 0x0, 0x0, 0x0⟩,
  ⟨R.NET_RX_POOL_TAIL, 0xFFF, 0x0, 0x0, 0x0, 0x0, 0x0, 0x0⟩,
  ⟨R.NET_TX_BASE_LO, 0xFFFFFFC0, 0x0, 0x0, 0x0, 0x0, 0x0, 0x0⟩,
  ⟨R.NET_TX_BASE_HI, 0xFF, 0x0, 0x0, 0x0, 0x0, 0x0, 0x0⟩,
  ⟨R.NET_TX_CTRL, 0xF1, 0x0, 0x0, 0x0, 0x0, 0x0, 0x0⟩,
  ⟨R.NET_TX_HEAD, 0x0, 0xFFF, 0x0, 0x0, 0x0, 0x0, 0x0⟩,
  ⟨R.NET_TX_TAIL, 0xFFF, 0x0, 0x0, 0x0, 0x0, 0x0, 0x0⟩]

/-- Access codes of block STRM. -/
def rowsSTRM : List RegRow := [
  ⟨R.STRM_REGION_LO, 0xFFF00000, 0x0, 0x0, 0x0, 0x0, 0x0, 0x0⟩,
  ⟨R.STRM_REGION_HI, 0x800000FF, 0x0, 0x0, 0x0, 0x0, 0x0, 0x0⟩,
  ⟨R.STRM_STAT, 0x0, 0x1FF01FF, 0x0, 0x0, 0x0, 0x0, 0x0⟩,
  ⟨R.STRM_EVT, 0x0, 0x0, 0x3F, 0x0, 0x0, 0x0, 0x0⟩,
  ⟨R.STRM_EVT_EN, 0x3F, 0x0, 0x0, 0x0, 0x0, 0x0, 0x0⟩,
  ⟨R.STRM_CFG, 0xFF, 0x0, 0x0, 0x0, 0x0, 0x0, 0x0⟩,
  ⟨R.STRM_CNT_CLR, 0x0, 0x0, 0x0, 0x0, 0x1, 0x0, 0x0⟩,
  ⟨R.STRM_IN_STAT, 0x0, 0xFFFF000F, 0x0, 0x0, 0x0, 0x0, 0x0⟩,
  ⟨R.STRM_IN_PKTS, 0x0, 0xFFFFFFFF, 0x0, 0x0, 0x0, 0x0, 0x0⟩,
  ⟨R.STRM_IN_LOST, 0x0, 0xFFFFFFFF, 0x0, 0x0, 0x0, 0x0, 0x0⟩,
  ⟨R.STRM_IN_DUP, 0x0, 0xFFFFFFFF, 0x0, 0x0, 0x0, 0x0, 0x0⟩,
  ⟨R.STRM_IN_LATE, 0x0, 0xFFFFFFFF, 0x0, 0x0, 0x0, 0x0, 0x0⟩,
  ⟨R.STRM_IN_EARLY, 0x0, 0xFFFFFFFF, 0x0, 0x0, 0x0, 0x0, 0x0⟩,
  ⟨R.STRM_IN_BAD, 0x0, 0xFFFFFFFF, 0x0, 0x0, 0x0, 0x0, 0x0⟩,
  ⟨R.STRM_OUT_STAT, 0x0, 0x3, 0x0, 0x0, 0x0, 0x0, 0x0⟩,
  ⟨R.STRM_OUT_PKTS, 0x0, 0xFFFFFFFF, 0x0, 0x0, 0x0, 0x0, 0x0⟩,
  ⟨R.STRM_OUT_DROP, 0x0, 0xFFFFFFFF, 0x0, 0x0, 0x0, 0x0, 0x0⟩]

/-- Access codes of block CLK. -/
def rowsCLK : List RegRow := [
  ⟨R.CLK_STAT, 0x0, 0x70F, 0x0, 0x0, 0x0, 0x0, 0x0⟩,
  ⟨R.CLK_EVT, 0x0, 0x0, 0xFFF, 0x0, 0x0, 0x0, 0x0⟩,
  ⟨R.CLK_EVT_EN, 0xFFF, 0x0, 0x0, 0x0, 0x0, 0x0, 0x0⟩,
  ⟨R.CLK_REFIN_STAT, 0x0, 0x83FFFFFF, 0x0, 0x0, 0x0, 0x0, 0x0⟩,
  ⟨R.CLK_SYS_CFG, 0x3FF, 0x0, 0x0, 0x0, 0x0, 0x0, 0x0⟩,
  ⟨R.CLK_PLL_CTRL, 0x0, 0x0, 0x0, 0x0, 0x0, 0x0, 0x103FF⟩,
  ⟨R.CLK_PLL_FRAC, 0x0, 0x0, 0x0, 0x0, 0x0, 0x0, 0xFFFFFFFF⟩,
  ⟨R.CLK_PLL_COMMIT, 0x0, 0x0, 0x0, 0x0, 0x1, 0x0, 0x0⟩,
  ⟨R.CLK_PLL_STAT, 0x0, 0xFFFFF7, 0x0, 0x0, 0x0, 0x0, 0x0⟩,
  ⟨R.CLK_PLL_LOCK_CFG, 0x3FFFFFF, 0x0, 0x0, 0x0, 0x0, 0x0, 0x0⟩,
  ⟨R.CLK_PLL_PHERR, 0x0, 0xFFFF, 0x0, 0x0, 0x0, 0x0, 0x0⟩,
  ⟨R.CLK_PLL_LOL, 0x0, 0x0, 0x0, 0x0, 0x0, 0xFFFFFFFF, 0x0⟩,
  ⟨R.CLK_PLL_DCO, 0x0, 0xFFFFFFFF, 0x0, 0x0, 0x0, 0x0, 0x0⟩,
  ⟨R.CLK_PLL_OUT_DIV, 0x0, 0x0, 0x0, 0x0, 0x0, 0x0, 0x3FFFF⟩,
  ⟨R.CLK_PLL_OUT_PHASE, 0x0, 0x0, 0x0, 0x0, 0x0, 0x0, 0x3FFFF⟩,
  ⟨R.CLK_PLL_OUT_CTL, 0x0, 0x0, 0x0, 0x0, 0x0, 0x0, 0x3⟩,
  ⟨R.CLK_PLL_OUT_SAFE, 0xFFC3FFFF, 0x0, 0x0, 0x0, 0x0, 0x0, 0x0⟩,
  ⟨R.CLK_PLL_BAND_RANGE, 0xFFFFFFFF, 0x0, 0x0, 0x0, 0x0, 0x0, 0x0⟩,
  ⟨R.CLK_PLL_BAND_CODE, 0x800000FF, 0x0, 0x0, 0x0, 0x0, 0x0, 0x0⟩]

/-- Access codes of block MATRIX. -/
def rowsMATRIX : List RegRow := [
  ⟨R.MATRIX_EVT, 0x0, 0x0, 0x1F, 0x0, 0x0, 0x0, 0x0⟩,
  ⟨R.MATRIX_EVT_EN, 0x1F, 0x0, 0x0, 0x0, 0x0, 0x0, 0x0⟩,
  ⟨R.MATRIX_ERR_ADDR_LO, 0x0, 0xFFFFFFFF, 0x0, 0x0, 0x0, 0x0, 0x0⟩,
  ⟨R.MATRIX_ERR_ADDR_HI, 0x0, 0xFFFFFFFF, 0x0, 0x0, 0x0, 0x0, 0x0⟩,
  ⟨R.MATRIX_ERR_INFO, 0x0, 0x8007F3FF, 0x0, 0x0, 0x0, 0x0, 0x0⟩,
  ⟨R.MATRIX_ERR_CLR, 0x0, 0x0, 0x0, 0x0, 0x1, 0x0, 0x0⟩,
  ⟨R.MATRIX_ERRORS, 0x0, 0x0, 0x0, 0x0, 0x0, 0xFFFFFFFF, 0x0⟩,
  ⟨R.MATRIX_LOCK_BREAK, 0x0, 0x0, 0x0, 0x0, 0x0, 0xFFFFFFFF, 0x0⟩,
  ⟨R.MATRIX_PROT_ERR, 0x0, 0x0, 0x0, 0x0, 0x0, 0xFFFFFFFF, 0x0⟩,
  ⟨R.MATRIX_MPRI, 0x3, 0x0, 0x0, 0x0, 0x0, 0x0, 0x0⟩,
  ⟨R.MATRIX_MSTAT, 0x0, 0x33F, 0x0, 0x0, 0x0, 0x0, 0x0⟩,
  ⟨R.MATRIX_TSTAT, 0x0, 0x1F1F, 0x0, 0x0, 0x0, 0x0, 0x0⟩,
  ⟨R.MATRIX_TIMEOUT, 0x0, 0x0, 0x0, 0x0, 0x0, 0xFFFFFFFF, 0x0⟩]

/-- Access codes of block DMA. -/
def rowsDMA : List RegRow := [
  ⟨R.DMA_SRC_LO, 0xFFFFFFFF, 0x0, 0x0, 0x0, 0x0, 0x0, 0x0⟩,
  ⟨R.DMA_SRC_HI, 0xFFFFFFFF, 0x0, 0x0, 0x0, 0x0, 0x0, 0x0⟩,
  ⟨R.DMA_DST_LO, 0xFFFFFFFF, 0x0, 0x0, 0x0, 0x0, 0x0, 0x0⟩,
  ⟨R.DMA_DST_HI, 0xFFFFFFFF, 0x0, 0x0, 0x0, 0x0, 0x0, 0x0⟩,
  ⟨R.DMA_CNT, 0xFFFFFFFF, 0x0, 0x0, 0x0, 0x0, 0x0, 0x0⟩,
  ⟨R.DMA_CTRL, 0x3FC, 0x0, 0x0, 0x3, 0x0, 0x0, 0x0⟩,
  ⟨R.DMA_STAT, 0x0, 0xFFF, 0x0, 0x0, 0x0, 0x0, 0x0⟩,
  ⟨R.DMA_NEXT_LO, 0xFFFFFFE0, 0x0, 0x0, 0x0, 0x0, 0x0, 0x0⟩,
  ⟨R.DMA_NEXT_HI, 0xFFFFFFFF, 0x0, 0x0, 0x0, 0x0, 0x0, 0x0⟩,
  ⟨R.DMA_HOPS, 0x0, 0xFFFFFFFF, 0x0, 0x0, 0x0, 0x0, 0x0⟩,
  ⟨R.DMA_RETRIES, 0x0, 0x0, 0x0, 0x0, 0x0, 0xFFFFFFFF, 0x0⟩,
  ⟨R.DMA_HOPMAX, 0xFFFF, 0x0, 0x0, 0x0, 0x0, 0x0, 0x0⟩,
  ⟨R.DMA_DONE, 0x0, 0x0, 0xFFFFFFFF, 0x0, 0x0, 0x0, 0x0⟩,
  ⟨R.DMA_ERR, 0x0, 0x0, 0xFFFFFFFF, 0x0, 0x0, 0x0, 0x0⟩,
  ⟨R.DMA_DESC, 0x0, 0x0, 0xFFFFFFFF, 0x0, 0x0, 0x0, 0x0⟩,
  ⟨R.DMA_EVT, 0x0, 0x0, 0x1, 0x0, 0x0, 0x0, 0x0⟩,
  ⟨R.DMA_EVT_EN, 0x1, 0x0, 0x0, 0x0, 0x0, 0x0, 0x0⟩]

/-- Access codes of block DDRC. -/
def rowsDDRC : List RegRow := [
  ⟨R.DDRC_STAT, 0x0, 0xF77FFFF, 0x0, 0x0, 0x0, 0x0, 0x0⟩,
  ⟨R.DDRC_EVT, 0x0, 0x0, 0xFF, 0x0, 0x0, 0x0, 0x0⟩,
  ⟨R.DDRC_EVT_EN, 0xFF, 0x0, 0x0, 0x0, 0x0, 0x0, 0x0⟩,
  ⟨R.DDRC_CFG, 0xFF7F7F07, 0x0, 0x0, 0x0, 0x0, 0x0, 0x0⟩,
  ⟨R.DDRC_FREQ_CTRL, 0x1, 0x0, 0x0, 0x80000000, 0x0, 0x0, 0x0⟩,
  ⟨R.DDRC_SET, 0x0, 0x8000FFFF, 0x0, 0x0, 0x0, 0x0, 0x0⟩,
  ⟨R.DDRC_SCRUB_CFG, 0x800000FF, 0x0, 0x0, 0x0, 0x0, 0x0, 0x0⟩,
  ⟨R.DDRC_ECC_ADDR_LO, 0x0, 0xFFFFFFFF, 0x0, 0x0, 0x0, 0x0, 0x0⟩,
  ⟨R.DDRC_ECC_ADDR_HI, 0x0, 0xFF, 0x0, 0x0, 0x0, 0x0, 0x0⟩,
  ⟨R.DDRC_ECC_INFO, 0x0, 0x8000000F, 0x0, 0x0, 0x0, 0x0, 0x0⟩,
  ⟨R.DDRC_ECC_CLR, 0x0, 0x0, 0x0, 0x0, 0x1, 0x0, 0x0⟩,
  ⟨R.DDRC_CNT_CLR, 0x0, 0x0, 0x0, 0x0, 0x1, 0x0, 0x0⟩,
  ⟨R.DDRC_ECC_CORR, 0x0, 0xFFFFFFFF, 0x0, 0x0, 0x0, 0x0, 0x0⟩,
  ⟨R.DDRC_ECC_UNCORR, 0x0, 0xFFFFFFFF, 0x0, 0x0, 0x0, 0x0, 0x0⟩,
  ⟨R.DDRC_REPLAY, 0x0, 0xFFFFFFFF, 0x0, 0x0, 0x0, 0x0, 0x0⟩,
  ⟨R.DDRC_REPLAY_FAIL, 0x0, 0xFFFFFFFF, 0x0, 0x0, 0x0, 0x0, 0x0⟩,
  ⟨R.DDRC_FREQ_CHG, 0x0, 0xFFFFFFFF, 0x0, 0x0, 0x0, 0x0, 0x0⟩,
  ⟨R.DDRC_FREQ_FAIL, 0x0, 0xFFFFFFFF, 0x0, 0x0, 0x0, 0x0, 0x0⟩,
  ⟨R.DDRC_RMW, 0x0, 0xFFFFFFFF, 0x0, 0x0, 0x0, 0x0, 0x0⟩]

/-- Access codes of block ERR. -/
def rowsERR : List RegRow := [
  ⟨R.ERR_STAT, 0x0, 0xF1F7F, 0x0, 0x0, 0x0, 0x0, 0x0⟩,
  ⟨R.ERR_EVT, 0x0, 0x0, 0x1F, 0x0, 0x0, 0x0, 0x0⟩,
  ⟨R.ERR_EVT_EN, 0x1F, 0x0, 0x0, 0x0, 0x0, 0x0, 0x0⟩,
  ⟨R.ERR_CFG, 0xFF03, 0x0, 0x0, 0x0, 0x0, 0x0, 0x0⟩,
  ⟨R.ERR_SEQ, 0x0, 0xFFFFFFFF, 0x0, 0x0, 0x0, 0x0, 0x0⟩,
  ⟨R.ERR_DROPPED, 0x0, 0x0, 0x0, 0x0, 0x0, 0xFFFFFFFF, 0x0⟩,
  ⟨R.ERR_RST_REMAIN, 0x0, 0x7F, 0x0, 0x0, 0x0, 0x0, 0x0⟩,
  ⟨R.ERR_PEND, 0x0, 0x3FFFF, 0x0, 0x0, 0x0, 0x0, 0x0⟩,
  ⟨R.ERR_PEND_DMA, 0x0, 0xFFFFFFFF, 0x0, 0x0, 0x0, 0x0, 0x0⟩,
  ⟨R.ERR_IRQN_EN, 0x3FFFF, 0x0, 0x0, 0x0, 0x0, 0x0, 0x0⟩,
  ⟨R.ERR_IRQN_EN_DMA, 0xFFFFFFFF, 0x0, 0x0, 0x0, 0x0, 0x0, 0x0⟩,
  ⟨R.ERR_ACK, 0x0, 0x0, 0x0, 0x0, 0xFFFFFFFF, 0x0, 0x0⟩,
  ⟨R.ERR_VEC, 0x8000003F, 0x0, 0x0, 0x0, 0x0, 0x0, 0x0⟩,
  ⟨R.ERR_REC, 0x0, 0xFFFFFFFF, 0x0, 0x0, 0x0, 0x0, 0x0⟩]

/-- Access codes of block PCIE. -/
def rowsPCIE : List RegRow := [
  ⟨R.PCIE_STAT, 0x0, 0x377F, 0x0, 0x0, 0x0, 0x0, 0x0⟩,
  ⟨R.PCIE_ID, 0x0, 0xFFFFFFFF, 0x0, 0x0, 0x0, 0x0, 0x0⟩,
  ⟨R.PCIE_SUBID, 0x0, 0xFFFFFFFF, 0x0, 0x0, 0x0, 0x0, 0x0⟩,
  ⟨R.PCIE_CORR_ERR, 0x0, 0x0, 0x0, 0x0, 0x0, 0xFFFFFFFF, 0x0⟩,
  ⟨R.PCIE_UNCORR_ERR, 0x0, 0x0, 0x0, 0x0, 0x0, 0xFFFFFFFF, 0x0⟩,
  ⟨R.PCIE_CPL_TIMEOUT, 0x0, 0x0, 0x0, 0x0, 0x0, 0xFFFFFFFF, 0x0⟩,
  ⟨R.PCIE_CPL_ABORT, 0x0, 0x0, 0x0, 0x0, 0x0, 0xFFFFFFFF, 0x0⟩,
  ⟨R.PCIE_LINK_DOWN, 0x0, 0x0, 0x0, 0x0, 0x0, 0xFFFFFFFF, 0x0⟩,
  ⟨R.PCIE_MSIX_ADDR_LO, 0xFFFFFFFC, 0x0, 0x0, 0x0, 0x0, 0x0, 0x0⟩,
  ⟨R.PCIE_MSIX_ADDR_HI, 0xFFFFFFFF, 0x0, 0x0, 0x0, 0x0, 0x0, 0x0⟩,
  ⟨R.PCIE_MSIX_DATA, 0xFFFFFFFF, 0x0, 0x0, 0x0, 0x0, 0x0, 0x0⟩,
  ⟨R.PCIE_MSIX_CTRL, 0x1, 0x0, 0x0, 0x0, 0x0, 0x0, 0x0⟩,
  ⟨R.PCIE_PBA_LO, 0x0, 0xFFFFFFFF, 0x0, 0x0, 0x0, 0x0, 0x0⟩,
  ⟨R.PCIE_PBA_HI, 0x0, 0xFFFFFFFF, 0x0, 0x0, 0x0, 0x0, 0x0⟩]

/-- Every row of the register tables. -/
def regRows : List RegRow :=
  rowsSYS ++ rowsTIME0 ++ rowsTIME1 ++ rowsTIME2 ++ rowsRENDER0 ++ rowsRENDER1 ++ rowsRENDER2 ++ rowsFEED0 ++ rowsFEED1 ++ rowsMEAS ++ rowsFAB0 ++ rowsFAB1 ++ rowsCMD ++ rowsSCHED ++ rowsASP ++ rowsNET0 ++ rowsNET1 ++ rowsSTRM ++ rowsCLK ++ rowsMATRIX ++ rowsDMA ++ rowsDDRC ++ rowsERR ++ rowsPCIE

end Sys2Proof.Machine
end

