-- ==== Sys2Proof/Machine/Mach.lean ====
section
/-! DEFINITION. The state of the VKL-9512: plain data, every piece the manual gives the part, chapter by chapter, and
the machine right after reset. -/
namespace Sys2Proof.Machine
/-! ## Front end (03_object_inputs.md) -/

/-- Biquad coefficients, 28 fraction bits (R62). -/
structure Bq where
  b0 : Int
  b1 : Int
  b2 : Int
  a1 : Int
  a2 : Int
  deriving DecidableEq, Repr

/-- Identity biquad. -/
def Bq.one : Bq := ⟨2 ^ 28, 0, 0, 0, 0⟩

/-- Biquad states, 28 fraction bits below the sample LSB (R62). -/
structure BqSt where
  s1 : Int
  s2 : Int
  deriving DecidableEq, Repr

/-- Parameter set of an object or direct channel (R64). -/
structure ParamSet where
  bq : List Bq
  gain : Nat
  pol : Bool
  deriving DecidableEq, Repr

/-- One side of a route cross-fade: a selection with its own conversion (R20, R57, R61). -/
structure Side where
  sel : Nat
  bypass : Bool
  /-- INSTAT.ASRC codes: 0 OFF, 1 ACQUIRE, 2 SETTLING, 3 LOCKED -/
  asrc : Nat
  /-- ticks spent in the ASRC state -/
  run : Nat
  absent : Bool
  /-- samples into a fade-in of R23, if one runs -/
  fade : Option Nat
  /-- lock lost since the last collection, and the frames that had been delivered by then: they are still converted (R61) -/
  lost : Option Nat
  deriving DecidableEq, Repr

/-- A selector with its cross-fade (R20, R21). -/
structure Route where
  cur : Side
  old : Option Side
  /-- samples of the running cross-fade already rendered -/
  pos : Nat
  pend : Option (Nat × Bool)
  deriving DecidableEq, Repr

/-- A generator's running state (R53 to R55). -/
structure Gen where
  phase : Nat
  mls : Nat
  noise : Nat
  deriving DecidableEq, Repr

/-! ## Geometry (04_geometry_engine.md) -/

/-- Atmosphere record (R77). -/
structure Atmos where
  c : Nat
  temp : Int
  rh : Nat
  press : Nat
  airFc : Nat
  cSlew : Nat
  cAuto : Bool
  deriving DecidableEq, Repr

/-- What rendering uses of an atmosphere: α in dB/m and the shelf corner (R79, R102). -/
structure Air where
  alpha : Rat
  fc : Nat
  deriving DecidableEq, Repr

/-- Speaker entry (R81). -/
structure Spk where
  x : Int
  y : Int
  z : Int
  group : Nat
  en : Bool
  noAir : Bool
  weight : Nat
  aimX : Int
  aimY : Int
  aimZ : Int
  deriving DecidableEq, Repr

/-- Triangle of a speaker table (R82). -/
structure Tri where
  a : Nat
  b : Nat
  c : Nat
  deriving DecidableEq, Repr

/-- Speaker table (R80 to R82). -/
structure SpkTab where
  spk : List Spk
  tris : List Tri
  cx : Int
  cy : Int
  cz : Int
  deriving DecidableEq, Repr

/-- Object geometry record (R84). -/
structure GeoRec where
  law : Nat
  air : Bool
  groupMask : Nat
  pathLimit : Nat
  cull : Nat
  hyst : Nat
  dref : Nat
  dmin : Nat
  dlaw : Nat
  rolloff : Nat
  spread : Nat
  aperture : Nat
  taper : Nat
  bulk : Nat
  deriving DecidableEq, Repr

/-- Keyframe (R86); its time in ns of network time. -/
structure Key where
  t : Nat
  explicit : Bool
  replan : Bool
  cut : Bool
  x : Int
  y : Int
  z : Int
  vx : Int
  vy : Int
  vz : Int
  deriving DecidableEq, Repr

/-- Position (m) and velocity (m/s), binary64 values. -/
structure Kin where
  px : Rat
  py : Rat
  pz : Rat
  vx : Rat
  vy : Rat
  vz : Rat
  deriving DecidableEq, Repr

/-- A trajectory segment (R88, R89): start instant (s), start state, end instant, end position and fixed tangent. -/
structure Seg where
  ta : Rat
  a : Kin
  tb : Rat
  b : Kin
  /-- the keyframe the segment ends at -/
  key : Key
  deriving DecidableEq, Repr

/-- The evaluated trajectory of an object (R87 to R93). -/
structure Traj where
  seg : Option Seg
  kin : Kin
  hold : Bool
  deriving DecidableEq, Repr

/-- A path target (R103). -/
structure Tgt where
  spread : Nat
  slope : Int
  gain : Nat
  shelf : Nat
  deriving DecidableEq, Repr

/-- A path slot (R119), listed under engine × 2,048 + slot. -/
structure Path where
  obj : Nat
  feed : Nat
  /-- spread delay at the next tick's first sample, 32 fraction bits -/
  d : Int
  sl : Int
  tgt : Tgt
  g : Nat
  q : Nat
  sh1 : Int
  sh2 : Int
  win : List Int
  top : Int
  new : Bool
  fade : Bool
  starve : Bool
  host : Bool
  deriving DecidableEq, Repr

/-- A path wanted at the next boundary (R105). -/
structure NewPath where
  obj : Nat
  feed : Nat
  tgt : Tgt
  /-- G, by which allocations are ordered -/
  g : Rat
  host : Bool
  deriving DecidableEq, Repr

/-- One entry of a host update (R138). -/
structure HpEntry where
  feed : Nat
  cut : Bool
  tgt : Tgt
  deriving DecidableEq, Repr

/-- A host update (R138); `asap` has no tick. -/
structure HpUpdate where
  tick : Nat
  asap : Bool
  cutAll : Bool
  entries : List HpEntry
  deriving DecidableEq, Repr



/-! ## Errors (23_errors_and_events.md) -/

/-- Kinds of severity are numbers 0 INFO, 1 WARN, 2 ERROR, 3 FATAL. An error record held in the ring (R536). `born` is the
sequence number it was created with, by which the handling queues know it. -/
structure ErrRec where
  code : Nat
  sev : Nat
  acked : Bool
  handled : Bool
  resv : Bool
  notime : Bool
  src : Nat
  count : Nat
  arg : Nat
  first : Nat
  last : Nat
  seq : Nat
  born : Nat
  deriving DecidableEq, Repr

/-- An occurrence waiting for its handling, or being handled (R540). -/
structure HandItem where
  sev : Nat
  code : Nat
  src : Nat
  born : Nat
  deriving DecidableEq, Repr

/-- The ERR block beyond its registers: ring slots (0–47 general, 48–63 reserved), handling queues, reset countdown. -/
structure ErrSt where
  slots : SMap ErrRec
  qE : List HandItem
  qF : List HandItem
  hE : Option HandItem
  hF : Option HandItem
  /-- the 100 ms countdown of R542 runs; the local time (ns since P2) at which it ends -/
  countdown : Option Nat
  /-- the countdown ended under a hold of R346 -/
  deferred : Bool
  /-- sequence numbers overwritten or dropped, newest first (R347, R538) -/
  gone : List Nat
  deriving DecidableEq, Repr

def ErrSt.init : ErrSt := ⟨[], [], [], none, none, none, false, []⟩

/-! ## Time (02_time_base_and_latency.md, 18_time_and_path_redundancy.md); times in 2^−16 ns unless said otherwise -/

/-- PTP measurement of one port (R439, R440, R452). -/
structure PortTime where
  gm : Option GmData
  /-- delay request in flight: sequence number and own stamp t3 (E2E) or t1p (P2P) -/
  req : Option (Nat × Nat)
  /-- latest completed E2E exchange (t3, t4), or path delay value of a completed P2P exchange -/
  exch : Option (Nat × Nat)
  pdel : Option Rat
  /-- values of d taken so far, up to 16, and the mean path delay -/
  dn : Nat
  mpd : Rat
  /-- two-step Sync that waits for its Follow_Up: sequence number, receive stamp, correctionField -/
  sync : Option (Nat × Nat × Int)
  lastO : Option Rat
  outliers : Nat
  /-- accepted offsets since the restart (saturating at 255) and the last 16 of them, newest first -/
  samples : Nat
  hist : List Rat
  silent : Bool
  deriving DecidableEq, Repr

def PortTime.init : PortTime := ⟨none, none, none, none, 0, 0, none, none, 0, 0, [], false⟩

/-- A servo snapshot (R453). -/
structure Snap where
  i : Rat
  f : Rat
  o : Rat
  mpd : Rat
  seq : Nat
  at_ : Nat
  deriving DecidableEq, Repr

/-- A transmit stamp (R446). -/
structure TxStamp where
  tsid : Nat
  t : Nat
  deriving DecidableEq, Repr

/-- Phase of a grid step (R38): the tick that ramps down, tokens stopped, the two held ticks, the fade-in tick. -/
inductive GridStep where
  | none
  | down
  | stopped
  | held (left : Nat)
  | fade
  deriving DecidableEq, Repr

/-- Time unit and tick launcher beyond their registers. -/
structure TimeSt where
  /-- network-time clock, 2^−16 ns (R433) -/
  net : Nat
  /-- local time since boot phase P2, ns -/
  up : Nat
  /-- the unit has been VALID since reset (R536) -/
  ever : Bool
  /-- whole-tick number of the running tick (R33) -/
  tick : Nat
  /-- a token has been issued since P2 -/
  ticking : Bool
  /-- the grid has been aligned to R33 since it left FREE -/
  aligned : Bool
  gstep : GridStep
  /-- tick number at which tokens stopped, and the network clock then -/
  stopAt : Nat
  stopNet : Nat
  /-- consecutive ticks with the error above STEP_US, and its report (R37) -/
  overRun : Nat
  overSaid : Bool
  pa : PortTime
  pb : PortTime
  servoI : Rat
  servoF : Rat
  first : Bool
  relock : Bool
  run1us : Nat
  bad10us : Nat
  snaps : List (Option Snap)
  newest : Nat
  writing : Option Snap
  slew : Option Int
  evtq : List Nat
  txtsA : List TxStamp
  txtsB : List TxStamp
  /-- instant of the last pulse on PTP_PPS_OUT (R448) -/
  ppsAt : Option Nat
  /-- NETA link up and counting its 10 s towards the control port (R455) -/
  ctrlWait : Bool
  /-- samples in a row with the shadow within 0.5 µs (R452) -/
  divOk : Nat
  /-- both ports had lost their sources when the unit went LOST (R456) -/
  bothLost : Bool
  /-- the sample each latency monitor has marked and not yet stamped at the output: its programmed delay in samples (R43, R48) -/
  marks : SMap Rat
  /-- last PTP message handed to each port's MAC: port, kind (0 Delay_Req, 1 Pdelay_Req, 2 Pdelay_Resp, 3 with Follow_Up), sequence -/
  lastPtp : SMap (Nat × Nat)
  /-- answers to Pdelay_Req that wait for each port's transmitter, in frames (R413, R438) -/
  ptpQ : SMap Nat
  deriving DecidableEq, Repr

def TimeSt.init : TimeSt :=
  { net := 0, up := 0, ever := false, tick := 0, ticking := false, aligned := false, gstep := .none, stopAt := 0, stopNet := 0,
    overRun := 0, overSaid := false, pa := .init, pb := .init, servoI := 0, servoF := 0, first := true, relock := false,
    run1us := 0, bad10us := 0, snaps := [none, none], newest := 0, writing := none, slew := none,
    evtq := [], txtsA := [], txtsB := [], ppsAt := none, divOk := 0, bothLost := false, lastPtp := [], ptpQ := [], ctrlWait := false, marks := [] }

/-! ## Clocks (19_clock_synthesis.md) -/

/-- A PLL beyond its registers. -/
structure PllSt where
  /-- bands still to try in this pass, the first being tried -/
  cand : List Nat
  /-- a commit waits for lock or for its coincident edge (R462, R467): staged words CTRL, FRAC, then DIV PHASE CTL of the outputs -/
  wait : Option (List Word)
  relocking : Bool
  deriving DecidableEq, Repr

def PllSt.init : PllSt := ⟨[], none, false⟩

/-! ## Interconnect and DMA (20_interconnect_and_dma.md) -/

/-- What a master last received (R475). -/
structure BusResp where
  master : Nat
  id : Nat
  target : Nat
  code : Nat
  data : List Byte
  deriving DecidableEq, Repr

/-- A lock at a target (R474). -/
structure BusLock where
  master : Nat
  id : Nat
  broken : Bool
  deriving DecidableEq, Repr

/-- The matrix beyond its registers: requests waiting in ports, transactions outstanding (oldest first), locks by
target, locks broken whose owner has not been told. -/
structure BusSt where
  waiting : List BusTx
  out : List BusTx
  locks : SMap BusLock
  told : List (Nat × Nat)
  isoT : List Nat
  isoM : List Nat
  resp : Option BusResp
  deriving DecidableEq, Repr

def BusSt.init : BusSt := ⟨[], [], [], [], [], [], none⟩

/-- Which burst of a DMA run is in flight. -/
inductive DmaPhase where
  | idle
  | read (off len : Nat)
  | write (off len : Nat)
  | fetch
  deriving DecidableEq, Repr

/-- A DMA channel beyond its registers (R481 to R488). -/
structure DmaSt where
  phase : DmaPhase
  src : Nat
  dst : Nat
  total : Nat
  /-- bytes read and not yet written, swapped -/
  buf : List Byte
  /-- bytes read of an element not yet whole -/
  rem : List Byte
  /-- bytes written with OKAY -/
  doneB : Nat
  tries : Nat
  /-- descriptor in force has END / IRQ; address it came from -/
  inChain : Bool
  dEnd : Bool
  dIrq : Bool
  stopReq : Bool
  deriving DecidableEq, Repr

def DmaSt.init : DmaSt := ⟨.idle, 0, 0, 0, [], [], 0, 0, false, false, false, false⟩

/-! ## DRAM controller (21_dram_controller.md) -/

/-- A write queued in the controller (R497). -/
structure QWrite where
  line : Nat
  age : Nat
  deriving DecidableEq, Repr

/-- A bank's open row and its access history (R499). -/
structure BankSt where
  row : Option Nat
  hist : Nat
  deriving DecidableEq, Repr

/-- Frequency change in progress (R504, R505): target set, whether PLL_DDR has been reprogrammed, whether it came back. -/
structure FreqChg where
  set : Nat
  switched : Bool
  abandoned : Bool
  origin : Option Nat
  deriving DecidableEq, Repr

/-- The DRAM controller beyond its registers. -/
structure DdrSt where
  held : Bool
  chg : Option FreqChg
  wq : List QWrite
  banks : SMap BankSt
  fails : Nat
  hot : Bool
  /-- words (8-byte addresses) that hold an error: uncorrectable, with its address-parity flag, or correctable -/
  bad : SMap Bool
  weak : List Nat
  /-- injections of R503 left: kind (1 correctable, 2 uncorrectable), words, target -/
  inj : SMap Nat
  /-- network second of the last DRAM_ECC record -/
  lastRec : Option Nat
  scrub : Nat
  refreshes : Nat
  zqs : Nat
  tracks : Nat
  /-- local time at which DRAM stopped accepting, if it is unavailable (R28) -/
  gap : Option Nat
  deriving DecidableEq, Repr

def DdrSt.init : DdrSt :=
  { held := false, chg := none, wq := [], banks := [], fails := 0, hot := false, bad := [], weak := [], inj := [],
    lastRec := none, scrub := 0, refreshes := 0, zqs := 0, tracks := 0, gap := none }

/-! ## Reset, boot, power, JTAG, pins (22_reset_boot_and_power.md, 25_electrical_and_package.md) -/

/-- JTAG port (R569, R570). -/
structure JtagSt where
  ir : Nat
  data : Word
  waddr : Nat
  busy : Bool
  err : Bool
  done : Bool
  op : Option (Bool × Nat × Word)
  deriving DecidableEq, Repr

/-- A power move in progress (R527, R528). -/
structure PwrMove where
  target : Nat
  /-- hand-off copies still to ramp (leaving ACTIVE), or rendered ticks still to hold and fade (entering) -/
  left : Nat
  fromActive : Bool
  reply : Option Nat
  waking : Bool
  deriving DecidableEq, Repr

/-- SYS and watch-domain state beyond the registers. -/
structure SysSt where
  resetLow : Bool
  tripHold : Bool
  xinLost : Bool
  p1hold : Bool
  /-- ordered reset decided: cause bit; ramp copies done -/
  ordered : Option (Nat × Nat)
  move : Option PwrMove
  hold : Option Nat
  fwWait : Bool
  pwrReq : Bool
  railsOff : Bool
  heldWake : Option Nat
  armWake : Bool
  /-- watch domain: RTC seconds, its setting instant in local ns, alarm, reset starts on the watch clock -/
  rtc : Nat
  rtcAt : Nat
  alarm : Option Nat
  starts : List Nat
  /-- local time of P6 -/
  p6At : Nat
  /-- loopbacks of DIAG_LOOPBACK in force: kind, source, destination (R365) -/
  loops : List (Nat × Nat × Nat)
  /-- FW_VER and FW_ID of the images that SYS_FW_UPDATE has written, by flash bank, and those of the image that runs (R341) -/
  flash : SMap (Nat × Nat)
  fw : Nat × Nat
  jtag : JtagSt
  deriving DecidableEq, Repr

def JtagSt.init : JtagSt := ⟨2, 0, 0, false, false, false, none⟩

/-- Log 127. -/
def SysSt.init : SysSt :=
  { resetLow := false, tripHold := false, xinLost := false, p1hold := false, ordered := none, move := none, hold := none,
    fwWait := false, pwrReq := true, railsOff := false, heldWake := none, armWake := false, rtc := 0, rtcAt := 0,
    alarm := none, starts := [], p6At := 0, loops := [], flash := [], fw := (0, 0), jtag := .init }

/-! ## Serial ports (16_audio_serial_ports.md) -/

/-- A frame an input received: its words, whether its port was in SYNC (R59), the slots its mask leaves live (R391), and
whether it was a glitch (R398). -/
structure AspFrame where
  words : List Int
  sync : Bool
  mask : Nat
  glitch : Bool
  deriving DecidableEq, Repr

/-- A serial port beyond its registers. -/
structure AspSt where
  /-- glitches of the last 64 frames, newest first (R397) -/
  hist : List Bool
  /-- frames in a row more than 0.5 % off the rate (R396) -/
  badRate : Nat
  /-- last measurements, newest first (R394), and the excursion latch (R395) -/
  rates : List Nat
  exc : Bool
  /-- 100 MHz cycles of the last measurement -/
  count : Nat
  /-- frames in a row within ±0.1 sample of the grid (R59) -/
  phaseRun : Nat
  /-- a slip sets the fill to 2 at the next frame start edge and zeroes one frame (R399) -/
  slipped : Bool
  /-- a staged mask waits, and the frame edges it still lets pass (R391) -/
  maskWait : Option Nat
  /-- frames an input delivered since the last collection, oldest first; none where the port delivered no frame -/
  coll : List (Option AspFrame)
  /-- a glitch, a loss or an acquisition since the last token: the port's ASRCs and converters acquire again (R61, R398) -/
  glitched : Bool
  deriving DecidableEq, Repr

def AspSt.init : AspSt := ⟨[], 0, [], false, 0, 0, false, none, [], false⟩

/-! ## Commands (12_command_protocol.md, 15_control_cores_and_scheduler.md) -/

/-- An open session (R271). -/
structure Sess where
  xport : Xport
  maxpkt : Nat
  idleS : Nat
  /-- local time of its last packet, ns -/
  last : Nat
  deriving DecidableEq, Repr

/-- Outcome kept of a released sequence number (R278): its reply packets, none while they have not left. -/
structure Outcome where
  seq : Nat
  id : Nat
  reply : Option (List (List Byte))
  deriving DecidableEq, Repr

/-- An ordered flow (R274 to R278). -/
structure Flow where
  sess : Nat
  num : Nat
  group : Nat
  next : Nat
  /-- last 32 released, newest first -/
  past : List Outcome
  gap : Bool
  deriving DecidableEq, Repr

/-- A command in the pool (R280): phase 0 waits for a thread, 1 processing, 2 processed. -/
structure InCmd where
  o : Origin
  op : Nat
  /-- payload, from packet offset 16 to the trailer -/
  p : List Byte
  group : Nat
  at_ : Nat
  phase : Nat
  thread : Nat
  level : Nat
  started : Bool
  forced : Option (Nat × Nat)
  deriving DecidableEq, Repr

/-- A released command whose reply has not left: packets once known, copies owed to duplicates. -/
structure Rel where
  o : Origin
  op : Nat
  reply : Option (List (List Byte))
  dups : Nat
  deriving DecidableEq, Repr

/-- A latched or timed item (R268): the command, its parameters from `p`, stated time in ns, release order, and the
record it is pending for (ONE, R297). -/
structure Item where
  o : Origin
  op : Nat
  p : List Byte
  t : Nat
  ord : Nat
  key : Nat
  reply : Bool
  late : Bool
  deriving DecidableEq, Repr

/-- Command transport state. -/
structure CmdSt where
  sess : SMap Sess
  flows : SMap Flow
  pool : List InCmd
  nextId : Nat
  ord : Nat
  rel : List Rel
  /-- PCIe replies that wait for a free entry, per queue pair -/
  wait0 : List (List Byte)
  wait1 : List (List Byte)
  spiQ : List (List Byte)
  spiWait : List (List Byte)
  spiOvf : Bool
  udpOut : List (Nat × Nat × List Byte)
  latch : List Item
  timed : List Item
  /-- pending placement changes by function (R290): mode and the item's order -/
  place : SMap (Bool × Item)
  /-- long commands running: SYS_FW_UPDATE, SCN_STORE_WRITE, MEM_DRAM_FREQ by pool number (R344) -/
  running : SMap Nat
  /-- loads that run: command, feed, slot (R162, R276) -/
  loads : List (Nat × Nat × Nat)
  deriving DecidableEq, Repr

def CmdSt.init : CmdSt :=
  { sess := [], flows := [], pool := [], nextId := 0, ord := 0, rel := [], wait0 := [], wait1 := [], spiQ := [],
    spiWait := [], spiOvf := false, udpOut := [], latch := [], timed := [], place := [], running := [], loads := [] }

/-- A scheduler thread (R369, R370). -/
structure Thread where
  /-- 0 free, 1 ready, 2 running, 3 blocked -/
  state : Nat
  level : Nat
  group : Nat
  core : Nat
  deriving DecidableEq, Repr

/-- Scheduler state beyond its registers: threads that are not free, ready lists, virtual times, urgent budget. -/
structure SchedSt where
  threads : SMap Thread
  /-- ready threads, the one ready longest first -/
  ready : List Nat
  /-- thread on each core in service -/
  cores : SMap Nat
  vt : SMap Rat
  /-- the 1 ms window (R376) and the cycles level 24 has used in it -/
  win : Nat
  urg : Nat
  deriving DecidableEq, Repr

def SchedSt.init : SchedSt := ⟨[], [], [], [], 0, 0⟩

/-! ## Network (17_network_mac_and_streams.md) -/

/-- IP configuration of a port (R351). -/
structure IpCfg where
  addr : Nat
  pfx : Nat
  vlan : Nat
  gw : Nat
  dscpMedia : Nat
  dscpTime : Nat
  dscpCtrl : Nat
  pcp : Nat
  deriving DecidableEq, Repr

/-- A media packet queued for launch (R428): stream, launch instant in grid samples, RTP packet. -/
structure MediaPkt where
  stream : Nat
  launch : Nat
  rtp : List Byte
  deriving DecidableEq, Repr

/-- The frame the transmitter sends: class 0 PTP, 1 media, 2 VCP reply or firmware, 3 host. -/
structure TxFrame where
  cls : Nat
  ring : Nat
  /-- descriptors the frame occupies, from HEAD -/
  descs : Nat
  tsReq : Bool
  tsid : Nat
  bytes : List Byte
  stream : Nat
  /-- of a reply over UDP: source port, peer address and peer port (R287) -/
  peer : Option (Nat × Nat × Nat)
  /-- bytes held before a cut-through frame started (R415); 0 for a frame fetched whole -/
  ct : Nat
  deriving DecidableEq, Repr

/-- A network port beyond its registers. -/
structure NetPort where
  ip : IpCfg
  ignore : Bool
  inflight : Option TxFrame
  /-- firmware protocol frames received and not yet answered: 0 ARP, 1 ICMP echo, 2 IGMP, 3 SAP -/
  fwIn : List (Nat × List Byte)
  fwQ : List (Nat × List Byte)
  mediaQ : List MediaPkt
  /-- last frame put on the wire -/
  sent : Option TxFrame
  /-- a downshifted link renegotiates its configured speed on leaving QUIET (R421) -/
  renego : Bool
  deriving DecidableEq, Repr

/-- Log 127. -/
def NetPort.init : NetPort := ⟨⟨0, 24, 0, 0, 46, 46, 0, 0⟩, false, none, [], [], [], none, false⟩

/-- An ingress stream (R424 to R427). -/
structure StrIn where
  en : Bool
  l32 : Bool
  chans : Nat
  rate : Nat
  group : Nat
  source : Nat
  port : Nat
  pt : Nat
  ptime : Nat
  jitUs : Nat
  pool : Nat
  offset : Nat
  /-- sequence numbers that have arrived, newest first, and the highest -/
  seen : List Nat
  top : Option Nat
  /-- numbers missing when a later one arrived, that MERGE_MS judges (R449) -/
  missing : List Nat
  /-- held samples by grid instant of delivery: one word per channel -/
  held : SMap (List Int)
  sid : Nat
  /-- local time (ns) of the last packet on each port and of the last in-time packet -/
  lastA : Option Nat
  lastB : Option Nat
  deriving DecidableEq, Repr

def StrIn.off : StrIn := ⟨false, false, 1, 4, 0, 0, 0, 96, 0, 250, 0, 0, [], none, [], [], 0, none, none⟩

/-- An egress stream (R428): configuration, next sequence number, samples gathered (grid instant of the first, words per
instant). -/
structure StrOut where
  en : Bool
  l32 : Bool
  announce : Bool
  chans : Nat
  rate : Nat
  dest : Nat
  ttl : Nat
  pt : Nat
  port : Nat
  ptime : Nat
  pool : Nat
  ssrc : Nat
  name : List Byte
  seq : Nat
  buf0 : Nat
  buf : List (List Int)
  deriving DecidableEq, Repr

def StrOut.off : StrOut := ⟨false, false, false, 1, 4, 0, 0, 96, 0, 0, 0, 0, [], 0, 0, []⟩

/-- A discovered session (R429). -/
structure DiscSess where
  a : Announcement
  sup : Bool
  /-- local time of its last announcement, ns -/
  at_ : Nat
  deriving DecidableEq, Repr

/-! ## Records of the scene stage (R64 to R69, R297, R299) -/

/-- A staged record: its live value, its shadow, its place in the scene stage and that place's dirty mark (R66 to R68). -/
structure Rec where
  live : List Byte
  shadow : List Byte
  stage : List Byte
  dirty : Bool
  deriving DecidableEq, Repr

/-! ## Front end -/

/-- One object (0–511) or direct channel (512–639) up to the end of its chain. -/
structure Chan where
  route : Route
  bq : List BqSt
  /-- alignment delay of a direct channel, oldest first (R42) -/
  align : List Int
  /-- INSTAT.BYPASS_UNSYNC (R60) -/
  unsync : Bool
  deriving DecidableEq, Repr

/-- A playback ring's prefetch (R56): ticks fetched, oldest first, and the fetch point. -/
structure Play where
  pre : List (List Int)
  fetch : Nat
  deriving DecidableEq, Repr

/-! ## Geometry -/

/-- An object's geometry state. -/
structure ObjGeo where
  queue : List Key
  traj : Traj
  /-- tick of the last BULK change whose sequence of R108 runs -/
  bulkTick : Option Nat
  /-- BULK in force before that change: fills the entry line of its tick (R112) -/
  bulkWas : Nat
  starved : Bool
  /-- first tick whose entry line receives zeros while STARVED (R118) -/
  starveFrom : Nat
  refill : Bool
  /-- a cut of R93, R83 or R85 runs in this tick -/
  cutting : Bool
  clamped : Bool
  deriving DecidableEq, Repr

/-- Host-path state of an object (06_host_supplied_paths.md). -/
structure HpObj where
  host : Bool
  pend : List HpUpdate
  /-- entries of the governing or the latest applied update, which R144 keeps trying -/
  applied : List HpEntry
  /-- consecutive held ticks, and whether R146 has taken the paths since the last update -/
  hold : Nat
  timed : Bool
  denied : Nat
  empty : Bool
  deriving DecidableEq, Repr

/-- Sward and bulk-delay state of an object. -/
structure ObjMem where
  /-- ring of R111, newest first; its length is the fill mark of R113 -/
  ring : List Int
  /-- entry line of the running tick, oldest first -/
  entry : List Int
  /-- write stage of R117: tick and its 16 samples, oldest first; newest tick first; the tenth is leaving -/
  stage : List (Nat × List Int)
  /-- DRAM writes not yet complete: ticks -/
  todo : List Nat
  /-- valid marks of R580: first tick written since the marks were cleared, and the ticks lost since -/
  since : Option Nat
  lost : List Nat
  /-- the fill mark is to be cleared at the end of the tick -/
  clear : Bool
  deriving DecidableEq, Repr

/-- What a target computation counts. -/
structure Tally where
  doppler : Nat
  delay : Nat
  gain : Nat
  late : Nat
  stale : Nat
  hpLate : Nat
  hpStale : Nat
  hpHold : Nat
  hpTimeout : Nat
  deriving DecidableEq, Repr

/-- What a completed computation does to a host object: the updates it releases, the one it keeps with its cuts done, whether an
update governed, and what else it leaves (R142 to R146). -/
structure HpDone where
  gone : List HpUpdate
  kept : Option (HpUpdate × HpUpdate)
  governed : Bool
  applied : List HpEntry
  hold : Nat
  timed : Bool
  empty : Bool
  deriving DecidableEq, Repr

/-- What a completed computation does to an object: its trajectory, the keyframes it uses up, its flags. -/
structure ObjDone where
  traj : Traj
  used : List Key
  cut : Bool
  clamped : Bool
  hp : Option HpDone
  deriving DecidableEq, Repr

/-- Targets of the next tick, formed in the running one from what the token found (R25, R87), and what the computation does to the
objects once it is complete. -/
structure Plan where
  tick : Nat
  /-- per slot its target, and whether the path fades out -/
  conts : SMap (Tgt × Bool)
  news : List NewPath
  done : SMap ObjDone
  /-- the host objects of the computation -/
  hosts : List Nat
  tally : Tally
  /-- the computation was abandoned (R109) -/
  late : Bool
  deriving DecidableEq, Repr

/-! ## Room correction and back end -/

/-- What a bank slot holds (R155, R161). -/
structure Bank where
  /-- 0 EMPTY, 1 LOADING, 2 READY -/
  state : Nat
  builtin : Bool
  np : Nat
  nq : Nat
  pol : Bool
  gain : Nat
  delay : Nat
  id : Nat
  /-- head taps and on-die partitions, as the convolution SRAM holds them (R161) -/
  coef : List Byte
  deriving DecidableEq, Repr

/-- A pending swap request (R164 to R167). -/
structure SwapReq where
  slot : Nat
  time : Option Nat
  /-- tick at whose token it was latched -/
  latch : Nat
  /-- reservation point at which it first became eligible -/
  first : Option Nat
  queued : Bool
  deriving DecidableEq, Repr

/-- A running cross-fade (R168, R169). -/
structure Xfade where
  slot : Nat
  pos : Nat
  lenLog : Nat
  linear : Bool
  /-- tick at which it started (R331) -/
  start : Nat
  deriving DecidableEq, Repr

/-- A value that waits for a zero crossing (R184 to R186): value in force, wait (value, samples waited, ZCTO), ramp (from,
to, sample), pending (value, ZCTO). -/
structure ZcVal where
  cur : Nat
  wait : Option (Nat × Nat × Nat)
  ramp : Option (Nat × Nat × Nat)
  pend : Option (Nat × Nat)
  deriving DecidableEq, Repr

/-- Limiter of a feed (R187 to R190). -/
structure Lim where
  /-- mute output, newest first -/
  ys : List Int
  g : Int
  l : Nat
  a : Nat
  t : Int
  kr : Int
  en : Bool
  /-- running LA cross-fade: old L, old A, old g, position -/
  xf : Option (Nat × Nat × Int × Nat)
  pend : Option Nat
  deriving DecidableEq, Repr

/-- One feed from its accumulator to the hand-off buffer. -/
structure Feed where
  a : Bank
  b : Bank
  live : Nat
  pend : Option SwapReq
  /-- block at which the reserved cross-fade starts -/
  resv : Option Nat
  xf : Option Xfade
  linger : Bool
  /-- pre-correction history, newest first, and the input blocks whose spectra are unwritten (R154, R172) -/
  hist : List Int
  lost : List Nat
  /-- spectrum writes not yet issued: input blocks -/
  todo : List Nat
  /-- tail state per slot: 1 fading out in this tick, 2 zero, 3 fading in in this tick (R171) -/
  tail : SMap Nat
  bq : List BqSt
  /-- trim line, newest first; ticks not yet issued to DRAM, and ticks lost (R177, R179) -/
  line : List Int
  /-- tick of the newest samples of `line` -/
  lineTick : Nat
  lineTodo : List Nat
  lineLost : List Nat
  trim : Nat
  trimXf : Option (Nat × Nat)
  trimPend : Option Nat
  /-- 1 fading out in this tick, 2 zero, 3 fading in in this tick (R179) -/
  starve : Nat
  gain : ZcVal
  mute : ZcVal
  xPrev : Int
  lim : Lim
  /-- the last tick was missed: the next is scaled up from zero (R234) -/
  missed : Bool
  /-- words of the convolution SRAM that read as zero until the next block boundary: slot, word (R172) -/
  perr : List (Nat × Nat)
  /-- bank-store partitions that read as zero in this block, and in the next: slot, partition (R172) -/
  ecc : List (Nat × Nat)
  eccNext : List (Nat × Nat)
  deriving DecidableEq, Repr

/-- A sink (R195 to R204). -/
structure Sink where
  route : Route
  /-- converter state of R61 and ticks spent in it -/
  conv : Nat
  run : Nat
  convFade : Option Nat
  /-- emergency gain: 0 none, 1 the first copy ramps, 2 zero; and the samples of the fade back in -/
  em : Nat
  emFade : Option Nat
  /-- words of the last copy, converted to the sink's format -/
  out : List Int
  deriving DecidableEq, Repr

/-! ## Measurement (09_measurement_chain.md) -/

/-- A measurement channel. -/
structure MeasCh where
  /-- first input index of the restart in force (R212), and the index of the next input sample (R208) -/
  start : Nat
  next : Nat
  /-- input samples since then, newest first, with absent marks -/
  hist : List (Int × Bool)
  suppress : Bool
  settled : Bool
  m0 : Nat
  /-- settled decimated samples kept, newest first, with absent marks; the index of the newest -/
  ys : List (Rat × Bool)
  top : Nat
  /-- level path restart index; running period sum, peak, count; last K means and peaks, newest first -/
  lvl0 : Nat
  acc : Rat
  peak : Rat
  cnt : Nat
  qs : List Rat
  ks : List Rat
  /-- analysis restart index, frames since it, frames in S, averages (Sxx, Syy, Re, Im), first index contributing, absent flags -/
  ana0 : Nat
  frames : Nat
  inS : Nat
  sxx : List Rat
  syy : List Rat
  sre : List Rat
  sim : List Rat
  starts : List Nat
  abs_ : Bool
  refAbs : Bool
  results : Nat
  /-- a completed average waits to be written: record bytes without SEQ, and the tick it was completed in (R221) -/
  pend : Option (List Byte × Nat)
  /-- stream unit being filled: index of its first sample, samples, absent; flags of the next unit -/
  unit0 : Nat
  unit : List (Rat × Bool)
  segFlag : Bool
  gapFlag : Bool
  deriving DecidableEq, Repr

/-! ## Fabric (10_clockless_fabric.md, 11_ageing_and_margins.md) -/

/-- A group waking (R239, R257): 0 queued, 1 admitted, 2 settled; tick of the request. -/
structure Waking where
  st : Nat
  req : Nat
  deriving DecidableEq, Repr

/-- The fabric beyond its registers. -/
structure FabSt where
  /-- completion stamps of the running tick, in 1.2 GHz cycles -/
  stamps : SMap Nat
  aband : List Nat
  acked : List Nat
  hung : List Nat
  idle : SMap Nat
  waking : SMap Waking
  windows : Nat
  deriving DecidableEq, Repr

/-- Ibex and the Fawn read beyond their registers (R243 to R256). -/
structure IbexSt where
  /-- voltage last written, mV; whether its readback is outstanding; its step, the time of the write, and the time at which
  it settles once its readback has succeeded -/
  vdd : Nat
  /-- target of the last write whose readback succeeded, 0 before the first -/
  vGood : Nat
  busy : Bool
  step : Nat
  wroteAt : Nat
  settleAt : Nat
  /-- failures in a row of the write, and whether stepping has stopped for them -/
  fails : Nat
  avsFail : Bool
  /-- birth record bad; fewer than 40 healthy sensors -/
  birthBad : Bool
  degraded : Bool
  /-- hottest fabric sensor, in 0.1 °C; voltage and temperature of the last Fawn read; whether there was one that the birth record
  judges -/
  tj : Int
  tjRead : Int
  /-- hottest reading since reset -/
  tjMax : Int
  vRead : Nat
  read : Bool
  /-- lowest tick slack since the last evaluation -/
  meas : Option Int
  /-- a tick was missed since the last write settled -/
  missSettled : Bool
  /-- ticks in a row without a miss and with slack at or above 0 -/
  good : Nat
  /-- EMERGENCY runs; it begins at the next token -/
  emerg : Bool
  emergNext : Bool
  /-- evaluations in a row that met the condition for a higher tier; RETURN runs -/
  upRun : Nat
  ret : Bool
  /-- ENTER_M3 runs since the token of this tick; whether STUCK was raised in it -/
  enterM3 : Option Nat
  stuck : Bool
  /-- moves decided for the next token: tier (0 for M0 or M1), first step of ENTER_M3; kernel change of ENTER_M3 -/
  moveTo : Option (Nat × Bool)
  kernelNext : Bool
  /-- pending request for approval: tier, first step of ENTER_M3 -/
  req : Option (Nat × Bool)
  k12 : Bool
  kfade : Bool
  budgetM3 : Bool
  /-- tick whose token changed the tier -/
  tierTick : Option Nat
  /-- sensors whose fault has been recorded since reset -/
  faulty : List Nat
  deriving DecidableEq, Repr

/-- The day being logged (R247): minutes and extremes since the last record. -/
structure DayLog where
  day : Nat
  actTicks : Nat
  ageMax : Option Int
  tjMax : Int
  tjSum : Int
  tjN : Nat
  vSum : Nat
  vMax : Nat
  slackMin : Nat
  miss : Nat
  m1 : Nat
  m2 : Nat
  m3 : Nat
  emerg : Nat
  /-- sum over ACTIVE ticks of the voltage is in vSum; slot of the next record -/
  count : Nat
  deriving DecidableEq, Repr

/-! ## The renderer -/

/-- A tick whose work the fabric does: its number and, per channel, what the old and the new side of its selector
delivered. -/
structure Work where
  tick : Nat
  src : SMap (List (Option Int) × List (Option Int))
  /-- words read from Sward with a parity error: object and age (R115) -/
  perr : List (Nat × Nat)
  /-- did its deadline timer start on the backup clock (R228, R241)? -/
  backup : Bool
  deriving DecidableEq, Repr

/-- The renderer beyond its registers. -/
structure Rend where
  /-- records by kind × 4,096 + index: 0 INSEL, 1 CHAN, 2 MATRIX, 3 ATMOS, 4 GEOREC, 5 SPKTAB, 6 FEEDEQ, 7 OUTSET, 8 RATING,
  9 BANKSEL, 10 OUTSEL -/
  recs : SMap Rec
  /-- live values replaced at the running tick's token, by the same keys -/
  was : SMap (List Byte)
  commitTick : Option Nat
  /-- tick at which each block's COMMIT last took effect, by the numbers of `commits` (R24) -/
  commitTicks : SMap Nat
  sceneId : Nat
  chans : SMap Chan
  gens : SMap Gen
  genWas : SMap Nat
  plays : SMap Play
  objs : SMap ObjGeo
  omem : SMap ObjMem
  /-- fill mark, per front-end group, of its objects that have no entry in `omem`: their rings hold zeros (R113) -/
  fill : SMap Nat
  hp : SMap HpObj
  paths : SMap Path
  plan : Option Plan
  /-- tick m of the last evaluated instant te(m) (R75, R91) -/
  evalTick : Option Nat
  /-- effective speed of sound of the next tick and of the running one (R78) -/
  c : Rat
  cWas : Rat
  /-- air absorption of the targets of the next tick and of the running tick (R79) -/
  air : Air
  airWas : Air
  /-- BANK_STAT and XF_POS of each feed, which change at tick boundaries only, where they differ from the reset values (R180) -/
  bankWas : SMap (Nat × Nat)
  /-- shelf corner in use by the running tick, and from the next (R79) -/
  fc : Nat
  fcNext : Nat
  feeds : SMap Feed
  sinks : SMap Sink
  /-- the state of every sink that has no entry in `sinks` -/
  sinkRest : Sink
  /-- hand-off buffers of the last rendered tick: its number, 32-bit words per feed -/
  hand : Option (Nat × SMap (List Int))
  /-- taps of the last rendered tick: object inputs with absent marks, pre-correction values -/
  tapIn : SMap (List (Int × Bool))
  tapPre : SMap (List Int)
  meas : SMap MeasCh
  /-- channels whose analysis restarted since the last token's changes were counted (R220) -/
  anaHit : List Nat
  work : Option Work
  fab : FabSt
  ibex : IbexSt
  log : DayLog
  /-- commits requested by register writes since the last token: 0 INPUT, 1 GEN, 2 OUTSEL, 3 HP, 4 MEAS, 5 LAT -/
  commits : List Nat
  /-- emergency mute of MUTE_N: applies, latched; samples low or high counted from the pin -/
  pinLow : Bool
  /-- capture channels whose T0 is armed (R200) -/
  capArm : List Nat
  /-- network seconds of the last SWARD_PERR and TAIL_MISS records -/
  perrSec : Option Nat
  tailSec : Option Nat
  /-- whether DRAM accepted a command in the ticks before each of the last tokens, newest first -/
  dramOk : List Bool
  /-- Sward words still to be corrupted by DIAG_ERR_INJECT, by object (R366) -/
  injS : SMap Nat
  /-- words of the convolution SRAM still to be corrupted, by feed -/
  injC : SMap Nat
  deriving DecidableEq, Repr


/-! ## Initial values -/

def Bank.empty : Bank := ⟨0, false, 0, 0, false, 0x400000, 0, 0, []⟩
/-- The built-in identity bank (R161). -/
def Bank.ident : Bank := ⟨2, true, 0, 0, false, 0x400000, 0, 0, []⟩
def Side.rest : Side := ⟨0, false, 0, 0, false, .none, .none⟩
/-- Log 41. -/
def Chan.init : Chan := ⟨⟨Side.rest, .none, 0, .none⟩, List.replicate 4 ⟨0, 0⟩, List.replicate 8 0, false⟩
def Play.init : Play := ⟨[], 0⟩
def Gen.init : Gen := ⟨0, 1, 0⟩
def Kin.zero : Kin := ⟨0, 0, 0, 0, 0, 0⟩
def ObjGeo.init : ObjGeo := ⟨[], ⟨.none, Kin.zero, true⟩, .none, 0, false, 0, false, false, false⟩
def HpObj.init : HpObj := ⟨false, [], [], 0, false, 0, false⟩
def ObjMem.init : ObjMem := ⟨[], [], [], [], .none, [], false⟩
def Lim.init : Lim := ⟨[], 2 ^ 24, 32, 32, 2 ^ 24, 3495, true, .none, .none⟩
/-- Log 41. -/
def Feed.init : Feed :=
  { a := .ident, b := .empty, live := 0, pend := .none, resv := .none, xf := .none, linger := false, hist := [],
    lost := [], todo := [], tail := [], bq := List.replicate 16 ⟨0, 0⟩, line := [], lineTick := 0, lineTodo := [], lineLost := [],
    trim := 0, trimXf := .none, trimPend := .none, starve := 0, gain := ⟨0x100000, .none, .none, .none⟩,
    mute := ⟨0, .none, .none, .none⟩, xPrev := 0, lim := .init, missed := false, perr := [], ecc := [], eccNext := [] }
/-- A sink has no ASRC: its side counts as a bypass. -/
def Sink.init : Sink := ⟨⟨{ Side.rest with bypass := true }, .none, 0, .none⟩, 0, 0, .none, 0, .none, []⟩
def MeasCh.init : MeasCh :=
  { start := 0, next := 0, hist := [], suppress := false, settled := false, m0 := 0, ys := [], top := 0, lvl0 := 0, acc := 0,
    peak := 0, cnt := 0, qs := [], ks := [], ana0 := 0, frames := 0, inS := 0, sxx := [], syy := [], sre := [],
    sim := [], starts := [], abs_ := false, refAbs := false, results := 0, pend := .none, unit0 := 0, unit := [],
    segFlag := false, gapFlag := false }
def FabSt.init : FabSt := ⟨[], [], [], [], [], [], 0⟩
def IbexSt.init : IbexSt :=
  { vdd := 800, vGood := 0, busy := false, step := 0, wroteAt := 0, settleAt := 0, fails := 0, avsFail := false, birthBad := false,
    degraded := false, tj := 250, tjRead := 250, tjMax := 250, vRead := 800, read := false, meas := .none, missSettled := false, good := 0,
    emerg := false, emergNext := false, upRun := 0, ret := false, enterM3 := .none, stuck := false, moveTo := .none,
    kernelNext := false, req := .none, k12 := false, kfade := false, budgetM3 := false, tierTick := .none, faulty := [] }
def DayLog.init : DayLog :=
  { day := 0, actTicks := 0, ageMax := .none, tjMax := 0, tjSum := 0, tjN := 0, vSum := 0, vMax := 0, slackMin := 0x7FFF,
    miss := 0, m1 := 0, m2 := 0, m3 := 0, emerg := 0, count := 0 }
/-- Log 127. -/
def Rend.init : Rend :=
  { recs := [], was := [], commitTick := .none, commitTicks := [], sceneId := 0, chans := [], gens := [], genWas := [], plays := [],
    objs := [], omem := [], fill := [], hp := [], paths := [], plan := .none, evalTick := .none, c := 343, cWas := 343, air := ⟨0, 4000⟩,
    airWas := ⟨0, 4000⟩, bankWas := [], fc := 4000,
    fcNext := 4000, feeds := [], sinks := [], sinkRest := .init, hand := .none, tapIn := [], tapPre := [], meas := [], anaHit := [], work := .none,
    fab := .init, ibex := .init, log := .init, commits := [], pinLow := false, capArm := [], perrSec := .none, tailSec := .none,
    dramOk := [], injS := [], injC := [] }

/-! ## The machine -/

/-- The three variants of R4. -/
inductive Variant where
  | v9512
  | v9384
  | v9256
  deriving DecidableEq, Repr

def Variant.objects : Variant → Nat
  | .v9512 => 512
  | .v9384 => 384
  | .v9256 => 256
def Variant.feeds : Variant → Nat := Variant.objects
def Variant.part : Variant → Nat
  | .v9512 => 0x9512
  | .v9384 => 0x9384
  | .v9256 => 0x9256
/-- Full path budget (R4). -/
def Variant.paths : Variant → Nat
  | .v9512 => 131072
  | .v9384 => 98304
  | .v9256 => 65536
def Variant.pes : Variant → Nat
  | .v9512 => 64
  | .v9384 => 48
  | .v9256 => 32
def Variant.ses : Variant → Nat
  | .v9512 => 16
  | .v9384 => 12
  | .v9256 => 8
def Variant.obes : Variant → Nat
  | .v9512 => 8
  | .v9384 => 6
  | .v9256 => 4
/-- SYS.LIMITS of the variant (R6). -/
def Variant.limits : Variant → Nat
  | .v9512 => 0x08020200
  | .v9384 => 0x06018180
  | .v9256 => 0x04010100

/-- Everything the part holds, but for the queue of commands that wait. -/
structure Mach where
  variant : Variant
  /-- registers that differ from their reset value, by absolute address (R7) -/
  regs : SMap Word
  /-- values in force of registers whose fields are staged (RWC, R9), by absolute address -/
  live : SMap Word
  /-- holding copies of 64-bit registers (R11), by address of the high word -/
  hold : SMap Word
  /-- memory: general SRAM, MRAM, DRAM and host memory (bit 63) in one address space (R549) -/
  mem : List Host.Cell
  /-- the model's own counter for free values -/
  free : Nat
  err : ErrSt
  tm : TimeSt
  pll : SMap PllSt
  bus : BusSt
  dma : SMap DmaSt
  ddr : DdrSt
  sys : SysSt
  asp : SMap AspSt
  cmd : CmdSt
  sch : SchedSt
  net0 : NetPort
  net1 : NetPort
  sin : SMap StrIn
  sout : SMap StrOut
  disc : List DiscSess
  rend : Rend
  /-- is the pin IRQ_N driven low (R546)? -/
  irqN : Bool
  deriving DecidableEq, Repr

/-- The machine right after reset. Log 2, 3. -/
def Mach.reset : Mach :=
  { variant := .v9512, regs := [], live := [], hold := [], mem := [], free := 0, err := .init, tm := .init, pll := [],
    bus := .init, dma := [], ddr := .init, sys := .init, asp := [], cmd := .init, sch := .init,
    net0 := .init, net1 := .init, sin := [], sout := [], disc := [], rend := .init, irqN := false }

end Sys2Proof.Machine
end

