-- ==== Sys2Proof/Machine/Shipped.lean ====
section
/-! DEFINITION. What a byte of memory that nothing has written reads as: the option pages as shipped (R517), zero
elsewhere. -/
namespace Sys2Proof.Machine

/-- The option page as shipped: (offset, bytes, value), every other byte zero (R517, R458). The CRC fields are those of the
page. Band table, SAFE and FMAX words are DESIGN CHOICE (R458 gives no value). Log 32. -/
def optFields : List (Nat × Nat × Nat) :=
  [(0, 2, 0x4f50),
   (2, 2, 0x1),
   (8, 4, 0x63f341b7),
   (12, 4, 0x61790e4d),
   (32, 4, 0x95125600),
   (36, 4, 0x4230),
   (40, 4, 0x8020200),
   (1028, 4, 0xa10),
   (1032, 4, 0x440),
   (1280, 4, 0x60),
   (1288, 4, 0x40064),
   (1296, 4, 0x4),
   (1300, 4, 0x3),
   (1304, 4, 0x1f800008),
   (1308, 4, 0x10),
   (1312, 4, 0x3),
   (1316, 4, 0x8000020),
   (1320, 4, 0x2),
   (1328, 4, 0x3f000004),
   (1332, 4, 0x2),
   (1340, 4, 0x3f000004),
   (1344, 4, 0x9d808e8),
   (1348, 4, 0x80000000),
   (1536, 4, 0x90),
   (1540, 4, 0x81c2e33f),
   (1544, 4, 0x40064),
   (1552, 4, 0x12600),
   (1556, 4, 0x3),
   (1560, 4, 0x424c00),
   (1564, 4, 0x93),
   (1568, 4, 0x3),
   (1572, 4, 0x1800126),
   (1576, 4, 0xa0),
   (1580, 4, 0x3),
   (1584, 4, 0x1400140),
   (1588, 4, 0x10),
   (1592, 4, 0x3),
   (1596, 4, 0xc000020),
   (1600, 4, 0xed20d68),
   (1604, 4, 0x80000000),
   (1792, 4, 0x64),
   (1800, 4, 0x40064),
   (1808, 4, 0x4),
   (1812, 4, 0x1),
   (1816, 4, 0x21000008),
   (1820, 4, 0x20),
   (1824, 4, 0x1),
   (1828, 4, 0x4400040),
   (1832, 4, 0x10),
   (1836, 4, 0x1),
   (1840, 4, 0x8400020),
   (1844, 4, 0x28),
   (1848, 4, 0x1),
   (1852, 4, 0x3800050),
   (1856, 4, 0xa410947),
   (1860, 4, 0x80000000),
   (2048, 4, 0x100),
   (2056, 4, 0x40064),
   (2064, 4, 0x4),
   (2068, 4, 0x3),
   (2072, 4, 0x54000008),
   (2076, 4, 0x10),
   (2080, 4, 0x3),
   (2084, 4, 0x15000020),
   (2088, 4, 0x2),
   (2096, 4, 0xa8000004),
   (2100, 4, 0x2),
   (2108, 4, 0xa8000004),
   (2112, 4, 0x1a4017c0),
   (2116, 4, 0x80000000)]

/-- Byte `o` of the option page as shipped. Log 32. -/
def optByte (o : Nat) : Byte :=
  match optFields.find? (fun f => f.1 ≤ o && o < f.1 + f.2.1) with
  | some f => BitVec.ofNat 8 (f.2.2 >>> (8 * (o - f.1)))
  | none => 0

/-- The byte an unlisted address reads as. Log 4. -/
def memDefault (a : Nat) : Byte :=
  if 0x100000000 ≤ a && a < 0x100002000 then optByte ((a - 0x100000000) % 4096) else 0

end Sys2Proof.Machine
end

