-- ==== Sys2Proof/Machine/Ops.lean ====
section
/-! DEFINITION. The shared operations over registers, memory, counters and free values. -/
namespace Sys2Proof.Machine

/-! ## Registers (R7 to R12) -/

/-- Address of instance (i, j) of a register. -/
def Reg.at_ (r : Reg) (i j : Nat) : Nat := r.base + i * r.s1 + j * r.s2

/-- Reset value of instance i: the table's, but for the three registers whose reset value depends on the instance
(R383 group weights and reservations, R544 default vectors). -/
def Reg.rst (r : Reg) (i : Nat) : Nat :=
  if r.base = R.ERR_VEC.base then 0x80000000 + (if i < 18 then i else i + 14)
  else if r.base = R.SCHED_GRP_WEIGHT.base then
    (if i = 0 then 128 else if i ≤ 2 then 32 else if i = 3 then 8 else 16)
  else if r.base = R.SCHED_GRP_RESV.base then (if i = 0 then 32 else 8)
  else r.reset

/-- Value of register r, instance (i, j). -/
def Mach.rd (s : Mach) (r : Reg) (i : Nat := 0) (j : Nat := 0) : Nat :=
  (mget (BitVec.ofNat 32 (r.rst i)) s.regs (r.at_ i j)).toNat

/-- Write register r, instance (i, j). -/
def Mach.wr (s : Mach) (r : Reg) (v : Nat) (i : Nat := 0) (j : Nat := 0) : Mach :=
  { s with regs := mput s.regs (r.at_ i j) (BitVec.ofNat 32 v) }

/-- Value in force of a staged register. -/
def Mach.lv (s : Mach) (r : Reg) (i : Nat := 0) (j : Nat := 0) : Nat :=
  (mget (BitVec.ofNat 32 (r.rst i)) s.live (r.at_ i j)).toNat

/-- Put a value of a staged register in force. -/
def Mach.setLv (s : Mach) (r : Reg) (v : Nat) (i : Nat := 0) (j : Nat := 0) : Mach :=
  { s with live := mput s.live (r.at_ i j) (BitVec.ofNat 32 v) }

/-- Field f of instance (i, j). -/
def Mach.gf (s : Mach) (f : Fld) (i : Nat := 0) (j : Nat := 0) : Nat := bits (s.rd f.reg i j) f.lo f.len

/-- Field f of the value in force. -/
def Mach.glv (s : Mach) (f : Fld) (i : Nat := 0) (j : Nat := 0) : Nat := bits (s.lv f.reg i j) f.lo f.len

/-- Set field f of instance (i, j). -/
def Mach.sf (s : Mach) (f : Fld) (v : Nat) (i : Nat := 0) (j : Nat := 0) : Mach :=
  s.wr f.reg (putBits (s.rd f.reg i j) f.lo f.len v) i j

/-- Is a one-bit field set? -/
def Mach.on (s : Mach) (f : Fld) (i : Nat := 0) (j : Nat := 0) : Bool := s.gf f i j != 0

/-- Set the bits of a mask in a field (events are set this way). -/
def Mach.orf (s : Mach) (f : Fld) (v : Nat) (i : Nat := 0) (j : Nat := 0) : Mach := s.sf f (s.gf f i j ||| v) i j

/-- Set an event bit. -/
def Mach.evt (s : Mach) (f : Fld) (i : Nat := 0) : Mach := s.sf f 1 i

/-- Set bit k of a register. -/
def Mach.setBit (s : Mach) (r : Reg) (k : Nat) (i : Nat := 0) : Mach := s.wr r (s.rd r i ||| 2 ^ k) i

/-- Clear bit k of a register. -/
def Mach.clrBit (s : Mach) (r : Reg) (k : Nat) (i : Nat := 0) : Mach := s.wr r (putBits (s.rd r i) k 1 0) i

/-- Add n to a 32-bit counter that saturates. -/
def Mach.bump (s : Mach) (r : Reg) (i : Nat := 0) (n : Nat := 1) : Mach :=
  s.wr r (Nat.min 0xFFFFFFFF (s.rd r i + n)) i

/-- Advance a 32-bit counter that wraps. -/
def Mach.step32 (s : Mach) (r : Reg) (i : Nat := 0) : Mach := s.wr r ((s.rd r i + 1) % 2 ^ 32) i

/-- A 64-bit value held in two words. -/
def Mach.rd64 (s : Mach) (lo hi : Reg) (i : Nat := 0) : Nat := s.rd lo i + 2 ^ 32 * s.rd hi i

/-- Write both words of a 64-bit value. -/
def Mach.wr64 (s : Mach) (lo hi : Reg) (v : Nat) (i : Nat := 0) : Mach := (s.wr lo (v % 2 ^ 32) i).wr hi (v / 2 ^ 32 % 2 ^ 32) i

/-- Write only if the condition holds. -/
def Mach.when (s : Mach) (c : Bool) (f : Mach → Mach) : Mach := if c then f s else s

/-- Fold a change over a list. -/
def Mach.each {α : Type} (s : Mach) (l : List α) (f : Mach → α → Mach) : Mach := l.foldl f s

/-- Return every register of [lo, hi) to its reset value. -/
def Mach.clearRegs (s : Mach) (lo hi : Nat) : Mach :=
  { s with regs := s.regs.filter (fun e => e.1 < lo || hi ≤ e.1)
           live := s.live.filter (fun e => e.1 < lo || hi ≤ e.1)
           hold := s.hold.filter (fun e => e.1 < lo || hi ≤ e.1) }

/-! ## Free values -/

/-- Take a free-value number. Log 7. -/
def Mach.fresh (s : Mach) : Nat × Mach := (s.free, { s with free := s.free + 1 })

/-! ## Memory (R549) -/

/-- The byte at an address; an address that lists nothing reads as `memDefault` gives. Log 4. -/
def memByte (m : List Host.Cell) (a : Nat) : Byte := mget (memDefault a) m a

/-- Store one byte, in canonical form: the value an unlisted address reads as is not listed. -/
def memSet (m : List Host.Cell) (a : Nat) (b : Byte) : List Host.Cell :=
  if b = memDefault a then mdel m a else mput m a b

/-- Store a string of bytes. -/
def memPut (m : List Host.Cell) : Nat → List Byte → List Host.Cell
  | _, [] => m
  | a, b :: r => memPut (memSet m a b) (a + 1) r

/-- Read n bytes. -/
def memGet (m : List Host.Cell) (a n : Nat) : List Byte := (upto n).map (fun i => memByte m (a + i))

/-- Canonical form of the memory: rising addresses, no listed byte equal to what an unlisted address reads as. -/
def Memory.wf (m : List Host.Cell) : Bool := risingFrom 0 m && m.all (fun e => decide (e.2 ≠ memDefault e.1))

def Mach.mrd (s : Mach) (a n : Nat) : List Byte := memGet s.mem a n
def Mach.mwr (s : Mach) (a : Nat) (l : List Byte) : Mach := { s with mem := memPut s.mem a l }

def gsramBase : Nat := 0x01000000
def gsramSize : Nat := 0x01000000
def mramBase : Nat := 0x0100000000
def mramSize : Nat := 0x00800000
def dramBase : Nat := 0x1000000000
def hostBit : Nat := 2 ^ 63

/-- Installed DRAM in bytes (DDRC.STAT.SIZE, R509). -/
def Mach.dramSize (s : Mach) : Nat := s.gf F.DDRC_STAT_SIZE * 0x100000

/-- Target of an address (R469): T0 to T7. -/
def Mach.target (s : Mach) (a : Nat) : Nat :=
  if hostBit ≤ a then 6
  else if a < 0x00700000 then 0
  else if a < 0x00B00000 then 1
  else if a < 0x01000000 then 2
  else if a < 0x02000000 then 3
  else if mramBase ≤ a && a < mramBase + mramSize then 4
  else if dramBase ≤ a && a < dramBase + s.dramSize then 5
  else 7

/-! ## Clocks of the model -/

/-- Nanoseconds of network time. -/
def TimeSt.netNs (t : TimeSt) : Nat := t.net / 65536

/-- Network time as SEC × 10^9 + NS, or local time since P2 while the unit has not yet been VALID (R536). -/
def Mach.stampNs (s : Mach) : Nat := if s.tm.ever then s.tm.netNs else s.tm.up

/-- Frequency of the network clock against the local clock in ppb, slews included (R433, R443). -/
def Mach.netPpb (s : Mach) : Rat :=
  (sext 32 (s.rd R.TIME_FREQ) : Rat) / 256 + (match s.tm.slew with | some p => (p : Rat) | none => 0)

/-- Let `dt` ns of local time pass (R433). Log 26, 126. -/
def Mach.advance (s : Mach) (dt : Nat) : Mach :=
  let d : Rat := (dt * 65536 : Nat) * (1 + s.netPpb / 1000000000)
  { s with tm := { s.tm with up := s.tm.up + dt, net := s.tm.net + d.floor.toNat } }

/-- RTC seconds now (R531). Log 44. -/
def Mach.rtcNow (s : Mach) : Nat := s.sys.rtc + (s.tm.up - s.sys.rtcAt) / 1000000000

/-! ## Power and boot -/

/-- Power state (R526): 0 ACTIVE, 1 IDLE, 2 QUIET, 3 STANDBY, 4 OFF. -/
def Mach.power (s : Mach) : Nat := s.gf F.SYS_PWR_STAT_STATE

/-- Boot phase (R520). -/
def Mach.phase (s : Mach) : Nat := s.gf F.SYS_BOOT_STAT_PHASE

/-- Did the write stage hold tick t, which it holds for the nine ticks that follow it, in the tick before token m (R118, R179)? -/
def inStage (m t : Nat) : Bool := decide (t + 2 ≤ m)

end Sys2Proof.Machine
end

