-- ==== Sys2Proof/Machine/Errors.lean ====
section
/-! DEFINITION. The error ring, its handling, the safe state, and the delivery of interrupts (R536 to R547). -/
namespace Sys2Proof.Machine

/-- A record code with its severity and the block that raises it (R543). -/
structure ECode where
  code : Nat
  sev : Nat
  blk : Nat

namespace E
def PLACE_CHG : ECode := ⟨0x0001, 0, 0⟩
def PLACE_DISCARD : ECode := ⟨0x0002, 1, 0⟩
def SELFTEST_FAIL : ECode := ⟨0x0003, 2, 0⟩
def BIRTH_WRITE : ECode := ⟨0x0004, 1, 0⟩
def PLACE_DROP : ECode := ⟨0x0005, 1, 0⟩
def PLL_LOL : ECode := ⟨0x0101, 1, 1⟩
def BAND_FAIL : ECode := ⟨0x0102, 2, 1⟩
def ASP_LOSS : ECode := ⟨0x0201, 1, 2⟩
def RATE_MOVE : ECode := ⟨0x0202, 0, 2⟩
/-- Raised by the MAC of port p: block 3 from NETA, 4 from NETB. -/
def PAUSE_WD (p : Nat) : ECode := ⟨0x0301, 1, 3 + p⟩
def TIME_PORT_FAIL : ECode := ⟨0x0501, 2, 5⟩
def FAILOVER : ECode := ⟨0x0502, 1, 5⟩
def STANDBY_SUSPECT : ECode := ⟨0x0503, 1, 5⟩
def LATENCY_BREACH : ECode := ⟨0x0504, 2, 5⟩
def BUS_TIMEOUT : ECode := ⟨0x0701, 2, 7⟩
def LOCK_BREAK : ECode := ⟨0x0702, 1, 7⟩
def DRAM_TRAIN_FAIL : ECode := ⟨0x0801, 2, 8⟩
def DRAM_ECC : ECode := ⟨0x0802, 2, 8⟩
def DRAM_REPLAY_FAIL : ECode := ⟨0x0803, 3, 8⟩
def TICK_MISS : ECode := ⟨0x0901, 2, 9⟩
def FABRIC_HANG : ECode := ⟨0x0902, 3, 9⟩
def FAWN_BIRTH_BAD : ECode := ⟨0x0903, 2, 9⟩
def FAWN_FAULT : ECode := ⟨0x0904, 1, 9⟩
def FAWN_DEGRADED : ECode := ⟨0x0905, 2, 9⟩
def AVS_FAIL : ECode := ⟨0x0906, 2, 9⟩
def OPT_CLAMP : ECode := ⟨0x0907, 1, 9⟩
def TIER : ECode := ⟨0x0908, 1, 9⟩
def STUCK : ECode := ⟨0x0909, 1, 9⟩
def SWARD_PERR : ECode := ⟨0x0A01, 1, 10⟩
def TAIL_MISS : ECode := ⟨0x0B01, 1, 11⟩
def CORR_ECC : ECode := ⟨0x0B02, 1, 11⟩
def LOAD_FAIL : ECode := ⟨0x0B03, 0, 11⟩
def TRIM_STARVE : ECode := ⟨0x0B04, 2, 11⟩
def SWAP_DROP : ECode := ⟨0x0B05, 1, 11⟩
/-- ERROR; FATAL when no core is left in service (R368). -/
def CORE_FAULT (fatal : Bool) : ECode := ⟨0x0D01, if fatal then 3 else 2, 13⟩
def STREAM_LOST : ECode := ⟨0x1101, 1, 17⟩
end E

/-- SRC of a record: block in [15:11], instance in [10:0] (R536). -/
def srcOf (blk inst : Nat) : Nat := (blk % 32) * 2048 + inst % 2048

/-! ## The safe state (R541, R542) -/

/-- Does the safe state hold? -/
def Mach.safe (s : Mach) : Bool := s.on F.ERR_STAT_SAFE

/-- Enter the safe state, once: SAFE and its event are set (FAULT_N and the mute of R204 follow SAFE) and the countdown
of 100 ms starts. -/
def Mach.enterSafe (s : Mach) : Mach :=
  if s.safe then s else
    let s := (s.sf F.ERR_STAT_SAFE 1).evt F.ERR_EVT_SAFE
    { s with err := { s.err with countdown := some (s.tm.up + 100000000) } }

/-! ## The ring (R537 to R539) -/

/-- Sequence distance: how far `a` lies behind the counter `now`, modulo 2^32 (R538). -/
def seqAge (now a : Nat) : Nat := (now + 2 ^ 32 - a % 2 ^ 32) % 2 ^ 32

/-- Is sequence number a at or below b, modulo 2^32? -/
def seqLe (a b : Nat) : Bool := (b + 2 ^ 32 - a % 2 ^ 32) % 2 ^ 32 < 2 ^ 31

/-- The slot of the oldest record among those that satisfy p. -/
def oldest (now : Nat) (slots : SMap ErrRec) (p : ErrRec → Bool) : Option Nat :=
  (slots.foldl (fun (best : Option (Nat × Nat)) e =>
    if e.1 < 48 && p e.2 then
      match best with
      | none => some (e.1, seqAge now e.2.seq)
      | some (_, a) => if a < seqAge now e.2.seq then some (e.1, seqAge now e.2.seq) else best
    else best) none).map (·.1)

/-- First empty slot of lo … lo+n-1. Log 121. -/
def emptySlot (slots : SMap ErrRec) (lo n : Nat) : Option Nat :=
  (upto n).map (· + lo) |>.find? (fun k => (mfind slots k).isNone)

/-- Where a new record goes (R537). -/
def placeSlot (now : Nat) (slots : SMap ErrRec) (sev : Nat) : Option Nat :=
  match (if 2 ≤ sev then emptySlot slots 48 16 else none) with
  | some k => some k
  | none =>
    match emptySlot slots 0 48 with
    | some k => some k
    | none =>
      match oldest now slots (fun r => r.sev == 0) with
      | some k => some k
      | none =>
        match oldest now slots (fun r => r.sev == 1) with
        | some k => some k
        | none => oldest now slots (fun r => decide (2 ≤ r.sev) && r.acked)

/-- Start the next waiting item of each class (R540): one of each class at a time; no ERROR starts while a FATAL waits
or is handled. Log 122. -/
def ErrSt.start (e : ErrSt) : ErrSt :=
  let e := match e.hF, e.qF with
    | none, i :: r => { e with hF := some i, qF := r }
    | _, _ => e
  match e.hE, e.hF, e.qF, e.qE with
  | none, none, [], i :: r => { e with hE := some i, qE := r }
  | _, _, _, _ => e

/-- Set REC when the severity reaches CFG.IRQ_SEV (R544). -/
def Mach.recEvt (s : Mach) (sev : Nat) : Mach := s.when (s.gf F.ERR_CFG_IRQ_SEV ≤ sev) (·.evt F.ERR_EVT_REC)

/-- The record an occurrence merges into (R539). -/
def mergeSlot (s : Mach) (code sev src : Nat) : Option (Nat × ErrRec) :=
  let win := s.gf F.ERR_CFG_MERGE_S * 1000000000
  s.err.slots.find? (fun e =>
    e.2.code == code && e.2.src == src && e.2.sev == sev && !e.2.acked && decide (s.stampNs < e.2.last + win)
      && !(sev == 3 && e.2.handled))

/-- Raise an error occurrence (R536 to R541). -/
def Mach.raise (s : Mach) (c : ECode) (inst arg : Nat) : Mach :=
  let src := srcOf c.blk inst
  let q := s.rd R.ERR_SEQ
  let s := s.step32 R.ERR_SEQ
  match mergeSlot s c.code c.sev src with
  | some (k, r) =>
    let r' := { r with count := Nat.min 65535 (r.count + 1), arg := arg % 2 ^ 32, last := s.stampNs, seq := q }
    let s := { s with err := { s.err with slots := mput s.err.slots k r' } }
    let s := s.recEvt c.sev
    if c.sev == 3 && s.err.hF.any (fun i => i.born == r.born) then s.enterSafe else s
  | none =>
    let slot := placeSlot q s.err.slots c.sev
    let r : ErrRec :=
      { code := c.code, sev := c.sev, acked := false, handled := false, resv := slot.any (48 ≤ ·),
        notime := !s.tm.ever, src := src, count := 1, arg := arg % 2 ^ 32, first := s.stampNs, last := s.stampNs,
        seq := q, born := q }
    let s := match slot with
      | some k =>
        let s := { s with err := { s.err with slots := mput s.err.slots k r
                                              gone := (match mfind s.err.slots k with
                                                | some x => x.seq :: s.err.gone
                                                | none => s.err.gone).take 65535 } }
        s.when (decide (48 ≤ k) && (emptySlot s.err.slots 48 16).isNone) (·.evt F.ERR_EVT_RESV_FULL)
      | none =>
        let s := { s with err := { s.err with gone := (q :: s.err.gone).take 65535 } }
        (s.bump R.ERR_DROPPED).evt F.ERR_EVT_DROP
    let s := s.recEvt c.sev
    let item : HandItem := ⟨c.sev, c.code, src, q⟩
    let second := c.sev == 3 && s.err.hF.isSome
    let s := s.when (c.sev == 3) (·.evt F.ERR_EVT_FATAL)
    let e := if c.sev == 2 then { s.err with qE := s.err.qE ++ [item] }
             else if c.sev == 3 then { s.err with qF := s.err.qF ++ [item] } else s.err
    let s := { s with err := e.start }
    s.when second Mach.enterSafe

/-- Acknowledge every ERROR and FATAL record at or below `upto` (R347, R537): a reserved slot becomes free. Answers
the number of slots released. Log 121. -/
def Mach.ackErr (s : Mach) (upTo : Nat) : Nat × Mach :=
  let hit : Nat × ErrRec → Bool := fun e => decide (2 ≤ e.2.sev) && seqLe e.2.seq upTo && !e.2.acked
  let freed := (s.err.slots.filter (fun e => hit e && decide (48 ≤ e.1))).length
  let slots := (s.err.slots.filter (fun e => !(hit e && decide (48 ≤ e.1)))).map
    (fun e => if hit e then (e.1, { e.2 with acked := true }) else e)
  (freed, { s with err := { s.err with slots := slots } })

/-- ERR_ACK_WRITE. -/
def errAckWrite (upTo : Nat) (s : Mach) : Mach := (s.ackErr (upTo % 2 ^ 32)).2

/-- Mark the record an item was created as handled. -/
def markHandled (slots : SMap ErrRec) (i : HandItem) : SMap ErrRec :=
  slots.map (fun e => if e.2.born == i.born && e.2.code == i.code && e.2.src == i.src
    then (e.1, { e.2 with handled := true }) else e)

/-- ERROR_HANDLED: the FATAL being handled ends first, else the ERROR (R540). Log 122. -/
def errorHandled (s : Mach) : Mach :=
  match s.err.hF, s.err.hE with
  | some i, _ => { s with err := { s.err with slots := markHandled s.err.slots i, hF := none }.start }
  | none, some i => { s with err := { s.err with slots := markHandled s.err.slots i, hE := none }.start }
  | none, none => s

/-- FATAL_HANDLING_TIMEOUT (R541). -/
def fatalHandlingTimeout (s : Mach) : Mach := if s.err.hF.isSome then s.enterSafe else s

/-- The 32 bytes of a record (R536). -/
def ErrRec.bytes (r : ErrRec) : List Byte :=
  toLE 4 r.seq ++ toLE 2 r.code ++ toLE 1 r.sev
    ++ toLE 1 (b2n r.acked + 2 * b2n r.handled + 4 * b2n r.resv + 8 * b2n r.notime)
    ++ toLE 2 r.src ++ toLE 2 r.count ++ toLE 4 r.arg ++ toLE 8 r.first ++ toLE 8 r.last

/-- FAULT_N is low (R512, R466, R515, R519, R521, R542). -/
def Mach.fault (s : Mach) : Bool := s.phase != 6 || s.safe || s.sys.xinLost || s.on F.SYS_STORM_HOLD

/-! ## Interrupts (R544 to R546) -/

/-- Is any enabled bit of an EVT register of n instances set? -/
def anyEvt (s : Mach) (ev en : Reg) : Bool := (upto ev.n1).any (fun i => s.rd ev i &&& s.rd en i != 0)

/-- Is interrupt source k pending (R544)? -/
def Mach.srcPend (s : Mach) (k : Nat) : Bool :=
  match k with
  | 0 => anyEvt s R.ERR_EVT R.ERR_EVT_EN
  | 1 => s.safe
  | 2 => anyEvt s R.SYS_EVT R.SYS_EVT_EN
  | 3 => anyEvt s R.CLK_EVT R.CLK_EVT_EN
  | 4 => anyEvt s R.ASP_EVT R.ASP_EVT_EN
  | 5 => s.rd R.NET_EVT 0 &&& s.rd R.NET_EVT_EN 0 != 0
  | 6 => s.rd R.NET_EVT 1 &&& s.rd R.NET_EVT_EN 1 != 0
  | 7 => anyEvt s R.STRM_EVT R.STRM_EVT_EN
  | 8 => anyEvt s R.TIME_EVT R.TIME_EVT_EN || s.rd R.TIME_GRID_EVT != 0
  | 9 => anyEvt s R.DMA_EVT R.DMA_EVT_EN
  | 10 => anyEvt s R.MATRIX_EVT R.MATRIX_EVT_EN
  | 11 => anyEvt s R.DDRC_EVT R.DDRC_EVT_EN
  | 12 => anyEvt s R.FAB_EVT R.FAB_EVT_EN || anyEvt s R.FAB_IBEX_EVT R.FAB_IBEX_EVT_EN
  | 13 => anyEvt s R.RENDER_FE_EVT R.RENDER_FE_EVT_EN || anyEvt s R.RENDER_GEO_EVT R.RENDER_GEO_EVT_EN
      || anyEvt s R.RENDER_PR_EVT R.RENDER_PR_EVT_EN || anyEvt s R.RENDER_HP_EVT R.RENDER_HP_EVT_EN
  | 14 => anyEvt s R.FEED_CORR_EVT R.FEED_CORR_EVT_EN || anyEvt s R.FEED_OUT_EVT R.FEED_OUT_EVT_EN
  | 15 => anyEvt s R.MEAS_EVT R.MEAS_EVT_EN
  | 16 => anyEvt s R.SCHED_EVT R.SCHED_EVT_EN
  | 17 => anyEvt s R.CMD_EVT R.CMD_EVT_EN
  | n =>
    let c := n - 18
    ((bitOf (s.rd R.DMA_DONE) c || bitOf (s.rd R.DMA_DESC) c) && s.on F.DMA_CTRL_IRQ_DONE c)
      || (bitOf (s.rd R.DMA_ERR) c && s.on F.DMA_CTRL_IRQ_ERR c)

/-- Is a message deliverable: link up, MSI-X enabled, function in D0 (R553)? -/
def Mach.msixOn (s : Mach) : Bool := s.on F.PCIE_STAT_LINK_UP && s.on F.PCIE_STAT_MSIX_EN && s.gf F.PCIE_STAT_DSTATE == 0

/-- Write the message of vector v to the host (R554). Log 125. -/
def Mach.postMsg (s : Mach) (v : Nat) : Mach :=
  let a := s.rd R.PCIE_MSIX_ADDR_LO v + 2 ^ 32 * s.rd R.PCIE_MSIX_ADDR_HI v
  s.mwr (hostBit + a % hostBit) (toLE 4 (s.rd R.PCIE_MSIX_DATA v))

/-- Set or clear the pending bit of vector v. -/
def Mach.setPba (s : Mach) (v : Nat) (b : Bool) : Mach :=
  let r := if v < 32 then R.PCIE_PBA_LO else R.PCIE_PBA_HI
  s.wr r (putBits (s.rd r) (v % 32) 1 (b2n b))

def Mach.pba (s : Mach) (v : Nat) : Bool := bitOf (s.rd (if v < 32 then R.PCIE_PBA_LO else R.PCIE_PBA_HI)) (v % 32)

/-- Send a message on vector v; a masked vector sets its pending bit (R545). -/
def Mach.sendMsg (s : Mach) (v : Nat) : Mach :=
  if !s.msixOn then s
  else if s.on F.PCIE_MSIX_CTRL_MASK v || s.on F.PCIE_STAT_FMASK then s.setPba v true
  else s.postMsg v

/-- Deliver what unmasking releases. -/
def Mach.unmask (s : Mach) : Mach :=
  if !s.msixOn || s.on F.PCIE_STAT_FMASK then s else
    s.each (upto 64) (fun s v => if s.pba v && !s.on F.PCIE_MSIX_CTRL_MASK v then (s.setPba v false).postMsg v else s)

/-- The message of source k, if its vector is enabled. -/
def Mach.srcMsg (s : Mach) (k : Nat) : Mach := s.when (s.on F.ERR_VEC_EN k) (·.sendMsg (s.gf F.ERR_VEC_VEC k))

/-- Was source k pending when ERR.PEND and PEND_DMA were last formed? -/
def Mach.wasPend (s : Mach) (k : Nat) : Bool :=
  if k < 18 then bitOf (s.rd R.ERR_PEND) k else bitOf (s.rd R.ERR_PEND_DMA) (k - 18)

/-- Form ERR.PEND and PEND_DMA anew, and send a message for every source that became pending (R544, R545). Log 123. -/
def Mach.pend (s : Mach) : Mach :=
  let now := (upto 50).map (fun k => s.srcPend k)
  let fresh := (upto 50).filter (fun k => (now.getD k false) && !s.wasPend k)
  let mask : List Bool → Nat := fun l => l.foldr (fun b acc => b2n b + 2 * acc) 0
  let s := (s.wr R.ERR_PEND (mask (now.take 18))).wr R.ERR_PEND_DMA (mask (now.drop 18))
  s.each fresh Mach.srcMsg

/-- Is IRQ_N to be low: from P6 on, while an enabled source is pending or the mailbox asks for it (R286, R546)? Else it is at high
impedance. -/
def Mach.irqLow (s : Mach) : Bool :=
  s.phase == 6 && ((s.rd R.ERR_PEND &&& s.rd R.ERR_IRQN_EN) != 0 || (s.rd R.ERR_PEND_DMA &&& s.rd R.ERR_IRQN_EN_DMA) != 0
    || (s.on F.CMD_SPI_CFG_IRQ && !s.cmd.spiQ.isEmpty))

/-- The interrupts formed anew, and the pin with them. -/
def Mach.settle (s : Mach) : Mach :=
  let s := s.pend
  { s with irqN := s.irqLow }

/-- After a W1C write to a register of source k: a source still pending sends a further message (R545). -/
def Mach.resend (s : Mach) (k : Nat) : Mach := s.when (s.wasPend k && s.srcPend k) (·.srcMsg k)

end Sys2Proof.Machine
end

