-- ==== Sys2Proof/Machine/Num.lean ====
section
/-! DEFINITION. Arithmetic: fixed point with the manual's roundings, IEEE binary64 and binary32 results as exact
rationals rounded to nearest even (R76), and the elementary functions evaluated to 2^-200 and then rounded
(DEDUCED: R76 asks for the correctly rounded value; see the assumption log). -/
namespace Sys2Proof.Machine

/-- Divide by 2^k, rounding half up (toward +∞ on ties). Log 10. -/
def rhu (k : Nat) (v : Int) : Int := if k = 0 then v else (v + 2 ^ (k - 1)) / 2 ^ k

/-- Round a rational half up. -/
def rhuQ (q : Rat) : Int := (q + 1 / 2).floor

/-- Round a rational to nearest, ties away from zero. Log 10. -/
def rhaQ (q : Rat) : Int := if q < 0 then -((-q + 1 / 2).floor) else (q + 1 / 2).floor

/-- Round a rational to nearest, ties to even. -/
def rneQ (q : Rat) : Int :=
  let f := q.floor
  let d := q - f
  if d < 1 / 2 then f else if 1 / 2 < d then f + 1 else if f % 2 = 0 then f else f + 1

/-- Truncate toward zero. -/
def truncQ (q : Rat) : Int := if q < 0 then -((-q).floor) else q.floor

/-- Clamp to the signed range of `w` bits. -/
def clampS (w : Nat) (v : Int) : Int :=
  if v < -(2 ^ (w - 1)) then -(2 ^ (w - 1)) else if 2 ^ (w - 1) - 1 < v then 2 ^ (w - 1) - 1 else v

/-- Clamp to the 32-bit internal word. -/
def clamp32 (v : Int) : Int := clampS 32 v

/-- Clamp to an interval. -/
def clampQ (lo hi q : Rat) : Rat := if q < lo then lo else if hi < q then hi else q

/-- Clamp an integer to an interval. -/
def clampI (lo hi v : Int) : Int := if v < lo then lo else if hi < v then hi else v

/-- 2^e for an integer exponent. -/
def pow2 (e : Int) : Rat := if e < 0 then 1 / (2 ^ e.natAbs : Nat) else ((2 ^ e.natAbs : Nat) : Rat)

/-- floor of the binary logarithm of a positive rational. -/
def ilog2 (q : Rat) : Int :=
  let e : Int := Int.ofNat (Nat.log2 q.num.natAbs) - Int.ofNat (Nat.log2 q.den)
  if q < pow2 e then e - 1 else if pow2 (e + 1) ≤ q then e + 1 else e

/-- Round to a binary format of `p` significand bits and least exponent `emin`, ties to even. Log 9. -/
def rndBin (p : Nat) (emin : Int) (q : Rat) : Rat :=
  if q = 0 then 0 else
    let a := if q < 0 then -q else q
    let e := max (ilog2 a) emin
    let u := pow2 (e - (p - 1))
    (rneQ (q / u) : Rat) * u

/-- IEEE binary64, round to nearest even. -/
def rnd64 (q : Rat) : Rat := rndBin 53 (-1022) q

/-- IEEE binary32, round to nearest even. -/
def rnd32 (q : Rat) : Rat := rndBin 24 (-126) q

/-- Working precision of the elementary functions, in fraction bits. Log 9. -/
def wp : Nat := 200

/-- A rational as a fixed-point number of `wp` fraction bits. -/
def toFx (q : Rat) : Int := (q * (2 ^ wp : Nat)).floor

/-- Back to a rational. -/
def ofFx (x : Int) : Rat := (x : Rat) / (2 ^ wp : Nat)

/-- Fixed-point product. -/
def fxMul (a b : Int) : Int := a * b / 2 ^ wp

/-- Sum of x^k / k! terms: `t` is the running term, `k` its index. -/
def expSeries (x : Int) : Nat → Int → Nat → Int
  | 0, _, _ => 0
  | n + 1, t, k => t + expSeries x n (fxMul t x / (Int.ofNat (k + 1))) (k + 1)

/-- Sum of z^(2k+1)/(2k+1) terms with sign `s` alternating when `alt`. -/
def oddSeries (z2 : Int) (alt : Bool) : Nat → Int → Nat → Int
  | 0, _, _ => 0
  | n + 1, t, k => t / Int.ofNat (2 * k + 1) + oddSeries z2 alt n (if alt then -(fxMul t z2) else fxMul t z2) (k + 1)

/-- ln 2 = 2 atanh(1/3), fixed point. -/
def fxLn2 : Int := 2 * oddSeries (toFx (1 / 9)) false 70 (toFx (1 / 3)) 0

/-- arctan of 1/n, fixed point. -/
def fxAtanInv (n : Nat) : Int := oddSeries (toFx (1 / (n * n : Nat))) true 90 (toFx (1 / (n : Rat))) 0

/-- π = 16 atan(1/5) − 4 atan(1/239), fixed point. -/
def fxPi : Int := 16 * fxAtanInv 5 - 4 * fxAtanInv 239

/-- π to the working precision. -/
def piQ : Rat := ofFx fxPi

/-- e^q. -/
def expQ (q : Rat) : Rat :=
  let x := toFx q
  let n := x / fxLn2
  let r := x - n * fxLn2
  ofFx (expSeries r 60 (2 ^ wp) 0) * pow2 n

/-- ln q for q above 0. -/
def lnQ (q : Rat) : Rat :=
  let e := ilog2 q
  let m := q / pow2 e
  let z := (m - 1) / (m + 1)
  let fz := toFx z
  ofFx (2 * oddSeries (fxMul fz fz) false 70 fz 0) + (e : Rat) * ofFx fxLn2

/-- b^x for b above 0. Log 9. -/
def powQ (b x : Rat) : Rat := expQ (x * lnQ b)

/-- 10^x. -/
def pow10Q (x : Rat) : Rat := powQ 10 x

/-- log10 q. -/
def log10Q (q : Rat) : Rat := lnQ q / lnQ 10

/-- Square root of a non-negative rational. Log 9. -/
def sqrtQ (q : Rat) : Rat :=
  if q ≤ 0 then 0 else
    let n := (q * (2 ^ (2 * wp) : Nat)).floor.toNat
    (Nat.sqrt n : Rat) / (2 ^ wp : Nat)

/-- Alternating series of sine or cosine: term `t`, next divisors `k+1`, `k+2`. -/
def trigSeries (x2 : Int) : Nat → Int → Nat → Int
  | 0, _, _ => 0
  | n + 1, t, k => t + trigSeries x2 n (-(fxMul t x2 / Int.ofNat ((k + 1) * (k + 2)))) (k + 2)

/-- Reduce an angle into [−π, π]. -/
def reduceAngle (x : Int) : Int := x - ((x + fxPi) / (2 * fxPi)) * (2 * fxPi)

/-- sin q. Log 9. -/
def sinQ (q : Rat) : Rat :=
  let x := reduceAngle (toFx q)
  ofFx (trigSeries (fxMul x x) 45 x 1)

/-- cos q. -/
def cosQ (q : Rat) : Rat :=
  let x := reduceAngle (toFx q)
  ofFx (trigSeries (fxMul x x) 45 (2 ^ wp) 0)

/-- arctan q: three halvings of the argument, then the series. -/
def atanQ (q : Rat) : Rat :=
  let half (t : Rat) : Rat := t / (1 + sqrtQ (1 + t * t))
  let inv := decide (1 < (if q < 0 then -q else q))
  let t := if inv then 1 / q else q
  let h := half (half (half t))
  let fh := toFx h
  let a := 8 * ofFx (oddSeries (fxMul fh fh) true 45 fh 0)
  if inv then (if q < 0 then -piQ / 2 - a else piQ / 2 - a) else a

/-- acos q for q in [−1, 1]. Log 9. -/
def acosQ (q : Rat) : Rat :=
  if q ≤ -1 then piQ else if 1 ≤ q then 0 else
    piQ / 2 - atanQ (q / sqrtQ (1 - q * q))

/-- The angle of the vector (x, y), in (−π, π]. -/
def atan2Q (y x : Rat) : Rat :=
  if 0 < x then atanQ (y / x)
  else if x < 0 then (if y < 0 then atanQ (y / x) - piQ else atanQ (y / x) + piQ)
  else if 0 < y then piQ / 2 else if y < 0 then -piQ / 2 else 0

/-- Absolute value of a rational. -/
def absQ (q : Rat) : Rat := if q < 0 then -q else q

end Sys2Proof.Machine
end

