-- ==== Sys2Proof/Machine/Asp.lean ====
section
/-! DEFINITION. Audio serial ports: configuration, acquisition, frames, losses (R384 to R402). -/
namespace Sys2Proof.Machine

def Mach.aspSt (s : Mach) (n : Nat) : AspSt := mget AspSt.init s.asp n
def Mach.onAsp (s : Mach) (n : Nat) (f : AspSt → AspSt) : Mach := { s with asp := mmod AspSt.init s.asp n f }

/-- Frame rate of a CFG.RATE code, Hz; 0 for AUTO. -/
def rateHz (c : Nat) : Nat := [0, 44100, 48000, 88200, 96000, 176400, 192000].getD c 0

/-- Bits of a WIDTH or WORD code. -/
def bitsOf (c : Nat) : Nat := [16, 24, 32].getD c 32

/-- Live configuration fields of port n. -/
def Mach.aspSlots (s : Mach) (n : Nat) : Nat := s.glv F.ASP_CFG_SLOTS n
def Mach.aspMaster (s : Mach) (n : Nat) : Bool := s.glv F.ASP_CFG_ROLE n != 0
def Mach.aspOut (s : Mach) (n : Nat) : Bool := s.glv F.ASP_CFG_DIR n != 0
def Mach.aspState (s : Mach) (n : Nat) : Nat := s.gf F.ASP_STAT_STATE n
def Mach.aspRun (s : Mach) (n : Nat) : Bool := s.aspState n == 2

/-- Set STATE and the LOSS bit that follows it (R392). -/
def Mach.aspSet (s : Mach) (n st : Nat) : Mach :=
  (s.sf F.ASP_STAT_STATE st n).sf F.ASP_STAT_LOSS (b2n (s.on F.ASP_STAT_EN n && st != 2)) n

/-- Channel weight in half-channels of a configuration word (R350, R390). -/
def aspWeight (cfg : Nat) : Nat :=
  let slots := bits cfg 4 6
  match bits cfg 16 3 with
  | 1 => slots
  | 2 => slots
  | 3 => 2 * slots
  | 4 => 2 * slots
  | _ => 4 * slots

/-- Enabled weight, leaving port `but` out. -/
def Mach.aspLoad (s : Mach) (but : Nat := 64) : Nat :=
  (upto 64).foldl (fun a n => if n != but && s.on F.ASP_CTRL_EN n then a + aspWeight (s.lv R.ASP_CFG n) else a) 0

def Mach.aspReload (s : Mach) : Mach := s.sf F.ASP_LOAD_HALF s.aspLoad

/-- Bank reference in Hz for master ports, and its family (0: 48 kHz, 1: 44.1 kHz). -/
def Mach.bankRef (s : Mach) (b : Nat) : Nat × Nat :=
  match s.gf F.ASP_BANK_CFG_SRC b with
  | 0 => (0, 0)
  | 1 => (49152000, 0)
  | 2 => (45158400, 1)
  | _ =>
    let fam := s.gf F.ASP_BANK_STAT_FAMILY b
    (128 * 2 ^ s.gf F.ASP_BANK_CFG_RATIO b * (if fam = 0 then 48000 else 44100), fam)

/-- Is a rate of the 44.1 kHz family? -/
def rateFam (c : Nat) : Nat := if c = 1 || c = 3 || c = 5 then 1 else 0

/-- Why a configuration is refused (R389): 0 accepted, 1 a parameter, 2 no bank reference, 3 channel limit, 4 bit clock.
Log 86, 120. -/
def Mach.aspRefuse (s : Mach) (n cfg : Nat) (enabled : Bool) : Nat :=
  let fmt := bits cfg 0 2
  let slots := bits cfg 4 6
  let width := bits cfg 10 2
  let word := bits cfg 12 2
  let rate := bits cfg 16 3
  let master := bitOf cfg 3
  let b := n / 8
  let (ref, fam) := s.bankRef b
  let fb := rateHz rate * slots * bitsOf width
  if slots < 2 || 32 < slots || width = 3 || word = 3 || rate = 7 then 1
  else if (fmt != 3 && slots != 2) || (fmt != 3 && bitOf cfg 22) || width < word then 1
  else if rate = 0 && (master || bitOf cfg 2) then 1
  else if master && s.gf F.ASP_BANK_CFG_SRC b = 0 then 2
  else if master && s.gf F.ASP_BANK_CFG_SRC b != 3 && (rateFam rate != fam || fb = 0 || ref % fb != 0) then 1
  else if master && s.gf F.ASP_BANK_CFG_SRC b = 3 && (fb = 0 || (128 * 2 ^ s.gf F.ASP_BANK_CFG_RATIO b *
      (if rateFam rate = 0 then 48000 else 44100)) % fb != 0) then 1
  else if (if s.on F.ASP_BANK_STAT_VIO33 b then 24576000 else 49152000) < fb then 4
  else if enabled && 2048 < s.aspLoad n + aspWeight cfg then 3
  else 0

/-- Port n no longer runs: no rate is in force, and its converters lose lock (R61, R196, R396). Log 156. -/
def Mach.aspQuit (s : Mach) (n : Nat) : Mach :=
  ((s.sf F.ASP_STAT_SYNC 0 n).sf F.ASP_STAT_RATE 0 n).onAsp n
    (fun a => { a with hist := [], badRate := 0, phaseRun := 0, slipped := false, glitched := true })

/-- Start of acquisition with a cause that is no loss (R397): CONFIG 6, GRID 7. -/
def Mach.aspReacquire (s : Mach) (n cause : Nat) : Mach :=
  if !s.on F.ASP_STAT_EN n then s else ((s.sf F.ASP_STAT_CAUSE cause n).aspSet n 1).aspQuit n

/-- Put a configuration in force (R389); outside RUN an enabled port acquires anew also where it changes nothing (R400). -/
def Mach.aspApply (s : Mach) (n cfg : Nat) : Mach :=
  let changed := s.lv R.ASP_CFG n != cfg
  let s := s.setLv R.ASP_CFG cfg n
  let s := (s.sf F.ASP_STAT_MASTER (bits cfg 3 1) n).sf F.ASP_TERM_FRAMES (if bitOf cfg 3 then 717 else s.gf F.ASP_TERM_FRAMES n) n
  let keep := 2 ^ bits cfg 4 6 - 1
  let s := s.wr R.ASP_MASK_LIVE (s.rd R.ASP_MASK_LIVE n &&& keep) n
  let s := s.wr R.ASP_MASK (s.rd R.ASP_MASK n &&& keep) n
  let s := if changed || !s.aspRun n then s.aspReacquire n 6 else s
  s.aspReload

/-- ASP_COMMIT. -/
def aspCommit (n v : Nat) (s : Mach) : Mach :=
  if 64 ≤ n || !bitOf v 0 then s
  else if s.aspRefuse n (s.rd R.ASP_CFG n) (s.on F.ASP_CTRL_EN n) = 0 then s.aspApply n (s.rd R.ASP_CFG n)
  else s.evt F.ASP_EVT_REFUSED n

/-- Does the power state hold the ports as if EN were 0 (R526)? -/
def Mach.portsHeld (s : Mach) : Bool := decide (2 ≤ s.power)

/-- Make STAT.EN and STATE follow CTRL.EN and the power state. -/
def Mach.aspEnable (s : Mach) (n : Nat) : Mach :=
  let want := s.on F.ASP_CTRL_EN n && !s.portsHeld
  let have_ := s.on F.ASP_STAT_EN n
  if want == have_ then s
  else if want then (s.sf F.ASP_STAT_EN 1 n).aspSet n 1
  else (((s.sf F.ASP_STAT_EN 0 n).aspSet n 0).sf F.ASP_STAT_WRONG_RATE 0 n).aspQuit n

/-- Write CTRL of port n (R390): answers whether it was accepted. -/
def Mach.aspCtrl (s : Mach) (n v : Nat) : Bool × Mach :=
  if bitOf v 0 && !s.on F.ASP_CTRL_EN n && 2048 < s.aspLoad n + aspWeight (s.lv R.ASP_CFG n) then (false, s)
  else (true, ((s.wr R.ASP_CTRL (v % 8) n).aspEnable n).aspReload)

/-- ASP_CTRL_WRITE. -/
def aspCtrlWrite (n v : Nat) (s : Mach) : Mach :=
  if 64 ≤ n then s else
  match s.aspCtrl n v with
  | (true, t) => t
  | (false, _) => s.evt F.ASP_EVT_REFUSED n

/-- Stage a mask: `late` when it reaches a running port less than 2 bit periods before the next frame start edge (R391). -/
def Mach.aspMask (s : Mach) (n v : Nat) (late : Bool) : Mach :=
  ((s.wr R.ASP_MASK v n).sf F.ASP_STAT_MASKPEND 1 n).onAsp n (fun a => { a with maskWait := some (b2n (late && s.aspRun n)) })

/-- ASP_MASK_WRITE. -/
def aspMaskWrite (n v : Nat) (late : Bool) (s : Mach) : Mach :=
  if 64 ≤ n then s
  else if 2 ^ s.aspSlots n ≤ v % 2 ^ 32 then s.evt F.ASP_EVT_REFUSED n
  else s.aspMask n (v % 2 ^ 32) late

/-- A frame start edge in RUN: a waiting mask applies (R391). -/
def Mach.aspEdge (s : Mach) (n : Nat) : Mach :=
  match (s.aspSt n).maskWait with
  | none => s
  | some 0 =>
    (((s.wr R.ASP_MASK_LIVE (s.rd R.ASP_MASK n) n).sf F.ASP_STAT_MASKPEND 0 n)).onAsp n (fun a => { a with maskWait := none })
  | some (k + 1) => s.onAsp n (fun a => { a with maskWait := some k })

/-- Declare a loss in RUN (R397); `present` when the clock is there, so the port acquires at once (R392). -/
def Mach.aspLoss (s : Mach) (n cause : Nat) (present : Bool) : Mach :=
  if !s.aspRun n then s else
    let s := ((s.sf F.ASP_STAT_CAUSE cause n).aspSet n (if present then 1 else 3)).aspQuit n
    ((s.evt F.ASP_EVT_LOSS n).bump R.ASP_LOSSES n).raise E.ASP_LOSS n cause

/-- Is a frame period (ps) within ±0.5 % of a rate? -/
def periodOk (ps hz : Nat) : Bool :=
  hz != 0 && decide (199 * 1000000000000 ≤ 200 * ps * hz) && decide (200 * ps * hz ≤ 201 * 1000000000000)

/-- Enter RUN at rate code c (R393): a staged mask applies at this edge (R391). The frames that end before the next collection are still absent (R23). -/
def Mach.aspEnter (s : Mach) (n c : Nat) : Mach :=
  let s := ((s.sf F.ASP_STAT_RATE c n).sf F.ASP_STAT_WRONG_RATE 0 n).aspSet n 2
  let s := (s.evt F.ASP_EVT_ACQ n).sf F.ASP_STAT_FILL 2 n
  let s := s.onAsp n (fun a => { a with hist := [], badRate := 0, rates := [], exc := false, phaseRun := 0, slipped := false,
                                        coll := a.coll ++ List.replicate 32 none, glitched := true,
                                        maskWait := a.maskWait.map (fun _ => 0) })
  let s := s.aspEdge n
  if s.aspMaster n && s.gf F.ASP_BANK_CFG_SRC (n / 8) < 3 then s.sf F.ASP_STAT_SYNC 1 n else s

def Mach.aspWrong (s : Mach) (n : Nat) : Mach :=
  if s.on F.ASP_STAT_WRONG_RATE n then s else (s.sf F.ASP_STAT_WRONG_RATE 1 n).evt F.ASP_EVT_WRONG_RATE n

/-- A frame ends while the port acquires (R393). -/
def Mach.aspAcquire (s : Mach) (n bitCount ps : Nat) : Mach :=
  let rate := s.glv F.ASP_CFG_RATE n
  if s.aspMaster n then
    let (_, fam) := s.bankRef (n / 8)
    if !s.on F.ASP_BANK_STAT_PRESENT (n / 8) then s
    else if rateFam rate != fam then s.aspWrong n
    else s.aspEnter n rate
  else if bitCount != s.aspSlots n * bitsOf (s.glv F.ASP_CFG_WIDTH n) then s
  else if rate = 0 then
    match [1, 2, 3, 4, 5, 6].find? (fun c => periodOk ps (rateHz c)) with
    | some c => s.aspEnter n c
    | none => s.aspWrong n
  else if periodOk ps (rateHz rate) then s.aspEnter n rate
  else s.aspWrong n

/-- Synchronism of a slave port (R59) and its port term (R46) after a frame with start phase `ph` (1/1,024 sample): from the edge
to a grid instant for an input, from a grid instant to the edge for an output, 0.7 to 1.7 frames. Log 119. -/
def Mach.aspPhase (s : Mach) (n : Nat) (ph : Int) : Mach :=
  let s := s.wr R.ASP_PHASE (toU 32 ph) n
  if s.aspMaster n then s else
    let ok := decide (-1024 ≤ 10 * ph) && decide (10 * ph ≤ 1024)
    let run := if ok then (s.aspSt n).phaseRun + 1 else 0
    let s := s.onAsp n (fun a => { a with phaseRun := run })
    let s := s.sf F.ASP_STAT_SYNC (b2n (decide (64 ≤ run))) n
    let hz := rateHz (s.gf F.ASP_STAT_RATE n)
    let f : Int := (ph * hz) / 96000
    s.sf F.ASP_TERM_FRAMES (717 + (((if s.aspOut n then f else -f) - 717) % 1024).toNat) n

/-- The internal word of a slot of a frame: WORD data bits, placed as FORMAT gives (R387, R52). -/
def aspWord (cfg raw : Nat) : Int :=
  let width := bitsOf (bits cfg 10 2)
  let word := bitsOf (bits cfg 12 2)
  let v := if bits cfg 0 2 = 2 then raw % 2 ^ word else (raw % 2 ^ width) >>> (width - word)
  match word with
  | 16 => sext 16 v * 2 ^ 9
  | 24 => sext 24 v * 2
  | _ => rhu 7 (sext 32 v)

/-- The internal word of a looped output word of WORD code c. -/
def loopWord (c : Nat) (v : Int) : Int := match c with
  | 0 => v * 2 ^ 9
  | 1 => v * 2
  | _ => rhu 7 v

/-- Words of a frame at an input port: those on its pins, or, looped back, those its source port sends (R365). Log 90. -/
def Mach.aspIn (s : Mach) (n : Nat) (slots : List Nat) : List Int :=
  match s.sys.loops.find? (fun l => l.1 == 0 && l.2.2 == n) with
  | some l =>
    let j := (s.aspSt n).coll.length
    (upto (s.aspSlots n)).map (fun k =>
      loopWord (s.glv F.ASP_CFG_WORD n) ((mget s.rend.sinkRest s.rend.sinks (32 * l.2.1 + k)).out.getD j 0))
  | none => slots.map (aspWord (s.lv R.ASP_CFG n))

/-- An input port keeps a frame for the next collection; one that it drops delivers zeros (R398, R399). -/
def Mach.aspKeep (s : Mach) (n : Nat) (slots : List Nat) (glitch slip : Bool) : Mach :=
  if s.aspOut n then s else
    let ws := if glitch || slip then [] else s.aspIn n slots
    s.onAsp n (fun a => { a with coll := a.coll ++ [some ⟨ws, s.on F.ASP_STAT_SYNC n, s.rd R.ASP_MASK_LIVE n % 2 ^ s.aspSlots n, glitch⟩] })

/-- A frame ends in RUN (R391, R396, R398, R399): rate change, then glitch, then slip, then the frame itself. `held` is
the number of frames the buffer holds at that edge. -/
def Mach.aspRunFrame (s : Mach) (n bitCount ps : Nat) (slots : List Nat) (ph : Int) (held : Nat) : Mach :=
  let a := s.aspSt n
  let hz := rateHz (s.gf F.ASP_STAT_RATE n)
  let bad := if periodOk ps hz then 0 else a.badRate + 1
  let glitch := !s.aspMaster n && bitCount != s.aspSlots n * bitsOf (s.glv F.ASP_CFG_WIDTH n)
  let hist := (glitch :: a.hist).take 64
  let slip := if s.aspOut n then held == 0 else decide (4 ≤ held)
  if 2 ≤ bad then s.aspLoss n 3 true
  else if 8 ≤ (hist.filter id).length then s.aspLoss n 4 true
  else
    let s := s.onAsp n (fun a => { a with badRate := bad, hist := hist })
    let s := if glitch then
        ((s.bump R.ASP_GLITCH n).evt F.ASP_EVT_GLITCH n).onAsp n (fun a => { a with glitched := true })
      else if slip then
        (((s.bump R.ASP_SLIP n).evt F.ASP_EVT_SLIP n).sf F.ASP_STAT_FILL (Nat.min 4 held) n).onAsp n (fun a => { a with slipped := true })
      else
        let fill := if a.slipped then 2 else held
        (s.sf F.ASP_STAT_FILL (Nat.min 4 fill) n).onAsp n
          (fun a => { a with slipped := false })
    ((s.aspPhase n ph).aspKeep n slots glitch slip).aspEdge n

/-- ASP_FRAME: port n completes a frame of `bitCount` bits and `ps` picoseconds, with its slot words, its start phase
against the grid, and the frames then held in its buffer. -/
def aspFrame (n bitCount ps : Nat) (slots : List Nat) (ph : Int) (held : Nat) (s : Mach) : Mach :=
  if 64 ≤ n then s else
  match s.aspState n with
  | 1 => s.aspAcquire n bitCount ps
  | 2 => s.aspRunFrame n bitCount ps slots ph held
  | _ => s

/-- ASP_CLOCK_TIMEOUT: cause 1 BCLK, 2 FS, 5 BANK (of the bank that holds port n, on an SRC 3 bank). -/
def aspClockTimeout (n cause : Nat) (s : Mach) : Mach :=
  if 64 ≤ n then s
  else if cause = 5 then
    if s.gf F.ASP_BANK_CFG_SRC (n / 8) != 3 then s else
    let s := s.sf F.ASP_BANK_STAT_PRESENT 0 (n / 8)
    s.each (upto 8) (fun s k =>
      let p := 8 * (n / 8) + k
      if s.aspMaster p then s.aspLoss p 5 false else s)
  else if cause = 1 then
    if s.aspMaster n || s.on F.ASP_CTRL_BCW n then s.aspLoss n 1 false else s
  else if cause = 2 && !s.aspMaster n then s.aspLoss n 2 false
  else s

/-- ASP_CLOCK_RETURN. -/
def aspClockReturn (n : Nat) (s : Mach) : Mach :=
  if 64 ≤ n then s else if s.aspState n = 3 then s.aspSet n 1 else s

/-- The rate of port n after 64 frames that took `count` cycles of 100 MHz (R394, R395). -/
def Mach.aspMeasure (s : Mach) (n count : Nat) : Mach :=
    let mhz := 6400000000000 / count
    let a := s.aspSt n
    let first := a.rates.isEmpty
    let rates := (mhz :: a.rates).take 4
    let sum : Nat := rates.foldl (fun x y => x + y) 0
    let tight := rates.length == 4 && rates.all (fun r =>
      let d : Int := 4 * (r : Int) - sum
      decide (d.natAbs * 1000000 ≤ 50 * sum))
    let s := s.wr R.ASP_RATE mhz n
    let s := if first then s.wr R.ASP_STABLE mhz n else if tight then s.wr R.ASP_STABLE (sum / 4) n else s
    let st := s.rd R.ASP_STABLE n
    let off := decide (st < 1000 * ((mhz : Int) - st).natAbs)
    let s := if off && !a.exc then (s.evt F.ASP_EVT_RATE_MOVE n).raise E.RATE_MOVE n mhz else s
    s.onAsp n (fun a => { a with rates := rates, exc := off })

/-- ASP_MCLK_MEASURE: pin frequency of an SRC 3 bank (R385). -/
def aspMclkMeasure (b hz : Nat) (s : Mach) : Mach :=
  if 8 ≤ b || s.gf F.ASP_BANK_CFG_SRC b != 3 then s else
    let k := 128 * 2 ^ s.gf F.ASP_BANK_CFG_RATIO b
    let near : Nat → Bool := fun f => decide (199 * k * f ≤ 200 * hz) && decide (200 * hz ≤ 201 * k * f)
    let fam := if near 48000 then some 0 else if near 44100 then some 1 else none
    let s := s.sf F.ASP_BANK_STAT_FREQ hz b
    match fam with
    | some f => (s.sf F.ASP_BANK_STAT_FAMILY f b).sf F.ASP_BANK_STAT_PRESENT 1 b
    | none => s.sf F.ASP_BANK_STAT_PRESENT 0 b

/-- Change a bank's reference (R385, R400). -/
def Mach.aspBank (s : Mach) (b v : Nat) : Mach :=
  let same := s.rd R.ASP_BANK_CFG b == v % 16
  let s := s.wr R.ASP_BANK_CFG (v % 16) b
  if same then s else
    let src := bits v 0 2
    let s := s.sf F.ASP_BANK_STAT_PRESENT (b2n (src == 1 || src == 2)) b
    let s := s.sf F.ASP_BANK_STAT_FREQ 0 b
    s.each (upto 8) (fun s k =>
      let p := 8 * b + k
      if s.aspMaster p then s.aspReacquire p 6 else s)

/-- ASP_BANK_CFG_WRITE. -/
def aspBankCfgWrite (b v : Nat) (s : Mach) : Mach := if 8 ≤ b || bits v 2 2 = 3 then s else s.aspBank b v

/-- Zero the three counts of a port. -/
def Mach.aspClear (s : Mach) (n : Nat) : Mach := ((s.wr R.ASP_SLIP 0 n).wr R.ASP_GLITCH 0 n).wr R.ASP_LOSSES 0 n

/-- ASP_CNT_CLR. -/
def aspCntClr (n v : Nat) (s : Mach) : Mach := if 64 ≤ n || !bitOf v 0 then s else s.aspClear n

/-- After a grid step every master port on an SRC 1 or 2 bank re-acquires with CAUSE GRID (R400). -/
def Mach.aspGridStep (s : Mach) : Mach :=
  s.each (upto 64) (fun s n =>
    let src := s.gf F.ASP_BANK_CFG_SRC (n / 8)
    if s.aspMaster n && (src = 1 || src = 2) && s.aspRun n then s.aspReacquire n 7
    else if s.on F.ASP_STAT_EN n && !s.aspMaster n then (s.sf F.ASP_STAT_SYNC 0 n).onAsp n (fun a => { a with phaseRun := 0 })
    else s)

/-- A bank's supply falls below 1.50 V or returns (R533). -/
def ioaspBrownOut (b : Nat) (bad : Bool) (s : Mach) : Mach :=
  if 8 ≤ b then s else
    s.each (upto 8) (fun s k =>
      let p := 8 * b + k
      if bad then s.aspLoss p 5 false else if s.aspState p = 3 then s.aspSet p 1 else s)

/-! ## Samples of an input slot (R22, R52, R388) -/

/-- Samples an input slot delivered since the last collection; none where absent. `direct`: no converter lies behind it,
so it delivers nothing outside SYNC (R60). -/
def Mach.aspSamples (s : Mach) (addr : Nat) (direct : Bool) : List (Option Int) :=
  let k := addr % 32
  (s.aspSt (addr / 32)).coll.map (fun f => match f with
    | some x => if bitOf x.mask k && (x.sync || !direct) then some (x.words.getD k 0) else none
    | none => none)

/-- Frames that port n delivered before its converters lost lock: up to a gap, or up to the edge that ends a glitch (R61,
R398). -/
def Mach.aspHeld (s : Mach) (n : Nat) : Nat :=
  let l := (s.aspSt n).coll
  Nat.min ((findPos (fun f => f.isNone) l).getD l.length)
    ((findPos (fun (f : Option AspFrame) => match f with | some x => x.glitch | none => false) l).elim l.length (· + 1))

/-! ## The data pin of an output port (R387, R391, R392) -/

/-- The bits that slot k of an output port drives in its frame j of the tick, as a word of WIDTH bits: the data bits first, or last
with FORMAT 2, the others 0. None: the pin is at high impedance. -/
def Mach.aspDrive (s : Mach) (n k j : Nat) : Option Nat :=
  let cfg := s.lv R.ASP_CFG n
  let width := bitsOf (bits cfg 10 2)
  let word := bitsOf (bits cfg 12 2)
  if s.aspRun n && decide (k < s.aspSlots n) && bitOf (s.rd R.ASP_MASK_LIVE n) k then
    let v := toU word ((mget s.rend.sinkRest s.rend.sinks (32 * n + k)).out.getD j 0)
    some (if bits cfg 0 2 = 2 then v else v * 2 ^ (width - word))
  else if s.on F.ASP_CTRL_TRI n then none
  else some 0

end Sys2Proof.Machine
end

