-- ==== Sys2Proof/Machine/Cmd.lean ====
section
/-! DEFINITION. The command protocol: packets, sessions, flows, threads, replies and transports (R260 to R288, R367 to R382). -/
namespace Sys2Proof.Machine

/-- What the command reference says of an opcode: REPLY_ALWAYS, SERIAL, a timing block, its classes as a mask
(1 IMMEDIATE, 2 NEXT_TICK, 4 SCENE, 8 AT_TIME). -/
structure OpInfo where
  ra : Bool
  ser : Bool
  timing : Bool
  classes : Nat

/-- Opcodes with their flags (R298 to R366), part 1. -/
def opTable1 : List (Nat × OpInfo) := [
  (0x0201, ⟨false, false, true, 10⟩),
  (0x0202, ⟨true, true, false, 1⟩),
  (0x0203, ⟨false, false, false, 1⟩),
  (0x0204, ⟨true, true, false, 1⟩),
  (0x0205, ⟨true, true, false, 1⟩),
  (0x0206, ⟨false, true, false, 1⟩),
  (0x0207, ⟨true, false, false, 1⟩),
  (0x0208, ⟨false, true, false, 1⟩),
  (0x0209, ⟨true, false, false, 1⟩),
  (0x0301, ⟨false, false, true, 14⟩),
  (0x0302, ⟨false, false, true, 14⟩),
  (0x0303, ⟨true, false, false, 1⟩),
  (0x0304, ⟨true, false, false, 1⟩),
  (0x0401, ⟨true, false, false, 4⟩),
  (0x0402, ⟨false, false, false, 4⟩),
  (0x0403, ⟨false, false, true, 14⟩),
  (0x0404, ⟨false, false, false, 1⟩),
  (0x0405, ⟨false, false, false, 1⟩),
  (0x0406, ⟨true, false, false, 1⟩),
  (0x0407, ⟨true, false, false, 1⟩),
  (0x0408, ⟨false, false, false, 1⟩),
  (0x0501, ⟨false, false, false, 1⟩),
  (0x0502, ⟨true, false, false, 1⟩),
  (0x0503, ⟨false, false, true, 10⟩),
  (0x0504, ⟨true, false, false, 1⟩),
  (0x0601, ⟨false, false, true, 14⟩),
  (0x0602, ⟨false, false, true, 14⟩),
  (0x0603, ⟨false, false, true, 14⟩),
  (0x0604, ⟨false, false, true, 14⟩),
  (0x0605, ⟨false, false, true, 14⟩),
  (0x0606, ⟨false, false, true, 14⟩),
  (0x0607, ⟨true, false, false, 1⟩),
  (0x0608, ⟨true, false, false, 1⟩),
  (0x0701, ⟨true, true, false, 1⟩),
  (0x0702, ⟨true, true, false, 1⟩),
  (0x0703, ⟨false, false, true, 14⟩),
  (0x0704, ⟨false, false, false, 1⟩),
  (0x0705, ⟨true, false, false, 1⟩),
  (0x0706, ⟨false, false, false, 1⟩),
  (0x0707, ⟨false, true, false, 1⟩),
  (0x0801, ⟨false, false, true, 14⟩),
  (0x0802, ⟨false, false, true, 14⟩),
  (0x0803, ⟨false, false, true, 14⟩),
  (0x0804, ⟨false, false, true, 10⟩),
  (0x0805, ⟨false, false, false, 1⟩),
  (0x0806, ⟨true, false, false, 1⟩),
  (0x0101, ⟨true, false, false, 1⟩),
  (0x0102, ⟨false, false, false, 1⟩),
  (0x0103, ⟨true, false, false, 1⟩),
  (0x0104, ⟨false, false, false, 1⟩),
  (0x0105, ⟨true, false, false, 1⟩),
  (0x0106, ⟨true, false, false, 1⟩),
  (0x0107, ⟨false, true, false, 1⟩),
  (0x0108, ⟨false, true, false, 1⟩)]

/-- Opcodes with their flags (R298 to R366), part 2. -/
def opTable2 : List (Nat × OpInfo) := [
  (0x0109, ⟨true, false, false, 1⟩),
  (0x010A, ⟨true, false, false, 1⟩),
  (0x010B, ⟨true, false, false, 1⟩),
  (0x010C, ⟨true, false, false, 1⟩),
  (0x010D, ⟨true, false, false, 1⟩),
  (0x010E, ⟨true, true, false, 1⟩),
  (0x0901, ⟨false, true, false, 1⟩),
  (0x0902, ⟨false, false, false, 1⟩),
  (0x0903, ⟨false, false, false, 1⟩),
  (0x0904, ⟨false, true, false, 1⟩),
  (0x0905, ⟨true, false, false, 1⟩),
  (0x0A01, ⟨false, true, false, 1⟩),
  (0x0A02, ⟨false, false, false, 1⟩),
  (0x0A03, ⟨false, false, false, 1⟩),
  (0x0A04, ⟨false, true, false, 1⟩),
  (0x0A05, ⟨false, true, false, 1⟩),
  (0x0A06, ⟨false, false, false, 1⟩),
  (0x0A07, ⟨true, false, false, 1⟩),
  (0x0A08, ⟨false, true, false, 1⟩),
  (0x0A09, ⟨true, false, false, 1⟩),
  (0x0A0A, ⟨true, false, false, 1⟩),
  (0x0A0B, ⟨false, false, false, 1⟩),
  (0x0A0C, ⟨true, false, false, 1⟩),
  (0x0B01, ⟨false, true, false, 1⟩),
  (0x0B02, ⟨true, false, false, 1⟩),
  (0x0B03, ⟨false, false, false, 1⟩),
  (0x0B04, ⟨false, false, false, 1⟩),
  (0x0B05, ⟨false, false, false, 1⟩),
  (0x0B06, ⟨false, false, false, 2⟩),
  (0x0B07, ⟨true, false, false, 1⟩),
  (0x0B08, ⟨false, false, false, 1⟩),
  (0x0B09, ⟨true, false, false, 1⟩),
  (0x0B0A, ⟨false, false, false, 1⟩),
  (0x0C01, ⟨false, false, true, 10⟩),
  (0x0C02, ⟨false, false, false, 1⟩),
  (0x0C03, ⟨true, false, false, 1⟩),
  (0x0C04, ⟨false, false, true, 10⟩),
  (0x0D01, ⟨true, false, false, 1⟩),
  (0x0D02, ⟨true, true, false, 1⟩),
  (0x0D03, ⟨false, false, false, 1⟩),
  (0x0D04, ⟨false, false, false, 1⟩),
  (0x0D05, ⟨true, false, false, 1⟩),
  (0x0D06, ⟨true, false, false, 1⟩),
  (0x0E01, ⟨true, false, false, 1⟩),
  (0x0E02, ⟨false, false, false, 1⟩),
  (0x0E03, ⟨true, true, false, 1⟩),
  (0x0E04, ⟨true, false, false, 1⟩),
  (0x0E05, ⟨false, true, false, 1⟩),
  (0x0E11, ⟨false, true, false, 1⟩),
  (0x0E12, ⟨false, false, false, 1⟩),
  (0x0E13, ⟨true, false, false, 1⟩),
  (0x0F01, ⟨false, false, true, 11⟩),
  (0x0F02, ⟨true, false, false, 1⟩),
  (0x1F01, ⟨true, false, false, 1⟩),
  (0x1F02, ⟨false, true, false, 1⟩),
  (0x1F03, ⟨true, false, false, 1⟩),
  (0x1F04, ⟨true, true, false, 1⟩),
  (0x1F05, ⟨false, false, false, 1⟩),
  (0x1F06, ⟨false, false, false, 1⟩)]

def opInfo (op : Nat) : Option OpInfo := mfind (opTable1 ++ opTable2) op

/-! ## CRC-32C (R261) -/

def crcBit (c : Nat) : Nat := if c % 2 = 1 then (c / 2) ^^^ 0x82F63B78 else c / 2
def crcByte (c : Nat) (b : Byte) : Nat :=
  let x := c ^^^ b.toNat
  crcBit (crcBit (crcBit (crcBit (crcBit (crcBit (crcBit (crcBit x)))))))
/-- CRC-32C of a byte string. -/
def crc32c (l : List Byte) : Nat := (l.foldl crcByte 0xFFFFFFFF) ^^^ 0xFFFFFFFF

/-! ## Status codes (R266) -/

namespace ST
def OK : Nat := 0x0000
def ACCEPTED : Nat := 0x0001
def BAD_OPCODE : Nat := 0x0100
def BAD_LENGTH : Nat := 0x0101
def BAD_CRC : Nat := 0x0102
def BAD_PARAM : Nat := 0x0103
def OUT_OF_RANGE : Nat := 0x0104
def BUSY : Nat := 0x0200
def QUEUE_FULL : Nat := 0x0201
def WRONG_PLACEMENT : Nat := 0x0300
def NOT_READY : Nat := 0x0400
def STATE : Nat := 0x0401
def HW_FAULT : Nat := 0x0500
def TIMEOUT : Nat := 0x0501
end ST

/-- Result of a command at its release: status, detail, reply data, and whether an effect has a tick to report. `later`
holds the reply until the command's work ends. -/
structure Res where
  st : Nat
  det : Nat
  data : List Byte
  /-- the reply waits for the next token (NEXT_TICK) -/
  tick : Bool
  later : Bool
  deriving DecidableEq, Repr

def Res.ok (data : List Byte := []) : Res := ⟨ST.OK, 0, data, false, false⟩
def Res.fail (st det : Nat) (data : List Byte := []) : Res := ⟨st, det, data, false, false⟩
def Res.accepted (data : List Byte := []) : Res := ⟨ST.ACCEPTED, 0, data, false, false⟩
def Res.nextTick (det : Nat := 0) : Res := ⟨ST.OK, det, [], true, false⟩
def Res.wait : Res := ⟨ST.OK, 0, [], false, true⟩

/-! ## Packets (R260, R263, R265) -/

/-- Round a length up to a multiple of 4. -/
def pad4 (l : List Byte) : List Byte := l ++ List.replicate ((4 - l.length % 4) % 4) 0

def noTick : Nat := 0xFFFFFFFFFFFFFFFF

/-- One reply packet. -/
def replyPkt (sess flow seq op tag : Nat) (last : Bool) (st det tick : Nat) (data : List Byte) : List Byte :=
  let body := toLE 2 0x5643 ++ toLE 1 1 ++ toLE 1 (1 + 4 * b2n last) ++ toLE 2 (32 + data.length) ++ toLE 1 sess
    ++ toLE 1 flow ++ toLE 2 seq ++ toLE 2 op ++ toLE 4 tag ++ toLE 2 st ++ toLE 2 det ++ toLE 8 tick ++ data
  body ++ toLE 4 (crc32c body)

/-- A reply, split when it is longer than MAXPKT (R265). -/
def replyPkts (maxpkt sess flow seq op tag st det tick : Nat) (data : List Byte) : List (List Byte) :=
  let data := pad4 data
  let room := (maxpkt - 32) / 4 * 4
  if data.length ≤ room then [replyPkt sess flow seq op tag true st det tick data]
  else
    let parts := chunks room (data.length / room + 1) data
    let n := parts.length
    (parts.zipIdx).map (fun (d, i) => replyPkt sess flow seq op tag (i + 1 == n) st det tick d)

/-! ## Transports (R283, R285, R287) -/

def Mach.onCmd (s : Mach) (f : CmdSt → CmdSt) : Mach := { s with cmd := f s.cmd }

def spiCap : Nat := 16384
def bytesIn (q : List (List Byte)) : Nat := q.foldl (fun a l => a + l.length) 0

/-- Hand a reply packet to its transport. Log 125. -/
def Mach.pushReply (s : Mach) (x : Xport) (pkt : List Byte) : Mach :=
  match x with
  | .pcie q => s.onCmd (fun c => if q = 0 then { c with wait0 := c.wait0 ++ [pkt] } else { c with wait1 := c.wait1 ++ [pkt] })
  | .spi => s.onCmd (fun c =>
      if c.spiWait.isEmpty && decide (bytesIn c.spiQ + pkt.length ≤ spiCap) then { c with spiQ := c.spiQ ++ [pkt] }
      else { c with spiWait := c.spiWait ++ [pkt] })
  | .udp ip port => s.onCmd (fun c => { c with udpOut := c.udpOut ++ [(ip, port, pkt)] })

def Mach.pushReplies (s : Mach) (x : Xport) (l : List (List Byte)) : Mach := s.each l (fun s p => s.pushReply x p)

/-- MAXPKT of a session; 4,096 without one. -/
def Mach.maxpkt (s : Mach) (n : Nat) : Nat := ((mfind s.cmd.sess n).map (·.maxpkt)).getD 4096

/-- Reply packets of a command. -/
def Mach.buildReply (s : Mach) (o : Origin) (op st det tick : Nat) (data : List Byte) : List (List Byte) :=
  replyPkts (s.maxpkt o.sess) o.sess o.flow o.seq op o.tag st det tick data

/-- Is the command answered (R264)? -/
def answered (o : Origin) (op st : Nat) : Bool :=
  o.ack || st != ST.OK && st != ST.ACCEPTED || ((opInfo op).map (·.ra)).getD true

/-! ## Flows and replies in order (R276, R278) -/

def Mach.flowOf (s : Mach) (sess num : Nat) : Option (Nat × Flow) :=
  s.cmd.flows.find? (fun e => e.2.sess == sess && e.2.num == num)

/-- Emit the replies whose turn has come: within an ordered flow a reply waits for every earlier one. -/
def flushGo : List Rel → List Rel → Mach → List Rel × Mach
  | [], kept, s => (kept, s)
  | r :: rest, kept, s =>
    let blocked := r.o.flow != 0 && kept.any (fun k => k.o.sess == r.o.sess && k.o.flow == r.o.flow)
    match r.reply, blocked with
    | some pkts, false =>
      let s := s.each (upto (1 + r.dups)) (fun s _ => s.pushReplies r.o.xport pkts)
      let s := s.onCmd (fun c => { c with flows := c.flows.map (fun e =>
        if e.2.sess == r.o.sess && e.2.num == r.o.flow then
          (e.1, { e.2 with past := e.2.past.map (fun (k : Outcome) => if k.id == r.o.id then { k with reply := some pkts } else k) })
        else e) })
      flushGo rest kept s
    | _, _ => flushGo rest (kept ++ [r]) s

def Mach.flush (s : Mach) : Mach :=
  let (kept, t) := flushGo s.cmd.rel [] s
  t.onCmd (fun c => { c with rel := kept })

/-- Give a released command its reply packets. -/
def Mach.answer (s : Mach) (id st det tick : Nat) (data : List Byte) : Mach :=
  (s.onCmd (fun c => { c with rel := c.rel.map (fun r =>
    if r.o.id == id && r.reply.isNone then
      { r with reply := some (if answered r.o r.op st then s.buildReply r.o r.op st det tick data else []) }
    else r) })).flush

/-! ## Threads (R369 to R378) -/

def Mach.onSch (s : Mach) (f : SchedSt → SchedSt) : Mach := { s with sch := f s.sch }
def Thread.free : Thread := ⟨0, 0, 0, 7⟩
def SchedSt.thread (c : SchedSt) (t : Nat) : Thread := mget Thread.free c.threads t
def SchedSt.v (c : SchedSt) (g : Nat) : Rat := mget 0 c.vt g
def isCmdLevel (p : Nat) : Bool := p == 24 || p == 16

/-- Command threads group g holds. -/
def Mach.heldBy (s : Mach) (g : Nat) : Nat := (s.sch.threads.filter (fun e => 32 ≤ e.1 && e.2.group == g)).length
def Mach.resvOf (s : Mach) (g : Nat) : Nat := s.gf F.SCHED_GRP_RESV_RESV g

/-- May group g take one more thread (R374)? -/
def Mach.threadRoom (s : Mach) (g : Nat) : Bool :=
  let own := decide (s.heldBy g < s.resvOf g)
  let sum := (upto 8).foldl (fun a k => a + s.resvOf k) 0
  let used := (upto 8).foldl (fun a k => a + (s.heldBy k - s.resvOf k)) 0
  own || decide (used < 224 - sum)

/-- Lowest free command thread. -/
def SchedSt.freeThread (c : SchedSt) : Option Nat := ((upto 224).map (· + 32)).find? (fun t => (mfind c.threads t).isNone)

/-- Smallest virtual time among the groups ready at level p. -/
def SchedSt.minV (c : SchedSt) (p : Nat) : Option (Rat × Nat) :=
  (c.ready.filter (fun t => (c.thread t).level == p)).foldl (fun (b : Option (Rat × Nat)) t =>
    let g := (c.thread t).group
    match b with
    | none => some (c.v g, g)
    | some (v, h) => if c.v g < v || (c.v g == v && decide (g < h)) then some (c.v g, g) else b) none

/-- A thread becomes ready at its level (R372): a group that had none there cannot bank credit. -/
def SchedSt.makeReady (c : SchedSt) (t : Nat) (th : Thread) (front : Bool) : SchedSt :=
  let had := c.ready.any (fun u => (c.thread u).level == th.level && (c.thread u).group == th.group)
  let vt := match c.minV th.level with
    | some (v, _) => if isCmdLevel th.level && !had && c.v th.group < v then mput c.vt th.group v else c.vt
    | none => c.vt
  { c with threads := mput c.threads t { th with state := 1, core := 7 }, vt := vt,
           ready := if front then t :: c.ready else c.ready ++ [t] }

/-- The thread dispatch chooses (R372). -/
def SchedSt.pick (c : SchedSt) : Option Nat :=
  let p := c.ready.foldl (fun a t => Nat.max a (c.thread t).level) 0
  let at_ := c.ready.filter (fun t => (c.thread t).level == p)
  if isCmdLevel p then
    match c.minV p with
    | some (_, g) => at_.find? (fun t => (c.thread t).group == g)
    | none => none
  else at_.head?

/-- Cores in service (R368). -/
def Mach.coresUp (s : Mach) : List Nat := (upto 6).filter (fun k => bitOf (s.gf F.SCHED_STAT_CORES) k)

/-- The command a thread processes. -/
def Mach.cmdOf (s : Mach) (t : Nat) : Option InCmd := s.cmd.pool.find? (fun c => c.phase == 1 && c.thread == t)

/-- Run thread t on core k; the first run of a command ends its wait (R381). -/
def Mach.runOn (s : Mach) (t k : Nat) : Mach :=
  let th := s.sch.thread t
  let s := s.onSch (fun c => { c with threads := mput c.threads t { th with state := 2, core := k },
                                      ready := c.ready.filter (fun u => u != t), cores := mput c.cores k t })
  let s := if 32 ≤ t then s.bump R.SCHED_GRP_DISPATCH th.group else s
  match s.cmdOf t with
  | some c =>
    if c.started then s else
      let w := s.tm.up - c.at_
      let s := s.onCmd (fun d => { d with pool := d.pool.map (fun e => if e.o.id == c.o.id then { e with started := true } else e) })
      let s := if s.gf F.SCHED_CFG_LAT_LIMIT * 1000 < w then (s.bump R.SCHED_LAT_HIGH).evt F.SCHED_EVT_LAT_HIGH else s
      s.wr R.SCHED_GRP_LAT_MAX (Nat.max (s.rd R.SCHED_GRP_LAT_MAX th.group) (w / 100)) th.group
  | none => s

/-- Dispatch to idle cores, then pre-empt the lowest level below a ready thread (R372, R373). -/
def dispatchGo : Nat → Mach → Mach
  | 0, s => s
  | n + 1, s =>
    match s.sch.pick with
    | none => s
    | some t =>
      match s.coresUp.find? (fun k => (mfind s.sch.cores k).isNone) with
      | some k => dispatchGo n (s.runOn t k)
      | none =>
        let low := s.coresUp.foldl (fun (b : Option (Nat × Nat)) k =>
          match mfind s.sch.cores k with
          | some u =>
            let l := (s.sch.thread u).level
            match b with
            | none => some (l, k)
            | some (m, _) => if l < m then some (l, k) else b
          | none => b) none
        match low with
        | some (l, k) =>
          if l < (s.sch.thread t).level then
            match mfind s.sch.cores k with
            | some u =>
              let s := s.bump R.SCHED_PREEMPT
              let s := s.onSch (fun c => ({ c with cores := mdel c.cores k }).makeReady u (c.thread u) true)
              dispatchGo n (s.runOn t k)
            | none => s
          else s
        | none => s
/-- Log 59. -/
def Mach.dispatch (s : Mach) : Mach := dispatchGo 16 s

/-- Level of a command's processing (R376): an urgent one falls to 16 once level 24 has used its budget of the window, 1.5 core-ms with
all six cores and that much of it with fewer (R368). -/
def Mach.cmdLevel (s : Mach) (urgent : Bool) : Nat × Mach :=
  if !urgent then (16, s) else
    let w := s.tm.up / 1000000
    let used := if s.sch.win = w then s.sch.urg else 0
    if used < 300000 * s.coresUp.length then (24, s) else (16, (s.bump R.SCHED_URG_DEMOTE).evt F.SCHED_EVT_URG_DEMOTE)

/-- A command thread of group g used `cycles` (R372, R376). -/
def Mach.charge (s : Mach) (level g cycles : Nat) : Mach :=
  let k := if s.on F.SCHED_STAT_BACKUP then 12 else 1
  let s := s.wr64 R.SCHED_GRP_RUN_LO R.SCHED_GRP_RUN_HI ((s.rd64 R.SCHED_GRP_RUN_LO R.SCHED_GRP_RUN_HI g + k * cycles) % 2 ^ 64) g
  let w := s.tm.up / 1000000
  let wt := Nat.max 1 (s.gf F.SCHED_GRP_WEIGHT_WEIGHT g)
  s.onSch (fun c => { c with vt := mput c.vt g (c.v g + ((k * cycles * 256 : Nat) : Rat) / wt), win := w,
                             urg := (if c.win = w then c.urg else 0) + (if level = 24 then k * cycles else 0) })

/-- May a command start: an opcode marked SERIAL only when its turn has come (R276, R378)? -/
def Mach.mayStart (s : Mach) (c : InCmd) : Bool :=
  c.phase == 0 && (!((opInfo c.op).map (·.ser)).getD false || c.o.flow == 0 ||
    (match s.flowOf c.o.sess c.o.flow with
     | some (_, f) => f.next == c.o.seq
     | none => true))

/-- Give free threads to waiting commands: highest level, then the group with the smallest V, then the earliest (R374). -/
def handGo : Nat → Mach → Mach
  | 0, s => s
  | n + 1, s =>
    let cand := s.cmd.pool.filter (fun c => s.mayStart c && s.threadRoom c.group)
    let cand := if cand.any (·.o.urgent) then cand.filter (·.o.urgent) else cand
    let best := cand.foldl (fun (b : Option InCmd) c =>
      match b with
      | none => some c
      | some d => if s.sch.v c.group < s.sch.v d.group || (s.sch.v c.group == s.sch.v d.group && decide (c.group < d.group))
                  then some c else b) none
    match best, s.sch.freeThread with
    | some c, some t =>
      let (lev, s) := s.cmdLevel c.o.urgent
      let s := s.onCmd (fun d => { d with pool := d.pool.map (fun e =>
        if e.o.id == c.o.id then { e with phase := 1, thread := t, level := lev } else e) })
      handGo n (s.onSch (fun q => q.makeReady t ⟨1, lev, c.group, 7⟩ false))
    | _, _ => s
/-- Log 59. -/
def Mach.handover (s : Mach) : Mach :=
  let s := handGo s.cmd.pool.length s
  let s := s.when (s.cmd.pool.any (fun c => s.mayStart c)) (·.evt F.SCHED_EVT_THREADS_OUT)
  s.dispatch

/-- Free thread t and its core. -/
def Mach.freeThr (s : Mach) (t : Nat) : Mach :=
  s.onSch (fun c => { c with threads := mdel c.threads t, ready := c.ready.filter (fun u => u != t),
                             cores := c.cores.filter (fun e => e.2 != t) })

/-- COMMAND_PROCESSING_END (R377). Log 59. -/
def commandProcessingEnd (id cycles : Nat) (s : Mach) : Mach :=
  match s.cmd.pool.find? (fun c => c.o.id == id && c.phase == 1) with
  | some c =>
    let s := s.charge c.level c.group cycles
    let s := s.freeThr c.thread
    let s := s.onCmd (fun d => { d with pool := d.pool.map (fun e => if e.o.id == id then { e with phase := 2 } else e) })
    s.handover
  | none => s

/-- THREAD_READY: thread t becomes ready; a system thread at its level (R370, R373). -/
def threadReady (t level : Nat) (s : Mach) : Mach :=
  let th := s.sch.thread t
  if 256 ≤ t || th.state = 1 || th.state = 2 then s
  else if t < 32 then (s.onSch (fun c => c.makeReady t ⟨1, level % 32, 0, 7⟩ false)).dispatch
  else if th.state = 3 then (s.onSch (fun c => c.makeReady t th false)).dispatch
  else s

/-- SLICE_EXPIRE: the thread on core k has run `cycles`; it blocks or ends (`stop`), or its slice is used up (R373). -/
def sliceExpire (k cycles : Nat) (stop : Bool) (s : Mach) : Mach :=
  match mfind s.sch.cores k with
  | none => s
  | some t =>
    let th := s.sch.thread t
    let s := if 32 ≤ t then s.charge th.level th.group cycles else s
    let other := s.sch.ready.any (fun u => (s.sch.thread u).level == th.level)
    if stop then
      let s := s.onSch (fun c => { c with cores := mdel c.cores k
                                          threads := if t < 32 then mdel c.threads t else mput c.threads t { th with state := 3, core := 7 } })
      s.dispatch
    else if other then
      (s.onSch (fun c => ({ c with cores := mdel c.cores k }).makeReady t th false)).dispatch
    else s

/-- CORE_FAULT (R368). -/
def coreFault (k : Nat) (s : Mach) : Mach :=
  if 6 ≤ k || !bitOf (s.gf F.SCHED_STAT_CORES) k then s else
    let t := mfind s.sch.cores k
    let s := s.sf F.SCHED_STAT_CORES (putBits (s.gf F.SCHED_STAT_CORES) k 1 0)
    let left := s.coresUp.length
    let s := (s.evt F.SCHED_EVT_CORE_FAULT).raise (E.CORE_FAULT (decide (left < 3))) k left
    let s := s.onSch (fun c => { c with cores := mdel c.cores k })
    match t with
    | none => s
    | some t =>
      if 32 ≤ t then
        let s := s.freeThr t
        (s.onCmd (fun d => { d with pool := d.pool.map (fun e =>
          if e.phase == 1 && e.thread == t then { e with phase := 2, forced := some (ST.HW_FAULT, 6) } else e) })).handover
      else (s.onSch (fun c => c.makeReady t (c.thread t) false)).dispatch

/-! ## Admission (R262, R271 to R280) -/

/-- Weight group of an unordered command (R279). -/
def groupOf (op : Nat) : Nat :=
  match op / 256 with
  | 0x02 => 0
  | 0x03 => 0
  | 0x04 => 0
  | 0x05 => 0
  | 0x08 => 0
  | 0x07 => 1
  | 0x0E => 1
  | 0x0C => 2
  | 0x1F => 3
  | _ => 4

def poolCap : Nat := 512
def Mach.poolFull (s : Mach) : Bool := decide (poolCap ≤ s.cmd.pool.length)

/-- Put a command into the pool and look for a thread. Log 58. -/
def Mach.enter (s : Mach) (o : Origin) (op group : Nat) (p : List Byte) : Mach :=
  let id := s.cmd.nextId
  let c : InCmd := ⟨{ o with id := id }, op, p, group, s.tm.up, 0, 0, 16, false, none⟩
  let s := s.onCmd (fun d => { d with nextId := id + 1, pool := d.pool ++ [c] })
  let s := s.when s.poolFull (·.evt F.CMD_EVT_POOL_FULL)
  s.handover

/-- Does a flow hold a command while NEXT is missing (R277)? -/
def Mach.gapNow (s : Mach) (f : Flow) : Bool :=
  let mine := s.cmd.pool.filter (fun c => c.o.sess == f.sess && c.o.flow == f.num)
  !mine.isEmpty && !mine.any (fun c => c.o.seq == f.next)

def Mach.setGap (s : Mach) (i : Nat) : Mach :=
  match mfind s.cmd.flows i with
  | some f => s.onCmd (fun c => { c with flows := mput c.flows i { f with gap := s.gapNow f } })
  | none => s

/-- Reply to a packet that was not admitted. -/
def Mach.reject (s : Mach) (o : Origin) (op st det : Nat) : Mach := s.pushReplies o.xport (s.buildReply o op st det noTick [])

/-- First failing field of step 3, by its packet offset. -/
def step3 (raw : List Byte) : Option Nat :=
  if fld raw 2 1 != 1 then some 2
  else if fld raw 3 1 % 2 != 0 || !bitOf (fld raw 3 1) 2 || fld raw 3 1 / 16 != 0 then some 3
  else if fld raw 12 4 != 0 then some 12
  else none

/-- An arriving packet whose transport length is its own (R262 steps 1 to 5). `tag` is the PCIe descriptor's. Log 58. -/
def Mach.checkIn (s : Mach) (x : Xport) (tag : Nat) (raw : List Byte) : Mach :=
  let n := raw.length
  let o : Origin := ⟨0, x, fld raw 6 1, fld raw 7 1, fld raw 8 2, tag, bitOf (fld raw 3 1) 1, bitOf (fld raw 3 1) 3⟩
  let op := fld raw 10 2
  if fld raw 0 2 != 0x5643 || n % 4 != 0 || n < 20 || 4096 < n || fld raw 4 2 != n then
    let s := s.bump R.CMD_RX_BAD
    match x with
    | .pcie _ => s.reject ⟨0, x, 0, 0, 0, tag, false, false⟩ 0 ST.BAD_LENGTH 0
    | _ => s
  else if fld raw (n - 4) 4 != crc32c (raw.take (n - 4)) then (s.bump R.CMD_CRC_ERR).reject o op ST.BAD_CRC 0
  else match step3 raw with
  | some d => s.reject o op ST.BAD_PARAM d
  | none =>
    let p := (raw.drop 16).take (n - 20)
    match (if o.sess = 255 then none else mfind s.cmd.sess o.sess) with
    | none =>
      if o.sess = 255 && (op = 0x0101 || op = 0x0105) then
        if o.flow = 0 then s.enter o op (groupOf op) p else s.reject o op ST.STATE 2
      else s.reject o op ST.STATE 1
    | some ss =>
      if ss.xport != x then s.reject o op ST.STATE 1
      else
        let s := s.onCmd (fun c => { c with sess := mput c.sess o.sess { ss with last := s.tm.up } })
        if o.flow = 0 then s.enter o op (groupOf op) p
        else match s.flowOf o.sess o.flow with
        | none => s.reject o op ST.STATE 2
        | some (i, f) =>
          let k := (o.seq + 65536 - f.next) % 65536
          if k < 32 then
            if s.cmd.pool.any (fun c => c.o.sess == o.sess && c.o.flow == o.flow && c.o.seq == o.seq) then s.bump R.CMD_RX_DUP
            else (s.enter o op f.group p).setGap i
          else if 65504 ≤ k then
            let s := s.bump R.CMD_RX_DUP
            match f.past.find? (fun q => q.seq == o.seq) with
            | some q =>
              match q.reply with
              | some pk => s.pushReplies x pk
              | none => s.onCmd (fun c => { c with rel := c.rel.map (fun r =>
                  if r.o.id == q.id then { r with dups := r.dups + 1 } else r) })
            | none => s
          else s.reject o op ST.STATE 3

/-- Discard commands of the pool that satisfy p; those with a reply status are answered. -/
def Mach.discard (s : Mach) (p : InCmd → Bool) (reply : Option (Nat × Nat)) : Mach :=
  let gone := s.cmd.pool.filter p
  let s := s.each gone (fun s c => s.when (c.phase == 1) (·.freeThr c.thread))
  let s := s.onCmd (fun d => { d with pool := d.pool.filter (fun c => !p c) })
  let s := match reply with
    | some (st, det) => s.each gone (fun s c => s.reject c.o c.op st det)
    | none => s
  s.handover

/-- GAP_TIMEOUT of flow entry i (R277). -/
def gapTimeout (i : Nat) (s : Mach) : Mach :=
  match mfind s.cmd.flows i with
  | some f =>
    if !f.gap then s else
      let s := (s.bump R.CMD_GAP_TIMEOUT).evt F.CMD_EVT_GAP_TIMEOUT
      (s.discard (fun c => c.o.sess == f.sess && c.o.flow == f.num) (some (ST.TIMEOUT, 1))).setGap i
  | none => s

/-- The session of a command that outlives the close of its own: no session ever has this number. -/
def shutSess : Nat := 256

/-- Close a session: commands that complete after it belong to none, also where its number is used again (R272). -/
def Mach.closeSess (s : Mach) (n : Nat) : Mach :=
  if (mfind s.cmd.sess n).isNone then s else
    let keep : InCmd → Bool := fun c => if c.o.flow = 0 then c.phase != 0
      else decide (1 ≤ c.phase) && ((opInfo c.op).map (·.ser)).getD false
    let s := s.discard (fun c => c.o.sess == n && !keep c) none
    s.onCmd (fun c => { c with pool := c.pool.map (fun e => if e.o.sess == n then { e with o := { e.o with sess := shutSess } } else e),
                               sess := mdel c.sess n, flows := c.flows.filter (fun e => e.2.sess != n),
                               rel := c.rel.filter (fun r => r.o.sess != n) })

/-- Close every session of a transport. -/
def Mach.closeXport (s : Mach) (p : Xport → Bool) : Mach :=
  s.each (s.cmd.sess.filter (fun e => p e.2.xport)) (fun s e => s.closeSess e.1)

/-- Whole seconds since a session's last packet. -/
def Mach.idleOf (s : Mach) (e : Sess) : Nat := (s.tm.up - e.last) / 1000000000

/-- SESSION_IDLE_TIMEOUT (R272). -/
def sessionIdleTimeout (n : Nat) (s : Mach) : Mach :=
  match mfind s.cmd.sess n with
  | some e => if e.idleS = 0 then s else (s.evt F.CMD_EVT_SESSION_TIMEOUT).closeSess n
  | none => s

/-! ## PCIe queue pairs (R281 to R284) -/

def Mach.linkPcie (s : Mach) : Bool := s.on F.PCIE_STAT_LINK_UP
def hostAddr (lo hi : Nat) : Nat := hostBit + (lo + 2 ^ 32 * hi) % hostBit

/-- PCIE_CQ_TAIL_WRITE. Log 57. -/
def pcieCqTailWrite (q v : Nat) (s : Mach) : Mach :=
  let v := v % 4096
  if 2 ^ s.gf F.CMD_QP_CTRL_CQ_SIZE q ≤ v then s.evt F.CMD_EVT_BAD_DOORBELL else s.wr R.CMD_QP_CQ_TAIL v q

/-- Has the reply ring of pair q a free entry? Log 57. -/
def Mach.rqFree (s : Mach) (q : Nat) : Bool :=
  (s.rd R.CMD_QP_RQ_TAIL q + 1) % 2 ^ s.gf F.CMD_QP_CTRL_RQ_SIZE q != s.rd R.CMD_QP_RQ_HEAD q

def CmdSt.waitOf (c : CmdSt) (q : Nat) : List (List Byte) := if q = 0 then c.wait0 else c.wait1

/-- PCIE_DESCRIPTOR_FETCH: the next descriptor and its packet are read; `err` when the packet read ends in an error
response. Nothing is fetched while the pool is full or the reply ring has no free entry (R280, R283). -/
def pcieDescriptorFetch (q : Nat) (err : Bool) (s : Mach) : Mach :=
  let head := s.rd R.CMD_QP_CQ_HEAD q
  if 2 ≤ q || !s.on F.CMD_QP_CTRL_EN q || head = s.rd R.CMD_QP_CQ_TAIL q || s.poolFull || !s.rqFree q then s
  else
    let a := hostAddr (s.rd R.CMD_QP_CQ_BASE_LO q) (s.rd R.CMD_QP_CQ_BASE_HI q) + 16 * head
    let d := s.mrd a 16
    let addr := fld d 0 8
    let len := fld d 8 2
    let tag := fld d 12 4
    let o : Origin := ⟨0, .pcie q, 0, 0, 0, tag, false, false⟩
    let s := s.wr R.CMD_QP_CQ_HEAD ((head + 1) % 2 ^ s.gf F.CMD_QP_CTRL_CQ_SIZE q) q
    if fld d 10 2 != 0 || addr % 4 != 0 then s.reject o 0 ST.BAD_PARAM 0
    else if len < 20 || 4096 < len then s.reject o 0 ST.BAD_LENGTH 0
    else if err then s.reject o 0 ST.HW_FAULT 1
    else s.checkIn (.pcie q) tag (s.mrd (hostBit + addr % hostBit) len)

/-- PCIE_REPLY_WRITE: the next waiting reply of pair q goes out, then the write-back record, then the message. -/
def pcieReplyWrite (q : Nat) (s : Mach) : Mach :=
  match s.cmd.waitOf q with
  | [] => s
  | pkt :: rest =>
    if !s.on F.CMD_QP_CTRL_EN q then s
    else if !s.rqFree q then s.evt F.CMD_EVT_RQ_FULL
    else
      let t := s.rd R.CMD_QP_RQ_TAIL q
      let s := s.mwr (hostAddr (s.rd R.CMD_QP_RQ_BASE_LO q) (s.rd R.CMD_QP_RQ_BASE_HI q) + 4096 * t) pkt
      let s := s.wr R.CMD_QP_RQ_TAIL ((t + 1) % 2 ^ s.gf F.CMD_QP_CTRL_RQ_SIZE q) q
      let s := s.mwr (hostAddr (s.rd R.CMD_QP_WB_LO q) (s.rd R.CMD_QP_WB_HI q))
        (toLE 4 (s.rd R.CMD_QP_CQ_HEAD q) ++ toLE 4 (s.rd R.CMD_QP_RQ_TAIL q))
      let s := s.onCmd (fun c => if q = 0 then { c with wait0 := rest } else { c with wait1 := rest })
      let s := s.when (!s.rqFree q) (·.evt F.CMD_EVT_RQ_FULL)
      s.when (s.on F.CMD_QP_CTRL_IRQ q) (·.sendMsg (s.gf F.CMD_QP_CTRL_VEC q))

/-- PCIE_RQ_HEAD_WRITE. Log 57. -/
def pcieRqHeadWrite (q v : Nat) (s : Mach) : Mach := 
  let s := s.wr R.CMD_QP_RQ_HEAD (v % 1024) q
  s.when (s.on F.CMD_QP_CTRL_EN q && !s.rqFree q) (·.evt F.CMD_EVT_RQ_FULL)

/-- Stop a queue pair (R284). -/
def Mach.stopQp (s : Mach) (q : Nat) : Mach :=
  (s.closeXport (fun x => decide (x = .pcie q))).onCmd (fun c => if q = 0 then { c with wait0 := [] } else { c with wait1 := [] })

/-- QP_CTRL_WRITE. -/
def qpCtrlWrite (q v : Nat) (s : Mach) : Mach :=
  let v := v &&& 0x3F0FF3
  let cq := bits v 4 4
  let rq := bits v 8 4
  let en := s.on F.CMD_QP_CTRL_EN q
  if cq < 4 || 12 < cq || rq < 4 || 10 < rq
    || (en && (cq != s.gf F.CMD_QP_CTRL_CQ_SIZE q || rq != s.gf F.CMD_QP_CTRL_RQ_SIZE q)) then s
  else
    let s := s.wr R.CMD_QP_CTRL v q
    if bitOf v 0 && !en then
      (((s.wr R.CMD_QP_CQ_HEAD 0 q).wr R.CMD_QP_CQ_TAIL 0 q).wr R.CMD_QP_RQ_HEAD 0 q).wr R.CMD_QP_RQ_TAIL 0 q
    else if !bitOf v 0 && en then s.stopQp q
    else s

/-! ## SPI mailbox (R285, R286) -/

def Mach.spiReady (s : Mach) : Bool :=
  s.on F.CMD_STAT_READY && s.on F.CMD_SPI_CFG_EN && !bitOf (s.gf F.SYS_BLK_RST_STAT_BLOCKS) 9

/-- SPI_WRITE: the bytes clocked after the opcode. -/
def spiWrite (pkt : List Byte) (s : Mach) : Mach :=
  if !s.spiReady then s
  else if s.poolFull then s.onCmd (fun c => { c with spiOvf := true })
  else s.checkIn .spi 0 pkt

/-- Move waiting replies into the reply queue as room appears. -/
def spiRefill : Nat → CmdSt → CmdSt
  | 0, c => c
  | n + 1, c =>
    match c.spiWait with
    | p :: r => if bytesIn c.spiQ + p.length ≤ spiCap then spiRefill n { c with spiQ := c.spiQ ++ [p], spiWait := r } else c
    | [] => c

/-- SPI_READ: `n` bytes clocked after the dummy byte; a reply read whole is removed. -/
def spiRead (n : Nat) (s : Mach) : Mach :=
  match s.cmd.spiQ with
  | p :: r => if p.length ≤ n then s.onCmd (fun c => spiRefill 64 { c with spiQ := r }) else s
  | [] => s

/-- The four status bytes. -/
def Mach.spiStatusBytes (s : Mach) : List Byte :=
  let free := if s.poolFull then 0 else 4
  let len := ((s.cmd.spiQ.head?).map (·.length)).getD 0
  toLE 1 (b2n s.spiReady + 2 * b2n (!s.cmd.spiQ.isEmpty) + 4 * b2n s.cmd.spiOvf + 8 * free) ++ toLE 1 0 ++ toLE 2 len

/-- SPI_STATUS: reading clears OVF. -/
def spiStatus (s : Mach) : Mach := s.onCmd (fun c => { c with spiOvf := false })

/-! ## UDP (R287, R288) -/

/-- Does the source address pass the allow list? -/
def Mach.udpAllowed (s : Mach) (ip : Nat) : Bool :=
  let on_ := (upto 4).filter (fun n => s.on F.CMD_UDP_ALLOW_MASK_EN n)
  on_.isEmpty || on_.any (fun n =>
    let sh := 32 - Nat.min 32 (s.gf F.CMD_UDP_ALLOW_MASK_PREFIX n)
    s.rd R.CMD_UDP_ALLOW_ADDR n >>> sh == ip >>> sh)

/-- A datagram for the command port. -/
def Mach.udpCmd (s : Mach) (ip port : Nat) (frag : Bool) (payload : List Byte) : Mach :=
  if !s.on F.CMD_STAT_READY then s
  else if frag then s.bump R.CMD_RX_BAD
  else if !s.udpAllowed ip then s.bump R.CMD_UDP_FOREIGN
  else if s.poolFull then s.bump R.CMD_RX_DROP
  else s.checkIn (.udp ip port) 0 payload

end Sys2Proof.Machine
end

