-- ==== Sys2Proof/Machine/Dram.lean ====
section
/-! DEFINITION. DRAM as its users meet it: its state, words and their ECC, rows, reads and writes (R491 to R494, R498, R499, R501
to R503). -/
namespace Sys2Proof.Machine

/-- Place of the birth record's write-protected region (R244). Log 35. -/
def birthBase : Nat := mramBase + 0x2000
def birthSize : Nat := 0x1000

def overlap (a n b m : Nat) : Bool := decide (a < b + m) && decide (b < a + n)

def Mach.onDdr (s : Mach) (f : DdrSt → DdrSt) : Mach := { s with ddr := f s.ddr }

/-- STATE codes of DDRC.STAT. -/
def Mach.ddrState (s : Mach) : Nat := s.gf F.DDRC_STAT_STATE
def Mach.setDdr (s : Mach) (n : Nat) : Mach := s.sf F.DDRC_STAT_STATE n

/-- Is DRAM accepting commands? -/
def Mach.dramUp (s : Mach) : Bool := s.ddrState == 1 || s.ddrState == 4

/-- DRAM stops accepting; R28 counts from here. -/
def Mach.dramStop (s : Mach) : Mach :=
  s.onDdr (fun d => { d with held := true, gap := match d.gap with | some t => some t | none => some s.tm.up })
def Mach.dramGo (s : Mach) : Mach := (s.setDdr 1).onDdr (fun d => { d with held := false, gap := none })

/-- Close every row (R499); HIST stays. -/
def Mach.closeRows (s : Mach) : Mach := s.onDdr (fun d => { d with banks := d.banks.map (fun e => (e.1, { e.2 with row := none })) })

/-! ## Training (R491 to R494) -/

/-- Installed MiB of a configuration of R491: ranks, x16, density in Gb. -/
def dramConfig (ranks : Nat) (x16 : Bool) (gb : Nat) : Option Nat :=
  match ranks, x16, gb with
  | 1, true, 16 => some 8192
  | 1, true, 24 => some 12288
  | 2, true, 16 => some 16384
  | 1, true, 32 => some 16384
  | 1, false, 16 => some 16384
  | _, _, _ => none

/-- Transfer rates, falling (R492). -/
def ddrRates : List Nat := [6400, 5600, 4800, 4000, 3200]

/-! ## PLL_DDR at a set's rate (R458, R494, R504) -/

/-- VCO frequency in units of 2^−32 × 25 MHz of a multiplier. -/
def vcoUnits (nint frac : Nat) : Nat := nint * 2 ^ 32 + frac

def Mach.pllTarget (s : Mach) (p : Nat) : Nat := vcoUnits (s.glv F.CLK_PLL_CTRL_NINT p) (s.lv R.CLK_PLL_FRAC p)

/-- Band entries whose range contains the target, in ascending index (R460). -/
def Mach.bandCands (s : Mach) (p : Nat) : List Nat :=
  let t := 25 * s.pllTarget p
  (upto 16).filter (fun e => s.on F.CLK_PLL_BAND_CODE_VALID p e
    && decide (s.gf F.CLK_PLL_BAND_RANGE_FMIN p e * 2 ^ 32 ≤ t) && decide (t ≤ s.gf F.CLK_PLL_BAND_RANGE_FMAX p e * 2 ^ 32))

/-- PLL_DDR is programmed for a rate in MT/s, its VCO at as many MHz, at the band stored for it. Log 157. -/
def Mach.ddrTune (s : Mach) (rate : Nat) : Mach :=
  let ctrl := rate / 25
  let s := ((s.wr R.CLK_PLL_CTRL ctrl 3).setLv R.CLK_PLL_CTRL ctrl 3).wr R.CLK_PLL_FRAC 0 3
  let s := (s.setLv R.CLK_PLL_FRAC 0 3).wr R.CLK_PLL_DCO 0 3
  s.sf F.CLK_PLL_STAT_BAND ((s.bandCands 3).headD (s.gf F.CLK_PLL_STAT_BAND 3)) 3

/-- Training of both sets: configuration and rates of the option page, the rates at which training succeeds for set 0, the
result of set 1 and the cause a failure shows (R494). Log 52. -/
def Mach.dramTrain (s : Mach) (ranks : Nat) (x16 : Bool) (gb rate0 rate1 : Nat) (good : List Nat) (ok1 : Bool) (cause : Nat) : Mach :=
  let s := { s with ddr := DdrSt.init }
  match dramConfig ranks x16 gb, (ddrRates.filter (· ≤ rate0)).find? (fun r => good.contains r) with
  | some mib, some r =>
    let s := ((s.ddrTune r).wr R.DDRC_STAT (mib + 65536 * ranks + 2 ^ 18 * b2n x16 + 2 ^ 20)).wr R.DDRC_SET (r + 2 ^ 31) 0
    s.wr R.DDRC_SET (if ddrRates.contains rate1 then rate1 + 2 ^ 31 * b2n ok1 else 0) 1
  | cfg, _ =>
    let c := if cfg.isNone then 1 else cause
    let s := s.wr R.DDRC_STAT (6 * 2 ^ 20 + 2 ^ 25 * c)
    s.raise E.DRAM_TRAIN_FAIL 0 c

/-! ## ECC (R501 to R503) -/

/-- Is the 64-bit word at an address uncorrectable? -/
def Mach.badWord (s : Mach) (a : Nat) : Bool := (mfind s.ddr.bad (a / 8 * 8)).isSome

/-- Does [a, a+n) hold an uncorrectable word? -/
def Mach.badRange (s : Mach) (a n : Nat) : Bool := s.ddr.bad.any (fun e => overlap a n e.1 8)

/-- One word of a line that has been read for `reader` is checked (R501). -/
def Mach.checkWord (s : Mach) (reader w : Nat) : Mach :=
  match mfind s.ddr.bad w with
  | some par =>
    let s := (s.bump R.DDRC_ECC_UNCORR).evt F.DDRC_EVT_ECC_UNCORR
    let s := if s.on F.DDRC_ECC_INFO_VALID then s else
      (s.wr64 R.DDRC_ECC_ADDR_LO R.DDRC_ECC_ADDR_HI (w / 64 * 64)).wr R.DDRC_ECC_INFO (reader + 8 * b2n par + 2 ^ 31)
    let sec := s.tm.netNs / 1000000000
    if s.ddr.lastRec = some sec then s
    else (s.onDdr (fun d => { d with lastRec := some sec })).raise E.DRAM_ECC reader (w % 2 ^ 32)
  | none =>
    if s.ddr.weak.contains w then
      ((s.bump R.DDRC_ECC_CORR).evt F.DDRC_EVT_ECC_CORR).onDdr (fun d => { d with weak := d.weak.filter (fun v => v != w) })
    else s

/-- The words of [a, a+n) that hold an error are checked as they are read. -/
def Mach.checkHits (s : Mach) (reader a n : Nat) : Mach :=
  if s.ddr.bad.isEmpty && s.ddr.weak.isEmpty then s
  else s.each ((s.ddr.bad.map (·.1) ++ s.ddr.weak).filter (fun w => overlap a n w 8)) (fun s w => s.checkWord reader w)

/-- Bank of a line: subchannel, bank group, bank and rank, with its row (R493). -/
def Mach.bankOf (s : Mach) (a : Nat) : Nat × Nat :=
  let two := decide (2 ≤ s.gf F.DDRC_STAT_RANKS)
  let top := (a - dramBase) >>> 22
  let rank := if two then top % 2 else 0
  let row := if two then top / 2 else top
  (bits a 6 1 + 2 * ((bits a 7 3) ^^^ (row % 8)) + 16 * bits a 10 2 + 64 * rank, row)

/-- An access to a line: HIST, then open or closed row (R499). -/
def Mach.bankAccess (s : Mach) (a : Nat) : Mach :=
  let (b, row) := s.bankOf a
  let k := mget (⟨none, 0⟩ : BankSt) s.ddr.banks b
  let hit := k.row == some row
  let h := (2 * k.hist + b2n hit) % 16
  let ones := b2n (bitOf h 0) + b2n (bitOf h 1) + b2n (bitOf h 2) + b2n (bitOf h 3)
  s.onDdr (fun d => { d with banks := mput d.banks b ⟨if s.gf F.DDRC_CFG_PAGE_THR ≤ ones then some row else none, h⟩ })

/-- A line is read from DRAM, or answered from the write queue (R498). -/
def Mach.readLine (s : Mach) (reader a : Nat) : Mach :=
  let l := a / 64 * 64
  let s := if s.ddr.wq.any (fun q => q.line == l) then s else s.bankAccess l
  s.each (upto 8) (fun s i => s.checkWord reader (l + 8 * i))

/-- Lines of [a, a+n). -/
def linesOf (a n : Nat) : List Nat := if n = 0 then [] else (upto ((a + n - 1) / 64 - a / 64 + 1)).map (fun i => (a / 64 + i) * 64)

/-- Read every line of a range. -/
def Mach.readRange (s : Mach) (reader a n : Nat) : Mach := s.each (linesOf a n) (fun s l => s.readLine reader l)

/-- Issue the `n` oldest lines of the write queue. -/
def Mach.issueWrites (s : Mach) (n : Nat) : Mach :=
  (s.each (s.ddr.wq.take n) (fun s q => s.bankAccess q.line)).onDdr (fun d => { d with wq := d.wq.drop n })

/-- Queue the lines of a write (R498); a full queue issues its oldest line first (R496). Log 160. -/
def Mach.queueLines (s : Mach) (a n : Nat) : Mach :=
  s.each (linesOf a n) (fun s l =>
    if s.ddr.wq.any (fun q => q.line == l) then s
    else (s.issueWrites (s.ddr.wq.length - 63)).onDdr (fun d => { d with wq := d.wq ++ [⟨l, s.tm.up⟩] }))

/-- A word is written whole: an error in it ends, and an injection of R503 may corrupt it. -/
def Mach.wordWritten (s : Mach) (w : Nat) : Mach :=
  let s := s.onDdr (fun d => { d with bad := mdel d.bad w, weak := d.weak.filter (fun v => v != w) })
  let weak := (mfind s.ddr.inj 1).isSome
  let bad := (mfind s.ddr.inj 2).isSome
  s.when (weak || bad) (·.onDdr (fun d =>
    { d with inj := (d.inj.map (fun e => (e.1, e.2 - 1))).filter (fun e => e.2 != 0),
             weak := if weak && !bad then d.weak ++ [w] else d.weak,
             bad := if bad then mput d.bad w false else d.bad }))

/-- A write of bytes to DRAM: whole words replace, partial words are read, modified and written (R498). Answers the
response code: 1 when a partial word was uncorrectable. Log 55. -/
def Mach.dramWrite (s : Mach) (a : Nat) (l : List Byte) : Nat × Mach :=
  let n := l.length
  let first := a / 8 * 8
  let words := if n = 0 then [] else (upto ((a + n - 1) / 8 - a / 8 + 1)).map (fun i => first + 8 * i)
  let r := words.foldl (fun (acc : Nat × Mach) w =>
    let (code, s) := acc
    let lo := Nat.max a w
    let hi := Nat.min (a + n) (w + 8)
    let part := slice l (lo - a) (hi - lo)
    if hi - lo = 8 then (code, (s.mwr lo part).wordWritten w)
    else
      let s := (s.bump R.DDRC_RMW).checkWord 6 w
      if s.badWord w then (1, s) else (code, (s.mwr lo part).wordWritten w)) (0, s)
  (r.1, r.2.queueLines a n)

/-- A store by a part of the audio path through its own port to general SRAM or DRAM; another address takes nothing.
Log 55. -/
def Mach.partStore (s : Mach) (a : Nat) (l : List Byte) : Mach :=
  match s.target a with
  | 3 => s.mwr a l
  | 5 => (s.dramWrite a l).2
  | _ => s

end Sys2Proof.Machine
end

