-- ==== Sys2Proof/Machine/Matrix.lean ====
section
/-! DEFINITION. The interconnect and the DMA engine (R469 to R490). -/
namespace Sys2Proof.Machine

/-! ## Regions of DRAM that consumers own (R116, R159, R422) -/

def Mach.bulkOn (s : Mach) : Bool := s.on F.RENDER_BULK_BASE_HI_EN
def Mach.bulkBase (s : Mach) : Nat := s.gf F.RENDER_BULK_BASE_LO_ADDR * 0x100000 + s.gf F.RENDER_BULK_BASE_HI_ADDR * 2 ^ 32
def bulkSize : Nat := 0x20200000
def Mach.corrOn (s : Mach) : Bool := s.on F.FEED_CORR_BASE_HI_EN
def Mach.corrBase (s : Mach) : Nat := s.gf F.FEED_CORR_BASE_LO_ADDR * 0x100000 + s.gf F.FEED_CORR_BASE_HI_ADDR * 2 ^ 32
def corrSize : Nat := 0x0A400000
def Mach.strmOn (s : Mach) : Bool := s.on F.STRM_REGION_HI_EN
def Mach.strmBase (s : Mach) : Nat := s.gf F.STRM_REGION_LO_ADDR * 0x100000 + s.gf F.STRM_REGION_HI_ADDR * 2 ^ 32
def strmSize : Nat := 0x00800000

/-- Does [a, a+n) lie within installed DRAM? -/
def Mach.inDram (s : Mach) (a n : Nat) : Bool := decide (dramBase ≤ a) && decide (a + n ≤ dramBase + s.dramSize)

/-- May a region of DRAM be enabled at [a, a+n), beside the enabled regions other than k (0 bulk, 1 correction, 2 streams)? -/
def Mach.regionOk (s : Mach) (k a n : Nat) : Bool :=
  s.inDram a n
    && (k == 0 || !s.bulkOn || !overlap a n s.bulkBase bulkSize)
    && (k == 1 || !s.corrOn || !overlap a n s.corrBase corrSize)
    && (k == 2 || !s.strmOn || !overlap a n s.strmBase strmSize)

/-- Does [a, a+n) touch an enabled region (R477)? -/
def Mach.protectedAt (s : Mach) (a n : Nat) : Bool :=
  (s.bulkOn && overlap a n s.bulkBase bulkSize) || (s.corrOn && overlap a n s.corrBase corrSize)
    || (s.strmOn && overlap a n s.strmBase strmSize)

/-! ## Reach and response codes (R469, R475, R477) -/

/-- May master m reach target t (R469)? -/
def reaches (m t : Nat) : Bool :=
  if m ≤ 5 then decide (t ≤ 6)
  else if m = 6 then decide (t ≤ 3)
  else if m = 7 then decide (3 ≤ t) && decide (t ≤ 6)
  else t == 3 || t == 5

/-- Block-reset code of the block that holds a register address (R551), if it can be reset alone. -/
def blockOf (a : Nat) : Option Nat :=
  if 0x200000 ≤ a && a < 0x300000 then some 0
  else if 0x300000 ≤ a && a < 0x320000 then some 1
  else if 0x320000 ≤ a && a < 0x340000 then some 3
  else if 0x340000 ≤ a && a < 0x380000 then some 2
  else if 0x380000 ≤ a && a < 0x380800 then some 4
  else if 0x400000 ≤ a && a < 0x500000 then some 5
  else if 0x600000 ≤ a && a < 0x700000 then some 6
  else if 0xA00000 ≤ a && a < 0xB00000 then some 7
  else if 0xE00000 ≤ a && a < 0xF00000 then some 8
  else none

def Mach.inReset (s : Mach) (b : Nat) : Bool := bitOf (s.gf F.SYS_BLK_RST_STAT_BLOCKS) b

/-- Is the block behind a register address, or the DRAM controller behind T5, isolated? -/
def Mach.isolated (s : Mach) (a : Nat) : Bool :=
  if s.target a = 5 then s.inReset 6
  else match blockOf a with
  | some b => s.inReset b
  | none => false

/-- Response code the matrix itself gives a transaction: 0 when it goes to the target. `id` is the DMA channel for M7.
Log 50. -/
def Mach.matrixCode (s : Mach) (m id a n : Nat) (wr : Bool) : Nat :=
  let t := s.target a
  if t = 7 || !reaches m t then 2
  else if m = 6 && s.phase != 6 && !(a < 0x100000 || t = 3) then 1
  else if s.isolated a then 4
  else if t = 5 && s.gf F.DDRC_STAT_STATE = 5 then 1
  else if t = 4 && wr && 6 ≤ m then 1
  else if t = 4 && wr && overlap a n birthBase birthSize then 1
  else if t = 5 && wr && (m = 6 || m = 8 || m = 9 || (m = 7 && id < 28)) && s.protectedAt a n then 6
  else if t ≤ 2 && (n != 4 || a % 4 != 0) && !(decide (0xE01000 ≤ a) && decide (a < 0xE02008) && n == 8 && a % 8 == 0) then 1
  else 0

/-- A refused write of [a, a+n) by master m raises the WARN record of the birth record where it touches it (R244). -/
def Mach.birthWrite (s : Mach) (m a n : Nat) : Mach :=
  s.when (overlap a n birthBase birthSize) (·.raise E.BIRTH_WRITE m (Nat.max a birthBase - mramBase))

/-- Count and latch an error response (R475). -/
def Mach.busErr (s : Mach) (m id t a n code : Nat) (wr : Bool) : Mach :=
  let s := s.bump R.MATRIX_ERRORS
  let s := if code = 6 then (s.bump R.MATRIX_PROT_ERR).evt F.MATRIX_EVT_PROT else s
  let s := s.when (code = 1 && t = 4 && wr) (·.birthWrite m a n)
  let s := if m = 6 && !wr then s.bump R.PCIE_CPL_ABORT else s
  if s.on F.MATRIX_ERR_INFO_VALID then s
  else
    let s := s.wr64 R.MATRIX_ERR_ADDR_LO R.MATRIX_ERR_ADDR_HI a
    let info := m + 16 * (id % 64) + 4096 * t + 32768 * b2n wr + 65536 * code + 2 ^ 31
    (s.wr R.MATRIX_ERR_INFO info).evt F.MATRIX_EVT_ERROR

/-- MATRIX_ERR_CLR. -/
def matrixErrClr (v : Nat) (s : Mach) : Mach := if bitOf v 0 then s.sf F.MATRIX_ERR_INFO_VALID 0 else s

/-- A store that reaches its target: DRAM merges and checks partial words. Answers the target's response code (R498). -/
def Mach.store (s : Mach) (a : Nat) (l : List Byte) : Nat × Mach := if s.target a = 5 then s.dramWrite a l else (0, s.mwr a l)

/-- The bytes of [a, a+n), those of uncorrectable DRAM words as zeros (R475, R502). -/
def Mach.goodBytes (s : Mach) (a n : Nat) : List Byte :=
  if s.target a = 5 && s.badRange a n then (upto n).map (fun i => if s.badWord (a + i) then 0 else memByte s.mem (a + i)) else s.mrd a n

/-- What a read by an internal master carries: zeros where it ends in an error. -/
def Mach.busData (s : Mach) (m id a n : Nat) : List Byte :=
  if s.matrixCode m id a n false != 0 then List.replicate n 0 else s.goodBytes a n

/-- A read by an internal master that completes at once: what it counts and checks. -/
def Mach.busRead (s : Mach) (m id a n : Nat) : Mach :=
  let c := s.matrixCode m id a n false
  if c != 0 then s.busErr m id (s.target a) a n c false
  else if s.target a != 5 then s
  else
    let bad := s.badRange a n
    let s := s.readRange 0 a n
    if bad then s.busErr m id 5 a n 1 false else s

/-- A write by an internal master that completes at once: performed, or counted as an error. Log 56. -/
def Mach.busWrite (s : Mach) (m id a : Nat) (l : List Byte) : Mach :=
  let c := s.matrixCode m id a l.length true
  if c != 0 then s.busErr m id (s.target a) a l.length c true
  else
    let (r, s) := s.store a l
    if r = 0 then s else s.busErr m id (s.target a) a l.length r true

/-! ## Arbitration and locks (R470 to R474) -/

def Mach.onBus (s : Mach) (f : BusSt → BusSt) : Mach := { s with bus := f s.bus }

def Mach.outOf (s : Mach) (m : Nat) : Nat := (s.bus.out.filter (fun t => t.master == m)).length
def Mach.lockOf (s : Mach) (m : Nat) : Option (Nat × BusLock) := s.bus.locks.find? (fun e => e.2.master == m)

/-- May a waiting request be granted now? -/
def Mach.grantable (s : Mach) (x : BusTx) : Bool :=
  let t := s.target x.addr
  decide (s.outOf x.master < 32)
    && !s.bus.out.any (fun y => y.master == x.master && y.id == x.id && s.target y.addr != t)
    && (match mfind s.bus.locks t with
        | some l => l.master == x.master
        | none => true)

/-- Distance of master m after the master granted last, for the round robin. -/
def rrDist (park m : Nat) : Nat := if park < m then m - park else m + 10 - park

/-- Of a target's grantable requests, the next: highest priority, then round robin, a parked master first of all when it
alone has the priority; requests of one master keep their order (R473). -/
def Mach.nextGrant (s : Mach) : Option BusTx :=
  s.bus.waiting.foldl (fun (b : Option BusTx) x =>
    if !s.grantable x then b else
    match b with
    | none => some x
    | some y =>
      if s.target x.addr != s.target y.addr || x.master == y.master then b
      else
        let park := s.gf F.MATRIX_TSTAT_PARK (s.target x.addr)
        let px := s.gf F.MATRIX_MPRI_PRI x.master
        let py := s.gf F.MATRIX_MPRI_PRI y.master
        if py < px || (px = py && rrDist park x.master < rrDist park y.master) then some x else b) none

/-- Remove the first element equal to x. -/
def dropOne {α : Type} [DecidableEq α] (x : α) : List α → List α
  | [] => []
  | y :: r => if x = y then r else y :: dropOne x r

/-- Deliver a response to its master. -/
def Mach.deliver (s : Mach) (x : BusTx) (code : Nat) (data : List Byte) : Mach :=
  let t := s.target x.addr
  let d := if x.wr then [] else if code = 0 then data else List.replicate x.len 0
  let s := s.onBus (fun b => { b with resp := some ⟨x.master, x.id, t, code, d⟩ })
  if code = 0 then s else s.busErr x.master x.id t x.addr x.len code x.wr

/-- Grant a request, or answer it with the code the matrix gives it. -/
def Mach.grant (s : Mach) (x : BusTx) : Mach :=
  let t := s.target x.addr
  let s := s.onBus (fun b => { b with waiting := dropOne x b.waiting })
  let code := s.matrixCode x.master x.id x.addr x.len x.wr
  if code != 0 then s.deliver x code []
  else if s.bus.told.contains (x.master, x.id) && (x.unlock || x.lock) then
    (s.onBus (fun b => { b with told := dropOne (x.master, x.id) b.told })).deliver x 5 []
  else if x.lock && ((t != 3 && t != 5) || (s.lockOf x.master).isSome) then s.deliver x 5 []
  else
    let s := s.sf F.MATRIX_TSTAT_PARK x.master t
    let s := if x.lock then s.onBus (fun b => { b with locks := mput b.locks t ⟨x.master, x.id, false⟩ }) else s
    s.onBus (fun b => { b with out := b.out ++ [x] })

/-- Grant everything that can be granted. -/
def arbGo : Nat → Mach → Mach
  | 0, s => s
  | n + 1, s =>
    match s.nextGrant with
    | some x => arbGo n (s.grant x)
    | none => s
def Mach.arbitrate (s : Mach) : Mach := arbGo (s.bus.waiting.length + 1) s

/-- Does the PCIe function decode nothing and send nothing (R553)? -/
def Mach.d3hot (s : Mach) : Bool := s.gf F.PCIE_STAT_DSTATE == 3

/-- BUS_REQUEST: a master presents a transaction; in D3hot PCIE_IN has none (R553). Log 50. -/
def busRequest (x : BusTx) (s : Mach) : Mach :=
  if 10 ≤ x.master || x.len = 0 || 256 < x.len || (x.master == 6 && s.d3hot) then s
  else (s.onBus (fun b => { b with waiting := b.waiting ++ [x] })).arbitrate

/-- Take the oldest outstanding transaction of a master, ID, target and direction. -/
def Mach.oldestOut (s : Mach) (m id t : Nat) (wr : Bool) : Option BusTx :=
  s.bus.out.find? (fun x => x.master == m && x.id == id && s.target x.addr == t && x.wr == wr)

/-- A transaction ends: an UNLOCK write releases its lock. -/
def Mach.finish (s : Mach) (x : BusTx) : Mach :=
  let t := s.target x.addr
  let s := s.onBus (fun b => { b with out := dropOne x b.out })
  if x.unlock then s.onBus (fun b => { b with locks := b.locks.filter (fun e => !(e.1 == t && e.2.master == x.master)) })
  else s

/-- BUS_TIMEOUT of target t (R476). -/
def busTimeout (t : Nat) (s : Mach) : Mach :=
  match s.bus.out.filter (fun x => s.target x.addr == t) with
  | [] => s
  | x :: r =>
    let s := ((s.bump R.MATRIX_TIMEOUT t).evt F.MATRIX_EVT_TIMEOUT).raise E.BUS_TIMEOUT t (x.addr % 2 ^ 32)
    (s.each (x :: r) (fun s y => (s.finish y).deliver y 3 [])).arbitrate

/-- LOCK_BREAK at target t (R474). -/
def lockBreak (t : Nat) (s : Mach) : Mach :=
  match mfind s.bus.locks t with
  | some l =>
    let s := ((s.bump R.MATRIX_LOCK_BREAK).evt F.MATRIX_EVT_LOCK_BREAK).raise E.LOCK_BREAK l.master t
    (s.onBus (fun b => { b with locks := mdel b.locks t, told := b.told ++ [(l.master, l.id)] })).arbitrate
  | none => s

/-- HOST_COMPLETION_TIMEOUT: the oldest host read is answered ERR_TIMEOUT (R476). -/
def hostCompletionTimeout (s : Mach) : Mach :=
  match s.bus.out.find? (fun x => s.target x.addr == 6 && !x.wr) with
  | some x => (((s.finish x).bump R.PCIE_CPL_TIMEOUT).deliver x 3 []).arbitrate
  | none => s.bump R.PCIE_CPL_TIMEOUT

/-- Isolate the transactions at or of a block in reset (R478, R479): those at targets p end with ERR_ISOLATED, those of
masters q are absorbed, and their locks are released. -/
def Mach.isolate (s : Mach) (p : BusTx → Bool) (q : Nat → Bool) (t : Option Nat) : Mach :=
  let hit := s.bus.out.filter p
  let s := s.each hit (fun s x => (s.finish x).deliver x 4 [])
  let s := s.onBus (fun b => { b with waiting := b.waiting.filter (fun x => !q x.master),
                                      out := b.out.filter (fun x => !q x.master),
                                      locks := b.locks.filter (fun e => !q e.2.master && some e.1 != t) })
  (s.evt F.MATRIX_EVT_ISO).arbitrate

/-! ## DMA (R481 to R490) -/

def Mach.dmaSt (s : Mach) (c : Nat) : DmaSt := mget DmaSt.init s.dma c
def Mach.onDma (s : Mach) (c : Nat) (f : DmaSt → DmaSt) : Mach := { s with dma := mmod DmaSt.init s.dma c f }
def Mach.dmaAddr (s : Mach) (lo hi : Reg) (c : Nat) : Nat :=
  let v := s.rd64 lo hi c
  if hostBit ≤ v then v else v % 2 ^ 40
def Mach.setAddr (s : Mach) (lo hi : Reg) (c a : Nat) : Mach := s.wr64 lo hi a c

/-- Element size of a SWAP code (R483). -/
def swapSize (k : Nat) : Nat := [1, 2, 4, 4].getD k 1

/-- Reorder the bytes of one element. -/
def swapOne (k : Nat) (l : List Byte) : List Byte :=
  match k with
  | 1 => l.reverse
  | 2 => l.reverse
  | 3 => l.drop 2 ++ l.take 2
  | _ => l

/-- Reorder whole elements; the bytes of an element not yet whole are left over. -/
def swapAll (k : Nat) (l : List Byte) : List Byte × List Byte :=
  let n := swapSize k
  let m := l.length / n
  (((chunks n m (l.take (n * m))).map (swapOne k)).flatten, l.drop (n * m))

/-- End of the burst that starts at `a`: 16 beats, a 4 KiB boundary, `top` (R470, R482). Log 48. -/
def burstEnd (a top : Nat) : Nat := Nat.min top (Nat.min ((a / 16 + 16) * 16) ((a / 4096 + 1) * 4096))

/-- Issue the next burst of a run: a write when the bytes of the next write burst are held, else a read. Log 48. -/
def Mach.dmaNext (s : Mach) (c : Nat) : Mach :=
  let d := s.dmaSt c
  let a := d.dst + d.doneB
  let top := d.dst + d.total
  let tail := Nat.max d.dst ((top - 1) / 16 * 16)
  let e := if a < tail then burstEnd a tail else top
  if e - a ≤ d.buf.length then
    (s.wr R.DMA_CNT (d.total - (e - d.dst)) c).onDma c (fun d => { d with phase := .write d.doneB (e - a), tries := 0 })
  else
    let off := d.doneB + d.buf.length + d.rem.length
    let b := burstEnd (d.src + off) (d.src + d.total)
    s.onDma c (fun d => { d with phase := .read off (b - (d.src + off)), tries := 0 })

/-- The channel halts; its run state is emptied. -/
def Mach.dmaHalt (s : Mach) (c : Nat) : Mach :=
  (s.sf F.DMA_STAT_BUSY 0 c).onDma c (fun _ => DmaSt.init)

def Mach.dmaErrBit (s : Mach) (c : Nat) : Mach := s.setBit R.DMA_ERR c

/-- Halt on a descriptor (R486, R487). -/
def Mach.dmaDescErr (s : Mach) (c : Nat) : Mach :=
  (((s.sf F.DMA_STAT_DESC_ERR 1 c).sf F.DMA_STAT_ERR 1 c).dmaErrBit c).dmaHalt c
def Mach.dmaLoop (s : Mach) (c : Nat) : Mach := ((s.sf F.DMA_STAT_LOOP 1 c).dmaErrBit c).dmaHalt c

/-- Fetch the descriptor at NEXT (R486, R487). -/
def Mach.dmaFetch (s : Mach) (c : Nat) : Mach :=
  let a := s.dmaAddr R.DMA_NEXT_LO R.DMA_NEXT_HI c
  if a % 32 != 0 then s.dmaDescErr c
  else if s.gf F.DMA_HOPMAX_LIMIT c ≤ s.rd R.DMA_HOPS c then s.dmaLoop c
  else (s.bump R.DMA_HOPS c).onDma c (fun d => { d with phase := .fetch, tries := 0, inChain := true })

/-- Does the channel's run lead to another descriptor (R486)? -/
def Mach.dmaChains (s : Mach) (c : Nat) : Bool :=
  let d := s.dmaSt c
  if d.inChain then !d.dEnd else s.on F.DMA_CTRL_CHAIN c

/-- A run ends with every response OKAY. -/
def Mach.dmaRunEnd (s : Mach) (c : Nat) : Mach :=
  let d := s.dmaSt c
  let s := s.when (d.inChain && d.dIrq) (·.setBit R.DMA_DESC c)
  if s.dmaChains c then s.dmaFetch c else ((s.sf F.DMA_STAT_DONE 1 c).setBit R.DMA_DONE c).dmaHalt c

/-- Start a run from the registers. -/
def Mach.dmaRun (s : Mach) (c : Nat) : Mach :=
  let src := s.dmaAddr R.DMA_SRC_LO R.DMA_SRC_HI c
  let dst := s.dmaAddr R.DMA_DST_LO R.DMA_DST_HI c
  let n := s.rd R.DMA_CNT c
  let s := s.onDma c (fun d => { d with src := src, dst := dst, total := n, buf := [], rem := [], doneB := 0, tries := 0 })
  if n = 0 then s.dmaRunEnd c else s.dmaNext c

/-- DMA_GO: a write of CTRL with GO (R481); `pcie` when it comes from PCIE_IN. -/
def dmaGo (c v : Nat) (pcie : Bool) (s : Mach) : Mach :=
  if 32 ≤ c then s
  else if pcie && 28 ≤ c then s.evt F.DMA_EVT_REFUSED
  else if s.on F.DMA_STAT_BUSY c then s.evt F.DMA_EVT_REFUSED
  else
    if s.rd R.DMA_CNT c % swapSize (bits v 3 2) != 0 then
      (((s.evt F.DMA_EVT_REFUSED).sf F.DMA_STAT_CFG 1 c).sf F.DMA_STAT_ERR 1 c).dmaErrBit c
    else
      let s := ((s.wr R.DMA_CTRL (v &&& 0x3FC) c).wr R.DMA_STAT 1 c).wr R.DMA_HOPS 0 c
      (s.onDma c (fun _ => DmaSt.init)).dmaRun c

/-- The stop takes effect (R488). -/
def Mach.dmaStopped (s : Mach) (c : Nat) : Mach :=
  let d := s.dmaSt c
  let s := s.setAddr R.DMA_SRC_LO R.DMA_SRC_HI c (d.src + d.doneB)
  let s := s.setAddr R.DMA_DST_LO R.DMA_DST_HI c (d.dst + d.doneB)
  let s := s.wr R.DMA_CNT (d.total - d.doneB) c
  (s.sf F.DMA_STAT_STOPPED 1 c).dmaHalt c

/-- Ask channel c to stop: at once during a retry, else when its outstanding burst has ended. -/
def Mach.dmaStop (s : Mach) (c : Nat) : Mach :=
  if !s.on F.DMA_STAT_BUSY c then s
  else if (s.dmaSt c).tries != 0 then s.dmaStopped c
  else s.onDma c (fun d => { d with stopReq := true })

/-- DMA_CTRL_STOP. -/
def dmaCtrlStop (c : Nat) (pcie : Bool) (s : Mach) : Mach :=
  if 32 ≤ c then s else if pcie && 28 ≤ c then s.evt F.DMA_EVT_REFUSED else s.dmaStop c

/-- Free values for bytes the manual leaves undefined; an uncorrectable word of DRAM stays (R498). Log 8, 49. -/
def Mach.openBytes (s : Mach) (a n : Nat) : Mach :=
  { s with mem := memPut s.mem a ((upto n).map (fun i =>
             if s.target a = 5 && s.badWord (a + i) then memByte s.mem (a + i) else Config.openByte (s.free + i))),
           free := s.free + n }

/-- A burst has used up its retries (R484, R485). A write that the matrix itself refuses is performed in no byte (R475), one that
its target answers with an error leaves its bytes undefined. Log 49. -/
def Mach.dmaFail (s : Mach) (c code off len : Nat) (wr : Bool) : Mach :=
  let d := s.dmaSt c
  let s := (s.sf F.DMA_STAT_RESP code c).sf F.DMA_STAT_WR (b2n wr) c
  let s := s.when (wr && s.matrixCode 7 c (d.dst + off) len true = 0) (fun s => s.openBytes (d.dst + off) len)
  let s := s.dmaErrBit c
  if wr && off + len = d.total then
    let s := s.setAddr R.DMA_SRC_LO R.DMA_SRC_HI c (d.src + off)
    let s := s.setAddr R.DMA_DST_LO R.DMA_DST_HI c (d.dst + off)
    ((s.wr R.DMA_CNT 0 c).sf F.DMA_STAT_TAIL_ERR 1 c).dmaHalt c
  else
    let s := if wr || d.buf.isEmpty then s else s.busWrite 7 c (d.dst + d.doneB) d.buf
    let off := if wr then off else d.doneB + d.buf.length
    let s := s.setAddr R.DMA_SRC_LO R.DMA_SRC_HI c (d.src + off)
    let s := s.setAddr R.DMA_DST_LO R.DMA_DST_HI c (d.dst + off)
    ((s.wr R.DMA_CNT (d.total - off) c).sf F.DMA_STAT_ERR 1 c).dmaHalt c

/-- DMA_BURST_DONE: the responses of the burst in flight; `code` is the target's own. -/
def dmaBurstDone (c code : Nat) (s : Mach) : Mach :=
  let d := s.dmaSt c
  let go (off len a : Nat) (wr : Bool) : Mach :=
    let m := s.matrixCode 7 c a len wr
    let code := if m != 0 then m else code % 8
    let retry := s.gf F.DMA_CTRL_RETRY c
    let (code, s) :=
      if code != 0 then (code, s)
      else if wr then s.store a (d.buf.take len)
      else if s.target a = 5 then (b2n (s.badRange a len), s.readRange 0 a len)
      else (0, s)
    if code != 0 then
      let s := s.busErr 7 c (s.target a) a len code wr
      if d.stopReq then s.dmaStopped c
      else if d.tries < retry then (s.bump R.DMA_RETRIES c).onDma c (fun d => { d with tries := d.tries + 1 })
      else s.dmaFail c code off len wr
    else
      let s := if wr then s.onDma c (fun d => { d with buf := d.buf.drop len, doneB := d.doneB + len })
        else
          let (w, r) := swapAll (s.gf F.DMA_CTRL_SWAP c) (d.rem ++ s.mrd a len)
          s.onDma c (fun d => { d with buf := d.buf ++ w, rem := r })
      let d := s.dmaSt c
      if d.stopReq && d.doneB != d.total then s.dmaStopped c
      else if d.stopReq && s.dmaChains c then (s.when (d.inChain && d.dIrq) (·.setBit R.DMA_DESC c)).dmaStopped c
      else if d.doneB = d.total then s.dmaRunEnd c
      else s.dmaNext c
  match d.phase with
  | .read off len => go off len (d.src + off) false
  | .write off len => go off len (d.dst + off) true
  | _ => s

/-- DMA_DESC_FETCH: the descriptor's data arrives, with the target's response code (R486, R487). -/
def dmaDescFetch (c code : Nat) (s : Mach) : Mach :=
  let d := s.dmaSt c
  if d.phase != .fetch then s else
    let a := s.dmaAddr R.DMA_NEXT_LO R.DMA_NEXT_HI c
    let m := s.matrixCode 7 (32 + c) a 32 false
    let code := if m != 0 then m else code % 8
    let (code, s) := if code = 0 && s.target a = 5 then (b2n (s.badRange a 32), s.readRange 0 a 32) else (code, s)
    if code != 0 then
      let s := s.busErr 7 (32 + c) (s.target a) a 32 code false
      if d.stopReq then s.dmaStopped c
      else if d.tries < s.gf F.DMA_CTRL_RETRY c then (s.bump R.DMA_RETRIES c).onDma c (fun d => { d with tries := d.tries + 1 })
      else ((s.sf F.DMA_STAT_RESP code c).sf F.DMA_STAT_WR 0 c).dmaDescErr c
    else
      let w := s.mrd a 32
      let flags := fld w 28 4
      let swap := bits flags 2 2
      let next := fld w 16 8
      let cnt := fld w 24 4
      let s := s.wr64 R.DMA_SRC_LO R.DMA_SRC_HI (fld w 0 8) c
      let s := s.wr64 R.DMA_DST_LO R.DMA_DST_HI (fld w 8 8) c
      let s := s.wr64 R.DMA_NEXT_LO R.DMA_NEXT_HI next c
      let s := (s.wr R.DMA_CNT cnt c).sf F.DMA_CTRL_SWAP swap c
      if 16 ≤ flags || cnt % swapSize swap != 0 then s.dmaDescErr c
      else if next = a && !bitOf flags 0 then s.dmaLoop c
      else if d.stopReq then
        (s.onDma c (fun d => { d with src := fld w 0 8, dst := fld w 8 8, total := cnt, doneB := 0 })).dmaStopped c
      else (s.onDma c (fun d => { d with dEnd := bitOf flags 0, dIrq := bitOf flags 1 })).dmaRun c

end Sys2Proof.Machine
end

