-- ==== Sys2Proof/Machine/Ddr.lean ====
section
/-! DEFINITION. The DRAM controller (R491 to R509). -/
namespace Sys2Proof.Machine

/-- DRAM_READ_COMPLETE: the line at an address returns for a reader of R509. -/
def dramReadComplete (a reader : Nat) (s : Mach) : Mach := if s.target a != 5 then s else s.readLine (reader % 8) a

/-- SCRUB_READ (R503). -/
def scrubRead (s : Mach) : Mach :=
  if !s.on F.DDRC_SCRUB_CFG_EN || s.dramSize = 0 || !s.dramUp then s
  else (s.readLine 5 (dramBase + s.ddr.scrub)).onDdr (fun d => { d with scrub := (d.scrub + 64) % s.dramSize })

/-- DRAM_WRITE_DRAIN: writes issue until WR_LO are left (R497). -/
def dramWriteDrain (s : Mach) : Mach :=
  let n := s.ddr.wq.length
  let lo := s.gf F.DDRC_CFG_WR_LO
  let old := match s.ddr.wq with
    | q :: _ => decide (q.age + 1000 * s.gf F.DDRC_CFG_WR_AGE_US ≤ s.tm.up)
    | [] => false
  if !s.dramUp || !(decide (s.gf F.DDRC_CFG_WR_HI ≤ n) || old) || n ≤ lo then s else s.issueWrites (n - lo)

/-- DDRC_ECC_CLR. -/
def ddrcEccClr (v : Nat) (s : Mach) : Mach := if bitOf v 0 then s.sf F.DDRC_ECC_INFO_VALID 0 else s

/-- DDRC_CNT_CLR. -/
def ddrcCntClr (v : Nat) (s : Mach) : Mach :=
  if !bitOf v 0 then s else
    s.each [R.DDRC_ECC_CORR, R.DDRC_ECC_UNCORR, R.DDRC_REPLAY, R.DDRC_REPLAY_FAIL, R.DDRC_FREQ_CHG, R.DDRC_FREQ_FAIL, R.DDRC_RMW]
      (fun s r => s.wr r 0)

/-! ## Background work (R495) -/

/-- DRAM_REFRESH: every bank, or one bank while requests are queued. -/
def dramRefresh (bank : Option Nat) (s : Mach) : Mach :=
  let s := s.onDdr (fun d => { d with refreshes := d.refreshes + 1 })
  match bank with
  | none => s.closeRows
  | some b => s.onDdr (fun d => { d with banks := d.banks.map (fun e => if e.1 == b then (e.1, { e.2 with row := none }) else e) })

/-- DRAM_ZQ_CAL. -/
def dramZqCal (s : Mach) : Mach := s.onDdr (fun d => { d with zqs := d.zqs + 1 })

/-- DRAM_DQS_TRACK. -/
def dramDqsTrack (s : Mach) : Mach := s.onDdr (fun d => { d with tracks := d.tracks + 1 })

/-- DRAM_TEMP_READ: the hottest device, °C. -/
def dramTempRead (hottest : Nat) (s : Mach) : Mach :=
  if 85 < hottest then (s.evt F.DDRC_EVT_TEMP_HIGH).onDdr (fun d => { d with hot := true })
  else if hottest ≤ 80 then s.onDdr (fun d => { d with hot := false })
  else s

/-! ## Replay (R500) -/

/-- End of a change: answer the command that waits. -/
def Mach.freqReply (s : Mach) (c : FreqChg) (st det : Nat) : Mach :=
  match c.origin with
  | some id => (s.answer id st det noTick []).onCmd (fun k => { k with running := k.running.filter (fun e => e.2 != id) })
  | none => s

/-- A change that runs ends without a set, with the failure of R505 for the command that waits. Log 161. -/
def Mach.freqDrop (s : Mach) : Mach :=
  match s.ddr.chg with
  | some c => ((s.sf F.DDRC_FREQ_CTRL_GO 0).onDdr (fun d => { d with chg := none })).freqReply c ST.HW_FAULT 7
  | none => s

/-- Answer every interconnect transaction outstanding at DRAM. -/
def Mach.dramAnswer (s : Mach) (code : Nat) : Mach :=
  (s.each (s.bus.out.filter (fun x => s.target x.addr == 5)) (fun s x => (s.finish x).deliver x code [])).arbitrate

/-- DRAM_ALERT: a replay attempt, and whether it succeeds. -/
def dramAlert (ok : Bool) (s : Mach) : Mach :=
  if s.ddrState = 5 || s.ddrState = 6 || s.ddrState = 0 then s
  else
    let s := ((s.bump R.DDRC_REPLAY).evt F.DDRC_EVT_REPLAY).closeRows
    if ok then
      let s := s.onDdr (fun d => { d with fails := 0 })
      if s.ddrState = 4 then s.setDdr 1 else s
    else if s.ddr.fails + 1 < 3 then
      let s := s.onDdr (fun d => { d with fails := d.fails + 1 })
      if s.ddrState = 1 then s.setDdr 4 else s
    else
      let s := ((s.bump R.DDRC_REPLAY_FAIL).evt F.DDRC_EVT_REPLAY_FAIL).raise E.DRAM_REPLAY_FAIL 0 3
      ((s.freqDrop.dramAnswer 1).setDdr 5).dramStop

/-! ## Frequency change (R504, R505) -/

/-- Why a change to set k is refused: 0 accepted, else a status code. -/
def Mach.freqRefuse (s : Mach) (k : Nat) : Nat :=
  if !s.on F.DDRC_SET_TRAINED k then ST.NOT_READY
  else if s.ddr.chg.isSome || s.ddrState = 4 then ST.BUSY
  else if s.ddrState = 5 || s.ddrState = 6 then ST.STATE
  else 0

/-- Start an accepted change; `origin` is the command that waits for it. -/
def Mach.freqStart (s : Mach) (k : Nat) (origin : Option Nat) : Mach :=
  (((s.setDdr 3).sf F.DDRC_FREQ_CTRL_GO 1).dramStop).onDdr (fun d => { d with chg := some ⟨k, false, false, origin⟩ })

/-- DDRC_FREQ_GO: a write of FREQ_CTRL. -/
def ddrcFreqGo (v : Nat) (s : Mach) : Mach :=
  let k := v % 2
  let s := s.sf F.DDRC_FREQ_CTRL_SET k
  if !bitOf v 31 then s
  else if s.freqRefuse k != 0 then s.evt F.DDRC_EVT_REFUSED
  else if s.gf F.DDRC_STAT_SET = k then s
  else s.freqStart k none

/-- DRAM_FREQ_SWITCH: the queues have drained, the devices enter self-refresh, PLL_DDR is reprogrammed for the new set. -/
def dramFreqSwitch (s : Mach) : Mach :=
  match s.ddr.chg with
  | some c =>
    if c.switched then s else
      let s := (s.closeRows).onDdr (fun d => { d with wq := [], chg := some { c with switched := true } })
      let s := s.ddrTune (s.gf F.DDRC_SET_RATE c.set)
      ((s.sf F.CLK_PLL_STAT_STATE 2 3).sf F.CLK_STAT_LOCKED (putBits (s.gf F.CLK_STAT_LOCKED) 3 1 0))
  | none => s

/-- DRAM_FREQ_ABANDON: PLL_DDR goes back to the old set (R505). -/
def dramFreqAbandon (s : Mach) : Mach :=
  match s.ddr.chg with
  | some c =>
    if !c.switched || c.abandoned then s else
      let s := (s.ddrTune (s.gf F.DDRC_SET_RATE (s.gf F.DDRC_STAT_SET))).sf F.DDRC_SET_TRAINED 0 c.set
      let s := (s.bump R.DDRC_FREQ_FAIL).evt F.DDRC_EVT_FREQ_FAIL
      let s := s.onDdr (fun d => { d with chg := some { c with abandoned := true, origin := none } })
      s.freqReply c ST.HW_FAULT 7
  | none => s

/-- PLL_DDR has locked: self-refresh exit, which ends a change that runs (R504 to R506). -/
def Mach.selfRefExit (s : Mach) : Mach :=
  if s.ddrState = 2 || s.ddrState = 3 then
    match s.ddr.chg with
    | some c =>
      let s := (s.sf F.DDRC_FREQ_CTRL_GO 0).onDdr (fun d => { d with chg := none })
      let s := s.dramGo
      if c.abandoned then s
      else
        let s := if c.switched then s.sf F.DDRC_STAT_SET c.set else s
        ((s.bump R.DDRC_FREQ_CHG).evt F.DDRC_EVT_FREQ_DONE).freqReply c ST.OK 0
    | none => s.dramGo
  else s

/-- PLL_DDR loses lock (R465, R506). -/
def Mach.dramLoseClock (s : Mach) : Mach :=
  if s.ddrState = 5 || s.ddrState = 6 || s.ddrState = 0 then s
  else
    let s := (s.closeRows).dramStop
    if s.ddr.chg.isSome then s else s.setDdr 2

/-- STATE after a reset of the DDRC block: an untrained, OFFLINE or stopped controller stays so; else it accepts requests once
PLL_DDR is locked, and until then stays in self-refresh. Log 161. -/
def Mach.ddrRestart (s : Mach) : Mach :=
  if s.ddrState = 2 || s.ddrState = 3 || s.ddrState = 4 then
    if bitOf (s.gf F.CLK_STAT_LOCKED) 3 then s.dramGo else (s.setDdr 2).dramStop
  else s

/-- DRAM_HOLD_TIMEOUT: requests held for 1 ms (R506). -/
def dramHoldTimeout (s : Mach) : Mach := if s.ddr.held then s.dramAnswer 3 else s

/-- The contents of DRAM are lost (R508, R526): unlisted bytes read as 0, which nobody wrote. Log 52. -/
def Mach.dramLost (s : Mach) : Mach :=
  { s with mem := s.mem.filter (fun c => !(decide (dramBase ≤ c.1) && decide (c.1 < hostBit)))
           ddr := { s.ddr with bad := [], weak := [], wq := [] } }

end Sys2Proof.Machine
end

