-- ==== Sys2Proof/Machine/Time.lean ====
section
/-! DEFINITION. The time unit: PTP exchanges, servo, redundancy, pulses and stamps (R433 to R457). -/
namespace Sys2Proof.Machine

/-! ## Modes and roles -/

/-- Is function k (R289) in HOST mode? 0 GEOMETRY, 1 TIME_SERVO, 2 STREAM_DISCOVERY, 3 MEAS_ANALYSIS, 4 MARGIN_POLICY,
5 RX_REFILL, 6 FAILOVER, 7 LIMITER_PLAN. -/
def Mach.hostMode (s : Mach) (k : Nat) : Bool := bitOf (s.gf F.SYS_PLACE_STAT_HOST) k

def Mach.timeState (s : Mach) : Nat := s.gf F.TIME_STAT_STATE
def Mach.activePort (s : Mach) : Nat := s.gf F.TIME_STAT_ACTIVE
def TimeSt.port (t : TimeSt) (p : Nat) : PortTime := if p = 0 then t.pa else t.pb
def TimeSt.setPort (t : TimeSt) (p : Nat) (v : PortTime) : TimeSt := if p = 0 then { t with pa := v } else { t with pb := v }
def Mach.onTime (s : Mach) (f : TimeSt → TimeSt) : Mach := { s with tm := f s.tm }
def Mach.onPort (s : Mach) (p : Nat) (f : PortTime → PortTime) : Mach := s.onTime (fun t => t.setPort p (f (t.port p)))
def Mach.gmIdent (s : Mach) (p : Nat) : Option Nat := (s.tm.port p).gm.map (·.ident)
def Mach.linkUp (s : Mach) (p : Nat) : Bool := s.on F.NET_STAT_LINK p

/-- τ of R441, and the delay mechanism in force. -/
def Mach.tau (s : Mach) : Rat := pow2 (sext 8 (s.glv F.TIME_MSG_LOG_SYNC))
def Mach.p2p (s : Mach) : Bool := s.glv F.TIME_CFG_P2P != 0

/-- Identity of the active port's grandmaster as last selected. -/
def Mach.lastGm (s : Mach) : Nat := s.rd64 R.TIME_GM_LO R.TIME_GM_HI

/-- Is the standby valid for failover (R452)? -/
def Mach.standbyReady (s : Mach) : Bool :=
  let a := s.activePort
  let p := 1 - a
  decide (a < 2) && s.linkUp p && decide (s.gmIdent p = some s.lastGm) && decide (8 ≤ (s.tm.port p).samples)
    && !(s.on F.TIME_STAT_STANDBY_SUSPECT && decide (2 ≤ s.gf F.TIME_STAT_SUSPECT_CAUSE))

/-! ## Clock changes -/

/-- The frequency in force, ppb, to the register's 2^−8 ppb. Log 11. -/
def Mach.setFreq (s : Mach) (ppb : Rat) : Mach := s.wr R.TIME_FREQ (toU 32 (rhaQ (ppb * 256)))

/-- Step the clock by `ns` (R441, R443); STEPS counts it. -/
def Mach.stepClock (s : Mach) (ns : Rat) : Mach :=
  (s.onTime (fun t => { t with net := ((t.net : Int) + rhaQ (ns * 65536)).toNat })).bump R.TIME_STEPS

/-- The grid loses network time: HOLDOVER from ACQUIRE or LOCKED (R35, R39). -/
def Mach.gridHoldover (s : Mach) : Mach :=
  let g := s.gf F.TIME_GRID_STAT_STATE
  if g = 1 || g = 2 then (s.sf F.TIME_GRID_STAT_STATE 3).evt F.TIME_GRID_EVT_HOLDOVER else s

/-- Change the unit's state (R442) with what follows from it. -/
def Mach.setTimeState (s : Mach) (st : Nat) : Mach :=
  let old := s.timeState
  let s := (s.sf F.TIME_STAT_STATE st).sf F.TIME_STAT_TIME_VALID (b2n (st == 2))
  let s := if st = 2 && old != 2 then (s.evt F.TIME_EVT_VALID).onTime (fun t => { t with ever := true }) else s
  let s := if st = 3 && old != 3 then
      (s.evt F.TIME_EVT_LOST).onTime (fun t => { t with relock := true, run1us := 0, bad10us := 0 }) else s
  if st != 2 && old = 2 then s.gridHoldover else s

/-! ## Suspicion of the standby (R452) -/

def Mach.suspect (s : Mach) (cause : Nat) : Mach :=
  if s.on F.TIME_STAT_STANDBY_SUSPECT then s else
    let s := (s.sf F.TIME_STAT_STANDBY_SUSPECT 1).sf F.TIME_STAT_SUSPECT_CAUSE cause
    ((s.evt F.TIME_EVT_SUSPECT).bump R.TIME_SUSPECTS).raise E.STANDBY_SUSPECT (1 - s.activePort) cause

def Mach.unsuspect (s : Mach) (cause : Nat) : Mach :=
  if s.on F.TIME_STAT_STANDBY_SUSPECT && s.gf F.TIME_STAT_SUSPECT_CAUSE == cause then
    (s.sf F.TIME_STAT_STANDBY_SUSPECT 0).sf F.TIME_STAT_SUSPECT_CAUSE 0 else s

/-- Mean of the last 16 accepted offsets, once there are 16. -/
def mean16 (h : List Rat) : Option Rat := if h.length < 16 then none else some ((h.take 16).foldl (· + ·) 0 / 16)

/-- OTHER_GM after a selection. -/
def Mach.checkGm (s : Mach) : Mach :=
  let a := s.activePort
  if 2 ≤ a then s else
  match s.gmIdent a, s.gmIdent (1 - a) with
  | some x, some y => if x = y then s.unsuspect 2 else s.suspect 2
  | _, _ => s

/-- DIVERGE after an offset of the standby. -/
def Mach.checkDiverge (s : Mach) : Mach :=
  let a := s.activePort
  match mean16 (s.tm.port a).hist, mean16 (s.tm.port (1 - a)).hist with
  | some x, some y =>
    let d := absQ (y - x)
    let s := s.onTime (fun t => { t with divOk := if d < 500 then t.divOk + 1 else 0 })
    let s := if 16 ≤ s.tm.divOk then (s.unsuspect 1).checkGm else s
    if 1000 < d then s.suspect 1 else s
  | _, _ => s

/-! ## Failover (R453, R454) -/

/-- The snapshot a failover takes: the newer complete one. -/
def TimeSt.snapshot (t : TimeSt) : Option Snap := (t.snaps.getD t.newest none)

/-- The frequency in force in ppb. -/
def Mach.freqPpb (s : Mach) : Rat := (sext 32 (s.rd R.TIME_FREQ) : Rat) / 256

/-- Decision of a failover to the other port. -/
def Mach.failover (s : Mach) : Mach :=
  let old := s.activePort
  let new := 1 - old
  let used := s.tm.writing.isSome
  let snap := s.tm.snapshot
  let s := (s.sf F.TIME_STAT_ACTIVE new).sf F.TIME_STAT_FAILING 1
  let s := s.sf F.TIME_STAT_SNAPSHOT_USED (b2n used)
  let s := match snap with
    | some n => (s.setFreq n.f).onTime (fun t => { t with servoI := n.i, servoF := n.f })
    | none => s
  let s := s.onTime (fun t => { t with writing := none, divOk := 0 })
  let s := s.onPort old (fun _ => PortTime.init)
  let s := (s.sf F.TIME_STAT_STANDBY_SUSPECT 0).sf F.TIME_STAT_SUSPECT_CAUSE 0
  ((s.evt F.TIME_EVT_FAILOVER).bump R.TIME_FAILOVERS).raise E.FAILOVER new ((snap.map (·.seq)).getD 0)

/-- TIME_SOURCE_LOST: port p loses its source by `cause` (0 link, 1 Sync, 2 Announce; R439). Log 19. -/
def timeSourceLost (p cause : Nat) (s : Mach) : Mach :=
  if (s.tm.port p).gm.isNone then s else
  let wasReady := s.standbyReady
  let s := if cause = 1 then s.bump R.TIME_SYNC_TO else if cause = 2 then s.bump R.TIME_ANN_TO else s
  let s := s.onPort p (fun t => { t with gm := none, sync := none, req := none })
  if p != s.activePort then
    s.when (s.timeState == 3 && (s.tm.port (1 - p)).gm.isNone) (·.onTime (fun t => { t with bothLost := true }))
  else if s.on F.TIME_STAT_FAILING then
    ((s.sf F.TIME_STAT_FAILING 0).onTime (fun t => { t with bothLost := (t.port (1 - p)).gm.isNone })).setTimeState 3
  else if !s.hostMode 6 && wasReady then s.failover
  else
    let both := (s.tm.port (1 - p)).gm.isNone
    let s := if s.hostMode 6 then s.raise E.TIME_PORT_FAIL p cause else s
    let s := s.onTime (fun t => { t with bothLost := both })
    if s.timeState = 0 then s else s.setTimeState 3

/-- FAILOVER_TIMEOUT. -/
def failoverTimeout (s : Mach) : Mach :=
  if s.on F.TIME_STAT_FAILING then (s.sf F.TIME_STAT_FAILING 0).setTimeState 3 else s

/-- TIME_FAILOVER_GO, a register write; the command form refuses with a status instead (R355). -/
def timeFailoverGo (v : Nat) (s : Mach) : Mach :=
  if !bitOf v 0 then s
  else if !s.hostMode 6 || s.on F.TIME_STAT_FAILING || !s.standbyReady then s.evt F.TIME_EVT_REFUSED
  else s.failover

/-- STANDBY_SILENT. -/
def standbySilent (s : Mach) : Mach :=
  let a := s.activePort
  if decide (a < 2) && (s.tm.port (1 - a)).gm.isNone && (s.tm.port a).gm.isSome then s.suspect 3 else s

/-! ## Offsets (R440) and the servo (R441) -/

/-- Servo step on an accepted offset o (ns) of the active port. -/
def Mach.servo (s : Mach) (o : Rat) : Mach :=
  let kp : Rat := (s.rd R.TIME_SERVO_KP : Rat) / 65536
  let ki : Rat := (s.rd R.TIME_SERVO_KI : Rat) / 65536
  if s.tm.first then
    ((s.stepClock (-o)).setFreq 0).onTime (fun t => { t with first := false, relock := false, servoI := 0, servoF := 0 })
  else if s.tm.relock then
    let s := s.onTime (fun t => { t with relock := false })
    if 1000 < absQ o then s.stepClock (-o) else s
  else
    let lim := s.rd R.TIME_STEP_NS
    if lim != 0 && decide ((lim : Rat) < absQ o) then s.stepClock (-o)
    else
      let i := s.tm.servoI + ki * o / s.tau
      let f := clampQ (-500000) 500000 (-(kp * o / s.tau + i))
      (s.setFreq f).onTime (fun t => { t with servoI := i, servoF := f })

/-- An offset in 2^−16 ns, as the 64-bit registers hold it. Log 11. -/
def ofsWord (o : Rat) : Nat := toU 64 (rhaQ (o * 65536))

/-- States of R442 after an accepted offset of the active port. -/
def Mach.timeTrack (s : Mach) (o : Rat) : Mach :=
  let run := if absQ o ≤ 1000 then s.tm.run1us + 1 else 0
  let bad := if 10000 < absQ o then s.tm.bad10us + 1 else 0
  let s := s.onTime (fun t => { t with run1us := run, bad10us := bad })
  let st := s.timeState
  let s := if st = 0 || st = 3 then s.setTimeState 1 else s
  if s.timeState = 1 && 8 ≤ run then s.setTimeState 2
  else if s.timeState = 2 && 8 ≤ bad then (s.onTime (fun t => { t with run1us := 0, bad10us := 0 })).setTimeState 1
  else s

/-- Port p becomes active because the active port has no source when p first has one (R451, R456). -/
def Mach.adopt (s : Mach) (p : Nat) : Mach :=
  let a := s.activePort
  let free := decide (2 ≤ a) || (s.tm.port a).gm.isNone
  if p != a && free && (s.timeState = 0 || (s.timeState = 3 && (!s.hostMode 6 || s.tm.bothLost))) then
    let s := s.sf F.TIME_STAT_ACTIVE p
    match s.gmIdent p with
    | some g => s.wr64 R.TIME_GM_LO R.TIME_GM_HI g
    | none => s
  else s

/-- Port p accepts offset o. -/
def Mach.accept (s : Mach) (p seq : Nat) (o mpd : Rat) : Mach :=
  let s := s.onPort p (fun t => { t with lastO := some o, outliers := 0, samples := Nat.min 255 (t.samples + 1),
                                         hist := (o :: t.hist).take 16 })
  let s := s.adopt p
  if p = s.activePort then
    let s := (s.wr64 R.TIME_OFS_LO R.TIME_OFS_HI (ofsWord o)).wr R.TIME_MPD (rhaQ mpd).toNat
    let s := s.step32 R.TIME_SAMPLE_SEQ
    let s := s.when (s.hostMode 1) (·.evt F.TIME_EVT_SAMPLE)
    let s := s.sf F.TIME_STAT_FAILING 0
    let s := if s.hostMode 1 then s.onTime (fun t => { t with first := false, relock := false }) else s.servo o
    let s := s.timeTrack o
    let s := s.onTime (fun t => { t with snaps := match t.writing with
                                           | some w => t.snaps.set (1 - t.newest) (some w)
                                           | none => t.snaps
                                         newest := if t.writing.isSome then 1 - t.newest else t.newest })
    s.onTime (fun t => { t with writing := some ⟨t.servoI, s.freqPpb, o, mpd, seq, t.net⟩ })
  else
    let s := (s.wr64 R.TIME_SHADOW_LO R.TIME_SHADOW_HI (ofsWord o)).wr R.TIME_SHADOW_MPD (rhaQ mpd).toNat
    s.checkDiverge

/-- Form the offset of a Sync whose t1 (2^−16 ns) is known, and judge it (R440). -/
def Mach.offset (s : Mach) (p seq : Nat) (t1 : Int) (t2 : Nat) : Mach :=
  let pt := s.tm.port p
  let ns : Int → Rat := fun x => (x : Rat) / 65536
  let d? : Option Rat :=
    if s.p2p then pt.pdel
    else pt.exch.map (fun e => (ns ((t2 : Int) - t1) + ns ((e.2 : Int) - e.1)) / 2)
  match d? with
  | none => s
  | some d =>
    let d := if d < 0 then 0 else d
    let mpd := if pt.dn < 16 then (pt.mpd * pt.dn + d) / (pt.dn + 1) else pt.mpd + (d - pt.mpd) / 16
    let s := s.onPort p (fun t => { t with dn := Nat.min 16 (t.dn + 1), mpd := mpd })
    let asym : Rat := (sext 32 (s.rd R.TIME_PORT_ASYM p) : Rat) / 1000
    let o := ns ((t2 : Int) - t1) - mpd - asym
    match pt.lastO with
    | some l =>
      if 10000 < absQ (o - l) && pt.outliers < 3 then
        (s.bump R.TIME_OUTLIERS).onPort p (fun t => { t with outliers := t.outliers + 1 })
      else s.accept p seq o mpd
    | none => s.accept p seq o mpd

/-- Receive stamp at the reference plane (R434): RX_LAT in ps is added. -/
def Mach.rxStamp (s : Mach) (p t : Nat) : Nat := t + s.gf F.TIME_PORT_RX_LAT_PS p * 65536 / 1000
def Mach.txStamp (s : Mach) (p t : Nat) : Nat := t + s.gf F.TIME_PORT_TX_LAT_PS p * 65536 / 1000

/-- PTP_SYNC_RECEIVE: a Sync of grandmaster gm on port p; origin and correction in 2^−16 ns, stamp at the balls. -/
def ptpSyncReceive (p seq gm : Nat) (twoStep : Bool) (t1 : Nat) (corr : Int) (t2 : Nat) (s : Mach) : Mach :=
  if s.gmIdent p != some gm then s
  else if twoStep then s.onPort p (fun t => { t with sync := some (seq, s.rxStamp p t2, corr) })
  else s.offset p seq ((t1 : Int) + corr) (s.rxStamp p t2)

/-- PTP_FOLLOW_UP_RECEIVE. -/
def ptpFollowUpReceive (p seq gm t1 : Nat) (corr : Int) (s : Mach) : Mach :=
  match (s.tm.port p).sync with
  | some (q, t2, _) =>
    if q = seq && s.gmIdent p == some gm then
      (s.onPort p (fun t => { t with sync := none })).offset p seq ((t1 : Int) + corr) t2
    else s
  | none => s

/-- SERVO_SNAPSHOT: the copy completes, its SEQ written last (R453). -/
def servoSnapshot (s : Mach) : Mach :=
  match s.tm.writing with
  | some w => s.onTime (fun t => { t with snaps := t.snaps.set (1 - t.newest) (some w), newest := 1 - t.newest, writing := none })
  | none => s

/-! ## Best-master selection and delay exchanges (R437, R438) -/

/-- Is data set a better than b? Log 20. -/
def GmData.better (a b : GmData) : Bool :=
  let l := [(a.prio1, b.prio1), (a.cls, b.cls), (a.acc, b.acc), (a.var, b.var), (a.prio2, b.prio2), (a.ident, b.ident),
            (a.steps, b.steps)]
  match l.find? (fun e => e.1 != e.2) with
  | some e => e.1 < e.2
  | none => false

/-- PTP_ANNOUNCE_RECEIVE. Log 20. -/
def ptpAnnounceReceive (p : Nat) (d : GmData) (s : Mach) : Mach :=
  let old := (s.tm.port p).gm
  let take := match old with
    | none => true
    | some g => decide (g.ident = d.ident) || GmData.better d g
  if !take then s else
  let changed := match old with
    | some g => g.ident != d.ident
    | none => p == s.activePort && s.lastGm != d.ident
  let s := s.onPort p (fun t => { t with gm := some d, silent := false, hist := if changed then [] else t.hist,
                                         sync := if changed then none else t.sync })
  let s := if p = s.activePort then
      let s := s.when (s.lastGm != d.ident) (·.evt F.TIME_EVT_GM_CHANGE)
      s.wr64 R.TIME_GM_LO R.TIME_GM_HI d.ident
    else s.unsuspect 3
  s.checkGm

/-- PTP_DELAY_REQ_SEND: the port's own request leaves at stamp t3 (balls). -/
def ptpDelayReqSend (p seq t3 : Nat) (s : Mach) : Mach :=
  let kind := if s.p2p then 1 else 0
  (s.onPort p (fun t => { t with req := some (seq, s.txStamp p t3) })).onTime
    (fun t => { t with lastPtp := mput t.lastPtp p (kind, seq) })

/-- PTP_DELAY_RESP_RECEIVE: E2E t4 is the response's stamp; P2P t4 is the own receive stamp (balls), t2p and t3p the peer's. -/
def ptpDelayRespReceive (p seq t4 t2p t3p : Nat) (s : Mach) : Mach :=
  match (s.tm.port p).req with
  | some (q, t3) =>
    if q != seq then s
    else if s.p2p then
      let d : Rat := (((s.rxStamp p t4 : Int) - t3 - ((t3p : Int) - t2p) : Int) : Rat) / 65536 / 2
      s.onPort p (fun t => { t with req := none, pdel := some d })
    else s.onPort p (fun t => { t with req := none, exch := some (t3, t4) })
  | none => s

/-- PTP frames that wait for the transmitter of port p (R413). -/
def Mach.ptpWait (s : Mach) (p : Nat) : Nat := (mfind s.tm.ptpQ p).getD 0

/-- PTP_PDELAY_REQ_RECEIVE: answered under P2P, in the form TWO_STEP gives (R438): one frame, or two with Follow_Up. -/
def ptpPdelayReqReceive (p seq : Nat) (s : Mach) : Mach :=
  if !s.p2p then s else
    let kind := if s.glv F.TIME_CFG_TWO_STEP != 0 then 3 else 2
    s.onTime (fun t => { t with lastPtp := mput t.lastPtp p (kind, seq)
                                ptpQ := if s.linkUp p then mput t.ptpQ p (s.ptpWait p + kind - 1) else t.ptpQ })

/-! ## Configuration and restart (R437, R451) -/

/-- Ranges of each profile: DOMAIN, LOG_SYNC, LOG_ANN, LOG_DREQ, and whether only P2P is allowed. -/
def profileOk (cfg msg : Nat) : Bool :=
  let dom := bits cfg 8 8
  let ls := sext 8 (bits msg 0 8)
  let la := sext 8 (bits msg 8 8)
  let ld := sext 8 (bits msg 16 8)
  let at_ := bits msg 24 4
  let inR : Int → Int → Int → Bool := fun lo hi v => decide (lo ≤ v) && decide (v ≤ hi)
  decide (dom ≤ 127) && inR 2 10 at_ &&
  match bits cfg 0 2 with
  | 0 => inR (-7) 1 ls && inR (-3) 3 la && inR (-7) 6 ld
  | 1 => inR (-4) 1 ls && inR 0 4 la && inR (-3) 5 ld
  | 2 => inR (-7) (-1) ls && inR (-3) 1 la && inR (-7) (-1) ld
  | _ => inR (-7) 1 ls && inR (-3) 3 la && inR (-7) 5 ld && bitOf cfg 17

/-- The time unit starts (R442, R451). -/
def Mach.timeRestart (s : Mach) : Mach :=
  let s := s.setTimeState 0
  let s := s.sf F.TIME_STAT_ACTIVE (s.gf F.TIME_REDUND_TIME_PREF_B)
  let s := ((s.sf F.TIME_STAT_FAILING 0).sf F.TIME_STAT_STANDBY_SUSPECT 0).sf F.TIME_STAT_SUSPECT_CAUSE 0
  s.onTime (fun t => { t with pa := .init, pb := .init, first := true, relock := false, run1us := 0, bad10us := 0,
                              snaps := [none, none], newest := 0, writing := none, divOk := 0, bothLost := false })

/-- Apply a configuration that is in range. -/
def Mach.timeApply (s : Mach) (cfg msg : Nat) : Mach := ((s.setLv R.TIME_CFG cfg).setLv R.TIME_MSG msg).timeRestart

/-- TIME_COMMIT. -/
def timeCommit (v : Nat) (s : Mach) : Mach :=
  if !bitOf v 0 then s
  else if profileOk (s.rd R.TIME_CFG) (s.rd R.TIME_MSG) then s.timeApply (s.rd R.TIME_CFG) (s.rd R.TIME_MSG)
  else s.evt F.TIME_EVT_REFUSED

/-! ## Host adjustments (R443) -/

/-- Apply a host adjustment: frequency in 2^−8 ppb, phase in ns. -/
def Mach.adjust (s : Mach) (mode : Nat) (freq phase : Int) : Mach :=
  let s := s.wr R.TIME_FREQ (toU 32 freq)
  match mode with
  | 1 => (s.sf F.TIME_STAT_SLEWING 1).onTime (fun t => { t with slew := some phase })
  | 2 => ((s.sf F.TIME_STAT_SLEWING 0).onTime (fun t => { t with slew := none })).stepClock phase
  | _ => s

/-- Are the mode and the phase within R443 and R457? -/
def adjustOk (mode : Nat) (freq phase : Int) : Bool :=
  decide (mode ≤ 2) && decide (-128000000 ≤ freq) && decide (freq ≤ 128000000)
    && (mode != 1 || (decide (-500000 ≤ phase) && decide (phase ≤ 500000)))

/-- TIME_ADJ_GO, a write of ADJ_CTRL. -/
def timeAdjGo (v : Nat) (s : Mach) : Mach :=
  if !bitOf v 31 then s
  else
    let freq := sext 32 (s.rd R.TIME_ADJ_FREQ)
    let phase := sext 32 (s.rd R.TIME_ADJ_PHASE)
    if !s.hostMode 1 || !adjustOk (v % 4) freq phase then s.evt F.TIME_EVT_REFUSED else s.adjust (v % 4) freq phase

/-- PHASE_SLEW_END. -/
def phaseSlewEnd (s : Mach) : Mach := (s.sf F.TIME_STAT_SLEWING 0).onTime (fun t => { t with slew := none })

/-! ## Pulse, event input, stamp queues (R446 to R448) -/

/-- The latest instant of R448 at or before network time t ns, in 2^−16 ns: a second of network time plus PPS_OFS. -/
def ppsInstant (t : Nat) (ofs : Int) : Nat := ((((t : Int) - ofs) / 1000000000 * 1000000000 + ofs) * 65536).toNat

/-- PPS_PULSE: the pin rises for the second of network time that has begun. -/
def ppsPulse (s : Mach) : Mach :=
  if s.on F.TIME_PPS_CFG_PPS_EN && s.timeState == 2 then
    s.onTime (fun t => { t with ppsAt := some (ppsInstant t.netNs (sext 32 (s.rd R.TIME_PPS_OFS))) })
  else s

/-- Level of PTP_PPS_OUT: high for WIDTH_US from the instant of a pulse while the pulse is enabled and the unit is in VALID (R448). -/
def Mach.ppsOut (s : Mach) : Bool :=
  s.on F.TIME_PPS_CFG_PPS_EN && s.timeState == 2
    && s.tm.ppsAt.any (fun t => decide (t ≤ s.tm.net) && decide (s.tm.net < t + s.gf F.TIME_PPS_CFG_WIDTH_US * 1000 * 65536))

/-- PTP_EVT_IN_EDGE: an edge with its stamp (2^−16 ns). -/
def ptpEvtInEdge (rising : Bool) (t : Nat) (s : Mach) : Mach :=
  if !s.on F.TIME_PPS_CFG_EVT_EN || rising == s.on F.TIME_PPS_CFG_EVT_FALL then s
  else if 16 ≤ s.tm.evtq.length then
    s.sf F.TIME_EVTQ_STAT_LOST (Nat.min 255 (s.gf F.TIME_EVTQ_STAT_LOST + 1))
  else
    let s := s.when s.tm.evtq.isEmpty (·.evt F.TIME_EVT_EVTQ)
    s.onTime (fun q => { q with evtq := q.evtq ++ [t] })

/-- EVTQ_POP. -/
def evtqPop (v : Nat) (s : Mach) : Mach :=
  if bitOf v 0 then (s.sf F.TIME_EVTQ_STAT_LOST 0).onTime (fun q => { q with evtq := q.evtq.drop 1 }) else s

def TimeSt.txts (t : TimeSt) (p : Nat) : List TxStamp := if p = 0 then t.txtsA else t.txtsB
def TimeSt.setTxts (t : TimeSt) (p : Nat) (l : List TxStamp) : TimeSt :=
  if p = 0 then { t with txtsA := l } else { t with txtsB := l }

/-- A transmit stamp arrives at the queue of port p (R446, R447). -/
def Mach.pushTxts (s : Mach) (p tsid t : Nat) : Mach :=
  let q := s.tm.txts p
  if 16 ≤ q.length then
    let s := s.bump R.TIME_PORT_TXTS_LOST p
    if s.on F.TIME_PORT_TXTS_STAT_OVF p then s
    else
      ((s.sf F.TIME_PORT_TXTS_STAT_OVF 1 p).sf F.TIME_PORT_TXTS_STAT_FIRST_LOST tsid p).evt F.TIME_EVT_TXTS_OVF
  else
    let s := s.when q.isEmpty (·.evt F.TIME_EVT_TXTS)
    s.onTime (fun u => u.setTxts p (q ++ [⟨tsid % 65536, t⟩]))

/-- TXTS_POP. -/
def txtsPop (p v : Nat) (s : Mach) : Mach :=
  if bitOf v 0 then s.onTime (fun t => t.setTxts p ((t.txts p).drop 1)) else s

/-- TIME_NOW_NS_READ: latches the seconds (R436). -/
def timeNowNsRead (s : Mach) : Mach :=
  let sec := s.tm.netNs / 1000000000
  (s.wr R.TIME_NOW_SEC_LO (sec % 2 ^ 32)).wr R.TIME_NOW_SEC_HI (sec / 2 ^ 32 % 2 ^ 16)

/-! ## Control traffic (R455) -/

/-- Move the control port. -/
def Mach.ctrlMove (s : Mach) (p : Nat) : Mach :=
  if s.gf F.TIME_STAT_CTRL_PORT = p then s
  else ((s.sf F.TIME_STAT_CTRL_PORT p).bump R.TIME_CTRL_MOVES).evt F.TIME_EVT_CTRL_MOVE

/-- A link came up or went down. -/
def Mach.ctrlLink (s : Mach) : Mach :=
  let a := s.linkUp 0
  let b := s.linkUp 1
  match s.gf F.TIME_STAT_CTRL_PORT with
  | 0 => if a then s
         else (if b then s.ctrlMove 1 else s.ctrlMove 2).onTime (fun t => { t with ctrlWait := false })
  | 1 => if !b then
           (if a then (s.ctrlMove 0).onTime (fun t => { t with ctrlWait := false }) else (s.ctrlMove 2))
         else s.onTime (fun t => { t with ctrlWait := a })
  | _ => if a then (s.ctrlMove 0).onTime (fun t => { t with ctrlWait := false })
         else if b then s.ctrlMove 1 else s

/-- CTRL_PORT_RETURN: NETA has been up for 10 s. -/
def ctrlPortReturn (s : Mach) : Mach :=
  if s.linkUp 0 && s.tm.ctrlWait then (s.ctrlMove 0).onTime (fun t => { t with ctrlWait := false }) else s

end Sys2Proof.Machine
end

