-- ==== Sys2Proof/Machine/Net.lean ====
section
/-! DEFINITION. The MACs and the media stream engine (R403 to R432, R445, R449, R450). -/
namespace Sys2Proof.Machine

/-! ## Ports, streams, instants -/

def Mach.netPort (s : Mach) (p : Nat) : NetPort := if p = 0 then s.net0 else s.net1
def Mach.onNet (s : Mach) (p : Nat) (f : NetPort → NetPort) : Mach :=
  if p = 0 then { s with net0 := f s.net0 } else { s with net1 := f s.net1 }
def Mach.strIn (s : Mach) (k : Nat) : StrIn := mget StrIn.off s.sin k
def Mach.strOut (s : Mach) (k : Nat) : StrOut := mget StrOut.off s.sout k
def Mach.onIn (s : Mach) (k : Nat) (f : StrIn → StrIn) : Mach := { s with sin := mmod StrIn.off s.sin k f }
def Mach.onOut (s : Mach) (k : Nat) (f : StrOut → StrOut) : Mach := { s with sout := mmod StrOut.off s.sout k f }

/-- Grid instants (1/96 kHz) of network time that have passed (R32). -/
def Mach.gridNow (s : Mach) : Nat := s.tm.net * 96000 / (65536 * 1000000000)

/-- Network time (2^−16 ns) of a grid instant, rounded up. -/
def gridNet (n : Nat) : Nat := (n * 65536 * 1000000000 + 95999) / 96000

/-- Samples per channel of a packet at the stream's rate (R424). -/
def ptimeSamples (rate ptime : Nat) : Nat :=
  let p := [6, 12, 16, 48].getD ptime 6
  if rate = 4 then 2 * p else p

/-- The same in samples of 96 kHz. -/
def ptimeGrid (ptime : Nat) : Nat := 2 * [6, 12, 16, 48].getD ptime 6

/-- Depth J of R425 in samples. -/
def jitterDepth (us : Nat) : Nat := (us * 96 + 500) / 1000

def StrIn.word (x : StrIn) : Nat := if x.l32 then 4 else 3
def StrOut.word (x : StrOut) : Nat := if x.l32 then 4 else 3

/-- Count running ingress streams and enabled egress streams (R432). -/
def Mach.strCount (s : Mach) : Mach :=
  let i := (s.sin.filter (fun e => s.gf F.STRM_IN_STAT_STATE e.1 == 2)).length
  let o := (s.sout.filter (fun e => e.2.en)).length
  (s.sf F.STRM_STAT_IN_RUN i).sf F.STRM_STAT_OUT_RUN o

/-! ## Frames -/

/-- What the MAC reads of a frame's headers. `l3` is the offset behind the ethertype. -/
structure Parsed where
  ety : Nat
  vlan : Option Nat
  l3 : Nat
  ip : Bool
  proto : Nat
  frag : Bool
  src : Nat
  dst : Nat
  udp : Bool
  sport : Nat
  dport : Nat
  payload : List Byte

def beAt (l : List Byte) (o n : Nat) : Nat := beNat (slice l o n)

/-- Read the headers of R406. -/
def parseFrame (d : List Byte) : Parsed :=
  let e0 := beAt d 12 2
  let tagged := e0 == 0x8100
  let ety := if tagged then beAt d 16 2 else e0
  let l3 := if tagged then 18 else 14
  let ip := ety == 0x0800
  let ihl := 4 * (fld d l3 1 % 16)
  let fragw := beAt d (l3 + 6) 2
  let later := fragw % 8192 != 0
  let frag := later || bitOf fragw 13
  let proto := fld d (l3 + 9) 1
  let u := l3 + ihl
  let udp := ip && proto == 17 && !later
  let ulen := beAt d (u + 4) 2
  { ety := ety, vlan := if tagged then some (beAt d 14 2) else none, l3 := l3, ip := ip, proto := proto, frag := ip && frag,
    src := if ip then beAt d (l3 + 12) 4 else 0, dst := if ip then beAt d (l3 + 16) 4 else 0, udp := udp,
    sport := if udp then beAt d u 2 else 0, dport := if udp then beAt d (u + 2) 2 else 0,
    payload := if udp then slice d (u + 8) (ulen - 8) else [] }

/-! ## Receive rings (R408 to R410) -/

def Mach.rxBase (s : Mach) (p r : Nat) : Nat := s.gf F.NET_RX_BASE_LO_ADDR p r * 64 + 2 ^ 32 * s.gf F.NET_RX_BASE_HI_ADDR p r
def Mach.poolBase (s : Mach) (p r : Nat) : Nat := s.gf F.NET_RX_POOL_LO_ADDR p r * 64 + 2 ^ 32 * s.gf F.NET_RX_POOL_HI_ADDR p r

/-- One step of a frame's way into a ring: pieces still to write, buffers taken, next descriptor and pool entry. -/
def rxFill (p r n : Nat) (hw : Bool) : List (List Byte) → List (Nat × Nat × Nat) → Nat → Nat → Mach
    → Option (List (Nat × Nat × Nat)) × Nat × Nat × Mach
  | [], used, d, q, s => (some used, d, q, s)
  | piece :: rest, used, d, q, s =>
    let slot := d != s.rd R.NET_RX_TAIL p r
    let pool := q != s.rd R.NET_RX_POOL_TAIL p r
    if !slot || (hw && !pool) then (none, d, q, s)
    else
      let at_ := if hw then s.poolBase p r + 8 * q else s.rxBase p r + 16 * d
      let a := leNat (s.busData (8 + p) r at_ 8)
      let s := (s.busRead (8 + p) r at_ 8).busWrite (8 + p) r a piece
      rxFill p r n hw rest (used ++ [(d, a, piece.length)]) ((d + 1) % n) (if hw then (q + 1) % n else q) s

/-- Write a frame into ring r of port p, with its classifier code (R408 to R410). -/
def Mach.ringWrite (s : Mach) (p r code : Nat) (vlan : Bool) (data : List Byte) (stamp : Nat) : Mach :=
  if !s.on F.NET_RX_CTRL_EN p r then s.bump R.NET_RX_NOMATCH p
  else
    let n := 2 ^ s.gf F.NET_RX_CTRL_SIZE p r
    let bs := s.gf F.NET_RX_CTRL_BUFSZ p r
    let hw := !s.hostMode 5
    let pieces := chunks bs (data.length / bs + 1) data
    match rxFill p r n hw pieces [] (s.rd R.NET_RX_HEAD p r) (s.rd R.NET_RX_POOL_HEAD p r) s with
    | (none, _, _, s) => (s.bump R.NET_RX_NOBUF_DROP p).evt F.NET_EVT_NOBUF p
    | (some used, d, q, s) =>
      let last := used.length
      let ts := s.rxStamp p stamp * 5 / (4 * 65536) % 2 ^ 32
      let s := s.each used.zipIdx (fun s (x, i) =>
        let (dd, a, len) := x
        let eof := i + 1 == last
        let flags := 1 + 2 * b2n (i == 0) + 4 * b2n eof + 8 * b2n vlan + 16 * code
        let at_ := s.rxBase p r + 16 * dd
        let s := if hw then s.busWrite (8 + p) r at_ (toLE 8 a) else s
        s.busWrite (8 + p) r (at_ + 8) (toLE 2 len ++ toLE 2 flags ++ if eof then toLE 4 ts else []))
      (s.wr R.NET_RX_HEAD d p r).wr R.NET_RX_POOL_HEAD q p r

/-! ## Ingress streams (R424 to R427, R449) -/

/-- Payload of an RTP packet, without contributing sources, extension and padding. -/
def rtpPayload (l : List Byte) : List Byte :=
  let b0 := fld l 0 1
  let h := 12 + 4 * (b0 % 16)
  let h := if bitOf b0 4 then h + 4 + 4 * beAt l (h + 2) 2 else h
  let pad := if bitOf b0 5 then ((l.getLast?).map (·.toNat)).getD 0 else 0
  (l.drop h).take (l.length - h - pad)

/-- The internal word of a media word (R52). -/
def mediaWord (l32 : Bool) (b : List Byte) : Int :=
  if l32 then rhu 7 (sext 32 (beNat b)) else sext 24 (beNat b) * 2

/-- Extended sequence number nearest to the highest seen. -/
def extSeq (top : Option Nat) (seq : Nat) : Nat :=
  match top with
  | none => 65536 + seq
  | some t => ((t : Int) + sext 16 ((seq + 65536 - t % 65536) % 65536)).toNat

/-- Stream-rate index nearest to now (R425). -/
def nearestIndex (low now : Nat) : Nat := ((now : Int) + sext 32 ((low % 2 ^ 32 + 2 ^ 32 - now % 2 ^ 32) % 2 ^ 32)).toNat

/-- A media packet for ingress stream k on port p. Log 54, 113. -/
def Mach.mediaIn (s : Mach) (p k : Nat) (rtp : List Byte) : Mach :=
  let x := s.strIn k
  if beAt rtp 1 1 % 128 != x.pt || beAt rtp 0 1 / 64 != 2 then s
  else
    let s := s.onIn k (fun x => if p = 0 then { x with lastA := some s.tm.up } else { x with lastB := some s.tm.up })
    let pay := rtpPayload rtp
    let n := ptimeSamples x.rate x.ptime
    if pay.length != x.chans * n * x.word then (s.bump R.STRM_IN_BAD k).evt F.STRM_EVT_BAD_PAYLOAD
    else
      let e := extSeq x.top (beAt rtp 2 2)
      if x.seen.contains e then s.bump R.STRM_IN_DUP k
      else
        let top := match x.top with | some t => Nat.max t e | none => e
        let gap := match x.top with | some t => (upto (e - t - 1)).map (· + (t + 1)) | none => []
        let s := s.onIn k (fun x => { x with top := some top, seen := (e :: x.seen).filter (fun q => top < q + 32768),
                                             missing := x.missing.filter (fun q => q != e) ++ gap })
        let s := s.bump R.STRM_IN_PKTS k
        let scale := if x.rate = 4 then 1 else 2
        let now := s.gridNow
        let low := (beAt rtp 4 4 + 2 ^ 32 - x.offset % 2 ^ 32) % 2 ^ 32
        let k0 := nearestIndex low (now / scale)
        let n0 := scale * k0
        let j := jitterDepth x.jitUs
        let stopped := match s.ddr.gap with
          | some t0 => decide (t0 + 500000 < s.tm.up) && decide (now + 64 < n0 + j)
          | none => false
        if gridNet (n0 + j) < s.tm.net || stopped then (s.bump R.STRM_IN_LATE k).evt F.STRM_EVT_LATE
        else if gridNet n0 > s.tm.net + 8000000 * 65536 then (s.bump R.STRM_IN_EARLY k).evt F.STRM_EVT_EARLY
        else
          let words := chunks x.word (x.chans * n) pay
          let rows := chunks2 x.chans n (words.map (mediaWord x.l32))
          let s := s.onIn k (fun x => { x with held := rows.zipIdx.foldl (fun h (w, i) => mput h (n0 + scale * i + j) w) x.held })
          let st := s.gf F.STRM_IN_STAT_STATE k
          let s := s.when (st == 3) (·.evt F.STRM_EVT_RESUME)
          (s.sf F.STRM_IN_STAT_STATE 2 k).strCount
where
  /-- Cut a list into rows of c. -/
  chunks2 (c : Nat) : Nat → List Int → List (List Int)
    | 0, _ => []
    | m + 1, l => if l.isEmpty then [] else l.take c :: chunks2 c m (l.drop c)

/-- MERGE_WINDOW_EXPIRE: an extended sequence number of stream k has arrived on neither port (R449). -/
def mergeWindowExpire (k seq : Nat) (s : Mach) : Mach :=
  let x := s.strIn k
  match x.missing.find? (fun q => q % 65536 == seq % 65536) with
  | some e => (s.onIn k (fun x => { x with missing := x.missing.filter (fun q => q != e) })).bump R.STRM_IN_LOST k
  | none => s

/-- STREAM_LOST (R427). -/
def streamLost (k : Nat) (s : Mach) : Mach :=
  if 256 ≤ k || s.gf F.STRM_IN_STAT_STATE k != 2 then s else
    let last := ((s.strIn k).top.getD 0) % 65536
    (((s.sf F.STRM_IN_STAT_STATE 3 k).evt F.STRM_EVT_LOST).raise E.STREAM_LOST k last).strCount

/-- Samples a channel of a running stream holds for the 16 instants of a tick; none where absent (R22). -/
def Mach.ninSamples (s : Mach) (nin n0 : Nat) : Option (Nat × List (Option Int)) :=
  match s.sin.find? (fun e => e.2.en && decide (e.2.pool ≤ nin) && decide (nin < e.2.pool + e.2.chans)) with
  | none => none
  | some (k, x) =>
    if s.gf F.STRM_IN_STAT_STATE k != 2 then none else
    let c := nin - x.pool
    let step := if x.rate = 4 then 1 else 2
    let idx := (upto 16).filter (fun i => (n0 + i) % step = 0)
    some (k, idx.map (fun i => (mfind x.held (n0 + i)).map (fun l => l.getD c 0)))

/-- Forget samples delivered before instant n0. -/
def Mach.ninDrop (s : Mach) (n0 : Nat) : Mach :=
  { s with sin := s.sin.map (fun e => (e.1, { e.2 with held := e.2.held.filter (fun h => decide (n0 ≤ h.1)) })) }

/-! ## Reception (R406, R407, R411, R416 to R418) -/

/-- The classifier entry a frame matches (R406 step 8). Log 112. -/
def Mach.classify (s : Mach) (p : Nat) (f : Parsed) : Option Nat :=
  (upto 16).find? (fun k =>
    let v := s.gf F.NET_CLASS_VALUE p k
    match s.gf F.NET_CLASS_KIND p k with
    | 1 => f.ety == v
    | 2 => f.udp && f.dport == v
    | 3 => f.vlan.any (fun t => t / 8192 == v)
    | _ => false)

/-- Firmware protocol of a frame (R406 step 7): 0 ARP, 1 ICMP echo, 2 IGMP query, 3 SAP. -/
def Mach.fwProto (s : Mach) (p : Nat) (d : List Byte) (f : Parsed) : Option Nat :=
  let ip := (s.netPort p).ip.addr
  let u := f.l3 + 4 * (fld d f.l3 1 % 16)
  if f.ety == 0x0806 && beAt d (f.l3 + 6) 2 == 1 && beAt d (f.l3 + 24) 4 == ip then some 0
  else if f.ip && f.proto == 1 && fld d u 1 == 8 && f.dst == ip then some 1
  else if f.ip && f.proto == 2 && fld d u 1 == 0x11
      && (f.dst == ip || f.dst == 0xE0000001 || s.sin.any (fun e => e.2.en && e.2.group == f.dst)) then some 2
  else if f.udp && f.dport == 9875 && !s.hostMode 2 then some 3
  else none

/-- A pause frame of q quanta (R417). -/
def Mach.pauseFrame (s : Mach) (p q : Nat) : Mach :=
  let s := s.bump R.NET_PAUSE_RCVD p
  if !s.on F.NET_CFG_PAUSE_RX p || (s.netPort p).ignore then s
  else s.sf F.NET_STAT_PAUSED (b2n (q != 0)) p

/-- A good frame `d`, whose headers read as `f`, has arrived at port p: it is counted and goes where R406 to R408 send it. -/
def Mach.rxTake (s : Mach) (p : Nat) (d : List Byte) (f : Parsed) (stamp : Nat) : Mach :=
  let s := s.bump R.NET_RX_FRAMES p
  if f.ety = 0x8808 && beAt d f.l3 2 = 1 then s.pauseFrame p (beAt d (f.l3 + 2) 2)
  else if f.ety = 0x88F7 || (f.udp && (f.dport = 319 || f.dport = 320)) then s
  else match (if f.udp then s.sin.find? (fun e => e.2.en && e.2.group == f.dst && e.2.port == f.dport
      && (e.2.source == 0 || e.2.source == f.src)) else none) with
  | some (k, _) => s.mediaIn p k f.payload
  | none =>
    if f.ip && f.proto = 17 && f.udp && f.dport = s.gf F.CMD_UDP_CFG_PORT && s.on F.CMD_UDP_CFG_EN then
      s.udpCmd f.src f.sport f.frag f.payload
    else match s.fwProto p d f with
    | some k => s.onNet p (fun n => { n with fwIn := n.fwIn ++ [(k, d)] })
    | none =>
      match s.classify p f with
      | some k => s.ringWrite p (s.gf F.NET_CLASS_RING p k) k f.vlan.isSome d stamp
      | none => s.ringWrite p 0 15 f.vlan.isSome d stamp

/-- Does DIAG_LOOPBACK loop port p back (R365)? Log 90. -/
def Mach.macLooped (s : Mach) (p : Nat) : Bool := s.sys.loops.any (fun l => l.1 != 0 && l.2.1 == p)

/-- How a looped receiver reads a frame that port p sent. Log 90. -/
def Mach.loopFrame (s : Mach) (p : Nat) (fr : TxFrame) : Parsed :=
  let udp (sport dst dport : Nat) : Parsed :=
    { ety := 0x0800, vlan := none, l3 := 14, ip := true, proto := 17, frag := false, src := (s.netPort p).ip.addr, dst := dst, udp := true,
      sport := sport, dport := dport, payload := fr.bytes }
  match fr.cls, fr.peer with
  | 0, _ => { parseFrame fr.bytes with ety := 0x88F7 }
  | 1, _ => udp (s.strOut fr.stream).port (s.strOut fr.stream).dest (s.strOut fr.stream).port
  | _, some (sport, ip, port) => udp sport ip port
  | _, none => parseFrame fr.bytes

/-- NET_RX_FRAME: port p has received a frame whole. Log 112. -/
def netRxFrame (p : Nat) (fr : RxFrame) (s : Mach) : Mach :=
  if 2 ≤ p || !s.linkUp p || s.macLooped p then s
  else if fr.len < 64 then
    let s := s.bump R.NET_RUNT p
    if s.on F.NET_CFG_RUNT_SILENT p then s else s.evt F.NET_EVT_RUNT p
  else if 9216 < fr.len then s.bump R.NET_OVERSIZE p
  else if !fr.fcsOk then s.bump R.NET_FCS_ERR p
  else s.rxTake p fr.data (parseFrame fr.data) fr.stamp

/-- NET_RX_OVERFLOW. -/
def netRxOverflow (p : Nat) (s : Mach) : Mach := if 2 ≤ p then s else (s.bump R.NET_RX_OVERFLOW p).evt F.NET_EVT_OVERFLOW p

/-- PAUSE_END. -/
def pauseEnd (p : Nat) (s : Mach) : Mach := s.sf F.NET_STAT_PAUSED 0 p

/-- PAUSE_WATCHDOG. -/
def pauseWatchdog (p : Nat) (s : Mach) : Mach :=
  if 2 ≤ p || !s.on F.NET_STAT_PAUSED p then s else
    let s := s.sf F.NET_STAT_PAUSED 0 p
    let s := ((s.bump R.NET_PAUSE_WD p).evt F.NET_EVT_PAUSE_WD p).raise (E.PAUSE_WD p) 0 (s.gf F.NET_PAUSE_CFG_PAUSE_WD p)
    s.onNet p (fun n => { n with ignore := true })

/-- PAUSE_IGNORE_END. -/
def pauseIgnoreEnd (p : Nat) (s : Mach) : Mach := s.onNet p (fun n => { n with ignore := false })

/-- FIRMWARE_PROTOCOL_REPLY: firmware answers the oldest frame addressed to it; SAP has no answer. Log 116. -/
def firmwareProtocolReply (p : Nat) (s : Mach) : Mach :=
  match (s.netPort p).fwIn with
  | [] => s
  | (k, d) :: r => s.onNet p (fun n => { n with fwIn := r, fwQ := if k = 3 then n.fwQ else n.fwQ ++ [(k, d)] })

/-! ## Transmission (R412 to R416, R445, R446) -/

/-- Bits per ns × 10 of a SPEED code: 1 Gb/s is 10. -/
def speedX10 (c : Nat) : Nat := [0, 10, 25, 50, 100].getD c 10

/-- Time on the wire of a frame of n bytes with its FCS, in 2^−16 ns. -/
def wireTime (c n : Nat) : Nat := n * 8 * 10 * 65536 / speedX10 c

/-- Launch instant (2^−16 ns) of the media packet whose first sample is h (R428). -/
def launchAt (h ptime : Nat) : Nat := gridNet (h + ptimeGrid ptime) + 8333 * 65536

/-- Launch instant of the next queued media packet: samples gathered, not yet launched. -/
def Mach.nextLaunch (s : Mach) : Option Nat :=
  s.sout.foldl (fun (b : Option Nat) e =>
    if e.2.en && decide (ptimeSamples e.2.rate e.2.ptime ≤ e.2.buf.length) then
      let t := launchAt e.2.buf0 e.2.ptime
      match b with
      | none => some t
      | some u => some (Nat.min t u)
    else b) none

def Mach.txBase (s : Mach) (p t : Nat) : Nat := s.gf F.NET_TX_BASE_LO_ADDR p t * 64 + 2 ^ 32 * s.gf F.NET_TX_BASE_HI_ADDR p t
/-- Log 115. -/
def Mach.txDesc (s : Mach) (p t i : Nat) : List Byte := s.busData (8 + p) (8 + t) (s.txBase p t + 32 * i) 32

/-- The descriptors of the head frame, from HEAD to EOF; none while the frame is not whole. Log 115. -/
def headGo (p t n : Nat) (s : Mach) : Nat → Nat → List (Nat × List Byte) → Option (List (Nat × List Byte))
  | 0, _, _ => none
  | fuel + 1, i, acc =>
    if i = s.rd R.NET_TX_TAIL p t then none
    else
      let d := s.txDesc p t i
      let acc := acc ++ [(i, d)]
      if bitOf (fld d 10 2) 2 then some acc else headGo p t n s fuel ((i + 1) % n) acc
def Mach.headFrame (s : Mach) (p t : Nat) : Option (List (Nat × List Byte)) :=
  let n := 2 ^ s.gf F.NET_TX_CTRL_SIZE p t
  if !s.on F.NET_TX_CTRL_EN p t then none else headGo p t n s n (s.rd R.NET_TX_HEAD p t) []

/-- Is a host frame malformed (R412)? -/
def badFrame (ds : List (Nat × List Byte)) : Bool :=
  let total := ds.foldl (fun a e => a + fld e.2 8 2) 0
  total < 60 || 9212 < total || ds.zipIdx.any (fun (e, i) =>
    let f := fld e.2 10 2
    f / 128 != 0 || fld e.2 14 2 != 0 || fld e.2 22 2 != 0 || fld e.2 28 4 != 0 || bitOf f 1 != (i == 0))

/-- Finish the head frame of a ring: flags into its EOF descriptor, HEAD past it. Log 125. -/
def Mach.endFrame (s : Mach) (p t n extra : Nat) : Mach :=
  let size := 2 ^ s.gf F.NET_TX_CTRL_SIZE p t
  let head := s.rd R.NET_TX_HEAD p t
  let eof := (head + n - 1) % size
  let f := fld (s.txDesc p t eof) 10 2
  let s := s.busWrite (8 + p) (8 + t) (s.txBase p t + 32 * eof + 10) (toLE 2 (f ||| (1 + extra)))
  s.wr R.NET_TX_HEAD ((head + n) % size) p t

/-- ABORT flag. -/
def fABORT : Nat := 64
def fUNDERRUN : Nat := 32

/-- Launch time of a frame in 2^−16 ns, if LAUNCH is set. Log 114. -/
def launchOf (ds : List (Nat × List Byte)) : Option Nat :=
  match ds with
  | (_, d) :: _ => if bitOf (fld d 10 2) 4 then some ((fld d 16 6 * 1000000000 + fld d 24 4) * 65536) else none
  | [] => none

/-- The frame a ring of port p offers. Log 114. -/
def txFrameOf (s : Mach) (p t : Nat) (ds : List (Nat × List Byte)) : TxFrame :=
  let d0 := ((ds.head?).map (·.2)).getD []
  let f := fld d0 10 2
  ⟨3, t, ds.length, bitOf f 3, fld d0 12 2, (ds.map (fun e => s.busData (8 + p) (8 + t) (fld e.2 0 8) (fld e.2 8 2))).flatten, 0, none,
    if s.on F.NET_CFG_CUT_THROUGH p then s.gf F.NET_CT_LIVE_BYTES p else 0⟩

/-- Port p starts to send a frame, out of low-power idle if it was there (R420). -/
def Mach.sendFrame (s : Mach) (p : Nat) (fr : TxFrame) : Mach := (s.onNet p (fun n => { n with inflight := some fr })).sf F.NET_STAT_LPI 0 p

/-- Does a frame of `len` bytes, its FCS excluded, leave before the instant `limit` of the next media launch (R413)? -/
def Mach.endsBefore (s : Mach) (p len : Nat) (limit : Option Nat) : Bool :=
  limit.all (fun l => decide (s.tm.net + wireTime (s.gf F.NET_STAT_SPEED p) (Nat.max 64 (len + 4)) < l))

/-- VCP replies that wait for port p: all of them where it is the control port (R455). -/
def Mach.repliesOf (s : Mach) (p : Nat) : List (Nat × Nat × List Byte) := if s.gf F.TIME_STAT_CTRL_PORT = p then s.cmd.udpOut else []

/-- Try to start the head frame of ring t: abandons what R412 and R445 abandon. -/
def Mach.hostStart (s : Mach) (p t : Nat) (limit : Option Nat) : Mach :=
  match s.headFrame p t with
  | none => s
  | some ds =>
    let s := s.each ds (fun s e => s.busRead (8 + p) (8 + t) (s.txBase p t + 32 * e.1) 32)
    if badFrame ds then s.endFrame p t ds.length fABORT
    else
      let now := s.tm.net
      let fr := txFrameOf s p t ds
      let go := if s.endsBefore p fr.bytes.length limit then
          (s.each ds (fun s e => s.busRead (8 + p) (8 + t) (fld e.2 0 8) (fld e.2 8 2))).sendFrame p fr else s
      match launchOf ds with
      | none => go
      | some l =>
        if now + s.gf F.TIME_LAUNCH_CFG_AHEAD_S * 1000000000 * 65536 < l then s.endFrame p t ds.length fABORT
        else if now < l then s
        else if now ≤ l + s.gf F.TIME_LAUNCH_CFG_LATE_US * 1000 * 65536 then go
        else ((s.endFrame p t ds.length fABORT).bump R.TIME_LAUNCH_LATE).evt F.TIME_EVT_LAUNCH_LATE

/-- Try the host rings in order until one starts. -/
def hostGo (p : Nat) (limit : Option Nat) : List Nat → Mach → Mach
  | [], s => s
  | t :: r, s =>
    let s := s.hostStart p t limit
    if (s.netPort p).inflight.isSome then s else hostGo p limit r s

/-- MEDIA_LATE_DROP: queued media packets of port p past their launch plus MEDIA_BUDGET (R419). -/
def mediaLateDrop (p : Nat) (s : Mach) : Mach :=
  let lim := s.gf F.NET_MEDIA_BUDGET_US p * 1000 * 65536
  let late : MediaPkt → Bool := fun m => decide (m.launch + lim ≤ s.tm.net)
  let gone := (s.netPort p).mediaQ.filter late
  let s := s.onNet p (fun n => { n with mediaQ := n.mediaQ.filter (fun m => !late m) })
  s.each gone (fun s m => ((s.bump R.NET_MEDIA_LATE_DROP p).bump R.STRM_OUT_DROP m.stream).evt F.NET_EVT_MEDIA_LATE p)

/-- The transmitter of port p is free: it starts the next frame by class (R413). -/
def Mach.nextFrame (s : Mach) (p : Nat) : Mach :=
  let limit := s.nextLaunch
  if 0 < s.ptpWait p then
    (s.onTime (fun t => { t with ptpQ := mput t.ptpQ p (s.ptpWait p - 1) })).sendFrame p ⟨0, 0, 0, false, 0, [], 0, none, 0⟩
  else match (s.netPort p).mediaQ, s.repliesOf p, (s.netPort p).fwQ with
  | m :: r, _, _ => (s.onNet p (fun n => { n with mediaQ := r })).sendFrame p ⟨1, 0, 0, false, 0, m.rtp, m.stream, none, 0⟩
  | [], (ip, port, pkt) :: r, _ =>
    if s.endsBefore p (pkt.length + 42) limit then
      (s.onCmd (fun c => { c with udpOut := r })).sendFrame p ⟨2, 0, 0, false, 0, pkt, 0, some (s.gf F.CMD_UDP_CFG_PORT, ip, port), 0⟩
    else s
  | [], [], (_, d) :: r =>
    if s.endsBefore p d.length limit then
      (s.onNet p (fun n => { n with fwQ := r })).sendFrame p ⟨2, 1, 0, false, 0, d, 0, none, 0⟩
    else s
  | [], [], [] => hostGo p limit (upto 4) s

/-- NET_TX_FRAME_START: the transmitter chooses the next frame by class (R413); media that may no longer start are dropped (R419). -/
def netTxFrameStart (p : Nat) (s : Mach) : Mach :=
  if 2 ≤ p || !s.linkUp p || s.on F.NET_STAT_PAUSED p || (s.netPort p).inflight.isSome then s
  else (mediaLateDrop p s).nextFrame p

/-- NET_TX_FRAME_DONE: the frame in flight has left at stamp `t` (balls), or its cut-through buffer ran empty (R415).
Log 114. -/
def netTxFrameDone (p t : Nat) (underrun : Bool) (s : Mach) : Mach :=
  match (s.netPort p).inflight with
  | none => s
  | some fr =>
    let s := s.onNet p (fun n => { n with inflight := none, sent := some fr })
    let s := s.when (s.macLooped p && !underrun) (·.rxTake p fr.bytes (s.loopFrame p fr) t)
    let live := s.gf F.NET_CT_LIVE_BYTES p
    let under := underrun && fr.cls == 3 && decide (0 < fr.ct) && decide (fr.ct < fr.bytes.length + 4)
    let s := s.bump R.NET_TX_FRAMES p
    if fr.cls != 3 then s
    else if under then
      let s := s.endFrame p fr.ring fr.descs fUNDERRUN
      let s := (s.bump R.NET_TX_UNDERRUN p).evt F.NET_EVT_UNDERRUN p
      s.sf F.NET_CT_LIVE_BYTES (Nat.min 9216 (live + 256)) p
    else
      let s := s.endFrame p fr.ring fr.descs 0
      if fr.tsReq then s.pushTxts p fr.tsid (s.txStamp p t) else s

/-- LAUNCH_TIME_REACHED for the head frame of ring t: frames that R413 puts before it go first. -/
def launchTimeReached (p t : Nat) (s : Mach) : Mach :=
  if 2 ≤ p || 4 ≤ t then s
  else if !s.linkUp p then
    match s.headFrame p t with
    | some ds =>
      match launchOf ds with
      | some l => if l ≤ s.tm.net then s.endFrame p t ds.length fABORT else s
      | none => s
    | none => s
  else if s.on F.NET_STAT_PAUSED p || (s.netPort p).inflight.isSome || decide (0 < s.ptpWait p) || !(s.netPort p).mediaQ.isEmpty || !(s.repliesOf p).isEmpty
      || !(s.netPort p).fwQ.isEmpty then s
  else hostGo p s.nextLaunch (upto (t + 1)) s

/-! ## Egress streams (R428, R450) -/

/-- The RTP packet of an egress stream whose buffer is full. Log 117. -/
def rtpOf (x : StrOut) : List Byte :=
  let n := ptimeSamples x.rate x.ptime
  let ts := if x.rate = 4 then x.buf0 else x.buf0 / 2
  toBE 1 0x80 ++ toBE 1 (x.pt % 128) ++ toBE 2 (x.seq % 65536) ++ toBE 4 (ts % 2 ^ 32) ++ toBE 4 (x.ssrc % 2 ^ 32)
    ++ ((x.buf.take n).map (fun row => (row.map (fun v => toBE x.word (toU (8 * x.word) v))).flatten)).flatten

/-- Hand a media packet to port p. -/
def Mach.mediaOut (s : Mach) (k p : Nat) (launch : Nat) (rtp : List Byte) : Mach :=
  if !s.linkUp p then (s.bump R.NET_TX_DOWN_DROP p).bump R.STRM_OUT_DROP k
  else
    let n := s.netPort p
    if s.on F.NET_STAT_PAUSED p || n.inflight.isSome || decide (0 < s.ptpWait p) || !n.mediaQ.isEmpty then
      s.onNet p (fun n => { n with mediaQ := n.mediaQ ++ [⟨k, launch, rtp⟩] })
    else s.sendFrame p ⟨1, 0, 0, false, 0, rtp, k, none, 0⟩

/-- MEDIA_PACKET_LAUNCH of stream k. Log 117. -/
def mediaPacketLaunch (k : Nat) (s : Mach) : Mach :=
  let x := s.strOut k
  let n := ptimeSamples x.rate x.ptime
  if !x.en || x.buf.length < n then s
  else
    let rtp := rtpOf x
    let l := launchAt x.buf0 x.ptime
    let ports := if s.on F.TIME_REDUND_DUP_EGRESS then [0, 1] else [0]
    let s := s.onOut k (fun x => { x with seq := (x.seq + 1) % 65536, buf0 := x.buf0 + ptimeGrid x.ptime, buf := x.buf.drop n })
    let s := s.when (ports.any (fun p => s.linkUp p)) (·.bump R.STRM_OUT_PKTS k)
    s.each ports (fun s p => s.mediaOut k p l rtp)

/-- Give an egress stream the words of one hand-off instant h (96 kHz grid); the first packet starts where h divides. -/
def Mach.egressPut (s : Mach) (k h : Nat) (row : List Int) : Mach :=
  let x := s.strOut k
  if !x.en || (x.rate != 4 && h % 2 != 0) then s
  else if x.buf.isEmpty then
    if h % ptimeGrid x.ptime = 0 then s.onOut k (fun x => { x with buf0 := h, buf := [row] }) else s
  else s.onOut k (fun x => { x with buf := x.buf ++ [row] })

/-! ## Links, idle, downshift (R403, R416, R420, R421) -/

/-- NET_LINK_UP at a speed code; `half` when the partner signals half duplex. -/
def netLinkUp (p speed : Nat) (half : Bool) (s : Mach) : Mach :=
  if 2 ≤ p || s.linkUp p || 4 < speed || speed = 0 then s
  else if half then s.evt F.NET_EVT_HALF p
  else ((((s.sf F.NET_STAT_LINK 1 p).sf F.NET_STAT_SPEED speed p).evt F.NET_EVT_LINK_UP p).onNet p
    (fun n => { n with renego := false })).ctrlLink

/-- Take the link of port p down. -/
def Mach.linkDrop (s : Mach) (p : Nat) : Mach :=
  if !s.linkUp p then s else
    let n := s.netPort p
    let s := (((s.sf F.NET_STAT_LINK 0 p).sf F.NET_STAT_SPEED 0 p).sf F.NET_STAT_PAUSED 0 p).sf F.NET_STAT_LPI 0 p
    let s := s.evt F.NET_EVT_LINK_DOWN p
    let s := match n.inflight with
      | some fr => if fr.cls = 3 then s.endFrame p fr.ring fr.descs fABORT
                   else if fr.cls = 1 then (s.bump R.NET_TX_DOWN_DROP p).bump R.STRM_OUT_DROP fr.stream else s
      | none => s
    let s := s.each n.mediaQ (fun s m => (s.bump R.NET_TX_DOWN_DROP p).bump R.STRM_OUT_DROP m.stream)
    let s := s.onNet p (fun n => { n with inflight := none, mediaQ := [], ignore := false })
    let s := s.onTime (fun t => { t with ptpQ := mdel t.ptpQ p })
    (timeSourceLost p 0 s).ctrlLink

/-- NET_LINK_DOWN; `cut` when a frame was being received. -/
def netLinkDown (p : Nat) (cut : Bool) (s : Mach) : Mach :=
  if 2 ≤ p || !s.linkUp p then s else (s.linkDrop p).when cut (·.bump R.NET_FCS_ERR p)

/-- LPI_ENTER. -/
def lpiEnter (p : Nat) (s : Mach) : Mach :=
  let n := s.netPort p
  if s.on F.NET_CFG_EEE p && s.linkUp p && n.inflight.isNone && s.ptpWait p == 0 && n.mediaQ.isEmpty && n.fwQ.isEmpty
      && (upto 4).all (fun t => (s.headFrame p t).isNone) && (s.repliesOf p).isEmpty
      && s.nextLaunch.all (fun l => decide (s.tm.net + 2000 * 65536 < l))
  then s.sf F.NET_STAT_LPI 1 p else s

/-- LPI_WAKE. -/
def lpiWake (p : Nat) (s : Mach) : Mach := s.sf F.NET_STAT_LPI 0 p

/-- DOWNSHIFT. -/
def downshift (p : Nat) (s : Mach) : Mach :=
  if 2 ≤ p || !s.on F.NET_CFG_DOWNSHIFT p || s.power != 2 || s.activePort = p || s.on F.NET_STAT_DOWNSHIFTED p
      || !s.linkUp p then s
  else ((s.linkDrop p).sf F.NET_STAT_DOWNSHIFTED 1 p).evt F.NET_EVT_DOWNSHIFT p

/-! ## Doorbells and ring control (R409, R412, R431) -/

/-- How far an index has advanced, in a ring of n. -/
def ringDist (a b n : Nat) : Nat := (b + n - a % n) % n

/-- NET_RX_TAIL_WRITE. -/
def netRxTailWrite (p r v : Nat) (s : Mach) : Mach :=
  if 2 ≤ p || 8 ≤ r then s
  else
    let v := v % 4096
    if 2 ^ s.gf F.NET_RX_CTRL_SIZE p r ≤ v then s.evt F.NET_EVT_BAD_DOORBELL p else s.wr R.NET_RX_TAIL v p r

/-- NET_POOL_TAIL_WRITE. -/
def netPoolTailWrite (p r v : Nat) (s : Mach) : Mach :=
  if 2 ≤ p || 8 ≤ r then s
  else
    let v := v % 4096
    if 2 ^ s.gf F.NET_RX_CTRL_SIZE p r ≤ v then s.evt F.NET_EVT_BAD_DOORBELL p else s.wr R.NET_RX_POOL_TAIL v p r

/-- NET_TX_TAIL_WRITE. -/
def netTxTailWrite (p t v : Nat) (s : Mach) : Mach :=
  if 2 ≤ p || 4 ≤ t then s
  else
    let v := v % 4096
    if 2 ^ s.gf F.NET_TX_CTRL_SIZE p t ≤ v then s else s.wr R.NET_TX_TAIL v p t

/-- Enable a receive ring's control word. -/
def Mach.rxCtrl (s : Mach) (p r v : Nat) : Mach :=
  let v := v &&& 0x3FFF00F1
  let sz := bits v 4 4
  let bs := bits v 16 14
  let en := s.on F.NET_RX_CTRL_EN p r
  if sz < 4 || 12 < sz || bs % 64 != 0 || bs < 256 || 9216 < bs then s
  else
    let v := if en then putBits (s.rd R.NET_RX_CTRL p r) 0 1 v else v
    let s := s.wr R.NET_RX_CTRL v p r
    if bitOf v 0 && !en then
      (((s.wr R.NET_RX_HEAD 0 p r).wr R.NET_RX_TAIL 0 p r).wr R.NET_RX_POOL_HEAD 0 p r).wr R.NET_RX_POOL_TAIL 0 p r
    else s

/-- Write a transmit ring's control word. -/
def Mach.txCtrl (s : Mach) (p t v : Nat) : Mach :=
  let v := v &&& 0xF1
  let sz := bits v 4 4
  let en := s.on F.NET_TX_CTRL_EN p t
  if sz < 4 || 12 < sz then s
  else
    let v := if en then putBits (s.rd R.NET_TX_CTRL p t) 0 1 v else v
    let s := s.wr R.NET_TX_CTRL v p t
    if bitOf v 0 && !en then (s.wr R.NET_TX_HEAD 0 p t).wr R.NET_TX_TAIL 0 p t else s

/-- NET_RING_CTRL_WRITE: a receive (`tx` false) or transmit ring's CTRL. -/
def netRingCtrlWrite (p : Nat) (tx : Bool) (r v : Nat) (s : Mach) : Mach :=
  if 2 ≤ p then s else if tx then (if 4 ≤ r then s else s.txCtrl p r v) else if 8 ≤ r then s else s.rxCtrl p r v

/-- Zero the counters of port p. -/
def Mach.netClear (s : Mach) (p : Nat) : Mach :=
  s.each [R.NET_RX_FRAMES, R.NET_TX_FRAMES, R.NET_RX_NOBUF_DROP, R.NET_RX_OVERFLOW, R.NET_RUNT, R.NET_FCS_ERR, R.NET_OVERSIZE,
    R.NET_PAUSE_WD, R.NET_MEDIA_LATE_DROP, R.NET_TX_UNDERRUN, R.NET_PAUSE_RCVD, R.NET_RX_NOMATCH, R.NET_TX_DOWN_DROP]
    (fun s r => s.wr r 0 p)

/-- NET_CNT_CLR. -/
def netCntClr (p v : Nat) (s : Mach) : Mach := if 2 ≤ p || !bitOf v 0 then s else s.netClear p

/-- STRM_CNT_CLR. -/
def strmCntClr (v : Nat) (s : Mach) : Mach :=
  if !bitOf v 0 then s else
    s.each (upto 256) (fun s k =>
      let s := s.each [R.STRM_IN_PKTS, R.STRM_IN_LOST, R.STRM_IN_DUP, R.STRM_IN_LATE, R.STRM_IN_EARLY, R.STRM_IN_BAD,
        R.STRM_OUT_PKTS, R.STRM_OUT_DROP] (fun s r => s.wr r 0 k)
      s)

/-- STRM_REGION_WRITE: a write of REGION_HI (R422). -/
def strmRegionWrite (v : Nat) (s : Mach) : Mach :=
  let en := s.strmOn
  let want := bitOf v 31
  if en then
    if want || s.sin.any (fun e => e.2.en) then s else s.sf F.STRM_REGION_HI_EN 0
  else
    let s := s.sf F.STRM_REGION_HI_ADDR v
    if want && s.regionOk 2 s.strmBase strmSize then s.sf F.STRM_REGION_HI_EN 1 else s

/-! ## Discovery (R429, R352) -/

/-- Is a described session SUPPORTED? -/
def annSupported (a : Announcement) : Bool :=
  a.encOk && a.clockOk && (a.rate == 2 || a.rate == 4) && decide (a.ptime ≤ 3) && decide (a.chans ≤ 64) && decide (1 ≤ a.chans)

/-- DISCOVERY_ANNOUNCEMENT. -/
def discoveryAnnouncement (a : Announcement) (s : Mach) : Mach :=
  if s.hostMode 2 then s else
  match s.disc.find? (fun d => d.a.sid == a.sid) with
  | some d =>
    let s := { s with disc := s.disc.map (fun (e : DiscSess) => if e.a.sid == a.sid then ⟨a, annSupported a, s.tm.up⟩ else e) }
    s.when (decide (d.a ≠ a)) (·.evt F.STRM_EVT_DISC_CHANGE)
  | none => { s with disc := s.disc ++ [⟨a, annSupported a, s.tm.up⟩] }

/-- DISCOVERY_EXPIRE. -/
def discoveryExpire (sid : Nat) (s : Mach) : Mach :=
  { s with disc := s.disc.filter (fun d => !(d.a.sid == sid && decide (d.at_ + 300000000000 ≤ s.tm.up))) }

/-- STREAM_ANNOUNCE: firmware announces egress stream k. -/
def streamAnnounce (k : Nat) (s : Mach) : Mach :=
  let x := s.strOut k
  if s.hostMode 2 || !x.en || !x.announce then s
  else
    let s := s.sf F.STRM_OUT_STAT_ANNOUNCED 1 k
    s.each [0, 1] (fun s p => s.onNet p (fun n => { n with fwQ := n.fwQ ++ [(3, x.name)] }))

end Sys2Proof.Machine
end

