-- ==== Sys2Proof/Machine/Clocks.lean ====
section
/-! DEFINITION. Clock synthesis: bands, lock, commits, loss of lock (R458 to R468). -/
namespace Sys2Proof.Machine

def Mach.pllSt (s : Mach) (p : Nat) : PllSt := mget PllSt.init s.pll p
def Mach.onPll (s : Mach) (p : Nat) (f : PllSt → PllSt) : Mach := { s with pll := mmod PllSt.init s.pll p f }
/-- Log 31. -/
def Mach.pllState (s : Mach) (p : Nat) : Nat := s.gf F.CLK_PLL_STAT_STATE p
def Mach.pllLocked (s : Mach) (p : Nat) : Bool := s.pllState p == 3

/-- Set STATE of a PLL and its LOCKED bit. -/
def Mach.setPll (s : Mach) (p st : Nat) : Mach :=
  let s := s.sf F.CLK_PLL_STAT_STATE st p
  let s := if st = 3 then s else s.sf F.CLK_PLL_STAT_LOCKRUN 0 p
  s.sf F.CLK_STAT_LOCKED (putBits (s.gf F.CLK_STAT_LOCKED) p 1 (b2n (st == 3)))

/-- Target VCO frequency in MHz, rounded down. -/
def vcoMHz (nint frac : Nat) : Nat := 25 * vcoUnits nint frac / 2 ^ 32

/-- Every candidate has failed: FAIL (R460). -/
def Mach.bandFail (s : Mach) (p : Nat) : Mach :=
  let mhz := 25 * s.pllTarget p / 2 ^ 32
  (((s.setPll p 5).evt F.CLK_EVT_BAND_FAIL).raise E.BAND_FAIL p mhz).onPll p (fun q => { q with cand := [] })

/-- Try the candidates of a list in order; PLL_MEDIA shows HOLD while its word is held. -/
def Mach.tryBand (s : Mach) (p : Nat) (l : List Nat) : Mach :=
  match l with
  | [] => s.bandFail p
  | e :: _ =>
    let s := s.setPll p (if p = 1 && s.on F.CLK_STAT_MEDIA_HOLD then 4 else 1)
    (s.sf F.CLK_PLL_STAT_BAND e p).onPll p (fun q => { q with cand := l })

/-- Start a re-lock at the live multiplier (R460, R463). -/
def Mach.relock (s : Mach) (p : Nat) : Mach := s.tryBand p (s.bandCands p)

/-- The words a commit of PLL p applies: CTRL, FRAC, then DIV, PHASE and CTL of each output. -/
def Mach.pllStaged (s : Mach) (p : Nat) : List Word :=
  (([s.rd R.CLK_PLL_CTRL p, s.rd R.CLK_PLL_FRAC p] ++ ((upto 4).map (fun o =>
    [s.rd R.CLK_PLL_OUT_DIV p o, s.rd R.CLK_PLL_OUT_PHASE p o, s.rd R.CLK_PLL_OUT_CTL p o])).flatten)).map (BitVec.ofNat 32)

def wordAt (l : List Word) (i : Nat) : Nat := (l.getD i 0).toNat

/-- Put the words of a commit in force. Log 29. -/
def Mach.pllApply (s : Mach) (p : Nat) (l : List Word) : Mach :=
  let s := (s.setLv R.CLK_PLL_CTRL (wordAt l 0) p).setLv R.CLK_PLL_FRAC (wordAt l 1) p
  let s := s.wr R.CLK_PLL_DCO (wordAt l 1) p
  s.each (upto 4) (fun s o =>
    ((s.setLv R.CLK_PLL_OUT_DIV (wordAt l (2 + 3 * o)) p o).setLv R.CLK_PLL_OUT_PHASE (wordAt l (3 + 3 * o)) p o).setLv
      R.CLK_PLL_OUT_CTL (wordAt l (4 + 3 * o)) p o)

/-- Highest FMAX of the VALID bands of a PLL, MHz. -/
def Mach.bandTop (s : Mach) (p : Nat) : Nat :=
  (upto 16).foldl (fun a e => if s.on F.CLK_PLL_BAND_CODE_VALID p e then Nat.max a (s.gf F.CLK_PLL_BAND_RANGE_FMAX p e) else a) 0

/-- Does a SAFE divider (half cycles) keep an output below its limit (10 MHz units) for a VCO of `top` MHz (R463)? -/
def safeOk (top hsafe fmax : Nat) : Bool := decide (2 * top ≤ 10 * fmax * hsafe)

/-- Is a commit refused (R459, R462)? -/
def Mach.pllRefuse (s : Mach) (p : Nat) : Bool :=
  let nint := s.gf F.CLK_PLL_CTRL_NINT p
  let frac := s.rd R.CLK_PLL_FRAC p
  let mhz := vcoUnits nint frac
  let ref := s.gf F.CLK_PLL_CTRL_REFSEL p
  let badOut := (upto 4).any (fun o =>
    let en := s.on F.CLK_PLL_OUT_CTL_EN p o
    let h := s.gf F.CLK_PLL_OUT_DIV_HDIV p o
    let fm := s.gf F.CLK_PLL_OUT_SAFE_FMAX p o
    (en && decide (10 * fm * h * 2 ^ 32 < 2 * 25 * mhz))
      || (s.on F.CLK_PLL_OUT_CTL_GUARD p o && !safeOk (s.bandTop p) (s.gf F.CLK_PLL_OUT_SAFE_HSAFE p o) fm))
  badOut
    || (p == 1 && decide (s.power ≤ 1) && (nint != s.glv F.CLK_PLL_CTRL_NINT 1 || ref != s.glv F.CLK_PLL_CTRL_REFSEL 1))
    || (p == 2 && s.power == 0 && nint != s.glv F.CLK_PLL_CTRL_NINT 2)
    || (p == 3 && decide (4 ≤ s.phase))
    || (p == 1 && ref == 1 && s.glv F.CLK_PLL_CTRL_REFSEL 1 == 0 && !s.on F.CLK_REFIN_STAT_PRESENT)

/-- Apply a commit's words to a locked PLL: outputs alone hand over, a new multiplier re-locks; after a new FRAC of PLL_MEDIA
the control word DCO follows by slewing (`Mach.mediaSlew`). Log 31. -/
def Mach.pllTake (s : Mach) (p : Nat) (l : List Word) : Mach :=
  let c0 := s.lv R.CLK_PLL_CTRL p
  let f0 := s.lv R.CLK_PLL_FRAC p
  let dco := s.rd R.CLK_PLL_DCO p
  let s := s.pllApply p l
  let again := c0 != wordAt l 0 || (f0 != wordAt l 1 && p != 1)
  if again then s.relock p else s.wr R.CLK_PLL_DCO dco p

/-- PLL_COMMIT. -/
def pllCommit (p v : Nat) (s : Mach) : Mach :=
  if 4 ≤ p || !bitOf v 0 then s
  else if s.pllRefuse p then s.evt F.CLK_EVT_REFUSED
  else
    let l := s.pllStaged p
    let st := s.pllState p
    if st = 3 then s.pllTake p l
    else
      let again := s.lv R.CLK_PLL_CTRL p != wordAt l 0 || s.lv R.CLK_PLL_FRAC p != wordAt l 1
      if again then
        let s := ((s.setLv R.CLK_PLL_CTRL (wordAt l 0) p).setLv R.CLK_PLL_FRAC (wordAt l 1) p).onPll p (fun q => { q with wait := some l })
        let s := if p = 1 && s.on F.CLK_STAT_MEDIA_HOLD then s else s.wr R.CLK_PLL_DCO (wordAt l 1) p
        if st = 0 then s else s.relock p
      else s.onPll p (fun q => { q with wait := some l })

/-- Divider of output o of PLL p in half VCO cycles; none while its pin is low (R463, R464): the live divider where the PLL is
LOCKED or PLL_MEDIA is held, and in a re-lock SAFE on a GUARD output. -/
def Mach.outDiv (s : Mach) (p o : Nat) : Option Nat :=
  if s.glv F.CLK_PLL_OUT_CTL_EN p o = 0 || s.pllState p = 0 then none
  else if s.pllLocked p || (p = 1 && s.on F.CLK_STAT_MEDIA_HOLD) then some (s.glv F.CLK_PLL_OUT_DIV_HDIV p o)
  else if s.glv F.CLK_PLL_OUT_CTL_GUARD p o != 0 then some (s.gf F.CLK_PLL_OUT_SAFE_HSAFE p o)
  else none

/-- Move the PLL_SYS domains to the backup clock (R465). -/
def Mach.toBackup (s : Mach) : Mach :=
  (((s.sf F.CLK_STAT_BACKUP 1).sf F.FAB_STAT_BACKUP 1).sf F.SCHED_STAT_BACKUP 1).evt F.CLK_EVT_BACKUP

/-- PLL_LOSS_OF_LOCK of PLL p at a phase error in ps (R461, R465). -/
def pllLossOfLock (p : Nat) (pherr : Int) (s : Mach) : Mach :=
  if 4 ≤ p || !s.pllLocked p then s else
    let s := s.wr R.CLK_PLL_PHERR (toU 16 pherr) p
    let s := (s.bump R.CLK_PLL_LOL p).orf F.CLK_EVT_LOL (2 ^ p)
    let s := s.raise E.PLL_LOL p (toU 32 pherr)
    let s := match p with
      | 0 => s.toBackup
      | 1 => s.sf F.CLK_STAT_MEDIA_HOLD 1
      | 2 => -- both ports lose their sources at once, so the standby is none (R456)
        let a := if s.activePort = 1 then 1 else 0
        ((((s.linkDrop (1 - a)).linkDrop a).onTime (fun t => { t with bothLost := true })).setTimeState 3).gridHoldover
      | _ => s.dramLoseClock
    s.relock p

/-- PLL_LOCK of PLL p (R461, R464, R467). The boot step that waits for it is taken by `bootClocks`. -/
def Mach.lockPll (s : Mach) (p : Nat) : Mach :=
  let st := s.pllState p
  if 4 ≤ p || st = 0 || st = 3 || st = 5 then s else
    let s := (s.setPll p 3).sf F.CLK_PLL_STAT_LOCKRUN (s.gf F.CLK_PLL_LOCK_CFG_LOCKN p) p
    let s := s.orf F.CLK_EVT_LOCK (2 ^ p)
    let s := if p = 1 then s.sf F.CLK_STAT_MEDIA_HOLD 0 else s
    let s := if p = 3 then s.selfRefExit else s
    match (s.pllSt p).wait with
    | some l => (s.onPll p (fun q => { q with wait := none, cand := [] })).pllTake p l
    | none => s.onPll p (fun q => { q with cand := [] })

/-- BAND_TIMEOUT: the candidate has not locked in 2,048 reference cycles. -/
def bandTimeout (p : Nat) (s : Mach) : Mach :=
  let st := s.pllState p
  if 4 ≤ p || st = 0 || st = 3 || st = 5 then s
  else if st = 2 then s.relock p
  else s.tryBand p ((s.pllSt p).cand.drop 1)

/-- BAND_RETRY. -/
def bandRetry (p : Nat) (s : Mach) : Mach := if 4 ≤ p || s.pllState p != 5 then s else s.relock p

/-- PLL_SYS_RETURN. -/
def pllSysReturn (s : Mach) : Mach :=
  if s.on F.CLK_STAT_BACKUP && s.pllLocked 0 then
    (((s.sf F.CLK_STAT_BACKUP 0).sf F.FAB_STAT_BACKUP 0).sf F.SCHED_STAT_BACKUP 0).evt F.CLK_EVT_RETURN
  else s

/-- XIN_LOST: FAULT_N is held (R466). -/
def xinLost (s : Mach) : Mach := { s.sf F.CLK_STAT_XIN_OK 0 with sys := { s.sys with xinLost := true } }

/-- XIN_RESTORED. Log 29, 30. -/
def xinRestored (s : Mach) : Mach := { s.sf F.CLK_STAT_XIN_OK 1 with sys := { s.sys with xinLost := false } }

/-! ## Register writes of the clock block (R463, R468) -/

/-- A write of SAFE. -/
def Mach.pllSafeWrite (s : Mach) (p o v : Nat) : Mach :=
  let h := bits v 0 18
  if h < 2 || 262142 < h || !safeOk (s.bandTop p) h (bits v 22 10) then s.evt F.CLK_EVT_REFUSED
  else s.wr R.CLK_PLL_OUT_SAFE (v &&& 0xFFC3FFFF) p o

/-- A write of a band entry (RANGE or CODE): only while its PLL is not LOCKED or held, and only if every SAFE in use stays good. -/
def Mach.pllBandWrite (s : Mach) (p e : Nat) (code : Bool) (v : Nat) : Mach :=
  let st := s.pllState p
  let t := if code then s.wr R.CLK_PLL_BAND_CODE (v &&& 0x800000FF) p e else s.wr R.CLK_PLL_BAND_RANGE v p e
  let bad := (upto 4).any (fun o => s.gf F.CLK_PLL_OUT_SAFE_HSAFE p o != 0
    && !safeOk (t.bandTop p) (s.gf F.CLK_PLL_OUT_SAFE_HSAFE p o) (s.gf F.CLK_PLL_OUT_SAFE_FMAX p o))
  if st = 3 || st = 4 || bad then s.evt F.CLK_EVT_REFUSED else t

end Sys2Proof.Machine
end

