-- ==== Sys2Proof/Machine/Boot.lean ====
section
/-! DEFINITION. Whole resets, storms, the boot phases, block resets, wake, the JTAG port and the PCIe link (R510 to R535,
R553, R554, R569, R570). -/
namespace Sys2Proof.Machine

def Mach.onSys (s : Mach) (f : SysSt → SysSt) : Mach := { s with sys := f s.sys }
def Mach.setPhase (s : Mach) (n : Nat) : Mach := s.sf F.SYS_BOOT_STAT_PHASE n

/-- Memory that a whole reset keeps: MRAM, and the host's own memory (R513). -/
def keptMem (m : List Host.Cell) : List Host.Cell :=
  m.filter (fun c => (decide (mramBase ≤ c.1) && decide (c.1 < mramBase + mramSize)) || decide (hostBit ≤ c.1))

/-- The machine as a whole reset leaves it: everything at its reset value but MRAM, host memory, the flash, the watch domain
and the test port (R513, R569). -/
def Mach.wiped (s : Mach) : Mach :=
  let w := s.sys
  let y : SysSt :=
    { SysSt.init with rtc := s.rtcNow, rtcAt := 0, alarm := w.alarm, starts := w.starts, xinLost := w.xinLost, resetLow := w.resetLow,
                      tripHold := w.tripHold, pwrReq := w.pwrReq, flash := w.flash, jtag := { w.jtag with busy := false, op := none } }
  let m := { Mach.reset with variant := s.variant, mem := keptMem s.mem, free := s.free, sys := y }
  let m := (m.wr R.SYS_WAKE_STAT (s.rd R.SYS_WAKE_STAT)).wr R.SYS_STORM (s.rd R.SYS_STORM)
  m.sf F.CLK_STAT_XIN_OK (b2n (!w.xinLost))

/-- Starts within the last second before `now` of the watch clock (R515). -/
def startsNear (starts : List Nat) (now : Nat) : Nat := (starts.filter (fun t => decide (now < t + 32768))).length

/-- A whole reset by source bit `cause` that starts at `wclk` of the watch clock (R510 to R515, R522). `railOut` when a rail
or XIN has left its range. Log 38. -/
def Mach.wholeReset (s : Mach) (cause wclk : Nat) (railOut : Bool) : Mach :=
  let starts := (wclk :: s.sys.starts).take 8
  let n := startsNear starts wclk
  if s.on F.SYS_STORM_HOLD then (s.onSys (fun y => { y with starts := starts })).sf F.SYS_STORM_COUNT n
  else
    let early := decide (s.phase < 2)
    let old := if early then s.gf F.SYS_RESET_CAUSE_CAUSE else 0
    let keep1 := s.phase == 1 && !railOut
    let t := s.wiped
    let t := (t.onSys (fun y => { y with starts := starts })).sf F.SYS_STORM_COUNT n
    let t := t.sf F.SYS_RESET_CAUSE_CAUSE (old ||| 2 ^ cause)
    if 8 ≤ n then t.sf F.SYS_STORM_HOLD 1 else if keep1 then t.setPhase 1 else t

/-- POWER_ON; `watchNew` when VDD_WATCH is newly applied, which clears the storm record. -/
def powerOn (wclk : Nat) (watchNew : Bool) (s : Mach) : Mach :=
  if watchNew then
    let s := s.onSys (fun y => { y with rtc := 0, rtcAt := 0, alarm := none, starts := [], pwrReq := true, heldWake := none,
                                        tripHold := false, xinLost := false })
    let s := ((s.wr R.SYS_WAKE_STAT 0).wr R.SYS_STORM 0)
    let t := s.wholeReset 0 wclk true
    (t.onSys (fun y => { y with starts := [] })).wr R.SYS_STORM 0
  else if !s.sys.pwrReq then s
  else s.wholeReset 0 wclk true

/-- RESET_N_ASSERT: a low pulse of `ns`, taken or ignored between 200 ns and 1 µs; `held` while the pin stays low. A part without
its rails has nothing to reset: in OFF the pulse raises PWR_REQ, in STANDBY it does nothing (R530). -/
def resetNAssert (wclk ns : Nat) (taken held : Bool) (s : Mach) : Mach :=
  if ns < 200 || (ns < 1000 && !taken) then s
  else if s.sys.railsOff then
    let s := s.onSys (fun y => { y with resetLow := held })
    if s.sys.pwrReq || s.power != 4 then s else (s.onSys (fun y => { y with pwrReq := true })).wr R.SYS_WAKE_STAT 4
  else (s.wholeReset 1 wclk false).onSys (fun y => { y with resetLow := held })

/-- Reset of the PCIe block alone: queue pairs stop and their registers are cleared, the link retrains (R524, R284). -/
def Mach.pcieReset (s : Mach) : Mach :=
  let s := s.each [0, 1] (fun s q => if s.on F.CMD_QP_CTRL_EN q then (s.stopQp q).sf F.CMD_QP_CTRL_EN 0 q else s)
  (s.clearRegs 0xC00100 0xC00180).clearRegs 0xE00000 0xF00000

/-- One bit of BLK_RST_STAT. -/
def Mach.markBlk (s : Mach) (b : Nat) (on_ : Bool) : Mach :=
  s.sf F.SYS_BLK_RST_STAT_BLOCKS (putBits (s.gf F.SYS_BLK_RST_STAT_BLOCKS) b 1 (b2n on_))

/-- Opcodes that carry a buffer reference (R293). Log 40. -/
def bufferOps : List Nat := [0x0202, 0x0204, 0x0205, 0x0401, 0x0502, 0x0701, 0x0702, 0x0803, 0x010E, 0x0D02, 0x0E03]

/-- Commands that use DMA channels of firmware end with ST_HW_FAULT, detail 2 (R480): those a thread is processing. -/
def Mach.failLong (s : Mach) : Mach :=
  s.onCmd (fun c => { c with pool := c.pool.map (fun e =>
    if e.phase == 1 && bufferOps.contains e.op then { e with forced := some (ST.HW_FAULT, 2) } else e) })

/-- What the loss of DRAM's contents takes from rendering (R508): the bulk units, spectra and trim-line ticks that had been
written are unwritten, and every fill mark is cleared. What still waits to be written is on die. -/
def Mach.dramForget (s : Mach) : Mach :=
  let m := s.tm.tick
  let lost (q : ObjMem) : List Nat := ((upto 10).map (fun i => m - i)).filter (fun t => decide (t < m) && !q.todo.contains t)
  { s with rend := { s.rend with
      fill := []
      omem := s.rend.omem.map (fun e => (e.1, { e.2 with ring := [], since := some (e.2.todo.foldl Nat.min m), lost := lost e.2 }))
      feeds := s.rend.feeds.map (fun e => (e.1, { e.2 with
        lost := ((upto 31).map (fun i => m / 64 - 1 - i)).filter (fun b => !e.2.todo.contains b)
        lineLost := ((upto 1024).map (fun i => m - 1 - i)).filter (fun t => !e.2.lineTodo.contains t) })) } }

/-- What a block reset does to block b beyond the wrappers (R524). Log 37. -/
def Mach.blockClear (s : Mach) (b : Nat) : Mach :=
  match b with
  | 0 => { s.clearRegs 0x200000 0x300000 with asp := [] }
  | 1 => { (s.linkDrop 0).clearRegs 0x300000 0x320000 with net0 := .init }
  | 2 => { (s.linkDrop 1).clearRegs 0x340000 0x380000 with net1 := .init }
  | 3 => { s.clearRegs 0x320000 0x340000 with sin := [], sout := [] }
  | 4 =>
    let s := (s.timeRestart).gridHoldover
    let s := s.clearRegs 0x380000 0x380800
    let keep (t : TimeSt) : TimeSt :=
      { TimeSt.init with net := t.net, up := t.up, ever := t.ever, tick := t.tick, ticking := t.ticking, aligned := t.aligned,
                         gstep := t.gstep, stopAt := t.stopAt, stopNet := t.stopNet, overRun := t.overRun, overSaid := t.overSaid }
    (s.onTime keep).timeRestart.ctrlLink
  | 5 => { (s.failLong).clearRegs 0x400000 0x500000 with dma := [] }
  | 6 =>
    let s := match s.ddr.chg with
      | some c => (if c.switched then s.ddrTune (s.gf F.DDRC_SET_RATE (s.gf F.DDRC_STAT_SET)) else s).freqDrop
      | none => s
    let st := s.rd R.DDRC_STAT
    let a := s.rd R.DDRC_SET 0
    let c := s.rd R.DDRC_SET 1
    let s := s.clearRegs 0x600000 0x700000
    let s := ((s.wr R.DDRC_STAT st).wr R.DDRC_SET a 0).wr R.DDRC_SET c 1
    (((s.dramLost).dramForget).onDdr (fun d => { DdrSt.init with lastRec := d.lastRec })).ddrRestart
  | 7 => { s.clearRegs 0xA00000 0xB00000 with rend := { s.rend with meas := [] } }
  | 8 => s.pcieReset
  | _ => ((s.closeXport (fun x => decide (x = .spi))).clearRegs 0xC0002C 0xC00030).onCmd
      (fun c => { c with spiQ := [], spiWait := [], spiOvf := false })

/-- Reset block b behind its wrappers (R478 to R480, R524, R525). Log 37, 40. -/
def Mach.blockReset (s : Mach) (b : Nat) : Mach :=
  if s.inReset b then s else
    let p : BusTx → Bool := fun x => if b = 6 then s.target x.addr == 5 || blockOf x.addr == some 6 else blockOf x.addr == some b
    let q : Nat → Bool := fun m => (b == 5 && m == 7) || (b == 8 && m == 6) || (b == 1 && m == 8) || (b == 2 && m == 9)
    let s := s.markBlk b true
    let s := s.isolate p q (if b = 6 then some 5 else none)
    s.blockClear b

/-- BLK_RST_WRITE; `pcie` when it comes from PCIE_IN. -/
def blkRstWrite (v : Nat) (pcie : Bool) (s : Mach) : Mach :=
  if !bitOf v 31 then s
  else if 9 < v % 16 || (pcie && v % 16 = 8) then s.evt F.SYS_EVT_REFUSED
  else s.blockReset (v % 16)

/-- BLOCK_RESET_END. -/
def blockResetEnd (b : Nat) (s : Mach) : Mach :=
  if 9 < b || !s.inReset b then s else (s.markBlk b false).evt F.SYS_EVT_BLK_DONE

/-- PCIE_LINK_DOWN. Log 51. -/
def pcieLinkDown (s : Mach) : Mach :=
  if !s.linkPcie then s else
    (((s.sf F.PCIE_STAT_LINK_UP 0).sf F.PCIE_STAT_GEN 0).sf F.PCIE_STAT_WIDTH 0).bump R.PCIE_LINK_DOWN

/-- PCIE_LINK_UP at a generation and width. -/
def pcieLinkUp (gen width : Nat) (s : Mach) : Mach :=
  if s.phase < 2 || s.linkPcie || gen < 1 || 4 < gen || !(width = 1 || width = 2 || width = 4) then s
  else ((s.sf F.PCIE_STAT_LINK_UP 1).sf F.PCIE_STAT_GEN gen).sf F.PCIE_STAT_WIDTH width

/-- PCIE_CONFIG_WRITE: D-state, bus master enable, MSI-X enable and function mask. -/
def pcieConfigWrite (d3 bme msix fmask : Bool) (s : Mach) : Mach :=
  if !s.linkPcie then s else
    let s := s.sf F.PCIE_STAT_DSTATE (if d3 then 3 else 0)
    let s := ((s.sf F.PCIE_STAT_BME (b2n bme)).sf F.PCIE_STAT_MSIX_EN (b2n msix)).sf F.PCIE_STAT_FMASK (b2n fmask)
    s.unmask

/-- Word o of the loaded option page, by byte offset. -/
def Mach.optWord (s : Mach) (o : Nat) : Nat := s.rd R.SYS_OPT (o / 4)

/-- A reset of PCIe scope: the whole part while P1 has not completed or the scope bit is 0, else the PCIe block. -/
def Mach.scopeReset (s : Mach) (bit cause wclk : Nat) : Mach :=
  if s.phase < 2 || !bitOf (s.optWord 1024) bit then s.wholeReset cause wclk false else s.blockReset 8

/-- PERST_N_ASSERT. -/
def perstNAssert (wclk : Nat) (s : Mach) : Mach := s.scopeReset 4 2 wclk

/-- PCIE_HOT_RESET. -/
def pcieHotReset (wclk : Nat) (s : Mach) : Mach := s.scopeReset 5 3 wclk

/-- THERMAL_TRIP: P0 holds until Tj is 100 °C or less (R520). -/
def thermalTrip (wclk : Nat) (s : Mach) : Mach := (s.wholeReset 6 wclk false).onSys (fun y => { y with tripHold := true })

/-- BROWN_OUT; `watch` when VDD_WATCH itself fell, which resets the watch domain (R533). Rails that have been removed are not
watched (R530). -/
def brownOut (wclk : Nat) (watch : Bool) (s : Mach) : Mach :=
  let t := if s.sys.railsOff then s else s.wholeReset 7 wclk true
  if watch then
    ((t.onSys (fun y => { y with rtc := 0, rtcAt := 0, alarm := none, starts := [] })).wr R.SYS_WAKE_STAT 0).wr R.SYS_STORM 0
  else t

/-- An ordered reset is decided: its ramp starts at the next hand-off copy (R511). -/
def Mach.orderReset (s : Mach) (cause : Nat) : Mach :=
  if s.sys.ordered.isSome then s else s.onSys (fun y => { y with ordered := some (cause, 0) })

/-- WATCHDOG_EXPIRE of a core. -/
def watchdogExpire (k : Nat) (s : Mach) : Mach :=
  if 6 ≤ k || !bitOf (s.gf F.SCHED_STAT_CORES) k then s else s.orderReset 4

/-- ORDERED_RESET_START. -/
def orderedResetStart (wclk : Nat) (s : Mach) : Mach :=
  match s.sys.ordered with
  | some (cause, _) => s.wholeReset cause wclk false
  | none => s

/-- ESCALATION_RESET: a hold of R346 defers it. -/
def escalationReset (wclk : Nat) (s : Mach) : Mach :=
  if s.err.countdown.isNone then s
  else if s.sys.hold.isSome then { s with err := { s.err with countdown := none, deferred := true } }
  else s.wholeReset 8 wclk false

/-- RESET_HOLD_END. Log 45. -/
def resetHoldEnd (wclk : Nat) (s : Mach) : Mach :=
  let s := s.onSys (fun y => { y with hold := none })
  if s.err.deferred then s.wholeReset 8 wclk false else s

/-- STORM_RELEASE. -/
def stormRelease (s : Mach) : Mach :=
  if s.on F.SYS_STORM_HOLD then (s.onSys (fun y => { y with starts := [] })).wr R.SYS_STORM 0 else s

/-! ## Option load (R517, R519) -/

/-- PART_ID, REV and LIMITS of a variant of R4. -/
def variantOf (part rev limits : Nat) : Option Variant :=
  [Variant.v9512, Variant.v9384, Variant.v9256].find? (fun v =>
    part == v.part * 65536 + 0x5600 && rev == 0x4230 && limits == v.limits)

/-- The fields of a clock register that the page or a write sets (R468). -/
def clkMask (r : Reg) : Nat := ((rowsCLK.find? (fun w => w.reg == r)).map (fun w => w.rw ||| w.rwc)).getD 0

/-- Words of PLL p's section of a page, each with its register (R517). -/
def pllWords (p : Nat) : List (Nat × Reg) :=
  let o := 1280 + 256 * p
  [(o, R.CLK_PLL_CTRL), (o + 4, R.CLK_PLL_FRAC), (o + 8, R.CLK_PLL_LOCK_CFG)]
    ++ (upto 4).flatMap (fun k => let q := o + 16 + 12 * k
         [(q, R.CLK_PLL_OUT_DIV), (q + 4, R.CLK_PLL_OUT_CTL), (q + 8, R.CLK_PLL_OUT_SAFE)])
    ++ (upto 16).flatMap (fun e => [(o + 64 + 8 * e, R.CLK_PLL_BAND_RANGE), (o + 68 + 8 * e, R.CLK_PLL_BAND_CODE)])

/-- Is an option page valid (R519)? Its reserved fields, those of the register layouts among them, are zero. -/
def pageValid (l : List Byte) : Bool :=
  let z := List.replicate 4 (0 : Byte)
  let body := l.take 8 ++ z ++ l.drop 12
  fld l 0 2 == 0x4F50 && fld l 2 2 == 1 && fld l 8 4 == crc32c body && fld l 12 4 == crc32c (slice l 32 992)
    && (variantOf (fld l 32 4) (fld l 36 4) (fld l 40 4)).isSome && decide (bits (fld l 1032 4) 0 3 ≤ 4)
    && allZero (slice l 16 16) && allZero (slice l 1040 240) && allZero (slice l 2304 1792)
    && (upto 4).all (fun p => fld l (1280 + 256 * p + 12) 4 == 0 && (p == 1 || !bitOf (fld l (1280 + 256 * p) 4) 16)
      && (pllWords p).all (fun w => fld l w.1 4 &&& (0xFFFFFFFF - clkMask w.2) == 0))
    && bits (fld l 1024 4) 2 2 == 0 && bits (fld l 1024 4) 6 26 == 0 && bits (fld l 1024 4) 0 2 != 3
    && bits (fld l 1028 4) 20 12 == 0 && bits (fld l 1032 4) 3 1 == 0 && bits (fld l 1032 4) 7 1 == 0
    && bits (fld l 1032 4) 12 20 == 0

/-- The page to use, 0 A or 1 B (R519). -/
def pickPage (a b : List Byte) : Option Nat :=
  match pageValid a, pageValid b with
  | true, true =>
    let d := (fld b 4 4 + 2 ^ 32 - fld a 4 4) % 2 ^ 32
    some (if 1 ≤ d && d ≤ 2 ^ 31 - 1 then 1 else 0)
  | true, false => some 0
  | false, true => some 1
  | false, false => none

/-- Load a PLL's section of the page (R458, R468). -/
def Mach.loadPll (s : Mach) (l : List Byte) (p : Nat) : Mach :=
  let o := 1280 + 256 * p
  let put (s : Mach) (r : Reg) (v i j : Nat) : Mach := (s.wr r v i j).setLv r v i j
  let s := (put s R.CLK_PLL_CTRL (fld l o 4) p 0)
  let s := (put s R.CLK_PLL_FRAC (fld l (o + 4) 4) p 0).wr R.CLK_PLL_LOCK_CFG (fld l (o + 8) 4) p
  let s := s.wr R.CLK_PLL_DCO (fld l (o + 4) 4) p
  let s := s.each (upto 4) (fun s k =>
    let q := o + 16 + 12 * k
    let s := put (put s R.CLK_PLL_OUT_DIV (fld l q 4) p k) R.CLK_PLL_OUT_CTL (fld l (q + 4) 4) p k
    s.wr R.CLK_PLL_OUT_SAFE (fld l (q + 8) 4) p k)
  let s := s.each (upto 16) (fun s e =>
    (s.wr R.CLK_PLL_BAND_RANGE (fld l (o + 64 + 8 * e) 4) p e).wr R.CLK_PLL_BAND_CODE (fld l (o + 68 + 8 * e) 4) p e)
  s.relock p

/-- Clamp the supply options of the page (R249). -/
def Mach.loadSup (s : Mach) (w : Nat) : Mach :=
  let i := bits w 0 8
  let v := bits w 8 8
  let i' := Nat.max 16 i
  let v' := Nat.max 5 v
  let s := s.wr R.FAB_SUP_OPT (i' + 256 * v' + 65536 * bits w 16 4)
  let s := if i' = i then s else s.raise E.OPT_CLAMP 0 i
  if v' = v then s else s.raise E.OPT_CLAMP 1 v

/-- P1 has picked page k with bytes l: it becomes the loaded page, and P2 starts from it; `vio33` gives the banks found at
3.3 V (R519, R520). Log 3, 34. -/
def Mach.loadPage (s : Mach) (k : Nat) (l : List Byte) (vio33 : Nat) : Mach :=
  let s := match variantOf (fld l 32 4) (fld l 36 4) (fld l 40 4) with
    | some v => { s with variant := v }
    | none => s
  let s := s.sf F.SYS_BOOT_STAT_OPTPAGE k
  let s := s.each (upto 1024) (fun s w => s.wr R.SYS_OPT (fld l (4 * w) 4) w)
  let s := s.loadSup (fld l 1028 4)
  let s := s.onSys (fun y => { y with rtc := s.rtcNow, rtcAt := 0 })
  let s := (s.setPhase 2).onTime (fun t => { t with up := 0 })
  let s := s.each (upto 4) (fun s p => s.loadPll l p)
  let s := s.each (upto 8) (fun s b => s.sf F.ASP_BANK_STAT_VIO33 (vio33 >>> b) b)
  let s := ((s.wr R.SYS_PART_ID (fld l 32 4)).wr R.SYS_REV (fld l 36 4)).wr R.SYS_LIMITS (fld l 40 4)
  let s := (s.wr R.PCIE_ID (Config.openNat s.free % 65536 + 65536 * s.variant.part)).wr R.PCIE_SUBID (fld l 1036 4)
  { s with free := s.free + 1 }

/-- OPTION_LOAD: P0 is qualified at a junction temperature `tj`, P1 loads a page. Log 3, 36. -/
def optionLoad (tj vio33 : Nat) (s : Mach) : Mach :=
  if 2 ≤ s.phase || s.on F.SYS_STORM_HOLD || !s.sys.pwrReq || s.sys.xinLost || (s.sys.tripHold && decide (100 < tj)) then s
  else
    let s := s.onSys (fun y => { y with resetLow := false, tripHold := false })
    let a := s.mrd mramBase 4096
    let b := s.mrd (mramBase + 4096) 4096
    let s := (s.sf F.SYS_BOOT_STAT_PAGE_A_BAD (b2n (!pageValid a))).sf F.SYS_BOOT_STAT_PAGE_B_BAD (b2n (!pageValid b))
    match pickPage a b with
    | none => s.setPhase 1
    | some k => s.loadPage k (if k = 0 then a else b) vio33

/-- PLL_LOCK, with the boot step that waits for all four PLLs (R520). -/
def pllLock (p : Nat) (s : Mach) : Mach :=
  let s := s.lockPll p
  if s.phase = 2 && (upto 4).all (fun q => s.pllLocked q) then s.setPhase 3 else s

/-- Rate of a code of the option page. -/
def rateOf (c : Nat) : Nat := [3200, 4000, 4800, 5600, 6400].getD c 3200

/-- DRAM_TRAINING: rates at which set 0 would train, whether set 1 trains, and the cause a failure shows (R494). -/
def dramTraining (good : List Nat) (ok1 : Bool) (cause : Nat) (s : Mach) : Mach :=
  if s.phase != 3 then s else
    let w := s.optWord 1032
    let (ranks, x16, gb) := [(1, true, 16), (1, true, 24), (2, true, 16), (1, true, 32), (1, false, 16)].getD (bits w 0 3) (0, false, 0)
    let r1 := if bitOf w 11 then rateOf (bits w 8 3) else 0
    (s.dramTrain ranks x16 gb (rateOf (bits w 4 3)) r1 good ok1 cause).setPhase 4

/-- FW_VER and FW_ID of the image in flash bank b. Log 73. -/
def Mach.bankFw (s : Mach) (b : Nat) : Nat × Nat := mget ((Config.fwVer b).toNat, (Config.fwId b).toNat) s.sys.flash b

/-- Boot reaches P6 with an image from flash bank `bank`, or pushed (R521, R523). -/
def Mach.toP6 (s : Mach) (push : Bool) (bank : Nat) : Mach :=
  let s := (s.setPhase 6).sf F.CMD_STAT_READY 1
  let s := (s.sf F.SYS_BOOT_STAT_FWSRC (b2n push)).sf F.SYS_BOOT_STAT_FWBANK bank
  let fw := if push then (Config.openNat s.free % 2 ^ 32, Config.openNat (s.free + 1) % 2 ^ 64) else s.bankFw bank
  let s := s.when push (fun s => { s with free := s.free + 2 })
  let s := s.onSys (fun y => { y with p6At := s.tm.up, fw := fw })
  if push then s else s.mwr (mramBase + 0x3001) (toLE 1 bank)

/-- FIRMWARE_BOOT: whether the images of flash banks 0 and 1 carry good signatures (R521). Log 33, 35. -/
def firmwareBoot (ok0 ok1 : Bool) (s : Mach) : Mach :=
  if s.phase != 5 then s else
    let src := bits (s.optWord 1024) 0 2
    if src = 1 then s
    else
      let b := fld (s.mrd (mramBase + 0x3000) 1) 0 1 % 2
      let ok (k : Nat) : Bool := if k = 0 then ok0 else ok1
      if ok b then s.toP6 false b
      else if ok (1 - b) then s.toP6 false (1 - b)
      else if src = 0 then s.sf F.SYS_BOOT_STAT_FW_ERR 1
      else s

/-- FW_PUSH_GO; `valid` is the outcome of the signature check. Log 56. -/
def fwPushGo (v : Nat) (valid : Bool) (s : Mach) : Mach :=
  if !bitOf v 0 then s
  else if s.phase != 5 || bits (s.optWord 1024) 0 2 = 0 then s.evt F.SYS_EVT_REFUSED
  else if valid then s.toP6 true 0
  else s.sf F.SYS_BOOT_STAT_FW_ERR 1

/-! ## Wake (R530, R534) -/

/-- Raise PWR_REQ for a reason bit of WAKE_STAT. -/
def Mach.wake (s : Mach) (bit : Nat) : Mach :=
  ((s.onSys (fun y => { y with pwrReq := true, heldWake := none })).wr R.SYS_WAKE_STAT (2 ^ bit))

/-- A wake of STANDBY; `early` while the rails have not been off for 10 ms. -/
def Mach.wakeAsk (s : Mach) (bit : Nat) (early : Bool) : Mach :=
  if s.power != 3 || s.sys.pwrReq then s
  else if early then s.onSys (fun y => { y with heldWake := some bit })
  else s.wake bit

/-- WAKE_N_WAKE. -/
def wakeNWake (early : Bool) (s : Mach) : Mach := if s.sys.armWake then s.wakeAsk 0 early else s

/-- RTC_ALARM. -/
def rtcAlarm (early : Bool) (s : Mach) : Mach := if s.sys.alarm.isSome then s.wakeAsk 1 early else s

/-- HELD_WAKE_RELEASE. -/
def heldWakeRelease (s : Mach) : Mach :=
  match s.sys.heldWake with
  | some b => s.wake b
  | none => s

/-! ## JTAG (R569, R570) -/

/-- Log 38. -/
def Mach.onJtag (s : Mach) (f : JtagSt → JtagSt) : Mach := s.onSys (fun y => { y with jtag := f y.jtag })

/-- JTAG_UPDATE_IR. -/
def jtagUpdateIr (code : Nat) (s : Mach) : Mach :=
  let ir := if code = 0 || code = 3 || code = 4 then (if s.sys.resetLow then code else 0xFF)
            else if code = 1 || code = 2 || code = 0x30 then code else 0xFF
  s.onJtag (fun j => { j with ir := ir })

/-- The device identification word. -/
def Mach.idcode (s : Mach) : Nat := 2 ^ 28 + s.variant.part * 4096 + 0x2E7 * 2 + 1

/-- May MRAM_ACC act on a byte offset of MRAM? -/
def jtagOk (wr : Bool) (o : Nat) : Bool :=
  if wr then decide (o < 0x2000) && (let p := o % 0x1000; (decide (4 ≤ p) && decide (p < 12)) || decide (0x400 ≤ p))
  else decide (o < 0x3000)

/-- MRAM_ACC_GO: an Update-DR of the 56-bit register. -/
def mramAccGo (data : Word) (waddr : Nat) (wr go : Bool) (s : Mach) : Mach :=
  let j := s.sys.jtag
  if j.ir != 0x30 || !go then s
  else if j.busy || !(s.sys.resetLow || s.phase == 1) || !jtagOk wr (4 * waddr) then s.onJtag (fun j => { j with err := true })
  else s.onJtag (fun j => { j with busy := true, done := false, err := false, op := some (wr, waddr, data) })

/-- MRAM_ACC_DONE. -/
def mramAccDone (s : Mach) : Mach :=
  match s.sys.jtag.op with
  | some (wr, w, d) =>
    let s := if wr then s.mwr (mramBase + 4 * w) (toLE 4 d.toNat) else s
    let data := if wr then s.sys.jtag.data else BitVec.ofNat 32 (leNat (s.mrd (mramBase + 4 * w) 4))
    s.onJtag (fun j => { j with busy := false, done := true, op := none, waddr := w, data := data })
  | none => s

end Sys2Proof.Machine
end

