-- ==== Sys2Proof/Machine/Dsp.lean ====
section
/-! DEFINITION. Sample arithmetic shared by the front ends, path engines and back ends: biquads (R62, R176), gains and
ramps (R63, R66), cross-fades (R20), generators (R53, R54). -/
namespace Sys2Proof.Machine

/-- One sample through a biquad in transposed direct form II (R62): unclamped output, next states. -/
def bqCore (c : Bq) (st : BqSt) (x : Int) : Int × BqSt :=
  let yf := c.b0 * x + st.s1
  let s1 := c.b1 * x - rhu 28 (c.a1 * yf) + st.s2
  let s2 := c.b2 * x - rhu 28 (c.a2 * yf)
  (rhu 28 yf, ⟨s1, s2⟩)

/-- A run of samples through a biquad whose output is clamped to `w` bits; the count of clamps (R62, R176). -/
def bqRun (w : Nat) (c : Bq) : BqSt → List Int → List Int × BqSt × Nat
  | st, [] => ([], st, 0)
  | st, x :: r =>
    let (y, st') := bqCore c st x
    let yc := clampS w y
    let (ys, st'', n) := bqRun w c st' r
    (yc :: ys, st'', n + b2n (decide (yc ≠ y)))

/-- Linear weights of a one-tick cross-fade: old × (15 − i)/16 + new × (i + 1)/16 (R66), rounded half up (DEDUCED).
Log 10. -/
def mix16 (i : Nat) (o n : Int) : Int := rhu 4 (o * (15 - i) + n * (i + 1))

/-- Apply `f` with the index of each element. -/
def mapIdxFrom {α β : Type} (f : Nat → α → β) : Nat → List α → List β
  | _, [] => []
  | i, a :: r => f i a :: mapIdxFrom f (i + 1) r

/-- Element-wise combination with the index. -/
def zipIdx2 {α β γ : Type} (f : Nat → α → β → γ) : Nat → List α → List β → List γ
  | i, a :: r, b :: t => f i a b :: zipIdx2 f (i + 1) r t
  | _, _, _ => []

/-- A tick through a biquad whose coefficients may change at its first sample (R66). -/
def bqTick (w : Nat) (o n : Bq) (st : BqSt) (xs : List Int) : List Int × BqSt × Nat :=
  if o = n then bqRun w n st xs
  else
    let (yo, _, c1) := bqRun w o st xs
    let (yn, st', c2) := bqRun w n st xs
    (zipIdx2 mix16 0 yo yn, st', c1 + c2)

/-- A tick through a chain of biquads. -/
def bqChain (w : Nat) : List Bq → List Bq → List BqSt → List Int → List Int × List BqSt × Nat
  | o :: os, n :: ns, st :: ss, xs =>
    let (ys, st', c) := bqTick w o n st xs
    let (zs, ss', c') := bqChain w os ns ss ys
    (zs, st' :: ss', c + c')
  | _, _, ss, xs => (xs, ss, 0)

/-- Signed gain of a parameter set or matrix entry: Q4.20, negated by POL (R63, R70). -/
def sgain (g : Nat) (pol : Bool) : Int := if pol then -(g : Int) else (g : Int)

/-- The gain of sample `i` of a tick that ramps from `o` to `n`, in units of 2^-24 (R66). -/
def ramp24 (o n : Int) (i : Nat) : Int := 16 * o + (n - o) * (i + 1)

/-- A tick of samples multiplied by a gain ramp, rounded half up and clamped to 32 bits; the count of clamps (R63). -/
def gainTick (o n : Int) (xs : List Int) : List Int × Nat :=
  let raw := mapIdxFrom (fun i x => rhu 24 (x * ramp24 o n i)) 0 xs
  let out := raw.map clamp32
  (out, (raw.zip out).foldl (fun c p => c + b2n (decide (p.1 ≠ p.2))) 0)

/-- The four biquads and the signed gain of a channel over one tick (R62, R63, R66). -/
def chainTick (o n : ParamSet) (st : List BqSt) (xs : List Int) : List Int × List BqSt × Nat :=
  let (ys, st', c) := bqChain 32 o.bq n.bq st xs
  let (zs, c') := gainTick (sgain o.gain o.pol) (sgain n.gain n.pol) ys
  (zs, st', c + c')

/-! ### Route cross-fades -/

/-- NONE under R16. -/
def selNone : Nat := 0

/-- A side newly selected: behind an ASRC it is absent until the ASRC settles (R57, R61). -/
def Side.start (sel : Nat) (byp : Bool) : Side :=
  let direct := byp || sel == selNone
  ⟨sel, byp, if direct then 0 else 1, 0, !direct, none, none⟩

/-- A requested selection: it becomes the pending change; one that names the selection in force removes it (R20, R21). -/
def Route.request (r : Route) (sel : Nat) (byp : Bool) : Route :=
  { r with pend := if sel = r.cur.sel ∧ byp = r.cur.bypass then none else some (sel, byp) }

/-- A cross-fade that has rendered its 64 samples ends (R21). -/
def Route.finish (r : Route) : Route :=
  if r.old.isSome ∧ 64 ≤ r.pos then { r with old := none, pos := 0 } else r

/-- A pending change starts when no cross-fade runs (R20, R21). -/
def Route.begin (r : Route) : Route :=
  match r.old, r.pend with
  | none, some (sel, byp) => ⟨Side.start sel byp, some r.cur, 0, none⟩
  | _, _ => r

/-- The tick boundary of a selector: end, then start with no gap. -/
def Route.boundary (r : Route) : Route := r.finish.begin

/-- A selector at rest on NONE. -/
def Route.idle : Route := ⟨Side.rest, none, 0, none⟩

/-- Weight of a sample in a fade-in, in 64ths, and the count after it (R23). -/
def fadeStep (f : Option Nat) : Nat × Option Nat :=
  match f with
  | none => (64, none)
  | some k => (k, if k + 1 ≥ 64 then none else some (k + 1))

/-- A tick of one side: zeros from its first absent sample, a fade-in from the first boundary at which it is valid again
(R22, R23). The result pairs each sample with its fade weight in 64ths. -/
def Side.walk : Bool → Option Nat → List (Option Int) → List (Int × Nat) × Bool × Option Nat
  | cutOff, f, [] => ([], cutOff, f)
  | cutOff, f, x :: r =>
    match cutOff, x with
    | false, some v =>
      let (w, f') := fadeStep f
      let (t, a, f'') := Side.walk false f' r
      ((v, w) :: t, a, f'')
    | _, _ =>
      let (t, a, f'') := Side.walk true none r
      ((0, 0) :: t, a, f'')

/-- One tick of a side from its samples. -/
def Side.tick (sd : Side) (xs : List (Option Int)) : List (Int × Nat) × Side :=
  let validNow := match xs with | some _ :: _ => true | _ => false
  let f := if sd.absent && validNow then some 0 else sd.fade
  let (ys, a, f') := Side.walk false f xs
  (ys, { sd with absent := a, fade := f' })

/-- Cross-fade of two sides, each with its own fade weight: exact product of both weights, rounded half up (R20, R23;
rounding DEDUCED). Log 10. -/
def xfadeMix (pos i : Nat) (o n : Int × Nat) : Int :=
  let k := min (pos + i) 64
  rhu 12 (o.1 * (o.2 * (64 - k) : Nat) + n.1 * (n.2 * k : Nat))

/-- A side alone with its fade-in weight. -/
def sideOnly (p : Int × Nat) : Int := rhu 6 (p.1 * p.2)

/-- One tick through a selector whose sides deliver `xo` and `xn`. -/
def Route.tick (r : Route) (xo xn : List (Option Int)) : List Int × Route :=
  let (yn, cur) := r.cur.tick xn
  match r.old with
  | none => (yn.map sideOnly, { r with cur := cur })
  | some o =>
    let (yo, o') := o.tick xo
    (zipIdx2 (xfadeMix r.pos) 0 yo yn, { r with cur := cur, old := some o', pos := r.pos + 16 })

/-! ### Generators -/

/-- Feedback taps of the MLS generator (R54). -/
def mlsTaps : Nat → List Nat
  | 10 => [10, 7] | 11 => [11, 9] | 12 => [12, 6, 4, 1] | 13 => [13, 4, 3, 1] | 14 => [14, 5, 3, 1]
  | 15 => [15, 14] | 16 => [16, 15, 13, 4] | 17 => [17, 14] | 18 => [18, 11] | 19 => [19, 6, 2, 1]
  | 20 => [20, 17] | _ => []

/-- Start value of the MLS register (R54). -/
def mlsStart (order seed : Nat) : Nat :=
  let r := seed % 2 ^ order
  if r = 0 then 2 ^ order - 1 else r

/-- One clock of the MLS register: output bit and next value (R54). -/
def mlsStep (order reg : Nat) : Bool × Nat :=
  let fb := (mlsTaps order).foldl (fun a t => a ^^ bitOf reg (t - 1)) false
  (bitOf reg (order - 1), ((reg * 2) + b2n fb) % 2 ^ order)

/-- A generator restarted by a change of TYPE, ORDER or SEED (R55). -/
def Gen.restart (order seed : Nat) : Gen := ⟨0, mlsStart order seed, 0⟩

/-- One generator sample with its LEVEL as a rational in units of 2^-20 (R53). Log 14. -/
def genSample (ty order freq seed : Nat) (lvl : Rat) (g : Gen) : Int × Gen :=
  match ty with
  | 1 => (rhaQ (lvl * 16 * sinQ (2 * piQ * g.phase / (2 ^ 32 : Nat))),
          { g with phase := (g.phase + freq) % 2 ^ 32 })
  | 2 =>
    let peak := rhaQ (lvl * 16)
    (clampI (-peak) peak (Config.pinkSample seed g.noise (rhaQ lvl).toNat), { g with noise := g.noise + 1 })
  | 3 =>
    let (b, reg) := mlsStep order g.mls
    (if b then rhaQ (lvl * 16) else -(rhaQ (lvl * 16)), { g with mls := reg })
  | _ => (0, g)

/-- A tick of a generator whose LEVEL ramps from `l0` to `l1` (R55). -/
def genTick (ty order freq seed l0 l1 : Nat) : Nat → Nat → Gen → List Int × Gen
  | 0, _, g => ([], g)
  | n + 1, i, g =>
    let lvl : Rat := (l0 : Rat) + ((l1 : Rat) - (l0 : Rat)) * ((i + 1 : Nat) : Rat) / 16
    let (y, g') := genSample ty order freq seed lvl g
    let (ys, g'') := genTick ty order freq seed l0 l1 n (i + 1) g'
    (y :: ys, g'')

/-! ### Words (R52) -/

/-- An ASP or network word of `w` bits to the internal word (R52). -/
def wordIn (w : Nat) (v : Nat) : Int :=
  match w with
  | 16 => sext 16 v * 512
  | 24 => sext 24 v * 2
  | _ => rhu 7 (sext 32 v)

end Sys2Proof.Machine
end

