-- ==== Sys2Proof/Machine/Front.lean ====
section
/-! DEFINITION. Records of the scene stage, and the front end: sources, conversion, playback rings, generators, the chain
of each object and direct channel (R16 to R23, R52 to R72). -/
namespace Sys2Proof.Machine

/-! ## Records (R64 to R69, R299) -/

def Mach.onRend (s : Mach) (f : Rend → Rend) : Mach := { s with rend := f s.rend }

/-- Key of record `i` of a section; kinds 0 to 10 are those of R299, in its order of bits. -/
def rkey (kind i : Nat) : Nat := kind * 4096 + i

namespace K
def INSEL : Nat := 0
def CHAN : Nat := 1
def MATRIX : Nat := 2
def ATMOS : Nat := 3
def GEOREC : Nat := 4
def SPKTAB : Nat := 5
def EQ : Nat := 6
def OUTSET : Nat := 7
def RATING : Nat := 8
def BANKSEL : Nat := 9
def OUTSEL : Nat := 10
/-- Items that are no records: generator fields, host modes, swaps, commits, measurement fields and restarts, placement,
latency monitors. -/
def GEN : Nat := 11
def HPMODE : Nat := 12
def SWAP : Nat := 13
def COMMIT : Nat := 14
def MEAS : Nat := 15
def RESTART : Nat := 16
def PLACE : Nat := 17
def LAT : Nat := 18
end K

/-- Bytes of one identity biquad. -/
def bqOne : List Byte := toLE 4 0x10000000 ++ List.replicate 16 0

/-- A record after reset. For a parameter set and an EQ set the manual states no reset value: identity biquads, unity gain
and no trim (DESIGN CHOICE). Log 41, 127. -/
def recReset (kind : Nat) : List Byte :=
  match kind with
  | 0 => toLE 4 0
  | 1 => bqOne ++ bqOne ++ bqOne ++ bqOne ++ toLE 4 0x100000 ++ List.replicate 12 0
  | 2 => List.replicate 2048 0
  | 3 => toLE 4 0x1570000 ++ toLE 2 2000 ++ toLE 2 5000 ++ toLE 2 10133 ++ toLE 2 4000 ++ toLE 2 1 ++ toLE 2 0
  | 4 => toLE 1 0 ++ toLE 1 1 ++ toLE 2 0xFFFF ++ toLE 2 512 ++ toLE 1 90 ++ toLE 1 12 ++ toLE 2 0x100 ++ toLE 2 0x80
      ++ toLE 2 0x600 ++ toLE 2 0x600 ++ toLE 2 0 ++ toLE 1 90 ++ toLE 1 15 ++ toLE 4 0 ++ List.replicate 8 0
  | 5 => []
  | 6 => (List.replicate 16 bqOne).flatten ++ List.replicate 32 0
  | 7 => toLE 4 0x100000 ++ toLE 2 7 ++ toLE 1 32 ++ toLE 1 32 ++ toLE 2 0 ++ toLE 2 500 ++ toLE 2 192 ++ toLE 2 0
  | 8 => List.replicate 8 0
  | 9 => [0]
  | _ => toLE 4 0

/-- Record i of a kind. -/
def Mach.recd (s : Mach) (kind i : Nat) : Rec :=
  let d := recReset kind
  mget ⟨d, d, d, false⟩ s.rend.recs (rkey kind i)
def Mach.setRec (s : Mach) (kind i : Nat) (r : Rec) : Mach :=
  s.onRend (fun q => { q with recs := mput q.recs (rkey kind i) r })
def Mach.liveRec (s : Mach) (kind i : Nat) : List Byte := (s.recd kind i).live

/-- Live value before the running tick's token. -/
def Mach.liveWas (s : Mach) (kind i : Nat) : List Byte := mget (s.liveRec kind i) s.rend.was (rkey kind i)

/-- A record becomes live at a token; the shadow follows it (R69). -/
def Mach.putLive (s : Mach) (kind i : Nat) (b : List Byte) : Mach :=
  let r := s.recd kind i
  let s := s.onRend (fun q => { q with was := if (mfind q.was (rkey kind i)).isSome then q.was else mput q.was (rkey kind i) r.live })
  s.setRec kind i { r with live := b, shadow := b }

/-- Write a record into the scene stage and mark it (R68). -/
def Mach.putStage (s : Mach) (kind i : Nat) (b : List Byte) : Mach :=
  s.setRec kind i { s.recd kind i with stage := b, dirty := true }

/-- A parameter set from its bytes (R64). -/
def bqOf (l : List Byte) (o : Nat) : Bq := ⟨sfld l o 4, sfld l (o + 4) 4, sfld l (o + 8) 4, sfld l (o + 12) 4, sfld l (o + 16) 4⟩
def paramOf (l : List Byte) : ParamSet :=
  ⟨(List.range 4).map (fun k => bqOf l (20 * k)), fld l 80 4 % 2 ^ 24, bitOf (fld l 80 4) 31⟩

/-- Pole test of R65: |a2| < 1 and |a1| < 1 + a2. -/
def Bq.stable (c : Bq) : Bool := decide ((c.a2.natAbs : Int) < 2 ^ 28) && decide ((c.a1.natAbs : Int) < 2 ^ 28 + c.a2)

/-- First failing field of a run of n biquads at offset o. -/
def bqCheck (l : List Byte) (n : Nat) : Option Nat := (List.range n).find? (fun k => !(bqOf l (20 * k)).stable)

/-! ## Selectors (R16, R17) -/

def selKind (v : Nat) : Nat := v % 65536 / 4096
def selIdx (v : Nat) : Nat := v % 4096

/-- Check of a selector against the kinds a mux or tap takes: its status when refused. `mux` 0 input, 1 output, 2 tap. -/
def Mach.selBad (s : Mach) (mux v : Nat) : Option Nat :=
  let k := selKind v
  let i := selIdx v
  let lim (n : Nat) : Option Nat := if i < n then none else some 0x0104
  match mux, k with
  | 0, 0 => if i = 0 then none else some 0x0103
  | 1, 0 => if i = 0 then none else some 0x0103
  | 2, 0 => if i = 0 then none else some 0x0103
  | 0, 1 => lim 2048
  | 0, 2 => lim 512
  | 0, 3 => lim 64
  | 0, 4 => lim 16
  | 1, 8 => lim s.variant.feeds
  | 2, 9 => lim s.variant.objects
  | 2, 10 => lim 128
  | 2, 11 => lim s.variant.feeds
  | 2, 12 => lim s.variant.feeds
  | _, _ => some 0x0103

/-! ## Channels -/

def Mach.chan (s : Mach) (i : Nat) : Chan := mget Chan.init s.rend.chans i
def Mach.onChan (s : Mach) (i : Nat) (f : Chan → Chan) : Mach :=
  s.onRend (fun q => { q with chans := mmod Chan.init q.chans i f })

/-- Does channel i exist on this variant (R5)? -/
def Mach.chanOk (s : Mach) (i : Nat) : Bool := decide (i < s.variant.objects) || (decide (512 ≤ i) && decide (i < 640))

/-- An INSEL value becomes live: register, staged register and route (R20, R57). -/
def Mach.applyInsel (s : Mach) (i v : Nat) : Mach :=
  let v := v % 0x20000
  let s := (s.wr R.RENDER_INSEL v i).setLv R.RENDER_INSEL v i
  let r := s.recd K.INSEL i
  let s := s.setRec K.INSEL i { r with live := toLE 4 v }
  s.onChan i (fun c => { c with route := c.route.request (v % 65536) (bitOf v 16) })

/-! ## Sources (R22, R52, R56, R59) -/

/-- Is port n synchronous (R59)? -/
def Mach.aspSync (s : Mach) (n : Nat) : Bool :=
  if s.aspMaster n then (let src := s.gf F.ASP_BANK_CFG_SRC (n / 8); src = 1 || src = 2) else s.on F.ASP_STAT_SYNC n

/-- Nominal rate code of a selector's source: 0 none. -/
def Mach.srcRate (s : Mach) (sel : Nat) : Nat :=
  match selKind sel with
  | 1 => let p := selIdx sel / 32
         if s.glv F.ASP_CFG_RATE p = 0 then s.gf F.ASP_STAT_RATE p else s.glv F.ASP_CFG_RATE p
  | 2 => match s.sin.find? (fun e => e.2.en && decide (e.2.pool ≤ selIdx sel) && decide (selIdx sel < e.2.pool + e.2.chans)) with
         | some (_, x) => x.rate
         | none => 0
  | 3 => 4
  | 4 => 4
  | _ => 0

def Mach.srcSync (s : Mach) (sel : Nat) : Bool :=
  match selKind sel with
  | 1 => s.aspSync (selIdx sel / 32)
  | 0 => false
  | _ => true

/-- Can a converter keep lock on the source: its input port or its stream runs, without a glitch since the last token (R61,
R384, R398)? -/
def Mach.srcRuns (s : Mach) (sel : Nat) : Bool :=
  match selKind sel with
  | 1 => let p := selIdx sel / 32
         s.aspRun p && !s.aspOut p && !(s.aspSt p).glitched
  | 2 => match s.sin.find? (fun e => e.2.en && decide (e.2.pool ≤ selIdx sel) && decide (selIdx sel < e.2.pool + e.2.chans)) with
         | some (k, _) => s.gf F.STRM_IN_STAT_STATE k == 2
         | none => false
  | 3 => true
  | 4 => true
  | _ => false

/-- What the source delivered in the input tick whose first grid instant is n0; `direct` when no converter takes it. -/
def Mach.srcRaw (s : Mach) (gs ps : SMap (List Int)) (sel n0 : Nat) (direct : Bool) : List (Option Int) :=
  match selKind sel with
  | 1 => s.aspSamples (selIdx sel) direct
  | 2 => match s.ninSamples (selIdx sel) n0 with
         | some (_, l) => l
         | none => []
  | 3 => match mfind ps (selIdx sel) with
         | some l => l.map some
         | none => []
  | 4 => (mget (List.replicate 16 0) gs (selIdx sel)).map some
  | _ => List.replicate 16 (some 0)

/-- Sixteen samples: absent from the end of what was delivered. -/
def fit16 (l : List (Option Int)) : List (Option Int) := l.take 16 ++ List.replicate (16 - l.length) none

/-- Does a bypassed input qualify (R60)? -/
def Mach.bypassOk (s : Mach) (sel : Nat) : Bool := sel == 0 || (s.srcSync sel && s.srcRate sel == 4)

/-- May a bypassed input hold samples of the tick that ends? A slave port that has left SYNC has delivered the frames
before that instant. -/
def Mach.bypassHeld (s : Mach) (sel : Nat) : Bool := s.bypassOk sel || (selKind sel == 1 && s.srcRate sel == 4)

/-- Does an input slot lie in the frame, with its bit set in the live mask (R22, R391)? -/
def Mach.slotLive (s : Mach) (a : Nat) : Bool :=
  decide (a % 32 < s.aspSlots (a / 32)) && bitOf (s.rd R.ASP_MASK_LIVE (a / 32)) (a % 32)

/-- Does the selector's port or stream deliver nothing at all now (R22)? -/
def Mach.srcGone (s : Mach) (sel : Nat) : Bool :=
  match selKind sel with
  | 1 => let p := selIdx sel / 32
         !s.aspRun p || s.aspOut p || !s.slotLive (selIdx sel)
  | 2 => !s.srcRuns sel
  | _ => false

/-- First absent output sample of a converter that runs out of input: the instant of the first missing frame (R61).
Log 93. -/
def firstGap (l : List (Option Int)) (expect : Nat) : Option Nat :=
  match findPos (fun x => x.isNone) l with
  | some k => some (k * 16 / Nat.max 1 expect)
  | none => if l.length < expect then some (l.length * 16 / Nat.max 1 expect) else none

/-- First absent output sample of a locked side in the tick that ends: where its lock was lost, or its slot or stream
delivered nothing (R22, R61). -/
def Mach.sideGap (s : Mach) (gs ps : SMap (List Int)) (sd : Side) (n0 : Nat) : Option Nat :=
  let expect := rateHz (s.srcRate sd.sel) * 16 / 96000
  let here : Option Nat :=
    if selKind sd.sel = 1 then
      let l := s.aspSamples (selIdx sd.sel) false
      match findPos (fun x => x.isNone) l with
      | some k => some (k * 16 / Nat.max 1 expect)
      | none => if l.isEmpty && !s.slotLive (selIdx sd.sel) then some 0 else none
    else if expect = 0 then some 0 else firstGap (s.srcRaw gs ps sd.sel n0 false) expect
  match sd.lost, here with
  | some k, some g => some (Nat.min (k * 16 / Nat.max 1 expect) g)
  | some k, none => some (k * 16 / Nat.max 1 expect)
  | none, g => g

/-- Frames of a selector's port that were delivered before now; for a stream the gap shows in what it holds. -/
def Mach.framesSoFar (s : Mach) (sel : Nat) : Nat := if selKind sel = 1 then s.aspHeld (selIdx sel / 32) else 1000000

/-- May a converter in ACQUIRE go to SETTLING at this token: a synchronous source of another rate at once, one of 96 kHz
when its ratio has held for 32 ticks (R61)? Any other source waits for ASRC_SETTLING. Log 134. -/
def Mach.mayHold (s : Mach) (sd : Side) : Bool :=
  s.srcSync sd.sel && (if s.srcRate sd.sel = 4 then decide (32 ≤ sd.run) else decide (1 ≤ sd.run))

/-- One tick of a side: samples and the side with its converter's state moved on (R60, R61). Log 13. -/
def Mach.sideRun (s : Mach) (gs ps : SMap (List Int)) (sd : Side) (n0 : Nat) : List (Option Int) × Side × Mach :=
  if sd.bypass || sd.sel == 0 then
    (if s.bypassHeld sd.sel then fit16 (s.srcRaw gs ps sd.sel n0 true) else List.replicate 16 none, { sd with asrc := 0, run := 0 }, s)
  else
    let run := s.srcRuns sd.sel && sd.lost.isNone
    if sd.asrc = 3 || (sd.asrc = 2 && 3 ≤ sd.run && run) then
      let gap := s.sideGap gs ps (if run || sd.lost.isSome then sd else { sd with lost := some (s.framesSoFar sd.sel) }) n0
      let vals := (upto 16).map (fun i => match gap with
        | some g => if i < g then some (clamp32 (Config.convSample (s.free + i))) else none
        | none => some (clamp32 (Config.convSample (s.free + i))))
      let s := { s with free := s.free + 16 }
      (vals, { sd with asrc := if run then 3 else 1, run := 0, lost := none },
       s.when (!run && sd.lost.isNone) (·.evt F.RENDER_FE_EVT_ASRC_UNLOCK))
    else
      let none16 : List (Option Int) := List.replicate 16 none
      if !run then (none16, { sd with asrc := 1, run := 0 }, s)
      else if sd.asrc = 2 then
        -- R61: zeros for the three ticks in which the filter fills
        (none16, { sd with run := sd.run + 1 }, s)
      else if s.mayHold sd then (none16, { sd with asrc := 2, run := 1 }, s)
      else (none16, { sd with asrc := 1, run := sd.run + 1 }, s)

/-! ### Playback rings (R56) -/

def Mach.playBase (s : Mach) (p : Nat) : Nat := s.gf F.RENDER_PLAY_BASE_LO_ADDR p * 64 + 2 ^ 32 * s.gf F.RENDER_PLAY_BASE_HI_ADDR p
def Mach.play (s : Mach) (p : Nat) : Play := mget Play.init s.rend.plays p
def Mach.onPlay (s : Mach) (p : Nat) (f : Play → Play) : Mach := s.onRend (fun q => { q with plays := mmod Play.init q.plays p f })

/-- Internal words of a memory run. -/
def wordsAt (s : Mach) (a n : Nat) : List Int := (upto n).map (fun i => sext 32 (leNat (s.mrd (a + 4 * i) 4)))

/-- PLAY_PREFETCH: the next 64 bytes are fetched once they lie below WR and the prefetch has room. -/
def playPrefetch (p : Nat) (s : Mach) : Mach :=
  if 64 ≤ p || !s.on F.RENDER_PLAY_CTRL_EN p then s else
    let pl := s.play p
    let size := s.gf F.RENDER_PLAY_SIZE_BYTES p
    if 4 ≤ pl.pre.length || pl.fetch = s.rd R.RENDER_PLAY_WR p then s
    else s.onPlay p (fun q => { pre := q.pre ++ [wordsAt s (s.playBase p + q.fetch) 16], fetch := (q.fetch + 64) % size })

/-- Fetch whatever can be fetched: at a token the part has done so wherever its target answered. -/
def Mach.playFill (s : Mach) (dramOk : Bool) : Mach :=
  s.each (upto 64) (fun s p =>
    if !s.on F.RENDER_PLAY_CTRL_EN p || (dramBase ≤ s.playBase p && !dramOk) then s
    else s.each (upto 4) (fun s _ => playPrefetch p s))

/-- Collection of the playback rings: the samples of each channel that plays (R56). -/
def Mach.playCollect (s : Mach) : SMap (List Int) × Mach :=
  (upto 64).foldl (fun (m, s) p =>
    if !s.on F.RENDER_PLAY_CTRL_EN p then (m, s)
    else match (s.play p).pre with
      | t :: rest =>
        let size := s.gf F.RENDER_PLAY_SIZE_BYTES p
        (m ++ [(p, t)], (s.wr R.RENDER_PLAY_RD ((s.rd R.RENDER_PLAY_RD p + 64) % size) p).onPlay p (fun q => { q with pre := rest }))
      | [] => (m, (s.bump R.RENDER_PLAY_UNDERRUN p).evt F.RENDER_FE_EVT_PLAY_UNDERRUN)) (([] : SMap (List Int)), s)

/-- PLAY_CTRL_WRITE: setting EN empties the prefetch and sets RD and the fetch point to WR. -/
def playCtrlWrite (p v : Nat) (s : Mach) : Mach :=
  if 64 ≤ p then s else
    let was := s.on F.RENDER_PLAY_CTRL_EN p
    let s := s.wr R.RENDER_PLAY_CTRL (v % 2) p
    if bitOf v 0 && !was then
      let w := s.rd R.RENDER_PLAY_WR p
      (s.wr R.RENDER_PLAY_RD w p).onPlay p (fun _ => ⟨[], w⟩)
    else s

/-- PLAY_WR_WRITE. -/
def playWrWrite (p v : Nat) (s : Mach) : Mach :=
  let v := v % 2 ^ 24
  if 64 ≤ p || v % 64 != 0 || s.gf F.RENDER_PLAY_SIZE_BYTES p ≤ v then s else s.wr R.RENDER_PLAY_WR v p

/-! ### Generators (R53 to R55) -/

/-- One tick of every generator that makes a signal. -/
def Mach.genRun (s : Mach) : SMap (List Int) × Mach :=
  (upto 16).foldl (fun (m, s) g =>
    let ty := s.glv F.RENDER_GEN_CTRL_TYPE g
    if ty = 0 then (m, s) else
      let order := s.glv F.RENDER_GEN_CTRL_ORDER g
      let lvl := s.glv F.RENDER_GEN_LEVEL_PEAK g
      let st : Gen := mget (Gen.restart order (s.lv R.RENDER_GEN_SEED g)) s.rend.gens g
      let (ys, st') := genTick ty order (s.lv R.RENDER_GEN_FREQ g) (s.lv R.RENDER_GEN_SEED g)
        (mget lvl s.rend.genWas g) lvl 16 0 st
      (m ++ [(g, ys)], s.onRend (fun q => { q with gens := mput q.gens g st' }))) (([] : SMap (List Int)), s)

/-- Generator g's fields become live (R55): staged registers follow; a change of TYPE, ORDER or SEED restarts it, a
change of LEVEL ramps over the tick. -/
def Mach.applyGen (s : Mach) (g ctrl freq level seed : Nat) : Mach :=
  let restart := ctrl != s.lv R.RENDER_GEN_CTRL g || seed != s.lv R.RENDER_GEN_SEED g
  let was := s.glv F.RENDER_GEN_LEVEL_PEAK g
  let s := (((s.wr R.RENDER_GEN_CTRL ctrl g).wr R.RENDER_GEN_FREQ freq g).wr R.RENDER_GEN_LEVEL level g).wr R.RENDER_GEN_SEED seed g
  let s := (((s.setLv R.RENDER_GEN_CTRL ctrl g).setLv R.RENDER_GEN_FREQ freq g).setLv R.RENDER_GEN_LEVEL level g).setLv R.RENDER_GEN_SEED seed g
  s.onRend (fun q =>
    { q with gens := if restart then mput q.gens g (Gen.restart (bits ctrl 8 5) seed) else q.gens,
             genWas := if (mfind q.genWas g).isSome then q.genWas else mput q.genWas g was })

/-- A value of a generator register within R53 and R72? -/
def genCtrlOk (v : Nat) : Bool := decide (bits v 0 3 ≤ 3) && decide (10 ≤ bits v 8 5) && decide (bits v 8 5 ≤ 20)

/-! ## Commit requests by register writes (R24) -/

/-- Ask for the commit of block k at the next token: 0 INPUT, 1 GEN, 2 OUTSEL, 3 HP, 4 MEAS, 5 LAT. -/
def Mach.askCommit (s : Mach) (k : Nat) : Mach :=
  s.onRend (fun q => if q.commits.contains k then q else { q with commits := q.commits ++ [k] })

/-- RENDER_COMMIT_INPUT. -/
def renderCommitInput (v : Nat) (s : Mach) : Mach := s.when (bitOf v 0) (·.askCommit 0)
/-- RENDER_COMMIT_GEN. -/
def renderCommitGen (v : Nat) (s : Mach) : Mach := s.when (bitOf v 1) (·.askCommit 1)

/-- INSEL_WRITE: stages a selector or refuses it. -/
def inselWrite (i v : Nat) (s : Mach) : Mach :=
  if !s.chanOk i then s
  else if (s.selBad 0 v).isSome then s.evt F.RENDER_FE_EVT_BAD_SEL
  else s.wr R.RENDER_INSEL (v % 0x20000) i

/-- Apply every staged INSEL that differs from its live value (R57). -/
def Mach.commitInput (s : Mach) : Mach :=
  s.each (upto 640) (fun s i =>
    let v := s.rd R.RENDER_INSEL i
    if v = s.lv R.RENDER_INSEL i then s else s.applyInsel i v)

/-- Apply every staged generator field (R55). -/
def Mach.commitGen (s : Mach) : Mach :=
  s.each (upto 16) (fun s g =>
    let c := s.rd R.RENDER_GEN_CTRL g; let f := s.rd R.RENDER_GEN_FREQ g
    let l := s.rd R.RENDER_GEN_LEVEL g; let d := s.rd R.RENDER_GEN_SEED g
    if c = s.lv R.RENDER_GEN_CTRL g && f = s.lv R.RENDER_GEN_FREQ g && l = s.lv R.RENDER_GEN_LEVEL g && d = s.lv R.RENDER_GEN_SEED g
    then s else s.applyGen g c f l d)

/-! ## Converters and selectors by event (R21, R61) -/

/-- A side's converter as the loss of lock leaves it, `k` frames having been delivered: a locked one goes on to convert
those, one that settles goes back to ACQUIRE (R61). -/
def Side.unlock (k : Nat) (sd : Side) : Side :=
  if sd.lost.isSome then sd
  else if sd.asrc = 3 then { sd with lost := some k }
  else if sd.asrc = 2 then { sd with asrc := 1, run := 0 }
  else sd

/-- Take the converters of the channels whose selector satisfies p out of lock; ASRC_UNLOCK tells of those that were LOCKED
(R58, R61). -/
def Mach.asrcDrop (s : Mach) (p : Nat → Bool) : Mach :=
  let held (sd : Side) : Bool := decide (2 ≤ sd.asrc) && sd.lost.isNone && p sd.sel
  let hit := s.rend.chans.filter (fun e => held e.2.route.cur || e.2.route.old.any held)
  let told := hit.any (fun e => (held e.2.route.cur && e.2.route.cur.asrc == 3) || e.2.route.old.any (fun d => held d && d.asrc == 3))
  let drop (sd : Side) : Side := if held sd then sd.unlock (s.framesSoFar sd.sel) else sd
  (s.each hit (fun s e => s.onChan e.1 (fun c => { c with route := { c.route with cur := drop c.route.cur, old := c.route.old.map drop } }))).when
    told (·.evt F.RENDER_FE_EVT_ASRC_UNLOCK)

/-- The input converters of a port, a stream or a channel that has stopped lose lock at once (R58, R61). -/
def Mach.asrcWatch (s : Mach) : Mach := s.asrcDrop (fun sel => !s.srcRuns sel)

/-- Does a measurement of port n take a converter out of lock: the rate lies outside ±0.5 % of the nominal one, or it has
moved by more than the error of two measurements (R58, R394)? Log 134. -/
def Mach.rateUntracked (s : Mach) (n count was : Nat) : Bool :=
  let nom := 1000 * rateHz (s.gf F.ASP_STAT_RATE n)
  let mhz := 6400000000000 / Nat.max 1 count
  decide (200 * mhz < 199 * nom) || decide (201 * nom < 200 * mhz)
    || (was != 0 && decide (2 < ((count : Int) - was).natAbs))

/-- ASP_RATE_MEASURE: 64 frames of port n took `count` cycles of 100 MHz (R394, R395); the ASRCs that cannot track the rate
leave lock (R58). -/
def aspRateMeasure (n count : Nat) (s : Mach) : Mach :=
  if 64 ≤ n || !s.aspRun n || count = 0 then s else
    let bad := s.rateUntracked n count (if (s.aspSt n).rates.isEmpty then 0 else (s.aspSt n).count)
    let s := (s.aspMeasure n count).onAsp n (fun a => { a with count := count })
    s.when bad (·.asrcDrop (fun sel => selKind sel == 1 && selIdx sel / 32 == n && !s.srcSync sel))

/-- ASRC_SETTLING: the ratio estimate of channel i has held; `side` 1 is the side being faded out. -/
def asrcSettling (i : Nat) (old : Bool) (s : Mach) : Mach :=
  let up (sd : Side) : Side := if sd.asrc = 1 && !sd.bypass then { sd with asrc := 2, run := 0 } else sd
  if s.chanOk i then s.onChan i (fun c => { c with route :=
    if old then { c.route with old := c.route.old.map up } else { c.route with cur := up c.route.cur } }) else s

/-- ASRC_LOCKED: 48 output samples have been produced. -/
def asrcLocked (i : Nat) (old : Bool) (s : Mach) : Mach :=
  let up (sd : Side) : Side := if sd.asrc = 2 then { sd with asrc := 3, run := 0 } else sd
  if s.chanOk i then s.onChan i (fun c => { c with route :=
    if old then { c.route with old := c.route.old.map up } else { c.route with cur := up c.route.cur } }) else s

/-- ROUTE_XFADE_END at channel i, or at sink i - 640. -/
def routeXfadeEnd (i : Nat) (s : Mach) : Mach :=
  if i < 640 then s.onChan i (fun c => { c with route := c.route.boundary })
  else if i < 640 + 2624 then s.onRend (fun q => { q with sinks := mmod q.sinkRest q.sinks (i - 640) (fun k => { k with route := k.route.boundary }) })
  else s

/-! ## Collection: what each selected side delivers (R22, R26, R29) -/

/-- Collect the input tick whose first instant is n0 for every channel with a selection, once a pending change has started
(R21). -/
def Mach.collect (s : Mach) (n0 : Nat) : SMap (List (Option Int) × List (Option Int)) × Mach :=
  let (gs, s) := s.genRun
  let (ps, s) := s.playCollect
  let (m, s) := s.rend.chans.foldl (fun (m, s) e =>
    let r := e.2.route.boundary
    let (xn, cur, s) := Mach.sideRun s gs ps r.cur n0
    let (xo, old, s) := match r.old with
      | some o => let (x, o', s) := Mach.sideRun s gs ps o n0; (x, some o', s)
      | none => (([] : List (Option Int)), none, s)
    let unsync := r.cur.bypass && !s.bypassOk r.cur.sel
    let s := s.when (unsync && !e.2.unsync) (·.evt F.RENDER_FE_EVT_BYPASS_UNSYNC)
    let s := s.onChan e.1 (fun c => { c with route := { r with cur := cur, old := old }, unsync := unsync })
    (m ++ [(e.1, (xo, xn))], s)) (([] : SMap (List (Option Int) × List (Option Int))), s)
  (m, { s.ninDrop (n0 + 16) with asp := s.asp.map (fun e => (e.1, { e.2 with coll := [] })) })

/-! ## One tick of a channel (R62, R63, R66, R234) -/

/-- What a channel's tick gives: the input tap with absent marks, the chain's output, the channel after the tick. -/
structure ChanOut where
  tap : List (Int × Bool)
  out : List Int
  chan : Chan
  clips : Nat

/-- Run channel i on what its sides delivered; `missed` when its front end missed the tick, `off` when it is gated or
waking. -/
def Mach.chanTick (s : Mach) (i : Nat) (src : Option (List (Option Int) × List (Option Int))) (missed off : Bool) : ChanOut :=
  let c := s.chan i
  let nn : List (Option Int) := List.replicate 16 none
  let z16 : List Int := List.replicate 16 0
  let none16 : List (Option Int) := if off && !missed && c.route.cur.sel = selNone then z16.map some else nn
  let (xo, xn) := if missed || off then (nn, none16) else src.getD (List.replicate 16 (some 0), List.replicate 16 (some 0))
  let (ys, route) := c.route.tick xo xn
  let tap := (ys.zip xn).map (fun p => (p.1, p.2.isNone))
  if missed then
    ⟨tap, z16, { c with route := route, align := List.replicate 8 0 }, 0⟩
  else
    let (zs, bq, n) := chainTick (paramOf (s.liveWas K.CHAN i)) (paramOf (s.liveRec K.CHAN i)) c.bq ys
    if 512 ≤ i then
      let line := c.align ++ zs
      ⟨tap, line.take 16, { c with route := route, bq := bq, align := lastN 8 line }, n⟩
    else ⟨tap, zs, { c with route := route, bq := bq }, n⟩

end Sys2Proof.Machine
end

