-- ==== Sys2Proof/Machine/Geometry.lean ====
section
/-! DEFINITION. The geometry engine's arithmetic: atmosphere, trajectories, delays, gain laws (R73 to R103), in the
IEEE formats of R76. -/
namespace Sys2Proof.Machine

/-! ### Formats (R76) -/

def ad (a b : Rat) : Rat := rnd64 (a + b)
def sb (a b : Rat) : Rat := rnd64 (a - b)
def ml (a b : Rat) : Rat := rnd64 (a * b)
def dv (a b : Rat) : Rat := if b = 0 then 0 else rnd64 (a / b)
def sq (a : Rat) : Rat := rnd64 (sqrtQ a)
def pw (a b : Rat) : Rat := if a ≤ 0 then 0 else rnd64 (powQ a b)
def ad32 (a b : Rat) : Rat := rnd32 (a + b)
def sb32 (a b : Rat) : Rat := rnd32 (a - b)
def ml32 (a b : Rat) : Rat := rnd32 (a * b)
def dv32 (a b : Rat) : Rat := if b = 0 then 0 else rnd32 (a / b)
def sq32 (a : Rat) : Rat := rnd32 (sqrtQ a)
def pw32 (a b : Rat) : Rat := if a ≤ 0 then 0 else rnd32 (powQ a b)

/-- Q16.16 metres. -/
def q16 (v : Int) : Rat := (v : Rat) / 65536

/-! ### Atmosphere (R77 to R79, R102) -/

/-- Default atmosphere (R77). -/
def Atmos.dflt : Atmos := ⟨0x1570000, 2000, 5000, 10133, 4000, 1, false⟩

/-- Is a record within the ranges of R77? -/
def Atmos.ok (a : Atmos) : Bool :=
  decide (300 * 65536 ≤ a.c ∧ a.c ≤ 400 * 65536) && decide (-4000 ≤ a.temp ∧ a.temp ≤ 6000) &&
  decide (a.rh ≤ 10000) && decide (5000 ≤ a.press ∧ a.press ≤ 11000) &&
  decide (1000 ≤ a.airFc ∧ a.airFc ≤ 12000) && decide (1 ≤ a.cSlew ∧ a.cSlew ≤ 1000)

/-- The staged speed of sound: C, or the value computed from TEMP with C_AUTO (R78). -/
def Atmos.cStaged (a : Atmos) : Rat :=
  if a.cAuto then ml (rnd64 (3313 / 10)) (sq (ad 1 (dv a.temp 27315))) else (a.c : Rat) / 65536

/-- The air attenuation coefficient α in dB/m at 2 × AIR_FC (R79). -/
def Atmos.alpha (a : Atmos) : Rat :=
  let c (q : Rat) : Rat := rnd64 q
  let f : Rat := 2 * (a.airFc : Rat)
  let t := ad (dv a.temp 100) (c (27315 / 100))
  let t0 := c (29315 / 100)
  let t01 := c (27316 / 100)
  let pr : Rat := 101325
  let pa : Rat := 10 * (a.press : Rat)
  let rh : Rat := dv a.rh 100
  let pratio := dv pa pr
  let csat := ad (ml (c (-68346 / 10000)) (pw (dv t01 t) (c (1261 / 1000)))) (c (46151 / 10000))
  let h := dv (ml rh (rnd64 (pow10Q csat))) pratio
  let frO := ml pratio (ad 24 (dv (ml (ml 40400 h) (ad (c (2 / 100)) h)) (ad (c (391 / 1000)) h)))
  let tr := dv t t0
  let frN := ml (ml pratio (pw tr (-1 / 2)))
    (ad 9 (ml (ml 280 h) (rnd64 (expQ (ml (c (-4170 / 1000)) (sb (pw tr (dv (-1) 3)) 1))))))
  let f2 := ml f f
  let cl := ml (dv (c (184 / 10000000000000)) pratio) (pw tr (1 / 2))
  let o2 := dv (ml (c (1275 / 100000)) (rnd64 (expQ (dv (c (-22391 / 10)) t)))) (ad frO (dv f2 frO))
  let n2 := dv (ml (c (1068 / 10000)) (rnd64 (expQ (dv (-3352) t)))) (ad frN (dv f2 frN))
  ml (ml (c (8686 / 1000)) f2) (ad cl (ml (pw tr (-5 / 2)) (ad o2 n2)))

/-- What rendering uses of a record (R79). -/
def Atmos.toAir (a : Atmos) : Air := ⟨a.alpha, a.airFc⟩

/-- GEO_ALPHA: α in units of 2^-24 dB/m. -/
def Air.word (a : Air) : Nat := (rhaQ (a.alpha * (2 ^ 24 : Nat))).toNat

/-- One tick of the slew of the effective speed of sound (R78). -/
def slewC (cPrev cStaged : Rat) (ppm : Nat) : Rat :=
  let stp := ml cPrev (dv ppm 1000000)
  if cStaged < sb cPrev stp then sb cPrev stp
  else if ad cPrev stp < cStaged then ad cPrev stp
  else cStaged

/-- Shelf coefficients of code `q` with corner `fc`, to 28 fraction bits (R102; rounding of the conversion DEDUCED
from R76). Log 10. -/
def shelfBq (fc q : Nat) : Bq :=
  if q = 0 then Bq.one else
    let a := rnd64 (pow10Q (dv (-(q : Rat)) 320))
    let w := dv (ml (ml 2 (rnd64 piQ)) fc) 96000
    let al := dv (rnd64 (sinQ w)) (sq 2)
    let cw := rnd64 (cosQ w)
    let ap := ad a 1
    let am := sb a 1
    let sa := ml (ml 2 (sq a)) al
    let b0 := ml a (ad (ad ap (ml am cw)) sa)
    let b1 := ml (ml (-2) a) (ad am (ml ap cw))
    let b2 := ml a (sb (ad ap (ml am cw)) sa)
    let a0 := ad (sb ap (ml am cw)) sa
    let a1 := ml 2 (sb am (ml ap cw))
    let a2 := sb (sb ap (ml am cw)) sa
    let k (v : Rat) : Int := rhaQ (dv v a0 * (2 ^ 28 : Nat))
    ⟨k b0, k b1, k b2, k a1, k a2⟩

/-! ### Records -/

/-- Default geometry record (R84). -/
def GeoRec.dflt : GeoRec := ⟨0, true, 0xFFFF, 512, 90, 12, 0x100, 0x80, 0x600, 0x600, 0, 90, 15, 0⟩

/-- Ranges of R84. -/
def GeoRec.ok (r : GeoRec) : Bool :=
  decide (r.law ≤ 3) && decide (1 ≤ r.pathLimit ∧ r.pathLimit ≤ 512) && decide (r.cull ≤ 120) &&
  decide (r.hyst ≤ 40) && decide (r.dref ≠ 0) && decide (r.dmin ≠ 0) && decide (r.dlaw ≤ 0x1800) &&
  decide (r.rolloff ≤ 0x1800) && decide (r.aperture ≤ 180) && decide (r.taper ≤ r.aperture) &&
  decide (r.bulk ≤ 262144)

/-! ### Trajectories (R86 to R93) -/

/-- Instant te(m) in seconds (R75). -/
def te (m : Nat) : Rat := (m : Rat) / 6000

/-- Time of a keyframe in seconds. -/
def Key.sec (k : Key) : Rat := (k.t : Rat) / 1000000000

/-- Two keyframe times closer than 1/96,000 s are equal (R86). -/
def Key.same (a b : Nat) : Bool := decide (96 * (if a < b then b - a else a - b) < 1000000)

/-- Position of a keyframe with velocity `v`. -/
def Key.at (k : Key) (v : Rat × Rat × Rat) : Kin := ⟨q16 k.x, q16 k.y, q16 k.z, v.1, v.2.1, v.2.2⟩

/-- The velocity a keyframe states. -/
def Key.vel (k : Key) : Rat × Rat × Rat := ((k.vx : Rat) / 256, (k.vy : Rat) / 256, (k.vz : Rat) / 256)

/-- State at a cut: the keyframe's velocity when EXPLICIT, else zero (R93). -/
def Key.cutKin (k : Key) : Kin := k.at (if k.explicit then k.vel else (0, 0, 0))

/-- Insertion into a queue (R87): REPLAN discard, replacement of an equal time, insertion in time order. -/
def keyInsert (q : List Key) (k : Key) : List Key :=
  let q1 := if k.replan then q.filter (fun x => decide (x.t ≤ k.t) || Key.same x.t k.t) else q
  let q2 := q1.filter (fun x => !Key.same x.t k.t)
  insertBy (fun x => x.t) k q2

/-- The fixed tangent at the end of a segment (R89): `rest` are the keyframes queued after it. -/
def tangent (k : Key) (tb : Rat) (ta : Rat) (a : Kin) (rest : List Key) : Rat × Rat × Rat :=
  if k.explicit then k.vel
  else
    let (tgt, t) := match rest with
      | n :: _ => if n.cut then (k, tb) else (n, n.sec)
      | [] => (k, tb)
    let h := rnd64 (t - ta)
    (dv (sb (q16 tgt.x) a.px) h, dv (sb (q16 tgt.y) a.py) h, dv (sb (q16 tgt.z) a.pz) h)

/-- Hermite position and velocity of one component (R88); each power of u is one rounded operation. Log 143. -/
def hermite (h u pa va pb vb : Rat) : Rat × Rat :=
  let u2 := rnd64 (u * u)
  let u3 := rnd64 (u * u * u)
  let p := ad (ad (ad (ml (ad (sb (ml 2 u3) (ml 3 u2)) 1) pa) (ml (ml (ad (sb u3 (ml 2 u2)) u) h) va))
    (ml (ad (ml (-2) u3) (ml 3 u2)) pb)) (ml (ml (sb u3 u2) h) vb)
  let v := dv (ad (ad (ad (ml (sb (ml 6 u2) (ml 6 u)) pa) (ml (ml (ad (sb (ml 3 u2) (ml 4 u)) 1) h) va))
    (ml (ad (ml (-6) u2) (ml 6 u)) pb)) (ml (ml (sb (ml 3 u2) (ml 2 u)) h) vb)) h
  (p, v)

/-- State of a segment at instant `t` (R88): instants are exact, their differences are rounded to binary64. Log 143. -/
def Seg.eval (s : Seg) (t : Rat) : Kin :=
  let h := rnd64 (s.tb - s.ta)
  let u := dv (rnd64 (t - s.ta)) h
  let x := hermite h u s.a.px s.a.vx s.b.px s.b.vx
  let y := hermite h u s.a.py s.a.vy s.b.py s.b.vy
  let z := hermite h u s.a.pz s.a.vz s.b.pz s.b.vz
  ⟨x.1, y.1, z.1, x.2, y.2, z.2⟩

/-- A segment from state `a` at `ta` to keyframe `k`. -/
def Seg.make (ta : Rat) (a : Kin) (k : Key) (rest : List Key) : Seg :=
  ⟨ta, a, k.sec, k.at (tangent k k.sec ta a rest), k⟩

/-- Outcome of a target computation's trajectory part. -/
structure TrajOut where
  seg : Option Seg
  kin : Kin
  queue : List Key
  used : List Key
  cut : Bool
  hold : Bool
  late : Nat
  stale : Nat

/-- Follow the queue up to instant `t1` from state `kin` reached at `tc` (R88 to R91, R93). -/
def trajWalk (t1 : Rat) : Nat → Option Seg → Rat → Kin → List Key → List Key → Bool → TrajOut
  | 0, _, _, kin, q, used, cut => ⟨none, kin, q, used, cut, true, 0, 0⟩
  | n + 1, seg, tc, kin, q, used, cut =>
    match q with
    | [] =>
      -- R90: the hold's velocity is zero once the instant has passed the last keyframe
      let kin' := if tc < t1 then { kin with vx := 0, vy := 0, vz := 0 } else kin
      ⟨none, kin', q, used, cut, true, 0, 0⟩
    | k :: rest =>
      if cut && decide (k.sec ≤ t1) then ⟨none, kin, q, used, cut, false, 0, 0⟩
      else if k.cut then
        if k.sec ≤ t1 then trajWalk t1 n none t1 k.cutKin rest (k :: used) true
        else
          let kin' := if tc < t1 then { kin with vx := 0, vy := 0, vz := 0 } else kin
          ⟨none, kin', q, used, cut, true, 0, 0⟩
      else
        let s := match seg with
          | some s => if s.key = k then s else Seg.make tc kin k rest
          | none => Seg.make tc kin k rest
        if t1 < s.tb then ⟨some s, s.eval t1, q, used, cut, false, 0, 0⟩
        else trajWalk t1 n none s.tb s.b rest (k :: used) cut

/-- The trajectory part of the target computation for tick `m` (R88 to R93) from the snapshot `q`; `last` is the tick of the last
evaluated instant, at which a restarted segment starts. Log 145. -/
def trajStep (m last : Nat) (tr : Traj) (q : List Key) : TrajOut :=
  let t0 := te (m - 1)
  let ta := te last
  let t1 := te m
  let late := q.filter (fun k => decide (k.sec ≤ t0))
  let rest := q.filter (fun k => decide (t0 < k.sec))
  let use := !rest.any (fun k => decide (k.sec ≤ t1))
  match late.getLast?, use with
  | some l, true =>
    let o :=
      if l.cut then trajWalk t1 12 none t1 l.cutKin rest [] true
      else
        let b := l.at (tangent l t1 ta tr.kin rest)
        trajWalk t1 12 none t1 b rest [] false
    { o with used := late ++ o.used, late := late.length, stale := late.length - 1 }
  | _, _ =>
    let o := trajWalk t1 12 tr.seg ta tr.kin rest [] false
    { o with used := late ++ o.used, late := late.length, stale := late.length }

/-! ### Distances and delays (R94 to R96) -/

/-- Length of a vector in binary64. -/
def vlen (x y z : Rat) : Rat := sq (ad (ad (ml x x) (ml y y)) (ml z z))

/-- Distance and its rate of change from a point `c` to the object (TRIPLET, DISTANCE) or from the object to a speaker
(WAVEFRONT): both are |p − c| with rate (p − c)·v / r (R94). At r = 0 the manual states no rate: a free value. Log 18. -/
def distRate (k : Kin) (x y z : Rat) (open_ : Rat) : Rat × Rat :=
  let dx := sb k.px x
  let dy := sb k.py y
  let dz := sb k.pz z
  let r := vlen dx dy dz
  (r, if r = 0 then open_ else dv (ad (ad (ml dx k.vx) (ml dy k.vy)) (ml dz k.vz)) r)

/-- Delay in samples, and slope in sample per sample, at distance `r` and rate `dr` (R94, R78). -/
def delaySlope (r dr c cPrev : Rat) : Rat × Rat :=
  let d := dv (ml 96000 r) c
  (d, sb (dv dr c) (ml (dv d c) (dv (sb c cPrev) 16)))

/-- The largest spread in Q15.17 (R95). -/
def spreadMax : Nat := 32767 * 2 ^ 17

/-- Counter notes of a target computation. -/
structure TgtOut where
  tgt : Tgt
  delayClamp : Bool
  doppler : Bool
  gainClamp : Bool

/-- Clamp and convert a target (R95, R96, R101, R103): `prev` is the previous target of a continuing path. -/
def mkTgt (s m g : Rat) (shelf : Nat) (prev : Option Tgt) : TgtOut :=
  let out := decide (s < 0) || decide (32767 < s)
  let s1 := clampQ 0 32767 s
  let m1 := if out then 0 else m
  let mi := rhaQ (m1 * 65536)
  let mc := clampI (-16384) 13107 mi
  let (s2, sc) := match prev with
    | none => (s1, false)
    | some e =>
      let p : Rat := (e.spread : Rat) / (2 ^ 17 : Nat)
      let v := clampQ (p - 4) (p + 16 / 5) s1
      (v, decide (v ≠ s1))
  let gi := rhaQ (g * (2 ^ 20 : Nat))
  ⟨⟨(clampI 0 spreadMax (rhaQ (s2 * (2 ^ 17 : Nat)))).toNat, mc, (clampI 0 0xFFFFFF gi).toNat, shelf⟩,
   out, decide (mc ≠ mi) || sc, decide (0xFFFFFF < gi)⟩

/-- Extrapolated target of R93 and R109: spread plus 16 times the slope, the rest held. -/
def Tgt.extrapolate (t : Tgt) : Tgt :=
  { t with spread := (clampI 0 spreadMax ((t.spread : Int) + t.slope * 32)).toNat }

/-- Target of a fade-out tick (R93). -/
def Tgt.fadeOut (t : Tgt) : Tgt := { t.extrapolate with gain := 0 }

/-- Air-shelf code at distance `r` (R102). -/
def shelfCode (alpha r : Rat) : Nat := (clampI 0 255 (rhaQ (ml (ml 8 alpha) r))).toNat

/-! ### Gain laws (R97 to R100), binary32 -/

/-- L(r) (R97). -/
def distLaw (g : GeoRec) (r : Rat) : Rat :=
  let beta := dv32 ((g.dlaw : Rat) / 256) (rnd32 (60206 / 10000))
  let rr := rnd32 r
  let dm : Rat := (g.dmin : Rat) / 256
  pw32 (dv32 ((g.dref : Rat) / 256) (if rr < dm then dm else rr)) beta

/-- Aperture taper of a speaker seen from the object (R98); 180/π is a quotient of binary32 values. Log 143. -/
def taperOf (g : GeoRec) (s : Spk) (dx dy dz r : Rat) : Rat :=
  if (s.aimX = 0 ∧ s.aimY = 0 ∧ s.aimZ = 0) ∨ r = 0 then 1
  else
    let ax : Rat := (s.aimX : Rat) / 16384
    let ay : Rat := (s.aimY : Rat) / 16384
    let az : Rat := (s.aimZ : Rat) / 16384
    let dot := ad32 (ad32 (ml32 ax (rnd32 dx)) (ml32 ay (rnd32 dy))) (ml32 az (rnd32 dz))
    let la := sq32 (ad32 (ad32 (ml32 ax ax) (ml32 ay ay)) (ml32 az az))
    let cth := clampQ (-1) 1 (dv32 dot (ml32 (rnd32 r) la))
    let k := dv32 180 (rnd32 piQ)
    let theta := ml32 (rnd32 (acosQ cth)) k
    let lo : Rat := (g.aperture : Rat) - (g.taper : Rat)
    if theta ≤ lo then 1
    else if (g.aperture : Rat) ≤ theta then 0
    else
      let arg := dv32 (ml32 180 (sb32 theta lo)) g.taper
      ml32 (1 / 2) (ad32 1 (rnd32 (cosQ (ml32 arg (dv32 (rnd32 piQ) 180)))))

/-- A candidate path: feed, gain, distance and its rate. -/
structure Cand where
  feed : Nat
  g : Rat
  r : Rat
  dr : Rat

/-- Speakers that an object admits, with their feed number (R104). -/
def admitted (gr : GeoRec) (tab : SpkTab) : List (Nat × Spk) :=
  (mapIdxFrom' 0 tab.spk).filter (fun p => p.2.en && bitOf gr.groupMask p.2.group)
where
  /-- Number the elements of a list. -/
  mapIdxFrom' : Nat → List Spk → List (Nat × Spk)
    | _, [] => []
    | i, a :: r => (i, a) :: mapIdxFrom' (i + 1) r

/-- WAVEFRONT (R98). -/
def wavefront (gr : GeoRec) (tab : SpkTab) (k : Kin) : List Cand :=
  (admitted gr tab).map fun (f, s) =>
    let sx := q16 s.x; let sy := q16 s.y; let sz := q16 s.z
    let (r, dr) := distRate k sx sy sz (Config.openReal f)
    let t := taperOf gr s (sb sx k.px) (sb sy k.py) (sb sz k.pz) r
    ⟨f, ml32 (ml32 ((s.weight : Rat) / 32768) t) (distLaw gr r), r, dr⟩

/-- Unit vector from C to a speaker, binary32. -/
def unit32 (tab : SpkTab) (s : Spk) : Rat × Rat × Rat :=
  let x := q16 (s.x - tab.cx); let y := q16 (s.y - tab.cy); let z := q16 (s.z - tab.cz)
  let r := rnd32 (vlen x y z)
  (dv32 (rnd32 x) r, dv32 (rnd32 y) r, dv32 (rnd32 z) r)

/-- Determinant of three column vectors, binary32. -/
def det32 (a b c : Rat × Rat × Rat) : Rat :=
  ad32 (sb32 (ml32 a.1 (sb32 (ml32 b.2.1 c.2.2) (ml32 c.2.1 b.2.2)))
    (ml32 b.1 (sb32 (ml32 a.2.1 c.2.2) (ml32 c.2.1 a.2.2))))
    (ml32 c.1 (sb32 (ml32 a.2.1 b.2.2) (ml32 b.2.1 a.2.2)))

/-- Cross product of two vectors, binary32. -/
def cross32 (a b : Rat × Rat × Rat) : Rat × Rat × Rat :=
  (sb32 (ml32 a.2.1 b.2.2) (ml32 a.2.2 b.2.1), sb32 (ml32 a.2.2 b.1) (ml32 a.1 b.2.2), sb32 (ml32 a.1 b.2.1) (ml32 a.2.1 b.1))

/-- The inverse of a triangle's matrix, by rows, binary32 (R82, R99): cofactors over the determinant. Log 143. -/
def inv32 (a b c : Rat × Rat × Rat) : (Rat × Rat × Rat) × (Rat × Rat × Rat) × (Rat × Rat × Rat) :=
  let d := det32 a b c
  let row (v : Rat × Rat × Rat) : Rat × Rat × Rat := (dv32 v.1 d, dv32 v.2.1 d, dv32 v.2.2 d)
  (row (cross32 b c), row (cross32 c a), row (cross32 a b))

/-- Scalar product, binary32, left to right. -/
def dot32 (a b : Rat × Rat × Rat) : Rat := ad32 (ad32 (ml32 a.1 b.1) (ml32 a.2.1 b.2.1)) (ml32 a.2.2 b.2.2)

/-- Normalise so that the squares sum to one, binary32, ascending order; where every component is zero the result is zero.
Log 143. -/
def normSq (l : List (Nat × Rat)) : List (Nat × Rat) :=
  let s := sq32 (l.foldl (fun a p => ad32 a (ml32 p.2 p.2)) 0)
  l.map fun p => (p.1, dv32 p.2 s)

/-- TRIPLET (R99). -/
def triplet (gr : GeoRec) (tab : SpkTab) (k : Kin) : List Cand :=
  let adm := admitted gr tab
  let find (i : Nat) : Option Spk := (adm.find? (fun p => p.1 == i)).map (·.2)
  let cx := q16 tab.cx; let cy := q16 tab.cy; let cz := q16 tab.cz
  let (rc, dr) := distRate k cx cy cz (Config.openReal 512)
  let dir : Rat × Rat × Rat :=
    if 0 < rc then
      let r := rnd32 rc
      (dv32 (rnd32 (sb k.px cx)) r, dv32 (rnd32 (sb k.py cy)) r, dv32 (rnd32 (sb k.pz cz)) r)
    else (1, 0, 0)
  let tris := tab.tris.filterMap fun t =>
    match find t.a, find t.b, find t.c with
    | some a, some b, some c =>
      let ua := unit32 tab a; let ub := unit32 tab b; let uc := unit32 tab c
      let i := inv32 ua ub uc
      some [(t.a, dot32 i.1 dir), (t.b, dot32 i.2.1 dir), (t.c, dot32 i.2.2 dir)]
    | _, _, _ => none
  let minG (l : List (Nat × Rat)) : Rat := l.foldl (fun a p => if p.2 < a then p.2 else a) (2 ^ 60 : Nat)
  match tris with
  | [] => []
  | t0 :: ts =>
    let best := ts.foldl (fun b t => if minG b < minG t then t else b) t0
    let g := normSq (best.map fun p => (p.1, if p.2 < 0 then 0 else p.2))
    let dm : Rat := (gr.dmin : Rat) / 256
    let rc32 := rnd32 rc
    let sp : Rat := (gr.spread : Rat) / 65536
    let s := if rc32 < dm then (let v := sb32 1 (dv32 rc32 dm); if sp < v then v else sp) else sp
    let named := (adm.map (·.1)).filter (fun f => tris.any (fun t => t.any (fun p => p.1 == f)))
    let blend := dv32 s (sq32 named.length)
    let g' := normSq (named.map fun f => (f, ad32 (ml32 (sb32 1 s) (mget 0 g f)) blend))
    let l := distLaw gr rc
    g'.map fun p => ⟨p.1, ml32 l p.2, rc, dr⟩

/-- DISTANCE (R100). -/
def distanceLaw (gr : GeoRec) (tab : SpkTab) (k : Kin) : List Cand :=
  let cx := q16 tab.cx; let cy := q16 tab.cy; let cz := q16 tab.cz
  let (rc, dr) := distRate k cx cy cz (Config.openReal 512)
  let b : Rat := (gr.spread : Rat) / 256
  let a := dv32 ((gr.rolloff : Rat) / 256) (rnd32 (60206 / 10000))
  let dm : Rat := (gr.dmin : Rat) / 256
  let gs := (admitted gr tab).map fun (f, s) =>
    let r := rnd32 (vlen (sb (q16 s.x) k.px) (sb (q16 s.y) k.py) (sb (q16 s.z) k.pz))
    let d := sq32 (ad32 (ml32 r r) (ml32 b b))
    (f, pw32 (if d < dm then dm else d) (-a))
  let l := distLaw gr rc
  (normSq gs).map fun p => ⟨p.1, ml32 l p.2, rc, dr⟩

/-- Candidates of an object under its law (R98 to R100, R104). -/
def candidates (gr : GeoRec) (tab : SpkTab) (k : Kin) : List Cand :=
  match gr.law with
  | 1 => wavefront gr tab k
  | 2 => triplet gr tab k
  | 3 => distanceLaw gr tab k
  | _ => []

/-- 10^(n/40), binary32 (R104), of the binary32 quotient. Log 143. -/
def dbGain (n : Int) : Rat := rnd32 (pow10Q (dv32 n 40))

/-- The candidates kept (R104): `active` tells which feeds the object already renders. The largest gains first. -/
def selectPaths (gr : GeoRec) (active : Nat → Bool) (cs : List Cand) : List Cand :=
  let thrNew := dbGain (-(2 * (gr.cull : Int)))
  let thrKeep := dbGain (-(2 * (gr.cull : Int) + gr.hyst))
  let boost := dbGain gr.hyst
  let q := cs.filter fun c => if active c.feed then decide (thrKeep ≤ c.g) else decide (thrNew ≤ c.g)
  let rank (c : Cand) : Rat := if active c.feed then ml32 c.g boost else c.g
  let ins (l : List Cand) (c : Cand) : List Cand :=
    l.takeWhile (fun d => decide (rank c ≤ rank d)) ++ c :: l.dropWhile (fun d => decide (rank c ≤ rank d))
  (q.foldl ins []).take gr.pathLimit

/-! ### Speaker-table checks (R82) -/

/-- Is the aim vector zero or of length 0.98 to 1.02? -/
def Spk.aimOk (s : Spk) : Bool :=
  let l2 := s.aimX * s.aimX + s.aimY * s.aimY + s.aimZ * s.aimZ
  decide (s.aimX = 0 ∧ s.aimY = 0 ∧ s.aimZ = 0) ||
    decide (98 * 98 * 16384 * 16384 ≤ 10000 * l2 ∧ 10000 * l2 ≤ 102 * 102 * 16384 * 16384)

end Sys2Proof.Machine
end

