-- ==== Sys2Proof/Machine/PathRender.lean ====
section
/-! DEFINITION. A path engine's work on one path in one tick: delay trajectory (R120), window and phase (R121, R123,
R124), kernels (R125, R126), air shelf (R127) and gain (R128). -/
namespace Sys2Proof.Machine

/-- Modified Bessel function of order 0. -/
def besselI0 (x : Rat) : Rat :=
  let y := toFx (x * x / 4)
  let rec go : Nat → Int → Nat → Int
    | 0, _, _ => 0
    | n + 1, t, k => t + go n (fxMul t y / Int.ofNat ((k + 1) * (k + 1))) (k + 1)
  ofFx (go 50 (2 ^ wp) 0)

/-- sinc(x) = sin(πx)/(πx). -/
def sincQ (x : Rat) : Rat := if x = 0 then 1 else sinQ (piQ * x) / (piQ * x)

/-- One raw coefficient of R125 in units of 2^-22. -/
def kernelRaw (beta kk : Rat) (phi k : Nat) : Int :=
  let x : Rat := (k : Rat) - 8 - (phi : Rat) / 512
  let w := besselI0 (beta * sqrtQ (1 - (x / kk) * (x / kk))) / besselI0 beta
  rhaQ ((2 ^ 22 : Nat) * sincQ x * w)

/-- Index of the element of largest magnitude, the first of several. -/
def argMaxAbs : Nat → Nat → Int → List Int → Nat
  | best, _, _, [] => best
  | best, i, m, a :: r => if m < (a.natAbs : Int) then argMaxAbs i (i + 1) a.natAbs r else argMaxAbs best (i + 1) m r

/-- Coefficients of phase `phi` of the 16-tap kernel, or of the 12-tap kernel (R125, R126). -/
def kernel (k12 : Bool) (phi : Nat) : List Int :=
  if phi = 0 then (List.range 16).map (fun k => if k = 8 then 2 ^ 22 else 0)
  else
    let h := (List.range 16).map fun k =>
      if k12 then (if 2 ≤ k ∧ k ≤ 13 then kernelRaw 6 7 phi k else 0) else kernelRaw 7 9 phi k
    let e : Int := 2 ^ 22 - h.foldl (· + ·) 0
    let i := argMaxAbs 0 0 (-1) h
    h.set i ((h[i]?.getD 0) + e)

/-- Delay of a path over the tick: d[0] … d[16] with 32 fraction bits, and whether a step was limited (R120). -/
def delayTick (d0 s0 s1 m1 : Int) : List Int × Bool :=
  let a : Rat := (d0 : Rat) / (2 ^ 32 : Nat)
  let sa : Rat := (s0 : Rat) / 65536
  let b : Rat := (s1 : Rat) / (2 ^ 17 : Nat)
  let sb' : Rat := (m1 : Rat) / 65536
  let rec go : Nat → Nat → Int → List Int × Bool
    | 0, _, _ => ([], false)
    | n + 1, j, prev =>
      let u : Rat := (j : Rat) / 16
      let c := (2 * u ^ 3 - 3 * u ^ 2 + 1) * a + (u ^ 3 - 2 * u ^ 2 + u) * 16 * sa
        + (-2 * u ^ 3 + 3 * u ^ 2) * b + (u ^ 3 - u ^ 2) * 16 * sb'
      let ci := rhaQ (c * (2 ^ 32 : Nat))
      let st := ci - prev
      let (st', cl) :=
        if st < -(2 ^ 30) then (-(2 ^ 30), true)
        else if 2 ^ 32 < st * 5 then (858993459, true)
        else (st, false)
      let (r, cl') := go n (j + 1) (prev + st')
      ((prev + st') :: r, cl || cl')
  let (r, cl) := go 16 1 d0
  (d0 :: r, cl)

/-- Integer part after the carry, and phase (R123). -/
def phaseOf (d : Int) : Int × Nat :=
  let f := (d % 2 ^ 32).toNat
  let p := (f + 2 ^ 22) / 2 ^ 23
  if p = 512 then (d / 2 ^ 32 + 1, 0) else (d / 2 ^ 32, p)

/-- Shift the window up to top index `t`: `rd` reads the history at a sample index (R124). -/
def shiftWin (rd : Int → Int) : Nat → Int → Int → List Int → List Int
  | 0, _, _, w => w
  | n + 1, cur, t, w => if cur < t then shiftWin rd n (cur + 1) t (rd (cur + 1) :: w.take 15) else w

/-- Sum of products of a kernel and a window, rounded at 22 fraction bits (R124). -/
def firOut (h w : List Int) : Int := rhu 22 ((h.zip w).foldl (fun a p => a + p.1 * p.2) 0)

/-- Which kernel a tick runs: one of the two, or the cross-fade from `old` (true: 12-tap) to the other (R126). -/
inductive KernelRun where
  | one (k12 : Bool)
  | fade (from12 : Bool)
  deriving DecidableEq, Repr

/-- One interpolated sample (R124, R126). -/
def interp (kr : KernelRun) (j phi : Nat) (w : List Int) : Int :=
  match kr with
  | .one k => firOut (kernel k phi) w
  | .fade f => mix16 j (firOut (kernel f phi) w) (firOut (kernel (!f) phi) w)

/-- The samples of a path over a tick: delays, window and shelf state evolve sample by sample. `m16` is 16m − 16. -/
def pathSamples (rd : Int → Int) (kr : KernelRun) (bq : Bq) (g0 g1 : Int) (m16 : Int) :
    Nat → List Int → List Int → Int → BqSt → List Int × List Int × Int × BqSt
  | _, [], w, top, st => ([], w, top, st)
  | j, d :: ds, w, top, st =>
    let (i, phi) := phaseOf d
    let t := m16 + j - i
    let w' := shiftWin rd 40 top t w
    let v := interp kr j phi w'
    let (y, st') := bqCore bq st v
    let p := rhu 24 (y * (16 * g0 + (g1 - g0) * (j + 1)))
    let (ps, w'', top', st'') := pathSamples rd kr bq g0 g1 m16 (j + 1) ds w' (max top t) st'
    (p :: ps, w'', top', st'')

/-- Fill of a window cache at a new path's first sample (R121). -/
def fillWin (rd : Int → Int) (top : Int) : List Int := (List.range 16).map fun (k : Nat) => rd (top - k)

/-- Shelf code of the tick: one step toward the target; a new path takes it at once (R127). -/
def stepShelf (p : Path) : Nat :=
  if p.new then p.tgt.shelf
  else if p.q < p.tgt.shelf then p.q + 1 else if p.tgt.shelf < p.q then p.q - 1 else p.q

/-- Start state of the tick (R120, R121). -/
def Path.startState (p : Path) : Int × Int :=
  if p.new then ((p.tgt.spread : Int) * 2 ^ 15 - 16 * p.tgt.slope * 2 ^ 16, p.tgt.slope) else (p.d, p.sl)

/-- A path rendered over tick `m`: path-samples, the path at the end of the tick, and whether a step was limited. -/
def renderPath (rd : Int → Int) (kr : KernelRun) (fc m : Nat) (p : Path) : List Int × Path × Bool :=
  let m16 : Int := 16 * (m : Int) - 16
  let (d0, s0) := p.startState
  let (ds, limited) := delayTick d0 s0 p.tgt.spread p.tgt.slope
  let q := stepShelf p
  let g1 : Int := if p.starve || p.fade then 0 else p.tgt.gain
  let g0 : Int := if p.new then 0 else p.g
  let top0 := m16 - (phaseOf d0).1
  let fresh := p.new || p.win.isEmpty
  let win0 := if fresh then fillWin rd top0 else p.win
  let topS := if fresh then top0 else p.top
  let st0 : BqSt := if p.new then ⟨0, 0⟩ else ⟨p.sh1, p.sh2⟩
  let (out, win, top, st) := pathSamples rd kr (shelfBq fc q) g0 g1 m16 0 (ds.take 16) win0 topS st0
  let dEnd := ds[16]?.getD d0
  let step := dEnd - (ds[15]?.getD d0)
  let sl := if limited then clampI (-32768) 32767 (rhaQ ((step : Rat) / 65536)) else p.tgt.slope
  (out, { p with d := dEnd, sl := sl, g := g1.toNat, q := q, sh1 := st.s1, sh2 := st.s2, win := win, top := top,
                 new := false }, limited)

/-- A path whose engine missed the tick (R131): end state as if the target had been met, silent, window to refill. -/
def missPath (p : Path) : Path :=
  if p.new then p
  else { p with d := (p.tgt.spread : Int) * 2 ^ 15, sl := p.tgt.slope, g := 0, q := p.tgt.shelf, sh1 := 0, sh2 := 0, win := [] }

end Sys2Proof.Machine
end

