-- ==== Sys2Proof/Machine/Plan.lean ====
section
/-! DEFINITION. The geometry engine's tick: targets one tick ahead, path slots, host-supplied paths, bulk delay and Sward
(R25, R75, R83 to R149, R580). -/
namespace Sys2Proof.Machine

/-! ## Records (R77, R80 to R82, R84) -/

def atmosOf (l : List Byte) : Atmos :=
  ⟨fld l 0 4, sfld l 4 2, fld l 6 2, fld l 8 2, fld l 10 2, fld l 12 2, bitOf (fld l 14 2) 0⟩

def geoOf (l : List Byte) : GeoRec :=
  ⟨fld l 0 1, bitOf (fld l 1 1) 0, fld l 2 2, fld l 4 2, fld l 6 1, fld l 7 1, fld l 8 2, fld l 10 2, fld l 12 2, fld l 14 2,
   fld l 16 2, fld l 18 1, fld l 19 1, fld l 20 4⟩

def spkOf (l : List Byte) (o : Nat) : Spk :=
  let fl := fld l (o + 12) 2
  ⟨sfld l o 4, sfld l (o + 4) 4, sfld l (o + 8) 4, fl % 16, bitOf fl 8, bitOf fl 9, fld l (o + 14) 2, sfld l (o + 16) 2,
   sfld l (o + 18) 2, sfld l (o + 20) 2⟩

/-- Speaker table from its bytes (R80 to R82). -/
def tabOf (l : List Byte) : Option SpkTab :=
  if l.isEmpty then none else
    let n := fld l 4 2
    let t := fld l 6 2
    some ⟨(upto n).map (fun k => spkOf l (32 + 32 * k)),
          (upto t).map (fun j => let o := 32 + 32 * n + 8 * j; ⟨fld l o 2, fld l (o + 2) 2, fld l (o + 4) 2⟩),
          sfld l 8 4, sfld l 12 4, sfld l 16 4⟩

def Mach.geo (s : Mach) (o : Nat) : GeoRec := geoOf (s.liveRec K.GEOREC o)
/-- The table in force; entries of feeds the variant lacks are not used (R5, R299). -/
def Mach.table (s : Mach) : Option SpkTab :=
  (tabOf (s.liveRec K.SPKTAB 0)).map (fun t => { t with spk := t.spk.take s.variant.feeds })
def Mach.obj (s : Mach) (o : Nat) : ObjGeo := mget ObjGeo.init s.rend.objs o
def Mach.onObj (s : Mach) (o : Nat) (f : ObjGeo → ObjGeo) : Mach := s.onRend (fun q => { q with objs := mmod ObjGeo.init q.objs o f })
/-- Sward of an object that has written nothing but zeros (R113). -/
def Mach.freshMem (s : Mach) (o : Nat) : ObjMem := { ObjMem.init with ring := List.replicate (mget 0 s.rend.fill (o / 128)) 0 }
def Mach.omem (s : Mach) (o : Nat) : ObjMem := mget (s.freshMem o) s.rend.omem o
def Mach.onMem (s : Mach) (o : Nat) (f : ObjMem → ObjMem) : Mach :=
  s.onRend (fun q => { q with omem := mmod (s.freshMem o) q.omem o f })
def Mach.hpo (s : Mach) (o : Nat) : HpObj := mget HpObj.init s.rend.hp o
def Mach.onHp (s : Mach) (o : Nat) (f : HpObj → HpObj) : Mach := s.onRend (fun q => { q with hp := mmod HpObj.init q.hp o f })

/-- Paths of an object, with their slots. -/
def Mach.pathsOf (s : Mach) (o : Nat) : List (Nat × Path) := s.rend.paths.filter (fun e => e.2.obj == o)

/-- Change every path that satisfies p. -/
def Mach.mapPaths (s : Mach) (p : Path → Bool) (f : Path → Path) : Mach :=
  s.onRend (fun q => { q with paths := q.paths.map (fun e => if p e.2 then (e.1, f e.2) else e) })

/-- Add to the counter whose address is a. -/
def Mach.addAt (s : Mach) (a n : Nat) : Mach :=
  let v := (mget (0 : Word) s.regs a).toNat
  { s with regs := mput s.regs a (BitVec.ofNat 32 (Nat.min 0xFFFFFFFF (v + n))) }

/-! ## Counters of a target computation -/

def Tally.zero : Tally := ⟨0, 0, 0, 0, 0, 0, 0, 0, 0⟩
def Tally.add (a b : Tally) : Tally :=
  ⟨a.doppler + b.doppler, a.delay + b.delay, a.gain + b.gain, a.late + b.late, a.stale + b.stale, a.hpLate + b.hpLate,
   a.hpStale + b.hpStale, a.hpHold + b.hpHold, a.hpTimeout + b.hpTimeout⟩
def TgtOut.tally (t : TgtOut) : Tally := ⟨b2n t.doppler, b2n t.delayClamp, b2n t.gainClamp, 0, 0, 0, 0, 0, 0⟩

/-- Count and set the events of a computation. -/
def Mach.count (s : Mach) (t : Tally) : Mach :=
  let one (s : Mach) (n : Nat) (r : Reg) (f : Fld) : Mach := if n = 0 then s else (s.bump r 0 n).evt f
  let s := one s t.doppler R.RENDER_DOPPLER_CLAMP F.RENDER_GEO_EVT_DOPPLER_CLAMP
  let s := one s t.delay R.RENDER_DELAY_CLAMP F.RENDER_GEO_EVT_DELAY_CLAMP
  let s := s.when (t.gain != 0) (·.evt F.RENDER_GEO_EVT_GAIN_CLAMP)
  let s := one s t.late R.RENDER_KEY_LATE F.RENDER_GEO_EVT_KEY_LATE
  let s := one s t.stale R.RENDER_KEY_STALE F.RENDER_GEO_EVT_KEY_STALE
  let s := one s t.hpLate R.RENDER_HP_LATE F.RENDER_HP_EVT_LATE
  let s := one s t.hpStale R.RENDER_HP_STALE F.RENDER_HP_EVT_STALE
  let s := one s t.hpHold R.RENDER_HP_HOLD F.RENDER_HP_EVT_HOLD
  one s t.hpTimeout R.RENDER_HP_TIMEOUT F.RENDER_HP_EVT_TIMEOUT

/-! ## Targets of a hardware object (R94 to R104) -/

/-- What the targets of one object for a tick are; `rank` gives G of the paths that stay (R107). -/
structure ObjPlan where
  conts : List (Nat × (Tgt × Bool))
  news : List NewPath
  rank : List (Nat × Rat)
  tally : Tally
  clamped : Bool

/-- Every path of the list fades out. -/
def fadeAll (act : List (Nat × Path)) : List (Nat × (Tgt × Bool)) := act.map (fun e => (e.1, (e.2.tgt.fadeOut, true)))

/-- The plan that only fades. -/
def ObjPlan.fade (act : List (Nat × Path)) : ObjPlan := ⟨fadeAll act, [], [], .zero, false⟩

/-- Was a target clamped in delay or rate? -/
def TgtOut.clamped (t : TgtOut) : Bool := t.doppler || t.delayClamp

/-- Targets of object o for tick k from its state at te(k) (R94 to R104). Clamps are counted for every path that is to render in
tick k, a wanted new one included. Log 144. -/
def hwPlan (gr : GeoRec) (tab : Option SpkTab) (kin : Kin) (c cPrev : Rat) (air : Air) (o : Nat) (mayNew : Bool)
    (act : List (Nat × Path)) : ObjPlan :=
  match tab with
  | none => .fade act
  | some tab =>
    let active (f : Nat) : Bool := act.any (fun e => e.2.feed == f)
    let keep := selectPaths gr active (candidates gr tab kin)
    let tgtOf (x : Cand) (prev : Option Tgt) : TgtOut :=
      let (d, m) := delaySlope x.r x.dr c cPrev
      let noAir := match tab.spk[x.feed]? with
        | some sp => sp.noAir
        | none => true
      let sh := if gr.air && !noAir then shelfCode air.alpha x.r else 0
      mkTgt (d - gr.bulk) m x.g sh prev
    let conts := act.map (fun e => match keep.find? (fun x => x.feed == e.2.feed) with
      | some x => let t := tgtOf x (some e.2.tgt); ((e.1, (t.tgt, false)), some x.g, t.tally, t.clamped)
      | none => ((e.1, (e.2.tgt.fadeOut, true)), none, Tally.zero, false))
    let news := if !mayNew then [] else (keep.filter (fun x => !active x.feed)).map (fun x =>
      let t := tgtOf x none; ((⟨o, x.feed, t.tgt, x.g, false⟩ : NewPath), t.tally, t.clamped))
    ⟨conts.map (·.1), news.map (·.1), conts.filterMap (fun e => e.2.1.map (fun g => (e.1.1, g))),
     (conts.map (·.2.2.1) ++ news.map (·.2.1)).foldl Tally.add .zero, conts.any (·.2.2.2) || news.any (·.2.2)⟩

/-! ## Host objects (R142 to R146) -/

/-- Least update by tick; an ASAP update counts as tick k. -/
def govern (k : Nat) (l : List HpUpdate) : Option HpUpdate :=
  l.foldl (fun b u => match b with
    | none => some u
    | some v => if (if u.asap then k else u.tick) < (if v.asap then k else v.tick) then some u else b) none

/-- Clamp an entry's exact values as a target (R95, R96, R101, R139). -/
def hpTgt (spread slope gain : Rat) (shelf : Nat) (prev : Option Tgt) : TgtOut :=
  mkTgt (spread / (2 ^ 17 : Nat)) (slope / 65536) (gain / (2 ^ 20 : Nat)) shelf prev

/-- Feeds of a host object that PATH_LIMIT keeps, by gain, then feed (R104, R137). -/
def hpKeep (limit : Nat) (l : List (Nat × Nat)) : List Nat :=
  ((sortBy (fun e => (2 ^ 24 - e.2) * 1024 + e.1) l).take limit).map (·.1)

/-- A new path of host object o for an entry (R143). -/
def hpNew (o : Nat) (e : HpEntry) : NewPath × TgtOut :=
  let t := hpTgt e.tgt.spread e.tgt.slope e.tgt.gain e.tgt.shelf none
  (⟨o, e.feed, t.tgt, (t.tgt.gain : Rat) / (2 ^ 20 : Nat), true⟩, t)

/-- Target of a continuing path under an entry, r ticks from the update's tick (R142). -/
def hpCont (e : HpEntry) (pe : Tgt) (r : Nat) : TgtOut :=
  if r = 1 then hpTgt e.tgt.spread e.tgt.slope e.tgt.gain e.tgt.shelf (some pe)
  else
    let ds : Rat := (e.tgt.spread : Rat) - pe.spread
    hpTgt (pe.spread + ds / r) (ds / (32 * r)) ((pe.gain : Rat) + ((e.tgt.gain : Rat) - pe.gain) / r) e.tgt.shelf (some pe)

/-- The update that governs tick k, the ticks left to its tick, and the late ones (R142). -/
def hpGovern (k : Nat) (pend : List HpUpdate) : Option (HpUpdate × Nat) × List HpUpdate :=
  let late := pend.filter (fun u => !u.asap && decide (u.tick < k))
  let lateU := late.foldl (fun (b : Option HpUpdate) u => match b with
    | none => some u
    | some v => if v.tick < u.tick then some u else b) none
  (match lateU with
    | some u => some (u, 1)
    | none => (govern k pend).map (fun u => (u, if u.asap then 1 else Nat.max 1 (u.tick + 1 - k))), late)

/-- Targets of a host object under its governing update u (R142, R143). -/
def hpGoverned (o limit : Nat) (u : HpUpdate) (r : Nat) (late : List HpUpdate) (mayNew : Bool) (act : List (Nat × Path)) :
    ObjPlan × HpDone :=
  let keep := hpKeep limit (u.entries.map (fun e => (e.feed, e.tgt.gain)))
  let es := u.entries.filter (fun e => keep.contains e.feed)
  let cut (e : HpEntry) : Bool := e.cut || u.cutAll
  let conts := act.map (fun p => match es.find? (fun e => e.feed == p.2.feed) with
    | some e =>
      if cut e then ((p.1, (p.2.tgt.fadeOut, true)), Tally.zero, false)
      else let t := hpCont e p.2.tgt r; ((p.1, (t.tgt, false)), t.tally, t.clamped)
    | none => ((p.1, (p.2.tgt.fadeOut, true)), Tally.zero, false))
  let news := if !mayNew then [] else (es.filter (fun e => !act.any (fun p => p.2.feed == e.feed))).map (hpNew o)
  let done : HpUpdate := { u with cutAll := false, entries := u.entries.map (fun e => { e with cut := false }) }
  let t := (conts.map (·.2.1) ++ news.map (fun n => n.2.tally)).foldl Tally.add .zero
  (⟨conts.map (·.1), news.map (·.1), conts.filterMap (fun e => if e.1.2.2 then none else some (e.1.1, (e.1.2.1.gain : Rat))),
    { t with hpLate := b2n (late.contains u), hpStale := late.length - 1 }, conts.any (·.2.2) || news.any (fun n => n.2.clamped)⟩,
   ⟨if r = 1 then u :: late else late, if r = 1 then none else some (u, done), true, done.entries, 0, false, u.entries.isEmpty⟩)

/-- Targets of a host object that holds (R145, R146): a tick without a pending update is a held tick also once the paths are gone.
Log 146. -/
def hpHeld (o limit holdMax : Nat) (h : HpObj) (mayNew : Bool) (act : List (Nat × Path)) : ObjPlan × HpDone :=
  let gone := h.timed || decide (holdMax ≤ h.hold)
  let t : Tally := { Tally.zero with hpHold := 1, hpTimeout := b2n (gone && !h.timed) }
  if gone then ({ ObjPlan.fade act with tally := t }, ⟨[], none, false, [], h.hold + 1, true, true⟩)
  else
    let wait := h.applied.filter (fun e => !act.any (fun p => p.2.feed == e.feed))
    let keep := hpKeep limit (act.map (fun p => (p.2.feed, p.2.tgt.gain)) ++ wait.map (fun e => (e.feed, e.tgt.gain)))
    let conts := act.map (fun p => if keep.contains p.2.feed then (p.1, (p.2.tgt.extrapolate, false)) else (p.1, (p.2.tgt.fadeOut, true)))
    let news := if !mayNew then [] else (wait.filter (fun e => keep.contains e.feed)).map (hpNew o)
    (⟨conts, news.map (·.1), conts.filterMap (fun e => if e.2.2 then none else some (e.1, (e.2.1.gain : Rat))),
      ((news.map (fun n => n.2.tally)).foldl Tally.add t), news.any (fun n => n.2.clamped)⟩,
     ⟨[], none, false, h.applied, h.hold + 1, false, h.empty⟩)

/-- Targets of host object o for tick k. -/
def hpPlan (o k limit holdMax : Nat) (h : HpObj) (mayNew : Bool) (act : List (Nat × Path)) : ObjPlan × HpDone :=
  match hpGovern k h.pend with
  | (some (u, r), late) => hpGoverned o limit u r late mayNew act
  | (none, _) => hpHeld o limit holdMax h mayNew act

/-- A completed computation reaches a host object: updates that arrived in the meantime stay (R140, R141, R147). -/
def HpObj.finish (h : HpObj) (d : HpDone) : HpObj :=
  let left := h.pend.filter (fun u => !d.gone.contains u)
  let pend := match d.kept with
    | some (u, v) => left.map (fun x => if x = u then v else x)
    | none => left
  if d.governed then { h with pend := pend, applied := d.applied, hold := d.hold, timed := false, empty := d.empty }
  else { h with pend := pend, hold := d.hold, applied := if h.timed then [] else d.applied,
                timed := h.timed || d.timed, empty := h.empty || d.empty }

/-! ## The computation for the next tick -/

/-- Budget in force (R106, R107). -/
def Mach.budget (s : Mach) : Nat := if s.rend.ibex.budgetM3 then s.variant.paths * 3 / 4 else s.variant.paths

/-- Objects that have anything to compute. -/
def Mach.busyObjs (s : Mach) : List Nat :=
  (upto s.variant.objects).filter (fun o =>
    (mfind s.rend.objs o).isSome || (mfind s.rend.recs (rkey K.GEOREC o)).isSome || (mfind s.rend.hp o).isSome
      || s.rend.paths.any (fun e => e.2.obj == o))

/-- May object o be given new paths at boundary k (R108)? -/
def ObjGeo.mayNew (g : ObjGeo) (k : Nat) : Bool :=
  match g.bulkTick with
  | some b => decide (b + 5 ≤ k)
  | none => true

/-- A gain G as a number that keeps its order: G is 0 or a binary32 value. -/
def gainKey (g : Rat) : Nat := (g * (2 ^ 149 : Nat)).floor.toNat

/-- Excess paths fade out when the budget is reduced: hardware paths, then host paths, by ascending G (R107, R144). -/
def reduceTo (budget : Nat) (host : Nat → Bool) (rank : List (Nat × Rat)) (paths : SMap Path) (conts : List (Nat × (Tgt × Bool))) :
    List (Nat × (Tgt × Bool)) :=
  let stay := conts.filter (fun e => !e.2.2)
  let excess := stay.length - budget
  if excess = 0 then conts
  else
    let order (h : Bool) : List Nat :=
      let l := stay.filterMap (fun e => (mfind paths e.1).bind (fun p => if host p.obj == h then some (e.1, mget 0 rank e.1, p) else none))
      (sortBy (fun e => gainKey e.2.1 * 2 ^ 20 + (1023 - e.2.2.obj) * 1024 + (1023 - e.2.2.feed)) l).map (·.1)
    let out := (order false ++ order true).take excess
    conts.map (fun e => if out.contains e.1 then (e.1, (match mfind paths e.1 with
      | some p => p.tgt.fadeOut
      | none => e.2.1, true)) else e)

/-- Object o in the computation for tick k: its targets, and what the computation does to it. -/
def Mach.planObj (s : Mach) (k : Nat) (c : Rat) (air : Air) (tab : Option SpkTab) (o : Nat) : ObjPlan × ObjDone :=
  let g := s.obj o
  let act := (s.pathsOf o).filter (fun e => !e.2.fade)
  let tr := trajStep k (s.rend.evalTick.getD (k - 1)) g.traj g.queue
  let h := s.hpo o
  let gr := s.geo o
  let (pl, hd) :=
    if h.host then
      let (p, d) := hpPlan o k gr.pathLimit (s.glv F.RENDER_HP_CFG_HOLDMAX o) h (g.mayNew k) act
      (p, some d)
    else if tr.cut then (ObjPlan.fade act, none)
    else (hwPlan gr tab tr.kin c s.rend.c air o (g.mayNew k) act, none)
  ({ pl with tally := { pl.tally with late := tr.late, stale := tr.stale } },
   ⟨⟨tr.seg, tr.kin, tr.hold⟩, tr.used, tr.cut && !h.host, pl.clamped, hd⟩)

/-- Compute the targets of tick m + 1 during tick m (R25, R75, R78, R94, R142). What the token found is what counts; the queues
and counters change when the computation is complete. Log 99, 145. -/
def Mach.computePlan (s : Mach) (m : Nat) : Mach :=
  let k := m + 1
  let atm := atmosOf (s.liveRec K.ATMOS 0)
  let c' := slewC s.rend.c atm.cStaged atm.cSlew
  let air := atm.toAir
  let tab := s.table
  let out := s.busyObjs.map (fun o => (o, s.planObj k c' air tab o))
  let conts := reduceTo s.budget (fun o => (s.hpo o).host) (out.flatMap (fun e => e.2.1.rank)) s.rend.paths (out.flatMap (fun e => e.2.1.conts))
  s.onRend (fun q => { q with cWas := q.c, c := c', air := air, airWas := (atmosOf (s.liveWas K.ATMOS 0)).toAir, fcNext := atm.airFc,
                              plan := some ⟨k, conts, out.flatMap (fun e => e.2.1.news), out.map (fun e => (e.1, e.2.2)),
                                            (q.hp.filter (fun e => e.2.host)).map (·.1),
                                            out.foldl (fun t e => t.add e.2.1.tally) .zero, false⟩ })

/-- The computation is complete: trajectories, queues and host updates move on, and what it counted is counted. Log 145. -/
def Mach.geoDone (s : Mach) : Mach :=
  match s.rend.plan with
  | none => s
  | some p =>
    let s := s.each p.done (fun s e =>
      let d := e.2
      let s := s.onObj e.1 (fun g =>
        { g with traj := d.traj, queue := g.queue.filter (fun k => !d.used.contains k), cutting := d.cut, clamped := d.clamped })
      match d.hp with
      | some h => s.onHp e.1 (fun x => x.finish h)
      | none => s)
    (s.count p.tally).onRend (fun q => { q with plan := some { p with done := [], tally := .zero }, evalTick := some p.tick })

/-- The computation is abandoned (R109, R147): nothing of it is used or counted, and every path goes on extrapolated. -/
def Mach.geoLate (s : Mach) : Mach :=
  match s.rend.plan with
  | none => s
  | some p =>
    let s := ((s.bump R.RENDER_GEO_LATE).evt F.RENDER_GEO_EVT_GEO_LATE).each p.done (fun s e => s.onObj e.1 (fun g => { g with cutting := false }))
    let go (e : Path) : Tgt × Bool := (if e.fade then e.tgt else e.tgt.extrapolate, e.fade)
    s.onRend (fun q => { q with plan := some ⟨p.tick, q.paths.map (fun e => (e.1, go e.2)), [], [], p.hosts, .zero, true⟩ })

/-! ## Slots (R105, R106, R239, R240) -/

/-- Occupied slots of engine e. -/
def Mach.occ (s : Mach) (e : Nat) : Nat := (s.rend.paths.filter (fun p => p.1 / 2048 == e)).length

/-- Is path group g awake? -/
def Mach.peAwake (s : Mach) (e : Nat) : Bool := !bitOf (s.gf F.FAB_GATE_STAT_PG) (e / 4) && !s.rend.fab.hung.contains e

/-- Ask for the wake of group k: 0–15 path groups, 16–19 front-end groups (R239). -/
def Mach.wakeGroup (s : Mach) (k m : Nat) : Mach :=
  if (mfind s.rend.fab.waking k).isSome then s
  else
    let s := s.onRend (fun q => { q with fab := { q.fab with waking := mput q.fab.waking k ⟨0, m⟩, windows := if q.fab.waking.isEmpty then 0 else q.fab.windows } })
    if k < 16 then s.setBit R.FAB_WAKE_STAT k else s.sf F.FAB_WAKE_STAT_FG (s.gf F.FAB_WAKE_STAT_FG ||| 2 ^ (k - 16))

/-- Place a new path (R105). -/
def Mach.placePath (s : Mach) (n : NewPath) (m : Nat) : Mach :=
  let es := (upto s.variant.pes).filter (fun e => !s.rend.fab.hung.contains e)
  let best := es.foldl (fun (b : Option (Nat × Nat)) e =>
    let c := s.occ e
    if 2048 ≤ c then b else match b with
      | none => some (e, c)
      | some (_, d) => if c < d then some (e, c) else b) none
  let deny (s : Mach) : Mach :=
    let s := (s.bump R.RENDER_PATH_DENIED).evt F.RENDER_GEO_EVT_BUDGET_FULL
    if n.host then (s.onHp n.obj (fun h => { h with denied := h.denied + 1 })).evt F.RENDER_HP_EVT_DENIED else s
  match best with
  | none => deny s
  | some (e, _) =>
    if s.budget ≤ s.rend.paths.length then deny s
    else
      match (upto 2048).find? (fun k => (mfind s.rend.paths (2048 * e + k)).isNone) with
      | none => deny s
      | some k =>
        let p : Path := { obj := n.obj, feed := n.feed, d := 0, sl := 0, tgt := n.tgt, g := 0, q := n.tgt.shelf, sh1 := 0,
                          sh2 := 0, win := [], top := 0, new := true, fade := false, starve := (s.obj n.obj).starved, host := n.host }
        let s := s.onRend (fun q => { q with paths := mput q.paths (2048 * e + k) p })
        if s.peAwake e then s else (s.bump R.FAB_WAKE_DEFER).wakeGroup (e / 4) m

/-- Sort key of new paths: object, then larger G, then feed (R105). -/
def NewPath.key (n : NewPath) : Nat := n.obj * 2 ^ 310 + (2 ^ 290 - gainKey n.g) * 2 ^ 10 + n.feed

/-- Put the plan in force at the boundary of its tick: continuing targets, then allocations. `ban` tells the objects and
feeds a cut at this token leaves without new paths. Log 98. -/
def Mach.applyPlan (s : Mach) (m : Nat) (ban : Nat → Nat → Bool) : Mach :=
  match s.rend.plan with
  | none => s
  | some p =>
    let s := s.onRend (fun q => { q with plan := none, paths := q.paths.map (fun e => match mfind p.conts e.1 with
      | some (t, f) => (e.1, { e.2 with tgt := t, fade := e.2.fade || f, host := p.hosts.contains e.2.obj })
      | none => e) })
    let s := s.when (!p.late) (·.onRend (fun q => { q with hp := q.hp.map (fun e => (e.1, { e.2 with denied := 0 })) }))
    s.each (sortBy NewPath.key p.news) (fun s n =>
      if ban n.obj n.feed || (s.obj n.obj).refill || !(s.obj n.obj).mayNew m then s else s.placePath n m)

/-- Cut the paths that satisfy p in the running tick: gain target 0 and an extrapolated delay in place of the targets
already formed (R25, R83, R85, R108). Log 98. -/
def Mach.cutNow (s : Mach) (p : Path → Bool) : Mach :=
  let out (k : Nat) : Bool := match mfind s.rend.paths k with
    | some x => p x
    | none => false
  let objs := (s.rend.paths.filter (fun e => p e.2)).map (fun e => e.2.obj)
  let s := s.onRend (fun q => { q with plan := q.plan.map (fun l => { l with conts := l.conts.filter (fun e => !out e.1) }),
                                       objs := objs.foldl (fun m o => mmod ObjGeo.init m o (fun g => { g with cutting := true })) q.objs })
  s.mapPaths (fun x => p x && !x.fade) (fun x => { x with tgt := x.tgt.fadeOut, fade := true })

/-! ## Records become live (R83, R85, R108) -/

/-- A geometry record becomes live at token m. Answers whether the object's paths are cut. -/
def Mach.settleGeo (s : Mach) (m o : Nat) (old : GeoRec) : Mach :=
  let new := s.geo o
  if new.bulk != old.bulk then
    let s := s.onObj o (fun g =>
      { g with bulkTick := some m, bulkWas := old.bulk, starved := false, refill := new.bulk != 0, cutting := true })
    let from0 := old.bulk = 0
    let s := s.onMem o (fun q =>
      { q with
        clear := true
        since := if from0 then none else q.since
        lost := if from0 then [] else q.lost })
    s.mapPaths (fun p => p.obj == o) (fun p => { p with starve := false })
  else if new.law != old.law && !(s.hpo o).host then s.onObj o (fun g => { g with cutting := true })
  else s

/-- An atmosphere record becomes live. -/
def Mach.applyAtmos (s : Mach) (b : List Byte) : Mach := s.putLive K.ATMOS 0 b

/-- A speaker table becomes live (R83). -/
def Mach.applyTable (s : Mach) (b : List Byte) : Mach :=
  let s := s.putLive K.SPKTAB 0 b
  let g := (s.gf F.RENDER_GEO_TABLE_GEN + 1) % 256
  ((s.wr R.RENDER_GEO_TABLE (fld b 4 2 + 1024 * fld b 6 2 + 2 ^ 24 * g)).sf F.RENDER_GEO_STAT_TABLE_VALID 1).evt F.RENDER_GEO_EVT_TABLE_SWAP

/-- Bytes of a table's entry, empty beyond NSPK. -/
def spkBytes (l : List Byte) (k : Nat) : List Byte := if k < fld l 4 2 then slice l (32 + 32 * k) 32 else []

/-- Does the running tick's token cut paths of object o to feed f: its law or bulk delay changed, or the feed's speaker
entry did? -/
def Mach.cutBy (s : Mach) (o f : Nat) : Bool :=
  let a := geoOf (s.liveWas K.GEOREC o)
  let b := s.geo o
  let ta := s.liveWas K.SPKTAB 0
  let tb := s.liveRec K.SPKTAB 0
  (a.bulk != b.bulk) || (!(s.hpo o).host && (a.law != b.law || (ta != tb && spkBytes ta f != spkBytes tb f)))

/-! ## Sward and bulk delay (R111 to R118, R580) -/

/-- Byte address of sample n of object o's ring. -/
def Mach.bulkAddr (s : Mach) (o n : Nat) : Nat := s.bulkBase + o * 0x101000 + n % 263168 * 4

/-- Does DRAM hold the unit of tick t (R580)? -/
def ObjMem.valid (q : ObjMem) (t : Nat) : Bool :=
  (match q.since with
    | some a => decide (a ≤ t)
    | none => false) && !q.lost.contains t && !q.todo.contains t

/-- The tick of the write stage that is still to be read in tick m (R117). -/
def ObjMem.staged (q : ObjMem) (m t : Nat) : Option (List Int) :=
  if m ≤ t + 9 && (match q.since with
    | some a => decide (a ≤ t)
    | none => false) then (q.stage.find? (fun e => e.1 == t)).map (·.2) else none

/-- Sample x(n) of the front-end output of object o, n counted as 16t - 16 + j: from the tick itself, the write stage, or
DRAM where its unit is valid. -/
def Mach.histSample (s : Mach) (o m : Nat) (q : ObjMem) (now : List Int) (n : Int) : Int :=
  if n < 0 then 0 else
    let n := n.toNat
    let t := n / 16 + 1
    let j := n % 16
    if t = m then now[j]?.getD 0
    else match q.staged m t with
      | some l => l[j]?.getD 0
      | none =>
        if t < m && m ≤ t + 16448 && q.valid t && !s.badRange (s.bulkAddr o n) 4 then
          sext 32 (leNat (s.mrd (s.bulkAddr o n) 4)) else 0

/-- The entry line of object o for tick m (R112, R118). -/
def Mach.entryLine (s : Mach) (o m : Nat) (now : List Int) : List Int :=
  let g := s.obj o
  let live := (s.geo o).bulk
  let b := if g.bulkTick = some m then g.bulkWas else live
  if b = 0 then now
  else if g.starved && decide (g.starveFrom ≤ m) then List.replicate 16 0
  else (upto 16).map (fun (j : Nat) => s.histSample o m (s.omem o) now (16 * (m : Int) - 16 + (j : Int) - (b : Int)))

/-- The DRAM words that the entry line of tick m is read from are checked (R501, R502). Log 53. -/
def Mach.entryEcc (s : Mach) (o m : Nat) : Mach :=
  let b := (s.geo o).bulk
  if b = 0 || ((s.obj o).starved && decide ((s.obj o).starveFrom ≤ m)) || 16 * m < 16 + b then s
  else s.each (upto 16) (fun s j =>
    let n := 16 * m - 16 + j - b
    if (j = 0 || n % 2 = 0) && ((s.omem o).staged m (n / 16 + 1)).isNone then s.checkHits 1 (s.bulkAddr o n) 4 else s)

/-- Does DRAM hold tick m + 1 for every prefetch at token m; and has it answered since the last token (R118)? -/
def Mach.prefetchOk (s : Mach) : Bool := decide (s.rend.dramOk.length < 3) || (s.rend.dramOk.take 3).any id
/-- Log 25. -/
def Mach.dramNow (s : Mach) : Bool := s.rend.dramOk.headD true

/-- Refills that end at token m, before its allocations: from the fifth tick after the change on, at the first token that
finds the prefetch full (R108). -/
def Mach.bulkRefill (s : Mach) (m : Nat) : Mach :=
  s.each s.busyObjs (fun s o =>
    let g := s.obj o
    let at5 := match g.bulkTick with
      | some t => decide (t + 5 ≤ m)
      | none => true
    if g.refill && at5 && s.dramNow then s.onObj o (fun g => { g with refill := false }) else s)

/-- Starvation at token m (R118): its paths fade out in tick m on what is present, and from tick m + 1 the entry line is silent. -/
def Mach.bulkCheck (s : Mach) (m : Nat) : Mach :=
  s.each s.busyObjs (fun s o =>
    let g := s.obj o
    let b := (s.geo o).bulk
    if b = 0 then (if g.starved || g.refill then s.onObj o (fun g => { g with starved := false, refill := false }) else s)
    else if g.refill then s
    else if g.starved then
      if s.dramNow then
        (s.onObj o (fun g => { g with starved := false })).mapPaths (fun p => p.obj == o) (fun p => { p with starve := false })
      else s
    else if g.bulkTick = some m then s
    else if !s.prefetchOk then
      let s := (s.onMem o (fun q => { q with clear := true })).mapPaths (fun p => p.obj == o) (fun p => { p with starve := true })
      ((s.onObj o (fun g => { g with starved := true, starveFrom := m + 1 })).bump R.RENDER_BULK_STARVE).evt F.RENDER_PR_EVT_BULK_STARVE
    else s)

/-- BULK_WRITE_LOST: tick t of object o was never written (R118, R580). -/
def bulkWriteLost (o t : Nat) (s : Mach) : Mach :=
  if (s.omem o).todo.contains t then
    s.onMem o (fun q => { q with todo := q.todo.filter (fun x => x != t), lost := t :: q.lost.filter (fun x => decide (t ≤ x + 16448)) })
  else s

/-- A tick of bulk history reaches DRAM: its bytes are stored and its unit marked valid (R580). -/
def Mach.bulkWrite (s : Mach) (o t : Nat) : Mach :=
  let q := s.omem o
  if !q.todo.contains t then s else
    match q.stage.find? (fun e => e.1 == t) with
    | some e =>
      let s := s.each (e.2.zip (upto 16)) (fun s p => s.partStore (s.bulkAddr o (16 * t - 16 + p.2)) (toLE 4 (toU 32 p.1)))
      s.onMem o (fun q => { q with todo := q.todo.filter (fun x => x != t), lost := q.lost.filter (fun x => x != t) })
    | none => s

/-- Write what waits in the stages when DRAM has answered in a tick of their stay; lose what has stayed for nine ticks (R118). -/
def Mach.bulkWrites (s : Mach) (m : Nat) (ok : Bool) : Mach :=
  s.each (s.rend.omem.filter (fun e => !e.2.todo.isEmpty)) (fun s e =>
    if ok && s.bulkOn then s.each (e.2.todo.filter (inStage m)) (fun s t => s.bulkWrite e.1 t)
    else s.each (e.2.todo.filter (fun t => decide (t + 10 ≤ m))) (fun s t => bulkWriteLost e.1 t s))

/-- History of object o in tick m by sample index (R111, R113). -/
def histRead (q : ObjMem) (m : Nat) (bad : List Nat) (t : Int) : Int :=
  let first : Int := 16 * (m : Int) - 16
  if t < 0 then 0
  else if first ≤ t then q.entry[(t - first).toNat]?.getD 0
  else
    let age := (first - 1 - t).toNat
    if bad.contains age then 0 else q.ring[age]?.getD 0

/-- After every path engine is done: the entry line enters the ring, the tick enters the write stage (R111, R118). -/
def ObjMem.commit (q : ObjMem) (delayed : Bool) (m : Nat) (now : List Int) : ObjMem :=
  let ring := if q.clear then [] else (q.entry.reverse ++ q.ring).take 32768
  { q with ring := ring, clear := false, entry := [],
           stage := if delayed then ((m, now) :: q.stage).take 10 else q.stage.filter (fun e => q.todo.contains e.1),
           todo := if delayed then q.todo ++ [m] else q.todo, since := if delayed then some (q.since.getD m) else q.since }

/-! ## The path engines' tick (R119 to R131) -/

/-- Kernel run of the tick (R126): in the cross-fade tick k12 still tells the old one. -/
def Mach.kernelRun (s : Mach) : KernelRun := if s.rend.ibex.kfade then .fade s.rend.ibex.k12 else .one s.rend.ibex.k12

/-- Add 16 path-samples to a feed's sum. -/
def addFeed (acc : SMap (List Int)) (f : Nat) (xs : List Int) : SMap (List Int) :=
  mmod (List.replicate 16 0) acc f (fun l => zipIdx2 (fun _ a b => a + b) 0 l xs)

/-- Render every path of tick m: feed sums, and the machine with the paths at the tick's end. -/
def Mach.renderPaths (s : Mach) (m : Nat) (perr : List (Nat × Nat)) (missed : Nat → Bool) : SMap (List Int) × Mach :=
  let kr := s.kernelRun
  let (acc, ps, lim) := s.rend.paths.foldl (fun (acc, ps, lim) e =>
    let eng := e.1 / 2048
    if missed eng then (acc, ps ++ [(e.1, missPath e.2)], lim)
    else if !s.peAwake eng then (acc, ps ++ [e], lim)
    else
      let q := s.omem e.2.obj
      let bad := (perr.filter (fun x => x.1 == e.2.obj)).map (·.2)
      let (xs, p', l) := renderPath (histRead q m bad) kr s.rend.fc m e.2
      (addFeed acc e.2.feed xs, ps ++ [(e.1, p')], lim + b2n l)) (([] : SMap (List Int)), ([] : SMap Path), 0)
  let s := if lim = 0 then s else (s.bump R.RENDER_STEP_LIMIT 0 lim).evt F.RENDER_PR_EVT_STEP_LIMIT
  (acc, s.onRend (fun r => { r with paths := ps }))

/-- Slots whose fade-out tick has ended are free, but those of an isolated engine stay taken until the next reset (R105). -/
def Mach.freeFaded (s : Mach) : Mach :=
  s.onRend (fun q => { q with paths := q.paths.filter (fun e => !e.2.fade || q.fab.hung.contains (e.1 / 2048)) })

/-- Every path ends at once; the slots of isolated engines stay taken (R105, R527). -/
def Rend.noPaths (q : Rend) : Rend :=
  { q with paths := (q.paths.filter (fun e => q.fab.hung.contains (e.1 / 2048))).map (fun e => (e.1, { e.2 with fade := true })), plan := none }

end Sys2Proof.Machine
end

