-- ==== Sys2Proof/Machine/Fabric.lean ====
section
/-! DEFINITION. The clockless fabric as the clocked world sees it: completions, slack, late and missed engines, power
gating and wake, herd release (R225 to R242, R257). -/
namespace Sys2Proof.Machine

def Mach.onFab (s : Mach) (f : FabSt → FabSt) : Mach := s.onRend (fun q => { q with fab := f q.fab })

/-! ## Engines (R227, R229) -/

def engines : Nat := 106

/-- Class of an engine: 0 front end, 1 path, 2 geometry, 3 tail. -/
def engClass (e : Nat) : Nat := if e < 64 then 1 else if e < 88 then 3 else if e < 104 then 0 else if e = 104 then 2 else 3

/-- Deadline and late limit of a class, in timer cycles. -/
def deadline (c : Nat) : Nat := [24000, 186800, 190400, 190400].getD c 190400
def lateLimit (c : Nat) : Nat := [36000, 190400, 190400, 195200].getD c 195200

/-- Does the variant have engine e (R5)? -/
def Mach.engExists (s : Mach) (e : Nat) : Bool :=
  if e < 64 then decide (e < s.variant.pes)
  else if e < 80 then decide (e - 64 < s.variant.ses)
  else if e < 88 then decide (e - 80 < s.variant.obes)
  else decide (e < engines)

/-- Group that gates engine e: 0 to 15 path groups, 16 to 19 front-end groups (R238). -/
def engGroup (e : Nat) : Option Nat := if e < 64 then some (e / 4) else if 88 ≤ e && e < 104 then some (16 + (e - 88) / 4) else none

/-- Is group k gated? -/
def Mach.gated (s : Mach) (k : Nat) : Bool := if k < 16 then bitOf (s.gf F.FAB_GATE_STAT_PG) k else bitOf (s.gf F.FAB_GATE_STAT_FG) (k - 16)

def Mach.setGate (s : Mach) (k : Nat) (b : Bool) : Mach :=
  if k < 16 then s.sf F.FAB_GATE_STAT_PG (putBits (s.gf F.FAB_GATE_STAT_PG) k 1 (b2n b))
  else s.sf F.FAB_GATE_STAT_FG (putBits (s.gf F.FAB_GATE_STAT_FG) (k - 16) 1 (b2n b))

def Mach.setWaking (s : Mach) (k : Nat) (b : Bool) : Mach :=
  if k < 16 then s.sf F.FAB_WAKE_STAT_PG (putBits (s.gf F.FAB_WAKE_STAT_PG) k 1 (b2n b))
  else s.sf F.FAB_WAKE_STAT_FG (putBits (s.gf F.FAB_WAKE_STAT_FG) (k - 16) 1 (b2n b))

/-- Is engine e gated: its group, or the whole fabric outside ACTIVE? -/
def Mach.engGated (s : Mach) (e : Nat) : Bool :=
  s.power != 0 || (match engGroup e with
    | some k => s.gated k
    | none => false)

/-- Does engine e run in the tick whose work is out? A hung engine counts as missed and never runs. -/
def Mach.engRuns (s : Mach) (e : Nat) : Bool :=
  s.rend.work.isSome && s.engExists e && !s.engGated e && !s.rend.fab.hung.contains e

/-- Is the deadline timer on the 100 MHz backup (R228)? -/
def Mach.timerBackup (s : Mach) : Bool := s.gf F.FAB_STAT_BACKUP != 0

/-! ## Completion, abandonment, hang (R230 to R236) -/

/-- Cycles of 1.2 GHz that a count of the deadline timer stands for: the backup multiplies it by 12, and in a tick in which the timer
changes its clock the count comes with the backup's part already multiplied (R228, R241). Log 150. -/
def Mach.timerCycles (s : Mach) (count : Nat) : Nat :=
  if s.timerBackup && (match s.rend.work with | some w => w.backup | none => true) then count * 12 else count

/-- ENGINE_COMPLETE: engine e completes at a timer count. -/
def engineComplete (e count : Nat) (s : Mach) : Mach :=
  let c := s.timerCycles count
  if !s.engRuns e || (mfind s.rend.fab.stamps e).isSome || s.rend.fab.aband.contains e || s.rend.fab.acked.contains e
      || lateLimit (engClass e) < c then s
  else
    let s := s.onFab (fun q => { q with stamps := mput q.stamps e c })
    if deadline (engClass e) < c then (s.bump R.FAB_ENG_LATE e).evt F.FAB_EVT_LATE else s

/-- Engines of the running tick that neither completed nor were abandoned. -/
def Mach.engOpen (s : Mach) : List Nat :=
  (upto engines).filter (fun e => s.engRuns e && (mfind s.rend.fab.stamps e).isNone && !s.rend.fab.aband.contains e
    && !s.rend.fab.acked.contains e)

/-- ENGINE_ABANDON: the late limit of a class passes. A missed spectral engine takes with it the back end that waits (R234). -/
def engineAbandon (cls : Nat) (s : Mach) : Mach :=
  let l := s.engOpen.filter (fun e => engClass e == cls)
  s.onFab (fun q => { q with aband := q.aband ++ l })

/-- ENGINE_ABANDON_ACK. -/
def engineAbandonAck (e : Nat) (s : Mach) : Mach :=
  if s.rend.fab.aband.contains e then
    s.onFab (fun q => { q with aband := q.aband.filter (fun x => x != e), acked := q.acked ++ [e] })
  else s

/-- Isolate engine e until the next reset. Log 109. -/
def Mach.isolateEngine (s : Mach) (e : Nat) : Mach :=
  let s := s.onFab (fun q => { q with hung := q.hung ++ [e], aband := q.aband.filter (fun x => x != e), acked := q.acked.filter (fun x => x != e) })
  if s.on F.FAB_HANG_ENG_VALID then s else (s.sf F.FAB_HANG_ENG_ENG e).sf F.FAB_HANG_ENG_VALID 1

/-- FABRIC_HANG: an abandoned engine has not acknowledged. -/
def fabricHang (e : Nat) (s : Mach) : Mach :=
  if !s.rend.fab.aband.contains e then s
  else
    let t := (s.rend.work.map (·.tick)).getD 0
    ((s.isolateEngine e).evt F.FAB_EVT_HANG).raise E.FABRIC_HANG e (t % 2 ^ 32)

/-- Engines missed in the running tick: abandoned ones, and those isolated since reset, gated or not (R236). -/
def Mach.missedList (s : Mach) : List Nat :=
  (upto engines).filter (fun e =>
    s.engExists e && (s.rend.fab.hung.contains e
      || (!s.engGated e && (s.rend.fab.aband.contains e || s.rend.fab.acked.contains e))))

/-! ## Slack (R230, R231) -/

/-- Slack of an engine that completed at c. -/
def slackAt (dl c : Nat) : Int := (((dl : Int) - c) * 1024) / 200000

/-- While the whole fabric is gated every engine reports as a gated one: slack 0x7FFF, stamp 0x3FFFF (R230, R238, R242). -/
def Mach.fabIdle (s : Mach) : Mach :=
  s.each ((upto engines).filter (fun e => s.engExists e && (s.rd R.FAB_ENG_CYC e != 0x3FFFF || s.gf F.FAB_ENG_SLACK_LAST e != 0x7FFF)))
    (fun s e => (s.sf F.FAB_ENG_SLACK_LAST 0x7FFF e).wr R.FAB_ENG_CYC 0x3FFFF e)

/-- Account for the tick: per-engine slack, tick slack, histogram, late and missed ticks. Answers the tick slack, none
when no engine was observed. Log 94. -/
def Mach.fabAccount (s : Mach) (m : Nat) (missed : List Nat) : Option Int × Mach :=
  let st := s.rend.fab.stamps
  let seen := (upto engines).filterMap (fun e =>
    if missed.contains e then some (e, (-32768 : Int), 0x3FFFF)
    else if !s.engExists e || s.engGated e then none
    else (mfind st e).map (fun c => (e, slackAt (deadline (engClass e)) c, Nat.min c 0x3FFFF)))
  let s := s.each (upto engines) (fun s e =>
    if s.engExists e && s.engGated e then ((s.sf F.FAB_ENG_SLACK_LAST 0x7FFF e).wr R.FAB_ENG_CYC 0x3FFFF e) else s)
  let s := s.each seen (fun s x =>
    let s := (s.sf F.FAB_ENG_SLACK_LAST (toU 16 x.2.1) x.1).wr R.FAB_ENG_CYC x.2.2 x.1
    if x.2.1 < sext 16 (s.gf F.FAB_ENG_SLACK_MIN x.1) then s.sf F.FAB_ENG_SLACK_MIN (toU 16 x.2.1) x.1 else s)
  let s := s.each missed (fun s e => s.bump R.FAB_ENG_MISS e)
  match seen.foldl (fun (b : Option (Nat × Int)) x => match b with
    | some (_, v) => if x.2.1 < v then some (x.1, x.2.1) else b
    | none => some (x.1, x.2.1)) none with
  | none => (none, s)
  | some (worst, v) =>
    let miss := !missed.isEmpty
    let s := s.wr R.FAB_TICK_SLACK (toU 16 v + 65536 * worst + 2 ^ 31 * b2n miss)
    let s := if v < sext 16 (s.gf F.FAB_SLACK_MIN_SLACK) then s.wr R.FAB_SLACK_MIN (toU 16 v + 65536 * worst) else s
    let bin := if miss then 0 else if v < 0 then 1 else if 832 ≤ v then 15 else (v / 64).toNat + 2
    let s := s.bump R.FAB_SLACK_HIST bin
    let s :=
      if miss then
        let s := ((s.bump R.FAB_MISS_TICKS).wr64 R.FAB_MISS_TICK_LO R.FAB_MISS_TICK_HI m).evt F.FAB_EVT_TICK_MISS
        s.raise E.TICK_MISS (missed.headD 0) (m % 2 ^ 32)
      else if seen.any (fun x => decide (x.2.1 < 0)) then s.bump R.FAB_LATE_TICKS
      else s
    (some v, s)

/-- FAB_MIN_CLR. -/
def fabMinClr (v : Nat) (s : Mach) : Mach :=
  if !bitOf v 0 then s
  else s.each (upto engines) (fun s e => s.sf F.FAB_ENG_SLACK_MIN 0x7FFF e) |>.wr R.FAB_SLACK_MIN 0x7FFF

/-! ## Gating (R238) -/

/-- Do the parts of group k have nothing to do? -/
def Mach.groupIdle (s : Mach) (k : Nat) : Bool :=
  if k < 16 then !s.rend.paths.any (fun e => e.1 / 8192 == k)
  else
    let g := k - 16
    let mine (i : Nat) : Bool := if i < 512 then i / 128 == g else (i - 512) / 32 == g
    !s.rend.chans.any (fun e => mine e.1 && (e.2.route.cur.sel != 0 || e.2.route.old.isSome || e.2.route.pend.isSome))
      && !s.rend.paths.any (fun e => e.2.obj / 128 == g)
      && !s.rend.recs.any (fun e => e.1 / 4096 == K.GEOREC && e.1 % 4096 / 128 == g && (geoOf e.2.live).bulk != 0)

/-- May group k gate by the configuration? -/
def Mach.mayGate (s : Mach) (k : Nat) : Bool := s.power == 0 && (if k < 16 then s.on F.FAB_GATE_CFG_PE_GATE else s.on F.FAB_GATE_CFG_FE_GATE)

/-- Gate group k; a front-end group's fill marks are cleared. -/
def Mach.gateGroup (s : Mach) (k : Nat) : Mach :=
  let s := ((s.setGate k true).evt F.FAB_EVT_GATE).onFab (fun q => { q with idle := mput q.idle k 0 })
  if k < 16 then s
  else s.onRend (fun q => { q with omem := q.omem.map (fun e => if e.1 / 128 = k - 16 then (e.1, { e.2 with ring := [] }) else e)
                                   fill := q.fill.filter (fun e => e.1 != k - 16) })

def Mach.gateTicks (s : Mach) : Nat := s.gf F.FAB_GATE_CFG_GATE_TICKS

/-- Does group k exist on the variant? All have the 16 front ends (R4). -/
def Mach.groupExists (s : Mach) (k : Nat) : Bool := decide (16 ≤ k) || decide (4 * k < s.variant.pes)

/-- ENGINE_GROUP_GATE. -/
def engineGroupGate (k : Nat) (s : Mach) : Mach :=
  if 20 ≤ k || s.gated k || !s.mayGate k || !s.groupIdle k || mget 0 s.rend.fab.idle k < s.gateTicks then s else s.gateGroup k

/-- Count the tick that ended toward gating, and gate what is due. -/
def Mach.gateTick (s : Mach) : Mach :=
  if s.power != 0 then s else
  s.each (upto 20) (fun s k =>
    if s.gated k then s
    else
      let n := if s.groupIdle k then mget 0 s.rend.fab.idle k + 1 else 0
      engineGroupGate k (s.onFab (fun q => { q with idle := mput q.idle k n })))

/-! ## Wake and herd release (R239, R240, R257) -/

/-- Current step of a group, in units of 10 mA. -/
def stepOf (k : Nat) : Nat := if k < 16 then 8 else 6

/-- Groups that wait, in the order of admission. -/
def Mach.herdOrder (s : Mach) : List Nat :=
  let w := (s.rend.fab.waking.filter (fun e => e.2.st == 0)).map (·.1)
  w.filter (fun k => decide (16 ≤ k)) ++ w.filter (fun k => decide (k < 16))

/-- Groups from the head of an order whose steps fit. -/
def herdFit : Nat → List Nat → List Nat
  | _, [] => []
  | room, k :: r => if stepOf k ≤ room then k :: herdFit (room - stepOf k) r else []

/-- HERD_WINDOW: a window opens; one that carries an AVS write admits nothing (R256). -/
def herdWindow (avs : Bool) (s : Mach) : Mach :=
  let order := s.herdOrder
  if order.isEmpty then s
  else
    let l := if avs then [] else herdFit (s.gf F.FAB_SUP_OPT_ISTEP) order
    s.onFab (fun q => { q with windows := Nat.min 31 (q.windows + 1),
                               waking := q.waking.map (fun e => if l.contains e.1 then (e.1, { e.2 with st := 1 }) else e) })

/-- GROUP_AWAKE: an admitted group has settled; it is awake at the next token. -/
def groupAwake (k : Nat) (s : Mach) : Mach :=
  s.onFab (fun q => { q with waking := q.waking.map (fun e => if e.1 = k && e.2.st = 1 then (e.1, { e.2 with st := 2 }) else e) })

/-- Groups awake at token m: those that settled, and those requested two tokens ago (R239). -/
def Mach.wakeAt (s : Mach) (m : Nat) : Mach :=
  s.each s.rend.fab.waking (fun s e =>
    if e.2.st = 2 || e.2.req + 2 ≤ m then
      let s := s.onFab (fun q => { q with waking := mdel q.waking e.1, idle := mput q.idle e.1 0,
                                          windows := if e.2.st = 0 then Nat.min 31 (q.windows + 1) else q.windows })
      (((s.setGate e.1 false).setWaking e.1 false).evt F.FAB_EVT_WAKE)
    else s)

/-- Front-end groups whose gating condition has become false are woken (R239). -/
def Mach.wakeFronts (s : Mach) (m : Nat) : Mach :=
  if s.power != 0 then s else
  s.each ((upto 4).map (· + 16)) (fun s k => if s.gated k && s.groupExists k && !s.groupIdle k then s.wakeGroup k m else s)

/-- Every gateable group is woken (R528). -/
def Mach.wakeAll (s : Mach) (m : Nat) : Mach := s.each (upto 20) (fun s k => if s.gated k then s.wakeGroup k m else s)

end Sys2Proof.Machine
end

