-- ==== Sys2Proof/Machine/Ibex.lean ====
section
/-! DEFINITION. Fawn sensors, the ageing log, the AVS bus and the Ibex planner (R237, R243 to R256, R520 P4). -/
namespace Sys2Proof.Machine

def Mach.onIbex (s : Mach) (f : IbexSt → IbexSt) : Mach := s.onRend (fun q => { q with ibex := f q.ibex })

/-! ## Lane rates (R237) -/

/-- Rates at -40, 25 and 110 °C, in handshakes per ms, for 550 mV and each 50 mV above. -/
def laneTable : List (Nat × Nat × Nat) :=
  [(860000, 950000, 960000), (1090000, 1150000, 1110000), (1330000, 1380000, 1290000), (1560000, 1600000, 1455000),
   (1780000, 1800000, 1610000), (1980000, 1970000, 1750000)]

/-- Linear through (x0, y0) and (x1, y1). -/
def lerp (x0 y0 x1 y1 x : Rat) : Rat := y0 + (y1 - y0) * (x - x0) / (x1 - x0)

/-- Rate of one row of the table at temperature t, extended linearly. -/
def laneRow (r : Nat × Nat × Nat) (t : Rat) : Rat := if t ≤ 25 then lerp (-40) r.1 25 r.2.1 t else lerp 25 r.2.1 110 r.2.2 t

/-- Lane rate at v mV and temperature t. -/
def laneRate (v t : Rat) : Rat :=
  let i : Nat := if v < 600 then 0 else if v < 650 then 1 else if v < 700 then 2 else if v < 750 then 3 else 4
  let row (k : Nat) : Rat := laneRow (laneTable.getD k (1, 1, 1)) t
  lerp (550 + 50 * (i : Nat)) (row i) (600 + 50 * (i : Nat)) (row (i + 1)) v

/-! ## Fawn (R243 to R246) -/

/-- Is the birth record good (R244)? Log 35. -/
def Mach.birthOk (s : Mach) : Bool :=
  let l := s.mrd birthBase 832
  fld l 0 2 == 0x4642 && fld l 2 2 == 1 && fld l 12 4 == crc32c (l.take 12 ++ List.replicate 4 0 ++ l.drop 16)

/-- Sensor entry: R60, R70, R80, RATIO, VALID. Log 107. -/
def Mach.sensor (s : Mach) (k : Nat) : Nat × Nat × Nat × Nat × Bool :=
  let l := s.mrd (birthBase + 64 + 16 * k) 16
  (fld l 0 4, fld l 4 4, fld l 8 4, fld l 12 2, bitOf (fld l 14 2) 0)

/-- Birth reference of a sensor at v mV and temperature t (R245). -/
def birthRef (r60 r70 r80 : Nat) (v t : Rat) : Rat :=
  let b := if v < 700 then lerp 600 r60 700 r70 v else lerp 700 r70 800 r80 v
  b * laneRate v t / laneRate v 25

/-- Insert in rising order; the median of a sorted list (the mean of the middle two of an even number). -/
def insertInt (x : Int) : List Int → List Int
  | [] => [x]
  | y :: r => if x ≤ y then x :: y :: r else y :: insertInt x r
/-- Log 107. -/
def median (l : List Int) : Rat :=
  let s := l.foldl (fun a x => insertInt x a) []
  let n := s.length
  if n = 0 then 0
  else if n % 2 = 1 then ((s.getD (n / 2) 0 : Int) : Rat)
  else (((s.getD (n / 2 - 1) 0 + s.getD (n / 2) 0 : Int)) : Rat) / 2

/-- The lane-rate estimate at v mV and temperature t, in handshakes per ms; none before a read or with no healthy sensor
(R246). Log 107. -/
def Mach.estimate (s : Mach) (v t : Rat) : Option Rat :=
  let q := s.rend.ibex
  if !q.read then none
  else
    ((upto 48).foldl (fun (b : Option Rat) k =>
      if s.on F.FAB_FAWN_AGE_FAULT k then b
      else
        let x : Rat := (s.gf F.FAB_FAWN_RATE_RATE k : Rat) * ((s.sensor k).2.2.2.1 : Rat) / 32768
        match b with
        | some y => some (if x < y then x else y)
        | none => some x) none).map (fun x => x * laneRate v t / laneRate q.vRead ((q.tjRead : Rat) / 10))

/-- The present VDD_FAB: the last target whose write succeeded. Log 104. -/
def Mach.vddNow (s : Mach) : Nat := if s.rend.ibex.vGood = 0 then s.rend.ibex.vdd else s.rend.ibex.vGood

/-- The present junction temperature in °C. -/
def Mach.tjNow (s : Mach) : Rat := (s.rend.ibex.tj : Rat) / 10

/-! ## Predictions (R250) -/

/-- Slack of a work case of h handshakes per path engine at rate r. -/
def caseSlack (h : Nat) (r : Rat) : Int :=
  if r ≤ 0 then -32768
  else
    let cyc (n : Nat) : Nat := ((n : Rat) / r * 1200000).floor.toNat
    min (slackAt 186800 (cyc (1280 + h))) (slackAt 190400 (cyc (6080 + h)))

/-- Full-budget case of a tier. -/
def tierCase (tier : Nat) : Nat := match tier with
  | 2 => 4 * 19 * 2048
  | 3 => 4 * 19 * 1536
  | _ => 4 * 23 * 2048

def Mach.pred (s : Mach) (tier : Nat) (v t : Rat) : Option Int := (s.estimate v t).map (caseSlack (tierCase tier))

/-- Kernel cross-fade case at the present occupancy. -/
def Mach.predXf (s : Mach) : Option Int :=
  let n := (upto 64).foldl (fun a e => Nat.max a (s.occ e)) 0
  (s.estimate s.vddNow s.tjNow).map (caseSlack (4 * 35 * n))

def Mach.tierNow (s : Mach) : Nat := s.gf F.FAB_IBEX_STAT_TIER

/-- Does the kernel cross-fade case leave XF_MARGIN? A degraded part has no prediction to go by (R246). Log 151. -/
def Mach.xfOk (s : Mach) : Bool := !s.rend.ibex.degraded && (match s.predXf with
  | some p => decide ((s.gf F.FAB_IBEX_CFG_XF_MARGIN : Int) ≤ p)
  | none => false)

/-! ## AVS (R248, R249) -/

/-- Write a voltage target. Log 104. -/
def Mach.writeAvs (s : Mach) (v : Nat) : Mach :=
  s.onIbex (fun q => { q with vdd := v, busy := true, step := if v < q.vdd then q.vdd - v else v - q.vdd, wroteAt := s.tm.up,
                              fails := 0, missSettled := false })

/-- Has the last write settled: its readback succeeded, and its step's time has passed? Log 104. -/
def Mach.avsSettled (s : Mach) : Bool := !s.rend.ibex.busy && !s.rend.ibex.avsFail && decide (s.rend.ibex.settleAt ≤ s.tm.up)

/-- AVS_WRITE: the write that is out completes; `ok` when it was acknowledged, its readback was within 10 mV and no
alert showed. Log 105. -/
def avsWrite (ok : Bool) (s : Mach) : Mach :=
  let q := s.rend.ibex
  if !q.busy then s
  else if ok then
    let slew := Nat.max 1 (s.gf F.FAB_SUP_OPT_SLEW)
    (s.onIbex (fun q => { q with busy := false, fails := 0, avsFail := false, vGood := q.vdd, settleAt := q.wroteAt + q.step * 100000 / slew }))
  else
    let s := (s.bump R.FAB_AVS_ERR).evt F.FAB_IBEX_EVT_AVS_ERR
    if q.avsFail then s.onIbex (fun q => { q with busy := false })
    else if q.fails + 1 < 3 then s.onIbex (fun q => { q with fails := q.fails + 1, wroteAt := s.tm.up })
    else (s.onIbex (fun q => { q with busy := false, fails := 0, avsFail := true })).raise E.AVS_FAIL 0 q.vdd

/-- IBEX_STAT.VDD follows a settled write. -/
def Mach.avsFollow (s : Mach) : Mach :=
  if s.avsSettled && s.rend.ibex.vGood != 0 then s.sf F.FAB_IBEX_STAT_VDD s.rend.ibex.vGood else s

/-! ## Tiers (R252 to R254) -/

/-- M0 or M1 by the floors. -/
def Mach.lowTier (s : Mach) : Nat := if s.gf F.FAB_VFLOOR_BIRTH < s.gf F.FAB_VFLOOR_NOW then 1 else 0

/-- A tier change is decided: its event, its count and, but between M0 and M1, its record. -/
def Mach.tierSaid (s : Mach) (new : Nat) : Mach :=
  let old := s.tierNow
  let s := (s.bump R.FAB_TIER_CHG).evt F.FAB_IBEX_EVT_TIER
  if new < 2 && old < 2 then s else s.raise E.TIER new old

/-- A move is decided for the next token. A move between M0 and M1 leaves a request as it is (R252). Log 106. -/
def Mach.moveTier (s : Mach) (tier : Nat) (enter : Bool) : Mach :=
  let low := decide (tier < 2) && decide (s.tierNow < 2)
  (s.tierSaid tier).onIbex (fun q => { q with moveTo := some (tier, enter), req := if low then q.req else none, upRun := 0 })

def Mach.clearReq (s : Mach) : Mach := s.wr R.FAB_IBEX_REQ 0

/-- The pending request, if any, is dropped. -/
def Mach.dropReq (s : Mach) : Mach := (s.clearReq).onIbex (fun q => { q with req := none })

/-- Approvals grant the pending request (R254). -/
def Mach.tryGrant (s : Mach) : Mach :=
  match s.rend.ibex.req with
  | none => s
  | some (t, enter) =>
    let standing := if t = 2 then s.on F.FAB_IBEX_APPROVE_STANDING_M2 else s.on F.FAB_IBEX_APPROVE_STANDING_M3
    let once := if t = 2 then s.on F.FAB_IBEX_APPROVE_ONCE_M2 else s.on F.FAB_IBEX_APPROVE_ONCE_M3
    if !s.hostMode 4 || standing then (s.clearReq).moveTier t enter
    else if once then
      let s := if t = 2 then s.sf F.FAB_IBEX_APPROVE_ONCE_M2 0 else s.sf F.FAB_IBEX_APPROVE_ONCE_M3 0
      (s.clearReq).moveTier t enter
    else s

/-- Ask for a tier: granted at once in HW mode, else it waits for approval. A request for M3 takes the place of one for M2 that
waits (R254, R255). Log 106. -/
def Mach.askTier (s : Mach) (tier : Nat) (enter : Bool) : Mach :=
  let q := s.rend.ibex
  let waits : Bool := match q.req with
    | some (t, _) => decide (tier ≤ t)
    | none => false
  if q.moveTo.isSome || q.enterM3.isSome then s
  else if !s.hostMode 4 then s.moveTier tier enter
  else if waits then s.tryGrant
  else
    let s := s.onIbex (fun q => { q with req := some (tier, enter) })
    let s := ((s.sf F.FAB_IBEX_REQ_TIER tier).sf F.FAB_IBEX_REQ_PENDING 1).evt F.FAB_IBEX_EVT_TIER_REQ
    s.tryGrant

/-- request_lower_tier of R251 (R253). -/
def Mach.lowerTier (s : Mach) : Mach :=
  match s.tierNow with
  | 2 => s.askTier 3 false
  | 3 => s
  | _ => if s.xfOk then s.askTier 2 false else s.askTier 3 true

/-- IBEX_APPROVE_WRITE. Log 106. -/
def ibexApproveWrite (v : Nat) (s : Mach) : Mach :=
  let old := s.rd R.FAB_IBEX_APPROVE
  let s := s.wr R.FAB_IBEX_APPROVE (((old ||| v) &&& 3) ||| (v &&& 0x300))
  let s := if bitOf v 16 then s.dropReq else s
  s.tryGrant

/-- TARGET, HYST and XF_MARGIN within their ranges (R259)? -/
def ibexCfgOk (v : Nat) : Bool :=
  decide (41 ≤ bits v 0 10) && decide (bits v 0 10 ≤ 410) && decide (8 ≤ bits v 12 6)

/-! ## Phase (R251 to R255) -/

/-- IBEX_STAT.PHASE. -/
def Mach.ibexPhase (s : Mach) : Nat :=
  let q := s.rend.ibex
  if q.birthBad || q.avsFail then 6
  else if !s.tm.ticking || s.power != 0 then 0
  else if q.emerg then 2
  else if q.enterM3.isSome then 3
  else if q.req.isSome then 5
  else if q.ret then 4
  else if s.on F.FAB_IBEX_CFG_HOLD then 7
  else 1

/-! ## Sensor reads -/

/-- The floor computed from the last read: the least voltage at which the M0 case holds at 110 °C (R252). Log 108. -/
def Mach.floorNow (s : Mach) : Nat :=
  match (upto 51).find? (fun (k : Nat) => match s.pred 0 ((550 + 5 * k : Nat) : Rat) 110 with
    | some p => decide (0 ≤ p)
    | none => false) with
  | some k => 550 + 5 * k
  | none => 800

/-- Move between M0 and M1 as the floors say (R252). -/
def Mach.lowTierFollow (s : Mach) : Mach :=
  if s.tierNow < 2 && s.tierNow != s.lowTier && s.rend.ibex.moveTo.isNone && s.rend.ibex.enterM3.isNone then s.moveTier s.lowTier false else s

/-- Ageing index of sensor k at a rate, a voltage and a temperature (R245): free where its reference is 0. -/
def Mach.ageIndex (s : Mach) (k r : Nat) (v t : Rat) : Int :=
  let (a, b, c, _, _) := s.sensor k
  let ref := birthRef a b c v t
  if ref = 0 then Config.indexAtZero r else rhaQ (1000 * (1 - (r : Rat) / ref))

/-- The indices of a read, judged against the birth record (R245, R246, R252). `first` at P4. -/
def Mach.fawnJudge (s : Mach) (rates : List Nat) (first : Bool) : Mach :=
  let v : Rat := s.vddNow
  let raw := (upto 48).map (fun k => (k, s.ageIndex k (rates.getD k 0) v s.tjNow))
  let counts (k : Nat) : Bool := (s.sensor k).2.2.2.2 && rates.getD k 0 != 0
  let med := median ((raw.filter (fun p => counts p.1)).map (·.2))
  let bad (p : Nat × Int) : Bool := !counts p.1 || decide (30 < absQ ((p.2 : Rat) - med))
  let s := s.each raw (fun s p =>
    let s := s.wr R.FAB_FAWN_AGE (toU 16 (clampS 16 p.2) + 65536 * b2n (bad p)) p.1
    if bad p && !s.rend.ibex.faulty.contains p.1 then
      ((s.onIbex (fun q => { q with faulty := p.1 :: q.faulty })).raise E.FAWN_FAULT p.1 (rates.getD p.1 0)).evt F.FAB_IBEX_EVT_FAWN_FAULT
    else s)
  let good := raw.filter (fun p => !bad p)
  let best := good.foldl (fun (b : Option (Nat × Int)) x => match b with
    | some y => if y.2 < x.2 then some x else b
    | none => some x) none
  let (w, a) := best.getD (0, 0)
  let s := s.wr R.FAB_AGE (toU 16 (clampS 16 a) + 65536 * w + 2 ^ 24 * good.length)
  let s := s.onIbex (fun q => { q with read := true, vRead := s.vddNow, tjRead := q.tj })
  let s := s.onRend (fun q => { q with log := { q.log with ageMax := some (max (q.log.ageMax.getD a) a) } })
  let s := if good.length < 40 && !s.rend.ibex.degraded then
      ((s.onIbex (fun q => { q with degraded := true, ret := false, upRun := 0 })).writeAvs 800).raise E.FAWN_DEGRADED 0 good.length
    else s
  let now := s.floorNow
  let was := s.gf F.FAB_VFLOOR_NOW
  if first then s.sf F.FAB_VFLOOR_NOW now
  else if was < now then (((s.sf F.FAB_VFLOOR_NOW now).evt F.FAB_IBEX_EVT_FLOOR)).lowTierFollow
  else s

/-- All 48 sensors are read: rates in handshakes per ms (R243). Without a good birth record there is nothing to judge them by.
Log 152. -/
def Mach.fawnRead (s : Mach) (rates : List Nat) (first : Bool) : Mach :=
  let s := s.each (upto 48) (fun s k => s.wr R.FAB_FAWN_RATE (rates.getD k 0 % 2 ^ 24) k)
  if s.rend.ibex.birthBad then s else s.fawnJudge rates first

/-- FAWN_READ: the reads of ACTIVE and IDLE (R243). -/
def fawnRead (rates : List Nat) (s : Mach) : Mach := if 1 < s.power then s else s.fawnRead rates false

/-- TJ_READ: the hottest fabric sensor, in 0.1 °C. -/
def tjRead (tj : Int) (s : Mach) : Mach :=
  (s.onIbex (fun q => { q with tj := tj, tjMax := if q.tjMax < tj then tj else q.tjMax })).onRend (fun q => { q with log := { q.log with tjMax := if q.log.tjMax < tj then tj else q.log.tjMax } })

/-! ## Evaluation (R251, R253) -/

/-- One voltage step of the steady phase. -/
def Mach.stepUp (s : Mach) : Mach := (((s.writeAvs (Nat.min 800 (s.rend.ibex.vdd + 5))).bump R.FAB_IBEX_UP).evt F.FAB_IBEX_EVT_STEP)
def Mach.stepDown (s : Mach) : Mach := (((s.writeAvs (s.rend.ibex.vdd - 5)).bump R.FAB_IBEX_DOWN).evt F.FAB_IBEX_EVT_STEP)

/-- consider_higher_tier (R253). -/
def Mach.higherTier (s : Mach) : Mach :=
  let q := s.rend.ibex
  let lim : Int := (s.gf F.FAB_IBEX_CFG_TARGET + s.gf F.FAB_IBEX_CFG_HYST : Nat)
  let meets : Option Int → Bool := fun p => match p with
    | some x => decide (lim ≤ x)
    | none => false
  if q.moveTo.isSome || q.enterM3.isSome || q.degraded then s
  else match s.tierNow with
    | 3 =>
      let ok : Bool := meets (s.pred 2 s.vddNow s.tjNow)
      let s := s.onIbex (fun q => { q with upRun := (q.upRun + 1) * b2n ok })
      if 100 ≤ s.rend.ibex.upRun then s.moveTier 2 false else s
    | 2 =>
      let ok : Bool := meets (s.pred 0 800 s.tjNow) && s.xfOk
      if q.ret then s.onIbex (fun q => { q with ret := ok, upRun := q.upRun * b2n ok })
      else
        let s := s.onIbex (fun q => { q with upRun := (q.upRun + 1) * b2n ok })
        if 600 ≤ s.rend.ibex.upRun then s.onIbex (fun q => { q with ret := true }) else s
    | _ => s

/-- IBEX_EVALUATE. -/
def ibexEvaluate (s : Mach) : Mach :=
  let q := s.rend.ibex
  if s.power != 0 || !s.tm.ticking || s.phase != 6 then s
  else if q.avsFail then (if q.busy then s else s.onIbex (fun q => { q with busy := true, wroteAt := s.tm.up }))
  else if q.birthBad || q.emerg || s.on F.FAB_IBEX_CFG_HOLD then s
  else
    let tier := s.tierNow
    let p := if q.degraded then none else s.pred tier s.vddNow s.tjNow
    let sl : Option Int := match p, q.meas with
      | some a, some b => some (min a b)
      | some a, none => some a
      | none, b => b
    let target : Int := s.gf F.FAB_IBEX_CFG_TARGET
    let hyst : Int := s.gf F.FAB_IBEX_CFG_HYST
    let s := s.onIbex (fun q => { q with meas := none })
    let s := match sl with
      | none => s
      | some x =>
        if q.ret then (if q.vdd < 800 then s.stepUp else s)
        else if x < target then
          (if q.vdd < 800 then s.stepUp else if q.degraded then s else s.lowerTier)
        else
          let lower := match s.pred tier ((q.vdd : Rat) - 5) s.tjNow with
            | some y => decide (target ≤ y)
            | none => false
          if target + hyst < x && s.gf F.FAB_VFLOOR_NOW + 5 ≤ q.vdd && lower && q.req.isNone && !q.degraded
              && q.tierTick != some s.tm.tick && q.moveTo.isNone then s.stepDown
          else s
    s.higherTier

/-! ## Emergency and token-time moves (R253 to R256) -/

/-- What Ibex does at the token of tick m. Outside ACTIVE the voltage is held (R251). Log 151. -/
def Mach.ibexToken (s : Mach) (m : Nat) : Mach :=
  -- the kernel change of the tick before has been rendered
  let q := s.rend.ibex
  let s := if q.emergNext && !q.emerg then
      ((s.onIbex (fun q => { q with emerg := true, emergNext := false, ret := false, upRun := 0 })).bump R.FAB_EMERG).evt F.FAB_IBEX_EVT_EMERG
        |>.onRend (fun r => { r with log := { r.log with emerg := r.log.emerg + 1 } })
    else s.onIbex (fun q => { q with emergNext := false })
  let kernelChange (s : Mach) : Mach :=
    if s.power = 0 then s.onIbex (fun q => { q with kfade := !q.kfade }) else s.onIbex (fun q => { q with k12 := !q.k12 })
  let setTier (s : Mach) (t : Nat) : Mach := (s.sf F.FAB_IBEX_STAT_TIER t).onIbex (fun q => { q with tierTick := some m })
  -- moves decided before this token
  let s := match s.rend.ibex.moveTo with
    | some (t, enter) =>
      let was := s.tierNow
      let s := s.onIbex (fun q => { q with moveTo := none })
      if enter then s.onIbex (fun q => { q with budgetM3 := true, enterM3 := some m, stuck := false, kernelNext := false })
      else
        let s := s.onIbex (fun q => { q with budgetM3 := t == 3 })
        let s := if decide (t < 2) != decide (was < 2) then kernelChange s else s
        setTier (s.onIbex (fun q => { q with ret := false })) t
    | none => s
  -- ENTER_M3
  let s := match s.rend.ibex.enterM3 with
    | some a =>
      if a = m then s
      else if s.rend.ibex.kernelNext then setTier (kernelChange (s.onIbex (fun q => { q with enterM3 := none, kernelNext := false }))) 3
      else if s.xfOk then s.onIbex (fun q => { q with kernelNext := true })
      else s
    | none => s
  -- RETURN ends at 800 mV
  let s :=
    let q := s.rend.ibex
    if q.ret && !q.emerg && q.vdd = 800 && s.avsSettled && q.moveTo.isNone && s.tierNow = 2 then
      let lim : Int := (s.gf F.FAB_IBEX_CFG_TARGET + s.gf F.FAB_IBEX_CFG_HYST : Nat)
      let ok := (match s.pred 0 800 s.tjNow with
        | some x => decide (lim ≤ x)
        | none => false) && s.xfOk
      if ok then
        let t := s.lowTier
        setTier (kernelChange ((s.tierSaid t).dropReq.onIbex (fun q => { q with ret := false, upRun := 0 }))) t
      else s.onIbex (fun q => { q with ret := false, upRun := 0 })
    else s
  -- EMERGENCY
  if !s.rend.ibex.emerg || s.power != 0 then s
  else
    let q := s.rend.ibex
    let slew := s.gf F.FAB_SUP_OPT_SLEW
    let estep := Nat.max 5 (Nat.min 25 (5 * (slew * 100 / 500)))
    let s :=
      if q.vdd < 800 && s.avsSettled then
        ((s.writeAvs (Nat.min 800 (q.vdd + estep))).bump R.FAB_IBEX_UP).evt F.FAB_IBEX_EVT_STEP
      else if q.vdd = 800 && s.avsSettled && q.missSettled && s.tierNow != 3 then
        if s.tierNow = 2 then s.askTier 3 false else s.askTier 3 true
      else s
    if 64 ≤ s.rend.ibex.good then s.onIbex (fun q => { q with emerg := false, meas := none }) else s

/-- IBEX_STUCK: the kernel change of ENTER_M3 has waited 6,000 ticks. -/
def ibexStuck (s : Mach) : Mach :=
  match s.rend.ibex.enterM3 with
  | some a =>
    if s.rend.ibex.stuck || s.tm.tick < a + 6000 then s
    else ((s.onIbex (fun q => { q with stuck := true })).evt F.FAB_IBEX_EVT_STUCK).raise E.STUCK 0 (s.tm.tick - a)
  | none => s

/-- What Ibex notes at the end of a tick: its slack and whether an engine was missed; a kernel cross-fade ends (R126). -/
def Mach.ibexTick (s : Mach) (slack : Option Int) (miss : Bool) : Mach :=
  let settled := s.avsSettled
  (s.when s.rend.ibex.kfade (·.evt F.RENDER_PR_EVT_KERNEL_SWAP)).onIbex (fun q =>
    { q with meas := match slack, q.meas with
               | some a, some b => some (min a b)
               | some a, none => some a
               | none, b => b
             missSettled := q.missSettled || (miss && settled)
             emergNext := q.emergNext || miss
             good := if miss || (match slack with
               | some x => decide (x < 0)
               | none => false) then 0 else Nat.min 64 (q.good + 1)
             k12 := if q.kfade then !q.k12 else q.k12
             kfade := false })

/-! ## The ageing log (R247) -/

/-- Address of log slot k: odd slots lie in copy 1. Log 110. -/
def logAddr (k : Nat) : Nat := mramBase + 0x20000 + (k % 2) * 0x20000 + k % 4096 * 32

/-- A valid log record at slot k. Log 110. -/
def Mach.logRec (s : Mach) (k : Nat) : Option (List Byte) :=
  let l := s.mrd (logAddr k) 32
  if fld l 28 4 != 0 && fld l 28 4 == crc32c (l.take 28) then some l else none

/-- One tick of ACTIVE counted toward the day. Log 110. -/
def Mach.logTick (s : Mach) (slack : Option Int) (miss : Bool) : Mach :=
  if s.power != 0 then s else
    let t := s.tierNow
    let v := s.vddNow
    let tj := s.rend.ibex.tj
    let sl : Int := if miss then -32768 else slack.getD 32767
    s.onRend (fun q => { q with log :=
      { q.log with
        actTicks := q.log.actTicks + 1
        tjSum := q.log.tjSum + tj
        tjN := q.log.tjN + 1
        vSum := q.log.vSum + v
        vMax := Nat.max q.log.vMax v
        slackMin := if sl < sext 16 q.log.slackMin then toU 16 sl else q.log.slackMin
        miss := q.log.miss + b2n miss
        m1 := q.log.m1 + b2n (t == 1)
        m2 := q.log.m2 + b2n (t == 2)
        m3 := q.log.m3 + b2n (t == 3) } })

/-- Write the day's record and start the day `next`. A day without a sensor read keeps the last index; temperatures are rounded to
°C. Log 110. -/
def Mach.logWrite (s : Mach) (next : Nat) : Mach :=
  let g := s.rend.log
  let min_ (n : Nat) : Nat := Nat.min 65535 (n / 360000)
  let deg (x : Rat) : List Byte := toLE 1 (toU 8 (clampS 8 (rhaQ (x / 10))))
  let age : Int := g.ageMax.getD (sext 16 (s.gf F.FAB_AGE_INDEX))
  let n := Nat.max 1 g.tjN
  let emerg := g.emerg
  let body := toLE 4 g.day ++ toLE 2 (min_ g.actTicks) ++ toLE 2 (toU 16 (clampS 16 age)) ++ deg g.tjMax
    ++ deg ((g.tjSum : Rat) / (n : Rat)) ++ toLE 2 (rhaQ ((g.vSum : Rat) / (n : Rat))).toNat
    ++ toLE 2 g.vMax ++ toLE 2 g.slackMin ++ toLE 4 g.miss ++ toLE 2 (min_ g.m1) ++ toLE 2 (min_ g.m2) ++ toLE 2 (min_ g.m3)
    ++ toLE 2 (Nat.min 65535 emerg)
  let s := s.mwr (logAddr g.count) (body ++ toLE 4 (crc32c body))
  let s := (s.sf F.FAB_LOG_STAT_COUNT (Nat.min 4096 (s.gf F.FAB_LOG_STAT_COUNT + 1))).sf F.FAB_LOG_STAT_NEWEST g.day
  s.onRend (fun q => { q with log := { DayLog.init with day := next, count := (g.count + 1) % 4096, tjMax := s.rend.ibex.tj } })

/-- AGEING_LOG_WRITE: a day boundary of the RTC. -/
def ageingLogWrite (s : Mach) : Mach :=
  let d := s.rtcNow / 86400
  if s.phase = 6 && s.rend.log.day < d then s.logWrite d else s

/-- Find the log's newest record after a reset. -/
def Mach.logScan (s : Mach) : Mach :=
  let d := s.rtcNow / 86400
  let empty := !s.mem.any (fun c => decide (mramBase + 0x20000 ≤ c.1) && decide (c.1 < mramBase + 0x60000))
  let recs := if empty then [] else (upto 4096).filterMap (fun k => (s.logRec k).map (fun l => (k, fld l 0 4)))
  let new := recs.foldl (fun (b : Option (Nat × Nat)) r => match b with
    | some x => if x.2 ≤ r.2 then some r else b
    | none => some r) none
  let s := s.onRend (fun q => { q with log := { DayLog.init with day := d, tjMax := s.rend.ibex.tj, count := match new with
    | some (k, _) => (k + 1) % 4096
    | none => 0 } })
  (s.sf F.FAB_LOG_STAT_COUNT recs.length).sf F.FAB_LOG_STAT_NEWEST ((new.map (·.2)).getD 0)

/-! ## P4 (R244, R252, R520) -/

/-- What P4 does: the self-test isolates engines that fail, the birth record is judged, the first Fawn read is taken.
Log 109. -/
def Mach.selftest (s : Mach) (bad rates : List Nat) (tj : Int) : Mach :=
  let l := (upto engines).filter (fun e => bad.contains e && s.engExists e)
  let s := s.each l (fun s e => ((s.isolateEngine e).raise E.SELFTEST_FAIL e 0).sf F.SYS_BOOT_STAT_SELFTEST_ERR 1)
  let ok := s.birthOk
  let s := s.onIbex (fun q => { q with tj := tj, tjMax := tj, birthBad := !ok })
  let s := if ok then s.sf F.FAB_VFLOOR_BIRTH (fld (s.mrd birthBase 64) 4 2) else s.raise E.FAWN_BIRTH_BAD 0 0
  let s := ((s.writeAvs 800).logScan).fawnRead rates true
  if ok then s.sf F.FAB_IBEX_STAT_TIER s.lowTier else s

/-- FABRIC_SELFTEST: engines that fail, the first Fawn read and the junction temperature. -/
def fabricSelftest (bad rates : List Nat) (tj : Int) (s : Mach) : Mach :=
  if s.phase != 4 then s else (s.selftest bad rates tj).setPhase 5

end Sys2Proof.Machine
end

