-- ==== Sys2Proof/Machine/Feed.lean ====
section
/-! DEFINITION. A feed from its accumulator to the hand-off buffer: bank convolution and cross-fades, biquads, delay trim,
trim gain, mute, limiter and the word clamp (R150 to R194). -/
namespace Sys2Proof.Machine

def Mach.feed (s : Mach) (f : Nat) : Feed := mget Feed.init s.rend.feeds f
def Mach.onFeed (s : Mach) (f : Nat) (g : Feed → Feed) : Mach := s.onRend (fun q => { q with feeds := mmod Feed.init q.feeds f g })
def Feed.bank (f : Feed) (k : Nat) : Bank := if k = 0 then f.a else f.b
def Feed.setBank (f : Feed) (k : Nat) (b : Bank) : Feed := if k = 0 then { f with a := b } else { f with b := b }

/-! ## The response (R151, R152, R155, R156) -/

/-- Value of a mantissa half with exponent byte e. -/
def binVal (m : Nat) (e : Int) : Rat := (sext 16 m : Rat) * pow2 (e - 15)

/-- Tap i of a partition of n bins, from its stored bytes: exponents, then bins (R151, R156). -/
def partTap (n : Nat) (p : List Byte) (i : Nat) : Rat :=
  let bin (k : Nat) : Rat × Rat :=
    let e := sfld p (k / 16) 1
    let w := fld p (n / 16 + 4 * k) 4
    (binVal (w % 65536) e, binVal (w / 65536) e)
  let (dc, ny) := bin 0
  let base : Rat := dc + (if i % 2 = 0 then ny else -ny)
  let sum := (List.range (n - 1)).foldl (fun (a : Rat) j =>
    let k := j + 1
    let (re, im) := bin k
    let ph := 2 * piQ * ((k * i % (2 * n) : Nat) : Rat) / (2 * n : Nat)
    a + 2 * (re * cosQ ph - im * sinQ ph)) base
  sum / (2 * n : Nat)

/-- Exact sum of a head (R151): `x` newest first. -/
def headSum (coef : List Byte) (x : List Int) : Int :=
  rhu 30 ((List.range 128).foldl (fun a k => a + sfld coef (4 * k) 4 * (x[k]?.getD 0)) 0)

/-- Exact sum of the on-die partitions. -/
def dieSum (np : Nat) (coef : List Byte) (x : List Int) : Rat :=
  (List.range np).foldl (fun a p =>
    let pb := slice coef (512 + 520 * p) 520
    (List.range 128).foldl (fun a i => a + partTap 128 pb i * ((x[128 * (p + 1) + i]?.getD 0 : Int) : Rat)) a) 0

/-- Exact sum of the DRAM partitions; a sample of an unwritten spectrum reads as zero. Log 96. -/
def dramSum (nq : Nat) (part : Nat → List Byte) (x : List Int) (lost : Nat → Bool) : Rat :=
  (List.range nq).foldl (fun a q =>
    let pb := part (q + 1)
    (List.range 1024).foldl (fun a i =>
      let k := 1024 * (q + 2) + i
      if lost k then a else a + partTap 1024 pb i * ((x[k]?.getD 0 : Int) : Rat)) a) 0

/-- Offset of feed f's area in the bank store (R159). -/
def feedArea (f : Nat) : Nat := f * 0x52000

/-- Address of DRAM partition q of slot k of feed f. -/
def Mach.partAddr (s : Mach) (f k q : Nat) : Nat := s.corrBase + feedArea f + 0x11000 * k + 576 + 520 * 15 + 4160 * (q - 1)

/-- Bytes of DRAM partition q of slot k of feed f; one read with an uncorrectable word is zero for the block (R172). -/
def Mach.dramPart (s : Mach) (f k q : Nat) : List Byte :=
  if (s.feed f).ecc.contains (k, q) then List.replicate 4160 0 else s.mrd (s.partAddr f k q) 4160

/-- A bank with words of its coefficients read as zero (R172); the built-in bank holds the unit tap. -/
def Bank.hurt (b : Bank) (ws : List Nat) : Bank :=
  if ws.isEmpty then b
  else
    let c : List Byte := if b.builtin then toLE 4 (2 ^ 30) ++ List.replicate 508 0 else b.coef
    { b with builtin := false, coef := ws.foldl (fun c w => c.take (4 * w) ++ List.replicate (Nat.min 4 (c.length - 4 * w)) 0 ++ c.drop (4 * w + 4)) c }

/-- Bank k as its coefficients are read. -/
def Feed.bankIn (f : Feed) (k : Nat) : Bank := (f.bank k).hurt ((f.perr.filter (fun e => e.1 == k)).map (·.2))

/-- Deviation of the partition part, as far as R152 lets it go: 120 dB below the peak of x over the span of the taps. The
transforms' own rounding is free within that, and the same for the same operands. Log 15. -/
def convDev (span : Nat) (coef : List Byte) (x : List Int) (tail : Nat) : Rat :=
  let x := x.take span
  let lim : Rat := ((x.foldl (fun a y => Nat.max a y.natAbs) 0 : Nat) : Rat) / 1000000
  max (-lim) (min lim (Config.convResidue coef x tail))

/-- One output of a bank: `x` is the history with the present sample first, n its index, `tail` the scale of the DRAM
partitions in 16ths (R151, R152). Log 15, 96. -/
def Mach.bankOut (s : Mach) (f k : Nat) (b : Bank) (x : List Int) (lost : List Nat) (n tail : Nat) : Int :=
  if b.builtin then x.headD 0
  else
    let head := headSum b.coef x
    let part : Int :=
      if b.np = 0 then 0
      else
        let gone (k : Nat) : Bool := let blk := (n - k) / 1024; decide (blk + 2 < n / 1024) && lost.contains blk
        let nq := if tail = 0 then 0 else b.nq
        let ps := (List.range nq).map (fun q => s.dramPart f k (q + 1))
        let q : Rat := dieSum b.np b.coef x + dramSum nq (fun q => ps.getD (q - 1) []) x gone * (tail : Rat) / 16
        let seen := mapIdxFrom (fun i y => if 2048 ≤ i && gone i then 0 else y) 0 x
        rneQ (q + convDev (128 * (b.np + 1) + 1024 * nq) (b.coef ++ ps.flatten) seen tail)
    let g : Int := if b.pol then -(b.gain : Int) else (b.gain : Int)
    rhu 22 ((head + part) * g)

/-- S(k) of R169. -/
def xfS (k : Nat) : Int := rhaQ ((2 ^ 23 : Nat) * sinQ (piQ * (k : Rat) / 32768))

/-- Weights of sample i of a cross-fade: new, old (R169). -/
def xfGains (lenLog i : Nat) (linear : Bool) : Int × Int :=
  let w := (i + 1) * 2 ^ (14 - lenLog)
  if linear then ((w * 2 ^ 9 : Nat), 2 ^ 23 - (w * 2 ^ 9 : Nat)) else (xfS w, xfS (16384 - w))

/-- Scale of a tail in sample j (R171), in 16ths. -/
def tailScale (st j : Nat) : Nat := match st with
  | 1 => 15 - j
  | 2 => 0
  | 3 => j + 1
  | 4 => 0
  | _ => 16

/-- The bank stage over a tick: outputs and the history after it (R151, R169). -/
def Mach.convTick (s : Mach) (f m : Nat) (fd : Feed) : Nat → Nat → List Int → List Int → List Int × List Int
  | _, _, [], h => ([], h)
  | j, pos, x :: xs, h =>
    let h := (x :: h).take 17408
    let n := 16 * m + j
    let one (k : Nat) : Int := s.bankOut f k (fd.bankIn k) h fd.lost n (tailScale (mget 0 fd.tail k) j)
    let y := match fd.xf with
      | some c =>
        let (gn, go) := xfGains c.lenLog pos c.linear
        rhu 23 (one fd.live * go + one c.slot * gn)
      | none => one fd.live
    let (ys, h') := Mach.convTick s f m fd (j + 1) (pos + 1) xs h
    (y :: ys, h')

/-! ## Delay trim (R177, R178) -/

/-- Sample of the trim line at age a of tick m; a lost tick that has left the write stage reads as zero. -/
def lineAt (line : List Int) (lost : List Nat) (m a : Nat) : Int :=
  if 160 ≤ a && lost.contains (m - a / 16) then 0 else line.getD a 0

/-- The trim's output over a tick: `line` holds the tick's outputs, newest first; `xf` is (old trim, position). -/
def trimTick (line : List Int) (lost : List Nat) (m d : Nat) (xf : Option (Nat × Nat)) : List Int :=
  (List.range 16).map fun j =>
    let new := lineAt line lost m (15 - j + d)
    match xf with
    | some (o, pos) => let i := pos + j; rhu 6 (lineAt line lost m (15 - j + o) * (64 - i : Nat) + new * i)
    | none => new

/-! ## Trim gain and mute (R184 to R186) -/

/-- A change of the value arrives at a tick boundary. -/
def ZcVal.change (v : ZcVal) (new zcto : Nat) : ZcVal :=
  match v.ramp with
  | some (_, n, _) => { v with pend := if new = n then none else some (new, zcto) }
  | none =>
    if new = v.cur then { v with wait := none }
    else match v.wait with
      | some (_, i, z) => { v with wait := some (new, i, z) }
      | none => { v with wait := some (new, 0, zcto) }

/-- One sample of a ramp: factor in 64ths and the value after it. Log 12. -/
def ZcVal.rampStep (v : ZcVal) (o n i : Nat) : Int × ZcVal :=
  let k : Int := 64 * (o : Int) + ((n : Int) - o) * (i + 1)
  if i + 1 < 64 then (k, { v with ramp := some (o, n, i + 1), wait := none })
  else (k, { v with cur := n, ramp := none, pend := none,
                    wait := v.pend.bind (fun p => if p.1 = n then none else some (p.1, 0, p.2)) })

/-- One sample: factor in 64ths, the value after it, and whether a wait timed out. Log 12. -/
def ZcVal.step (v : ZcVal) (cross : Bool) : Int × ZcVal × Bool :=
  match v.ramp, v.wait with
  | some (o, n, i), _ => let (k, w) := v.rampStep o n i; (k, w, false)
  | none, some (n, i, z) =>
    if z ≤ i then let (k, w) := v.rampStep v.cur n 0; (k, w, true)
    else if cross then (64 * (n : Int), { v with cur := n, wait := none }, false)
    else (64 * (v.cur : Int), { v with wait := some (n, i + 1, z) }, false)
  | none, none => (64 * (v.cur : Int), v, false)

/-! ## The limiter (R187 to R190) -/

/-- r(k) of R187. -/
def limR (t y : Int) : Int := if (y.natAbs : Int) ≤ t then 2 ^ 24 else 2 ^ 24 * t / (y.natAbs : Int)

/-- h(n - j): least r over the hold window of sample n - j. -/
def limH (rs : List Int) (l j : Nat) : Int := ((rs.drop j).take (l + 1)).foldl min (2 ^ 24)

/-- a(n). -/
def limA (rs : List Int) (l a : Nat) : Int :=
  ((List.range (a + 1)).foldl (fun s j => s + limH rs l j) 0) / ((a + 1 : Nat) : Int)

/-- g(n) from g(n - 1). -/
def limG (en : Bool) (kr a g : Int) : Int :=
  if !en then 2 ^ 24
  else if a ≤ g then a
  else min a (g + max ((a - g) * kr / 2 ^ 24) 1)

/-- o(n). -/
def limO (ys : List Int) (l : Nat) (g : Int) : Int :=
  let y := ys[l]?.getD 0
  let o := (y.natAbs : Int) * g / 2 ^ 24
  if y < 0 then -o else o

/-- One sample of the limiter. -/
def Lim.step (v : Lim) (y : Int) : Int × Lim :=
  let ys := (y :: v.ys).take 129
  let rs := ys.map (limR v.t)
  let g := limG v.en v.kr (limA rs v.l v.a) v.g
  let o := limO ys v.l g
  match v.xf with
  | none => (o, { v with ys := ys, g := g })
  | some (l0, a0, g0, i) =>
    let g0' := limG v.en v.kr (limA rs l0 a0) g0
    let o0 := limO ys l0 g0'
    (Int.tdiv (o0 * (64 - i : Nat) + o * i) 64, { v with ys := ys, g := g, xf := some (l0, a0, g0', i + 1) })

/-- The limiter of a missed tick: its gains stay as `old` has them (R234). -/
def Lim.hold (v old : Lim) : Lim :=
  { v with g := old.g, xf := match v.xf, old.xf with
    | some (l, a, _, i), some (_, _, g, _) => some (l, a, g, i)
    | x, _ => x }

/-- Limiter fields in force: LA from the output set, the rest by LIMITER_PLAN (R191 to R193). -/
structure LimSet where
  la : Nat
  attack : Nat
  t : Int
  kr : Int
  en : Bool
  deriving DecidableEq, Repr

/-- T of R187 from THRESH in 0.01 dB. -/
def limT (th : Int) : Int := rhaQ ((2 ^ 24 : Nat) * pow10Q ((th : Rat) / 2000))
/-- KR of R187 from RELEASE in 0.1 ms. -/
def limKR (rel : Nat) : Int := rhaQ ((2 ^ 24 : Nat) * rnd64 (1 - expQ (-10 / (96 * (rel : Rat)))))

/-- The limiter fields that hold for an output set and a rating record. -/
def limSet (host : Bool) (out rating : List Byte) : LimSet :=
  let la := fld out 6 1
  if host then ⟨la, fld out 7 1, limT (sfld out 8 2), limKR (fld out 10 2), bitOf (fld out 4 2) 1⟩
  else if bitOf (fld rating 4 2) 0 then
    let th := max (-6000) (sfld rating 0 2 - 10 * (fld rating 2 1 : Int))
    ⟨la, la, limT th, limKR ([100, 500, 2000].getD (fld rating 3 1) 500), true⟩
  else ⟨la, la, limT 0, limKR 500, true⟩

/-- Put limiter fields in force at a tick boundary (R189, R190): a change of LA cross-fades or waits for the running
cross-fade. -/
def Lim.put (v : Lim) (x : LimSet) : Lim :=
  let v := { v with t := x.t, kr := x.kr, en := x.en }
  if x.la = v.l then { v with a := x.attack, pend := none }
  else match v.xf with
    | some _ => { v with pend := some x.la }
    | none => { v with l := x.la, a := x.attack, xf := some (v.l, v.a, v.g, 0), pend := none }

/-- A finished LA cross-fade ends and a pending change starts (R190). -/
def Lim.boundary (v : Lim) (x : LimSet) : Lim :=
  match v.xf with
  | some (_, _, _, i) => if 64 ≤ i then { v with xf := none, pend := none }.put x else v
  | none => v

/-! ## One tick of a back end -/

/-- What a feed's tick gives. -/
structure FeedOut where
  out : List Int
  fd : Feed
  bqClamps : Nat
  wordClamps : Nat
  sats : Nat
  timeouts : Nat
  minG : Int

/-- Gain, mute, limiter and clamp, sample by sample (R181 to R194). -/
def backEnd : List Int → Feed → FeedOut
  | [], fd => ⟨[], fd, 0, 0, 0, 0, fd.lim.g⟩
  | x :: xs, fd =>
    let cross := x == 0 || decide ((x < 0 ∧ 0 < fd.xPrev) ∨ (0 < x ∧ fd.xPrev < 0))
    let (kg, gain, t1) := fd.gain.step cross
    let (km, mute, t2) := fd.mute.step cross
    let y := rhu 6 (rhu 26 (x * kg) * km)
    let (o, lim) := fd.lim.step y
    let w := clamp32 o
    let r := backEnd xs { fd with gain := gain, mute := mute, xPrev := x, lim := lim }
    { r with out := w :: r.out, wordClamps := r.wordClamps + b2n (decide (w ≠ o)),
             sats := r.sats + b2n (decide (w < -(2 ^ 24) ∨ 2 ^ 24 - 1 < w)),
             timeouts := r.timeouts + b2n t1 + b2n t2, minG := min r.minG lim.g }

/-- EQ set of a feed: its biquads. -/
def eqOf (l : List Byte) : List Bq := (List.range 16).map (fun k => bqOf l (20 * k))

/-- Scale of a starved or recovering feed (R179, R234). -/
def scale16 (st : Nat) (l : List Int) : List Int :=
  match st with
  | 1 => mapIdxFrom (fun j x => rhu 4 (x * (15 - j : Nat))) 0 l
  | 2 => l.map (fun _ => 0)
  | 3 => mapIdxFrom (fun j x => rhu 4 (x * (j + 1 : Nat))) 0 l
  | _ => l

/-- Trim line kept: the write stage alone while the region is disabled (R177). -/
def lineKeep (on_ : Bool) : Nat := if on_ then 16384 else 160

/-- Byte address of trim-line sample n of feed f. Log 95. -/
def Mach.trimAddr (s : Mach) (f n : Nat) : Nat := s.corrBase + feedArea f + 0x32000 + n % 16384 * 8

/-- Trim-line ages of tick m whose DRAM words are uncorrectable (R502). -/
def Mach.trimBad (s : Mach) (f m : Nat) : List Nat :=
  let base := s.trimAddr f 0
  (s.ddr.bad.filterMap (fun e => if base ≤ e.1 && e.1 < base + 131072 then
    some ((16 * m + 15 + 16384 - (e.1 - base) / 8) % 16384) else none)).filter (fun a => decide (160 ≤ a))

/-- The DRAM words that the trim of feed f reads in tick m are checked. Log 53. -/
def Mach.trimEcc (s : Mach) (f m : Nat) : Mach :=
  let d := s.feed f
  if !s.corrOn || (s.ddr.bad.isEmpty && s.ddr.weak.isEmpty) then s
  else s.each (d.trim :: (d.trimXf.map (·.1)).toList) (fun s t =>
    if t ≤ 143 then s
    else s.each (upto 16) (fun s j => if 16 * m + j < t then s else s.checkHits 3 (s.trimAddr f (16 * m + j - t)) 8))

/-- One tick of feed f on its pre-correction values; `missed` when a tail engine of its missed the tick (R234). -/
def Mach.feedTick (s : Mach) (f m : Nat) (pre : List Int) (missed : Bool) : FeedOut :=
  let fd := s.feed f
  let on_ := s.corrOn
  let pre := if missed then List.replicate 16 0 else pre
  let (cs, hist) :=
    if fd.perr.isEmpty && (fd.bank fd.live).builtin && fd.xf.isNone then (pre, pre.reverse ++ fd.hist)
    else s.convTick f m fd 0 ((fd.xf.map (·.pos)).getD 0) pre fd.hist
  let hist := if on_ then hist.take 17408 else []
  let (es, bq, nb) := bqChain 64 (eqOf (s.liveWas K.EQ f)) (eqOf (s.liveRec K.EQ f)) fd.bq cs
  let line := (es.reverse ++ fd.line).take (lineKeep on_)
  let bad := s.trimBad f m
  let seen := if bad.isEmpty then line else mapIdxFrom (fun a x => if bad.contains a then 0 else x) 0 line
  let xs := scale16 fd.starve (trimTick seen fd.lineLost m fd.trim fd.trimXf)
  let r := backEnd xs fd
  let lim := if missed then r.fd.lim.hold fd.lim else r.fd.lim
  let out := if missed then List.replicate 16 0 else if fd.missed then scale16 3 r.out else r.out
  let fd' := { r.fd with hist := hist, bq := bq, line := line, lineTick := m, lim := lim, missed := missed,
                         lineTodo := if on_ then fd.lineTodo ++ [m] else [],
                         trimXf := fd.trimXf.map (fun x => (x.1, x.2 + 16)),
                         xf := fd.xf.map (fun x => { x with pos := x.pos + 16 }) }
  { r with out := out, fd := fd', bqClamps := nb, minG := if missed then fd.lim.g else r.minG, sats := if missed then 0 else r.sats,
           wordClamps := if missed then 0 else r.wordClamps }

/-! ## Boundaries of a feed (R164 to R168, R171, R173, R178, R179, R190) -/

/-- Network time (ns) at which render tick m begins (R33). -/
def tickNs (m : Nat) : Nat := (m * 1000000 + 5) / 6

/-- Is a request eligible for the boundary at tick z, latched before `by_`? -/
def SwapReq.elig (r : SwapReq) (z by_ : Nat) : Bool :=
  decide (r.latch ≤ by_) && (match r.time with
    | some t => decide (t * 6 ≤ z * 1000000)
    | none => true)

/-- Pool slots in use (R167). -/
def Mach.poolUsed (s : Mach) : Nat := (s.rend.feeds.filter (fun e => e.2.resv.isSome || e.2.xf.isSome || e.2.linger)).length

/-- Start a cross-fade to slot k with XFCFG as it stands. -/
def Mach.startXf (s : Mach) (f k : Nat) : Mach :=
  let n := s.gf F.FEED_XFCFG_LENLOG f
  let l := s.on F.FEED_XFCFG_CURVE f
  s.onFeed f (fun d => { d with xf := some ⟨k, 0, n, l, s.tm.tick⟩, linger := false, pend := none, resv := none })

/-- BANK_XFADE_END of feed f: the cross-fade has reached its length. -/
def bankXfadeEnd (f : Nat) (s : Mach) : Mach :=
  match (s.feed f).xf with
  | some c =>
    if c.pos < 2 ^ c.lenLog then s
    else (s.onFeed f (fun d => { d with live := c.slot, xf := none, linger := true })).evt F.FEED_CORR_EVT_XF_DONE
  | none => s

/-- The banks of a feed that the engine computes: the live one, and the one fading in, lingering or reserved (R167, R168). -/
def Feed.computed (d : Feed) : List Nat :=
  d.live :: (match d.xf with
    | some c => [c.slot]
    | none => if d.linger then [1 - d.live] else
      match d.resv, d.pend with
      | some _, some r => [r.slot]
      | _, _ => [])

/-- A lingering bank is no longer computed. -/
def Feed.release (d : Feed) : Feed := { d with linger := false, tail := mdel d.tail (1 - d.live) }

/-- A request that needs no cross-fade completes. -/
def Mach.swapDone (s : Mach) (f : Nat) : Mach := (s.onFeed f (fun d => { d with pend := none, resv := none })).bump R.FEED_XF_NOCHANGE

/-- End of a linger at block boundary z: chain, complete or release (R168). -/
def Mach.lingerEnd (s : Mach) (f z : Nat) : Mach :=
  let d := s.feed f
  if !d.linger then s else
    match d.pend with
    | some r =>
      if r.slot != d.live && r.elig z (z - 1) then s.startXf f r.slot
      else if r.slot = d.live && r.elig z (z - 1) then (s.onFeed f Feed.release).swapDone f
      else s.onFeed f Feed.release
    | none => s.onFeed f Feed.release

/-- The bank-store partitions that feed f reads in the block that begins are checked: they make the output of the block after
it (R171, R172, R501, R502). Log 53. -/
def Mach.partsCheck (s : Mach) (f : Nat) : Mach :=
  if s.ddr.bad.isEmpty && s.ddr.weak.isEmpty then s
  else
    let d := s.feed f
    s.each d.computed (fun s k =>
      s.each (upto (d.bank k).nq) (fun s i =>
        let a := s.partAddr f k (i + 1)
        let bad := s.badRange a 4160
        let s := s.checkHits 2 a 4160
        if bad then
          let s := ((s.bump R.FEED_CORR_ECC).evt F.FEED_CORR_EVT_CORR_ECC).raise E.CORR_ECC f (k * 16 + i + 1)
          s.onFeed f (fun d => { d with eccNext := (k, i + 1) :: d.eccNext })
        else s))

/-- Words of the convolution SRAM read with a parity error: feed, slot, word (R172). Log 89. -/
def Mach.convPerr (s : Mach) (l : List (Nat × Nat × Nat)) : Mach :=
  s.each l (fun s e =>
    let s := (s.bump R.FEED_CORR_PERR).evt F.FEED_CORR_EVT_CORR_PERR
    s.onFeed e.1 (fun d => { d with perr := (e.2.1, e.2.2) :: d.perr }))

/-- The block boundary at tick m, before its token (R34): lingers end, reserved cross-fades start, tails return.
Log 101. -/
def Mach.blockBoundary (s : Mach) (m : Nat) : Mach :=
  s.each (s.rend.feeds.map (·.1)) (fun s f =>
    let s := s.lingerEnd f m
    let d := s.feed f
    let s := match d.resv, d.pend with
      | some b, some r =>
        if m / 64 < b then s
        else if !r.elig m (m - 64) then s.onFeed f (fun d => { d with resv := some (m / 64 + 1) })
        else if !(d.bank r.slot).builtin && !(s.rend.dramOk.take 64).any id then
          ((s.onFeed f (fun d => { d with resv := some (m / 64 + 1) })).bump R.FEED_XF_DEFER).evt F.FEED_CORR_EVT_XF_DEFER
        else s.startXf f r.slot
      | _, _ => s
    s.onFeed f (fun d => { d with
      perr := []
      ecc := d.eccNext
      eccNext := []
      tail := d.tail.filterMap (fun e => match e.2 with
        | 1 => some (e.1, 2)
        | 4 => some (e.1, 3)
        | k => some (e.1, k)),
      todo := if s.corrOn then d.todo ++ [m / 64 - 1] else [] }))

/-- Insert a feed into a list ordered by reservation point of first eligibility, then index. Log 97. -/
def Mach.swapQueue (s : Mach) : List Nat :=
  let l := s.rend.feeds.filter (fun e => (e.2.pend.bind (·.first)).isSome && e.2.resv.isNone)
  (sortBy (fun e => ((e.2.pend.bind (·.first)).getD 0)) l).map (·.1)

/-- The reservation point at tick m, for the boundary at m + 64 (R164, R167). Log 101. -/
def Mach.reserve (s : Mach) (m : Nat) : Mach :=
  let s := s.onRend (fun q => { q with feeds := q.feeds.map (fun e => (e.1, match e.2.pend with
    | some r => if r.elig (m + 64) m && r.first.isNone then { e.2 with pend := some { r with first := some m } } else e.2
    | none => e.2)) })
  s.each s.swapQueue (fun s f =>
    let d := s.feed f
    match d.pend with
    | none => s
    | some r =>
      if d.xf.isSome || d.linger then s
      else if r.slot = d.live then s.swapDone f
      else if s.poolUsed < 128 then s.onFeed f (fun d => { d with resv := some (m / 64 + 1) })
      else if r.queued then s
      else ((s.onFeed f (fun d => { d with pend := some { r with queued := true } })).bump R.FEED_XF_QUEUED).evt F.FEED_CORR_EVT_XF_QUEUED)

/-- Tails at the token of tick 64B - 1 (R171, R173): more than 7 ticks of the block without DRAM. Log 97. -/
def Mach.tailCheck (s : Mach) (m : Nat) : Mach :=
  let miss := decide (7 < ((s.rend.dramOk.take 63).filter (fun b => !b)).length)
  let s := s.each (s.rend.feeds.map (·.1)) (fun s f =>
    let d := s.feed f
    s.each (d.computed.filter (fun k => (d.bank k).nq != 0)) (fun s k =>
      if miss then
        let s := (s.bump R.FEED_TAIL_MISS).evt F.FEED_CORR_EVT_TAIL_MISS
        let s := if s.rend.tailSec = some (tickNs m / 1000000000) then s
          else (s.raise E.TAIL_MISS f k).onRend (fun q => { q with tailSec := some (tickNs m / 1000000000) })
        s.onFeed f (fun d => { d with tail := mput d.tail k (if mget 0 d.tail k = 2 then 2 else 1) })
      else if mget 0 d.tail k = 2 then s.onFeed f (fun d => { d with tail := mput d.tail k 4 })
      else s))
  s

/-- A fade-in or fade-out tick of a tail or a starvation is over. -/
def Feed.settleFades (d : Feed) : Feed :=
  { d with tail := d.tail.filter (fun e => e.2 != 3),
           starve := match d.starve with
             | 1 => 2
             | 3 => 0
             | k => k }

/-- Does the feed read the trim prefetch (R179)? -/
def Feed.readsTrim (d : Feed) : Bool :=
  decide (143 < d.trim) || (match d.trimXf with
    | some (o, _) => decide (143 < o)
    | none => false)

/-- Start a trim change, or keep it pending (R178). -/
def Feed.setTrim (d : Feed) (t : Nat) : Feed :=
  match d.trimXf with
  | some _ => { d with trimPend := if t = d.trim then none else some t }
  | none => if t = d.trim then d else { d with trim := t, trimXf := some (d.trim, 0), trimPend := none }

/-- A completed trim cross-fade ends and a pending trim starts. -/
def Feed.trimEnd (d : Feed) : Feed :=
  match d.trimXf with
  | some (_, pos) =>
    if pos < 64 then d
    else
      let d' := { d with trimXf := none, trimPend := none }
      match d.trimPend with
      | some t => d'.setTrim t
      | none => d'
  | none => d

/-- TRIM_XFADE_END of feed f. -/
def trimXfadeEnd (f : Nat) (s : Mach) : Mach := if f < 512 then s.onFeed f Feed.trimEnd else s

/-- LIMITER_PLAN in HOST mode? -/
def Mach.limHost (s : Mach) : Bool := s.hostMode 7
def Mach.limFields (s : Mach) (f : Nat) : LimSet := limSet s.limHost (s.liveRec K.OUTSET f) (s.liveRec K.RATING f)

/-- LA_XFADE_END of feed f. -/
def laXfadeEnd (f : Nat) (s : Mach) : Mach := if f < 512 then s.onFeed f (fun d => { d with lim := d.lim.boundary (s.limFields f) }) else s

/-- Trim starvation at a token (R179). -/
def Mach.trimCheck (s : Mach) : Mach :=
  let whole := (s.rend.dramOk.take 7).any id
  let back := (s.rend.dramOk.headD true)
  s.each (s.rend.feeds.map (·.1)) (fun s f =>
    let d := s.feed f
    if d.starve = 2 then
      if !d.readsTrim || back then s.onFeed f (fun d => { d with starve := 3 }) else s
    else if d.starve = 0 && d.readsTrim && !whole && 7 ≤ s.rend.dramOk.length then
      (((s.onFeed f (fun d => { d with starve := 1 })).bump R.FEED_TRIM_STARVE).evt F.FEED_CORR_EVT_TRIM_STARVE).raise E.TRIM_STARVE f d.trim
    else s)

/-- Write the trim-line ticks that wait in the write stage, or lose those that leave it (R177, R179). Log 95. -/
def Mach.trimWrites (s : Mach) (m : Nat) (ok : Bool) : Mach :=
  if !s.corrOn then s else
  s.each (s.rend.feeds.map (·.1)) (fun s f =>
    let d := s.feed f
    if d.lineTodo.isEmpty then s
    else if ok then
      let go := d.lineTodo.filter (inStage m)
      let s := s.each go (fun s t =>
        let a := 16 * (d.lineTick - t)
        let smp := ((d.line.drop a).take 16).reverse
        s.each ((smp.zip (upto 16))) (fun s p => s.partStore (s.trimAddr f (16 * t + p.2)) (toLE 8 (toU 64 p.1))))
      s.onFeed f (fun d => { d with lineTodo := d.lineTodo.filter (fun t => !inStage m t), lineLost := d.lineLost.filter (fun t => decide (m ≤ t + 1024)) })
    else
      let gone := d.lineTodo.filter (fun t => decide (t + 10 ≤ m))
      s.onFeed f (fun d => { d with lineTodo := d.lineTodo.filter (fun t => !gone.contains t), lineLost := d.lineLost ++ gone }))

/-- SPECTRUM_WRITE_LOST: the spectrum of input block b of feed f was never written (R172). -/
def spectrumWriteLost (f b : Nat) (s : Mach) : Mach :=
  if (s.feed f).todo.contains b then
    s.onFeed f (fun d => { d with todo := d.todo.filter (fun x => x != b), lost := (b :: d.lost).take 32 })
  else s

/-- Spectrum writes: done once DRAM answers within the block after the one they are of, lost at its end (R172). Log 54. -/
def Mach.spectrumWrites (s : Mach) (m : Nat) (ok : Bool) : Mach :=
  s.each (s.rend.feeds.map (·.1)) (fun s f =>
    let d := s.feed f
    if d.todo.isEmpty then s
    else if ok then s.onFeed f (fun d => { d with todo := d.todo.filter (fun b => decide (m ≤ 64 * (b + 1))) })
    else s.each (d.todo.filter (fun b => decide (b + 2 ≤ m / 64))) (fun s b => spectrumWriteLost f b s))

/-! ## Records become live (R175, R183, R192) -/

/-- The trim of the EQ set that a token made live. -/
def Mach.settleEq (s : Mach) (f : Nat) : Mach := s.onFeed f (fun d => d.setTrim (fld (s.liveRec K.EQ f) 320 2 % 2 ^ 14))

/-- Put the limiter fields of feed f in force. -/
def Mach.applyLim (s : Mach) (f : Nat) : Mach :=
  let x := s.limFields f
  s.onFeed f (fun d => { d with lim := d.lim.put x })

/-- Gain and mute of the output set that a token made live in place of set `o`. -/
def Mach.settleOut (s : Mach) (f : Nat) (o : List Byte) : Mach :=
  let b := s.liveRec K.OUTSET f
  let z := fld b 12 2
  let mu (l : List Byte) : Nat := if bitOf (fld l 4 2) 0 then 0 else 1
  let g (l : List Byte) : Nat := fld l 0 4 % 2 ^ 24
  s.onFeed f (fun d => { d with
    gain := if g b = g o then d.gain else d.gain.change (g b) z,
    mute := if mu b = mu o then d.mute else d.mute.change (mu b) z })

/-- A swap request is accepted or latched for feed f (R166). -/
def Mach.swapRequest (s : Mach) (f k : Nat) (time : Option Nat) (latch : Nat) : Mach :=
  let d := s.feed f
  let had := d.pend.isSome
  let keep := match d.pend with
    | some r => r.slot == k
    | none => false
  let s := s.onFeed f (fun d => { d with pend := some ⟨k, time, latch, none, false⟩, resv := if keep then d.resv else none })
  if had then (s.bump R.FEED_XF_REPLACED).evt F.FEED_CORR_EVT_XF_REPLACED else s

/-- ZERO_CROSSING and ZC_TIMEOUT are found sample by sample within the tick (R184, R185): an event row adds nothing to a
tick already rendered, so each acts on a wait that stands at the boundary. -/
def zeroCrossing (f : Nat) (mute : Bool) (s : Mach) : Mach :=
  let go (v : ZcVal) : ZcVal := match v.ramp, v.wait with
    | none, some (n, i, z) => if i < z then { v with cur := n, wait := none } else v
    | _, _ => v
  if f < 512 then s.onFeed f (fun d => if mute then { d with mute := go d.mute } else { d with gain := go d.gain }) else s

/-- ZC_TIMEOUT: the wait has reached ZCTO, so the ramp starts and the timeout is counted. -/
def zcTimeout (f : Nat) (mute : Bool) (s : Mach) : Mach :=
  let d := s.feed f
  let v := if mute then d.mute else d.gain
  match v.ramp, v.wait with
  | none, some (n, i, z) =>
    if z ≤ i then
      let v' := { v with wait := none, ramp := some (v.cur, n, 0) }
      ((s.onFeed f (fun d => if mute then { d with mute := v' } else { d with gain := v' })).bump R.FEED_ZC_TIMEOUT).evt F.FEED_OUT_EVT_ZC_TIMEOUT
    else s
  | _, _ => s

/-- GAIN_RAMP_END: a ramp that has rendered its 64 samples ends and a pending change opens a fresh wait (R186). -/
def gainRampEnd (f : Nat) (mute : Bool) (s : Mach) : Mach :=
  let go (v : ZcVal) : ZcVal := match v.ramp with
    | some (_, n, i) =>
      if 64 ≤ i then { v with cur := n, ramp := none, pend := none, wait := v.pend.bind (fun p => if p.1 = n then none else some (p.1, 0, p.2)) }
      else v
    | none => v
  if f < 512 then s.onFeed f (fun d => if mute then { d with mute := go d.mute } else { d with gain := go d.gain }) else s

/-- OPERATION of a whole feed at the token's boundary: cross-fades that ended, fades over. -/
def Mach.feedBoundary (s : Mach) (f : Nat) : Mach :=
  let s := bankXfadeEnd f s
  let x := s.limFields f
  s.onFeed f (fun d => let e := d.settleFades.trimEnd; { e with lim := e.lim.boundary x })

/-! ## What the registers show of a bank (R180) -/

/-- The room-correction term of R170. -/
def Feed.delayTerm (d : Feed) : Nat :=
  match d.xf with
  | some c => Nat.max (d.bank d.live).delay (d.bank c.slot).delay
  | none => (d.bank d.live).delay

/-- Limiter term of R42: the larger of the two LA values until an LA cross-fade ends (R190). -/
def Lim.term (l : Lim) : Nat := match l.xf with | some (old, _) => Nat.max old l.l | none => l.l

/-- BANK_STAT and XF_POS as a tick boundary finds them (R180): XF_POS counts the samples of the cross-fade already output. -/
def Mach.bankNow (s : Mach) (f : Nat) : Nat × Nat :=
  let d := s.feed f
  let pend := match d.pend with
    | none => 0
    | some r => if d.resv.isSome then 3 else if r.queued then 2 else 1
  (d.live + 2 * d.a.state + 8 * d.b.state + 32 * b2n d.xf.isSome + 64 * b2n d.linger + 128 * pend
    + 512 * ((d.pend.map (·.slot)).getD 0) + 65536 * (d.delayTerm % 16384), ((d.xf.map (·.pos)).getD 0) % 32768)

/-- The boundary at which both change. -/
def Mach.bankShow (s : Mach) : Mach :=
  s.onRend (fun q => { q with bankWas := (q.feeds.map (fun e => (e.1, s.bankNow e.1))).filter (fun e => e.2 != (4, 0)) })

end Sys2Proof.Machine
end

