-- ==== Sys2Proof/Machine/Sink.lean ====
section
/-! DEFINITION. The output mux, its sinks, capture rings and the emergency mute (R195 to R205). -/
namespace Sys2Proof.Machine

def Mach.sink (s : Mach) (i : Nat) : Sink := mget s.rend.sinkRest s.rend.sinks i
def Mach.onSink (s : Mach) (i : Nat) (f : Sink → Sink) : Mach := s.onRend (fun q => { q with sinks := mmod q.sinkRest q.sinks i f })

/-- An OUTSEL value becomes live (R197, R198). -/
def Mach.applyOutsel (s : Mach) (i v : Nat) : Mach :=
  let v := v % 65536
  let s := (s.wr R.FEED_OUTSEL v i).setLv R.FEED_OUTSEL v i
  let r := s.recd K.OUTSEL i
  let s := s.setRec K.OUTSEL i { r with live := toLE 4 v }
  s.onSink i (fun k => { k with route := k.route.request v true })

/-- Apply every staged OUTSEL that differs from its live value. -/
def Mach.commitOut (s : Mach) : Mach :=
  s.each (upto 2624) (fun s i =>
    let v := s.rd R.FEED_OUTSEL i
    if v = s.lv R.FEED_OUTSEL i then s else s.applyOutsel i v)

/-- OUT_COMMIT. -/
def outCommit (v : Nat) (s : Mach) : Mach := s.when (bitOf v 0) (·.askCommit 2)

/-- OUTSEL_WRITE. -/
def outselWrite (i v : Nat) (s : Mach) : Mach :=
  if 2624 ≤ i then s
  else if (s.selBad 1 v).isSome then s.evt F.FEED_OUT_EVT_BAD_SEL
  else s.wr R.FEED_OUTSEL (v % 65536) i

/-! ## Conversion (R195, R196) -/

/-- The egress stream and channel of NOUT n. -/
def Mach.noutOf (s : Mach) (n : Nat) : Option (Nat × StrOut) :=
  s.sout.find? (fun e => e.2.en && decide (e.2.pool ≤ n) && decide (n < e.2.pool + e.2.chans))

/-- Does sink i carry audio (R199)? -/
def Mach.sinkBusy (s : Mach) (i : Nat) : Bool :=
  if i < 2048 then
    let n := i / 32
    s.aspRun n && s.aspOut n && decide (i % 32 < s.aspSlots n) && bitOf (s.rd R.ASP_MASK_LIVE n) (i % 32)
  else if i < 2560 then (s.noutOf (i - 2048)).isSome
  else s.on F.FEED_CAP_CTRL_EN (i - 2560)

/-- Frame rate code of the sink's port or stream. -/
def Mach.sinkRate (s : Mach) (i : Nat) : Nat :=
  if i < 2048 then s.glv F.ASP_CFG_RATE (i / 32)
  else if i < 2560 then ((s.noutOf (i - 2048)).map (fun e => e.2.rate)).getD 4
  else 4

/-- Is the ratio of the sink's rate to the grid exact (R196)? -/
def Mach.sinkExact (s : Mach) (i : Nat) : Bool := if i < 2048 then s.aspMaster (i / 32) && s.aspSync (i / 32) else true

/-- Does the sink run synchronously at 96 kHz (R196)? -/
def Mach.sinkSync (s : Mach) (i : Nat) : Bool := decide (2560 ≤ i) || (s.sinkExact i && s.sinkRate i == 4)

/-- Conversion of a word to `w` data bits (R195). -/
def wordOut (w : Nat) (v : Int) : Int :=
  let c := clampI (-(2 ^ 24)) (2 ^ 24 - 1) v
  match w with
  | 16 => clampI (-(2 ^ 15)) (2 ^ 15 - 1) (rhu 9 c)
  | 24 => clampI (-(2 ^ 23)) (2 ^ 23 - 1) (rhu 1 c)
  | _ => c * 128

/-- Data bits of the sink's word; 0 for a capture channel. -/
def Mach.sinkWord (s : Mach) (i : Nat) : Nat :=
  if i < 2048 then bitsOf (s.glv F.ASP_CFG_WORD (i / 32))
  else if i < 2560 then (if ((s.noutOf (i - 2048)).map (fun e => e.2.l32)).getD false then 32 else 24)
  else 0

/-- Move a converter on by a tick (R196): its state after it and whether it left LOCKED. One whose ratio is not exact
estimates it (`est`) for 32 ticks, settles, and is LOCKED when CONV_LOCKED says so. Log 135. -/
def convStep (exact est up : Bool) (st run : Nat) : Nat × Nat × Bool :=
  if !up then (1, 0, st == 3)
  else match st with
    | 3 => (3, 0, false)
    | 2 => if 3 ≤ run then (3, 0, false) else (2, if exact then run + 1 else Nat.min 2 (run + 1), false)
    | _ => if (exact && decide (1 ≤ run)) || decide (32 ≤ run) then (2, 1, false) else (1, if est then run + 1 else 0, false)

/-- The converter of sink i over one copy. Log 13. -/
def Mach.convert (s : Mach) (i : Nat) (xs : List Int) : Mach :=
  let k := s.sink i
  let w := s.sinkWord i
  if s.sinkSync i then
    s.onSink i (fun k => { k with conv := 0, run := 0, convFade := none, out := if w = 0 then xs else xs.map (wordOut w) })
  else
    let up := if i < 2048 then s.aspRun (i / 32) && !(s.aspSt (i / 32)).glitched else s.sinkBusy i
    let est := s.sinkExact i || !(s.aspSt (i / 32)).rates.isEmpty
    let (st, run, lost) := convStep (s.sinkExact i) est up k.conv k.run
    let s := s.when lost (·.evt F.FEED_OUT_EVT_CONV_UNLOCK)
    let n := rateHz (s.sinkRate i) * 16 / 96000
    if st != 3 then s.onSink i (fun k => { k with conv := st, run := run, convFade := none, out := List.replicate n 0 })
    else
      let fade := if k.conv = 3 then k.convFade else some 0
      let raw := (upto n).map (fun j => Config.convSample (s.free + j))
      let s := { s with free := s.free + n }
      let faded := mapIdxFrom (fun j v => match fade with
        | some p => if p + j < 64 then rhu 6 (v * (p + j : Nat)) else v
        | none => v) 0 raw
      let sat := (faded.filter (fun v => decide (v < -(2 ^ 24) ∨ 2 ^ 24 - 1 < v))).length
      let s := if sat = 0 then s
        else ((s.bump R.FEED_CONV_SAT 0 sat).sf F.FEED_CONV_SAT_LAST_SINK i).evt F.FEED_OUT_EVT_CONV_SAT
      s.onSink i (fun k => { k with conv := 3, run := 0, out := faded.map (wordOut w),
                                    convFade := fade.bind (fun p => if 64 ≤ p + n then none else some (p + n)) })

/-- CONV_LOCKED of sink i: its converter has settled, and fades in from its first samples. -/
def convLocked (i : Nat) (s : Mach) : Mach :=
  if 2560 ≤ i then s else
    let k := s.sink i
    if k.conv = 1 || k.conv = 2 then s.onSink i (fun k => { k with conv := 2, run := 3 }) else s

/-! ## Emergency mute (R201 to R204) -/

/-- Does an ordered reset or a move out of ACTIVE ramp every sink down (R511, R527)? -/
def Mach.rampDown (s : Mach) : Bool :=
  s.sys.ordered.isSome || (match s.sys.move with
    | some v => v.fromActive || decide (3 ≤ v.target)
    | none => false)

/-- Does the emergency mute apply to a sink? -/
def Mach.muteWanted (s : Mach) (k : Sink) : Bool :=
  s.safe || s.rampDown || (s.on F.FEED_HWMUTE_STAT_ACTIVE && k.route.cur.sel != 0
    && bitOf (fld (s.liveRec K.OUTSET (selIdx k.route.cur.sel)) 4 2) 2)

/-- The emergency gain over one copy of a sink (R202, R203). -/
def Sink.emMute (k : Sink) (want : Bool) (xs : List Int) : List Int × Sink :=
  let inF := mapIdxFrom (fun j v => match k.emFade with
    | some p => if p + j < 64 then rhu 6 (v * (p + j : Nat)) else v
    | none => v) 0 xs
  let next := k.emFade.bind (fun p => if 64 ≤ p + 16 then none else some (p + 16))
  if want && k.em = 2 then (xs.map (fun _ => 0), k)
  else if want then (mapIdxFrom (fun j v => rhu 4 (v * (15 - j : Nat))) 0 inF, { k with em := 2, emFade := none })
  else if k.em = 2 then
    (mapIdxFrom (fun j v => rhu 6 (v * (j : Nat))) 0 xs, { k with em := 0, emFade := some 16 })
  else (inF, { k with emFade := next })

/-- MUTE_N_LOW: a low level qualifies. -/
def muteNLow (s : Mach) : Mach :=
  let s := s.onRend (fun q => { q with pinLow := true })
  if !s.on F.FEED_HWMUTE_CFG_EN || s.on F.FEED_HWMUTE_STAT_PIN then s
  else ((s.sf F.FEED_HWMUTE_STAT_PIN 1).sf F.FEED_HWMUTE_STAT_ACTIVE 1).evt F.FEED_OUT_EVT_MUTE_IN

/-- The MUTE_N mute ends. -/
def Mach.muteFree (s : Mach) : Mach :=
  ((s.sf F.FEED_HWMUTE_STAT_ACTIVE 0).sf F.FEED_HWMUTE_STAT_LATCHED 0).evt F.FEED_OUT_EVT_MUTE_REL

/-- MUTE_N_RELEASE: a high level qualifies. -/
def muteNRelease (s : Mach) : Mach :=
  let s := s.onRend (fun q => { q with pinLow := false })
  if s.safe || !s.on F.FEED_HWMUTE_CFG_EN || !s.on F.FEED_HWMUTE_STAT_PIN then s
  else
    let s := s.sf F.FEED_HWMUTE_STAT_PIN 0
    if s.on F.FEED_HWMUTE_CFG_LATCH then s.sf F.FEED_HWMUTE_STAT_LATCHED 1 else s.muteFree

/-- HWMUTE_CLR_WRITE. -/
def hwmuteClrWrite (v : Nat) (s : Mach) : Mach :=
  if bitOf v 0 && s.on F.FEED_HWMUTE_STAT_LATCHED && !s.rend.pinLow && !s.safe then s.muteFree else s

/-- HWMUTE_CFG_WRITE. -/
def hwmuteCfgWrite (v : Nat) (s : Mach) : Mach :=
  let v := v &&& 0x303FF
  if 1000 < bits v 0 10 then s
  else
    let inForce := s.on F.FEED_HWMUTE_STAT_ACTIVE
    let was := s.on F.FEED_HWMUTE_CFG_EN
    let s := s.wr R.FEED_HWMUTE_CFG v
    if was && !bitOf v 17 then
      let s := s.sf F.FEED_HWMUTE_STAT_PIN 0
      if inForce then s.muteFree else s
    else s

/-! ## Capture (R200) -/

def Mach.capBase (s : Mach) (c : Nat) : Nat := s.gf F.FEED_CAP_BASE_LO_ADDR c * 64 + 2 ^ 32 * s.gf F.FEED_CAP_BASE_HI_ADDR c

/-- A capture channel takes a tick. -/
def Mach.capture (s : Mach) (c tick : Nat) (ws : List Int) : Mach :=
  if !s.on F.FEED_CAP_CTRL_EN c then s else
    let size := s.gf F.FEED_CAP_SIZE_BYTES c
    let w := s.rd R.FEED_CAP_WR c
    let used := (w + size - s.rd R.FEED_CAP_RD c) % size
    if used + 128 ≤ size then
      let s := s.partStore (s.capBase c + w) ((ws.map (fun v => toLE 4 (toU 32 v))).flatten)
      let s := s.wr R.FEED_CAP_WR ((w + 64) % size) c
      if s.rend.capArm.contains c then
        (s.wr64 R.FEED_CAP_T0_LO R.FEED_CAP_T0_HI tick c).onRend (fun q => { q with capArm := q.capArm.filter (fun x => x != c) })
      else s
    else (s.bump R.FEED_CAP_OVERRUN c).evt F.FEED_OUT_EVT_CAP_OVERRUN

/-- CAP_CTRL_WRITE: setting EN sets WR to RD and arms T0. -/
def capCtrlWrite (c v : Nat) (s : Mach) : Mach :=
  if 64 ≤ c then s else
    let was := s.on F.FEED_CAP_CTRL_EN c
    let s := s.wr R.FEED_CAP_CTRL (v % 2) c
    if bitOf v 0 && !was then
      (s.wr R.FEED_CAP_WR (s.rd R.FEED_CAP_RD c) c).onRend (fun q => { q with capArm := c :: q.capArm.filter (fun x => x != c) })
    else s

/-! ## The hand-off copy (R197, R198) -/

/-- Words of a selector in the hand-off buffers. -/
def handWords (hand : SMap (List Int)) (sel : Nat) : List Int :=
  if selKind sel = 8 then mget (List.replicate 16 0) hand (selIdx sel) else List.replicate 16 0

/-- Copy the hand-off buffers of tick `t` into every sink with a selection. -/
def Mach.copySinks (s : Mach) (t : Nat) (hand : SMap (List Int)) : Mach :=
  s.each (s.rend.sinks.map (·.1)) (fun s i =>
    let k := s.sink i
    let r := k.route.boundary
    let words (sd : Side) : List (Option Int) := (handWords hand sd.sel).map some
    let (xs, r) := r.tick ((r.old.map words).getD []) (words r.cur)
    let s := s.onSink i (fun k => { k with route := r })
    if 2560 ≤ i then (s.capture (i - 2560) t xs).onSink i (fun k => { k with out := xs })
    else
      let (ys, k') := (s.sink i).emMute (s.muteWanted (s.sink i)) xs
      let s := (s.onSink i (fun _ => k')).convert i ys
      if s.sinkBusy i then s else s.onSink i (fun k => { k with out := k.out.map (fun _ => 0) }))

/-- The copy as the sinks without an entry see it: zeros, under the emergency gain. -/
def Mach.copyRest (s : Mach) : Mach :=
  s.onRend (fun q => { q with sinkRest := (q.sinkRest.emMute (s.muteWanted q.sinkRest) (List.replicate 16 0)).2 })

/-- Give every running egress stream the rows of the copy made at token k; in QUIET they send nothing (R526). -/
def Mach.feedEgress (s : Mach) (k : Nat) : Mach :=
  s.each s.sout (fun s e =>
    if !e.2.en || s.power == 2 then s else
      let cols := (upto e.2.chans).map (fun c => (s.sink (2048 + e.2.pool + c)).out)
      let step := if e.2.rate = 4 then 1 else 2
      s.each (upto (16 / step)) (fun s j =>
        s.egressPut e.1 (16 * (k + 1) + j * step) (cols.map (fun c => c.getD j 0))))

/-- Sinks that run whatever they select have an entry: an enabled capture channel takes silence, and a running slot or
channel with a converter acquires (R196, R199, R200). -/
def Mach.touchSinks (s : Mach) : Mach :=
  let s := s.each (upto 64) (fun s c => if s.on F.FEED_CAP_CTRL_EN c then s.onSink (2560 + c) id else s)
  let s := s.each (s.asp.map (·.1)) (fun s n =>
    if !s.aspRun n || !s.aspOut n || s.sinkSync (32 * n) then s
    else s.each (upto (s.aspSlots n)) (fun s k => if s.sinkBusy (32 * n + k) then s.onSink (32 * n + k) id else s))
  s.each s.sout (fun s e => if !e.2.en || e.2.rate = 4 then s
    else s.each (upto e.2.chans) (fun s c => s.onSink (2048 + e.2.pool + c) id))

/-! ## Loss of lock (R61, R196, R398) -/

/-- The converters of sinks whose port or stream has stopped leave LOCKED at once. -/
def Mach.convWatch (s : Mach) : Mach :=
  let up (i : Nat) : Bool := if i < 2048 then s.aspRun (i / 32) && !(s.aspSt (i / 32)).glitched else s.sinkBusy i
  let hit := s.rend.sinks.filter (fun e => decide (e.1 < 2560) && decide (2 ≤ e.2.conv) && !up e.1)
  (s.each hit (fun s e => s.onSink e.1 (fun k => { k with conv := 1, run := 0, convFade := none }))).when
    (hit.any (fun e => e.2.conv == 3)) (·.evt F.FEED_OUT_EVT_CONV_UNLOCK)

/-- The converters of every port and stream that has stopped lose lock at once. -/
def Mach.lockWatch (s : Mach) : Mach := s.asrcWatch.convWatch

end Sys2Proof.Machine
end

