-- ==== Sys2Proof/Machine/Meas.lean ====
section
/-! DEFINITION. The measurement chain (R206 to R224). -/
namespace Sys2Proof.Machine

def Mach.meas (s : Mach) (c : Nat) : MeasCh := mget MeasCh.init s.rend.meas c
def Mach.onMeas (s : Mach) (c : Nat) (f : MeasCh → MeasCh) : Mach :=
  s.onRend (fun q => { q with meas := mmod MeasCh.init q.meas c f })

/-! ## Values a staged field refuses (R207, R214, R224) -/

/-- The six staged registers of a channel, in the order of their offsets. -/
def measRegs : List Reg :=
  [R.MEAS_CH_CFG, R.MEAS_CH_LVL_CFG, R.MEAS_CH_ANA_CFG, R.MEAS_CH_ANA_N, R.MEAS_CH_RES_BASE_LO, R.MEAS_CH_RES_BASE_HI]

/-- Is a value of the k-th staged register accepted? Log 84. -/
def Mach.measOk (s : Mach) (k v : Nat) : Bool :=
  match k with
  | 0 => (s.selBad 2 (bits v 0 16)).isNone && decide (bits v 16 3 ≤ 4)
  | 1 => let p := bits v 0 4; let n := bits v 4 4; let r := bits v 8 4
         decide (4 ≤ p) && decide (p ≤ 12) && n % 2 == 1 && decide (n ≤ 9) && decide (1 ≤ r) && decide (r ≤ n)
  | 2 => decide (bits v 19 4 ≤ 10)
  | 3 => bits v 0 16 != 0 && bits v 16 8 != 0
  | _ => true

def Mach.resBase (s : Mach) (c : Nat) : Nat :=
  s.glv F.MEAS_CH_RES_BASE_LO_ADDR c * 256 + 2 ^ 32 * s.glv F.MEAS_CH_RES_BASE_HI_ADDR c

/-! ## Restarts (R211, R220) -/

/-- The analysis of channel c restarts at decimated index m. Log 102. -/
def Mach.anaRestart (s : Mach) (c m : Nat) : Mach :=
  let s := s.onMeas c (fun q =>
    { q with ana0 := m, frames := 0, inS := 0, sxx := [], syy := [], sre := [], sim := [], starts := [], abs_ := false,
             refAbs := false })
  (s.wr R.MEAS_CH_FRAMES 0 c).onRend (fun q => { q with anaHit := c :: q.anaHit.filter (fun x => x != c) })

/-- The restarts of a token are counted, one for each channel that is on and has an analysis to restart, whatever restarted it
(R207, R220). -/
def Mach.anaCount (s : Mach) : Mach :=
  let s' := s.each s.rend.anaHit (fun s c =>
    s.when (s.glv F.MEAS_CH_CFG_TAP c != 0 && (s.on F.MEAS_CH_STAT_ANA_RUN c || s.glv F.MEAS_CH_ANA_CFG_ANA_EN c = 1))
      (fun s => (s.bump R.MEAS_ANA_RESTART).evt F.MEAS_EVT_RESTART))
  s'.onRend (fun q => { q with anaHit := [] })

/-- The level path of channel c restarts at decimated index m. -/
def Mach.lvlRestart (s : Mach) (c m : Nat) : Mach :=
  (s.sf F.MEAS_CH_STAT_LVL_VALID 0 c).onMeas c (fun q => { q with lvl0 := m, acc := 0, peak := 0, cnt := 0, qs := [], ks := [] })

/-- Do the samples of channel c go to its stream (R216, R222)? -/
def Mach.streams (s : Mach) (c : Nat) : Bool := s.hostMode 3 && s.on F.MEAS_CH_STR_CTRL_EN c

def Mach.strBase (s : Mach) (c : Nat) : Nat := s.gf F.MEAS_CH_STR_BASE_LO_ADDR c * 256 + 2 ^ 32 * s.gf F.MEAS_CH_STR_BASE_HI_ADDR c

/-- A binary32 value as its 32-bit word; NaN does not occur. -/
def f32Bits (q : Rat) : Nat :=
  if q = 0 then 0 else
    let a := absQ q
    let sgn : Nat := if q < 0 then 2 ^ 31 else 0
    let e := ilog2 a
    if 128 ≤ e then sgn + 0x7F800000
    else if e < -126 then sgn + (a / pow2 (-149)).floor.toNat
    else sgn + (e + 127).toNat * 2 ^ 23 + ((a / pow2 (e - 23)).floor.toNat - 2 ^ 23)

/-- Write the unit being filled (R222, R223). -/
def Mach.unitOut (s : Mach) (c : Nat) (last : Bool) : Mach :=
  let q := s.meas c
  if q.unit.isEmpty then s else
    let size := s.gf F.MEAS_CH_STR_SIZE_BYTES c
    let w := s.rd R.MEAS_CH_STR_WR c
    let used := (w + size - s.rd R.MEAS_CH_STR_RD c % size) % size
    let clear (q : MeasCh) : MeasCh := { q with unit := [] }
    if used + 512 ≤ size then
      let flags := b2n (q.unit0 == q.m0) + 2 * b2n q.gapFlag + 4 * b2n (q.unit.any (·.2)) + 8 * b2n last + 16 * b2n q.segFlag
      let b := toLE 2 0x4D53 ++ toLE 1 c ++ toLE 1 flags ++ toLE 2 q.unit.length ++ toLE 1 (s.glv F.MEAS_CH_CFG_DLOG c) ++ toLE 1 0
        ++ toLE 8 q.unit0 ++ padTo 240 ((q.unit.map (fun y => toLE 4 (f32Bits y.1))).flatten)
      ((s.partStore (s.strBase c + w) b).wr R.MEAS_CH_STR_WR ((w + 256) % size) c).onMeas c
        (fun q => { clear q with gapFlag := false, segFlag := false })
    else
      ((s.bump R.MEAS_STREAM_OVERRUN).evt F.MEAS_EVT_OVERRUN).onMeas c (fun q => { clear q with gapFlag := true })

/-- Channel c restarts from input index b with its samples suppressed: a change of TAP or DLOG, or a grid step. -/
def Mach.tapRestart (s : Mach) (c b : Nat) : Mach :=
  let d := 2 ^ s.glv F.MEAS_CH_CFG_DLOG c
  let s := s.onMeas c (fun q => { q with start := b, next := b, hist := [], suppress := true, settled := false, ys := [], top := 0, unit := [] })
  let s := s.sf F.MEAS_CH_STAT_SETTLED 0 c
  (s.lvlRestart c (b / d)).anaRestart c (b / d)

/-- Every analysis whose reference is channel r restarts (R220). -/
def Mach.refRestart (s : Mach) (r b : Nat) : Mach :=
  s.each (upto 32) (fun s c =>
    if c != r && s.glv F.MEAS_CH_ANA_CFG_ANA_EN c = 1 && s.glv F.MEAS_CH_ANA_CFG_REFCH c = r then
      s.anaRestart c (b / 2 ^ s.glv F.MEAS_CH_CFG_DLOG c)
    else s)

/-! ## Fields that become live (R208, R211, R216) -/

/-- Values of the staged registers of channel c become live at the token of tick k. Log 103. -/
def Mach.applyMeas (s : Mach) (c k : Nat) (vals : List Nat) : Mach :=
  let b := 16 * k
  let v (i : Nat) : Nat := vals.getD i 0
  let refuse := s.hostMode 3 && bitOf (v 2) 23 && s.glv F.MEAS_CH_ANA_CFG_ANA_EN c = 0
  let s := s.when refuse (·.evt F.MEAS_EVT_REFUSED)
  let v2 := if refuse then putBits (v 2) 23 1 0 else v 2
  let tap := v 0 != s.lv R.MEAS_CH_CFG c
  let lvl := v 1 != s.lv R.MEAS_CH_LVL_CFG c
  let ana := v2 != s.lv R.MEAS_CH_ANA_CFG c || v 3 != s.lv R.MEAS_CH_ANA_N c || v 4 != s.lv R.MEAS_CH_RES_BASE_LO c
    || v 5 != s.lv R.MEAS_CH_RES_BASE_HI c
  let fresh := bitOf v2 23 && s.glv F.MEAS_CH_ANA_CFG_ANA_EN c = 0
  -- a restart that suppresses samples ends the stream segment under the old fields
  let s := s.when (tap && s.streams c) (·.unitOut c true)
  let s := s.each (measRegs.zip [v 0, v 1, v2, v 3, v 4, v 5]) (fun s p => s.setLv p.1 p.2 c)
  let s := s.when fresh (fun s => (s.wr R.MEAS_CH_RES_SEQ 0 c).onMeas c (fun q => { q with results := 0 }))
  let m := b / 2 ^ s.glv F.MEAS_CH_CFG_DLOG c
  if tap then (s.tapRestart c b).refRestart c b
  else
    let s := s.when lvl (·.lvlRestart c m)
    s.when ana (fun s => (s.onMeas c (fun q => { q with frames := 0 })).anaRestart c m)

/-- MEAS.COMMIT at the token of tick k. -/
def Mach.commitMeas (s : Mach) (k : Nat) : Mach :=
  s.each (upto 32) (fun s c =>
    if measRegs.all (fun r => s.rd r c == s.lv r c) then s else s.applyMeas c k (measRegs.map (fun r => s.rd r c)))

/-- MEAS_COMMIT. -/
def measCommit (v : Nat) (s : Mach) : Mach := s.when (bitOf v 0) (·.askCommit 4)

/-- MEAS_RESTART at the token of tick k: 1 all, 2 level, 4 analysis (R357). -/
def Mach.restartMeas (s : Mach) (c k what : Nat) : Mach :=
  if s.glv F.MEAS_CH_CFG_TAP c = 0 then s else
    let b := 16 * k
    let m := b / 2 ^ s.glv F.MEAS_CH_CFG_DLOG c
    if bitOf what 0 then ((s.when (s.streams c) (·.unitOut c true)).tapRestart c b).refRestart c b
    else
      let s := s.when (bitOf what 1) (·.lvlRestart c m)
      s.when (bitOf what 2) (·.anaRestart c m)

/-- A grid step: every channel that is on restarts from the first tick issued after it (R211). -/
def Mach.measGridStep (s : Mach) (k : Nat) : Mach := s.each (upto 32) (fun s c => s.restartMeas c k 1)

/-- MEAS_STR_CTRL_WRITE. -/
def measStrCtrlWrite (c v : Nat) (s : Mach) : Mach :=
  if 32 ≤ c then s else
    let was := s.on F.MEAS_CH_STR_CTRL_EN c
    if bitOf v 0 && !s.hostMode 3 then s.evt F.MEAS_EVT_REFUSED
    else
      let s := s.wr R.MEAS_CH_STR_CTRL (v % 2) c
      if bitOf v 0 && !was then
        (s.wr R.MEAS_CH_STR_WR (s.rd R.MEAS_CH_STR_RD c) c).onMeas c (fun q => { q with segFlag := true, gapFlag := false, unit := [] })
      else if !bitOf v 0 then s.onMeas c (fun q => { q with unit := [] })
      else s

/-! ## One tick of taps (R209 to R215) -/

/-- The tap samples of channel c in the last rendered tick, with absent marks (R208). -/
def Mach.tapOf (s : Mach) (sel : Nat) : List (Int × Bool) :=
  let z : List Int := List.replicate 16 0
  match selKind sel with
  | 9 => mget (List.replicate 16 (0, false)) s.rend.tapIn (selIdx sel)
  | 10 => mget (List.replicate 16 (0, false)) s.rend.tapIn (512 + selIdx sel)
  | 11 => (mget z s.rend.tapPre (selIdx sel)).map (fun v => (v, false))
  | 12 => match s.rend.hand with
    | some (_, h) => (mget z h (selIdx sel)).map (fun v => (v, false))
    | none => z.map (fun v => (v, false))
  | _ => z.map (fun v => (v, false))

/-- The decimation filter of factor 2^dlog, in 22 fraction bits: symmetric, of 24-bit coefficients and of sum 2^22 (R209). The
first half of it is free as far as the middle tap fits. Log 16. -/
def decTaps (dlog : Nat) : List Int :=
  let n := 16 * 2 ^ dlog
  let half := (upto n).map (fun k => clampS 24 (Config.decCoef dlog k))
  let mid := 2 ^ 22 - 2 * half.foldl (· + ·) 0
  if clampS 24 mid = mid then half ++ mid :: half.reverse else List.replicate n 0 ++ 2 ^ 22 :: List.replicate n 0

/-- Decimated sample from a history, newest first (R209, R210). Log 16. -/
def decimate (dlog : Nat) (hist : List (Int × Bool)) : Rat × Bool :=
  if dlog = 0 then
    let x := hist.headD (0, false)
    (rnd32 ((x.1 : Rat) / 2 ^ 24), x.2)
  else
    let w := hist.take (32 * 2 ^ dlog + 1)
    let sum := ((decTaps dlog).zip w).foldl (fun (acc : Int) x => acc + x.1 * x.2.1) 0
    (rnd32 ((sum : Rat) / 2 ^ 46), w.any (·.2))

/-- Rank filter of R214. -/
def insertRat (x : Rat) : List Rat → List Rat
  | [] => [x]
  | y :: r => if x ≤ y then x :: y :: r else y :: insertRat x r
def rankFilter (v : List Rat) (rank : Nat) : Rat := (v.foldl (fun a x => insertRat x a) []).getD (rank - 1) 0

/-- A level in 0.01 dB, limited below (R215). -/
def levelCode (mul : Nat) (q : Rat) : Int := if q ≤ 0 then -20000 else max (-20000) (rhaQ ((mul : Rat) * log10Q q))

/-- The level path takes settled sample y at index m (R213, R214). -/
def Mach.levelTake (s : Mach) (c m : Nat) (y : Rat) : Mach :=
  let p := 2 ^ s.glv F.MEAS_CH_LVL_CFG_PLOG c
  let q := s.meas c
  if m - m % p < q.lvl0 || m - m % p < q.m0 then s else
    let a0 := if m % p = 0 then 0 else q.acc
    let k0 := if m % p = 0 then 0 else q.peak
    let acc := rnd64 (a0 + rnd64 (y * y))
    let peak := if k0 < absQ y then absQ y else k0
    if m % p + 1 < p then s.onMeas c (fun q => { q with acc := acc, peak := peak })
    else
      let k := s.glv F.MEAS_CH_LVL_CFG_K c
      let qs := (rnd64 (acc / (p : Rat)) :: q.qs).take k
      let ks := (peak :: q.ks).take k
      let s := s.onMeas c (fun q => { q with acc := 0, peak := 0, qs := qs, ks := ks })
      if qs.length < k then s
      else
        let rank := s.glv F.MEAS_CH_LVL_CFG_RANK c
        let rms := levelCode 1000 (rankFilter qs rank)
        let pk := levelCode 2000 (rankFilter ks rank)
        (s.wr R.MEAS_CH_LVL (toU 16 rms + 65536 * toU 16 pk) c).sf F.MEAS_CH_STAT_LVL_VALID 1 c

/-- The stream takes settled sample y at index m (R223). -/
def Mach.streamTake (s : Mach) (c m : Nat) (y : Rat × Bool) : Mach :=
  if !s.streams c then s else
    let s := s.onMeas c (fun q => { q with unit0 := if q.unit.isEmpty then m else q.unit0, unit := q.unit ++ [y] })
    if 60 ≤ (s.meas c).unit.length then s.unitOut c false else s

/-- Input sample at index n of channel c. -/
def Mach.measIn (s : Mach) (c n : Nat) (x : Int × Bool) : Mach :=
  let q := s.meas c
  if n < q.start then s else
    let s := s.onMeas c (fun q => { q with next := n + 1 })
    let dlog := s.glv F.MEAS_CH_CFG_DLOG c
    let d := 2 ^ dlog
    let hist := (x :: q.hist).take 513
    let s := s.onMeas c (fun q => { q with hist := hist })
    if n % d != 0 then s else
      let m := n / d
      if q.suppress && d != 1 && m < q.start / d + 32 then s
      else
        let y := decimate dlog hist
        let s := if !q.settled then
            let s := s.onMeas c (fun q => { q with settled := true, suppress := false, m0 := m })
            let s := (s.sf F.MEAS_CH_STAT_SETTLED 1 c).evt F.MEAS_EVT_SETTLED
            s.wr64 R.MEAS_CH_FIRST_LO R.MEAS_CH_FIRST_HI m c
          else s
        let s := s.onMeas c (fun q => { q with ys := (y :: q.ys).take 16384, top := m })
        (s.levelTake c m y.1).streamTake c m y

/-! ## Cross-spectra (R216 to R221) -/

/-- Does anything prevent the analysis of channel c (R217)? -/
def Mach.refMismatch (s : Mach) (c : Nat) : Bool :=
  let r := s.glv F.MEAS_CH_ANA_CFG_REFCH c
  s.glv F.MEAS_CH_CFG_DLOG c != s.glv F.MEAS_CH_CFG_DLOG r || s.glv F.MEAS_CH_CFG_TAP c = 0 || s.glv F.MEAS_CH_CFG_TAP r = 0

/-- Settled samples m to m + n - 1 of a channel, oldest first; none if one of them is not there. Log 102. -/
def MeasCh.window (q : MeasCh) (m n : Nat) : Option (List (Rat × Bool)) :=
  if !q.settled || m < q.m0 || q.top + 1 < m + n then none
  else
    let l := (q.ys.drop (q.top + 1 - (m + n))).take n
    if l.length = n then some l.reverse else none

/-- Hann window and one bin of its transform (R218). -/
def hannBin (y : List (Rat × Bool)) (k : Nat) : Rat × Rat :=
  let r := y.foldl (fun (acc : Rat × Rat × Nat) v =>
    let i := acc.2.2
    let w := (1 - cosQ (2 * piQ * (i : Rat) / 4096)) / 2
    let a := 2 * piQ * ((k * i % 4096 : Nat) : Rat) / 4096
    (acc.1 + w * v.1 * cosQ a, acc.2.1 - w * v.1 * sinQ a, i + 1)) (0, 0, 0)
  (r.1, r.2.1)

/-- One average moves on: S + (P - S)/n, with the binary32 rounding free. Log 17. -/
def avgStep (old : List Rat) (n : Nat) (p : Nat → Rat) (free : Nat) : List Rat :=
  (upto 2049).map (fun k => let o := if n = 1 then 0 else old.getD k 0; rnd32 (o + (p k - o) / (n : Rat)) + Config.anaResidue (free + k))

/-- Admit the frame that starts at f if both windows are settled (R218), and complete an average (R219). Log 17, 102. -/
def Mach.anaFrame (s : Mach) (c f t : Nat) : Mach :=
  let q := s.meas c
  let al := s.glv F.MEAS_CH_ANA_CFG_ALIGN c
  let rq := s.meas (s.glv F.MEAS_CH_ANA_CFG_REFCH c)
  if f < q.ana0 || f < al then s else
  match q.window f 4096, rq.window (f - al) 4096 with
  | some ym, some yr =>
    let exp := s.glv F.MEAS_CH_ANA_CFG_AVG c = 1
    let inS := if exp then Nat.min (q.frames + 1) (2 ^ s.glv F.MEAS_CH_ANA_CFG_EXPK c) else q.inS + 1
    let y (k : Nat) := hannBin ym k
    let x (k : Nat) := hannBin yr k
    let sxx := avgStep q.sxx inS (fun k => (x k).1 * (x k).1 + (x k).2 * (x k).2) s.free
    let syy := avgStep q.syy inS (fun k => (y k).1 * (y k).1 + (y k).2 * (y k).2) (s.free + 2049)
    let sre := avgStep q.sre inS (fun k => (x k).1 * (y k).1 + (x k).2 * (y k).2) (s.free + 4098)
    let sim := avgStep q.sim inS (fun k => (x k).1 * (y k).2 - (x k).2 * (y k).1) (s.free + 6147)
    let s := { s with free := s.free + 8196 }
    let starts := (f :: q.starts).take inS
    let ab := q.abs_ || ym.any (·.2)
    let rab := q.refAbs || yr.any (·.2)
    let frames := q.frames + 1
    let s := s.wr R.MEAS_CH_FRAMES (Nat.min (2 ^ 32 - 1) frames) c
    let done := if exp then frames % s.glv F.MEAS_CH_ANA_N_UPDATE c == 0 else inS == s.glv F.MEAS_CH_ANA_N_NAVG c
    let s := s.onMeas c (fun q => { q with frames := frames, inS := inS, sxx := sxx, syy := syy, sre := sre, sim := sim,
                                           starts := starts, abs_ := ab, refAbs := rab })
    if !done then s
    else
      let head := toLE 2 0x4D58 ++ toLE 2 1 ++ toLE 1 c ++ toLE 1 (s.glv F.MEAS_CH_ANA_CFG_REFCH c)
        ++ toLE 1 (s.glv F.MEAS_CH_CFG_DLOG c) ++ toLE 1 (b2n exp + 2 * b2n ab + 4 * b2n rab) ++ toLE 4 inS ++ toLE 4 al
        ++ toLE 8 (starts.getLastD f) ++ toLE 8 (f + 4095)
      let bins := ((upto 2049).map (fun k => toLE 4 (f32Bits (sxx.getD k 0)) ++ toLE 4 (f32Bits (syy.getD k 0))
        ++ toLE 4 (f32Bits (sre.getD k 0)) ++ toLE 4 (f32Bits (sim.getD k 0)))).flatten
      s.onMeas c (fun q =>
        let q := { q with pend := some (head ++ toLE 4 0 ++ List.replicate 28 0 ++ bins, t) }
        if exp then q else { q with inS := 0, sxx := [], syy := [], sre := [], sim := [], starts := [], abs_ := false, refAbs := false })
  | _, _ => s

/-- Does channel c take frames: the analysis is on in HW mode, and ONESHOT has not ended it? -/
def Mach.anaOn (s : Mach) (c : Nat) : Bool :=
  s.glv F.MEAS_CH_ANA_CFG_ANA_EN c = 1 && !s.hostMode 3
    && !(s.glv F.MEAS_CH_ANA_CFG_ONESHOT c = 1 && s.glv F.MEAS_CH_ANA_CFG_AVG c = 0
      && decide (s.glv F.MEAS_CH_ANA_N_NAVG c ≤ (s.meas c).frames))

/-- MEAS_RESULT_WRITE: a completed average is written, SEQ last (R221). -/
def measResultWrite (c : Nat) (s : Mach) : Mach :=
  if 32 ≤ c then s else
    match (s.meas c).pend with
    | none => s
    | some (b, _) =>
      let n := (s.meas c).results
      let a := s.resBase c + n % 2 * 0x8100
      let s := (s.partStore a b).partStore (a + 32) (toLE 4 n)
      let s := s.onMeas c (fun q => { q with pend := none, results := n + 1 })
      (s.wr R.MEAS_CH_RES_SEQ (Nat.min (2 ^ 32 - 1) (n + 1)) c).evt F.MEAS_EVT_RESULT

/-- The taps of render tick t reach the chain. A channel that ticks have passed by (R528, R581) restarts at it as at a grid step.
Log 149. -/
def Mach.measTick (s : Mach) (t : Nat) : Mach :=
  let live := (upto 32).filter (fun c => s.glv F.MEAS_CH_CFG_TAP c != 0)
  let s := s.each (upto 32) (fun s c => s.when (s.glv F.MEAS_CH_CFG_TAP c = 0) (·.sf F.MEAS_CH_STAT_ABSENT 0 c))
  let s := s.each live (fun s c => s.when (decide ((s.meas c).next < 16 * t)) (·.restartMeas c t 1))
  let s := s.each live (fun s c =>
    let xs := s.tapOf (s.glv F.MEAS_CH_CFG_TAP c)
    let s := s.sf F.MEAS_CH_STAT_ABSENT (b2n (xs.any (·.2))) c
    s.each (xs.zip (upto 16)) (fun s p => s.measIn c (16 * t + p.2) p.1))
  let s := s.each (upto 32) (fun s c =>
    if s.glv F.MEAS_CH_ANA_CFG_ANA_EN c = 0 then (s.sf F.MEAS_CH_STAT_REF_MISMATCH 0 c).sf F.MEAS_CH_STAT_ANA_RUN 0 c
    else
      let bad := s.refMismatch c
      let s := s.sf F.MEAS_CH_STAT_REF_MISMATCH (b2n bad) c
      if bad || !s.anaOn c then s.sf F.MEAS_CH_STAT_ANA_RUN 0 c
      else
        let d := 2 ^ s.glv F.MEAS_CH_CFG_DLOG c
        let n := 16 / d
        let s := s.each (upto n) (fun s i =>
          let m := 16 * t / d + i
          if m % 2048 = 2047 && 4095 ≤ m && s.anaOn c then s.anaFrame c (m - 4095) t else s)
        s.sf F.MEAS_CH_STAT_ANA_RUN (b2n (s.anaOn c)) c)
  s.each (upto 32) (fun s c => s.sf F.MEAS_CH_STAT_STREAMING (b2n (s.streams c && (s.meas c).settled)) c)

/-- Results that have waited six ticks at the token of tick k are written (R221). -/
def Mach.measOverdue (s : Mach) (k : Nat) : Mach :=
  s.each (upto 32) (fun s c => match (s.meas c).pend with
    | some (_, t) => if t + 7 ≤ k then measResultWrite c s else s
    | none => s)

/-- Is the measurement block idle (R216)? -/
def Mach.measIdle (s : Mach) : Bool :=
  (upto 32).all (fun c => s.glv F.MEAS_CH_ANA_CFG_ANA_EN c = 0 && !s.on F.MEAS_CH_STR_CTRL_EN c)

end Sys2Proof.Machine
end

