-- ==== Sys2Proof/Machine/Render.lean ====
section
/-! DEFINITION. One render tick through the fabric: front ends, Sward, paths, direct matrix, feeds, and what is counted
at its end (R25, R26, R63, R70, R71, R111, R129, R194, R231 to R235). -/
namespace Sys2Proof.Machine

/-! ## Direct matrix (R70, R71) -/

/-- Signed gain of column f of a row. -/
def matGain (row : List Byte) (f : Nat) : Int := let w := fld row (4 * f) 4; sgain (w % 2 ^ 24) (bitOf w 31)

/-- Contribution of direct channel d to feed f over a tick. -/
def Mach.directTo (s : Mach) (d f : Nat) (xs : List Int) : List Int :=
  let o := matGain (s.liveWas K.MATRIX d) f
  let n := matGain (s.liveRec K.MATRIX d) f
  if o = n then xs.map (fun x => rhu 20 (x * n)) else mapIdxFrom (fun i x => rhu 24 (x * ramp24 o n i)) 0 xs

/-- Feeds that a row reaches, before or after the running tick's token. -/
def Mach.rowFeeds (s : Mach) (d : Nat) : List Nat :=
  let a := s.liveWas K.MATRIX d
  let b := s.liveRec K.MATRIX d
  (upto s.variant.feeds).filter (fun f => fld a (4 * f) 4 != 0 || fld b (4 * f) 4 != 0)

/-- Add the direct channels to the feed sums, DIR0 to DIR127 in order. -/
def Mach.addDirect (s : Mach) (outs : SMap (List Int)) (acc : SMap (List Int)) : SMap (List Int) :=
  outs.foldl (fun acc e =>
    if e.1 < 512 || e.2.all (· == 0) then acc
    else (s.rowFeeds (e.1 - 512)).foldl (fun acc f => addFeed acc f (s.directTo (e.1 - 512) f e.2)) acc) acc

/-! ## Front ends -/

/-- Front-end engine of channel i. -/
def feEngine (i : Nat) : Nat := 88 + (if i < 512 then i / 32 else (i - 512) / 8)

/-- What the front ends of a tick deliver: input taps, outputs by channel. -/
structure FrontOut where
  taps : SMap (List (Int × Bool))
  outs : SMap (List Int)

/-- Run every channel with state (R62, R63, R234, R238, R240). Log 94. -/
def Mach.runFronts (s : Mach) (w : Work) (missed : Nat → Bool) : FrontOut × Mach :=
  s.rend.chans.foldl (fun (acc, s) e =>
    let eng := feEngine e.1
    let off := match engGroup eng with
      | some k => s.gated k
      | none => false
    let c := s.chanTick e.1 (mfind w.src e.1) (missed eng || off) off
    let s := s.onChan e.1 (fun _ => c.chan)
    let s := if c.clips = 0 then s else (s.bump R.RENDER_CLIP e.1 c.clips).evt F.RENDER_FE_EVT_OBJ_CLIP
    ({ taps := acc.taps ++ [(e.1, c.tap)], outs := acc.outs ++ [(e.1, c.out)] }, s)) (⟨[], []⟩, s)

/-! ## Sward -/

/-- Objects whose entry line matters: a gated front end writes none. -/
def Mach.swardObjs (s : Mach) : List Nat :=
  (upto s.variant.objects).filter (fun o => !s.gated (16 + o / 128) && (
    (mfind s.rend.chans o).isSome || (mfind s.rend.omem o).isSome || s.rend.paths.any (fun e => e.2.obj == o)))

/-- Fill the entry lines of the tick. -/
def Mach.fillEntries (s : Mach) (m : Nat) (outs : SMap (List Int)) : Mach :=
  s.each s.swardObjs (fun s o =>
    let l := s.entryLine o m (mget (List.replicate 16 0) outs o)
    (s.entryEcc o m).onMem o (fun q => { q with entry := l }))

/-- The entry lines enter the ring and the write stage; the other objects of a running front end write silence (R113). -/
def Mach.commitEntries (s : Mach) (m : Nat) (outs : SMap (List Int)) : Mach :=
  let s := s.each s.swardObjs (fun s o =>
    let g := s.obj o
    let delayed := s.bulkOn && ((s.geo o).bulk != 0 || (g.bulkTick == some m && g.bulkWas != 0))
    s.onMem o (fun q => q.commit delayed m (mget (List.replicate 16 0) outs o)))
  let up := (upto 4).filter (fun g => !s.gated (16 + g))
  s.onRend (fun q => { q with fill := up.foldl (fun l g => mput l g (Nat.min 32768 (mget 0 l g + 16))) q.fill })

/-- Line of a ring position, 8 samples each, and the bank and row of line L of object o (R114). -/
def swardLine (pos : Nat) : Nat := pos / 8
def swardBank (o L : Nat) : Nat := (L + 16 * o) % 1024
def swardRow (o L : Nat) : Nat := 4 * o + L / 1024

/-- Words read from Sward with a parity error (R115). Log 100. -/
def Mach.parityErrs (s : Mach) (m : Nat) (perr : List (Nat × Nat)) : Mach :=
  s.each perr (fun s p =>
    let s := (s.bump R.RENDER_SWARD_PERR).evt F.RENDER_PR_EVT_SWARD_PERR
    let sec := tickNs m / 1000000000
    if s.rend.perrSec = some sec then s
    else
      let pos := (16 * m + 32768 - 17 - p.2 % 32768) % 32768
      (s.raise E.SWARD_PERR p.1 (swardLine pos)).onRend (fun q => { q with perrSec := some sec }))

/-! ## Feeds -/

/-- Deepest reduction of a limiter gain, in 0.01 dB. -/
def grCode (g : Int) : Nat :=
  if 2 ^ 24 ≤ g then 0
  else if g ≤ 0 then 65535
  else Nat.min 65535 (rhaQ (-2000 * log10Q ((g : Rat) / (2 ^ 24 : Nat)))).toNat

/-- Is feed f missed: its reduction, its spectral engine or its back end (R234)? -/
def feedMissed (missed : Nat → Bool) (f : Nat) : Bool := missed 105 || missed (64 + f / 32) || missed (80 + f / 64)

/-- Feeds that have anything to do: state, or something in their sums. -/
def Mach.busyFeeds (s : Mach) (acc : SMap (List Int)) : List Nat :=
  (upto s.variant.feeds).filter (fun f => (mfind s.rend.feeds f).isSome || (match mfind acc f with
    | some l => !l.all (· == 0)
    | none => false))

/-- The hand-off scale of a grid step (R38) or of a move into ACTIVE (R528). -/
def Mach.feedScale (s : Mach) (l : List Int) : List Int :=
  match s.tm.gstep with
  | .down => mapIdxFrom (fun j x => rhu 4 (x * (15 - j : Nat))) 0 l
  | .held _ => l.map (fun _ => 0)
  | .fade => mapIdxFrom (fun j x => rhu 4 (x * (j + 1 : Nat))) 0 l
  | _ => l

/-- Run every busy feed: hand-off words and pre-correction taps. -/
def Mach.runFeeds (s : Mach) (m : Nat) (acc : SMap (List Int)) (missed : Nat → Bool) : SMap (List Int) × SMap (List Int) × Mach :=
  (s.busyFeeds acc).foldl (fun (hand, pre, s) f =>
    let x := mget (List.replicate 16 0) acc f
    let s := s.trimEcc f m
    let r := s.feedTick f m x (feedMissed missed f)
    let s := s.onFeed f (fun _ => r.fd)
    let add (s : Mach) (n : Nat) (g : Reg) (i : Nat) (e : Fld) : Mach := if n = 0 then s else (s.bump g i n).evt e
    let s := add s r.bqClamps R.FEED_BQ_CLAMP 0 F.FEED_CORR_EVT_BQ_CLAMP
    let s := add s r.wordClamps R.FEED_WORD_CLAMP 0 F.FEED_OUT_EVT_WORD_CLAMP
    let s := add s r.sats R.FEED_SAT f F.FEED_OUT_EVT_SAT
    let s := add s r.timeouts R.FEED_ZC_TIMEOUT 0 F.FEED_OUT_EVT_ZC_TIMEOUT
    let gr := grCode r.minG
    let s := if s.gf F.FEED_LIM_GR_GR f < gr then s.sf F.FEED_LIM_GR_GR gr f else s
    (hand ++ [(f, s.feedScale r.out)], pre ++ [(f, x)], s)) (([] : SMap (List Int)), ([] : SMap (List Int)), s)

/-! ## The tick -/

/-- Complete the running tick: everything the fabric does between two tokens, and what the launcher accounts. -/
def Mach.finishTick (s : Mach) : Mach :=
  match s.rend.work with
  | none => s
  | some w =>
    let m := w.tick
    let missedL := s.missedList
    let missed (e : Nat) : Bool := missedL.contains e
    let (fo, s) := s.runFronts w missed
    let s := s.fillEntries m fo.outs
    let s := s.parityErrs m w.perr
    let (acc, s) := s.renderPaths m w.perr missed
    let acc := s.addDirect fo.outs acc
    let (hand, pre, s) := s.runFeeds m acc missed
    let s := s.commitEntries m fo.outs
    let s := if missed 104 then s.geoLate else s.geoDone
    let (slack, s) := s.fabAccount m missedL
    let miss := !missedL.isEmpty
    let s := (s.ibexTick slack miss).logTick slack miss
    let s := s.gateTick
    s.onRend (fun q =>
      { q with work := none, hand := some (m, hand), tapIn := fo.taps, tapPre := pre, was := [], genWas := [],
               fc := q.fcNext, fab := { q.fab with stamps := [], aband := [], acked := [] } })

/-- FABRIC_DONE: every running engine has completed or been abandoned. -/
def fabricDone (s : Mach) : Mach :=
  if s.rend.work.isSome && s.engOpen.isEmpty && s.rend.fab.aband.isEmpty then s.finishTick else s

/-! ## A tick while the fabric is gated (R581) -/

/-- A change that is live at once: ramps, waits and cross-fades of a feed end, but for those of banks. -/
def ZcVal.atOnce (v : ZcVal) : ZcVal :=
  let c := match v.ramp with
    | some (_, n, _) => n
    | none => v.cur
  let c := match v.wait with
    | some (n, _, _) => n
    | none => c
  let c := match v.pend with
    | some (n, _) => n
    | none => c
  ⟨c, none, none, none⟩

def Feed.atOnce (d : Feed) (x : LimSet) : Feed :=
  { d with gain := d.gain.atOnce, mute := d.mute.atOnce, trim := d.trimPend.getD d.trim, trimXf := none, trimPend := none,
           lim := { ({ d.lim with xf := none, pend := none }).put x with xf := none }, missed := false,
           xf := d.xf.map (fun x => { x with pos := x.pos + 16 }) }

/-- A channel's route moves on by a tick whose samples are dropped; `src` is what its sides delivered. -/
def Chan.quiet (c : Chan) (src : List (Option Int) × List (Option Int)) : Chan :=
  { c with route := (c.route.tick src.1 src.2).2 }

/-- Targets of tick m + 1 without paths: trajectories and the speed of sound move on. Log 43. -/
def Mach.quietPlan (s : Mach) (m : Nat) : Mach :=
  let k := m + 1
  let atm := atmosOf (s.liveRec K.ATMOS 0)
  let s := s.each s.busyObjs (fun s o =>
    let g := s.obj o
    let tr := trajStep k (s.rend.evalTick.getD m) g.traj g.queue
    let t : Tally := { Tally.zero with late := tr.late, stale := tr.stale }
    (s.onObj o (fun g => { g with queue := tr.queue, cutting := false, traj := ⟨tr.seg, tr.kin, tr.hold⟩ })).count t)
  s.onRend (fun q => { q with cWas := q.c, c := slewC q.c atm.cStaged atm.cSlew, air := atm.toAir,
                              airWas := (atmosOf (s.liveWas K.ATMOS 0)).toAir, fcNext := atm.airFc, fc := atm.airFc,
                              plan := none, evalTick := some k })

/-- Tick m of IDLE or QUIET, of whose input only the absences are kept (R22). Log 43. -/
def Mach.quietTick (s : Mach) (m : Nat) (src : SMap (List (Option Int) × List (Option Int))) : Mach :=
  let s := (s.quietPlan m).fabIdle
  s.onRend (fun q =>
    { q.noPaths with chans := q.chans.map (fun e => (e.1, e.2.quiet (mget ([], []) src e.1))), feeds := q.feeds.map (fun e => (e.1, e.2.atOnce (s.limFields e.1))),
                     was := [], genWas := [], hand := if s.power = 2 then none else some (m, []), tapIn := [], tapPre := [] })

/-! ## Histories that a grid step or a return to ACTIVE clears (R38, R174, R528) -/

/-- Clear Sward, bulk delay, limiter look-ahead, correction histories and trim lines. -/
def Mach.clearHistories (s : Mach) : Mach :=
  s.onRend (fun q =>
    { q with omem := q.omem.map (fun e => (e.1, { e.2 with ring := [], entry := [], stage := [], todo := [], since := none, lost := [], clear := false })), fill := [],
             feeds := q.feeds.map (fun e => (e.1, { e.2 with
               lim := { e.2.lim with ys := [] }, hist := [], lost := [], todo := [], line := [], lineTodo := [], lineLost := [] })) })

end Sys2Proof.Machine
end

