-- ==== Sys2Proof/Machine/Views.lean ====
section
/-! DEFINITION. What a read of each register returns: the registers that report state kept elsewhere (R40, R50, R72,
R110, R134, R149, R180, R205, R242, R259, R292, R383, R431, R432, R457, R489, R535, R548). -/
namespace Sys2Proof.Machine

/-! ## Time, clocks, system, errors -/

/-- Seconds and nanoseconds of a stamp in 2^−16 ns. -/
def stampSec (t : Nat) : Nat := t / 65536 / 1000000000
def stampNsec (t : Nat) : Nat := t / 65536 % 1000000000
def stampHi (t : Nat) : Nat := stampSec t / 2 ^ 32 % 2 ^ 16 + 65536 * (t % 65536)

/-- TIME.PORT[p].STAT. -/
def Mach.portStatWord (s : Mach) (p : Nat) : Nat :=
  let a := s.activePort
  let role := if a = p then 1 else if a < 2 then 2 else 0
  role + 4 * b2n (s.tm.port p).gm.isSome + 8 * b2n (decide (s.gmIdent p = some s.lastGm) && (s.gmIdent p).isSome)
    + 16 * b2n (role == 2 && s.standbyReady) + 256 * Nat.min 255 (s.tm.port p).samples

def Mach.viewTime (s : Mach) (r : Reg) (i : Nat) : Option Nat :=
  let b := r.base
  if b = R.TIME_NOW_NS.base then some (s.tm.netNs % 1000000000)
  else if b = R.TIME_EVTQ_STAT.base then some (s.tm.evtq.length + 256 * s.gf F.TIME_EVTQ_STAT_LOST)
  else if b = R.TIME_EVTQ_SEC_LO.base then some (stampSec (s.tm.evtq.headD 0) % 2 ^ 32)
  else if b = R.TIME_EVTQ_SEC_HI.base then some (stampHi (s.tm.evtq.headD 0))
  else if b = R.TIME_EVTQ_NS.base then some (stampNsec (s.tm.evtq.headD 0))
  else if b = R.TIME_PORT_STAT.base then some (s.portStatWord i)
  else
    let h : TxStamp := (s.tm.txts i).headD ⟨0, 0⟩
    if b = R.TIME_PORT_TXTS_STAT.base then some ((s.tm.txts i).length + (if s.on F.TIME_PORT_TXTS_STAT_OVF i then s.rd r i &&& 0xFFFF0100 else 0))
    else if b = R.TIME_PORT_TXTS_ID.base then some (h.tsid % 65536 + 65536 * b2n (!(s.tm.txts i).isEmpty))
    else if b = R.TIME_PORT_TXTS_SEC_LO.base then some (stampSec h.t % 2 ^ 32)
    else if b = R.TIME_PORT_TXTS_SEC_HI.base then some (stampHi h.t)
    else if b = R.TIME_PORT_TXTS_NS.base then some (stampNsec h.t)
    else none

/-- Milliseconds left of the reset countdown, rounded up (R542). -/
def Mach.rstRemain (s : Mach) : Nat :=
  match s.err.countdown with
  | some t => (t - s.tm.up + 999999) / 1000000
  | none => 0

def Mach.viewErr (s : Mach) (r : Reg) (i j : Nat) : Option Nat :=
  let b := r.base
  if b = R.ERR_STAT.base then
    some (s.err.slots.length + 256 * (s.err.slots.filter (fun e => 48 ≤ e.1)).length + 65536 * b2n s.safe
      + 0x20000 * b2n s.err.hE.isSome + 0x40000 * b2n s.err.hF.isSome + 0x80000 * b2n s.fault)
  else if b = R.ERR_RST_REMAIN.base then some s.rstRemain
  else if b = R.ERR_REC.base then some (match mfind s.err.slots i with
    | some e => fld e.bytes (4 * j) 4
    | none => 0)
  else none

/-- DMA: NEXT_LO holds the next address a descriptor gave, its low bits too (R487), and shows bits 31 to 5 of it (R8, R490). -/
def Mach.viewDma (s : Mach) (r : Reg) (i : Nat) : Option Nat :=
  if r = R.DMA_NEXT_LO then some (s.rd r i &&& 0xFFFFFFE0) else none

/-- Whole seconds since P6. -/
def Mach.uptime (s : Mach) : Nat := if s.phase = 6 then (s.tm.up - s.sys.p6At) / 1000000000 else 0

def Mach.viewSys (s : Mach) (r : Reg) : Option Nat :=
  let b := r.base
  if b = R.SYS_UPTIME.base then some (s.uptime % 2 ^ 32)
  else if b = R.SYS_RTC_LO.base then some (s.rtcNow % 2 ^ 32)
  else if b = R.SYS_RTC_HI.base then some (s.rtcNow / 2 ^ 32 % 65536)
  else if b = R.SYS_ALARM_LO.base then some (s.sys.alarm.getD 0 % 2 ^ 32)
  else if b = R.SYS_ALARM_HI.base then some (s.sys.alarm.getD 0 / 2 ^ 32 % 65536 + 2 ^ 31 * b2n s.sys.alarm.isSome)
  else none

/-! ## Interconnect, commands, scheduler, network -/

def Mach.viewMatrix (s : Mach) (r : Reg) (i : Nat) : Option Nat :=
  let b := r.base
  if b = R.MATRIX_MSTAT.base then
    some (s.outOf i % 64 + 256 * b2n (s.bus.isoM.contains i) + 512 * b2n (s.lockOf i).isSome)
  else if b = R.MATRIX_TSTAT.base then
    let l := mfind s.bus.locks i
    some (s.gf F.MATRIX_TSTAT_PARK i + 16 * b2n l.isSome + 256 * ((l.map (·.master)).getD 0) + 4096 * b2n (s.bus.isoT.contains i))
  else none

def Mach.sessWord (s : Mach) (n : Nat) : Nat :=
  match mfind s.cmd.sess n with
  | none => 0
  | some e =>
    let (t, q) := match e.xport with
      | .pcie q => (0, q)
      | .spi => (1, 0)
      | .udp _ _ => (2, 0)
    1 + 2 * t + 8 * q + 16 * (s.cmd.flows.filter (fun f => f.2.sess == n)).length + 65536 * Nat.min 4095 (s.idleOf e)

def Mach.flowWord (s : Mach) (i : Nat) : Nat :=
  match mfind s.cmd.flows i with
  | none => 0
  | some f => f.next + 0x10000 * f.sess + 0x100000 * f.num + 2 ^ 28 * f.group + 2 ^ 31

def Mach.viewCmd (s : Mach) (r : Reg) (i : Nat) : Option Nat :=
  let b := r.base
  if b = R.CMD_STAT.base then some (s.gf F.CMD_STAT_READY + 16 * s.cmd.sess.length + 65536 * s.cmd.flows.length)
  else if b = R.CMD_SESS.base then some (s.sessWord i)
  else if b = R.CMD_FLOW.base then some (s.flowWord i)
  else none

/-- Commands that wait for a thread. -/
def Mach.cmdsWaiting (s : Mach) (g : Option Nat) : Nat :=
  (s.cmd.pool.filter (fun c => c.phase == 0 && (match g with
    | some g => c.group == g
    | none => true))).length

def Mach.viewSched (s : Mach) (r : Reg) (i : Nat) : Option Nat :=
  let b := r.base
  if b = R.SCHED_STAT.base then
    some (s.gf F.SCHED_STAT_CORES + 256 * s.gf F.SCHED_STAT_BACKUP + 65536 * s.sch.ready.length)
  else if b = R.SCHED_READY_MAP.base then some (s.sch.ready.foldl (fun a t => a ||| 2 ^ ((s.sch.thread t).level % 32)) 0)
  else if b = R.SCHED_THREADS.base then
    some (224 - (s.sch.threads.filter (fun e => 32 ≤ e.1)).length + 256 * Nat.min 1023 (s.cmdsWaiting none))
  else if b = R.SCHED_CORE.base then
    some (match mfind s.sch.cores i with
      | some t => t + 256 * (s.sch.thread t).level + 65536 * (if t < 32 then 0 else (s.sch.thread t).group)
      | none => 2 ^ 24)
  else if b = R.SCHED_GRP_STAT.base then
    some ((s.sch.ready.filter (fun t => 32 ≤ t && (s.sch.thread t).group == i)).length + 256 * s.heldBy i
      + 65536 * Nat.min 1023 (s.cmdsWaiting (some i)))
  else if b = R.SCHED_THREAD.base then
    let t := s.sch.thread i
    some (t.state + 256 * t.level + 65536 * t.group + 0x100000 * t.core)
  else none

/-- Has a packet arrived on the port within LOST_MS? -/
def Mach.seenOn (s : Mach) (last : Option Nat) : Bool :=
  match last with
  | some t => decide (s.tm.up ≤ t + s.gf F.STRM_CFG_LOST_MS * 1000000)
  | none => false

/-- Samples held at 96 kHz beyond the grid instant of now (R426). -/
def Mach.streamFill (s : Mach) (k : Nat) : Nat :=
  let x := s.strIn k
  let n := (x.held.filter (fun e => s.gridNow ≤ e.1)).length
  if x.rate = 4 then n else 2 * n

def Mach.viewNet (s : Mach) (r : Reg) (i : Nat) : Option Nat :=
  let b := r.base
  if b = R.NET_STAT.base then
    some ((s.rd r i &&& 0x13F) + 64 * b2n (s.activePort == i) + 128 * b2n (s.gf F.TIME_STAT_CTRL_PORT == i))
  else if b = R.STRM_IN_STAT.base then
    some (s.gf F.STRM_IN_STAT_STATE i + 4 * b2n (s.seenOn (s.strIn i).lastA) + 8 * b2n (s.seenOn (s.strIn i).lastB)
      + 65536 * Nat.min 65535 (s.streamFill i))
  else if b = R.STRM_OUT_STAT.base then some (b2n (s.strOut i).en + 2 * s.gf F.STRM_OUT_STAT_ANNOUNCED i)
  else none

/-! ## Renderer -/

/-- Offset of a source's rate from its nominal rate, ppb: that of a port that is not synchronous, by its last measurement.
Log 93. -/
def Mach.ratioPpb (s : Mach) (sel : Nat) : Int :=
  if selKind sel != 1 || s.srcSync sel then 0 else
    let n := selIdx sel / 32
    let nom := rateHz (s.srcRate sel) * 1000
    if nom = 0 then 0 else rhaQ (((s.rd R.ASP_RATE n : Int) - nom : Int) * 1000000000 / (nom : Rat))

/-- Is the input of channel i absent in the running tick (R22), or its source gone since it was collected? Every input of a missed front end is (R234), and a selection
behind a gated or waking one (R240). -/
def Mach.absentNow (s : Mach) (i : Nat) : Bool :=
  let r := (s.chan i).route.cur
  let tick : Bool := match s.rend.work.bind (fun w => mfind w.src i) with
    | some (_, xn) => xn.any (fun x => x.isNone) || (r.sel != selNone && (match engGroup (feEngine i) with
        | some k => s.gated k
        | none => false))
    | none => r.absent
  (s.rend.work.isSome && s.missedList.contains (feEngine i)) || tick || r.lost.isSome || s.srcGone r.sel

def Mach.instatWord (s : Mach) (i : Nat) : Nat :=
  let c := s.chan i
  let d := c.route.cur
  b2n (s.absentNow i) + 2 * b2n (s.srcSync d.sel) + 4 * (if d.lost.isSome then 1 else d.asrc) + 16 * b2n c.unsync + 32 * b2n c.route.old.isSome
    + 64 * b2n c.route.pend.isSome + 256 * s.srcRate d.sel

/-- Log 136. -/
def Mach.geoObjstat (s : Mach) (o : Nat) : Nat :=
  let g := s.obj o
  (s.pathsOf o).length + 4096 * Nat.min 15 g.queue.length + 65536 * ((s.geo o).law % 4) + 2 ^ 18 * b2n (s.tm.ticking && g.traj.hold)
    + 2 ^ 19 * b2n (g.cutting || g.refill || !g.mayNew s.tm.tick) + 2 ^ 20 * b2n g.clamped + 2 ^ 21 * b2n (s.hpo o).host

/-- Ticks the bulk prefetch held complete at the last token (R118): reads run ahead by four, from a change on. -/
def Mach.bulkDepth (s : Mach) (o : Nat) : Nat :=
  let since := match (s.obj o).bulkTick with
    | some b => s.tm.tick - b
    | none => 4
  if (s.geo o).bulk = 0 || since = 0 then 0
  else match findPos id (s.rend.dramOk.take (Nat.min 4 since)) with
    | some k => 4 - k
    | none => if s.rend.dramOk.isEmpty then 4 else 0

def Mach.bulkStat (s : Mach) (o : Nat) : Nat :=
  let g := s.obj o
  b2n ((s.geo o).bulk != 0) + 2 * b2n g.refill + 4 * b2n g.starved + 16 * s.bulkDepth o

/-- Entries held by pending host updates. -/
def Mach.hpUsed (s : Mach) : Nat := s.rend.hp.foldl (fun a e => a + e.2.pend.foldl (fun b u => b + u.entries.length) 0) 0

def Mach.hpObjstat (s : Mach) (o : Nat) : Nat :=
  let h := s.hpo o
  h.pend.length + 8 * b2n (h.host && h.hold != 0) + 16 * Nat.min 4095 h.hold + 65536 * Nat.min 1023 h.denied + 2 ^ 26 * b2n (h.host && h.empty)

/-- Q16.16 of a coordinate, clamped to its format: the choice for a position beyond it. Log 143. -/
def posWord (q : Rat) : Nat := toU 32 (clampS 32 (rhaQ (q * 65536)))

def Mach.kernelCode (s : Mach) : Nat := if s.rend.ibex.kfade then (if s.rend.ibex.k12 then 3 else 2) else b2n s.rend.ibex.k12

/-- The Sward word at an age (R134). Log 100. -/
def Mach.swardWord (s : Mach) (o age : Nat) : Nat := if o < s.variant.objects then toU 32 ((s.omem o).ring[age]?.getD 0) else 0

def Mach.viewRender (s : Mach) (r : Reg) (i : Nat) : Option Nat :=
  let b := r.base
  if b = R.RENDER_INSTAT.base then some (s.instatWord i)
  else if b = R.RENDER_IN_RATIO.base then
    let d := (s.chan i).route.cur
    some (if d.asrc = 3 && d.lost.isNone then toU 32 (s.ratioPpb d.sel) else 0)
  else if b = R.RENDER_GEO_STAT.base then
    some (s.gf F.RENDER_GEO_STAT_TABLE_VALID + 2 * b2n (decide (s.rend.cWas ≠ (atmosOf (s.liveRec K.ATMOS 0)).cStaged))
      + 4 * b2n s.rend.ibex.budgetM3 + 8 * b2n (s.budget < s.rend.paths.length))
  else if b = R.RENDER_GEO_ACTIVE.base then some s.rend.paths.length
  else if b = R.RENDER_GEO_BUDGET.base then some s.budget
  else if b = R.RENDER_GEO_C.base then some (toU 32 (rhaQ (s.rend.cWas * 65536)))
  else if b = R.RENDER_GEO_ALPHA.base then 
    some (if s.phase != 6 then 0 else if s.tm.ticking then s.rend.airWas.word else (atmosOf (s.liveRec K.ATMOS 0)).toAir.word)
  else if b = R.RENDER_GEO_OBJSTAT.base then some (s.geoObjstat i)
  else if b = R.RENDER_PR_STAT.base then
    some (s.kernelCode + 65536 * ((upto s.variant.objects).filter (fun o => (s.geo o).bulk != 0)).length)
  else if b = R.RENDER_SWARD_DIAG_DATA.base then
    some (s.swardWord (s.gf F.RENDER_SWARD_DIAG_ADDR_OBJ) (s.gf F.RENDER_SWARD_DIAG_ADDR_AGE))
  else if b = R.RENDER_SWARD_FILL.base then
    let o := s.gf F.RENDER_SWARD_DIAG_ADDR_OBJ
    some (if o < s.variant.objects then (s.omem o).ring.length else 0)
  else if b = R.RENDER_PE_OCC.base then some (s.occ i)
  else if b = R.RENDER_BULK_STAT.base then some (s.bulkStat i)
  else if b = R.RENDER_HP_STAT.base then
    some ((s.rend.paths.filter (fun e => e.2.host)).length + 2 ^ 18 * (s.rend.hp.filter (fun e => e.2.host)).length)
  else if b = R.RENDER_HP_POOL.base then some (262144 - s.hpUsed)
  else if b = R.RENDER_HP_OBJSTAT.base then some (s.hpObjstat i)
  else none

/-! ## Feeds and sinks -/

def Mach.bankStat (s : Mach) (f : Nat) : Nat := (mget (4, 0) s.rend.bankWas f).1
def Mach.xfPos (s : Mach) (f : Nat) : Nat := (mget (4, 0) s.rend.bankWas f).2

def Mach.trimStat (s : Mach) (f : Nat) : Nat :=
  let d := s.feed f
  d.trim + 2 ^ 14 * b2n d.trimXf.isSome + 2 ^ 15 * b2n d.trimPend.isSome + 2 ^ 16 * b2n (d.starve == 1 || d.starve == 2)

def Mach.beStat (s : Mach) (f : Nat) : Nat :=
  let d := s.feed f
  let o := s.liveRec K.OUTSET f
  b2n (bitOf (fld o 4 2) 0) + 2 * b2n (d.gain.wait.isSome || d.mute.wait.isSome) + 4 * b2n (d.gain.ramp.isSome || d.mute.ramp.isSome)
    + 8 * b2n (d.gain.pend.isSome || d.mute.pend.isSome) + 16 * b2n d.lim.en + 32 * b2n (decide (d.lim.g < 2 ^ 24))
    + 64 * b2n d.lim.xf.isSome + 256 * (d.lim.l % 128)
    + 65536 * b2n (!s.limHost && bitOf (fld (s.liveRec K.RATING f) 4 2) 0)

/-- Log 136. -/
def Mach.sinkStat (s : Mach) (i : Nat) : Nat :=
  let k := s.sink i
  b2n k.route.old.isSome + 2 * b2n k.route.pend.isSome + 4 * k.conv
    + 16 * b2n (decide (i < 2560) && (k.em != 0 || k.emFade.isSome)) + 32 * b2n (s.tm.ticking && !s.sinkBusy i)

def Mach.viewFeed (s : Mach) (r : Reg) (i : Nat) : Option Nat :=
  let b := r.base
  if b = R.FEED_CORR_STAT.base then
    some (s.poolUsed % 256 + 256 * (s.rend.feeds.filter (fun e => (match e.2.pend with
      | some r => r.queued
      | none => false) && e.2.resv.isNone)).length)
  else if b = R.FEED_ID_LO.base || b = R.FEED_ID_HI.base then
    let k := (s.feed (s.gf F.FEED_ID_SEL_FEED)).bank (s.gf F.FEED_ID_SEL_SLOT)
    let v := if k.state = 2 then k.id else 0
    some (if b = R.FEED_ID_LO.base then v % 2 ^ 32 else v / 2 ^ 32 % 2 ^ 32)
  else if b = R.FEED_BANK_STAT.base then some (s.bankStat i)
  else if b = R.FEED_XF_POS.base then some (s.xfPos i)
  else if b = R.FEED_TRIM_STAT.base then some (s.trimStat i)
  else if b = R.FEED_HWMUTE_STAT.base then some ((s.rd r &&& 0xB) + 4 * b2n s.safe)
  else if b = R.FEED_BE_STAT.base then some (s.beStat i)
  else if b = R.FEED_SINK_STAT.base then some (s.sinkStat i)
  else none

/-! ## Fabric -/

/-- Are tokens reaching the fabric? -/
def Mach.fabRuns (s : Mach) : Bool := s.power == 0 && s.tm.ticking && s.tm.gstep != .stopped

def Mach.fabStat (s : Mach) : Nat :=
  b2n s.fabRuns + 2 * b2n s.timerBackup + 4 * b2n (!s.rend.fab.waking.isEmpty)

/-- Log 111. -/
def Mach.ibexStat (s : Mach) : Nat := s.gf F.FAB_IBEX_STAT_TIER + 4 * s.ibexPhase + 65536 * s.gf F.FAB_IBEX_STAT_VDD

def Mach.predWord (s : Mach) : Nat :=
  let i := s.rend.ibex
  let w (v : Option Int) : Nat := match v with
    | some x => toU 16 (clampS 16 x)
    | none => 0
  if !i.read then 0 else w (s.pred s.tierNow s.vddNow s.tjNow) + 65536 * w s.predXf

def Mach.viewFab (s : Mach) (r : Reg) : Option Nat :=
  let b := r.base
  if b = R.FAB_STAT.base then some s.fabStat
  else if b = R.FAB_IBEX_STAT.base then some s.ibexStat
  else if b = R.FAB_PRED.base then some s.predWord
  else if b = R.FAB_HERD_STAT.base then
    some ((s.rend.fab.waking.filter (fun e => e.2.st == 0)).length % 32 + 256 * (s.rend.fab.windows % 32))
  else none

/-! ## A register word -/

/-- Value of register r, instance (i, j), without the effects of a read. -/
def Mach.word (s : Mach) (r : Reg) (i : Nat := 0) (j : Nat := 0) : Nat :=
  let b := r.base
  let v : Option Nat :=
    if b < 0x100000 then s.viewSys r
    else if b < 0x300000 then none
    else if b < 0x380000 then s.viewNet r i
    else if b < 0x400000 then s.viewTime r i
    else if b < 0x500000 then s.viewDma r i
    else if b < 0x600000 then s.viewMatrix r i
    else if b < 0x700000 then none
    else if b < 0x800000 then s.viewFab r
    else if b < 0x900000 then s.viewRender r i
    else if b < 0xA00000 then s.viewFeed r i
    else if b < 0xB00000 then none
    else if b < 0xC00000 then s.viewSched r i
    else if b < 0xD00000 then s.viewCmd r i
    else if b < 0xE00000 then s.viewErr r i j
    else none
  (v.getD (s.rd r i j)) % 2 ^ 32

end Sys2Proof.Machine
end

