-- ==== Sys2Proof/Machine/RegAccess.lean ====
section
/-! DEFINITION. Register reads and writes as they reach the register region: access codes, holding copies, and every
register with a rule of its own (R5, R7 to R12, R23, R41, R53 to R57, R72, R116, R149, R159, R200, R205, R222, R224, R242,
R254, R259, R282, R284, R292, R383, R390, R402, R431, R432, R454, R457, R468, R481, R490, R509, R535, R545, R548). -/
namespace Sys2Proof.Machine

/-! ## Finding a register -/

/-- Instance (i, j) of a register at an address. -/
def Reg.find (r : Reg) (a : Nat) : Option (Nat × Nat) :=
  if a < r.base then none else
    let d := a - r.base
    if r.n1 = 1 && r.n2 = 1 then (if d = 0 then some (0, 0) else none)
    else if r.n2 = 1 then
      if r.s1 != 0 && d % r.s1 == 0 && decide (d / r.s1 < r.n1) then some (d / r.s1, 0) else none
    else
      let i := if r.n1 = 1 then 0 else d / Nat.max 1 r.s1
      let q := if r.n1 = 1 then d else d % Nat.max 1 r.s1
      if r.s2 != 0 && q % r.s2 == 0 && decide (q / r.s2 < r.n2) && decide (i < r.n1) then some (i, q / r.s2) else none

/-- The row of the register table at an address. -/
def regAt (a : Nat) : Option (RegRow × Nat × Nat) :=
  regRows.findSome? (fun w => (w.reg.find a).map (fun p => (w, p.1, p.2)))

/-- Does instance i of a register exist on this variant (R5)? -/
def Mach.instOk (s : Mach) (r : Reg) (i : Nat) : Bool :=
  let obj : List Reg := [R.RENDER_INSEL, R.RENDER_INSTAT, R.RENDER_IN_RATIO, R.RENDER_CLIP]
  let plain : List Reg := [R.RENDER_GEO_OBJSTAT, R.RENDER_BULK_STAT, R.RENDER_HP_CFG, R.RENDER_HP_OBJSTAT, R.FEED_XFCFG,
    R.FEED_BANK_STAT, R.FEED_XF_POS, R.FEED_TRIM_STAT, R.FEED_BE_STAT, R.FEED_LIM_GR, R.FEED_SAT]
  let eng : List Reg := [R.FAB_ENG_SLACK, R.FAB_ENG_LATE, R.FAB_ENG_MISS, R.FAB_ENG_CYC]
  if s.variant = .v9512 then true
  else if obj.contains r then s.chanOk i
  else if plain.contains r then decide (i < s.variant.objects)
  else if r = R.RENDER_PE_OCC then decide (i < s.variant.pes)
  else if eng.contains r then s.engExists i
  else true

/-- What a register of an instance the variant lacks reads: zero (R5), and the slack of an absent engine 0x7FFF, both of the
last tick and the lowest (R242). -/
def absentValue (r : Reg) : Nat := if r = R.FAB_ENG_SLACK then 0x7FFF7FFF else 0

/-- The 64-bit values read under R11: low and high word. -/
def pairs64 : List (Reg × Reg) :=
  [(R.TIME_TICK_LO, R.TIME_TICK_HI), (R.TIME_OFS_LO, R.TIME_OFS_HI), (R.TIME_SHADOW_LO, R.TIME_SHADOW_HI),
   (R.TIME_GM_LO, R.TIME_GM_HI), (R.FEED_ID_LO, R.FEED_ID_HI), (R.FEED_CAP_T0_LO, R.FEED_CAP_T0_HI),
   (R.MEAS_CH_FIRST_LO, R.MEAS_CH_FIRST_HI), (R.FAB_MISS_TICK_LO, R.FAB_MISS_TICK_HI),
   (R.SCHED_GRP_RUN_LO, R.SCHED_GRP_RUN_HI), (R.MATRIX_ERR_ADDR_LO, R.MATRIX_ERR_ADDR_HI),
   (R.DDRC_ECC_ADDR_LO, R.DDRC_ECC_ADDR_HI), (R.SYS_RTC_LO, R.SYS_RTC_HI)]

/-! ## Reads (R10, R11, R436) -/

/-- Read the register at an address: its value, with what the read clears or latches. -/
def Mach.regRead (s : Mach) (a : Nat) : Nat × Mach :=
  match regAt a with
  | none => (0, s)
  | some (w, i, j) =>
    if !s.instOk w.reg i then (absentValue w.reg, s) else
      match pairs64.find? (fun p => p.2 == w.reg) with
      | some _ => ((mget (0 : Word) s.hold (w.reg.at_ i j)).toNat, s)
      | none =>
        let v := s.word w.reg i j &&& (0xFFFFFFFF - w.wo)
        let s := match pairs64.find? (fun p => p.1 == w.reg) with
          | some p => { s with hold := mput s.hold (p.2.at_ i j) (BitVec.ofNat 32 (s.word p.2 i j)) }
          | none => s
        let s := if w.reg = R.TIME_NOW_NS then timeNowNsRead s else s
        let s := if w.rc = 0 then s else s.wr w.reg (s.rd w.reg i j &&& (0xFFFFFFFF - w.rc)) i j
        (v, s)

/-- RC_FIELD_READ: a read that reaches an RC field (R10). -/
def rcFieldRead (a : Nat) (s : Mach) : Mach :=
  match regAt a with
  | some (w, _, _) => if w.rc = 0 then s else (s.regRead a).2
  | none => s

/-- COUNTER_LOW_READ: a read of the low word of a 64-bit value (R11). -/
def counterLowRead (a : Nat) (s : Mach) : Mach :=
  match regAt a with
  | some (w, _, _) => if pairs64.any (fun p => p.1 == w.reg) then (s.regRead a).2 else s
  | none => s

/-! ## Plain writes (R9) -/

/-- What a write leaves in a register by its access codes. -/
def RegRow.merge (w : RegRow) (old v : Nat) : Nat :=
  let set := w.rw ||| w.rwc
  (((old &&& (0xFFFFFFFF - set)) ||| (v &&& set)) &&& (0xFFFFFFFF - (v &&& w.w1c))) ||| (v &&& w.w1s)

/-- The bits of a register that a write reaches: the rest of the word written is ignored (R8). -/
def RegRow.takes (w : RegRow) : Nat := w.rw ||| w.rwc ||| w.w1c ||| w.w1s ||| w.wo

/-- The bits of a register that a write reaches, by its row. -/
def takesOf (r : Reg) : Nat := ((regRows.find? (fun w => w.reg == r)).map RegRow.takes).getD 0

/-- Interrupt sources of the block an EVT register belongs to (R544). -/
def srcOfEvt (r : Reg) (i : Nat) : Option Nat :=
  let b := r.base
  if b < 0x100000 then some 2
  else if b < 0x200000 then some 3
  else if b < 0x300000 then some 4
  else if b < 0x320000 then some (5 + i % 2)
  else if b < 0x340000 then some 7
  else if b < 0x400000 then some 8
  else if b < 0x500000 then some 9
  else if b < 0x600000 then some 10
  else if b < 0x700000 then some 11
  else if b < 0x800000 then some 12
  else if b < 0x900000 then some 13
  else if b < 0xA00000 then some 14
  else if b < 0xB00000 then some 15
  else if b < 0xC00000 then some 16
  else if b < 0xD00000 then some 17
  else if b < 0xE00000 then some 0
  else none

/-- A write to a register with no rule of its own. -/
def Mach.plainWrite (s : Mach) (w : RegRow) (i j v : Nat) : Mach :=
  let s := s.wr w.reg (w.merge (s.rd w.reg i j) v) i j
  if w.w1c = 0 || v &&& w.w1c = 0 then s
  else if w.reg = R.DMA_DONE || w.reg = R.DMA_ERR || w.reg = R.DMA_DESC then
    s.each (upto 32) (fun s c => if bitOf v c then s.resend (18 + c) else s)
  else match srcOfEvt w.reg i with
    | some k => s.resend k
    | none => s

/-! ## Registers with guards -/

def inRange (lo hi v : Nat) : Bool := decide (lo ≤ v) && decide (v ≤ hi)

/-- May the value be written to a register whose ranges a rule gives; a value outside leaves the register unchanged? -/
def rangeOk (r : Reg) (v : Nat) : Bool :=
  let b := r.base
  if b = R.TIME_GRID_CTRL.base then inRange 40 800 (bits v 0 10) && inRange 1 1000000 (bits v 10 20)
  else if b = R.TIME_SERVO_KP.base || b = R.TIME_SERVO_KI.base then decide (v ≤ 0x40000)
  else if b = R.TIME_ADJ_FREQ.base then decide ((sext 32 v).natAbs ≤ 128000000)
  else if b = R.TIME_REDUND.base then inRange 1 16 (bits v 0 5)
  else if b = R.TIME_LAUNCH_CFG.base then decide (bits v 0 10 ≤ 1000) && inRange 1 60 (bits v 16 6)
  else if b = R.TIME_PPS_CFG.base then bits v 16 16 != 0
  else if b = R.TIME_PPS_OFS.base then decide (-500000000 ≤ sext 32 v) && decide (sext 32 v ≤ 499999999)
  else if b = R.RENDER_GEN_CTRL.base then genCtrlOk v
  else if b = R.RENDER_GEN_FREQ.base then decide (v ≤ 0x7FFFFFFF)
  else if b = R.RENDER_GEN_LEVEL.base then decide (bits v 0 24 ≤ 0x100000)
  else if b = R.FEED_XFCFG.base then inRange 8 14 (bits v 0 4)
  else if b = R.FAB_GATE_CFG.base then inRange 1 6000 (bits v 0 13)
  else if b = R.FAB_IBEX_CFG.base then ibexCfgOk v
  else if b = R.CMD_UDP_CFG.base then bits v 0 16 != 0
  else if b = R.CMD_GAP_CFG.base then inRange 1 1000 (bits v 0 10)
  else if b = R.SCHED_CFG.base then bits v 0 16 != 0 && inRange 10 1000 (bits v 16 10)
  else if b = R.NET_PAUSE_CFG.base then inRange 1 1000 (bits v 0 10)
  else if b = R.NET_DS_CFG.base then inRange 1 5000 (bits v 0 13) && inRange 1 255 (bits v 16 8)
  else if b = R.NET_MTU.base then inRange 576 9194 (bits v 0 14)
  else if b = R.NET_MEDIA_BUDGET.base then inRange 1 1000 (bits v 0 10)
  else if b = R.STRM_CFG.base then inRange 2 100 (bits v 0 8)
  else if b = R.DMA_HOPMAX.base then bits v 0 16 != 0
  else if b = R.DDRC_SCRUB_CFG.base then bits v 0 8 != 0
  else if b = R.ERR_CFG.base then bits v 8 8 != 0
  else if b = R.CMD_UDP_ALLOW_MASK.base then decide (bits v 0 6 ≤ 32)
  else true

/-- Ring size of R56 and R200. -/
def ringSizeOk (v : Nat) : Bool := v % 64 == 0 && inRange 0x400 0x1000000 v

/-- Write CFG of network port p (R353, R403, R415): a new speed takes the link down; CUT_THROUGH set restores CT_LIVE.
Log 118. -/
def Mach.netCfg (s : Mach) (p v : Nat) : Mach :=
  let old := s.rd R.NET_CFG p
  let s := s.wr R.NET_CFG (v &&& 0x1F7) p
  let s := if bitOf v 7 then s.sf F.NET_CT_LIVE_BYTES (s.gf F.NET_CT_CFG_CT_BYTES p) p else s
  if bits old 0 3 = bits v 0 3 then s else (s.linkDrop p).sf F.NET_STAT_DOWNSHIFTED 0 p

/-- Is a change of speed of port p refused (R353)? Log 118. -/
def Mach.speedHeld (s : Mach) (p sp : Nat) : Bool := s.gf F.NET_CFG_SPEED p != sp && s.activePort == p && s.power == 0

/-- Does any record, live, shadow, staged or pending as a timed or next-tick item, satisfy p (R116, R159)? -/
def Mach.anyRec (s : Mach) (kind : Nat) (p : List Byte → Bool) : Bool :=
  s.rend.recs.any (fun e => e.1 / 4096 == kind && (p e.2.live || p e.2.shadow || p e.2.stage))
    || (s.cmd.latch ++ s.cmd.timed).any (fun t => t.key / 4096 == kind && p t.p)

/-- May the bulk-delay region be disabled (R116)? Log 82. -/
def Mach.bulkFree (s : Mach) : Bool := !s.anyRec K.GEOREC (fun l => fld l 20 4 != 0)

/-- May the correction region be disabled (R159)? Log 82. -/
def Mach.corrFree (s : Mach) : Bool :=
  !s.rend.feeds.any (fun e => (e.2.a.state == 2 && !e.2.a.builtin) || (e.2.b.state == 2 && !e.2.b.builtin))
    && !s.anyRec K.EQ (fun l => decide (143 < fld l 320 2 % 2 ^ 14))
    && !s.rend.feeds.any (fun e => (match e.2.trimXf with
        | some (o, _) => decide (143 < o) || decide (143 < e.2.trim) || decide (143 < e.2.trimPend.getD 0)
        | none => false))

/-- The bulk-delay region comes on: every unit reads as zero until it is written (R580). -/
def Mach.bulkEnable (s : Mach) : Mach :=
  s.onRend (fun q => { q with omem := q.omem.map (fun e => (e.1, { e.2 with stage := [], todo := [], lost := [], since := none })) })

/-- Set or clear EN of the bulk-delay region with a base (R116). -/
def Mach.bulkRegion (s : Mach) (base : Nat) (en : Bool) : Mach :=
  let t := (s.wr R.RENDER_BULK_BASE_LO (base % 2 ^ 32)).wr R.RENDER_BULK_BASE_HI (base / 2 ^ 32 % 256)
  if en then (t.sf F.RENDER_BULK_BASE_HI_EN 1).bulkEnable else t

/-- BULK_BASE_WRITE: a write of BULK_BASE_HI. -/
def bulkBaseWrite (v : Nat) (s : Mach) : Mach :=
  if s.bulkOn then (if bitOf v 31 || !s.bulkFree then s else s.sf F.RENDER_BULK_BASE_HI_EN 0)
  else
    let s := s.wr R.RENDER_BULK_BASE_HI (v % 256)
    if bitOf v 31 && s.regionOk 0 s.bulkBase bulkSize then (s.sf F.RENDER_BULK_BASE_HI_EN 1).bulkEnable else s

/-- The correction region comes on: spectra and trim lines are unwritten, also where the write stage held samples (R160). -/
def Mach.corrEnable (s : Mach) : Mach :=
  s.onRend (fun q => { q with feeds := q.feeds.map (fun e => (e.1, { e.2 with
    hist := [], lost := [], todo := [], line := e.2.line.take 160, lineTodo := [],
    lineLost := (upto 11).map (fun k => s.tm.tick - 1 - k) })) })

def Mach.corrRegion (s : Mach) (base : Nat) (en : Bool) : Mach :=
  let t := (s.wr R.FEED_CORR_BASE_LO (base % 2 ^ 32)).wr R.FEED_CORR_BASE_HI (base / 2 ^ 32 % 256)
  if en then (t.sf F.FEED_CORR_BASE_HI_EN 1).corrEnable else t

/-- CORR_BASE_WRITE: a write of CORR_BASE_HI (R159). -/
def corrBaseWrite (v : Nat) (s : Mach) : Mach :=
  if s.corrOn then (if bitOf v 31 || !s.corrFree then s else s.sf F.FEED_CORR_BASE_HI_EN 0)
  else
    let s := s.wr R.FEED_CORR_BASE_HI (v % 256)
    if bitOf v 31 && s.regionOk 1 s.corrBase corrSize then (s.sf F.FEED_CORR_BASE_HI_EN 1).corrEnable else s

/-- HP_COMMIT: the staged HP_CFG fields apply at the next token (R149). -/
def hpCommit (v : Nat) (s : Mach) : Mach := s.when (bitOf v 0) (·.askCommit 3)

/-- FW_PUSH_GO by a plain register write: the signature check's outcome is taken from the write that carries it. -/
def Mach.writeSys (s : Mach) (w : RegRow) (v : Nat) (pcie valid : Bool) : Mach :=
  let r := w.reg
  if r = R.SYS_FW_PUSH_GO then fwPushGo v valid s
  else if r = R.SYS_BLK_RST then blkRstWrite v pcie s
  else if r = R.SYS_FW_PUSH_LEN then
    if inRange 1 0x800000 v then s.wr r v else s.evt F.SYS_EVT_REFUSED
  else if r = R.SYS_FW_PUSH_ADDR then
    if v % 64 = 0 && v < 0x1000000 then s.wr r v else s.evt F.SYS_EVT_REFUSED
  else s.plainWrite w 0 0 v

def Mach.writeClk (s : Mach) (w : RegRow) (i j v : Nat) : Mach :=
  let r := w.reg
  if i = 3 && 3 < s.phase && r.n1 = 4 then s.evt F.CLK_EVT_REFUSED
  else if r = R.CLK_PLL_COMMIT then pllCommit i v s
  else if r = R.CLK_PLL_OUT_SAFE then s.pllSafeWrite i j v
  else if r = R.CLK_PLL_BAND_RANGE then s.pllBandWrite i j false v
  else if r = R.CLK_PLL_BAND_CODE then s.pllBandWrite i j true v
  else
    let bad := if r = R.CLK_SYS_CFG then !inRange 1 1000 (bits v 0 10)
      else if r = R.CLK_PLL_LOCK_CFG then !(inRange 10 1000 (bits v 0 10) && inRange 16 65535 (bits v 10 16))
      else if r = R.CLK_PLL_CTRL then !inRange 8 511 (bits v 0 10)
      else if r = R.CLK_PLL_OUT_DIV then !inRange 2 262142 (bits v 0 18)
      else if r = R.CLK_PLL_OUT_PHASE then bits v 0 18 != 0 && decide (s.gf F.CLK_PLL_OUT_DIV_HDIV i j ≤ bits v 0 18)
      else false
    if bad then s.evt F.CLK_EVT_REFUSED
    else s.plainWrite w i j (if r = R.CLK_PLL_CTRL && i != 1 then bits v 0 16 else v)

def Mach.writeAsp (s : Mach) (w : RegRow) (i v : Nat) : Mach :=
  let r := w.reg
  if r = R.ASP_CTRL then aspCtrlWrite i v s
  else if r = R.ASP_COMMIT then aspCommit i v s
  else if r = R.ASP_MASK then aspMaskWrite i v false s
  else if r = R.ASP_CNT_CLR then aspCntClr i v s
  else if r = R.ASP_BANK_CFG then aspBankCfgWrite i v s
  else s.plainWrite w i 0 v

def Mach.writeNet (s : Mach) (w : RegRow) (i j v : Nat) : Mach :=
  let r := w.reg
  if r = R.NET_CFG then
    if !inRange 1 4 (bits v 0 3) || s.speedHeld i (bits v 0 3) then s else s.netCfg i v
  else if r = R.NET_CT_CFG then
    if inRange 256 9216 (bits v 0 14) then (s.wr r (bits v 0 14) i).sf F.NET_CT_LIVE_BYTES (bits v 0 14) i else s
  else if r = R.NET_CNT_CLR then netCntClr i v s
  else if r = R.NET_RX_CTRL then s.rxCtrl i j v
  else if r = R.NET_TX_CTRL then s.txCtrl i j v
  else if r = R.NET_RX_TAIL then netRxTailWrite i j v s
  else if r = R.NET_RX_POOL_TAIL then netPoolTailWrite i j v s
  else if r = R.NET_TX_TAIL then netTxTailWrite i j v s
  else if [R.NET_RX_BASE_LO, R.NET_RX_BASE_HI, R.NET_RX_POOL_LO, R.NET_RX_POOL_HI].contains r then
    if s.on F.NET_RX_CTRL_EN i j then s else s.plainWrite w i j v
  else if r = R.NET_TX_BASE_LO || r = R.NET_TX_BASE_HI then
    if s.on F.NET_TX_CTRL_EN i j then s else s.plainWrite w i j v
  else if r = R.STRM_REGION_HI then strmRegionWrite v s
  else if r = R.STRM_REGION_LO then (if s.strmOn then s else s.plainWrite w i j v)
  else if r = R.STRM_CNT_CLR then strmCntClr v s
  else if rangeOk r v then s.plainWrite w i j v
  else s

/-- TIME_LAT_COMMIT: the staged monitor fields apply at the next token (R50). Log 28. -/
def timeLatCommit (v : Nat) (s : Mach) : Mach := s.when (bitOf v 0) (·.askCommit 5)

def Mach.writeTime (s : Mach) (w : RegRow) (i v : Nat) : Mach :=
  let r := w.reg
  if r = R.TIME_LAT_COMMIT then timeLatCommit v s
  else if r = R.TIME_COMMIT then timeCommit v s
  else if r = R.TIME_ADJ_CTRL then timeAdjGo v s
  else if r = R.TIME_FAILOVER then timeFailoverGo v s
  else if r = R.TIME_EVTQ_POP then evtqPop v s
  else if r = R.TIME_PORT_TXTS_POP then txtsPop i v s
  else if rangeOk r v then s.plainWrite w i 0 v
  else s

def Mach.writeDma (s : Mach) (w : RegRow) (i v : Nat) (pcie : Bool) : Mach :=
  let r := w.reg
  if r.n1 = 32 then
    if pcie && 28 ≤ i then s.evt F.DMA_EVT_REFUSED
    else if r = R.DMA_CTRL then
      if bitOf v 1 then dmaCtrlStop i pcie s
      else if bitOf v 0 then dmaGo i v pcie s
      else if s.on F.DMA_STAT_BUSY i then s
      else s.wr r (v &&& 0x3FC) i
    else if r = R.DMA_HOPMAX then (if bits v 0 16 = 0 then s else s.plainWrite w i 0 v)
    else if s.on F.DMA_STAT_BUSY i then s
    else s.plainWrite w i 0 v
  else s.plainWrite w i 0 v

def Mach.writeDdrc (s : Mach) (w : RegRow) (v : Nat) : Mach :=
  let r := w.reg
  if r = R.DDRC_FREQ_CTRL then ddrcFreqGo v s
  else if r = R.DDRC_ECC_CLR then ddrcEccClr v s
  else if r = R.DDRC_CNT_CLR then ddrcCntClr v s
  else if r = R.DDRC_CFG then
    let hi := bits v 8 7
    let lo := bits v 16 7
    if bits v 0 3 ≤ 5 && decide (lo < hi) && decide (hi ≤ 64) && bits v 24 8 != 0 then s.plainWrite w 0 0 v
    else s.evt F.DDRC_EVT_REFUSED
  else if rangeOk r v then s.plainWrite w 0 0 v
  else s

def Mach.writeFab (s : Mach) (w : RegRow) (i v : Nat) : Mach :=
  let r := w.reg
  if r = R.FAB_MIN_CLR then fabMinClr v s
  else if r = R.FAB_IBEX_APPROVE then ibexApproveWrite v s
  else if rangeOk r v then s.plainWrite w i 0 v
  else s

def Mach.writeRender (s : Mach) (w : RegRow) (i v : Nat) : Mach :=
  let r := w.reg
  if r = R.RENDER_COMMIT then renderCommitGen v (renderCommitInput v s)
  else if r = R.RENDER_INSEL then inselWrite i v s
  else if r = R.RENDER_PLAY_CTRL then playCtrlWrite i v s
  else if r = R.RENDER_PLAY_WR then playWrWrite i v s
  else if r = R.RENDER_PLAY_SIZE then
    if s.on F.RENDER_PLAY_CTRL_EN i || !ringSizeOk v then s else s.wr r v i
  else if r = R.RENDER_PLAY_BASE_LO || r = R.RENDER_PLAY_BASE_HI then
    if s.on F.RENDER_PLAY_CTRL_EN i then s else s.plainWrite w i 0 v
  else if r = R.RENDER_BULK_BASE_LO then (if s.bulkOn then s else s.plainWrite w i 0 v)
  else if r = R.RENDER_BULK_BASE_HI then bulkBaseWrite v s
  else if r = R.RENDER_HP_COMMIT then hpCommit v s
  else if rangeOk r v then s.plainWrite w i 0 v
  else s

def Mach.writeFeed (s : Mach) (w : RegRow) (i v : Nat) : Mach :=
  let r := w.reg
  if r = R.FEED_OUT_COMMIT then outCommit v s
  else if r = R.FEED_OUTSEL then outselWrite i v s
  else if r = R.FEED_HWMUTE_CFG then hwmuteCfgWrite v s
  else if r = R.FEED_HWMUTE_CLR then hwmuteClrWrite v s
  else if r = R.FEED_CAP_CTRL then capCtrlWrite i v s
  else if r = R.FEED_CAP_SIZE then
    if s.on F.FEED_CAP_CTRL_EN i || !ringSizeOk v then s else s.wr r v i
  else if r = R.FEED_CAP_BASE_LO || r = R.FEED_CAP_BASE_HI then
    if s.on F.FEED_CAP_CTRL_EN i then s else s.plainWrite w i 0 v
  else if r = R.FEED_CAP_RD then
    if v % 64 != 0 || s.gf F.FEED_CAP_SIZE_BYTES i ≤ v then s else s.wr r v i
  else if r = R.FEED_CORR_BASE_LO then (if s.corrOn then s else s.plainWrite w i 0 v)
  else if r = R.FEED_CORR_BASE_HI then corrBaseWrite v s
  else if rangeOk r v then s.plainWrite w i 0 v
  else s

def Mach.writeMeas (s : Mach) (w : RegRow) (i v : Nat) : Mach :=
  let r := w.reg
  if r = R.MEAS_COMMIT then measCommit v s
  else if r = R.MEAS_CH_STR_CTRL then measStrCtrlWrite i v s
  else if r = R.MEAS_CH_STR_SIZE then
    if s.on F.MEAS_CH_STR_CTRL_EN i || v % 256 != 0 || !inRange 0x1000 0x1000000 v then s else s.wr r v i
  else if r = R.MEAS_CH_STR_BASE_LO || r = R.MEAS_CH_STR_BASE_HI then
    if s.on F.MEAS_CH_STR_CTRL_EN i then s else s.plainWrite w i 0 v
  else if r = R.MEAS_CH_STR_RD then
    if v % 256 != 0 || s.gf F.MEAS_CH_STR_SIZE_BYTES i ≤ v then s else s.wr r v i
  else match findPos (fun q => q == r) measRegs with
    | some k => if s.measOk k v then s.plainWrite w i 0 v else s.evt F.MEAS_EVT_REFUSED
    | none => s.plainWrite w i 0 v

def Mach.writeSched (s : Mach) (w : RegRow) (i v : Nat) : Mach :=
  let r := w.reg
  if r = R.SCHED_GRP_WEIGHT then
    if inRange 1 255 v then s.wr r v i else s.evt F.SCHED_EVT_REFUSED
  else if r = R.SCHED_GRP_RESV then
    let sum := (upto 8).foldl (fun a g => a + (if g = i then v else s.resvOf g)) 0
    if 64 < v || 224 < sum then s.evt F.SCHED_EVT_REFUSED else s.wr r v i
  else if rangeOk r v then s.plainWrite w i 0 v
  else s

def Mach.writeCmd (s : Mach) (w : RegRow) (i v : Nat) : Mach :=
  let r := w.reg
  if r = R.CMD_QP_CTRL then qpCtrlWrite i v s
  else if r = R.CMD_QP_CQ_TAIL then pcieCqTailWrite i v s
  else if r = R.CMD_QP_RQ_HEAD then pcieRqHeadWrite i v s
  else if [R.CMD_QP_CQ_BASE_LO, R.CMD_QP_CQ_BASE_HI, R.CMD_QP_RQ_BASE_LO, R.CMD_QP_RQ_BASE_HI, R.CMD_QP_WB_LO, R.CMD_QP_WB_HI].contains r then
    if s.on F.CMD_QP_CTRL_EN i then s else s.plainWrite w i 0 v
  else if r = R.CMD_SPI_CFG then
    let t := s.wr r (v % 4)
    if s.on F.CMD_SPI_CFG_EN && !bitOf v 0 then
      (t.closeXport (fun x => decide (x = .spi))).onCmd (fun c => { c with spiQ := [], spiWait := [] })
    else t
  else if rangeOk r v then s.plainWrite w i 0 v
  else s

def Mach.writeErr (s : Mach) (w : RegRow) (i v : Nat) : Mach :=
  if w.reg = R.ERR_ACK then errAckWrite v s
  else if rangeOk w.reg v then s.plainWrite w i 0 v
  else s

/-- A write of the word at an address of the register region: bits no field takes are ignored (R8), but for WEIGHT, which refuses a
word above 255 (R383). `pcie`: it comes from PCIE_IN. `valid`: the outcome of the
signature check that a write of FW_PUSH_GO starts. Log 124. -/
def Mach.regWrite (s : Mach) (a v : Nat) (pcie valid : Bool) : Mach :=
  let v := v % 2 ^ 32
  match regAt a with
  | none => s
  | some (w, i, j) =>
    let b := w.reg.base
    let v := if w.reg = R.SCHED_GRP_WEIGHT then v else v &&& w.takes
    if !s.instOk w.reg i then s
    else if b < 0x100000 then s.writeSys w v pcie valid
    else if b < 0x200000 then s.writeClk w i j v
    else if b < 0x300000 then s.writeAsp w i v
    else if b < 0x380000 then s.writeNet w i j v
    else if b < 0x400000 then s.writeTime w i v
    else if b < 0x500000 then s.writeDma w i v pcie
    else if b < 0x600000 then (if w.reg = R.MATRIX_ERR_CLR then matrixErrClr v s else s.plainWrite w i j v)
    else if b < 0x700000 then s.writeDdrc w v
    else if b < 0x800000 then s.writeFab w i v
    else if b < 0x900000 then s.writeRender w i v
    else if b < 0xA00000 then s.writeFeed w i v
    else if b < 0xB00000 then s.writeMeas w i v
    else if b < 0xC00000 then s.writeSched w i v
    else if b < 0xD00000 then s.writeCmd w i v
    else if b < 0xE00000 then s.writeErr w i v
    else (s.plainWrite w i j v).unmask

/-- REGISTER_WRITE: an aligned word written over the interconnect, by PCIE_IN or a control core; an isolated block answers
ERR_ISOLATED and is not written, and in D3hot BAR0 decodes nothing (R553). Log 124. -/
def registerWrite (a v : Nat) (pcie valid : Bool) (s : Mach) : Mach :=
  if 0x1000000 ≤ a || (pcie && s.d3hot) then s
  else
    let m := if pcie then 6 else 0
    let c := s.matrixCode m 0 a 4 true
    if c = 0 then s.regWrite a v pcie valid else s.busErr m 0 (s.target a) a 4 c true

/-! ## Bus responses (R475) -/

/-- BUS_RESPONSE: target t completes the oldest transaction of a master and ID; a read or write that it refuses carries an
error code. Log 50. -/
def busResponse (m id t : Nat) (wr : Bool) (code : Nat) (s : Mach) : Mach :=
  match s.oldestOut m id t wr with
  | none => s
  | some x =>
    let s := s.finish x
    let code := if 7 ≤ code then 1 else code
    if code != 0 then (s.deliver x code []).arbitrate
    else
      let reg := decide (t ≤ 2)
      if wr then
        let low (s : Mach) : Mach := s.regWrite x.addr (leNat (x.data.take 4)) (x.master == 6) false
        let high (s : Mach) : Mach := s.regWrite (x.addr + 4) (leNat ((x.data.drop 4).take 4)) (x.master == 6) false
        let (c, s) := if reg then (0, (low s).when (x.len == 8) high)
          else if t = 5 then s.dramWrite x.addr x.data
          else (0, s.mwr x.addr x.data)
        (s.deliver x c []).arbitrate
      else if reg then
        let (v, s) := s.regRead x.addr
        let (d, s) := if x.len = 8 then (let (h, s) := s.regRead (x.addr + 4); (toLE 4 v ++ toLE 4 h, s)) else (toLE 4 v, s)
        (s.deliver x 0 d).arbitrate
      else if t = 5 && s.badRange x.addr x.len then ((s.readRange 0 x.addr x.len).deliver x 1 []).arbitrate
      else
        let s := if t = 5 then s.readRange 0 x.addr x.len else s
        (s.deliver x 0 (s.mrd x.addr x.len)).arbitrate

end Sys2Proof.Machine
end

