-- ==== Sys2Proof/Machine/OpBase.lean ====
section
/-! DEFINITION. What the opcodes share: checks in packet order, timing blocks, lists, buffer references, record validation,
placement, and the latched and timed items of a token (R262, R266 to R270, R290, R293 to R297, R339, R340). -/
namespace Sys2Proof.Machine

/-! ## Checks in order -/

/-- A detail the manual does not state: a free value at release. Log 70. -/
def openDet : Nat := 65536
/-- A refusal when a condition holds. -/
def failIf (c : Bool) (st det : Nat) (data : List Byte := []) : Option Res := if c then some (Res.fail st det data) else none
/-- Refusals whose DETAIL the manual does not state. Log 8, 70. -/
def failOpen (c : Bool) (st : Nat) : Option Res := failIf c st openDet
/-- The first refusal of a list of checks. Log 69. -/
def firstOf (l : List (Option Res)) : Option Res := l.findSome? id
/-- LENGTH of the packet whose payload is p. -/
def lenOf (p : List Byte) : Nat := p.length + 20
/-- LENGTH must be n (R262 step 7). -/
def lenIs (p : List Byte) (n : Nat) : Option Res := failIf (lenOf p != n) ST.BAD_LENGTH n
/-- Field at a packet offset. -/
def pf (p : List Byte) (o n : Nat) : Nat := fld p (o - 16) n
/-- Signed field at a packet offset. -/
def psf (p : List Byte) (o n : Nat) : Int := sfld p (o - 16) n
/-- Reserved bytes must be zero. -/
def resv (p : List Byte) (o n : Nat) : Option Res := failIf (!allZero (slice p (o - 16) n)) ST.BAD_PARAM o
/-- A field at a packet offset that must lie in a range. -/
def within (p : List Byte) (o n lo hi : Nat) : Option Res := failIf (!inRange lo hi (pf p o n)) ST.OUT_OF_RANGE o
/-- A field that takes codes up to hi. -/
def codeTo (p : List Byte) (o n hi : Nat) : Option Res := failIf (decide (hi < pf p o n)) ST.BAD_PARAM o

/-- Run a body unless a check fails. -/
def Mach.guard (s : Mach) (c : Option Res) (f : Mach → Mach × Res) : Mach × Res :=
  match c with
  | some r => (s, r)
  | none => f s

/-- Read registers in order, with what each read clears (R10). -/
def Mach.readAll (s : Mach) (l : List Nat) : List Byte × Mach :=
  l.foldl (fun (acc : List Byte × Mach) a => let (v, t) := acc.2.regRead a; (acc.1 ++ toLE 4 v, t)) ([], s)

/-! ## Lists (R294, R295) -/

/-- COUNT of a list at packet offset l. -/
def countOf (p : List Byte) (l : Nat) : Nat := pf p l 2
/-- LENGTH suits the COUNT given. -/
def listLen (p : List Byte) (l size : Nat) : Option Res := lenIs p (l + 8 + countOf p l * size)
/-- COUNT and the reserved word behind it. Log 69. -/
def listHead (p : List Byte) (l max_ : Nat) : Option Res :=
  firstOf [failIf (countOf p l == 0 || decide (max_ < countOf p l)) ST.BAD_PARAM l, resv p (l + 2) 2]
/-- Entries with their packet offsets. -/
def entriesOf (p : List Byte) (l size : Nat) : List (Nat × List Byte) :=
  (upto (countOf p l)).map (fun i => (l + 4 + i * size, slice p (l + 4 + i * size - 16) size))
/-- Check entries in order: the target, a target named twice, then the rest of the entry. -/
def scanEntries (key : List Byte → Nat) (target rest : Nat → List Byte → Option Res) :
    List Nat → List (Nat × List Byte) → Option Res
  | _, [] => none
  | seen, (o, e) :: r =>
    match firstOf [target o e, failIf (seen.contains (key e)) ST.BAD_PARAM o, rest o e] with
    | some x => some x
    | none => scanEntries key target rest (key e :: seen) r
/-- First entry that fails, where a target may be named again. -/
def eachEntry (chk : Nat → List Byte → Option Res) : List (Nat × List Byte) → Option Res
  | [] => none
  | (o, e) :: r => match chk o e with
    | some x => some x
    | none => eachEntry chk r

/-! ## Placement (R31, R270, R289, R290, R340) -/

/-- When a command takes effect. -/
inductive Eff where
  | imm
  | next (late : Bool)
  | scene
  | time (t : Nat)
  deriving DecidableEq, Repr

/-- Is a stated time due at the token of tick m? Log 63. -/
def dueAt (t m : Nat) : Bool := decide (t * 6 ≤ m * 1000000)

/-- The first tick whose token finds a stated time due. Log 63. -/
def tokenOf (t : Nat) : Nat := (t * 6 + 999999) / 1000000

/-- Mode function f will have when a command of effect e takes effect: true for HOST (R270). -/
def Mach.modeAt (s : Mach) (f : Nat) (e : Eff) : Bool :=
  let now := s.hostMode f
  match mfind s.cmd.place f with
  | none => now
  | some (h, it) =>
    match e with
    | .imm => now
    | .next _ => if it.t = 0 || dueAt it.t (s.tm.tick + 1) then h else now
    | .scene => now
    | .time t => if tokenOf it.t ≤ tokenOf t then h else now

/-- Refusal of a command that function f takes in HOST mode only (`host`) or in HW mode only. -/
def Mach.needs (s : Mach) (f : Nat) (host : Bool) (e : Eff) : Option Res :=
  failIf (s.modeAt f e != host) ST.WRONG_PLACEMENT f

/-! ## Timing blocks (R267, R268) -/

/-- Is the grid FREE (R35)? Log 71. -/
def Mach.gridFree (s : Mach) : Bool := s.gf F.TIME_GRID_STAT_STATE == 0

/-- Network time of a timing block, ns. -/
def stated (p : List Byte) : Nat := pf p 18 6 * 1000000000 + pf p 24 4

/-- Checks of a timing block. Log 63, 71. -/
def Mach.timingChk (s : Mach) (classes : Nat) (p : List Byte) : Option Res :=
  let c := pf p 16 1
  let at_ := c == 3
  firstOf [failIf (decide (3 < c) || !bitOf classes c) ST.BAD_PARAM 16, failIf (at_ && s.gridFree) ST.NOT_READY 16, resv p 17 1,
    failIf (at_ && decide (s.tm.netNs + 3600000000000 < stated p)) ST.OUT_OF_RANGE 18,
    failIf (at_ && decide (1000000000 ≤ pf p 24 4)) ST.OUT_OF_RANGE 24, resv p 28 4]

/-- The effect a timing block asks for: a time that has passed is handled as NEXT_TICK. -/
def Mach.effOf (s : Mach) (p : List Byte) : Eff :=
  match pf p 16 1 with
  | 0 => .imm
  | 1 => .next false
  | 2 => .scene
  | _ => if stated p < s.tm.netNs then .next true else .time (stated p)

/-- Timing classes of an opcode. -/
def classesOf (op : Nat) : Nat := ((opInfo op).map (·.classes)).getD 1

/-! ## Latched and timed items (R268, R297) -/

/-- An item to be placed: its key and its bytes. -/
structure Put where
  key : Nat
  p : List Byte

/-- Timed items pending, placement changes included. -/
def Mach.timedCount (s : Mach) : Nat := s.cmd.timed.length + (s.cmd.place.filter (fun e => e.2.2.t != 0)).length

/-- The pending timed item of a key. -/
def Mach.timedOf (s : Mach) (key : Nat) : Option Item := s.cmd.timed.find? (fun i => i.key == key)

/-- Latch items for the next token; the last one carries the reply. -/
def Mach.latchPuts (s : Mach) (o : Origin) (op : Nat) (late : Bool) (l : List Put) : Mach × Res :=
  let n := l.length
  let base := s.cmd.ord
  let its := l.zipIdx.map (fun (x, i) => (⟨o, op, x.p, 0, base + i, x.key, i + 1 == n, late⟩ : Item))
  (s.onCmd (fun c => { c with latch := c.latch ++ its, ord := base + n }), Res.nextTick (b2n late))

/-- Enter timed items; `one` when the opcode keeps one per key (R297). -/
def Mach.timePuts (s : Mach) (o : Origin) (op t : Nat) (one : Bool) (l : List Put) : Mach × Res :=
  let n := l.length
  let olds := if one then l.filter (fun x => (s.timedOf x.key).isSome) else []
  if 4096 < s.timedCount + n - olds.length then (s, Res.fail ST.QUEUE_FULL openDet)
  else
    let base := s.cmd.ord
    let its := l.zipIdx.map (fun (x, i) => (⟨o, op, x.p, t, base + i, x.key, false, false⟩ : Item))
    let keep := if one then s.cmd.timed.filter (fun i => !l.any (fun x => x.key == i.key)) else s.cmd.timed
    (s.onCmd (fun c => { c with timed := keep ++ its, ord := base + n }),
     { Res.accepted with det := if olds.isEmpty then 0 else 2 })

/-! ## Records (R64 to R69, R296) -/

/-- Whole-record base of a partial write (R296). -/
def Mach.baseRec (s : Mach) (e : Eff) (kind i : Nat) : List Byte :=
  let r := s.recd kind i
  match e with
  | .scene => r.stage
  | .time _ => ((s.timedOf (rkey kind i)).map (·.p)).getD r.shadow
  | _ => r.shadow

/-- Place whole records by their effect: a next-tick write also reaches the shadow at once (R67). -/
def Mach.putRecords (s : Mach) (o : Origin) (op : Nat) (e : Eff) (one : Bool) (l : List (Nat × Nat × List Byte)) : Mach × Res :=
  let puts := l.map (fun x => (⟨rkey x.1 x.2.1, x.2.2⟩ : Put))
  match e with
  | .scene => (s.each l (fun s x => s.putStage x.1 x.2.1 x.2.2), Res.accepted)
  | .time t => s.timePuts o op t one puts
  | .next late =>
    (s.each l (fun s x => s.setRec x.1 x.2.1 { s.recd x.1 x.2.1 with shadow := x.2.2 })).latchPuts o op late puts
  | .imm => s.latchPuts o op false puts

/-! ### Validation: status and offset of the first failing field within the record -/

/-- First failing check of a record. -/
def recFirst (l : List (Bool × Nat × Nat)) : Option (Nat × Nat) := (l.find? (·.1)).map (·.2)
/-- Reserved bytes of a record. -/
def rz (l : List Byte) (o n : Nat) : Bool × Nat × Nat := (!allZero (slice l o n), ST.BAD_PARAM, o)
def rng (c : Bool) (st o : Nat) : Bool × Nat × Nat := (c, st, o)

/-- Pole tests of n biquads (R65): the coefficient that fails. Log 91. -/
def bqBad (l : List Byte) (n : Nat) : List (Bool × Nat × Nat) :=
  (upto n).flatMap (fun k =>
    let c := bqOf l (20 * k)
    [rng (!decide ((c.a1.natAbs : Int) < 2 ^ 28 + c.a2)) ST.BAD_PARAM (20 * k + 12), rng (!c.stable) ST.BAD_PARAM (20 * k + 16)])

/-- The refusal R82 gives a speaker table: the first failing case, counted from 1. Entries at and above `lim` are not
validated (R299). -/
def tabBad (lim : Nat) (l : List Byte) : Option Nat :=
  let n := fld l 4 2
  let t := fld l 6 2
  let body := l.take 24 ++ List.replicate 4 (0 : Byte) ++ l.drop 28
  let tab := tabOf l
  let tri (j : Nat) : Nat := 32 + 32 * n + 8 * j
  let cases : List Bool :=
    [fld l 0 2 != 0x5354 || fld l 2 2 != 1 || fld l 24 4 != crc32c body,
     n == 0 || decide (512 < n) || decide (1024 < t),
     !allZero (slice l 20 4) || !allZero (slice l 28 4)
       || (upto (Nat.min n lim)).any (fun k => let o := 32 + 32 * k
            fld l (o + 12) 2 &&& 0xFCF0 != 0 || decide (0x8000 < fld l (o + 14) 2) || !allZero (slice l (o + 22) 10))
       || (upto t).any (fun j => fld l (tri j + 6) 2 != 0),
     (match tab with
       | some x => (x.spk.take lim).any (fun p => !p.aimOk)
       | none => true),
     (match tab with
       | some x => x.tris.any (fun q => decide (n ≤ q.a ∨ n ≤ q.b ∨ n ≤ q.c ∨ q.a = q.b ∨ q.b = q.c ∨ q.a = q.c))
       | none => true),
     (match tab with
       | some x => x.tris.any (fun q => triThin x q)
       | none => true),
     (match tab with
       | some x => x.tris.any (fun q => triNear x q)
       | none => true)]
  (findPos id cases).map (· + 1)
where
  /-- Vector from C to a speaker. -/
  toSpk (x : SpkTab) (s : Spk) : Rat × Rat × Rat := (q16 (s.x - x.cx), q16 (s.y - x.cy), q16 (s.z - x.cz))
  /-- Is the triangle degenerate as seen from C? -/
  triThin (x : SpkTab) (q : Tri) : Bool :=
    match x.spk[q.a]?, x.spk[q.b]?, x.spk[q.c]? with
    | some a, some b, some c =>
      let u (s : Spk) : Rat × Rat × Rat :=
        let v := toSpk x s
        let r := vlen v.1 v.2.1 v.2.2
        (dv v.1 r, dv v.2.1 r, dv v.2.2 r)
      let p := u a; let q := u b; let r := u c
      decide (absQ (p.1 * (q.2.1 * r.2.2 - r.2.1 * q.2.2) - q.1 * (p.2.1 * r.2.2 - r.2.1 * p.2.2)
        + r.1 * (p.2.1 * q.2.2 - q.2.1 * p.2.2)) < 1 / 1000)
    | _, _, _ => true
  /-- Does the triangle name a speaker closer than 0.01 m to C? -/
  triNear (x : SpkTab) (q : Tri) : Bool := [q.a, q.b, q.c].any (spkNear x)
  /-- Is speaker k closer than 0.01 m to C? -/
  spkNear (x : SpkTab) (k : Nat) : Bool := match x.spk[k]? with
    | some s => let v := toSpk x s; decide (vlen v.1 v.2.1 v.2.2 < 1 / 100)
    | none => true

/-- Refusal of a record of each kind: status and offset (R17, R57, R65, R70, R77, R82, R84, R116, R175, R183, R191, R197).
Log 91. -/
def Mach.recBad (s : Mach) (kind : Nat) (l : List Byte) : Option (Nat × Nat) :=
  match kind with
  | 0 => match s.selBad 0 (fld l 0 2) with
    | some st => some (st, 0)
    | none => recFirst [rng (decide (1 < fld l 2 2)) ST.BAD_PARAM 2]
  | 1 => recFirst (bqBad l 4 ++ [rng (bits (fld l 80 4) 24 7 != 0) ST.BAD_PARAM 80, rz l 84 12])
  | 2 => ((upto 512).find? (fun f => bits (fld l (4 * f) 4) 24 7 != 0)).map (fun f => (ST.BAD_PARAM, 4 * f))
  | 3 =>
    let a := atmosOf l
    recFirst [rng (!inRange (300 * 65536) (400 * 65536) a.c) ST.BAD_PARAM 0,
      rng (!(decide (-4000 ≤ a.temp) && decide (a.temp ≤ 6000))) ST.BAD_PARAM 4,
      rng (decide (10000 < a.rh)) ST.BAD_PARAM 6, rng (!inRange 5000 11000 a.press) ST.BAD_PARAM 8,
      rng (!inRange 1000 12000 a.airFc) ST.BAD_PARAM 10, rng (!inRange 1 1000 a.cSlew) ST.BAD_PARAM 12,
      rng (decide (1 < fld l 14 2)) ST.BAD_PARAM 14]
  | 4 =>
    let g := geoOf l
    recFirst [rng (decide (3 < g.law)) ST.BAD_PARAM 0, rng (decide (1 < fld l 1 1)) ST.BAD_PARAM 1,
      rng (!inRange 1 512 g.pathLimit) ST.BAD_PARAM 4, rng (decide (120 < g.cull)) ST.BAD_PARAM 6,
      rng (decide (40 < g.hyst)) ST.BAD_PARAM 7, rng (g.dref == 0) ST.BAD_PARAM 8, rng (g.dmin == 0) ST.BAD_PARAM 10,
      rng (decide (0x1800 < g.dlaw)) ST.BAD_PARAM 12, rng (decide (0x1800 < g.rolloff)) ST.BAD_PARAM 14,
      rng (decide (180 < g.aperture)) ST.BAD_PARAM 18, rng (decide (g.aperture < g.taper)) ST.BAD_PARAM 19,
      rng (decide (262144 < g.bulk)) ST.BAD_PARAM 20, rng (g.bulk != 0 && !s.bulkOn) ST.NOT_READY 20, rz l 24 8]
  | 5 => (tabBad s.variant.feeds l).map (fun k => (ST.BAD_PARAM, k))
  | 6 =>
    let w := fld l 320 4
    recFirst (bqBad l 16 ++ [rng (w / 2 ^ 14 != 0) ST.BAD_PARAM 320, rng (decide (9600 < w)) ST.OUT_OF_RANGE 320,
      rng (decide (143 < w) && !s.corrOn) ST.NOT_READY 320, rz l 324 28])
  | 7 =>
    let th := sfld l 8 2
    recFirst [rng (bits (fld l 0 4) 24 8 != 0) ST.BAD_PARAM 0, rng (decide (7 < fld l 4 2)) ST.BAD_PARAM 4,
      rng (decide (64 < fld l 6 1)) ST.OUT_OF_RANGE 6, rng (decide (fld l 6 1 < fld l 7 1)) ST.OUT_OF_RANGE 7,
      rng (!(decide (-6000 ≤ th) && decide (th ≤ 4200))) ST.OUT_OF_RANGE 8, rng (!inRange 1 10000 (fld l 10 2)) ST.OUT_OF_RANGE 10,
      rng (decide (9600 < fld l 12 2)) ST.OUT_OF_RANGE 12, rz l 14 2]
  | 8 =>
    let pk := sfld l 0 2
    recFirst [rng (!(decide (-6000 ≤ pk) && decide (pk ≤ 0))) ST.OUT_OF_RANGE 0, rng (decide (200 < fld l 2 1)) ST.OUT_OF_RANGE 2,
      rng (decide (2 < fld l 3 1)) ST.OUT_OF_RANGE 3, rng (decide (1 < fld l 4 2)) ST.BAD_PARAM 4, rz l 6 2]
  | 10 => match s.selBad 1 (fld l 0 2) with
    | some st => some (st, 0)
    | none => recFirst [rng (fld l 2 2 != 0) ST.BAD_PARAM 2]
  | _ => none

/-- A record's refusal as a reply, its offset placed in the packet. -/
def Mach.recChk (s : Mach) (kind : Nat) (l : List Byte) (place : Nat → Nat) : Option Res :=
  (s.recBad kind l).map (fun x => Res.fail x.1 (place x.2))

/-! ## Buffers (R293) -/

/-- A buffer reference at a packet offset. -/
structure Buf where
  addr : Nat
  len : Nat
  at_ : Nat

def bufOf (p : List Byte) (o : Nat) : Buf := ⟨pf p o 8, pf p (o + 8) 4, o⟩

/-- Range and reserved checks of a reference, with what the opcode asks of its LEN, in the order of their offsets (R295). -/
def Mach.bufChk (s : Mach) (p : List Byte) (o : Nat) (lenChk : Option Res := none) : Option Res :=
  let b := bufOf p o
  let host := decide (hostBit ≤ b.addr)
  let a := b.addr
  let inS := decide (gsramBase ≤ a) && decide (a + b.len ≤ gsramBase + gsramSize)
  firstOf [failIf (!host && !(inS || s.inDram a b.len)) ST.OUT_OF_RANGE o,
    failIf (host && decide (2 * hostBit < a + b.len)) ST.OUT_OF_RANGE o,
    failOpen (host && !s.linkPcie) ST.NOT_READY, lenChk, resv p (o + 12) 4]

/-- The check of a destination buffer, with what a refused one in the birth record raises (R244): the WARN record names master 0.
Log 35. -/
def Mach.birthTry (s : Mach) (a n : Nat) (no : Option Res) : Mach := s.when no.isSome (·.birthWrite 0 a n)

/-- Response code of DRAM to every request while it is isolated or offline (R478, R500); 0 when it serves. -/
def Mach.dramCode (s : Mach) : Nat :=
  if s.inReset 6 then 4 else if s.gf F.DDRC_STAT_STATE == 5 || s.gf F.DDRC_STAT_STATE == 6 then 1 else 0

/-- Does an access of the buffer end in an error response? `err` is the host's own. Log 61. -/
def Mach.bufErr (s : Mach) (b : Buf) (wr err : Bool) : Bool :=
  if hostBit ≤ b.addr then err
  else if s.target b.addr = 5 then
    s.dramCode != 0 || (!wr && s.badRange b.addr b.len)
  else false

/-- The refusal of such an access. -/
def bufFault : Res := Res.fail ST.HW_FAULT 2

/-- What a read of a buffer leaves: lines of DRAM are read and checked (R501). -/
def Mach.bufTouch (s : Mach) (b : Buf) : Mach := if s.target b.addr = 5 then s.readRange 0 b.addr b.len else s
def Mach.bufRead (s : Mach) (b : Buf) : List Byte := s.mrd b.addr b.len

/-- An access of a buffer ends in an error response, which the matrix counts once; the host's own code is open. Log 61. -/
def Mach.bufBad (s : Mach) (b : Buf) (wr : Bool) : Mach :=
  if hostBit ≤ b.addr then
    let (n, s) := s.fresh
    s.busErr 7 28 6 b.addr b.len (1 + Config.openNat n % 3) wr
  else
    let code := if s.dramCode = 0 then 1 else s.dramCode
    (if s.dramCode = 0 && !wr then s.bufTouch b else s).busErr 7 28 5 b.addr b.len code wr

/-- Run `f` on the contents of a source buffer, or refuse. -/
def Mach.source (s : Mach) (b : Buf) (err : Bool) (f : List Byte → Mach → Mach × Res) : Mach × Res :=
  if s.bufErr b false err then (s.bufBad b false, bufFault) else f (s.bufRead b) (s.bufTouch b)

/-- Write to a destination buffer, then answer `r`; an access that ends in an error is refused: where the buffer cannot be
reached nothing is written, and a partial word that DRAM refuses leaves the others written (R293, R498). -/
def Mach.dest (s : Mach) (b : Buf) (err : Bool) (l : List Byte) (r : Res) : Mach × Res :=
  if s.bufErr b true err then (s.bufBad b true, bufFault)
  else
    let (c, s) := s.store b.addr l
    if c = 0 then (s, r) else (s.busErr 7 28 5 b.addr l.length c true, bufFault)

/-- The outcome of an observation: was it given as 1? Log 61. -/
def obsOn (obs : List Nat) (i : Nat) : Bool := obs.getD i 0 == 1

/-! ## Replies of a released command (R263, R264, R268) -/

/-- EFFECT_TICK of a command that has taken effect: the tick running, which is open before the first token. -/
def Mach.tickNow (s : Mach) : Nat × Mach :=
  if s.tm.ticking then (s.tm.tick, s) else let (n, s) := s.fresh; (Config.openNat n % 2 ^ 64, s)

/-- Enter a released command with its result. Log 62. -/
def Mach.releaseRes (s : Mach) (o : Origin) (op : Nat) (r : Res) : Mach :=
  let gone := o.sess != 255 && (mfind s.cmd.sess o.sess).isNone
  if gone then s
  else
    let s := s.onCmd (fun c => { c with rel := c.rel ++ [⟨o, op, none, 0⟩] })
    if r.tick || r.later then s
    else
      let (det, s) := if r.det = openDet then (let (n, s) := s.fresh; (Config.openNat n % 65536, s)) else (r.det, s)
      if r.st = ST.OK then (let (t, s) := s.tickNow; s.answer o.id r.st det t r.data)
      else s.answer o.id r.st det noTick r.data

/-- Sessions whose SYS_SESSION_CLOSE has been answered close (R342): entries 0x01020000 + session of `running` hold the
command's number. -/
def Mach.closeDone (s : Mach) : Mach :=
  s.each (s.cmd.running.filter (fun e => decide (0x01020000 ≤ e.1)
      && !s.cmd.rel.any (fun (r : Rel) => r.o.id == e.2 && r.o.sess == e.1 - 0x01020000))) (fun s e =>
    (s.onCmd (fun c => { c with running := mdel c.running e.1 })).closeSess (e.1 - 0x01020000))

/-- What every command ends with: due session closes, then the interrupts formed anew. -/
def Mach.after (s : Mach) : Mach := s.closeDone.settle

end Sys2Proof.Machine
end

