-- ==== Sys2Proof/Machine/Items.lean ====
section
/-! DEFINITION. What applies at a token: placement changes, SCN_COMMIT, timed items and latched commands (R24, R66 to R70,
R148, R165, R167, R269, R270, R289, R290, R301). -/
namespace Sys2Proof.Machine

/-! ## Placement changes (R289, R290) -/

/-- What a change of mode of function f brings with it. -/
def Mach.modeHook (s : Mach) (f : Nat) (host : Bool) : Mach :=
  if f = 1 && !host then
    s.onTime (fun t => { t with servoI := -((sext 32 (s.rd R.TIME_FREQ) : Rat) / 256) })
  else if f = 4 && !host then s.tryGrant
  else s

/-- Function f changes to a mode: the bit, the count, the record (R290). -/
def Mach.setMode (s : Mach) (f : Nat) (host : Bool) : Mach :=
  let s := s.sf F.SYS_PLACE_STAT_HOST (putBits (s.gf F.SYS_PLACE_STAT_HOST) f 1 (b2n host))
  ((s.bump R.SYS_PLACE_CHG).raise E.PLACE_CHG f (b2n host)).modeHook f host

/-- A pending change of function f, if any, ends. -/
def Mach.placeClear (s : Mach) (f : Nat) : Mach :=
  (s.onCmd (fun c => { c with place := mdel c.place f })).sf F.SYS_PLACE_STAT_PEND (putBits (s.gf F.SYS_PLACE_STAT_PEND) f 1 0)

/-- Keep a pending change of function f. Log 67. -/
def Mach.placeKeep (s : Mach) (f : Nat) (host : Bool) (it : Item) : Mach :=
  (s.onCmd (fun c => { c with place := mput c.place f (host, it) })).sf F.SYS_PLACE_STAT_PEND (putBits (s.gf F.SYS_PLACE_STAT_PEND) f 1 1)

/-- Host objects (R135). -/
def Mach.hostObjs (s : Mach) : Nat := (s.rend.hp.filter (fun e => e.2.host)).length

/-- Must a change of function f wait (R254, R289)? -/
def Mach.placeWaits (s : Mach) (f : Nat) : Bool :=
  (f == 4 && (s.rend.ibex.enterM3.isSome || s.rend.ibex.ret)) || (f == 6 && s.on F.TIME_STAT_FAILING)

/-- A placement change that has come due at the token of tick m. Its item's first byte holds REPLACED of its reply (R290). -/
def Mach.placeGo (s : Mach) (m f : Nat) (host : Bool) (it : Item) : Mach :=
  if s.placeWaits f then s else
    let s := s.placeClear f
    let say (s : Mach) (st det tick : Nat) : Mach := if it.reply then s.answer it.o.id st det tick [] else s
    if f = 0 && !host && s.hostObjs != 0 then
      say ((s.evt F.RENDER_HP_EVT_REFUSED).raise E.PLACE_DROP 0 s.hostObjs) ST.STATE 6 noTick
    else
      let s := if s.hostMode f != host then s.setMode f host else s
      say s ST.OK (fld it.p 0 1 ||| b2n it.late) m

/-- Placement changes of the token of tick m. -/
def Mach.placeToken (s : Mach) (m : Nat) : Mach :=
  s.each s.cmd.place (fun s e =>
    if e.2.2.t = 0 || dueAt e.2.2.t m then s.placeGo m e.1 e.2.1 e.2.2 else s)

/-! ## HP_CFG (R148, R149) -/

/-- An HP_CFG value becomes live for object o, as far as it is permitted. Log 68. -/
def Mach.applyHp (s : Mach) (o v : Nat) : Mach :=
  let hm := bits v 1 13
  let host := bitOf v 0
  let was := (s.hpo o).host
  let okM := inRange 1 6000 hm
  let okH := !host || s.hostMode 0
  let s := if okM && okH then s else s.evt F.RENDER_HP_EVT_REFUSED
  let s := s.setLv R.RENDER_HP_CFG (b2n (if okH then host else was) + 2 * (if okM then hm else s.glv F.RENDER_HP_CFG_HOLDMAX o)) o
  if !okH || host == was then s
  else if host then s.onHp o (fun h => { h with host := true, hold := 0, timed := false, empty := false, applied := [], denied := 0 })
  else s.onHp o (fun _ => HpObj.init)

/-- RENDER.HP_COMMIT at a token. -/
def Mach.commitHp (s : Mach) : Mach :=
  s.each (upto s.variant.objects) (fun s o =>
    let v := s.rd R.RENDER_HP_CFG o
    if v = s.lv R.RENDER_HP_CFG o then s else s.applyHp o v)

/-! ## Records at a token -/

/-- A swap request latched at the token of tick m; answers 2 when it replaced a pending one (R165, R166, R329). -/
def Mach.latchSwap (s : Mach) (m f k : Nat) (time : Option Nat) : Nat × Mach :=
  (if (s.feed f).pend.isSome then 2 else 0, s.swapRequest f k time m)

/-- A bank selection at a token: dropped when its target slot holds no bank (R301, R329). -/
def Mach.selectBank (s : Mach) (m f k : Nat) (time : Option Nat) : Nat × Mach :=
  if ((s.feed f).bank k).state = 2 then s.latchSwap m f k time else (0, s.raise E.SWAP_DROP f k)

/-- Fields of a generator that a mask names (R336). -/
def Mach.maskGen (s : Mach) (p : List Byte) : Mach :=
  let g := fld p 0 2
  let mk := fld p 2 2
  let pick (b o : Nat) (r : Reg) : Nat := if bitOf mk b then fld p o 4 else s.lv r g
  let keep (b : Nat) (r : Reg) (t : Mach) : Mach := if bitOf mk b then t else t.wr r (s.rd r g) g
  let t := s.applyGen g (pick 0 4 R.RENDER_GEN_CTRL) (pick 1 8 R.RENDER_GEN_FREQ) (pick 2 12 R.RENDER_GEN_LEVEL) (pick 3 16 R.RENDER_GEN_SEED)
  keep 3 R.RENDER_GEN_SEED (keep 2 R.RENDER_GEN_LEVEL (keep 1 R.RENDER_GEN_FREQ (keep 0 R.RENDER_GEN_CTRL t)))

/-- Registers of channel c after a masked write (R296, R357): the base is the staged registers. -/
def Mach.maskMeas (s : Mach) (p : List Byte) : List Nat :=
  let c := fld p 0 1
  let mk := fld p 1 1
  let pick (b o : Nat) (r : Reg) : Nat := if bitOf mk b then fld p o 4 &&& takesOf r else s.rd r c
  [pick 0 4 R.MEAS_CH_CFG, pick 1 8 R.MEAS_CH_LVL_CFG, pick 2 12 R.MEAS_CH_ANA_CFG, pick 3 16 R.MEAS_CH_ANA_N,
   pick 4 20 R.MEAS_CH_RES_BASE_LO, pick 4 24 R.MEAS_CH_RES_BASE_HI]

/-- A masked write of a measurement channel goes into its staged registers, and applies through MEAS.COMMIT (R357). -/
def Mach.putMeas (s : Mach) (p : List Byte) : Mach :=
  (s.each (measRegs.zip (s.maskMeas p)) (fun s x => s.wr x.1 x.2 (fld p 0 1)))

/-- Staged monitor fields become live: the monitors read as not valid until their next refresh, and mark anew (R50). Log 28. -/
def Mach.commitLat (s : Mach) : Mach :=
  s.each (upto 4) (fun s k =>
    let s := s.each [R.TIME_LAT_SRC, R.TIME_LAT_VIA, R.TIME_LAT_SINK] (fun s r => s.setLv r (s.rd r k) k)
    (s.onTime (fun t => { t with marks := mdel t.marks k })).sf F.TIME_LAT_STAT_VALID 0 k)

/-- An entry of TIME_LAT_SET goes into the staged fields of its monitor. -/
def Mach.stageLat (s : Mach) (e : List Byte) : Mach :=
  let k := fld e 0 1 % 4
  ((s.wr R.TIME_LAT_SRC (fld e 2 2) k).wr R.TIME_LAT_SINK (fld e 4 2 + 2 ^ 31 * (fld e 1 1 % 2)) k).wr R.TIME_LAT_VIA (fld e 8 4) k

/-- A record of a scene kind becomes live at the token of tick m. -/
def Mach.applyRec (s : Mach) (m kind i : Nat) (b : List Byte) : Mach :=
  match kind with
  | 0 => s.applyInsel i (fld b 0 4)
  | 3 => s.applyAtmos b
  | 5 => s.applyTable b
  | 9 => (s.selectBank m i (fld b 0 1) none).2
  | 10 => s.applyOutsel i (fld b 0 4)
  | k => s.putLive k i b

/-! ## SCN_COMMIT (R68, R301) -/

/-- SCN_COMMIT at the token of tick m: its reply data and the state. -/
def Mach.sceneCommit (s : Mach) (m : Nat) : List Byte × Mach :=
  let l := s.rend.recs.filter (fun e => e.2.dirty)
  let has (k : Nat) : List Nat := (l.filter (fun e => e.1 / 4096 == k)).map (fun e => e.1 % 4096)
  let banks := (l.filter (fun e => e.1 / 4096 == 9 && ((s.feed (e.1 % 4096)).bank (fld e.2.stage 0 1)).state == 2)).map (fun e => e.1 % 4096)
  let feeds := (has 6 ++ has 7 ++ has 8 ++ banks).eraseDups.length
  let data := toLE 2 (has 0 ++ has 1).eraseDups.length ++ toLE 2 (has 2).length ++ toLE 2 feeds ++ toLE 2 (has 4).length
    ++ toLE 2 (has 10).length ++ toLE 2 (b2n (!(has 3).isEmpty) + 2 * b2n (!(has 5).isEmpty))
  let s := s.onRend (fun q => { q with recs := q.recs.map (fun e => (e.1, { e.2 with dirty := false })), commitTick := some m })
  (data, s.each l (fun s e => s.applyRec m (e.1 / 4096) (e.1 % 4096) e.2.stage))

/-! ## Items in their order (R269) -/

/-- Function and mode (true HOST) that an item's opcode needs at its token (R270). -/
def itemNeeds (op : Nat) (p : List Byte) : Option (Nat × Bool) :=
  if op = 0x0605 then some (7, true)
  else if op = 0x0503 then some (0, true)
  else if op = 0x0C01 && bitOf (fld p 1 1) 2 && bitOf (fld p 12 4) 23 then some (3, false)
  else none

/-- A block's COMMIT takes effect at the token of tick m, which is recorded (R24). -/
def Mach.blockCommit (s : Mach) (m k : Nat) : Mach :=
  let s := s.onRend (fun q => { q with commitTicks := mput q.commitTicks k m })
  match k with
  | 0 => s.commitInput
  | 1 => s.commitGen
  | 2 => s.commitOut
  | 3 => s.commitHp
  | 4 => s.commitMeas m
  | _ => s.commitLat

/-- One item takes effect at the token of tick m: detail and data of its reply, and the state. Log 67. -/
def Mach.applyItem (s : Mach) (m : Nat) (it : Item) : Nat × List Byte × Mach :=
  let i := it.key % 4096
  let time := if it.t = 0 then none else some it.t
  match it.key / 4096 with
  | 11 => (0, [], s.maskGen it.p)
  | 12 => (0, [], (s.wr R.RENDER_HP_CFG (fld it.p 2 2) i).applyHp i (fld it.p 2 2))
  | 13 =>
    let (d, s) := if it.t = 0 then s.latchSwap m i (fld it.p 0 1) time else s.selectBank m i (fld it.p 0 1) time
    (d, [], s)
  | 14 => let (d, s) := s.sceneCommit m; (0, d, s)
  | 15 => (0, [], (s.putMeas it.p).blockCommit m 4)
  | 16 => (0, [], s.restartMeas i m (fld it.p 1 1))
  | 17 => (fld it.p 0 1, [], s)
  | 18 => (0, [], (s.each (chunks 12 4 it.p) Mach.stageLat).blockCommit m 5)
  | k => (0, [], s.applyRec m k i it.p)

/-- Apply one item, discard it when its function is in the wrong mode (R270), and send the reply it carries. `dets` holds the
details gathered by command. -/
def Mach.takeItem (m : Nat) (a : SMap Nat × Mach) (it : Item) : SMap Nat × Mach :=
  let wrong := it.t != 0 && (match itemNeeds it.op it.p with
    | some (f, host) => a.2.hostMode f != host
    | none => false)
  if wrong then
    let f := ((itemNeeds it.op it.p).map (·.1)).getD 0
    (a.1, (a.2.bump R.SYS_PLACE_DISCARD).raise E.PLACE_DISCARD f it.op)
  else
    let (d, data, s) := a.2.applyItem m it
    let dets := mput a.1 it.o.id (mget 0 a.1 it.o.id ||| d)
    (dets, if it.reply then s.answer it.o.id ST.OK (mget 0 dets it.o.id ||| b2n it.late) m data else s)

/-- Items in the order of R269: commits first, then timed items by time and release, then latched ones by release.
Log 64. -/
def itemOrder (due latch : List Item) : List Item :=
  let isC (i : Item) : Bool := i.key / 4096 == 14
  let byOrd := sortBy (fun (i : Item) => i.ord)
  let byTime := sortBy (fun (i : Item) => i.t)
  byTime (byOrd (due.filter isC)) ++ byOrd (latch.filter isC) ++ byTime (byOrd (due.filter (fun i => !isC i)))
    ++ byOrd (latch.filter (fun i => !isC i))

/-- What a record that a token made live, in place of content `e.2`, sets going: once, however often it changed (R69, R108, R175,
R183, R192). -/
def Mach.settleRec (m : Nat) (s : Mach) (e : Nat × List Byte) : Mach :=
  let i := e.1 % 4096
  match e.1 / 4096 with
  | 4 => s.settleGeo m i (geoOf e.2)
  | 6 => s.settleEq i
  | 7 => (s.settleOut i e.2).applyLim i
  | 8 => s.applyLim i
  | _ => s

/-- The records of the token, and the limiters of every feed where LIMITER_PLAN was in mode `host` before it (R193). -/
def Mach.settleToken (s : Mach) (m : Nat) (host : Bool) : Mach :=
  let s := (s.each s.rend.was (Mach.settleRec m)).anaCount
  s.when (s.limHost != host) (fun s => s.each (s.rend.feeds.map (·.1)) (fun s f => s.applyLim f))

/-- Everything that applies at the token of tick m (R24, R269). Commits asked for by register writes come between the timed
items and the NEXT_TICK commands. Log 64. -/
def Mach.applyToken (s : Mach) (m : Nat) : Mach :=
  let s := s.onRend (fun q => { q with was := [], genWas := [] })
  let host := s.limHost
  let s := s.placeToken m
  let due := s.cmd.timed.filter (fun i => dueAt i.t m)
  let latch := s.cmd.latch
  let asked := s.rend.commits
  let s := s.onCmd (fun c => { c with timed := c.timed.filter (fun i => !dueAt i.t m), latch := [] })
  let s := s.onRend (fun q => { q with commits := [] })
  let all := itemOrder due latch
  let (d, s) := (all.filter (fun i => i.t != 0 || i.key / 4096 == 14)).foldl (Mach.takeItem m) (([] : SMap Nat), s)
  let s := s.each asked (fun s k => s.blockCommit m k)
  let s := ((all.filter (fun i => i.t == 0 && i.key / 4096 != 14)).foldl (Mach.takeItem m) (d, s)).2
  s.settleToken m host

end Sys2Proof.Machine
end

