-- ==== Sys2Proof/Machine/OpScene.lean ====
section
/-! DEFINITION. Scene opcodes (0x02) and object opcodes (0x03): R299 to R311. -/
namespace Sys2Proof.Machine

/-! ## Scene images (R299, R300) -/

/-- Records and record size of each section. -/
def sections : List (Nat × Nat) :=
  [(640, 4), (640, 96), (128, 2048), (1, 16), (512, 32), (1, 24608), (512, 352), (512, 16), (512, 8), (1, 64), (2624, 4)]
def secSize (k : Nat) : Nat := let x := sections.getD k (0, 0); x.1 * x.2
/-- Sections present, with their offsets in the image. -/
def secPlaces (mask : Nat) : List (Nat × Nat) :=
  ((upto 11).foldl (fun (a : List (Nat × Nat) × Nat) k => if bitOf mask k then (a.1 ++ [(k, a.2)], a.2 + secSize k) else a)
    (([] : List (Nat × Nat)), 64)).1
def imageSize (mask : Nat) : Nat := (upto 11).foldl (fun a k => if bitOf mask k then a + secSize k else a) 64
def zeroAt (l : List Byte) (o n : Nat) : List Byte := l.take o ++ List.replicate n 0 ++ l.drop (o + n)
def maxImage : Nat := 570288

/-- Does instance i of section k exist on this variant? -/
def Mach.secInst (s : Mach) (k i : Nat) : Bool :=
  match k with
  | 0 => s.chanOk i
  | 1 => s.chanOk i
  | 4 => decide (i < s.variant.objects)
  | 6 => decide (i < s.variant.feeds)
  | 7 => decide (i < s.variant.feeds)
  | 8 => decide (i < s.variant.feeds)
  | _ => true

/-- First failing field of the header. -/
def headerBad (img : List Byte) : Option Nat :=
  let mask := fld img 4 2
  if fld img 0 2 != 0x5343 then some 0
  else if fld img 2 2 != 1 then some 2
  else if mask / 2048 != 0 then some 4
  else if fld img 6 2 != 0 then some 6
  else if fld img 8 4 != imageSize mask then some 8
  else if fld img 12 4 != crc32c (zeroAt img 12 4) then some 12
  else if !allZero (slice img 24 40) then some 24
  else none

/-- Length of a speaker table by its header. -/
def tabLen (l : List Byte) : Nat := 32 + 32 * fld l 4 2 + 8 * fld l 6 2

/-- The field of a triangle, 0 A, 2 B or 4 C, that names no speaker of n or one named before it. -/
def Tri.badField (n : Nat) (q : Tri) : Option Nat :=
  if n ≤ q.a then some 0 else if n ≤ q.b || q.b = q.a then some 2 else if n ≤ q.c || q.c = q.a || q.c = q.b then some 4 else none

/-- Byte of a table at which the first failing field of a case of R82 stands; entries at and above `lim` are not validated. -/
def tabBadAt (lim : Nat) (l : List Byte) (case_ : Nat) : Nat :=
  let n := fld l 4 2
  let t := fld l 6 2
  let spk (p : Nat → Bool) (o : Nat) : Nat := 32 + 32 * (((upto (Nat.min n lim)).find? p).getD 0) + o
  let triAt (p : Nat → Option Nat) : Nat := ((upto t).findSome? (fun j => (p j).map (fun o => 32 + 32 * n + 8 * j + o))).getD 32
  let tab := tabOf l
  let triOf (j : Nat) : Option (SpkTab × Tri) := match tab with
    | some x => (x.tris[j]?).map (fun q => (x, q))
    | none => none
  match case_ with
  | 1 => if fld l 0 2 != 0x5354 then 0 else if fld l 2 2 != 1 then 2 else 24
  | 2 => if n = 0 || 512 < n then 4 else 6
  | 3 =>
    if !allZero (slice l 20 4) then 20 else if !allZero (slice l 28 4) then 28
    else if (upto (Nat.min n lim)).any (fun k => fld l (44 + 32 * k) 2 &&& 0xFCF0 != 0) then spk (fun k => fld l (44 + 32 * k) 2 &&& 0xFCF0 != 0) 12
    else if (upto (Nat.min n lim)).any (fun k => decide (0x8000 < fld l (46 + 32 * k) 2)) then spk (fun k => decide (0x8000 < fld l (46 + 32 * k) 2)) 14
    else if (upto (Nat.min n lim)).any (fun k => !allZero (slice l (54 + 32 * k) 10)) then spk (fun k => !allZero (slice l (54 + 32 * k) 10)) 22
    else triAt (fun j => if fld l (38 + 32 * n + 8 * j) 2 != 0 then some 6 else none)
  | 4 => match tab with
    | some x => 32 + 32 * ((findPos (fun p => !p.aimOk) x.spk).getD 0) + 16
    | none => 32
  | 5 => triAt (fun j => (triOf j).bind (fun e => e.2.badField n))
  | 6 => triAt (fun j => (triOf j).bind (fun e => if tabBad.triThin e.1 e.2 then some 0 else none))
  | _ => triAt (fun j => (triOf j).bind (fun e =>
      (findPos (tabBad.spkNear e.1) [e.2.a, e.2.b, e.2.c]).map (2 * ·)))

/-- Refusal of a record in an image: not ready, and the offset. A region that is disabled refuses only where `regions` asks
for it. -/
def Mach.imageRec (s : Mach) (regions : Bool) (k : Nat) (b : List Byte) : Option (Bool × Nat) :=
  let plain (b : List Byte) : Option (Bool × Nat) :=
    (s.recBad k b).map (fun x => (x.1 == ST.NOT_READY, if k = 5 then tabBadAt s.variant.feeds b x.2 else x.2))
  match k with
  | 5 =>
    let n := tabLen b
    if b.length < n then plain b
    else match plain (b.take n) with
      | some x => some x
      | none => (findPos (fun y => y != 0) (b.drop n)).map (fun i => (false, n + i))
  | 9 => none
  | k =>
    match plain b with
    | some (true, o) => if regions then some (true, o) else plain (zeroAt b (if k = 4 then 20 else 320) 4)
    | x => x

/-- First failing record of an image: section, record, offset in the image, not ready. Log 77. -/
def Mach.imageBad (s : Mach) (regions : Bool) (img : List Byte) : Option (Nat × Nat × Nat × Bool) :=
  match headerBad img with
  | some o => some (0, 0, o, false)
  | none =>
    (secPlaces (fld img 4 2)).findSome? (fun (k, at_) =>
      let x := sections.getD k (0, 0)
      (upto x.1).findSome? (fun i =>
        if !s.secInst k i then none
        else (s.imageRec regions k (slice img (at_ + i * x.2) x.2)).map (fun (nr, o) =>
          (k, if k = 3 || k = 5 || k = 9 then 0 else i, at_ + i * x.2 + o, nr))))

/-- The refusal an image gets (R300, R302). Log 77. -/
def Mach.imageChk (s : Mach) (regions : Bool) (img : List Byte) : Option Res :=
  (s.imageBad regions img).map (fun (k, i, o, nr) =>
    Res.fail (if nr then ST.NOT_READY else ST.BAD_PARAM) (k * 4096 + i) (toLE 4 o))

/-- Write a record of an image into the stage; BANKSEL holds one mark per feed. -/
def Mach.stageRec (s : Mach) (k i : Nat) (b : List Byte) : Mach :=
  match k with
  | 0 => s.putStage K.INSEL i (toLE 4 (fld b 0 4 % 0x20000))
  | 5 => s.putStage K.SPKTAB 0 (b.take (tabLen b))
  | 9 => s.each (upto s.variant.feeds) (fun s f => s.putStage K.BANKSEL f [if bitOf (fld b (f / 8) 1) (f % 8) then 1 else 0])
  | k => s.putStage k i b

/-- Write an image into the stage and mark every record of its sections (R68, R302). Log 80. -/
def Mach.stageImage (s : Mach) (img : List Byte) : Mach :=
  let s := s.each (secPlaces (fld img 4 2)) (fun s (k, at_) =>
    let x := sections.getD k (0, 0)
    s.each (upto x.1) (fun s i => if s.secInst k i then s.stageRec k i (slice img (at_ + i * x.2) x.2) else s))
  s.onRend (fun q => { q with sceneId := fld img 16 8 })

/-- An output set with the limiter fields in force (R192, R304). -/
def Mach.outInForce (s : Mach) (f : Nat) (b : List Byte) : List Byte :=
  if s.limHost then b
  else
    let r := s.liveRec K.RATING f
    let th : Int := if bitOf (fld r 4 2) 0 then max (-6000) (sfld r 0 2 - 10 * (fld r 2 1 : Int)) else 0
    let rel := if bitOf (fld r 4 2) 0 then [100, 500, 2000].getD (fld r 3 1) 500 else 500
    b.take 4 ++ toLE 2 (fld b 4 2 ||| 2) ++ slice b 6 1 ++ slice b 6 1 ++ toLE 2 (toU 16 th) ++ toLE 2 rel ++ b.drop 12

/-- A section of the live state or of the stage. Log 78. -/
def Mach.secBytes (s : Mach) (live : Bool) (k : Nat) : List Byte :=
  let pick (r : Rec) : List Byte := if live then r.live else r.stage
  match k with
  | 5 => padTo 24608 (pick (s.recd K.SPKTAB 0))
  | 7 => ((upto 512).map (fun f =>
      let b := pick (s.recd K.OUTSET f)
      if live then s.outInForce f b else b)).flatten
  | 9 => (upto 64).map (fun j => BitVec.ofNat 8 ((upto 8).foldl (fun a b =>
      let f := 8 * j + b
      let v := if live then (s.feed f).live else fld (s.recd K.BANKSEL f).stage 0 1
      a + 2 ^ b * (v % 2)) 0))
  | k => ((upto (sections.getD k (0, 0)).1).map (fun i => pick (s.recd k i))).flatten

/-- A scene image of the live state or the stage with the sections of a mask. Log 78. -/
def Mach.makeImage (s : Mach) (live : Bool) (mask : Nat) : List Byte :=
  let body := ((upto 11).filter (bitOf mask)).flatMap (fun k => s.secBytes live k)
  let img := toLE 2 0x5343 ++ toLE 2 1 ++ toLE 2 mask ++ toLE 2 0 ++ toLE 4 (64 + body.length) ++ toLE 4 0 ++ toLE 8 s.rend.sceneId
    ++ List.replicate 40 0 ++ body
  img.take 12 ++ toLE 4 (crc32c img) ++ img.drop 16

/-! ## Scene opcodes -/

/-- SCN_COMMIT (R301). -/
def opScnCommit (o : Origin) (p : List Byte) (_ : List Nat) (s : Mach) : Mach × Res :=
  s.guard (firstOf [lenIs p 36, s.timingChk 10 p]) (fun s =>
    match s.effOf p with
    | .time t => s.timePuts o 0x0201 t false [⟨rkey K.COMMIT 0, []⟩]
    | .next late => s.latchPuts o 0x0201 late [⟨rkey K.COMMIT 0, []⟩]
    | _ => s.latchPuts o 0x0201 false [⟨rkey K.COMMIT 0, []⟩])

/-- SCN_LOAD (R302). -/
def opScnLoad (_ : Origin) (p : List Byte) (obs : List Nat) (s : Mach) : Mach × Res :=
  let b := bufOf p 16
  s.guard (firstOf [lenIs p 36, s.bufChk p 16 (failOpen (decide (maxImage < b.len)) ST.BAD_LENGTH)]) (fun s =>
    s.source b (obsOn obs 0) (fun img s =>
      s.guard (firstOf [failOpen (fld img 8 4 != b.len) ST.BAD_LENGTH, s.imageChk true img]) (fun s => (s.stageImage img, Res.ok))))

/-- SCN_DISCARD (R303). -/
def opScnDiscard (_ : Origin) (p : List Byte) (_ : List Nat) (s : Mach) : Mach × Res :=
  s.guard (lenIs p 20) (fun s =>
    let n := (s.rend.recs.filter (fun e => e.2.dirty)).length
    (s.onRend (fun q => { q with recs := q.recs.map (fun e => (e.1, { e.2 with dirty := false })) }), Res.ok (toLE 4 n)))

/-- SCN_READ (R304). Log 76. -/
def opScnRead (_ : Origin) (p : List Byte) (obs : List Nat) (s : Mach) : Mach × Res :=
  let b := bufOf p 20
  let mask := pf p 18 2
  let pre := firstOf [lenIs p 40, codeTo p 16 1 1, resv p 17 1, failIf (mask / 2048 != 0) ST.BAD_PARAM 18]
  (s.when pre.isNone (·.birthTry b.addr b.len (s.bufChk p 20))).guard (firstOf [pre,
      s.bufChk p 20 (failIf (decide (b.len < imageSize mask)) ST.OUT_OF_RANGE 28)]) (fun s =>
    let img := s.makeImage (pf p 16 1 == 0) mask
    s.dest b (obsOn obs 0) img (Res.ok (toLE 4 img.length)))

/-! ### The scene store (R305, R306) -/

/-- The store's directory and frames in MRAM. The manual gives the store no byte layout: this one is the model's.
Log 79. -/
def storeDir : Nat := mramBase + 0x10000
/-- Log 79. -/
def storeFrame (k : Nat) : Nat := mramBase + 0x100000 + 0x8C000 * k
/-- Frame of a slot, counted from 1; 0 when the slot is empty. -/
def Mach.slotFrame (s : Mach) (n : Nat) : Nat := leNat (s.mrd (storeDir + 16 * n) 4)
def Mach.slotDay (s : Mach) (n : Nat) : Nat := leNat (s.mrd (storeDir + 16 * n + 4) 4)
def Mach.frameWrites (s : Mach) (k : Nat) : Nat := leNat (s.mrd (storeDir + 0x100 + 4 * k) 4)
/-- The image a slot holds. -/
def Mach.slotImage (s : Mach) (n : Nat) : Option (List Byte) :=
  let k := s.slotFrame n
  if k = 0 || 10 < k then none else some (s.mrd (storeFrame (k - 1)) maxImage)

/-- The least-written free frame. Log 79. -/
def Mach.freeFrame (s : Mach) : Nat :=
  let used := (upto 8).map s.slotFrame
  let free := (upto 10).filter (fun k => !used.contains (k + 1))
  (free.foldl (fun (b : Option (Nat × Nat)) k => match b with
    | none => some (s.frameWrites k, k)
    | some (w, _) => if s.frameWrites k < w then some (s.frameWrites k, k) else b) none).elim 0 (·.2)

/-- Image of a slot checked for its CRC alone. -/
def crcBad (img : List Byte) : Bool := fld img 12 4 != crc32c (zeroAt img 12 4)

/-- What a frame whose write goes wrong reads back. Log 8, 153. -/
def openImage (k n : Nat) : List Byte := (upto n).map (fun i => Config.openByte (k + i))

/-- SCN_STORE_WRITE (R305, R306): `obs` gives an error of the host's buffer and whether the frame's write goes wrong; the slot is
repointed after the frame has been read back and checked. Log 76, 153. -/
def opScnStoreWrite (_ : Origin) (p : List Byte) (obs : List Nat) (s : Mach) : Mach × Res :=
  let b := bufOf p 20
  let n := pf p 16 1
  s.guard (firstOf [lenIs p 40, within p 16 1 0 7, resv p 17 3, s.bufChk p 20]) (fun s =>
    s.source b (obsOn obs 0) (fun img s =>
      s.guard (firstOf [s.imageChk false img, failIf (fld img 4 2 != 0x7FF || b.len != maxImage) ST.BAD_PARAM 4]) (fun s =>
        let k := s.freeFrame
        let w := s.frameWrites k + 1
        let s := s.mwr (storeFrame k) (if obsOn obs 1 then openImage s.free img.length else img)
        let s := (s.when (obsOn obs 1) (fun s => { s with free := s.free + img.length })).mwr (storeDir + 0x100 + 4 * k) (toLE 4 w)
        if s.mrd (storeFrame k) img.length != img then (s, Res.fail ST.HW_FAULT openDet)
        else (s.mwr (storeDir + 16 * n) (toLE 4 (k + 1) ++ toLE 4 (s.rtcNow / 86400)), Res.ok (toLE 4 w)))))

/-- SCN_STORE_RECALL (R306). -/
def opScnStoreRecall (_ : Origin) (p : List Byte) (_ : List Nat) (s : Mach) : Mach × Res :=
  s.guard (firstOf [lenIs p 24, within p 16 1 0 7, resv p 17 3]) (fun s =>
    match s.slotImage (pf p 16 1) with
    | none => (s, Res.fail ST.STATE openDet)
    | some img =>
      s.guard (firstOf [failIf (crcBad img) ST.HW_FAULT 3, s.imageChk true img]) (fun s => (s.stageImage img, Res.ok)))

/-- SCN_STORE_ERASE (R306). -/
def opScnStoreErase (_ : Origin) (p : List Byte) (_ : List Nat) (s : Mach) : Mach × Res :=
  s.guard (firstOf [lenIs p 24, within p 16 1 0 7, resv p 17 3]) (fun s => (s.mwr (storeDir + 16 * pf p 16 1) (toLE 8 0), Res.ok))

/-- SCN_STORE_INFO (R306). -/
def opScnStoreInfo (_ : Origin) (p : List Byte) (_ : List Nat) (s : Mach) : Mach × Res :=
  s.guard (lenIs p 20) (fun s =>
    (s, Res.ok ((upto 8).flatMap (fun n => match s.slotImage n with
      | some img => toLE 2 1 ++ toLE 2 0 ++ slice img 16 8 ++ toLE 4 (s.slotDay n)
      | none => List.replicate 16 0))))

/-- SCN_STATUS (R307). Log 80. -/
def opScnStatus (_ : Origin) (p : List Byte) (_ : List Nat) (s : Mach) : Mach × Res :=
  s.guard (lenIs p 20) (fun s =>
    let marks (k : Nat) : Nat := (s.rend.recs.filter (fun e => e.1 / 4096 == k && e.2.dirty)).length
    (s, Res.ok ((upto 11).flatMap (fun k => toLE 2 (marks k))
      ++ toLE 2 (s.cmd.timed.filter (fun i => i.key / 4096 == K.COMMIT)).length ++ toLE 8 (s.rend.commitTick.getD noTick))))

/-! ## Object opcodes -/

/-- A channel number of an entry: 0 to 639, its object below the variant's limit. -/
def Mach.chanChk (s : Mach) (off : Nat) (e : List Byte) : Option Res := failIf (!s.chanOk (fld e 0 2)) ST.OUT_OF_RANGE off
/-- Do n channels from the first on exist on this variant (R5)? -/
def Mach.chansOk (s : Mach) (first n : Nat) : Bool := (upto n).all (fun j => s.chanOk (first + j))
/-- Reserved bytes of an entry. -/
def resvIn (e : List Byte) (o n off : Nat) : Option Res := failIf (!allZero (slice e o n)) ST.BAD_PARAM (off + o)

/-- OBJ_SET_PARAMS (R308). -/
def opObjSetParams (o : Origin) (p : List Byte) (_ : List Nat) (s : Mach) : Mach × Res :=
  let es := entriesOf p 32 100
  s.guard (firstOf [listLen p 32 100, s.timingChk 14 p, listHead p 32 40,
      scanEntries (fun e => fld e 0 2) s.chanChk
        (fun off e => firstOf [resvIn e 2 2 off, s.recChk K.CHAN (e.drop 4) (off + 4 + ·)]) [] es]) (fun s =>
    s.putRecords o 0x0301 (s.effOf p) true (es.map (fun x => (K.CHAN, fld x.2 0 2, x.2.drop 4))))

/-- OBJ_SET_GAIN (R309): a partial write. -/
def opObjSetGain (o : Origin) (p : List Byte) (_ : List Nat) (s : Mach) : Mach × Res :=
  let es := entriesOf p 32 8
  let eff := s.effOf p
  let whole (e : List Byte) : List Byte := let b := s.baseRec eff K.CHAN (fld e 0 2); b.take 80 ++ slice e 4 4 ++ b.drop 84
  s.guard (firstOf [listLen p 32 8, s.timingChk 14 p, listHead p 32 500,
      scanEntries (fun e => fld e 0 2) s.chanChk
        (fun off e => firstOf [resvIn e 2 2 off, s.recChk K.CHAN (whole e) (fun _ => off + 4)]) [] es]) (fun s =>
    s.putRecords o 0x0302 eff true (es.map (fun x => (K.CHAN, fld x.2 0 2, whole x.2))))

/-- FLAGS, SEC and NS that follow a record read back (R310): the pending timed set, and the mark of the stage copy. -/
def Mach.recTail (s : Mach) (kind i : Nat) : List Byte :=
  let t := s.timedOf (rkey kind i)
  let ns := (t.map (·.t)).getD 0
  toLE 4 (b2n t.isSome + 2 * b2n (s.recd kind i).dirty) ++ toLE 6 (ns / 1000000000) ++ toLE 2 0 ++ toLE 4 (ns % 1000000000)

/-- A record as WHICH selects it: 0 live, 1 shadow, 2 pending timed, 3 stage. -/
def Mach.recWhich (s : Mach) (kind i which : Nat) : List Byte :=
  let r := s.recd kind i
  match which with
  | 0 => r.live
  | 1 => r.shadow
  | 2 => ((s.timedOf (rkey kind i)).map (·.p)).getD (List.replicate r.live.length 0)
  | _ => r.stage

/-- OBJ_GET_PARAMS (R310). -/
def opObjGetParams (_ : Origin) (p : List Byte) (_ : List Nat) (s : Mach) : Mach × Res :=
  let i := pf p 16 2
  s.guard (firstOf [lenIs p 24, failIf (!s.chanOk i) ST.OUT_OF_RANGE 16, codeTo p 18 1 3, resv p 19 1]) (fun s =>
    (s, Res.ok (s.recWhich K.CHAN i (pf p 18 1) ++ s.recTail K.CHAN i)))

/-- OBJ_STATUS (R311). -/
def opObjStatus (_ : Origin) (p : List Byte) (_ : List Nat) (s : Mach) : Mach × Res :=
  let f := pf p 16 2
  let n := pf p 18 2
  s.guard (firstOf [lenIs p 24, failIf (!s.chanOk f) ST.OUT_OF_RANGE 16, within p 18 2 1 128,
      failIf (!s.chansOk f n) ST.OUT_OF_RANGE 18]) (fun s =>
    (s, Res.ok ((upto n).flatMap (fun j =>
      let i := f + j
      let ob := decide (i < 512)
      toLE 4 (if s.chanOk i then s.instatWord i else 0) ++ toLE 4 (if ob then s.geoObjstat i else 0)
        ++ toLE 4 (if ob then s.hpObjstat i else 0) ++ toLE 4 (if ob then s.bulkStat i else 0)))))

end Sys2Proof.Machine
end

