-- ==== Sys2Proof/Machine/OpGeo.lean ====
section
/-! DEFINITION. Geometry opcodes (0x04) and host-path opcodes (0x05): R312 to R323, R136 to R140. -/
namespace Sys2Proof.Machine

/-! ## Tables and records -/

/-- GEO_SPK_LOAD (R5, R312). Log 138. -/
def opGeoSpkLoad (_ : Origin) (p : List Byte) (obs : List Nat) (s : Mach) : Mach × Res :=
  let b := bufOf p 16
  s.guard (firstOf [lenIs p 36, s.bufChk p 16]) (fun s =>
    s.source b (obsOn obs 0) (fun l s =>
      s.guard (firstOf [failOpen (decide (b.len < 32) || b.len != tabLen l) ST.BAD_LENGTH,
          (tabBad 512 l).map (fun k => Res.fail ST.BAD_PARAM k),
          failOpen (decide (s.variant.feeds < fld l 4 2)) ST.OUT_OF_RANGE]) (fun s => (s.putStage K.SPKTAB 0 l, Res.accepted))))

/-- GEO_ATMOS_SET (R313). -/
def opGeoAtmosSet (_ : Origin) (p : List Byte) (_ : List Nat) (s : Mach) : Mach × Res :=
  let l := slice p 0 16
  s.guard (firstOf [lenIs p 36, s.recChk K.ATMOS l (16 + ·)]) (fun s => (s.putStage K.ATMOS 0 l, Res.accepted))

/-- An object number of an entry. -/
def Mach.objChk (s : Mach) (off : Nat) (e : List Byte) : Option Res := failIf (decide (s.variant.objects ≤ fld e 0 2)) ST.OUT_OF_RANGE off
def Mach.feedChk (s : Mach) (off : Nat) (e : List Byte) : Option Res := failIf (decide (s.variant.feeds ≤ fld e 0 2)) ST.OUT_OF_RANGE off

/-- GEO_OBJ_SET (R314). -/
def opGeoObjSet (o : Origin) (p : List Byte) (_ : List Nat) (s : Mach) : Mach × Res :=
  let es := entriesOf p 32 36
  s.guard (firstOf [listLen p 32 36, s.timingChk 14 p, listHead p 32 100,
      scanEntries (fun e => fld e 0 2) s.objChk
        (fun off e => firstOf [resvIn e 2 2 off, s.recChk K.GEOREC (e.drop 4) (off + 4 + ·)]) [] es]) (fun s =>
    s.putRecords o 0x0403 (s.effOf p) true (es.map (fun x => (K.GEOREC, fld x.2 0 2, x.2.drop 4))))

/-! ## Keyframes (R86, R87, R315, R316) -/

/-- A keyframe from its 32 bytes. -/
def keyOf (l : List Byte) : Key :=
  let f := fld l 10 2
  ⟨fld l 4 6 * 1000000000 + fld l 0 4, bitOf f 0, bitOf f 1, bitOf f 2, sfld l 12 4, sfld l 16 4, sfld l 20 4,
   sfld l 24 2, sfld l 26 2, sfld l 28 2⟩
/-- The 32 bytes of a keyframe. -/
def Key.bytes (k : Key) : List Byte :=
  toLE 4 (k.t % 1000000000) ++ toLE 6 (k.t / 1000000000) ++ toLE 2 (b2n k.explicit + 2 * b2n k.replan + 4 * b2n k.cut)
    ++ toLE 4 (toU 32 k.x) ++ toLE 4 (toU 32 k.y) ++ toLE 4 (toU 32 k.z)
    ++ toLE 2 (toU 16 k.vx) ++ toLE 2 (toU 16 k.vy) ++ toLE 2 (toU 16 k.vz) ++ toLE 2 0

/-- Insert keyframes one by one into copies of the queues; the first entry that does not fit, else the queues. -/
def keysFit (q : Nat → List Key) : Nat → SMap (List Key) → List (Nat × Key) → Nat ⊕ SMap (List Key)
  | _, m, [] => .inr m
  | i, m, (o, k) :: r =>
    let l := keyInsert ((mfind m o).getD (q o)) k
    if 8 < l.length then .inl i else keysFit q (i + 1) (mput m o l) r

/-- GEO_KEY (R315). Log 92. -/
def opGeoKey (_ : Origin) (p : List Byte) (_ : List Nat) (s : Mach) : Mach × Res :=
  let es := entriesOf p 16 36
  s.guard (firstOf [listLen p 16 36, failOpen s.gridFree ST.NOT_READY, listHead p 16 112,
      eachEntry (fun off e => firstOf [s.objChk off e, resvIn e 2 2 off,
        failIf (decide (1000000000 ≤ fld e 4 4)) ST.OUT_OF_RANGE (off + 4),
        failIf (decide (7 < fld e 14 2)) ST.BAD_PARAM (off + 14), resvIn e 34 2 off]) es]) (fun s =>
    match keysFit (fun o => (s.obj o).queue) 0 [] (es.map (fun x => (fld x.2 0 2, keyOf (x.2.drop 4)))) with
    | .inl i => (s, Res.fail ST.QUEUE_FULL i)
    | .inr m => (s.each m (fun s e => s.onObj e.1 (fun g => { g with queue := e.2 })), Res.ok))

/-- GEO_KEY_FLUSH (R316). -/
def opGeoKeyFlush (_ : Origin) (p : List Byte) (_ : List Nat) (s : Mach) : Mach × Res :=
  let es := entriesOf p 16 4
  s.guard (firstOf [listLen p 16 4, listHead p 16 500,
      scanEntries (fun e => fld e 0 2) s.objChk (fun off e => resvIn e 2 2 off) [] es]) (fun s =>
    (s.each es (fun s e => s.onObj (fld e.2 0 2) (fun g => { g with queue := [], traj := { g.traj with seg := none } })), Res.ok))

/-! ## Read-back (R317, R318) -/

/-- A velocity component in 1/256 m/s, saturated. -/
def velWord (q : Rat) : Nat := toU 16 (clampS 16 (rhaQ (q * 256)))

/-- The object of a query at offset 16, LENGTH 24. -/
def Mach.objQuery (s : Mach) (p : List Byte) : Option Res :=
  firstOf [lenIs p 24, failIf (decide (s.variant.objects ≤ pf p 16 2)) ST.OUT_OF_RANGE 16, resv p 18 2]

/-- GEO_GET_OBJ (R317). -/
def opGeoGetObj (_ : Origin) (p : List Byte) (_ : List Nat) (s : Mach) : Mach × Res :=
  let o := pf p 16 2
  s.guard (s.objQuery p) (fun s =>
    let g := s.obj o
    let k := g.traj.kin
    (s, Res.ok (s.liveRec K.GEOREC o ++ toLE 4 (posWord k.px) ++ toLE 4 (posWord k.py) ++ toLE 4 (posWord k.pz)
      ++ toLE 2 (velWord k.vx) ++ toLE 2 (velWord k.vy) ++ toLE 2 (velWord k.vz) ++ toLE 2 0
      ++ toLE 4 (s.geoObjstat o) ++ toLE 8 (s.rend.evalTick.getD 0) ++ toLE 4 0 ++ padTo 256 (g.queue.flatMap Key.bytes))))

/-- GEO_GET_PATHS (R318). -/
def opGeoGetPaths (_ : Origin) (p : List Byte) (_ : List Nat) (s : Mach) : Mach × Res :=
  let o := pf p 16 2
  s.guard (s.objQuery p) (fun s =>
    let l := sortBy (fun (x : Path) => x.feed) ((s.pathsOf o).map (·.2))
    (s, Res.ok (toLE 2 l.length ++ toLE 2 0 ++ toLE 8 s.tm.tick ++ l.flatMap (fun x =>
      toLE 4 (x.feed + 2 ^ 17 * b2n x.new + 2 ^ 18 * b2n x.fade + 2 ^ 19 * b2n x.starve)
        ++ toLE 4 x.tgt.spread ++ toLE 4 (toU 16 x.tgt.slope) ++ toLE 4 (x.tgt.gain + 2 ^ 24 * x.tgt.shelf)))))

/-! ## The bulk-delay region (R116, R319) -/

/-- Range checks that the region commands share: alignment, and for an enable the room in DRAM. Log 82. -/
def regionChk (p : List Byte) (ok : Nat → Bool) (en was : Bool) (base : Nat) (free : Bool) : Option Res :=
  let a := pf p 16 8
  firstOf [failIf (a % 0x100000 != 0 || decide (2 ^ 40 ≤ a)) ST.OUT_OF_RANGE 16, failIf (decide (1 < pf p 24 4)) ST.BAD_PARAM 24,
    failIf (en && !ok a) ST.OUT_OF_RANGE 16, failOpen (was && a != base) ST.STATE, failOpen (was && !en && !free) ST.STATE]

/-- GEO_BULK_REGION (R319). -/
def opGeoBulkRegion (_ : Origin) (p : List Byte) (_ : List Nat) (s : Mach) : Mach × Res :=
  let en := bitOf (pf p 24 4) 0
  s.guard (firstOf [lenIs p 32, regionChk p (fun a => s.regionOk 0 a bulkSize) en s.bulkOn s.bulkBase s.bulkFree]) (fun s =>
    (if s.bulkOn && en then s else s.bulkRegion (pf p 16 8) en, Res.ok))

/-! ## Host paths (R136 to R140, R320 to R323) -/

/-- An update from its bytes (R138). -/
def updOf (l : List Byte) : HpUpdate :=
  let n := fld l 2 2
  let f := fld l 4 2
  ⟨if bitOf f 0 then 0 else fld l 8 8, bitOf f 0, bitOf f 1, (upto n).map (fun i =>
    let e := slice l (16 + 16 * i) 16
    ⟨fld e 0 2 % 512, bitOf (fld e 0 4) 16, ⟨fld e 4 4, sfld e 8 2, fld e 12 3, fld e 15 1⟩⟩)⟩

/-- First failing check of an update, by its offset within the update (R139, R295), then the object's mode (R136).
Log 69. -/
def Mach.updBad (s : Mach) (l : List Byte) : Option (Nat × Nat) :=
  let o := fld l 0 2
  let n := fld l 2 2
  let f := fld l 4 2
  let ent (i : Nat) : Nat := fld l (16 + 16 * i) 4
  let will := (s.hpo o).host || (s.cmd.latch ++ s.cmd.timed).any (fun t => t.key == rkey K.HPMODE o && bitOf (fld t.p 2 2) 0)
  let fields := recFirst [rng (decide (s.variant.objects ≤ o)) ST.OUT_OF_RANGE 0,
    rng (decide ((s.geo o).pathLimit < n)) ST.OUT_OF_RANGE 2, rng (decide (3 < f)) ST.BAD_PARAM 4, rz l 6 2,
    rng (!bitOf f 0 && decide (s.tm.tick + 1024 < fld l 8 8)) ST.OUT_OF_RANGE 8]
  let entry (i : Nat) : Option (Nat × Nat) :=
    let at_ := 16 + 16 * i
    recFirst [rng (decide (0x10000 < ent i - ent i % 512) || bits (ent i) 9 7 != 0) ST.BAD_PARAM at_,
      rng (i != 0 && decide (ent i % 512 ≤ ent (i - 1) % 512)) ST.BAD_PARAM at_,
      rng (decide (s.variant.feeds ≤ ent i % 512)) ST.OUT_OF_RANGE at_, rz l (at_ + 10) 2]
  match fields with
  | some x => some x
  | none => match (upto n).findSome? entry with
    | some x => some x
    | none => if will then none else some (ST.WRONG_PLACEMENT, 0)

/-- Put an update among an object's pending updates, ASAP first, then in time order; none when a fifth would be held (R140). -/
def putUpdate (l : List HpUpdate) (u : HpUpdate) : Option (List HpUpdate) :=
  let l' := if u.asap then [u] else
    insertBy (fun x => if x.asap then 0 else x.tick + 1) u (l.filter (fun x => x.asap || x.tick != u.tick))
  if 4 < l'.length then none else some l'

/-- Enter updates one by one into copies of the pending updates; the first that does not fit the queue or the pool, else the
copies. -/
def updsFit (s : Mach) : Nat → SMap (List HpUpdate) → List (Nat × HpUpdate) → Nat ⊕ SMap (List HpUpdate)
  | _, m, [] => .inr m
  | i, m, (o, u) :: r =>
    match putUpdate ((mfind m o).getD (s.hpo o).pend) u with
    | none => .inl i
    | some l =>
      let m := mput m o l
      let count (l : List HpUpdate) : Nat := l.foldl (fun a x => a + x.entries.length) 0
      let used := s.hpUsed + m.foldl (fun a e => a + count e.2) 0 - m.foldl (fun a e => a + count (s.hpo e.1).pend) 0
      if 262144 < used then .inl i else updsFit s (i + 1) m r

/-- Updates become pending. -/
def Mach.putUpdates (s : Mach) (m : SMap (List HpUpdate)) : Mach := s.each m (fun s e => s.onHp e.1 (fun h => { h with pend := e.2 }))

/-- PATH_UPDATE (R320). -/
def opPathUpdate (_ : Origin) (p : List Byte) (_ : List Nat) (s : Mach) : Mach × Res :=
  s.guard (firstOf [lenIs p (36 + 16 * pf p 18 2), s.needs 0 true .imm,
      (s.updBad p).map (fun x => Res.fail x.1 (if x.1 = ST.WRONG_PLACEMENT then 0 else 16 + x.2))]) (fun s =>
    match updsFit s 0 [] [(fld p 0 2, updOf p)] with
    | .inl _ => (s.evt F.RENDER_HP_EVT_POOL_FULL, Res.fail ST.QUEUE_FULL openDet)
    | .inr m => (s.putUpdates m, Res.ok))

/-- Walk a buffer of updates: the offsets, or the index and offset at which it breaks (R321). -/
def walkUpds (l : List Byte) : Nat → Nat → Nat → List Nat → (Nat × Nat) ⊕ List Nat
  | 0, i, at_, _ => .inl (i, at_)
  | n + 1, i, at_, acc =>
    if at_ = l.length && i != 0 then .inr acc.reverse
    else if l.length < at_ + 16 then .inl (i, at_)
    else
      let size := 16 + 16 * fld l (at_ + 2) 2
      if l.length < at_ + size then .inl (i, at_) else walkUpds l n (i + 1) (at_ + size) (at_ :: acc)

/-- PATH_UPDATE_BUF (R321). Log 81. -/
def opPathUpdateBuf (_ : Origin) (p : List Byte) (obs : List Nat) (s : Mach) : Mach × Res :=
  let b := bufOf p 16
  s.guard (firstOf [lenIs p 36, s.needs 0 true .imm, s.bufChk p 16 (failIf (decide (0x400000 < b.len)) ST.BAD_LENGTH 0 (toLE 4 0))]) (fun s =>
    s.source b (obsOn obs 0) (fun l s =>
      match walkUpds l (l.length / 16 + 2) 0 0 [] with
      | .inl (i, at_) => (s, Res.fail ST.BAD_LENGTH i (toLE 4 at_))
      | .inr offs =>
        match offs.zipIdx.findSome? (fun (a, i) => (s.updBad (l.drop a)).map (fun x => (x.1, i, a))) with
        | some (st, i, a) => (s, Res.fail st i (toLE 4 a))
        | none =>
          match updsFit s 0 [] (offs.map (fun a => (fld l a 2, updOf (l.drop a)))) with
          | .inl i => (s.evt F.RENDER_HP_EVT_POOL_FULL, Res.fail ST.QUEUE_FULL i (toLE 4 (offs.getD i 0)))
          | .inr m => (s.putUpdates m, Res.ok)))

/-- PATH_MODE (R322). Log 68. -/
def opPathMode (o : Origin) (p : List Byte) (_ : List Nat) (s : Mach) : Mach × Res :=
  let es := entriesOf p 32 4
  let eff := s.effOf p
  let puts := es.map (fun x => (⟨rkey K.HPMODE (fld x.2 0 2), x.2⟩ : Put))
  s.guard (firstOf [listLen p 32 4, s.needs 0 true eff, s.timingChk 10 p, listHead p 32 500,
      scanEntries (fun e => fld e 0 2) s.objChk (fun off e => firstOf [failIf (fld e 2 2 / 2 ^ 14 != 0) ST.BAD_PARAM (off + 2),
        failIf (!inRange 1 6000 (bits (fld e 2 2) 1 13)) ST.OUT_OF_RANGE (off + 2)]) [] es]) (fun s =>
    match eff with
    | .time t => s.timePuts o 0x0503 t true puts
    | .next late => s.latchPuts o 0x0503 late puts
    | _ => s.latchPuts o 0x0503 false puts)

/-- PATH_STATUS (R323). -/
def opPathStatus (_ : Origin) (p : List Byte) (_ : List Nat) (s : Mach) : Mach × Res :=
  let o := pf p 16 2
  s.guard (s.objQuery p) (fun s =>
    let l := (s.hpo o).pend.map (fun u => if u.asap then noTick - 1 else u.tick)
    (s, Res.ok (toLE 4 (s.hpObjstat o) ++ (upto 4).flatMap (fun i => toLE 8 (l.getD i noTick)))))

end Sys2Proof.Machine
end

