-- ==== Sys2Proof/Machine/OpFeed.lean ====
section
/-! DEFINITION. Feed opcodes (0x06) and room-correction opcodes (0x07): R324 to R333, R155 to R166. -/
namespace Sys2Proof.Machine

/-! ## Feed records (R324) -/

/-- A list of feed entries: length, timing, head, and the entries with a check of each. -/
def Mach.feedList (s : Mach) (p : List Byte) (size max_ : Nat) (rest : Nat → List Byte → Option Res) : Option Res :=
  firstOf [s.timingChk 14 p, listHead p 32 max_, scanEntries (fun e => fld e 0 2) s.feedChk rest [] (entriesOf p 32 size)]

/-- Whole or partial records of a list, placed by the command's class. -/
def Mach.feedPut (s : Mach) (o : Origin) (op : Nat) (p : List Byte) (size kind : Nat) (f : List Byte → List Byte) : Mach × Res :=
  s.putRecords o op (s.effOf p) true ((entriesOf p 32 size).map (fun x => (kind, fld x.2 0 2, f x.2)))

/-- FEED_EQ_SET. -/
def opFeedEqSet (o : Origin) (p : List Byte) (_ : List Nat) (s : Mach) : Mach × Res :=
  s.guard (firstOf [listLen p 32 356, s.feedList p 356 11 (fun off e =>
      firstOf [resvIn e 2 2 off, s.recChk K.EQ (e.drop 4) (off + 4 + ·)])]) (fun s =>
    s.feedPut o 0x0601 p 356 K.EQ (·.drop 4))

/-- FEED_TRIM_SET: TRIM alone. -/
def opFeedTrimSet (o : Origin) (p : List Byte) (_ : List Nat) (s : Mach) : Mach × Res :=
  let eff := s.effOf p
  let whole (e : List Byte) : List Byte := let b := s.baseRec eff K.EQ (fld e 0 2); b.take 320 ++ slice e 2 2 ++ toLE 2 0 ++ b.drop 324
  s.guard (firstOf [listLen p 32 4, s.feedList p 4 500 (fun off e =>
      firstOf [failIf (decide (9600 < fld e 2 2)) ST.OUT_OF_RANGE (off + 2), s.recChk K.EQ (whole e) (fun _ => off + 2)])]) (fun s =>
    s.feedPut o 0x0602 p 4 K.EQ whole)

/-- FEED_OUT_SET. -/
def opFeedOutSet (o : Origin) (p : List Byte) (_ : List Nat) (s : Mach) : Mach × Res :=
  s.guard (firstOf [listLen p 32 20, s.feedList p 20 200 (fun off e =>
      firstOf [resvIn e 2 2 off, s.recChk K.OUTSET (e.drop 4) (off + 4 + ·)])]) (fun s =>
    s.feedPut o 0x0603 p 20 K.OUTSET (·.drop 4))

/-- FEED_GAIN_SET: TGAIN and MUTE as SEL names them. Log 72. -/
def opFeedGainSet (o : Origin) (p : List Byte) (_ : List Nat) (s : Mach) : Mach × Res :=
  let eff := s.effOf p
  let whole (e : List Byte) : List Byte :=
    let b := s.baseRec eff K.OUTSET (fld e 0 2)
    let g := if bitOf (fld e 2 1) 0 then slice e 4 4 else b.take 4
    let fl := fld b 4 2
    g ++ toLE 2 (if bitOf (fld e 2 1) 1 then putBits fl 0 1 (fld e 3 1) else fl) ++ b.drop 6
  s.guard (firstOf [listLen p 32 8, s.feedList p 8 500 (fun off e =>
      firstOf [failIf (fld e 2 1 == 0 || decide (3 < fld e 2 1)) ST.BAD_PARAM (off + 2), failIf (decide (1 < fld e 3 1)) ST.BAD_PARAM (off + 3),
        s.recChk K.OUTSET (whole e) (fun _ => off + 4)])]) (fun s =>
    s.feedPut o 0x0604 p 8 K.OUTSET whole)

/-- FEED_LIMIT_SET: the four limiter fields. -/
def opFeedLimitSet (o : Origin) (p : List Byte) (_ : List Nat) (s : Mach) : Mach × Res :=
  let eff := s.effOf p
  let whole (e : List Byte) : List Byte :=
    let b := s.baseRec eff K.OUTSET (fld e 0 2)
    b.take 4 ++ toLE 2 (putBits (fld b 4 2) 1 1 (fld e 2 1)) ++ slice b 6 1 ++ slice e 3 1 ++ slice e 4 4 ++ b.drop 12
  let place (off r : Nat) : Nat := if r = 7 then off + 3 else if r = 8 then off + 4 else if r = 10 then off + 6 else off + 2
  s.guard (firstOf [listLen p 32 8, s.needs 7 true eff, s.feedList p 8 500 (fun off e =>
      firstOf [failIf (decide (1 < fld e 2 1)) ST.BAD_PARAM (off + 2), s.recChk K.OUTSET (whole e) (place off)])]) (fun s =>
    s.feedPut o 0x0605 p 8 K.OUTSET whole)

/-- FEED_RATING_SET. -/
def opFeedRatingSet (o : Origin) (p : List Byte) (_ : List Nat) (s : Mach) : Mach × Res :=
  s.guard (firstOf [listLen p 32 12, s.feedList p 12 300 (fun off e =>
      firstOf [resvIn e 2 2 off, s.recChk K.RATING (e.drop 4) (off + 4 + ·)])]) (fun s =>
    s.feedPut o 0x0606 p 12 K.RATING (·.drop 4))

/-- FEED_GET (R325). -/
def opFeedGet (_ : Origin) (p : List Byte) (_ : List Nat) (s : Mach) : Mach × Res :=
  let f := pf p 16 2
  let kind := [K.EQ, K.OUTSET, K.RATING].getD (pf p 18 1) K.EQ
  s.guard (firstOf [lenIs p 24, s.feedChk 16 p, codeTo p 18 1 2, codeTo p 19 1 3]) (fun s =>
    let b := s.recWhich kind f (pf p 19 1)
    (s, Res.ok ((if kind = K.OUTSET && pf p 19 1 = 0 then s.outInForce f b else b) ++ s.recTail kind f)))

/-- FEED_STATUS (R326): LIM_GR and SAT are read as registers. -/
def opFeedStatus (_ : Origin) (p : List Byte) (_ : List Nat) (s : Mach) : Mach × Res :=
  let f := pf p 16 2
  let n := pf p 18 2
  s.guard (firstOf [lenIs p 24, s.feedChk 16 p, within p 18 2 1 128, failIf (decide (s.variant.feeds < f + n)) ST.OUT_OF_RANGE 18]) (fun s =>
    let (data, s) := (upto n).foldl (fun (a : List Byte × Mach) j =>
      let i := f + j
      let (gr, t) := a.2.regRead (R.FEED_LIM_GR.at_ i 0)
      let (sat, t) := t.regRead (R.FEED_SAT.at_ i 0)
      (a.1 ++ toLE 4 (t.beStat i) ++ toLE 2 gr ++ toLE 2 0 ++ toLE 4 sat ++ toLE 4 (t.bankStat i) ++ toLE 4 (t.trimStat i)
        ++ toLE 4 (t.xfPos i), t)) (([] : List Byte), s)
    (s, Res.ok data))

/-! ## Banks (R155 to R163) -/

/-- Size of a bank image. -/
def bankSize (np nq : Nat) : Nat := 576 + 520 * np + 4160 * nq
/-- First failing check of R157, counted from 1. Log 69. -/
def bankBad (img : List Byte) : Option Nat :=
  let np := fld img 4 1
  let nq := fld img 5 1
  let expBad (o : Nat) : Bool := let e := sfld img o 1; decide (e < -40) || decide (1 < e)
  let cases : List Bool :=
    [fld img 0 2 != 0x434B || fld img 2 2 != 1 || fld img 24 4 != crc32c (zeroAt img 24 4),
     img.length != bankSize np nq,
     decide (15 < np) || decide (14 < nq) || (nq != 0 && np != 15),
     decide (0x800000 < fld img 8 3) || decide (8192 < fld img 12 2),
     (upto np).any (fun k => (upto 8).any (fun e => expBad (576 + 520 * k + e)))
       || (upto nq).any (fun k => (upto 64).any (fun e => expBad (576 + 520 * np + 4160 * k + e))),
     decide (1 < fld img 6 2) || fld img 11 1 != 0 || fld img 14 2 != 0 || !allZero (slice img 28 36)]
  (findPos id cases).map (· + 1)

/-- The bank an image gives. -/
def imageBank (img : List Byte) : Bank :=
  let np := fld img 4 1
  ⟨2, false, np, fld img 5 1, bitOf (fld img 6 2) 0, fld img 8 3, fld img 12 2, fld img 16 8, slice img 64 (512 + 520 * np)⟩

/-- Refusal of a load into slot k of feed f: its status (R162). -/
def Mach.slotBusy (s : Mach) (f k : Nat) : Option Nat :=
  let d := s.feed f
  if (d.bank k).state = 1 || d.xf.isSome || (d.linger && k != d.live) || d.pend.any (fun r => r.slot == k) then some ST.BUSY
  else if k = d.live then some ST.STATE
  else none

/-- Put an image into slot k of feed f, in the bank store and on the die. -/
def Mach.putBank (s : Mach) (f k : Nat) (img : List Byte) : Mach :=
  (s.partStore (s.corrBase + feedArea f + 0x11000 * k) img).onFeed f (fun d =>
    { d.setBank k (imageBank img) with tail := mdel d.tail k })

/-- A load whose copy fails its validation: the copy stands in the bank store, the slot is EMPTY and LOAD_FAIL is raised (R162).
Log 76. -/
def Mach.loadFail (s : Mach) (f k c : Nat) (img : List Byte) : Mach :=
  let s := s.partStore (s.corrBase + feedArea f + 0x11000 * k) img
  ((s.onFeed f (fun d => d.setBank k Bank.empty)).evt F.FEED_CORR_EVT_LOAD_FAIL).raise E.LOAD_FAIL f c

/-- Does command `id` hold slot k of feed f LOADING (R162, R276)? -/
def Mach.loads (s : Mach) (id f k : Nat) : Bool := s.cmd.loads.contains (id, f, k)

/-- The load of command `id` is over. -/
def Mach.loadOver (s : Mach) (id : Nat) : Mach := s.onCmd (fun c => { c with loads := c.loads.filter (fun e => e.1 != id) })

/-- The bank of a slot that a load holds. -/
def Bank.loading : Bank := { Bank.empty with state := 1 }

/-- Reply data of a load (R327). -/
def bankReply (img : List Byte) : List Byte :=
  slice img 16 8 ++ slice img 4 1 ++ slice img 5 1 ++ slice img 12 2 ++ slice img 8 4

/-- What CORR_LOAD is refused for (R162, R327). -/
def Mach.corrLoadChk (s : Mach) (p : List Byte) : Option Res :=
  firstOf [lenIs p 40, s.feedChk 16 p, codeTo p 18 1 1, resv p 19 1, s.bufChk p 20 (failOpen (decide (66616 < (bufOf p 20).len)) ST.BAD_LENGTH),
    failOpen (!s.corrOn) ST.NOT_READY,
    (s.slotBusy (pf p 16 2) (pf p 18 1)).map (fun st => Res.fail st openDet)]

/-- Feeds that the mask of CORR_LOAD_MULTI names. -/
def maskFeeds (p : List Byte) : List Nat := (upto 512).filter (fun f => bitOf (pf p (20 + f / 8) 1) (f % 8))

/-- What CORR_LOAD_MULTI is refused for (R162, R328). -/
def Mach.corrMultiChk (s : Mach) (p : List Byte) : Option Res :=
  let fs := maskFeeds p
  firstOf [lenIs p 104, codeTo p 16 1 1, resv p 17 3, failIf fs.isEmpty ST.BAD_PARAM 20,
    failIf (fs.any (fun f => decide (s.variant.feeds ≤ f))) ST.OUT_OF_RANGE 20, s.bufChk p 84 (failOpen (decide (66616 < (bufOf p 84).len)) ST.BAD_LENGTH),
    failOpen (!s.corrOn) ST.NOT_READY,
    fs.findSome? (fun f => (s.slotBusy f (pf p 16 1)).map (fun st => Res.fail st f))]

/-- The end of a load of image `b` into slot k of `fs`, copied and validated in the first of them: its reply data get `tail`. A
copy that the bus fails leaves the slot as it is, or EMPTY where the command had set it LOADING. Log 76, 148. -/
def Mach.loadGo (s : Mach) (held : Bool) (b : Buf) (err : Bool) (fs : List Nat) (k : Nat) (tail : List Byte) : Mach × Res :=
  if s.bufErr b false err then ((s.bufBad b false).when held (·.onFeed (fs.headD 0) (fun d => d.setBank k Bank.empty)), bufFault) else
    let img := s.bufRead b
    let s := s.bufTouch b
    match bankBad img with
    | some c => (s.loadFail (fs.headD 0) k c img, Res.fail ST.BAD_PARAM c)
    | none => (s.each fs (fun s f => s.putBank f k img), Res.ok (bankReply img ++ tail))

/-- CORR_LOAD (R327). -/
def opCorrLoad (o : Origin) (p : List Byte) (obs : List Nat) (s : Mach) : Mach × Res :=
  let held := s.loads o.id (pf p 16 2) (pf p 18 1)
  s.guard (if held then none else s.corrLoadChk p) (fun s =>
    (s.when held (·.loadOver o.id)).loadGo held (bufOf p 20) (obsOn obs 0) [pf p 16 2] (pf p 18 1) [])

/-- CORR_LOAD_MULTI (R328). -/
def opCorrLoadMulti (o : Origin) (p : List Byte) (obs : List Nat) (s : Mach) : Mach × Res :=
  let fs := maskFeeds p
  let held := s.loads o.id (fs.headD 0) (pf p 16 1)
  s.guard (if held then none else s.corrMultiChk p) (fun s =>
    (s.when held (·.loadOver o.id)).loadGo held (bufOf p 84) (obsOn obs 0) fs (pf p 16 1) (toLE 2 fs.length))

/-- The slot that a load in processing sets LOADING: none where it is to be refused (R162, R276). -/
def Mach.loadSlot (s : Mach) (c : InCmd) : Option (Nat × Nat) :=
  if !c.started || c.forced.isSome || s.cmd.loads.any (fun e => e.1 == c.o.id) then none
  else if c.op = 0x0701 then (if (s.corrLoadChk c.p).isNone then some (pf c.p 16 2, pf c.p 18 1) else none)
  else if c.op = 0x0702 then (if (s.corrMultiChk c.p).isNone then some ((maskFeeds c.p).headD 0, pf c.p 16 1) else none)
  else none

/-- Loads that have begun to run set their slots LOADING, and the slot of a load that was discarded is EMPTY (R162, R276, R368).
Log 148. -/
def Mach.loadsRun (s : Mach) : Mach :=
  let s := s.each (s.cmd.loads.filter (fun e => !s.cmd.pool.any (fun c => c.o.id == e.1 && c.forced.isNone)))
    (fun s e => (s.onFeed e.2.1 (fun d => d.setBank e.2.2 Bank.empty)).loadOver e.1)
  s.each s.cmd.pool (fun s c => match s.loadSlot c with
    | some (f, k) => (s.onFeed f (fun d => d.setBank k Bank.loading)).onCmd (fun d => { d with loads := (c.o.id, f, k) :: d.loads })
    | none => s)

/-- CORR_SWAP (R329). -/
def opCorrSwap (o : Origin) (p : List Byte) (_ : List Nat) (s : Mach) : Mach × Res :=
  let es := entriesOf p 32 4
  let eff := s.effOf p
  let feedOf (e : List Byte) : Nat := fld e 0 4 % 512
  let slotOf (e : List Byte) : Nat := bits (fld e 0 4) 16 1
  let state (e : List Byte) : Nat := ((s.feed (feedOf e)).bank (slotOf e)).state
  let chk (_ : Nat) (e : List Byte) : Option Res :=
    if eff = .scene then none
    else firstOf [failOpen (state e == 0) ST.STATE, failOpen (state e == 1) ST.BUSY]
  let puts := es.map (fun x => (⟨rkey K.SWAP (feedOf x.2), toLE 1 (slotOf x.2)⟩ : Put))
  s.guard (firstOf [listLen p 32 4, s.timingChk 14 p, listHead p 32 512,
      scanEntries feedOf (fun off e => firstOf [failIf (fld e 0 4 != feedOf e + 65536 * slotOf e) ST.BAD_PARAM off,
        failIf (decide (s.variant.feeds ≤ feedOf e)) ST.OUT_OF_RANGE off]) chk [] es]) (fun s =>
    match eff with
    | .scene => (s.each es (fun s x => s.putStage K.BANKSEL (feedOf x.2) (toLE 1 (slotOf x.2))), Res.accepted)
    | .time t => s.timePuts o 0x0703 t false puts
    | .next late => s.latchPuts o 0x0703 late puts
    | .imm => s.latchPuts o 0x0703 false puts)

/-- CORR_XFCFG (R330). -/
def opCorrXfcfg (_ : Origin) (p : List Byte) (_ : List Nat) (s : Mach) : Mach × Res :=
  let es := entriesOf p 16 4
  s.guard (firstOf [listLen p 16 4, listHead p 16 500,
      scanEntries (fun e => fld e 0 2) s.feedChk (fun off e => firstOf [failIf (!inRange 8 14 (fld e 2 1)) ST.OUT_OF_RANGE (off + 2),
        failIf (decide (1 < fld e 3 1)) ST.BAD_PARAM (off + 3)]) [] es]) (fun s =>
    (s.each es (fun s x => (s.sf F.FEED_XFCFG_LENLOG (fld x.2 2 1) (fld x.2 0 2)).sf F.FEED_XFCFG_CURVE (fld x.2 3 1) (fld x.2 0 2)), Res.ok))

/-- Tick at which the running or the reserved cross-fade of feed f starts. -/
def Mach.xfStart (s : Mach) (f : Nat) : Nat :=
  let d := s.feed f
  match d.xf, d.resv with
  | some x, _ => x.start
  | none, some b => 64 * b
  | none, none => noTick

/-- CORR_STATUS (R331). -/
def opCorrStatus (_ : Origin) (p : List Byte) (_ : List Nat) (s : Mach) : Mach × Res :=
  let f := pf p 16 2
  s.guard (firstOf [lenIs p 24, s.feedChk 16 p, resv p 18 2]) (fun s =>
    let d := s.feed f
    let waiting := s.swapQueue.filter (fun g => (s.feed g).pend.any (·.queued))
    (s, Res.ok (toLE 4 (s.bankStat f) ++ toLE 4 (s.xfPos f) ++ toLE 8 d.a.id ++ toLE 8 d.b.id
      ++ toLE 2 (((findPos (· == f) waiting).map (· + 1)).getD 0) ++ toLE 2 0 ++ toLE 8 (s.xfStart f))))

/-- CORR_REGION (R333). -/
def opCorrRegion (_ : Origin) (p : List Byte) (_ : List Nat) (s : Mach) : Mach × Res :=
  let en := bitOf (pf p 24 4) 0
  s.guard (firstOf [lenIs p 32, regionChk p (fun a => s.regionOk 1 a corrSize) en s.corrOn s.corrBase s.corrFree]) (fun s =>
    (if s.corrOn && en then s else s.corrRegion (pf p 16 8) en, Res.ok))

/-- CORR_RESET_SLOT (R332). -/
def opCorrResetSlot (_ : Origin) (p : List Byte) (_ : List Nat) (s : Mach) : Mach × Res :=
  let es := entriesOf p 16 4
  s.guard (firstOf [listLen p 16 4, listHead p 16 500,
      scanEntries (fun e => fld e 0 2 * 256 + fld e 2 1) s.feedChk (fun off e => firstOf [
        failIf (decide (1 < fld e 2 1)) ST.BAD_PARAM (off + 2), failIf (decide (1 < fld e 3 1)) ST.BAD_PARAM (off + 3),
        (s.slotBusy (fld e 0 2) (fld e 2 1)).map (fun st => Res.fail st off)]) [] es]) (fun s =>
    (s.each es (fun s x => s.onFeed (fld x.2 0 2) (fun d =>
      d.setBank (fld x.2 2 1) (if fld x.2 3 1 = 0 then Bank.empty else Bank.ident))), Res.ok))

end Sys2Proof.Machine
end

