-- ==== Sys2Proof/Machine/OpRoute.lean ====
section
/-! DEFINITION. Routing opcodes (0x08): R334 to R338. -/
namespace Sys2Proof.Machine

/-- Place records that keep no shadow: a scene class stages them, the others latch or enter them one by one. -/
def Mach.putPlain (s : Mach) (o : Origin) (op : Nat) (e : Eff) (l : List (Nat × Nat × List Byte)) : Mach × Res :=
  let puts := l.map (fun x => (⟨rkey x.1 x.2.1, x.2.2⟩ : Put))
  match e with
  | .scene => (s.each l (fun s x => s.putStage x.1 x.2.1 x.2.2), Res.accepted)
  | .time t => s.timePuts o op t false puts
  | .next late => s.latchPuts o op late puts
  | .imm => s.latchPuts o op false puts

/-- A selector's refusal. -/
def Mach.selChk (s : Mach) (mux v off : Nat) : Option Res := (s.selBad mux v).map (fun st => Res.fail st off)

/-- ROUTE_IN_SET (R334). -/
def opRouteInSet (o : Origin) (p : List Byte) (_ : List Nat) (s : Mach) : Mach × Res :=
  let es := entriesOf p 32 8
  s.guard (firstOf [listLen p 32 8, s.timingChk 14 p, listHead p 32 500,
      scanEntries (fun e => fld e 0 2) s.chanChk (fun off e => firstOf [s.selChk 0 (fld e 2 2) (off + 2),
        failIf (decide (1 < fld e 4 4)) ST.BAD_PARAM (off + 4)]) [] es]) (fun s =>
    s.putPlain o 0x0801 (s.effOf p) (es.map (fun x => (K.INSEL, fld x.2 0 2, toLE 4 (fld x.2 2 2 + 65536 * fld x.2 4 4)))))

/-- ROUTE_OUT_SET (R334). -/
def opRouteOutSet (o : Origin) (p : List Byte) (_ : List Nat) (s : Mach) : Mach × Res :=
  let es := entriesOf p 32 4
  s.guard (firstOf [listLen p 32 4, s.timingChk 14 p, listHead p 32 1000,
      scanEntries (fun e => fld e 0 2) (fun off e => failIf (decide (2624 ≤ fld e 0 2)) ST.OUT_OF_RANGE off)
        (fun off e => s.selChk 1 (fld e 2 2) (off + 2)) [] es]) (fun s =>
    s.putPlain o 0x0802 (s.effOf p) (es.map (fun x => (K.OUTSEL, fld x.2 0 2, toLE 4 (fld x.2 2 2)))))

/-- Rows of a buffer of ROUTE_MATRIX_SET: the first that fails, as status, record and offset. -/
def rowsBad (s : Mach) (l : List (List Byte)) : Option (Nat × Nat × Nat) :=
  l.zipIdx.findSome? (fun (e, i) =>
    let at_ := 2052 * i
    if 128 ≤ fld e 0 4 then some (ST.OUT_OF_RANGE, i, at_)
    else if (l.take i).any (fun x => fld x 0 4 == fld e 0 4) then some (ST.BAD_PARAM, i, at_)
    else (s.recBad K.MATRIX (e.drop 4)).map (fun x => (x.1, i, at_ + 4 + x.2)))

/-- ROUTE_MATRIX_SET (R335). -/
def opRouteMatrixSet (o : Origin) (p : List Byte) (obs : List Nat) (s : Mach) : Mach × Res :=
  let mode := pf p 32 1
  let b := bufOf p 36
  let len := match mode with
    | 0 => lenIs p 2088
    | 1 => lenIs p 56
    | _ => failIf (lenOf p != 2088 && lenOf p != 56) ST.BAD_LENGTH 0
  s.guard (firstOf [len, s.timingChk 14 p, codeTo p 32 1 1, resv p 33 1,
      if mode = 0 then failIf (decide (127 < pf p 34 2)) ST.OUT_OF_RANGE 34 else resv p 34 2]) (fun s =>
    if mode = 0 then
      s.guard (s.recChk K.MATRIX (slice p 20 2048) (36 + ·)) (fun s =>
        s.putPlain o 0x0803 (s.effOf p) [(K.MATRIX, pf p 34 2, slice p 20 2048)])
    else
      s.guard (firstOf [s.bufChk p 36 (failIf (b.len == 0 || b.len % 2052 != 0 || decide (128 * 2052 < b.len)) ST.BAD_LENGTH 0)]) (fun s =>
        s.source b (obsOn obs 0) (fun l s =>
          let rows := chunks 2052 128 l
          match rowsBad s rows with
          | some (st, i, a) => (s, Res.fail st i (toLE 4 a))
          | none => s.putPlain o 0x0803 (s.effOf p) (rows.map (fun e => (K.MATRIX, fld e 0 4, e.drop 4))))))

/-- ROUTE_GEN_SET (R336). Log 72. -/
def opRouteGenSet (o : Origin) (p : List Byte) (_ : List Nat) (s : Mach) : Mach × Res :=
  let es := entriesOf p 32 20
  let m (e : List Byte) (b : Nat) : Bool := bitOf (fld e 2 2) b
  s.guard (firstOf [listLen p 32 20, s.timingChk 10 p, listHead p 32 16,
      scanEntries (fun e => fld e 0 2) (fun off e => failIf (decide (16 ≤ fld e 0 2)) ST.OUT_OF_RANGE off) (fun off e => firstOf [
        failIf (fld e 2 2 == 0 || decide (15 < fld e 2 2)) ST.BAD_PARAM (off + 2),
        failIf (m e 0 && fld e 4 4 &&& 0xFFFFE0F8 != 0) ST.BAD_PARAM (off + 4),
        failIf (m e 0 && !genCtrlOk (fld e 4 4)) ST.OUT_OF_RANGE (off + 4),
        failIf (m e 1 && decide (0x7FFFFFFF < fld e 8 4)) ST.OUT_OF_RANGE (off + 8),
        failIf (m e 2 && decide (0x100000 < fld e 12 4)) ST.OUT_OF_RANGE (off + 12)]) [] es]) (fun s =>
    s.putPlain o 0x0804 (s.effOf p) (es.map (fun x => (K.GEN, fld x.2 0 2, x.2))))

/-! ## Rings (R56, R200, R337) -/

/-- Checks that the ring commands share: an index, FLAGS, a base aligned to `unit` and a size. Log 83. -/
def ringChk (p : List Byte) (unit : Nat) (sizeOk on_ : Bool) : Option Res :=
  let setb := bitOf (pf p 18 2) 1
  firstOf [failIf (decide (3 < pf p 18 2)) ST.BAD_PARAM 18,
    failIf (setb && (pf p 20 8 % unit != 0 || decide (2 ^ 40 ≤ pf p 20 8))) ST.OUT_OF_RANGE 20,
    failIf (setb && !sizeOk) ST.OUT_OF_RANGE 28, failOpen (setb && on_ && bitOf (pf p 18 2) 0) ST.STATE]

/-- Registers of a ring. -/
structure RingRegs where
  en : Fld
  lo : Reg
  hi : Reg
  size : Reg

/-- Put a ring's base and size: EN is cleared first where the command clears it, and set last where it sets it. -/
def Mach.ringPut (s : Mach) (r : RingRegs) (i : Nat) (p : List Byte) (ctrl : Nat → Mach → Mach) : Mach :=
  let f := pf p 18 2
  let s := if bitOf f 0 then s else ctrl 0 s
  let s := if bitOf f 1 then (s.wr64 r.lo r.hi (pf p 20 8) i).wr r.size (pf p 28 4) i else s
  if bitOf f 0 then ctrl 1 s else s

/-- ROUTE_RING_SET (R337). Log 83. -/
def opRouteRingSet (_ : Origin) (p : List Byte) (_ : List Nat) (s : Mach) : Mach × Res :=
  let play := pf p 16 1 == 0
  let i := pf p 17 1
  let r : RingRegs := if play then ⟨F.RENDER_PLAY_CTRL_EN, R.RENDER_PLAY_BASE_LO, R.RENDER_PLAY_BASE_HI, R.RENDER_PLAY_SIZE⟩
    else ⟨F.FEED_CAP_CTRL_EN, R.FEED_CAP_BASE_LO, R.FEED_CAP_BASE_HI, R.FEED_CAP_SIZE⟩
  s.guard (firstOf [lenIs p 36, codeTo p 16 1 1, within p 17 1 0 63, ringChk p 64 (ringSizeOk (pf p 28 4)) (s.on r.en i)]) (fun s =>
    (s.ringPut r i p (fun v s => if play then playCtrlWrite i v s else capCtrlWrite i v s), Res.ok))

/-! ## Status (R338) -/

/-- Twelve bytes of a selector's state. -/
def Mach.routeBytes (s : Mach) (sinks : Bool) (i : Nat) : List Byte :=
  let r := if sinks then (s.sink i).route else (s.chan i).route
  let g := s.recd (if sinks then K.OUTSEL else K.INSEL) i
  toLE 2 r.cur.sel ++ toLE 2 (fld g.stage 0 2) ++ toLE 4 (if sinks then s.sinkStat i else if s.chanOk i then s.instatWord i else 0)
    ++ toLE 2 ((r.pend.map (·.1)).getD 0xFFFF) ++ toLE 2 (b2n (!sinks && s.absentNow i) + 2 * b2n g.dirty + 4 * (fld g.stage 2 2 % 2))

/-- ROUTE_STATUS. -/
def opRouteStatus (_ : Origin) (p : List Byte) (_ : List Nat) (s : Mach) : Mach × Res :=
  let sinks := pf p 16 1 == 1
  let top := 2624
  let f := pf p 18 2
  let n := pf p 20 2
  s.guard (firstOf [lenIs p 28, codeTo p 16 1 1, resv p 17 1, failIf (if sinks then decide (top ≤ f) else !s.chanOk f) ST.OUT_OF_RANGE 18,
      within p 20 2 1 256, failIf (if sinks then decide (top < f + n) else !s.chansOk f n) ST.OUT_OF_RANGE 20, resv p 22 2]) (fun s =>
    (s, Res.ok ((upto n).flatMap (fun j => s.routeBytes sinks (f + j)))))

end Sys2Proof.Machine
end

