-- ==== Sys2Proof/Machine/Power.lean ====
section
/-! DEFINITION. Moves between the power states (R344, R421, R444, R526 to R530). -/
namespace Sys2Proof.Machine

/-- Change the move that runs. -/
def Mach.onMove (s : Mach) (f : PwrMove → PwrMove) : Mach := s.onSys (fun y => { y with move := y.move.map f })

/-- Egress streams drop the samples of a packet that has not left. -/
def Mach.dropEgress (s : Mach) : Mach := { s with sout := s.sout.map (fun e => (e.1, { e.2 with buf := [] })) }

/-- The power state changes; the serial ports follow it, and in QUIET egress streams send nothing (R526). -/
def Mach.setPower (s : Mach) (t : Nat) : Mach :=
  ((s.sf F.SYS_PWR_STAT_STATE t).when (t == 2) Mach.dropEgress).each (upto 64) (fun s n => s.aspEnable n)

/-- Leaving QUIET: downshifted ports renegotiate, and the launcher takes the numbering of R33 at the next token (R421,
R528). -/
def Mach.leaveQuiet (s : Mach) : Mach :=
  let s := s.each [0, 1] (fun s p =>
    if s.on F.NET_STAT_DOWNSHIFTED p then
      ((s.sf F.NET_STAT_DOWNSHIFTED 0 p).linkDrop p).onNet p (fun n => { n with renego := true })
    else s)
  if s.timeState = 2 then s.onTime (fun t => { t with aligned := false }) else s

/-- Is a port still renegotiating its configured speed? -/
def Mach.renegoing (s : Mach) : Bool := s.net0.renego || s.net1.renego

/-- DOWNSHIFT_RENEGOTIATION_TIMEOUT: 3 s have passed since the move out of QUIET (R421). -/
def downshiftRenegotiationTimeout (p : Nat) (s : Mach) : Mach := if p < 2 then s.onNet p (fun n => { n with renego := false }) else s

/-- A move to state t starts for the command `reply` (R527, R528). Log 39. -/
def Mach.powerStart (s : Mach) (t : Nat) (reply : Nat) : Mach :=
  let was := s.power
  let s := (s.sf F.SYS_PWR_STAT_BUSY 1).sf F.SYS_PWR_STAT_TARGET t
  let s := s.when (was == 2) Mach.leaveQuiet
  let move : PwrMove := ⟨t, 0, was == 0, some reply, t == 0⟩
  let s := s.onSys (fun y => { y with move := some move })
  if t = 0 then (s.clearHistories).wakeAll s.tm.tick
  else if was = 0 || 3 ≤ t then s
  else s.setPower t

/-- The fabric is gated as a whole (R238, R527): every group, and no path is left. -/
def Mach.gateAll (s : Mach) : Mach :=
  ((s.fabIdle.sf F.FAB_GATE_STAT_PG 0xFFFF).sf F.FAB_GATE_STAT_FG 0xF).onRend (fun q => { q.noPaths with work := none })

/-- What a running move does at the token of tick m, once the tick before is complete. Log 42. -/
def Mach.powerToken (s : Mach) : Mach :=
  match s.sys.move with
  | none => s
  | some v =>
    if v.fromActive then
      if v.left = 1 then
        let s := (s.gateAll).onMove (fun v => { v with left := 0, fromActive := false })
        if v.target < 3 then s.setPower v.target else s
      else s
    else if v.target = 0 && !v.waking then s.onMove (fun v => { v with left := v.left - 1 })
    else s

/-- At a token: a move into ACTIVE renders from the first token that finds all 20 groups awake (R528). -/
def Mach.powerAwake (s : Mach) : Mach :=
  match s.sys.move with
  | some v =>
    if v.waking && !(upto 20).any (fun k => s.gated k) then
      let s := (s.setPower 0).onMove (fun v => { v with waking := false, left := 3 })
      let s := s.onTime (fun t => { t with gstep := .held 2 })
      let full (k : Sink) : Sink := if s.muteWanted k then k else { k with em := 0, emFade := none }
      s.onRend (fun q => { q with sinks := q.sinks.map (fun e => (e.1, full e.2)), sinkRest := full q.sinkRest })
    else s
  | none => s

/-- The hand-off copy of a token has been made: a move out of ACTIVE has ramped (R527). Log 42. -/
def Mach.powerCopied (s : Mach) : Mach := s.onMove (fun v => if v.fromActive && v.left = 0 then { v with left := 1 } else v)

/-- The rails go away: STANDBY or OFF (R344, R508, R526, R530). Log 47. -/
def Mach.railsDown (s : Mach) (t : Nat) : Mach :=
  let s := s.when (s.phase == 6) (fun s => s.logWrite (s.rtcNow / 86400))
  let s := s.each s.cmd.sess (fun s e => s.closeSess e.1)
  let arm := s.sys.armWake
  let u := s.wiped
  (u.onSys (fun y => { y with pwrReq := false, railsOff := true, armWake := arm && t == 3, alarm := if t = 3 then y.alarm else none })).sf
    F.SYS_PWR_STAT_STATE t

/-- Has the reply of command `id` left, as far as its transports can take it? Log 47. -/
def Mach.posted (s : Mach) (id : Nat) : Bool :=
  let q (n : Nat) : Bool := (s.cmd.waitOf n).isEmpty || !s.linkPcie || !s.on F.CMD_QP_CTRL_EN n
  !s.cmd.rel.any (fun r => r.o.id == id) && q 0 && q 1 && s.cmd.spiWait.isEmpty
    && (s.cmd.udpOut.isEmpty || s.gf F.TIME_STAT_CTRL_PORT == 2)

/-- End the move that runs if nothing is left of it: its reply, and the rails where it goes to STANDBY or OFF. -/
def Mach.powerCheck (s : Mach) : Mach :=
  match s.sys.move with
  | none => s
  | some v =>
    if v.fromActive || v.waking || s.renegoing then s
    else
      let id := v.reply.getD 0
      let say (s : Mach) : Mach := let (t, s) := s.tickNow; s.answer id ST.OK 0 t []
      if v.target < 3 then
        if v.left = 0 then say ((s.onSys (fun y => { y with move := none })).sf F.SYS_PWR_STAT_BUSY 0) else s
      else if v.left = 0 then
        let s := (say s).onMove (fun v => { v with left := 4 })
        if s.posted id then s.railsDown v.target else s
      else if s.posted id then s.railsDown v.target
      else s

end Sys2Proof.Machine
end

