-- ==== Sys2Proof/Machine/OpPorts.lean ====
section
/-! DEFINITION. Serial-port and network opcodes (0x09, 0x0A): R349 to R353. -/
namespace Sys2Proof.Machine

/-! ## Serial ports (R349, R350) -/

/-- A port or bank number within n. -/
def below (n : Nat) : Nat → List Byte → Option Res := fun off e => failIf (decide (n ≤ fld e 0 1)) ST.OUT_OF_RANGE off

/-- Code of a width or word of 16, 24 or 32 bits. -/
def bitsCode (n : Nat) : Nat := if n = 16 then 0 else if n = 24 then 1 else if n = 32 then 2 else 3

/-- Configuration word of an ASP_CONFIG entry. -/
def aspEntry (e : List Byte) : Nat :=
  fld e 2 1 % 4 + 4 * (fld e 1 1 % 2) + 8 * (fld e 3 1 % 2) + 16 * (fld e 4 1 % 64) + 1024 * bitsCode (fld e 5 1)
    + 4096 * bitsCode (fld e 6 1) + 65536 * (fld e 7 1 % 8) + 2 ^ 20 * (fld e 8 1 % 8)

/-- Fields of an ASP_CONFIG entry, then the rules of R350 and R389. Log 120. -/
def Mach.aspEntryChk (s : Mach) (off : Nat) (e : List Byte) : Option Res :=
  let code (o hi : Nat) : Option Res := failIf (decide (hi < fld e o 1)) ST.BAD_PARAM (off + o)
  let n := fld e 0 1
  firstOf [code 1 1, code 2 3, code 3 1, failIf (!inRange 2 32 (fld e 4 1)) ST.OUT_OF_RANGE (off + 4),
    failIf (fld e 2 1 != 3 && fld e 4 1 != 2) ST.BAD_PARAM (off + 4), failIf (bitsCode (fld e 5 1) == 3) ST.BAD_PARAM (off + 5),
    failIf (bitsCode (fld e 6 1) == 3 || decide (fld e 5 1 < fld e 6 1)) ST.BAD_PARAM (off + 6), code 7 6, code 8 7,
    failIf (fld e 2 1 != 3 && bitOf (fld e 8 1) 2) ST.BAD_PARAM (off + 8), failIf (!allZero (slice e 9 3)) ST.BAD_PARAM (off + 9),
    match s.aspRefuse n (aspEntry e) false with
    | 0 => none
    | 2 => failOpen true ST.NOT_READY
    | 4 => failIf true ST.OUT_OF_RANGE (off + 7)
    | _ => failIf true ST.BAD_PARAM (off + 7)]

/-- Refusal of a total weight above 1,024, with the excess. Log 86. -/
def Mach.loadChk (s : Mach) (t : Mach) : Option Res :=
  failIf (decide (2048 < t.aspLoad) && decide (s.aspLoad < t.aspLoad)) ST.QUEUE_FULL ((t.aspLoad - 2048 + 1) / 2)

/-- ASP_CONFIG. -/
def opAspConfig (_ : Origin) (p : List Byte) (_ : List Nat) (s : Mach) : Mach × Res :=
  let es := entriesOf p 16 12
  let t := s.each es (fun s x => s.setLv R.ASP_CFG (aspEntry x.2) (fld x.2 0 1))
  s.guard (firstOf [listLen p 16 12, listHead p 16 64, scanEntries (fun e => fld e 0 1) (below 64) s.aspEntryChk [] es, s.loadChk t]) (fun s =>
    (s.each es (fun s x => (s.wr R.ASP_CFG (aspEntry x.2) (fld x.2 0 1)).aspApply (fld x.2 0 1) (aspEntry x.2)), Res.ok))

/-- ASP_SLOTMASK; bit i of `obs` tells that mask i reaches its port less than 2 bit periods before a frame start edge. -/
def opAspSlotmask (_ : Origin) (p : List Byte) (obs : List Nat) (s : Mach) : Mach × Res :=
  let es := entriesOf p 16 8
  s.guard (firstOf [listLen p 16 8, listHead p 16 64,
      scanEntries (fun e => fld e 0 1) (below 64) (fun off e => firstOf [failIf (!allZero (slice e 1 3)) ST.BAD_PARAM (off + 1),
        failIf (decide (2 ^ s.aspSlots (fld e 0 1) ≤ fld e 4 4)) ST.BAD_PARAM (off + 4)]) [] es]) (fun s =>
    (s.each es.zipIdx (fun s x => s.aspMask (fld x.1.2 0 1) (fld x.1.2 4 4) (obsOn obs x.2)), Res.ok))

/-- ASP_ENABLE. -/
def opAspEnable (_ : Origin) (p : List Byte) (_ : List Nat) (s : Mach) : Mach × Res :=
  let es := entriesOf p 16 4
  let t := s.each es (fun s x => s.sf F.ASP_CTRL_EN (fld x.2 1 1 % 2) (fld x.2 0 1))
  s.guard (firstOf [listLen p 16 4, listHead p 16 64,
      scanEntries (fun e => fld e 0 1) (below 64) (fun off e => firstOf [failIf (decide (1 < fld e 1 1)) ST.BAD_PARAM (off + 1),
        failIf (!allZero (slice e 2 2)) ST.BAD_PARAM (off + 2)]) [] es, s.loadChk t]) (fun _ =>
    (t.each es (fun s x => s.aspEnable (fld x.2 0 1)) |>.aspReload, Res.ok))

/-- ASP_MCLK. -/
def opAspMclk (_ : Origin) (p : List Byte) (_ : List Nat) (s : Mach) : Mach × Res :=
  let es := entriesOf p 16 8
  let ratio (e : List Byte) : Option Nat := findPos (fun r => r == fld e 2 2) [128, 256, 512]
  s.guard (firstOf [listLen p 16 8, listHead p 16 8,
      scanEntries (fun e => fld e 0 1) (below 8) (fun off e => firstOf [failIf (decide (3 < fld e 1 1)) ST.BAD_PARAM (off + 1),
        failIf (ratio e).isNone ST.BAD_PARAM (off + 2), failIf (!allZero (slice e 4 4)) ST.BAD_PARAM (off + 4)]) [] es]) (fun s =>
    (s.each es (fun s x => s.aspBank (fld x.2 0 1) (fld x.2 1 1 + 4 * (ratio x.2).getD 0)), Res.ok))

/-- Checks of FIRST and N over `top` instances. -/
def firstN (p : List Byte) (offF lenF offN lenN top max_ : Nat) : Option Res :=
  firstOf [failIf (decide (top ≤ pf p offF lenF)) ST.OUT_OF_RANGE offF, within p offN lenN 1 max_,
    failIf (decide (top < pf p offF lenF + pf p offN lenN)) ST.OUT_OF_RANGE offN]

/-- ASP_STATUS. -/
def opAspStatus (_ : Origin) (p : List Byte) (_ : List Nat) (s : Mach) : Mach × Res :=
  let ports := (upto (pf p 17 1)).map (· + pf p 16 1)
  s.guard (firstOf [lenIs p 24, firstN p 16 1 17 1 64 64, codeTo p 18 1 1, resv p 19 1]) (fun s =>
    let data := ports.flatMap (fun n => toLE 4 (s.rd R.ASP_STAT n % 128) ++ toLE 4 (s.rd R.ASP_RATE n) ++ toLE 4 (s.rd R.ASP_SLIP n)
      ++ toLE 4 (s.rd R.ASP_GLITCH n) ++ toLE 4 (s.rd R.ASP_LOSSES n) ++ toLE 4 (s.rd R.ASP_MASK_LIVE n))
    (if pf p 18 1 = 1 then s.each ports (fun s n => s.aspClear n) else s, Res.ok data))

/-! ## Ports and rings (R351, R353) -/

/-- NET_PORT_CFG. -/
def opNetPortCfg (_ : Origin) (p : List Byte) (_ : List Nat) (s : Mach) : Mach × Res :=
  let n := pf p 16 1
  let sp := pf p 17 1
  s.guard (firstOf [lenIs p 32, within p 16 1 0 1, within p 17 1 1 4, codeTo p 18 2 31, within p 20 2 1 1000, within p 22 2 1 5000,
      within p 24 2 256 9216, resv p 26 2, failIf (s.speedHeld n sp) ST.STATE 10]) (fun s =>
    let s := (s.sf F.NET_PAUSE_CFG_PAUSE_WD (pf p 20 2) n).sf F.NET_DS_CFG_DS_MBPS (pf p 22 2) n
    let s := (s.sf F.NET_CT_CFG_CT_BYTES (pf p 24 2) n).sf F.NET_CT_LIVE_BYTES (pf p 24 2) n
    (s.netCfg n (sp + 16 * pf p 18 2), Res.ok))

/-- NET_IP_CFG. -/
def opNetIpCfg (_ : Origin) (p : List Byte) (_ : List Nat) (s : Mach) : Mach × Res :=
  s.guard (firstOf [lenIs p 36, within p 16 1 0 1, within p 17 1 8 30, within p 18 2 0 4094, within p 31 1 0 7]) (fun s =>
    (s.onNet (pf p 16 1) (fun n => { n with ip := ⟨pf p 20 4, pf p 17 1, pf p 18 2, pf p 24 4, pf p 28 1, pf p 29 1, pf p 30 1, pf p 31 1⟩ }),
     Res.ok))

/-- Logarithm of a power of two from 16 to 4,096. -/
def sizeLog (n : Nat) : Option Nat := ((upto 9).map (· + 4)).find? (fun k => n == 2 ^ k)

/-- NET_RING_CFG: SETBASE gives a ring its base, entries and buffer size. Log 84. -/
def opNetRingCfg (_ : Origin) (p : List Byte) (_ : List Nat) (s : Mach) : Mach × Res :=
  let n := pf p 16 1
  let r := pf p 17 1
  let f := pf p 18 2
  let setb := bitOf f 1
  let base := pf p 20 8
  s.guard (firstOf [lenIs p 36, within p 16 1 0 1, within p 17 1 0 7, codeTo p 18 2 3,
      failIf (setb && (base % 64 != 0 || decide (2 ^ 40 ≤ base))) ST.OUT_OF_RANGE 20, failIf (setb && (sizeLog (pf p 28 2)).isNone) ST.OUT_OF_RANGE 28,
      failIf (setb && (!inRange 256 9216 (pf p 30 2) || pf p 30 2 % 64 != 0)) ST.OUT_OF_RANGE 30,
      failOpen (setb && s.on F.NET_RX_CTRL_EN n r) ST.STATE]) (fun s =>
    let s := if setb then (s.wr R.NET_RX_BASE_LO (base % 2 ^ 32) n r).wr R.NET_RX_BASE_HI (base / 2 ^ 32 % 2 ^ 32) n r else s
    let lg := if setb then (sizeLog (pf p 28 2)).getD 4 else s.gf F.NET_RX_CTRL_SIZE n r
    let bs := if setb then pf p 30 2 else s.gf F.NET_RX_CTRL_BUFSZ n r
    (s.rxCtrl n r (f % 2 + 16 * lg + 65536 * bs), Res.ok))

/-- NET_STATUS. -/
def opNetStatus (_ : Origin) (p : List Byte) (_ : List Nat) (s : Mach) : Mach × Res :=
  let n := pf p 16 1
  s.guard (firstOf [lenIs p 24, within p 16 1 0 1, codeTo p 17 1 1, resv p 18 2]) (fun s =>
    let st := s.gf F.NET_STAT_LPI n + 2 * s.gf F.NET_STAT_PAUSED n + 4 * b2n (s.activePort == n) + 8 * b2n (s.gf F.TIME_STAT_CTRL_PORT == n)
    let data := toLE 1 (s.gf F.NET_STAT_LINK n) ++ toLE 1 (s.gf F.NET_STAT_SPEED n) ++ toLE 2 st
      ++ ([R.NET_RX_FRAMES, R.NET_TX_FRAMES, R.NET_RX_NOBUF_DROP, R.NET_RX_OVERFLOW, R.NET_RUNT, R.NET_FCS_ERR, R.NET_PAUSE_WD,
        R.NET_MEDIA_LATE_DROP, R.NET_TX_UNDERRUN].flatMap (fun r => toLE 4 (s.rd r n)))
    (if pf p 17 1 = 1 then s.netClear n else s, Res.ok data))

/-- NET_MDIO: whether the PHY answers within 1 ms, and the word it returns, are what `obs` gives. Log 85. -/
def opNetMdio (_ : Origin) (p : List Byte) (obs : List Nat) (s : Mach) : Mach × Res :=
  let op := pf p 17 1
  s.guard (firstOf [lenIs p 28, within p 16 1 0 1, codeTo p 17 1 3, within p 18 1 0 31, within p 19 1 0 31,
      failIf (!obsOn obs 0) ST.TIMEOUT 2]) (fun s =>
    (s, Res.ok (toLE 2 (if op % 2 = 0 then obs.getD 1 0 else pf p 22 2))))

/-- NET_REDUND_CFG. -/
def opNetRedundCfg (_ : Origin) (p : List Byte) (_ : List Nat) (s : Mach) : Mach × Res :=
  s.guard (firstOf [lenIs p 24, within p 16 1 1 16, codeTo p 17 1 3, resv p 18 2]) (fun s =>
    (((s.sf F.TIME_REDUND_MERGE_MS (pf p 16 1)).sf F.TIME_REDUND_DUP_EGRESS (pf p 17 1 % 2)).sf F.TIME_REDUND_TIME_PREF_B (pf p 17 1 / 2 % 2),
     Res.ok))

/-! ## Streams (R351, R352) -/

/-- Jitter depth below two packet times, or above 8,000 µs. -/
def jitterBad (ptime us : Nat) : Bool := decide (3 * us < 2 * [375, 750, 1000, 3000].getD ptime 375) || decide (8000 < us)

/-- An enabled stream, other than k, whose pool range overlaps [pool, pool + n). -/
def poolClash (l : List (Nat × Bool × Nat × Nat)) (k pool n : Nat) : Option Nat :=
  (l.find? (fun e => e.1 != k && e.2.1 && decide (e.2.2.1 < pool + n) && decide (pool < e.2.2.1 + e.2.2.2))).map (·.1)

/-- Refusal of a pool range, also for a stream that the command leaves disabled (R352). -/
def poolChk (l : List (Nat × Bool × Nat × Nat)) (k pool n off : Nat) : Option Res :=
  firstOf [failIf (decide (512 < pool + n)) ST.OUT_OF_RANGE off, (poolClash l k pool n).map (fun j => Res.fail ST.BUSY j)]

def Mach.inPools (s : Mach) : List (Nat × Bool × Nat × Nat) := s.sin.map (fun e => (e.1, e.2.en, e.2.pool, e.2.chans))
def Mach.outPools (s : Mach) : List (Nat × Bool × Nat × Nat) := s.sout.map (fun e => (e.1, e.2.en, e.2.pool, e.2.chans))

/-- Put an ingress stream's configuration in force: a running stream stops and starts again (R352). -/
def Mach.startIn (s : Mach) (k : Nat) (x : StrIn) : Mach :=
  ((s.onIn k (fun _ => x)).sf F.STRM_IN_STAT_STATE (b2n x.en) k).strCount

/-- Put an egress stream's configuration in force. -/
def Mach.startOut (s : Mach) (k : Nat) (x : StrOut) : Mach :=
  ((s.onOut k (fun _ => x)).sf F.STRM_OUT_STAT_ANNOUNCED 0 k).strCount

/-- NET_STREAM_IN. -/
def opNetStreamIn (_ : Origin) (p : List Byte) (_ : List Nat) (s : Mach) : Mach × Res :=
  let f := pf p 17 1
  let n := pf p 18 1
  let rate := pf p 19 1
  let pool := pf p 34 2
  s.guard (firstOf [lenIs p 44, s.needs 2 true .imm, failOpen (!s.strmOn) ST.NOT_READY, codeTo p 17 1 3, within p 18 1 1 64,
      failIf (rate != 2 && rate != 4) ST.BAD_PARAM 19, within p 30 1 96 127, codeTo p 31 1 3,
      failIf (jitterBad (pf p 31 1) (pf p 32 2)) ST.OUT_OF_RANGE 32, poolChk s.inPools (pf p 16 1) pool n 34]) (fun s =>
    (s.startIn (pf p 16 1) { StrIn.off with en := bitOf f 0, l32 := bitOf f 1, chans := n, rate := rate, group := pf p 20 4, source := pf p 24 4,
                                            port := pf p 28 2, pt := pf p 30 1, ptime := pf p 31 1, jitUs := pf p 32 2, pool := pool,
                                            offset := pf p 36 4 }, Res.ok))

/-- NET_STREAM_OUT. Log 85. -/
def opNetStreamOut (_ : Origin) (p : List Byte) (_ : List Nat) (s : Mach) : Mach × Res :=
  let f := pf p 17 1
  let n := pf p 18 1
  let rate := pf p 19 1
  let pool := pf p 32 2
  let word := if bitOf f 1 then 4 else 3
  let big (q : Nat) : Bool := decide (s.gf F.NET_MTU_BYTES q < n * ptimeSamples rate (pf p 28 1) * word + 40)
  s.guard (firstOf [lenIs p 76, if bitOf f 2 then s.needs 2 false .imm else none, codeTo p 17 1 7, within p 18 1 1 64,
      failIf (rate != 2 && rate != 4) ST.BAD_PARAM 19, codeTo p 28 1 3,
      failIf (big 0 || (s.on F.TIME_REDUND_DUP_EGRESS && big 1)) ST.OUT_OF_RANGE 18, resv p 29 3,
      poolChk s.outPools (pf p 16 1) pool n 32, resv p 34 2]) (fun s =>
    (s.startOut (pf p 16 1) { StrOut.off with en := bitOf f 0, l32 := bitOf f 1, announce := bitOf f 2, chans := n, rate := rate,
                                              dest := pf p 20 4, ttl := pf p 24 1, pt := pf p 25 1, port := pf p 26 2, ptime := pf p 28 1,
                                              pool := pool, ssrc := pf p 36 4, name := slice p 24 32 }, Res.ok))

/-- NET_STREAM_STOP. -/
def opNetStreamStop (_ : Origin) (p : List Byte) (_ : List Nat) (s : Mach) : Mach × Res :=
  let es := entriesOf p 16 4
  s.guard (firstOf [listLen p 16 4, listHead p 16 512,
      scanEntries (fun e => fld e 0 2) (fun off e => failIf (decide (1 < fld e 0 1)) ST.BAD_PARAM off)
        (fun off e => failIf (!allZero (slice e 2 2)) ST.BAD_PARAM (off + 2)) [] es]) (fun s =>
    (s.each es (fun s x =>
      let k := fld x.2 1 1
      if fld x.2 0 1 = 0 then s.startIn k { s.strIn k with en := false, held := [] } else s.startOut k { s.strOut k with en := false, buf := [] }),
     Res.ok))

/-- Record of a discovered session. -/
def Mach.discBytes (s : Mach) (d : DiscSess) : List Byte :=
  let a := d.a
  let sub := a.sid != 0 && s.sin.any (fun e => e.2.en && e.2.sid == a.sid)
  toLE 8 a.sid ++ padTo 32 (a.name.take 32) ++ toLE 4 a.group ++ toLE 4 a.source ++ toLE 2 a.port ++ toLE 1 a.chans ++ toLE 1 a.rate
    ++ toLE 1 a.pt ++ toLE 1 (if a.ptime ≤ 3 then a.ptime else 255) ++ toLE 1 (b2n a.l32 + 2 * b2n d.sup + 4 * b2n sub) ++ toLE 1 0
    ++ toLE 2 (Nat.min 65535 ((s.tm.up - d.at_) / 1000000000)) ++ List.replicate 6 0

/-- NET_DISCOVERED. -/
def opNetDiscovered (_ : Origin) (p : List Byte) (_ : List Nat) (s : Mach) : Mach × Res :=
  s.guard (firstOf [lenIs p 24, within p 18 2 1 60]) (fun s =>
    let l := if s.hostMode 2 then [] else s.disc
    (s, Res.ok (toLE 2 l.length ++ toLE 2 0 ++ ((l.drop (pf p 16 2)).take (pf p 18 2)).flatMap s.discBytes)))

/-- NET_SUBSCRIBE. -/
def opNetSubscribe (_ : Origin) (p : List Byte) (_ : List Nat) (s : Mach) : Mach × Res :=
  let k := pf p 16 1
  let pool := pf p 18 2
  let d := s.disc.find? (fun d => d.a.sid == pf p 20 8 && d.sup)
  s.guard (firstOf [lenIs p 36, s.needs 2 false .imm, failOpen (!s.strmOn) ST.NOT_READY, resv p 17 1, failIf d.isNone ST.BAD_PARAM 20,
      match d with
      | some d => firstOf [poolChk s.inPools k pool d.a.chans 18, failIf (jitterBad d.a.ptime (pf p 28 2)) ST.OUT_OF_RANGE 28]
      | none => none, resv p 30 2]) (fun s =>
    match d with
    | none => (s, Res.fail ST.BAD_PARAM 20)
    | some d =>
      (s.startIn k { StrIn.off with en := true, l32 := d.a.l32, chans := d.a.chans, rate := d.a.rate, group := d.a.group, source := d.a.source,
                                    port := d.a.port, pt := d.a.pt, ptime := d.a.ptime, jitUs := pf p 28 2, pool := pool, offset := d.a.offset,
                                    sid := d.a.sid }, Res.ok))

/-- NET_STREAM_STATUS. Log 85. -/
def opNetStreamStatus (_ : Origin) (p : List Byte) (_ : List Nat) (s : Mach) : Mach × Res :=
  let one (k : Nat) : List Byte :=
    if pf p 16 1 = 0 then
      toLE 1 (s.gf F.STRM_IN_STAT_STATE k) ++ toLE 1 (b2n (s.seenOn (s.strIn k).lastA) + 2 * b2n (s.seenOn (s.strIn k).lastB))
        ++ toLE 2 (Nat.min 65535 (s.streamFill k)) ++ toLE 4 (s.rd R.STRM_IN_PKTS k) ++ toLE 4 (s.rd R.STRM_IN_LOST k)
        ++ toLE 4 (s.rd R.STRM_IN_DUP k) ++ toLE 4 (s.rd R.STRM_IN_LATE k)
    else toLE 1 (2 * b2n (s.strOut k).en) ++ List.replicate 3 0 ++ toLE 4 (s.rd R.STRM_OUT_PKTS k) ++ List.replicate 12 0
  s.guard (firstOf [lenIs p 24, codeTo p 16 1 1, firstN p 17 1 18 2 256 256]) (fun s =>
    (s, Res.ok ((upto (pf p 18 2)).flatMap (fun i => one (pf p 17 1 + i)))))

end Sys2Proof.Machine
end

