-- ==== Sys2Proof/Machine/OpTime.lean ====
section
/-! DEFINITION. Time opcodes (0x0B): R354, R355. -/
namespace Sys2Proof.Machine

/-- Ranges of a profile: LOG_SYNC, LOG_ANN, LOG_DREQ (R437). -/
def profileLogs (pr : Nat) : List (Int × Int) :=
  match pr with
  | 0 => [(-7, 1), (-3, 3), (-7, 6)]
  | 1 => [(-4, 1), (0, 4), (-3, 5)]
  | 2 => [(-7, -1), (-3, 1), (-7, -1)]
  | _ => [(-7, 1), (-3, 3), (-7, 5)]

/-- TIME_CFG. -/
def opTimeCfg (_ : Origin) (p : List Byte) (_ : List Nat) (s : Mach) : Mach × Res :=
  let pr := pf p 16 1
  let log (k : Nat) : Option Res :=
    let r := (profileLogs pr).getD k (0, 0)
    failIf (decide (psf p (19 + k) 1 < r.1) || decide (r.2 < psf p (19 + k) 1)) ST.OUT_OF_RANGE (19 + k)
  s.guard (firstOf [lenIs p 28, codeTo p 16 1 3, within p 17 1 0 127, codeTo p 18 1 3,
      failIf (pr == 3 && !bitOf (pf p 18 1) 1) ST.BAD_PARAM 18, log 0, log 1, log 2, resv p 22 2]) (fun s =>
    let cfg := pr + 256 * pf p 17 1 + 65536 * pf p 18 1
    let msg := pf p 19 3 + 2 ^ 24 * s.gf F.TIME_MSG_ANN_TO
    (((s.wr R.TIME_CFG cfg).wr R.TIME_MSG msg).timeApply cfg msg, Res.ok))

/-- TIME_STATUS: STEPS is read as a register, which clears it (R10); a count that its 16 bits do not hold saturates. Log 137. -/
def opTimeStatus (_ : Origin) (p : List Byte) (_ : List Nat) (s : Mach) : Mach × Res :=
  s.guard (lenIs p 20) (fun s =>
    let (steps, s) := s.regRead (R.TIME_STEPS.at_ 0 0)
    let flags := s.gf F.TIME_STAT_TIME_VALID + 2 * s.gf F.TIME_STAT_STANDBY_SUSPECT + 4 * s.gf F.TIME_STAT_SNAPSHOT_USED
    (s, Res.ok (toLE 1 (s.gf F.TIME_GRID_STAT_STATE) ++ toLE 1 s.activePort ++ toLE 2 flags ++ toLE 8 (s.rd64 R.TIME_OFS_LO R.TIME_OFS_HI)
      ++ toLE 8 (s.rd64 R.TIME_SHADOW_LO R.TIME_SHADOW_HI) ++ toLE 4 (s.rd R.TIME_MPD) ++ toLE 4 (s.rd R.TIME_FREQ)
      ++ toLE 8 (s.rd64 R.TIME_GM_LO R.TIME_GM_HI) ++ toLE 2 (Nat.min 65535 steps) ++ toLE 2 0 ++ toLE 4 (s.rd R.TIME_GRID_ERR))))

/-- TIME_ADJUST. -/
def opTimeAdjust (_ : Origin) (p : List Byte) (_ : List Nat) (s : Mach) : Mach × Res :=
  let f := psf p 16 4
  let ph := psf p 20 4
  s.guard (firstOf [lenIs p 32, s.needs 1 true .imm, failIf (decide (128000000 < f.natAbs)) ST.OUT_OF_RANGE 16,
      failIf (pf p 24 1 == 1 && decide (500000 < ph.natAbs)) ST.OUT_OF_RANGE 20, codeTo p 24 1 2, resv p 25 3]) (fun s =>
    (s.adjust (pf p 24 1) f ph, Res.ok))

/-- TIME_SERVO_CFG. -/
def opTimeServoCfg (_ : Origin) (p : List Byte) (_ : List Nat) (s : Mach) : Mach × Res :=
  s.guard (firstOf [lenIs p 32, within p 16 4 0 0x40000, within p 20 4 0 0x40000]) (fun s =>
    (((s.wr R.TIME_SERVO_KP (pf p 16 4)).wr R.TIME_SERVO_KI (pf p 20 4)).wr R.TIME_STEP_NS (pf p 24 4), Res.ok))

/-- TIME_GRID_CFG. -/
def opTimeGridCfg (_ : Origin) (p : List Byte) (_ : List Nat) (s : Mach) : Mach × Res :=
  s.guard (firstOf [lenIs p 28, within p 16 2 40 800, codeTo p 18 1 1, resv p 19 1, within p 20 4 1 1000000]) (fun s =>
    (s.wr R.TIME_GRID_CTRL (pf p 16 2 + 1024 * pf p 20 4 + 2 ^ 31 * pf p 18 1), Res.ok))

/-- VIA of a monitor: an object or direct channel and a feed that exist (R5, R50). -/
def Mach.viaChk (s : Mach) (off v : Nat) : Option Res :=
  let i := v % 1024
  firstOf [failIf (v &&& 0xFE007C00 != 0) ST.BAD_PARAM off,
    failIf (if bitOf v 15 then decide (128 ≤ i) else decide (s.variant.objects ≤ i)) ST.OUT_OF_RANGE off,
    failIf (decide (s.variant.feeds ≤ bits v 16 9)) ST.OUT_OF_RANGE off]

/-- TIME_LAT_SET: its entries apply through TIME.LAT_COMMIT at the next token. -/
def opTimeLatSet (o : Origin) (p : List Byte) (_ : List Nat) (s : Mach) : Mach × Res :=
  let es := entriesOf p 16 12
  s.guard (firstOf [listLen p 16 12, listHead p 16 4,
      scanEntries (fun e => fld e 0 1) (below 4) (fun off e => firstOf [failIf (decide (1 < fld e 1 1)) ST.BAD_PARAM (off + 1),
        failIf (!allZero (slice e 6 2)) ST.BAD_PARAM (off + 6), s.viaChk (off + 8) (fld e 8 4)]) [] es]) (fun s =>
    s.latchPuts o 0x0B06 false [⟨rkey K.LAT 0, (es.map (·.2)).flatten⟩])

/-- TIME_LAT_READ. -/
def opTimeLatRead (_ : Origin) (p : List Byte) (_ : List Nat) (s : Mach) : Mach × Res :=
  s.guard (lenIs p 20) (fun s =>
    (s, Res.ok ((upto 4).flatMap (fun k =>
      ([R.TIME_LAT_FLOOR, R.TIME_LAT_PASS, R.TIME_LAT_PROG, R.TIME_LAT_RATIO, R.TIME_LAT_STAT].flatMap (fun r => toLE 4 (s.rd r k))) ++ toLE 4 0))))

/-- TIME_PPS_CFG. -/
def opTimePpsCfg (_ : Origin) (p : List Byte) (_ : List Nat) (s : Mach) : Mach × Res :=
  let o := psf p 20 4
  s.guard (firstOf [lenIs p 28, codeTo p 16 1 7, resv p 17 1, within p 18 2 1 65535,
      failIf (decide (o < -500000000) || decide (499999999 < o)) ST.OUT_OF_RANGE 20]) (fun s =>
    ((s.wr R.TIME_PPS_CFG (pf p 16 1 + 65536 * pf p 18 2)).wr R.TIME_PPS_OFS (pf p 20 4), Res.ok))

/-- TIME_EVT_READ: the stamps it returns leave the queue, and LOST clears as a pop clears it. Log 87. -/
def opTimeEvtRead (_ : Origin) (p : List Byte) (_ : List Nat) (s : Mach) : Mach × Res :=
  s.guard (firstOf [lenIs p 24, within p 16 1 1 16, resv p 17 3]) (fun s =>
    let l := s.tm.evtq.take (pf p 16 1)
    let data := toLE 1 l.length ++ toLE 1 (s.gf F.TIME_EVTQ_STAT_LOST) ++ toLE 2 0
      ++ l.flatMap (fun t => toLE 6 (stampSec t) ++ toLE 4 (stampNsec t) ++ toLE 2 (t % 65536))
    ((s.sf F.TIME_EVTQ_STAT_LOST 0).onTime (fun q => { q with evtq := q.evtq.drop l.length }), Res.ok data))

/-- TIME_FAILOVER. -/
def opTimeFailover (_ : Origin) (p : List Byte) (_ : List Nat) (s : Mach) : Mach × Res :=
  s.guard (firstOf [lenIs p 20, s.needs 6 true .imm, failOpen (s.on F.TIME_STAT_FAILING) ST.BUSY,
      failIf (!s.standbyReady) ST.STATE 11]) (fun s => (s.failover, Res.ok))

end Sys2Proof.Machine
end

