-- ==== Sys2Proof/Machine/OpMeas.lean ====
section
/-! DEFINITION. Measurement and health opcodes (0x0C, 0x0D): R356 to R359. -/
namespace Sys2Proof.Machine

/-! ## Measurement -/

/-- The fields a MEAS_CFG entry names: mask bit, offset, index of the register. -/
def measFields : List (Nat × Nat × Nat) := [(0, 4, 0), (1, 8, 1), (2, 12, 2), (3, 16, 3)]

/-- Is a bit set that its register reserves? -/
def measResv (k v : Nat) : Bool := v &&& takesOf (measRegs.getD k R.MEAS_CH_CFG) != v

/-- Values of a MEAS_CFG entry (R207, R214, R224, R266, R357). -/
def Mach.measChk (s : Mach) (off : Nat) (e : List Byte) : Option Res :=
  let mk := fld e 1 1
  let base := fld e 20 8
  let inS := decide (gsramBase ≤ base) && decide (base + 0x10200 ≤ gsramBase + gsramSize)
  firstOf ([failIf (mk == 0 || decide (31 < mk)) ST.BAD_PARAM (off + 1), failIf (!allZero (slice e 2 2)) ST.BAD_PARAM (off + 2)]
    ++ measFields.flatMap (fun x => [failIf (bitOf mk x.1 && measResv x.2.2 (fld e x.2.1 4)) ST.BAD_PARAM (off + x.2.1),
        failIf (bitOf mk x.1 && !s.measOk x.2.2 (fld e x.2.1 4)) ST.OUT_OF_RANGE (off + x.2.1)])
    ++ [failIf (bitOf mk 4 && (base % 256 != 0 || !(inS || s.inDram base 0x10200))) ST.OUT_OF_RANGE (off + 20)])

/-- MEAS_CFG. -/
def opMeasCfg (o : Origin) (p : List Byte) (_ : List Nat) (s : Mach) : Mach × Res :=
  let es := entriesOf p 32 28
  let e := s.effOf p
  let sets := es.any (fun x => bitOf (fld x.2 1 1) 2 && bitOf (fld x.2 12 4) 23)
  s.guard (firstOf [listLen p 32 28, if sets then s.needs 3 false e else none, s.timingChk 10 p, listHead p 32 32,
      scanEntries (fun e => fld e 0 1) (below 32) s.measChk [] es]) (fun s =>
    s.putPlain o 0x0C01 e (es.map (fun x => (K.MEAS, fld x.2 0 1, x.2))))

/-- MEAS_STREAM. -/
def opMeasStream (_ : Origin) (p : List Byte) (_ : List Nat) (s : Mach) : Mach × Res :=
  let c := pf p 16 1
  let size := pf p 28 4
  s.guard (firstOf [lenIs p 36, s.needs 3 true .imm, within p 16 1 0 31, resv p 17 1,
      ringChk p 256 (size % 256 == 0 && inRange 0x1000 0x1000000 size) (s.on F.MEAS_CH_STR_CTRL_EN c)]) (fun s =>
    (s.ringPut ⟨F.MEAS_CH_STR_CTRL_EN, R.MEAS_CH_STR_BASE_LO, R.MEAS_CH_STR_BASE_HI, R.MEAS_CH_STR_SIZE⟩ c p (fun v s => measStrCtrlWrite c v s),
     Res.ok))

/-- MEAS_STATUS. -/
def opMeasStatus (_ : Origin) (p : List Byte) (_ : List Nat) (s : Mach) : Mach × Res :=
  s.guard (firstOf [lenIs p 24, firstN p 16 1 17 1 32 32, resv p 18 2]) (fun s =>
    (s, Res.ok ((upto (pf p 17 1)).flatMap (fun i =>
      let c := pf p 16 1 + i
      [R.MEAS_CH_STAT, R.MEAS_CH_LVL, R.MEAS_CH_RES_SEQ, R.MEAS_CH_FRAMES, R.MEAS_CH_FIRST_LO, R.MEAS_CH_FIRST_HI].flatMap
        (fun r => toLE 4 (s.rd r c))))))

/-- MEAS_RESTART. -/
def opMeasRestart (o : Origin) (p : List Byte) (_ : List Nat) (s : Mach) : Mach × Res :=
  let es := entriesOf p 32 4
  s.guard (firstOf [listLen p 32 4, s.timingChk 10 p, listHead p 32 32,
      scanEntries (fun e => fld e 0 1) (below 32) (fun off e => firstOf [
        failIf (fld e 1 1 == 0 || decide (7 < fld e 1 1)) ST.BAD_PARAM (off + 1),
        failIf (!allZero (slice e 2 2)) ST.BAD_PARAM (off + 2)]) [] es]) (fun s =>
    s.putPlain o 0x0C04 (s.effOf p) (es.map (fun x => (K.RESTART, fld x.2 0 1, x.2))))

/-! ## Health -/

/-- HLTH_STATUS. -/
def opHlthStatus (_ : Origin) (p : List Byte) (_ : List Nat) (s : Mach) : Mach × Res :=
  s.guard (lenIs p 20) (fun s =>
    let w (r : Reg) : List Byte := toLE 4 (s.word r)
    let t (x : Int) : List Byte := toLE 2 (toU 16 (clampS 16 x))
    (s, Res.ok (w R.FAB_IBEX_STAT ++ w R.FAB_VFLOOR ++ w R.FAB_PRED ++ w R.FAB_AGE ++ t s.rend.ibex.tj ++ t s.rend.ibex.tjMax
      ++ w R.FAB_TICK_SLACK ++ w R.FAB_SLACK_MIN ++ w R.FAB_IBEX_REQ ++ w R.FAB_STAT)))

/-- HLTH_LOG_READ. Log 87. -/
def opHlthLogRead (_ : Origin) (p : List Byte) (obs : List Nat) (s : Mach) : Mach × Res :=
  let back := pf p 16 2
  let n := pf p 18 2
  let b := bufOf p 20
  let pre := firstOf [lenIs p 40, within p 18 2 1 4096]
  (s.when pre.isNone (·.birthTry b.addr b.len (s.bufChk p 20))).guard (firstOf [pre,
      s.bufChk p 20 (failIf (decide (b.len < 32 * n)) ST.OUT_OF_RANGE 28)]) (fun s =>
    let count := Nat.min n (s.gf F.FAB_LOG_STAT_COUNT - back)
    let next := s.rend.log.count
    let l := (upto count).map (fun j => s.logRec ((next + 8192 - 1 - back % 4096 - (count - 1 - j)) % 4096))
    let bad := (l.filter (·.isNone)).length
    s.dest b (obsOn obs 0) (l.flatMap (fun r => r.getD (List.replicate 32 0))) (Res.ok (toLE 2 count ++ toLE 2 bad)))

/-- HLTH_IBEX_CFG. -/
def opHlthIbexCfg (_ : Origin) (p : List Byte) (_ : List Nat) (s : Mach) : Mach × Res :=
  s.guard (firstOf [lenIs p 28, within p 16 2 41 410, within p 18 1 8 63, within p 19 1 0 127, codeTo p 20 1 1, resv p 21 3]) (fun s =>
    (s.wr R.FAB_IBEX_CFG (pf p 16 2 + 4096 * pf p 18 1 + 2 ^ 18 * pf p 19 1 + 2 ^ 31 * pf p 20 1), Res.ok))

/-- HLTH_APPROVE: SET acts before CLR. Log 72. -/
def opHlthApprove (_ : Origin) (p : List Byte) (_ : List Nat) (s : Mach) : Mach × Res :=
  let set := pf p 16 4
  let clr := pf p 20 4
  let other (v : Nat) : Bool := v &&& 0xFFFEFCFC != 0
  s.guard (firstOf [lenIs p 28, if set &&& 0x10003 != 0 then s.needs 4 true .imm else none, failIf (other set) ST.BAD_PARAM 16,
      failIf (other clr) ST.BAD_PARAM 20]) (fun s =>
    let s := ibexApproveWrite (set ||| (s.rd R.FAB_IBEX_APPROVE &&& 0x300)) s
    let s := s.wr R.FAB_IBEX_APPROVE (s.rd R.FAB_IBEX_APPROVE &&& (0xFFFFFFFF - (clr &&& 0x300)))
    (s, Res.ok (toLE 4 (s.rd R.FAB_IBEX_APPROVE))))

/-- HLTH_FAWN. -/
def opHlthFawn (_ : Origin) (p : List Byte) (_ : List Nat) (s : Mach) : Mach × Res :=
  s.guard (lenIs p 20) (fun s =>
    (s, Res.ok ((upto 48).flatMap (fun k => toLE 4 (s.rd R.FAB_FAWN_RATE k) ++ toLE 2 (s.gf F.FAB_FAWN_AGE_INDEX k)
      ++ toLE 2 (s.gf F.FAB_FAWN_AGE_FAULT k)))))

/-- HLTH_SLACK. -/
def opHlthSlack (_ : Origin) (p : List Byte) (_ : List Nat) (s : Mach) : Mach × Res :=
  s.guard (firstOf [lenIs p 24, codeTo p 16 1 1, resv p 17 3]) (fun s =>
    let at_ (r : Reg) (i : Nat := 0) : Nat := r.at_ i 0
    let (d, s) := s.readAll ([at_ R.FAB_TICK_SLACK, at_ R.FAB_SLACK_MIN, at_ R.FAB_LATE_TICKS, at_ R.FAB_MISS_TICKS, at_ R.FAB_MISS_TICK_LO,
      at_ R.FAB_MISS_TICK_HI] ++ (upto 16).map (fun k => at_ R.FAB_SLACK_HIST k))
    (if pf p 16 1 = 1 then fabMinClr 1 s else s, Res.ok d))

end Sys2Proof.Machine
end

