-- ==== Sys2Proof/Machine/OpMem.lean ====
section
/-! DEFINITION. Memory, DMA, placement and diagnostic opcodes (0x0E, 0x0F, 0x1F): R360 to R366. -/
namespace Sys2Proof.Machine

/-! ## Memory (R360, R361) -/

/-- Does [a, a+n) lie in general SRAM? -/
def inSram (a n : Nat) : Bool := decide (gsramBase ≤ a) && decide (a + n ≤ gsramBase + gsramSize)
def inMram (a n : Nat) : Bool := decide (mramBase ≤ a) && decide (a + n ≤ mramBase + mramSize)

/-- Why a write of [a, a+n) by an opcode is refused: an enabled region (R361). -/
def Mach.regionBusy (s : Mach) (a n : Nat) : Option Res :=
  firstOf [failIf (s.bulkOn && overlap a n s.bulkBase bulkSize) ST.BUSY 1,
    failIf (s.corrOn && overlap a n s.corrBase corrSize) ST.BUSY 2]

/-- MEM_READ. Log 88, 154. -/
def opMemRead (_ : Origin) (p : List Byte) (_ : List Nat) (s : Mach) : Mach × Res :=
  let a := pf p 16 8
  let n := pf p 24 4
  s.guard (firstOf [lenIs p 32, failIf (!inRange 4 4064 n || n % 4 != 0) ST.OUT_OF_RANGE 24,
      failIf (!(inSram a n || inMram a n || s.inDram a n)) ST.OUT_OF_RANGE 16]) (fun s =>
    if s.target a = 5 then
      if s.dramCode != 0 then (s.busErr 0 0 5 a n s.dramCode false, Res.fail ST.HW_FAULT openDet)
      else
        let r := if s.badRange a n then Res.fail ST.HW_FAULT 4 else Res.ok (s.mrd a n)
        (s.busRead 0 0 a n, r)
    else (s, Res.ok (s.mrd a n)))

/-- MEM_WRITE. Log 88, 154. -/
def opMemWrite (_ : Origin) (p : List Byte) (_ : List Nat) (s : Mach) : Mach × Res :=
  let a := pf p 16 8
  let d := p.drop 8
  let n := d.length
  let len := failIf (!inRange 4 4064 n || n % 4 != 0) ST.BAD_LENGTH 0
  let range := failIf (!(inSram a n || s.inDram a n)) ST.OUT_OF_RANGE 16
  (s.when len.isNone (·.birthTry a n range)).guard (firstOf [len, range, s.regionBusy a n]) (fun s =>
    if s.target a = 5 && s.dramCode != 0 then (s.busErr 0 0 5 a n s.dramCode true, Res.fail ST.HW_FAULT openDet)
    else
      let (c, s) := s.store a d
      if c = 0 then (s, Res.ok) else (s.busErr 0 0 5 a n c true, Res.fail ST.HW_FAULT openDet))

/-- MEM_COPY: an uncorrectable source in DRAM is told from another errored access (R293, R361). -/
def opMemCopy (_ : Origin) (p : List Byte) (obs : List Nat) (s : Mach) : Mach × Res :=
  let b := bufOf p 16
  let d := bufOf p 32
  let pre := firstOf [lenIs p 52, s.bufChk p 16]
  (s.when pre.isNone (·.birthTry d.addr d.len (s.bufChk p 32))).guard (firstOf [pre,
      s.bufChk p 32 (failIf (decide (d.len < b.len)) ST.OUT_OF_RANGE 40), if hostBit ≤ d.addr then none else s.regionBusy d.addr b.len]) (fun s =>
    if s.target b.addr = 5 && s.dramCode = 0 && s.badRange b.addr b.len then (s.bufBad b false, Res.fail ST.HW_FAULT 4)
    else s.source b (obsOn obs 0) (fun l s => s.dest d (obsOn obs 1) l (Res.ok (toLE 4 b.len))))

/-- MEM_DRAM_INFO. -/
def opMemDramInfo (_ : Origin) (p : List Byte) (_ : List Nat) (s : Mach) : Mach × Res :=
  s.guard (lenIs p 20) (fun s =>
    let k := s.gf F.DDRC_STAT_SET
    let rate (j : Nat) : Nat := if s.on F.DDRC_SET_TRAINED j then s.gf F.DDRC_SET_RATE j else 0
    let w (r : Reg) : List Byte := toLE 4 (s.rd r)
    (s, Res.ok (toLE 4 (s.gf F.DDRC_STAT_SIZE) ++ toLE 1 (s.gf F.DDRC_STAT_RANKS) ++ toLE 1 k ++ toLE 2 (rate k) ++ toLE 2 (rate (1 - k))
      ++ toLE 2 0 ++ w R.DDRC_ECC_CORR ++ w R.DDRC_ECC_UNCORR ++ w R.DDRC_REPLAY ++ w R.DDRC_FREQ_CHG)))

/-- MEM_DRAM_FREQ: the reply waits for the switch (R362, R504). -/
def opMemDramFreq (o : Origin) (p : List Byte) (_ : List Nat) (s : Mach) : Mach × Res :=
  let k := pf p 16 1
  let no := s.freqRefuse k
  s.guard (firstOf [lenIs p 24, codeTo p 16 1 1, resv p 17 3, failOpen (no != 0) no]) (fun s =>
    if s.gf F.DDRC_STAT_SET = k then (s, Res.ok)
    else ((s.freqStart k (some o.id)).onCmd (fun c => { c with running := mput c.running 0x0E05 o.id }), Res.wait))

/-! ## DMA (R360, R362) -/

/-- DMA_START. -/
def opDmaStart (_ : Origin) (p : List Byte) (_ : List Nat) (s : Mach) : Mach × Res :=
  let c := pf p 16 1
  s.guard (firstOf [lenIs p 52, within p 16 1 0 27, resv p 17 3, failIf (pf p 20 4 / 1024 != 0) ST.BAD_PARAM 20, resv p 44 4,
      failOpen (s.on F.DMA_STAT_BUSY c) ST.BUSY]) (fun s =>
    let s := s.wr64 R.DMA_SRC_LO R.DMA_SRC_HI (pf p 24 8) c
    let s := s.wr64 R.DMA_DST_LO R.DMA_DST_HI (pf p 32 8) c
    (dmaGo c (pf p 20 4 ||| 1) false (s.wr R.DMA_CNT (pf p 40 4) c), Res.ok))

/-- DMA_STOP. -/
def opDmaStop (_ : Origin) (p : List Byte) (_ : List Nat) (s : Mach) : Mach × Res :=
  let es := entriesOf p 16 4
  s.guard (firstOf [listLen p 16 4, listHead p 16 28,
      scanEntries (fun e => fld e 0 1) (fun o e => failIf (decide (27 < fld e 0 1)) ST.OUT_OF_RANGE o)
        (fun o e => failIf (!allZero (slice e 1 3)) ST.BAD_PARAM (o + 1)) [] es]) (fun s =>
    (s.each es (fun s e => s.dmaStop (fld e.2 0 1)), Res.ok))

/-- DMA_STATUS. -/
def opDmaStatus (_ : Origin) (p : List Byte) (_ : List Nat) (s : Mach) : Mach × Res :=
  s.guard (firstOf [lenIs p 24, firstN p 16 1 17 1 32 32, resv p 18 2]) (fun s =>
    let (d, s) := s.readAll ((upto (pf p 17 1)).flatMap (fun i =>
      [R.DMA_STAT, R.DMA_CNT, R.DMA_HOPS, R.DMA_RETRIES].map (fun r => r.at_ (pf p 16 1 + i) 0)))
    (s, Res.ok d))

/-! ## Placement (R289, R290, R363, R364) -/

/-- Functions whose mode changes at once. -/
def immFunc (f : Nat) : Bool := f == 2 || f == 3 || f == 5

/-- What an immediate change requires of function f (R289, R290). Log 66. -/
def Mach.immReady (s : Mach) (f : Nat) : Bool :=
  if f = 2 then s.power == 2
  else if f = 3 then s.measIdle
  else (upto 2).all (fun p => (upto R.NET_RX_CTRL.n2).all (fun r => !s.on F.NET_RX_CTRL_EN p r))

/-- A pending change of function f gives way to a newer request: where its reply still waits, that reply leaves with a
status the manual does not state. Log 65. -/
def Mach.placeOut (s : Mach) (f : Nat) : Mach :=
  match mfind s.cmd.place f with
  | some (_, it) =>
    let s := s.placeClear f
    if it.reply then (let (n, s) := s.fresh; s.answer it.o.id (Config.openNat n % 65536) 0 noTick []) else s
  | none => s

/-- PLACE_SET. Log 65, 66. -/
def opPlaceSet (o : Origin) (p : List Byte) (_ : List Nat) (s : Mach) : Mach × Res :=
  let f := pf p 32 1
  let host := pf p 33 1 == 1
  let imm := pf p 16 1 == 0
  s.guard (firstOf [lenIs p 40, s.timingChk 11 p, failIf (decide (7 < f)) ST.OUT_OF_RANGE 32, failIf (decide (1 < pf p 33 1)) ST.OUT_OF_RANGE 33,
      resv p 34 2, failIf (immFunc f != imm) ST.BAD_PARAM 16]) (fun s =>
    if imm then
      if s.hostMode f == host then (s, Res.ok)
      else if s.immReady f then (s.setMode f host, Res.ok)
      else (s, Res.fail ST.STATE 6)
    else
      let old := (mfind s.cmd.place f).isSome
      let oldTimed := (mfind s.cmd.place f).any (fun x => x.2.t != 0)
      let det := 2 * b2n old
      let e := s.effOf p
      let keep (t : Nat) (late : Bool) : Mach × Res :=
        let it : Item := ⟨o, 0x0F01, toLE 1 det, t, s.cmd.ord, rkey K.PLACE f, t = 0, late⟩
        if t != 0 && decide (4096 < s.timedCount + 1 - b2n oldTimed) then (s, Res.fail ST.QUEUE_FULL openDet)
        else
          let s := ((s.placeOut f).onCmd (fun c => { c with ord := c.ord + 1 })).placeKeep f host it
          (s, if t = 0 then Res.nextTick (det + b2n late) else { Res.accepted with det := det })
      if s.hostMode f == host then
        let s := s.placeOut f
        match e with
        | .time _ => (s, { Res.accepted with det := det })
        | .next late => (s.onCmd (fun c => { c with latch := c.latch ++ [⟨o, 0x0F01, toLE 1 det, 0, c.ord, rkey K.PLACE f, true, late⟩],
                                                    ord := c.ord + 1 }), Res.nextTick (det + b2n late))
        | _ => (s, { Res.ok with det := det })
      else if f = 0 && !host && s.hostObjs != 0 then (s.evt F.RENDER_HP_EVT_REFUSED, Res.fail ST.STATE 6)
      else match e with
        | .time t => keep t false
        | .next late => keep 0 late
        | _ => keep 0 false)

/-- PLACE_GET. -/
def opPlaceGet (_ : Origin) (p : List Byte) (_ : List Nat) (s : Mach) : Mach × Res :=
  s.guard (lenIs p 20) (fun s =>
    let md := s.cmd.place.foldl (fun a e => a + b2n e.2.1 * 2 ^ e.1) 0
    (s, Res.ok (toLE 1 (s.gf F.SYS_PLACE_STAT_HOST) ++ toLE 1 (s.gf F.SYS_PLACE_STAT_PEND) ++ toLE 1 md ++ toLE 1 0)))

/-! ## Diagnostics (R365, R366) -/

/-- Every address of a list is checked before any access. -/
def addrChk (es : List (Nat × List Byte)) : Option Res :=
  eachEntry (fun o e => failIf (fld e 0 4 % 4 != 0 || decide (0x1000000 ≤ fld e 0 4)) ST.BAD_PARAM o) es

/-- DIAG_REG_READ. -/
def opDiagRegRead (_ : Origin) (p : List Byte) (_ : List Nat) (s : Mach) : Mach × Res :=
  let es := entriesOf p 16 4
  s.guard (firstOf [listLen p 16 4, listHead p 16 500, addrChk es]) (fun s =>
    let (d, s) := s.readAll (es.map (fun e => fld e.2 0 4))
    (s, Res.ok d))

/-- Is an address one of the CMD.QP registers of a queue pair? -/
def qpReg (q a : Nat) : Bool :=
  let b := R.CMD_QP_CTRL.base + q * R.CMD_QP_CTRL.s1
  decide (b ≤ a) && decide (a < b + R.CMD_QP_CTRL.s1)

/-- DIAG_REG_WRITE: each write as a control core's register write; `obs` gives the outcome of a signature check. -/
def opDiagRegWrite (o : Origin) (p : List Byte) (obs : List Nat) (s : Mach) : Mach × Res :=
  let es := entriesOf p 16 8
  let own (a : Nat) : Bool := match o.xport with
    | .pcie q => qpReg q a
    | _ => false
  s.guard (firstOf [listLen p 16 8, listHead p 16 250, addrChk es, failIf (es.any (fun e => own (fld e.2 0 4))) ST.STATE 9]) (fun s =>
    (s.each es (fun s e => registerWrite (fld e.2 0 4) (fld e.2 4 4) false (obsOn obs 0) s), Res.ok))

/-- DIAG_SWARD_READ. -/
def opDiagSwardRead (_ : Origin) (p : List Byte) (_ : List Nat) (s : Mach) : Mach × Res :=
  let o := pf p 16 2
  let age := pf p 20 4
  let n := pf p 24 2
  s.guard (firstOf [lenIs p 32, failIf (decide (s.variant.objects ≤ o)) ST.OUT_OF_RANGE 16, resv p 18 2, within p 20 4 0 32767,
      within p 24 2 1 1008, failIf (decide (32768 < age + n)) ST.OUT_OF_RANGE 24, resv p 26 2]) (fun s =>
    (s, Res.ok (toLE 2 (s.omem o).ring.length ++ toLE 2 0 ++ (upto n).flatMap (fun i => toLE 4 (s.swardWord o (age + i))))))

/-- DIAG_SELFTEST: `obs` lists the engines that fail TEST 0, or the failing region of TEST 1 and 2 byte by byte. -/
def opDiagSelftest (_ : Origin) (p : List Byte) (obs : List Nat) (s : Mach) : Mach × Res :=
  let t := pf p 16 1
  s.guard (firstOf [lenIs p 24, codeTo p 16 1 2, resv p 17 3, failIf (t == 0 && s.power != 2) ST.STATE 8]) (fun s =>
    if t = 0 then
      let l := (upto engines).filter (fun e => obs.contains e && s.engExists e)
      let s := s.each l (fun s e =>
        let s := if s.rend.fab.hung.contains e then s else s.isolateEngine e
        (s.raise E.SELFTEST_FAIL e 0).sf F.SYS_BOOT_STAT_SELFTEST_ERR 1)
      (s, Res.ok (toLE 1 (b2n l.isEmpty) ++ toLE 3 0 ++ toLE 16 (l.foldl (fun a e => a + 2 ^ e) 0)))
    else
      let fail := (upto 16).flatMap (fun i => toLE 1 (obs.getD i 0))
      (s, Res.ok (toLE 1 (b2n (allZero fail)) ++ toLE 3 0 ++ fail)))

/-- DIAG_LOOPBACK. Log 90. -/
def opDiagLoopback (_ : Origin) (p : List Byte) (_ : List Nat) (s : Mach) : Mach × Res :=
  let k := pf p 16 1
  let a := pf p 17 1
  let b := pf p 18 1
  let en := pf p 19 1 == 1
  let like := decide (a < 64) && decide (b < 64) && s.aspOut a && !s.aspOut b
    && (s.lv R.ASP_CFG a).xor (2 ^ F.ASP_CFG_DIR.lo) == s.lv R.ASP_CFG b
  s.guard (firstOf [lenIs p 24, codeTo p 16 1 2, failIf (k != 0 && s.power != 2) ST.STATE 8,
      failIf (k == 0 && !decide (a < 64)) ST.OUT_OF_RANGE 17, failIf (k != 0 && decide (1 < a)) ST.OUT_OF_RANGE 17,
      failIf (k == 0 && !decide (b < 64)) ST.OUT_OF_RANGE 18, codeTo p 19 1 1,
      failOpen (k == 0 && en && !like) ST.BAD_PARAM]) (fun s =>
    let x := (k, a, if k = 0 then b else 0)
    (s.onSys (fun y => { y with loops := (y.loops.filter (fun l => l != x)) ++ (if en then [x] else []) }), Res.ok))

/-- DIAG_ERR_INJECT. Log 89. -/
def opDiagErrInject (_ : Origin) (p : List Byte) (_ : List Nat) (s : Mach) : Mach × Res :=
  let k := pf p 16 1
  let t := pf p 18 2
  let n := pf p 20 2
  s.guard (firstOf [lenIs p 28, codeTo p 16 1 3, resv p 17 1, failIf ((k == 0 || k == 3) && decide (s.variant.objects ≤ t)) ST.OUT_OF_RANGE 18,
      within p 20 2 1 16, resv p 22 2]) (fun s =>
    let s := match k with
      | 0 => s.onRend (fun q => { q with injS := mput q.injS t n })
      | 3 => s.onRend (fun q => { q with injC := mput q.injC t n })
      | _ => s.onDdr (fun d => { d with inj := mput d.inj k n })
    (s, Res.ok))

end Sys2Proof.Machine
end

