-- ==== Sys2Proof/Machine/OpSys.lean ====
section
/-! DEFINITION. System opcodes (0x01): R341 to R348. -/
namespace Sys2Proof.Machine

/-! ## Sessions and flows (R271, R274, R342) -/

/-- SYS_SESSION_OPEN. -/
def opSysSessionOpen (o : Origin) (p : List Byte) (_ : List Nat) (s : Mach) : Mach × Res :=
  s.guard (firstOf [lenIs p 28, failIf (o.sess != 255) ST.BAD_PARAM 6, within p 16 2 256 4096, within p 18 2 0 3600, resv p 20 4]) (fun s =>
    match (upto 16).find? (fun n => (mfind s.cmd.sess n).isNone) with
    | none => (s, Res.fail ST.STATE 5)
    | some n =>
      let mp := match o.xport with
        | .pcie _ => 4096
        | _ => pf p 16 2
      (s.onCmd (fun c => { c with sess := mput c.sess n ⟨o.xport, mp, pf p 18 2, s.tm.up⟩ }),
       Res.ok (toLE 1 n ++ toLE 1 0 ++ toLE 2 mp ++ toLE 4 (s.rd R.SYS_PART_ID) ++ toLE 4 (s.rd R.SYS_LIMITS))))

/-- SYS_SESSION_CLOSE: the session closes once the reply has been released. -/
def opSysSessionClose (o : Origin) (p : List Byte) (_ : List Nat) (s : Mach) : Mach × Res :=
  s.guard (lenIs p 20) (fun s =>
    (s.onCmd (fun c => { c with running := mput c.running (0x01020000 + o.sess) o.id }), Res.ok))

/-- SYS_FLOW_OPEN. -/
def opSysFlowOpen (o : Origin) (p : List Byte) (_ : List Nat) (s : Mach) : Mach × Res :=
  s.guard (firstOf [lenIs p 24, failIf (o.flow != 0) ST.BAD_PARAM 7, within p 16 1 1 255, within p 17 1 0 7,
      failIf (s.flowOf o.sess (pf p 16 1)).isSome ST.STATE 7]) (fun s =>
    if o.sess = shutSess then (s, Res.ok) else
    match (upto 64).find? (fun i => (mfind s.cmd.flows i).isNone) with
    | none => (s, Res.fail ST.QUEUE_FULL openDet)
    | some i =>
      (s.onCmd (fun c => { c with flows := mput c.flows i ⟨o.sess, pf p 16 1, pf p 17 1, pf p 18 2, [], false⟩ }), Res.ok (toLE 1 i)))

/-- SYS_FLOW_CLOSE: commands held in the flow end with ST_STATE, detail FLOW_CLOSED. -/
def opSysFlowClose (o : Origin) (p : List Byte) (_ : List Nat) (s : Mach) : Mach × Res :=
  let n := pf p 16 1
  s.guard (firstOf [lenIs p 24, failIf (o.flow != 0) ST.BAD_PARAM 7, resv p 17 3, failIf (s.flowOf o.sess n).isNone ST.STATE 2]) (fun s =>
    let s := s.discard (fun c => c.o.sess == o.sess && c.o.flow == n) (some (ST.STATE, 4))
    (s.onCmd (fun c => { c with flows := c.flows.filter (fun e => !(e.2.sess == o.sess && e.2.num == n)) }), Res.ok))

/-! ## Ping and information (R342, R343) -/

/-- Network time as SEC u48 and NS u32. -/
def Mach.secNow (s : Mach) : Nat := s.tm.netNs / 1000000000 % 2 ^ 48

/-- SYS_PING. -/
def opSysPing (o : Origin) (p : List Byte) (_ : List Nat) (s : Mach) : Mach × Res :=
  s.guard (failIf (decide (4052 < p.length) || (o.sess == 255 && decide (212 < p.length))) ST.BAD_LENGTH 0) (fun s =>
    (s, Res.ok (toLE 6 s.secNow ++ toLE 1 (s.gf F.TIME_GRID_STAT_STATE) ++ toLE 1 s.power ++ toLE 4 (s.tm.netNs % 1000000000) ++ p)))

/-- SYS_INFO: FW_VER and FW_ID are those of the image that runs (R341). Log 73. -/
def opSysInfo (_ : Origin) (p : List Byte) (_ : List Nat) (s : Mach) : Mach × Res :=
  s.guard (lenIs p 20) (fun s =>
    (s, Res.ok (toLE 4 (s.rd R.SYS_PART_ID) ++ toLE 4 (s.rd R.SYS_REV) ++ toLE 4 (s.rd R.SYS_LIMITS) ++ toLE 4 s.sys.fw.1
      ++ toLE 8 s.sys.fw.2 ++ toLE 1 s.power ++ toLE 1 (s.gf F.SYS_BOOT_STAT_OPTPAGE) ++ toLE 2 (s.gf F.SYS_RESET_CAUSE_CAUSE)
      ++ toLE 4 s.uptime)))

/-! ## Power and reset (R344 to R346) -/

/-- Does a command run that SYS_POWER must not cut short: SYS_FW_UPDATE, SCN_STORE_WRITE or MEM_DRAM_FREQ? -/
def Mach.longRuns (s : Mach) (id : Nat) : Bool :=
  s.cmd.pool.any (fun c => decide (1 ≤ c.phase) && c.o.id != id && (c.op == 0x010E || c.op == 0x0205 || c.op == 0x0E05))
    || (mfind s.cmd.running 0x0E05).isSome || s.ddr.chg.isSome

/-- SYS_POWER. Log 39. -/
def opSysPower (o : Origin) (p : List Byte) (_ : List Nat) (s : Mach) : Mach × Res :=
  let t := pf p 16 1
  let w := pf p 17 1
  let alarm := pf p 18 6
  s.guard (firstOf [lenIs p 28, failIf (decide (4 < t)) ST.OUT_OF_RANGE 16, failIf (decide (3 < w)) ST.BAD_PARAM 17,
      failIf (t == 3 && bitOf w 1 && decide (alarm ≤ s.rtcNow)) ST.OUT_OF_RANGE 18,
      failOpen (s.sys.move.isSome || s.longRuns o.id) ST.BUSY]) (fun s =>
    if t = s.power then (s, Res.ok)
    else
      let s := if t = 3 then s.onSys (fun y => { y with armWake := bitOf w 0, alarm := if bitOf w 1 then some alarm else none }) else s
      (s.powerStart t o.id, Res.wait))

/-- Is block b the transport that carries a session? Log 46. -/
def Mach.ownBlock (s : Mach) (x : Xport) (b : Nat) : Bool :=
  match x with
  | .pcie _ => b == 8
  | .spi => b == 9
  | .udp _ _ => b == 1 + s.gf F.TIME_STAT_CTRL_PORT

/-- SYS_RESET. -/
def opSysReset (o : Origin) (p : List Byte) (_ : List Nat) (s : Mach) : Mach × Res :=
  let one := pf p 18 1 == 1
  let b := pf p 19 1
  s.guard (firstOf [lenIs p 24, failIf (pf p 16 2 != 0x5253) ST.BAD_PARAM 16, codeTo p 18 1 1,
      failIf (one && decide (9 < b)) ST.OUT_OF_RANGE 19, failIf (one && s.ownBlock o.xport b) ST.STATE 9]) (fun s =>
    (if one then s.blockReset b else s.orderReset 5, Res.ok))

/-- SYS_RESET_HOLD: a hold of 0 ms ends the hold, and a deferred reset then takes effect as an escalation that is due.
Log 45. -/
def opSysResetHold (_ : Origin) (p : List Byte) (_ : List Nat) (s : Mach) : Mach × Res :=
  let ms := pf p 16 2
  s.guard (firstOf [lenIs p 24, within p 16 2 0 60000, resv p 18 2]) (fun s =>
    let s := s.onSys (fun y => { y with hold := if ms = 0 then none else some (s.tm.up + ms * 1000000) })
    let s := if ms = 0 && s.err.deferred then { s with err := { s.err with deferred := false, countdown := some s.tm.up } } else s
    (s, Res.ok (toLE 2 ms)))

/-! ## Errors and the RTC (R347, R348) -/

/-- SYS_ERR_READ. Log 75. -/
def opSysErrRead (_ : Origin) (p : List Byte) (_ : List Nat) (s : Mach) : Mach × Res :=
  let since := pf p 16 4
  s.guard (firstOf [lenIs p 28, within p 20 2 1 64, resv p 22 2]) (fun s =>
    let now := s.rd R.ERR_SEQ
    let l := (s.err.slots.map (·.2)).filter (fun r => seqLe since r.seq)
    let l := (sortBy (fun (r : ErrRec) => 2 ^ 32 - seqAge now r.seq) l).take (pf p 20 2)
    let lost := (s.err.gone.filter (fun q => seqLe since q)).length
    (s, Res.ok (toLE 2 l.length ++ toLE 2 (Nat.min 65535 lost) ++ (l.map ErrRec.bytes).flatten)))

/-- SYS_ERR_ACK. -/
def opSysErrAck (_ : Origin) (p : List Byte) (_ : List Nat) (s : Mach) : Mach × Res :=
  s.guard (lenIs p 24) (fun s => let (n, s) := s.ackErr (pf p 16 4); (s, Res.ok (toLE 2 n)))

/-- SYS_RTC. -/
def opSysRtc (_ : Origin) (p : List Byte) (_ : List Nat) (s : Mach) : Mach × Res :=
  s.guard (firstOf [lenIs p 32, codeTo p 16 1 1, resv p 17 3, resv p 26 2]) (fun s =>
    let s := if pf p 16 1 = 1 then s.onSys (fun y => { y with rtc := pf p 20 6, rtcAt := s.tm.up }) else s
    (s, Res.ok (toLE 6 s.rtcNow)))

/-- SYS_OPTION_READ. -/
def opSysOptionRead (_ : Origin) (p : List Byte) (_ : List Nat) (s : Mach) : Mach × Res :=
  let n := pf p 20 2
  s.guard (firstOf [lenIs p 28, codeTo p 16 1 1, resv p 17 1,
      failIf (!inRange 4 4064 n || n % 4 != 0 || decide (4096 < pf p 18 2 + n)) ST.OUT_OF_RANGE 20, resv p 22 2]) (fun s =>
    (s, Res.ok (s.mrd (mramBase + 4096 * pf p 16 1 + pf p 18 2) n)))

/-- SYS_FW_UPDATE: the buffer read, whether a flash is present, its signature, its read-back, FW_VER and FW_ID are what
`obs` gives, in this order. The bank not used at the last boot is marked for the next one. Log 33, 61, 74. -/
def opSysFwUpdate (_ : Origin) (p : List Byte) (obs : List Nat) (s : Mach) : Mach × Res :=
  let b := bufOf p 16
  s.guard (firstOf [lenIs p 36, s.bufChk p 16, failOpen (!obsOn obs 1) ST.NOT_READY]) (fun s =>
    s.source b (obsOn obs 0) (fun _ s =>
    if !obsOn obs 2 then (s, Res.fail ST.BAD_PARAM 1)
    else if !obsOn obs 3 then (s, Res.fail ST.HW_FAULT 5)
    else
      let next := 1 - fld (s.mrd (mramBase + 0x3001) 1) 0 1 % 2
      let fw := (obs.getD 4 0 % 2 ^ 32, obs.getD 5 0 % 2 ^ 64)
      ((s.mwr (mramBase + 0x3000) (toLE 1 next)).onSys (fun y => { y with flash := mput y.flash next fw }),
        Res.ok (toLE 4 fw.1 ++ toLE 8 fw.2))))

end Sys2Proof.Machine
end

