-- ==== Sys2Proof/Machine/OpRun.lean ====
section
/-! DEFINITION. From opcode to effect: the release of a command (R262, R264, R268, R276, R293, R377). -/
namespace Sys2Proof.Machine

/-- The body of an opcode: checks and effect at release. -/
abbrev OpBody := Origin → List Byte → List Nat → Mach → Mach × Res

/-- Bodies of the opcodes, part 1. -/
def opBodies1 : List (Nat × OpBody) := [
  (0x0101, opSysSessionOpen),
  (0x0102, opSysSessionClose),
  (0x0103, opSysFlowOpen),
  (0x0104, opSysFlowClose),
  (0x0105, opSysPing),
  (0x0106, opSysInfo),
  (0x0107, opSysPower),
  (0x0108, opSysReset),
  (0x0109, opSysResetHold),
  (0x010A, opSysErrRead),
  (0x010B, opSysErrAck),
  (0x010C, opSysRtc),
  (0x010D, opSysOptionRead),
  (0x010E, opSysFwUpdate),
  (0x0201, opScnCommit),
  (0x0202, opScnLoad),
  (0x0203, opScnDiscard),
  (0x0204, opScnRead),
  (0x0205, opScnStoreWrite),
  (0x0206, opScnStoreRecall),
  (0x0207, opScnStoreInfo),
  (0x0208, opScnStoreErase),
  (0x0209, opScnStatus),
  (0x0301, opObjSetParams),
  (0x0302, opObjSetGain),
  (0x0303, opObjGetParams),
  (0x0304, opObjStatus),
  (0x0401, opGeoSpkLoad),
  (0x0402, opGeoAtmosSet),
  (0x0403, opGeoObjSet),
  (0x0404, opGeoKey),
  (0x0405, opGeoKeyFlush),
  (0x0406, opGeoGetObj),
  (0x0407, opGeoGetPaths),
  (0x0408, opGeoBulkRegion),
  (0x0501, opPathUpdate),
  (0x0502, opPathUpdateBuf),
  (0x0503, opPathMode),
  (0x0504, opPathStatus),
  (0x0601, opFeedEqSet),
  (0x0602, opFeedTrimSet),
  (0x0603, opFeedOutSet),
  (0x0604, opFeedGainSet),
  (0x0605, opFeedLimitSet),
  (0x0606, opFeedRatingSet),
  (0x0607, opFeedGet),
  (0x0608, opFeedStatus),
  (0x0701, opCorrLoad),
  (0x0702, opCorrLoadMulti),
  (0x0703, opCorrSwap),
  (0x0704, opCorrXfcfg),
  (0x0705, opCorrStatus),
  (0x0706, opCorrRegion),
  (0x0707, opCorrResetSlot),
  (0x0801, opRouteInSet),
  (0x0802, opRouteOutSet),
  (0x0803, opRouteMatrixSet)]

/-- Bodies of the opcodes, part 2. -/
def opBodies2 : List (Nat × OpBody) := [
  (0x0804, opRouteGenSet),
  (0x0805, opRouteRingSet),
  (0x0806, opRouteStatus),
  (0x0901, opAspConfig),
  (0x0902, opAspSlotmask),
  (0x0903, opAspEnable),
  (0x0904, opAspMclk),
  (0x0905, opAspStatus),
  (0x0A01, opNetPortCfg),
  (0x0A02, opNetIpCfg),
  (0x0A03, opNetRingCfg),
  (0x0A04, opNetStreamIn),
  (0x0A05, opNetStreamOut),
  (0x0A06, opNetStreamStop),
  (0x0A07, opNetDiscovered),
  (0x0A08, opNetSubscribe),
  (0x0A09, opNetStatus),
  (0x0A0A, opNetStreamStatus),
  (0x0A0B, opNetRedundCfg),
  (0x0A0C, opNetMdio),
  (0x0B01, opTimeCfg),
  (0x0B02, opTimeStatus),
  (0x0B03, opTimeAdjust),
  (0x0B04, opTimeServoCfg),
  (0x0B05, opTimeGridCfg),
  (0x0B06, opTimeLatSet),
  (0x0B07, opTimeLatRead),
  (0x0B08, opTimePpsCfg),
  (0x0B09, opTimeEvtRead),
  (0x0B0A, opTimeFailover),
  (0x0C01, opMeasCfg),
  (0x0C02, opMeasStream),
  (0x0C03, opMeasStatus),
  (0x0C04, opMeasRestart),
  (0x0D01, opHlthStatus),
  (0x0D02, opHlthLogRead),
  (0x0D03, opHlthIbexCfg),
  (0x0D04, opHlthApprove),
  (0x0D05, opHlthFawn),
  (0x0D06, opHlthSlack),
  (0x0E01, opMemRead),
  (0x0E02, opMemWrite),
  (0x0E03, opMemCopy),
  (0x0E04, opMemDramInfo),
  (0x0E05, opMemDramFreq),
  (0x0E11, opDmaStart),
  (0x0E12, opDmaStop),
  (0x0E13, opDmaStatus),
  (0x0F01, opPlaceSet),
  (0x0F02, opPlaceGet),
  (0x1F01, opDiagRegRead),
  (0x1F02, opDiagRegWrite),
  (0x1F03, opDiagSwardRead),
  (0x1F04, opDiagSelftest),
  (0x1F05, opDiagLoopback),
  (0x1F06, opDiagErrInject)]

/-- The body of an opcode; none for one the reference does not list. -/
def opBody (op : Nat) : Option OpBody := mfind (opBodies1 ++ opBodies2) op

/-- Run one opcode at its release, while the part takes commands (R282). A command with a buffer reference is always
answered (R293). Log 60. -/
def runOp (o : Origin) (op : Nat) (f : OpBody) (p : List Byte) (obs : List Nat) (s : Mach) : Mach :=
  if !s.on F.CMD_STAT_READY then s
  else
    let o := if op = 0x0803 && fld p 16 1 == 1 then { o with ack := true } else o
    let (s, r) := f o p obs s
    s.releaseRes o op r

/-- Release a command: its body, ST_BAD_OPCODE, or the failure its processing met. -/
def Mach.release (s : Mach) (c : InCmd) (obs : List Nat) : Mach :=
  match c.forced with
  | some (st, det) => s.releaseRes c.o c.op (Res.fail st det)
  | none =>
    match opBody c.op with
    | some f => runOp c.o c.op f c.p obs s
    | none => s.releaseRes c.o c.op (Res.fail ST.BAD_OPCODE 0)

/-- Has the turn of a processed command come (R276, R377)? -/
def Mach.turnOf (s : Mach) (c : InCmd) : Bool :=
  c.phase == 2 && (c.o.flow == 0 || (match s.flowOf c.o.sess c.o.flow with
    | some (_, f) => f.next == c.o.seq
    | none => true))

/-- The flow of a released command advances NEXT and keeps the outcome (R275, R278). -/
def Mach.flowOn (s : Mach) (c : InCmd) : Mach :=
  match if c.o.flow = 0 then none else s.flowOf c.o.sess c.o.flow with
  | some (i, f) =>
    let g : Flow := { f with next := (f.next + 1) % 65536, past := (⟨c.o.seq, c.o.id, none⟩ :: f.past).take 32 }
    (s.onCmd (fun d => { d with flows := mput d.flows i g })).setGap i
  | none => s

/-- COMMAND_RELEASE of command `id`; `obs` is what its effect meets outside the part. -/
def commandRelease (id : Nat) (obs : List Nat) (s : Mach) : Mach :=
  match s.cmd.pool.find? (fun c => c.o.id == id) with
  | some c =>
    if !s.turnOf c then s
    else
      let s := s.onCmd (fun d => { d with pool := d.pool.filter (fun e => e.o.id != id) })
      ((s.flowOn c).release c obs).handover
  | none => s

/-- What every command ends with: loads that began hold their slots, the converters of what has stopped lose lock, a power move
and session closes that are due end, and the interrupts are formed anew. Log 123, 148. -/
def Mach.fin (s : Mach) : Mach := s.loadsRun.lockWatch.powerCheck.after

end Sys2Proof.Machine
end

