-- ==== Sys2Proof/Machine/State.lean ====
section
/-! DEFINITION. The state of the block: the part and the queue of commands that wait, and the reasons a step can stop. -/
namespace Sys2Proof.Machine

/-- The block: what the part holds, and the commands that wait, first in, first out. Log 1. -/
structure State where
  pending : List Instr
  m : Mach
  deriving DecidableEq, Repr

/-- Faults: the part has none. An error it meets is a record, a status or an interrupt, and it goes on. Log 5. -/
inductive Fault where
  deriving DecidableEq, Repr

/-- Refusals. -/
inductive Refusal where
  /-- Raised by a command that has no meaning in the model yet. Safe: the model stops. No command is refused this way. -/
  | notModelled (mnemonic : String)
  deriving DecidableEq, Repr

/-- The block right after reset, before power is good: nothing waits. Log 2. -/
def State.reset : State := ⟨[], Mach.reset⟩

end Sys2Proof.Machine
end

