-- ==== Sys2Proof/WellFormed.lean ====
section
/-! DEFINITION. Which commands the part can be given: the units they name exist on the largest variant (R4), and each value
fits the register, field or buffer it is meant for. -/
namespace Sys2Proof

/-- A command header: session, flow, SEQ and TAG fit their fields (R260). -/
def Origin.ok (o : Origin) : Bool :=
  decide (o.sess < 256) && decide (o.flow < 256) && decide (o.seq < 65536) && decide (o.tag < 0x100000000)

/-- A matrix transaction: a master, an ID and an address that exist (R469). -/
def BusTx.ok (x : BusTx) : Bool :=
  decide (x.master < 10) && decide (x.id < 64) && decide (x.addr < 2 ^ 64)

/-- Well-formed commands. -/
def Instr.wellFormed : Instr → Bool
  | .tickToken _ => true
  | .gridLock => true
  | .gridStepResume _ => true
  | .gridSlewLong => true
  | .routeXfadeEnd i => decide (i < 3264)
  | .playPrefetch p => decide (p < 64)
  | .bulkWriteLost o _ => decide (o < 512)
  | .hpTimeout o => decide (o < 512)
  | .bankXfadeEnd f => decide (f < 512)
  | .spectrumWriteLost f _ => decide (f < 512)
  | .trimXfadeEnd f => decide (f < 512)
  | .zeroCrossing f _ => decide (f < 512)
  | .zcTimeout f _ => decide (f < 512)
  | .gainRampEnd f _ => decide (f < 512)
  | .laXfadeEnd f => decide (f < 512)
  | .measResultWrite c => decide (c < 32)
  | .latencyRefresh m _ => decide (m < 4)
  | .engineComplete e _ => decide (e < 106)
  | .engineAbandon cls => decide (cls < 4)
  | .engineAbandonAck e => decide (e < 106)
  | .fabricHang e => decide (e < 106)
  | .fabricDone => true
  | .engineGroupGate k => decide (k < 20)
  | .herdWindow _ => true
  | .groupAwake k => decide (k < 20)
  | .fawnRead _ => true
  | .tjRead _ => true
  | .ibexEvaluate => true
  | .avsWrite _ => true
  | .ibexStuck => true
  | .ageingLogWrite => true
  | .asrcSettling i _ => decide (i < 640)
  | .asrcLocked i _ => decide (i < 640)
  | .convLocked i => decide (i < 2624)
  | .muteNLow => true
  | .muteNRelease => true
  | .hwmuteClrWrite v => decide (v < 0x100000000)
  | .hwmuteCfgWrite v => decide (v < 0x100000000)
  | .errorHandled => true
  | .fatalHandlingTimeout => true
  | .escalationReset _ => true
  | .errAckWrite upTo => decide (upTo < 0x100000000)
  | .powerOn _ _ => true
  | .resetNAssert _ _ _ _ => true
  | .perstNAssert _ => true
  | .pcieHotReset _ => true
  | .thermalTrip _ => true
  | .brownOut _ _ => true
  | .ioaspBrownOut bank _ => decide (bank < 8)
  | .watchdogExpire core => decide (core < 6)
  | .orderedResetStart _ => true
  | .stormRelease => true
  | .optionLoad _ _ => true
  | .dramTraining _ _ _ => true
  | .fabricSelftest _ _ _ => true
  | .firmwareBoot _ _ => true
  | .fwPushGo v _ => decide (v < 0x100000000)
  | .wakeNWake _ => true
  | .rtcAlarm _ => true
  | .xinLost => true
  | .xinRestored => true
  | .blkRstWrite v _ => decide (v < 0x100000000)
  | .blockResetEnd block => decide (block < 10)
  | .pllCommit pll v => decide (pll < 4) && decide (v < 0x100000000)
  | .pllLock pll => decide (pll < 4)
  | .pllLossOfLock pll _ => decide (pll < 4)
  | .bandTimeout pll => decide (pll < 4)
  | .bandRetry pll => decide (pll < 4)
  | .pllSysReturn => true
  | .dramHoldTimeout => true
  | .dramFreqSwitch => true
  | .dramFreqAbandon => true
  | .ddrcFreqGo v => decide (v < 0x100000000)
  | .dramAlert _ => true
  | .dramRefresh _ => true
  | .dramZqCal => true
  | .dramDqsTrack => true
  | .dramTempRead _ => true
  | .dramWriteDrain => true
  | .dramReadComplete _ reader => decide (reader < 8)
  | .scrubRead => true
  | .ddrcEccClr v => decide (v < 0x100000000)
  | .ddrcCntClr v => decide (v < 0x100000000)
  | .busRequest tx => tx.ok
  | .busResponse m id t _ _ => decide (m < 10) && decide (id < 64) && decide (t < 8)
  | .busTimeout target => decide (target < 8)
  | .lockBreak target => decide (target < 8)
  | .matrixErrClr v => decide (v < 0x100000000)
  | .dmaGo chan v _ => decide (chan < 32) && decide (v < 0x100000000)
  | .dmaCtrlStop chan _ => decide (chan < 32)
  | .dmaBurstDone chan _ => decide (chan < 32)
  | .dmaDescFetch chan _ => decide (chan < 32)
  | .coreFault core => decide (core < 6)
  | .sliceExpire core _ _ => decide (core < 6)
  | .threadReady thread _ => decide (thread < 256)
  | .pcieCqTailWrite q v => decide (q < 2) && decide (v < 0x100000000)
  | .pcieDescriptorFetch q _ => decide (q < 2)
  | .pcieReplyWrite q => decide (q < 2)
  | .pcieRqHeadWrite q v => decide (q < 2) && decide (v < 0x100000000)
  | .qpCtrlWrite q v => decide (q < 2) && decide (v < 0x100000000)
  | .spiWrite _ => true
  | .spiRead _ => true
  | .spiStatus => true
  | .commandRelease _ _ => true
  | .gapTimeout flow => decide (flow < 64)
  | .sessionIdleTimeout sess => decide (sess < 16)
  | .sysSessionOpen o _ _ => o.ok
  | .sysSessionClose o _ _ => o.ok
  | .sysFlowOpen o _ _ => o.ok
  | .sysFlowClose o _ _ => o.ok
  | .sysPing o _ _ => o.ok
  | .sysInfo o _ _ => o.ok
  | .sysPower o _ _ => o.ok
  | .sysReset o _ _ => o.ok
  | .sysResetHold o _ _ => o.ok
  | .resetHoldEnd _ => true
  | .sysErrRead o _ _ => o.ok
  | .sysErrAck o _ _ => o.ok
  | .sysRtc o _ _ => o.ok
  | .sysOptionRead o _ _ => o.ok
  | .sysFwUpdate o _ _ => o.ok
  | .scnCommit o _ _ => o.ok
  | .scnLoad o _ _ => o.ok
  | .scnDiscard o _ _ => o.ok
  | .scnRead o _ _ => o.ok
  | .scnStoreWrite o _ _ => o.ok
  | .scnStoreRecall o _ _ => o.ok
  | .scnStoreInfo o _ _ => o.ok
  | .scnStoreErase o _ _ => o.ok
  | .scnStatus o _ _ => o.ok
  | .objSetParams o _ _ => o.ok
  | .objSetGain o _ _ => o.ok
  | .objGetParams o _ _ => o.ok
  | .objStatus o _ _ => o.ok
  | .geoSpkLoad o _ _ => o.ok
  | .geoAtmosSet o _ _ => o.ok
  | .geoObjSet o _ _ => o.ok
  | .geoKey o _ _ => o.ok
  | .geoKeyFlush o _ _ => o.ok
  | .geoGetObj o _ _ => o.ok
  | .geoGetPaths o _ _ => o.ok
  | .geoBulkRegion o _ _ => o.ok
  | .pathUpdate o _ _ => o.ok
  | .pathUpdateBuf o _ _ => o.ok
  | .pathMode o _ _ => o.ok
  | .pathStatus o _ _ => o.ok
  | .feedEqSet o _ _ => o.ok
  | .feedTrimSet o _ _ => o.ok
  | .feedOutSet o _ _ => o.ok
  | .feedGainSet o _ _ => o.ok
  | .feedLimitSet o _ _ => o.ok
  | .feedRatingSet o _ _ => o.ok
  | .feedGet o _ _ => o.ok
  | .feedStatus o _ _ => o.ok
  | .corrLoad o _ _ => o.ok
  | .corrLoadMulti o _ _ => o.ok
  | .corrSwap o _ _ => o.ok
  | .corrXfcfg o _ _ => o.ok
  | .corrStatus o _ _ => o.ok
  | .corrRegion o _ _ => o.ok
  | .corrResetSlot o _ _ => o.ok
  | .routeInSet o _ _ => o.ok
  | .routeOutSet o _ _ => o.ok
  | .routeMatrixSet o _ _ => o.ok
  | .routeGenSet o _ _ => o.ok
  | .routeRingSet o _ _ => o.ok
  | .routeStatus o _ _ => o.ok
  | .aspConfig o _ _ => o.ok
  | .aspSlotmask o _ _ => o.ok
  | .aspEnable o _ _ => o.ok
  | .aspMclk o _ _ => o.ok
  | .aspStatus o _ _ => o.ok
  | .netPortCfg o _ _ => o.ok
  | .netIpCfg o _ _ => o.ok
  | .netRingCfg o _ _ => o.ok
  | .netStreamIn o _ _ => o.ok
  | .netStreamOut o _ _ => o.ok
  | .netStreamStop o _ _ => o.ok
  | .netDiscovered o _ _ => o.ok
  | .netSubscribe o _ _ => o.ok
  | .netStatus o _ _ => o.ok
  | .netStreamStatus o _ _ => o.ok
  | .netRedundCfg o _ _ => o.ok
  | .netMdio o _ _ => o.ok
  | .timeCfg o _ _ => o.ok
  | .timeStatus o _ _ => o.ok
  | .timeAdjust o _ _ => o.ok
  | .timeServoCfg o _ _ => o.ok
  | .timeGridCfg o _ _ => o.ok
  | .timeLatSet o _ _ => o.ok
  | .timeLatRead o _ _ => o.ok
  | .timePpsCfg o _ _ => o.ok
  | .timeEvtRead o _ _ => o.ok
  | .timeFailover o _ _ => o.ok
  | .measCfg o _ _ => o.ok
  | .measStream o _ _ => o.ok
  | .measStatus o _ _ => o.ok
  | .measRestart o _ _ => o.ok
  | .hlthStatus o _ _ => o.ok
  | .hlthLogRead o _ _ => o.ok
  | .hlthIbexCfg o _ _ => o.ok
  | .hlthApprove o _ _ => o.ok
  | .hlthFawn o _ _ => o.ok
  | .hlthSlack o _ _ => o.ok
  | .memRead o _ _ => o.ok
  | .memWrite o _ _ => o.ok
  | .memCopy o _ _ => o.ok
  | .memDramInfo o _ _ => o.ok
  | .memDramFreq o _ _ => o.ok
  | .dmaStart o _ _ => o.ok
  | .dmaStop o _ _ => o.ok
  | .dmaStatus o _ _ => o.ok
  | .placeSet o _ _ => o.ok
  | .placeGet o _ _ => o.ok
  | .diagRegRead o _ _ => o.ok
  | .diagRegWrite o _ _ => o.ok
  | .diagSwardRead o _ _ => o.ok
  | .diagSelftest o _ _ => o.ok
  | .diagLoopback o _ _ => o.ok
  | .diagErrInject o _ _ => o.ok
  | .aspFrame port _ _ slots _ _ => decide (port < 64) && slots.all (fun w => decide (w < 0x100000000))
  | .aspClockTimeout port _ => decide (port < 64)
  | .aspClockReturn port => decide (port < 64)
  | .aspRateMeasure port _ => decide (port < 64)
  | .aspMclkMeasure bank _ => decide (bank < 8)
  | .aspCommit port v => decide (port < 64) && decide (v < 0x100000000)
  | .aspCtrlWrite port v => decide (port < 64) && decide (v < 0x100000000)
  | .aspMaskWrite port v _ => decide (port < 64) && decide (v < 0x100000000)
  | .aspBankCfgWrite bank v => decide (bank < 8) && decide (v < 0x100000000)
  | .aspCntClr port v => decide (port < 64) && decide (v < 0x100000000)
  | .netRxFrame port _ => decide (port < 2)
  | .netRxOverflow port => decide (port < 2)
  | .pauseEnd port => decide (port < 2)
  | .pauseWatchdog port => decide (port < 2)
  | .pauseIgnoreEnd port => decide (port < 2)
  | .netTxFrameStart port => decide (port < 2)
  | .netTxFrameDone port _ _ => decide (port < 2)
  | .launchTimeReached port ring => decide (port < 2) && decide (ring < 4)
  | .mediaPacketLaunch stream => decide (stream < 256)
  | .mediaLateDrop port => decide (port < 2)
  | .netLinkUp port speed _ => decide (port < 2) && decide (speed < 5)
  | .netLinkDown port _ => decide (port < 2)
  | .lpiEnter port => decide (port < 2)
  | .lpiWake port => decide (port < 2)
  | .downshift port => decide (port < 2)
  | .netRxTailWrite port ring v => decide (port < 2) && decide (ring < 8) && decide (v < 0x100000000)
  | .netPoolTailWrite port ring v => decide (port < 2) && decide (ring < 8) && decide (v < 0x100000000)
  | .netTxTailWrite port ring v => decide (port < 2) && decide (ring < 4) && decide (v < 0x100000000)
  | .netRingCtrlWrite port tx ring v => decide (port < 2) && decide (ring < (if tx then 4 else 8)) && decide (v < 0x100000000)
  | .netCntClr port v => decide (port < 2) && decide (v < 0x100000000)
  | .mergeWindowExpire stream seq => decide (stream < 256) && decide (seq < 65536)
  | .streamLost stream => decide (stream < 256)
  | .strmRegionWrite v => decide (v < 0x100000000)
  | .strmCntClr v => decide (v < 0x100000000)
  | .discoveryAnnouncement _ => true
  | .discoveryExpire _ => true
  | .streamAnnounce stream => decide (stream < 256)
  | .firmwareProtocolReply port => decide (port < 2)
  | .ptpSyncReceive port seq _ _ _ _ _ => decide (port < 2) && decide (seq < 65536)
  | .servoSnapshot => true
  | .standbySilent => true
  | .ptpAnnounceReceive port _ => decide (port < 2)
  | .ptpDelayRespReceive port seq _ _ _ => decide (port < 2) && decide (seq < 65536)
  | .ptpPdelayReqReceive port seq => decide (port < 2) && decide (seq < 65536)
  | .ptpDelayReqSend port seq _ => decide (port < 2) && decide (seq < 65536)
  | .timeSourceLost port _ => decide (port < 2)
  | .failoverTimeout => true
  | .phaseSlewEnd => true
  | .ctrlPortReturn => true
  | .ppsPulse => true
  | .ptpEvtInEdge _ _ => true
  | .timeCommit v => decide (v < 0x100000000)
  | .timeAdjGo v => decide (v < 0x100000000)
  | .timeFailoverGo v => decide (v < 0x100000000)
  | .txtsPop port v => decide (port < 2) && decide (v < 0x100000000)
  | .evtqPop v => decide (v < 0x100000000)
  | .timeNowNsRead => true
  | .timeLatCommit v => decide (v < 0x100000000)
  | .renderCommitInput v => decide (v < 0x100000000)
  | .renderCommitGen v => decide (v < 0x100000000)
  | .inselWrite i v => decide (i < 640) && decide (v < 0x100000000)
  | .playCtrlWrite p v => decide (p < 64) && decide (v < 0x100000000)
  | .playWrWrite p v => decide (p < 64) && decide (v < 0x100000000)
  | .capCtrlWrite c v => decide (c < 64) && decide (v < 0x100000000)
  | .outCommit v => decide (v < 0x100000000)
  | .outselWrite i v => decide (i < 2624) && decide (v < 0x100000000)
  | .hpCommit v => decide (v < 0x100000000)
  | .bulkBaseWrite v => decide (v < 0x100000000)
  | .corrBaseWrite v => decide (v < 0x100000000)
  | .measCommit v => decide (v < 0x100000000)
  | .measStrCtrlWrite c v => decide (c < 32) && decide (v < 0x100000000)
  | .fabMinClr v => decide (v < 0x100000000)
  | .ibexApproveWrite v => decide (v < 0x100000000)
  | .rcFieldRead _ => true
  | .counterLowRead _ => true
  | .registerWrite _ v _ _ => decide (v < 0x100000000)
  | .ptpFollowUpReceive port seq _ _ _ => decide (port < 2) && decide (seq < 65536)
  | .pcieLinkUp _ _ => true
  | .pcieLinkDown => true
  | .pcieConfigWrite _ _ _ _ => true
  | .hostCompletionTimeout => true
  | .commandProcessingEnd _ _ => true
  | .dramWriteComplete kind i _ => decide (kind < 3) && decide (i < 512)
  | .downshiftRenegotiationTimeout p => decide (p < 2)
  | .heldWakeRelease => true
  | .jtagUpdateIr code => decide (code < 256)
  | .mramAccGo _ waddr _ _ => decide (waddr < 2 ^ 21)
  | .mramAccDone => true

end Sys2Proof
end

