-- ==== Sys2Proof/Machine/Operands.lean ====
section
/-! DEFINITION. The forms in which commands reach the part; `ok` says that the units a command names exist and its
values fit (`Instr.wellFormed`, condition by condition). A command of which that is not so reaches nothing and changes
nothing. Log 5. -/
namespace Sys2Proof.Machine

/-- A command the part takes with or without its rails. Log 5, 6. -/
def takeAlways (ok : Bool) (f : Mach → Mach) (s : State) : Host.Outcome State Fault Refusal :=
  .next (if ok then { s with m := (f s.m).fin } else s)

/-- A command the part takes while it has its rails; without them nothing changes (R508, R526, R530). Log 5, 6. -/
def take (ok : Bool) (f : Mach → Mach) (s : State) : Host.Outcome State Fault Refusal :=
  .next (if !ok || s.m.sys.railsOff then s else { s with m := (f s.m).fin })

/-- An opcode as the part runs it at its release (R264, R276). Log 5, 60. -/
def issue (op : Nat) (f : OpBody) (o : Origin) (p : List Byte) (obs : List Nat) (s : State) :
    Host.Outcome State Fault Refusal :=
  take o.ok (runOp o op f p obs) s

end Sys2Proof.Machine
end

