-- ==== Sys2Proof/Machine/Tick.lean ====
section
/-! DEFINITION. The tick launcher: tokens, the grid, grid steps, latency monitors, and what a token sets going (R24 to R50,
R118, R174, R579 to R581). -/
namespace Sys2Proof.Machine

/-! ## Grid numbers (R32, R33) -/

/-- Number of the tick that holds a network time counted in 2^−16 ns (R33): a boundary belongs to the tick it begins, also where
it falls inside the unit. -/
def tickAt (net : Nat) : Nat := (net * 6 + 5) / (65536 * 1000000)

/-- Error of a token of tick m at a network time, in ns: positive when it is late. -/
def gridErrNs (net m : Nat) : Rat := (net : Rat) / 65536 - (m : Rat) * 1000000 / 6

/-- Do tokens reach the launcher: boot is past P2, and PLL_MEDIA is locked or held (R35, R465)? Log 24. -/
def Mach.tokensRun (s : Mach) : Bool := decide (3 ≤ s.phase) && (s.pllLocked 1 || s.on F.CLK_STAT_MEDIA_HOLD) && !s.sys.railsOff

/-- GRID_LOCK: the error has stayed within 8 ns for 64 ticks (R35). Log 22. -/
def gridLock (s : Mach) : Mach :=
  if s.gf F.TIME_GRID_STAT_STATE = 1 && decide (64 ≤ s.gf F.TIME_GRID_STAT_LOCKRUN) then
    (s.sf F.TIME_GRID_STAT_STATE 2).evt F.TIME_GRID_EVT_LOCKED
  else s

/-- GRID_SLEW_LONG: the error has stayed above STEP_US for 10 s (R37). Log 22. -/
def gridSlewLong (s : Mach) : Mach :=
  if 60000 ≤ s.tm.overRun && !s.tm.overSaid then (s.onTime (fun t => { t with overSaid := true })).evt F.TIME_GRID_EVT_SLEW_LONG else s

/-- PLL_MEDIA's control word moves towards its target by at most SLEW_PPM a token (R37, R459, R462). The target is the live FRAC
and, while the grid acquires or is locked, the frequency of the network clock and an offset that removes the error, free in size up
to SLEW_PPM. A word that is held, or a PLL that follows REFIN, keeps its word. Log 140. -/
def Mach.mediaSlew (s : Mach) (e : Rat) : Mach :=
  let st := s.gf F.TIME_GRID_STAT_STATE
  if st == 3 || s.glv F.CLK_PLL_CTRL_REFSEL 1 != 0 || !s.pllLocked 1 then s
  else
    let (n, s) := s.fresh
    let w := s.pllTarget 1
    let lim := w * s.gf F.TIME_GRID_CTRL_SLEW_PPM / 4000000
    let k : Int := ((Config.openNat n % (lim + 1) : Nat) : Int)
    let off : Int := if 0 < e then k else if e < 0 then -k else 0
    let follow : Int := if st == 1 || st == 2 then rhaQ ((w : Rat) * s.netPpb / 1000000000) + off else 0
    let dco := s.rd R.CLK_PLL_DCO 1
    let gap := sext 32 (toU 32 ((s.lv R.CLK_PLL_FRAC 1 : Int) + follow - dco))
    s.wr R.CLK_PLL_DCO (toU 32 (dco + max (-(lim : Int)) (min (lim : Int) gap))) 1

/-- Grid state and error at the token of tick m; a step may be decided, and otherwise the error is slewed away (R35 to R38).
LOCKRUN counts in ACQUIRE and LOCKED only. Log 22, 139. -/
def Mach.gridToken (s : Mach) (m : Nat) : Mach :=
  let st := s.gf F.TIME_GRID_STAT_STATE
  let s := if s.timeState = 2 && (st = 0 || st = 3) then s.sf F.TIME_GRID_STAT_STATE 1 else s
  if !s.tm.aligned then s.mediaSlew 0
  else
    let e := gridErrNs s.tm.net m
    let s := s.wr R.TIME_GRID_ERR (toU 32 (clampS 32 (rhaQ (e * 5 / 4))))
    let st := s.gf F.TIME_GRID_STAT_STATE
    let near := absQ e ≤ 8
    let s := s.sf F.TIME_GRID_STAT_LOCKRUN (if near && (st = 1 || st = 2) then Nat.min 255 (s.gf F.TIME_GRID_STAT_LOCKRUN + 1) else 0)
    let s := if st = 2 && 50 < absQ e then s.sf F.TIME_GRID_STAT_STATE 1 else s
    if s.gf F.TIME_GRID_STAT_STATE != 1 then (s.onTime (fun t => { t with overRun := 0, overSaid := false })).mediaSlew e
    else
      let above : Bool := decide ((1000 * s.gf F.TIME_GRID_CTRL_STEP_US : Nat) < absQ e)
      let follows := s.glv F.CLK_PLL_CTRL_REFSEL 1 == 0
      let may := follows && (s.power != 0 || s.on F.TIME_GRID_CTRL_STEP_ACTIVE)
      if above && may && s.tm.gstep == .none then
        (s.onTime (fun t => { t with gstep := .down, overRun := 0, overSaid := false })).evt F.TIME_GRID_EVT_STEPPED
      else (s.onTime (fun t => { t with overRun := if above && follows then t.overRun + 1 else 0, overSaid := t.overSaid && above })).mediaSlew e

/-! ## Latency monitors (R42 to R50) -/

/-- The chain of a monitor: what a floor is made of. -/
structure Chain where
  sel : Nat
  chan : Nat
  direct : Bool
  feed : Nat
  /-- sink index, and whether SINK names an ASP slot or an egress channel -/
  sink : Nat
  sinkOk : Bool

/-- Chain of monitor k. Register writes may leave an INDEX outside its range, which is taken modulo the range. Log 141. -/
def Mach.chainOf (s : Mach) (k : Nat) : Chain :=
  let d := s.glv F.TIME_LAT_VIA_DIRECT k != 0
  let i := s.glv F.TIME_LAT_VIA_INDEX k
  let id := s.glv F.TIME_LAT_SINK_ID k
  ⟨s.glv F.TIME_LAT_SRC_SEL k, if d then 512 + i % 128 else i, d, s.glv F.TIME_LAT_VIA_FEED k,
   if selKind id = 2 then 2048 + selIdx id else selIdx id,
   (selKind id == 1 && decide (selIdx id < 2048)) || (selKind id == 2 && decide (selIdx id < 512))⟩

/-- The side of the route a monitor reports: the one fading out until the cross-fade ends. -/
def Mach.chainSide (s : Mach) (c : Chain) : Side := let r := (s.chan c.chan).route; r.old.getD r.cur

/-- Port term of ASP port n in samples at 96 kHz (R46): at the rate set, or at the rate found where it is AUTO. Log 119. -/
def Mach.portTerm (s : Mach) (n : Nat) : Rat :=
  let f : Rat := if s.aspMaster n then 7 / 10 else (s.gf F.ASP_TERM_FRAMES n : Rat) / 1024
  let rate := s.glv F.ASP_CFG_RATE n
  let hz := rateHz (if rate = 0 then s.gf F.ASP_STAT_RATE n else rate)
  if hz = 0 then 0 else f * 96000 / (hz : Rat)

/-- Floor of a chain in samples (R42, R190, R425). -/
def Mach.floorOf (s : Mach) (c : Chain) : Nat :=
  let jit := if selKind c.sel = 2 then
      (match s.sin.find? (fun e => e.2.en && decide (e.2.pool ≤ selIdx c.sel) && decide (selIdx c.sel < e.2.pool + e.2.chans)) with
        | some (_, x) => jitterDepth x.jitUs
        | none => 0) else 0
  let pkt := if 2048 ≤ c.sink then ((s.noutOf (c.sink - 2048)).map (fun e => ptimeGrid e.2.ptime)).getD 0 else 0
  32 + (if (s.chainSide c).bypass then 0 else 24) + 8 + (s.feed c.feed).delayTerm + (s.feed c.feed).lim.term
    + (if s.sinkSync c.sink then 0 else 24) + pkt + jit

/-- The fixed excess X of a chain in samples (R45). -/
def Mach.excessOf (s : Mach) (c : Chain) : Rat :=
  16 + (if selKind c.sel = 1 then s.portTerm (selIdx c.sel / 32) else 0) + (if c.sink < 2048 then s.portTerm (c.sink / 32) else 4 / 5)

/-- Samples at 96 kHz as ns. -/
def samplesNs (n : Rat) : Nat := (rhaQ (n * 1000000 / 96)).toNat

/-- The path of a chain's object to its feed. -/
def Mach.chainPath (s : Mach) (c : Chain) : Option Path := (s.rend.paths.find? (fun e => e.2.obj == c.chan && e.2.feed == c.feed)).map (·.2)

/-- Programmed delay of a chain in samples (R43). Log 27. -/
def Mach.progOf (s : Mach) (c : Chain) : Rat :=
  let p : Rat := if c.direct then 0 else ((s.geo c.chan).bulk : Rat) + ((s.chainPath c).map (fun x => (x.d : Rat) / (2 ^ 32 : Nat))).getD 0
  p + ((s.feed c.feed).trim : Rat)

/-- FLOOR and the flags of monitor k, kept up to date at every token (R48, R50). An UNSUPPORTED monitor is not VALID either, and
ABSENT is that of the side the object has selected. Log 141. -/
def Mach.latFloor (s : Mach) (k : Nat) : Mach :=
  if s.glv F.TIME_LAT_SINK_EN k = 0 then s.sf F.TIME_LAT_STAT_VALID 0 k
  else
    let c := s.chainOf k
    let f := s.floorOf c
    let unsup := !(selKind c.sel == 1 || selKind c.sel == 2) || !c.sinkOk
    let noPath := !c.direct && (s.chainPath c).isNone
    let absent := (s.chainSide c).absent
    let slave (n : Nat) : Bool := !s.aspMaster n
    let term := (selKind c.sel == 1 && slave (selIdx c.sel / 32)) || (decide (c.sink < 2048) && slave (c.sink / 32))
    let s := s.wr R.TIME_LAT_FLOOR (samplesNs f % 2 ^ 32) k
    let s := (s.sf F.TIME_LAT_STAT_BELOW_MIN (b2n ((f : Rat) < 4 * s.excessOf c)) k).sf F.TIME_LAT_STAT_UNSUPPORTED (b2n unsup) k
    let s := (s.sf F.TIME_LAT_STAT_NO_PATH (b2n noPath) k).sf F.TIME_LAT_STAT_ABSENT (b2n absent) k
    let s := s.sf F.TIME_LAT_STAT_SLAVE_TERM (b2n term) k
    if noPath || absent || unsup then s.sf F.TIME_LAT_STAT_VALID 0 k else s

/-- Each enabled monitor marks the first sample of every 6,000th tick, with its programmed delay (R43, R48). Log 27. -/
def Mach.latMark (s : Mach) (m k : Nat) : Mach :=
  s.when (m % 6000 == 0 && s.glv F.TIME_LAT_SINK_EN k != 0)
    (fun s => s.onTime (fun t => { t with marks := mput t.marks k (s.progOf (s.chainOf k)) }))

/-- Programmed delay of the sample monitor k has marked. -/
def Mach.markOf (s : Mach) (k : Nat) : Option Rat := mfind s.tm.marks k

/-- Pass-through in ns of a marked sample, from its stamps in units of 0.8 ns and its position q in an egress packet (R44). -/
def Mach.passOf (s : Mach) (k inp out q : Nat) (prog : Rat) : Nat :=
  let lead : Nat := if 2048 ≤ (s.chainOf k).sink then q else 0
  (rhaQ (((out : Rat) - (inp : Rat)) * 4 / 5 + ((lead : Rat) - prog) * 1000000 / 96)).toNat

/-- LATENCY_REFRESH: the marked sample of monitor k went in and came out at two stamps (R43, R44, R48, R49). RATIO saturates.
Log 27, 141. -/
def latencyRefresh (k inp out q : Nat) (s : Mach) : Mach :=
  if 4 ≤ k then s
  else
    let s := s.latFloor k
    let bad := s.on F.TIME_LAT_STAT_NO_PATH k || s.on F.TIME_LAT_STAT_ABSENT k || s.on F.TIME_LAT_STAT_UNSUPPORTED k
    if s.glv F.TIME_LAT_SINK_EN k = 0 || bad then s
    else
    match s.markOf k with
    | none => s
    | some p =>
      let s := s.onTime (fun t => { t with marks := mdel t.marks k })
      let prog := samplesNs p
      let floor := s.rd R.TIME_LAT_FLOOR k
      let pass := s.passOf k inp out q p
      let ratio := Nat.min 65535 (pass * 1024 / Nat.max 1 floor)
      let breach := !s.on F.TIME_LAT_STAT_BELOW_MIN k && decide (5 * floor < 4 * pass)
      let s := ((s.wr R.TIME_LAT_PASS (pass % 2 ^ 32) k).wr R.TIME_LAT_PROG (prog % 2 ^ 32) k).sf F.TIME_LAT_RATIO_Q10 ratio k
      let s := (s.sf F.TIME_LAT_STAT_VALID 1 k).sf F.TIME_LAT_STAT_BREACH (b2n breach) k
      if breach then s.raise E.LATENCY_BREACH k ratio else s

/-! ## The end of a tick -/

/-- The running tick ends: what the fabric has not delivered is missed or done, and slots fade out. -/
def Mach.endTick (s : Mach) : Mach := s.finishTick.freeFaded

/-- The taps of the last tick reach the measurement chain: zeros of a tick in IDLE, nothing of one in QUIET (R528). -/
def Mach.measLast (s : Mach) : Mach :=
  match s.rend.hand with
  | some (t, _) => s.measTick t
  | none => s

/-- The hand-off copy into the sinks, at the boundary of tick m (R26, R197). -/
def Mach.sinksToken (s : Mach) (m : Nat) : Mach :=
  let s := s.touchSinks
  let s := match s.rend.hand with
    | some (t, h) => (s.copySinks t (if s.power = 0 then h else [])).copyRest
    | none => (s.copySinks (m - 1) []).copyRest
  ({ s with asp := s.asp.map (fun e => (e.1, { e.2 with glitched := false })) } : Mach).powerCopied.feedEgress m

/-- A grid step stops the tokens at the end of tick k (R38, R174). Log 23. -/
def Mach.gridStop (s : Mach) : Mach :=
  let k := s.tm.tick
  let s := (s.measLast).sinksToken (k + 1)
  let s := (s.clearHistories).onRend (fun q => { q with hand := none })
  s.onTime (fun t => { t with gstep := .stopped, stopAt := k, stopNet := t.net })

/-! ## The token -/

/-- A grid step moves on at a token: held ticks, then the tick that fades in. -/
def GridStep.next : GridStep → GridStep
  | .held n => if n ≤ 1 then .fade else .held (n - 1)
  | .fade => .none
  | g => g

/-- Words of Sward that DIAG_ERR_INJECT corrupts in this tick: those that the first path of the object reads first (R366).
Log 89. -/
def Mach.swardInject (s : Mach) : List (Nat × Nat) :=
  s.rend.injS.flatMap (fun e => match s.pathsOf e.1 with
    | [] => []
    | p :: _ =>
      let d := (p.2.d / 2 ^ 32).toNat
      (upto e.2).map (fun i => (e.1, if i < d then d - 1 - i else i)))

/-- Collection of the tick before, and the work that token m hands to the fabric. -/
def Mach.handWork (s : Mach) (m : Nat) (x : TokenObs) : Mach :=
  let (src, s) := s.collect (16 * (m - 1))
  let seen := x.sward.filter (fun e => decide (e.2 < 32768) && s.rend.paths.any (fun p => p.2.obj == e.1))
  let perr := seen ++ s.swardInject
  let conv := x.conv.filter (fun e => decide (e.1 < s.variant.feeds) && decide (e.2.1 < 2) && decide (e.2.2 < 2078))
  let inj := s.rend.injC.flatMap (fun e => (upto e.2).map (fun w => (e.1, (s.feed e.1).live, w)))
  let s := s.convPerr (conv ++ inj)
  s.onRend (fun q => { q with work := some ⟨m, src, perr, s.timerBackup⟩, injC := [],
                              injS := q.injS.filter (fun e => !perr.any (fun p => p.1 == e.1)) })

/-- The three GEO_POS registers latch together (R110). -/
def Mach.geoPos (s : Mach) : Mach :=
  let k := (s.obj (s.gf F.RENDER_GEO_DIAG_OBJ_OBJ)).traj.kin
  ((s.wr R.RENDER_GEO_POS_X (posWord k.px)).wr R.RENDER_GEO_POS_Y (posWord k.py)).wr R.RENDER_GEO_POS_Z (posWord k.pz)

/-- The token of tick m (R24, R26, R34): boundaries, writes to DRAM, measurement, everything latched, targets and cuts,
prefetch checks, wakes, the collection, the hand-off copy, and the computation for the next tick. Log 99. -/
def Mach.token (s : Mach) (m : Nat) (x : TokenObs) : Mach :=
  let s := (s.onTime (fun t => { t with tick := m, ticking := true })).wr64 R.TIME_TICK_LO R.TIME_TICK_HI (m % 2 ^ 64)
  let s := ((s.wakeAt m).powerAwake).gridToken m
  let act := s.power == 0
  let ok := x.dram && decide (s.dramSize ≠ 0) && !(s.ddrState == 5 || s.ddrState == 6)
  let s := s.onRend (fun q => { q with dramOk := (ok :: q.dramOk).take 64 })
  let s := s.each (s.rend.feeds.map (·.1)) Mach.feedBoundary
  let s := s.when (m % 64 == 0) (·.blockBoundary m)
  let s := (((s.bulkWrites m ok).trimWrites m ok).spectrumWrites m ok).playFill ok
  let s := ((s.measLast.measOverdue m).applyToken m).ibexToken m
  let ban (o f : Nat) : Bool := s.cutBy o f
  let s := s.bulkRefill m
  let s := if act then (s.cutNow (fun p => ban p.obj p.feed)).applyPlan m ban else s
  let s := if act then (s.bulkCheck m).trimCheck else s
  let s := s.when (act && m % 64 == 63) (·.tailCheck m)
  let s := s.when (m % 64 == 0) (fun s => let t := s.reserve m; t.each (t.rend.feeds.map (·.1)) Mach.partsCheck)
  let s := (s.wakeFronts m).avsFollow
  let (src, s) := if act then ([], s.handWork m x) else s.collect (16 * (m - 1))
  let s := (s.sinksToken m).geoPos.bankShow
  let s := if act then s.computePlan m else s.quietTick m src
  s.each (upto 4) (fun s k => (s.latFloor k).latMark m k)

/-- Number of the next token (R33, R35): counted, but for the first one that network time aligns, which never falls back. Log 21,
62. -/
def Mach.nextTick (s : Mach) : Nat × Bool :=
  let n := if s.tm.ticking then s.tm.tick + 1 else 0
  if s.timeState = 2 && !s.tm.aligned then (Nat.max n (tickAt s.tm.net), true) else (n, s.tm.aligned)

/-- The token at which the numbering of R33 is taken puts the grid in ACQUIRE (R35, R528). Log 21. -/
def Mach.align (s : Mach) : Mach :=
  if s.nextTick.2 && !s.tm.aligned then
    ((s.onTime (fun t => { t with aligned := true })).sf F.TIME_GRID_STAT_STATE 1).sf F.TIME_GRID_STAT_LOCKRUN 0
  else s

/-- TICK_TOKEN: 16 samples of PLL_MEDIA have passed. Log 24, 25. -/
def tickToken (x : TokenObs) (s : Mach) : Mach :=
  let s := s.advance x.dt
  if !s.tokensRun then s
  else
    let s := s.endTick
    match s.tm.gstep with
    | .stopped => s
    | .down => s.gridStop
    | g =>
      let s := (gridSlewLong (gridLock s)).onTime (fun t => { t with gstep := g.next })
      let s := s.powerToken
      s.align.token s.nextTick.1 x

/-- Swap requests after a grid step (R174). Log 23. -/
def Mach.relatch (s : Mach) (m : Nat) : Mach :=
  s.onRend (fun q => { q with feeds := q.feeds.map (fun e => (e.1,
    let d := e.2
    let pend := d.pend.map (fun r => if d.resv.isSome then r else { r with latch := m, first := if r.queued then r.first else none })
    { d with resv := d.resv.map (fun b => Nat.max b ((m + 127) / 64)), pend := pend })) })

/-- GRID_STEP_RESUME: the first grid boundary at least two ticks of network time, less the unit of NET, after tokens stopped
(R38). Log 23. -/
def gridStepResume (x : TokenObs) (s : Mach) : Mach :=
  let s := s.advance x.dt
  let m := tickAt s.tm.net
  if s.tm.gstep != .stopped || !s.tokensRun || m ≤ s.tm.stopAt || 3 * (s.tm.net - s.tm.stopNet + 1) < 65536 * 1000000 then s
  else
    let s := s.onTime (fun t => { t with gstep := .held 2, aligned := true })
    (((s.relatch m).aspGridStep).measGridStep m).token m x

/-! ## Events of the audio path with a row of their own -/

/-- HP_TIMEOUT of host object o (R146): it has no paths until an update arrives. -/
def hpTimeout (o : Nat) (s : Mach) : Mach :=
  let h := s.hpo o
  if s.variant.objects ≤ o || !h.host || h.timed || !h.pend.isEmpty || h.hold < s.glv F.RENDER_HP_CFG_HOLDMAX o then s
  else
    let s := (s.bump R.RENDER_HP_TIMEOUT).evt F.RENDER_HP_EVT_TIMEOUT
    s.onHp o (fun h => { h with applied := [], timed := true, empty := true })

/-- Write the trim-line tick t of feed f to DRAM (R177). -/
def Mach.trimWrite (s : Mach) (f t : Nat) : Mach :=
  let d := s.feed f
  if !s.corrOn || !d.lineTodo.contains t || s.tm.tick < t + 1 then s
  else
    let smp := ((d.line.drop (16 * (d.lineTick - t))).take 16).reverse
    let s := s.each (smp.zip (upto 16)) (fun s p => s.partStore (s.trimAddr f (16 * t + p.2)) (toLE 8 (toU 64 p.1)))
    s.onFeed f (fun d => { d with lineTodo := d.lineTodo.filter (fun k => k != t) })

/-- DRAM_WRITE_COMPLETE: kind 0 the bulk history of object i in tick n, 1 the spectrum of feed i for block n, 2 the trim
line of feed i in tick n. -/
def dramWriteComplete (kind i n : Nat) (s : Mach) : Mach :=
  match kind with
  | 0 => if s.bulkOn then s.bulkWrite i n else s
  | 1 => if (s.feed i).todo.contains n then s.onFeed i (fun d => { d with todo := d.todo.filter (fun b => b != n) }) else s
  | 2 => s.trimWrite i n
  | _ => s

end Sys2Proof.Machine
end

