-- ==== Sys2Proof/Machine/ExecAsp.lean ====
section
/-! DEFINITION. Meanings of the commands: serial ports. -/
namespace Sys2Proof.Machine

/-- IOASP_BROWN_OUT (R533). -/
def execIoaspBrownOut (bank : Nat) (bad : Bool) (s : State) : Host.Outcome State Fault Refusal :=
  take (decide (bank < 8)) (ioaspBrownOut bank bad) s

/-- ASP_FRAME (R387). -/
def execAspFrame (port bitCount ps : Nat) (slots : List Nat) (ph : Int) (held : Nat) (s : State) :
    Host.Outcome State Fault Refusal :=
  take (decide (port < 64) && slots.all (fun w => decide (w < 0x100000000))) (aspFrame port bitCount ps slots ph held) s

/-- ASP_CLOCK_TIMEOUT (R397). -/
def execAspClockTimeout (port cause : Nat) (s : State) : Host.Outcome State Fault Refusal :=
  take (decide (port < 64)) (aspClockTimeout port cause) s

/-- ASP_CLOCK_RETURN (R392). -/
def execAspClockReturn (port : Nat) (s : State) : Host.Outcome State Fault Refusal :=
  take (decide (port < 64)) (aspClockReturn port) s

/-- ASP_RATE_MEASURE (R394). -/
def execAspRateMeasure (port count : Nat) (s : State) : Host.Outcome State Fault Refusal :=
  take (decide (port < 64)) (aspRateMeasure port count) s

/-- ASP_MCLK_MEASURE (R385). -/
def execAspMclkMeasure (bank hz : Nat) (s : State) : Host.Outcome State Fault Refusal :=
  take (decide (bank < 8)) (aspMclkMeasure bank hz) s

/-- ASP_COMMIT (R389). -/
def execAspCommit (port v : Nat) (s : State) : Host.Outcome State Fault Refusal :=
  take (decide (port < 64) && decide (v < 0x100000000)) (aspCommit port v) s

/-- ASP_CTRL_WRITE (R390). -/
def execAspCtrlWrite (port v : Nat) (s : State) : Host.Outcome State Fault Refusal :=
  take (decide (port < 64) && decide (v < 0x100000000)) (aspCtrlWrite port v) s

/-- ASP_MASK_WRITE (R391). -/
def execAspMaskWrite (port v : Nat) (late : Bool) (s : State) : Host.Outcome State Fault Refusal :=
  take (decide (port < 64) && decide (v < 0x100000000)) (aspMaskWrite port v late) s

/-- ASP_BANK_CFG_WRITE (R400). -/
def execAspBankCfgWrite (bank v : Nat) (s : State) : Host.Outcome State Fault Refusal :=
  take (decide (bank < 8) && decide (v < 0x100000000)) (aspBankCfgWrite bank v) s

/-- ASP_CNT_CLR (R402). -/
def execAspCntClr (port v : Nat) (s : State) : Host.Outcome State Fault Refusal :=
  take (decide (port < 64) && decide (v < 0x100000000)) (aspCntClr port v) s

end Sys2Proof.Machine
end

