-- ==== Sys2Proof/Machine/ExecBus.lean ====
section
/-! DEFINITION. Meanings of the commands: matrix, DMA and register accesses. -/
namespace Sys2Proof.Machine

/-- BUS_REQUEST (R469). -/
def execBusRequest (tx : BusTx) (s : State) : Host.Outcome State Fault Refusal := take tx.ok (busRequest tx) s

/-- BUS_RESPONSE (R475). -/
def execBusResponse (m id t : Nat) (wr : Bool) (code : Nat) (s : State) : Host.Outcome State Fault Refusal :=
  take (decide (m < 10) && decide (id < 64) && decide (t < 8)) (busResponse m id t wr code) s

/-- BUS_TIMEOUT (R476). -/
def execBusTimeout (target : Nat) (s : State) : Host.Outcome State Fault Refusal :=
  take (decide (target < 8)) (busTimeout target) s

/-- LOCK_BREAK (R474). -/
def execLockBreak (target : Nat) (s : State) : Host.Outcome State Fault Refusal :=
  take (decide (target < 8)) (lockBreak target) s

/-- MATRIX_ERR_CLR (R475). -/
def execMatrixErrClr (v : Nat) (s : State) : Host.Outcome State Fault Refusal :=
  take (decide (v < 0x100000000)) (matrixErrClr v) s

/-- DMA_GO (R481). -/
def execDmaGo (chan v : Nat) (pcie : Bool) (s : State) : Host.Outcome State Fault Refusal :=
  take (decide (chan < 32) && decide (v < 0x100000000)) (dmaGo chan v pcie) s

/-- DMA_CTRL_STOP (R488). -/
def execDmaCtrlStop (chan : Nat) (pcie : Bool) (s : State) : Host.Outcome State Fault Refusal :=
  take (decide (chan < 32)) (dmaCtrlStop chan pcie) s

/-- DMA_BURST_DONE (R484). -/
def execDmaBurstDone (chan code : Nat) (s : State) : Host.Outcome State Fault Refusal :=
  take (decide (chan < 32)) (dmaBurstDone chan code) s

/-- DMA_DESC_FETCH (R486). -/
def execDmaDescFetch (chan code : Nat) (s : State) : Host.Outcome State Fault Refusal :=
  take (decide (chan < 32)) (dmaDescFetch chan code) s

/-- RC_FIELD_READ (R10). -/
def execRcFieldRead (a : Nat) (s : State) : Host.Outcome State Fault Refusal := take true (rcFieldRead a) s

/-- COUNTER_LOW_READ (R11). -/
def execCounterLowRead (a : Nat) (s : State) : Host.Outcome State Fault Refusal := take true (counterLowRead a) s

/-- REGISTER_WRITE (R9). -/
def execRegisterWrite (a v : Nat) (pcie valid : Bool) (s : State) : Host.Outcome State Fault Refusal :=
  take (decide (v < 0x100000000)) (registerWrite a v pcie valid) s

/-- HOST_COMPLETION_TIMEOUT (R476). -/
def execHostCompletionTimeout (s : State) : Host.Outcome State Fault Refusal := take true hostCompletionTimeout s

end Sys2Proof.Machine
end

