-- ==== Sys2Proof/Machine/ExecClock.lean ====
section
/-! DEFINITION. Meanings of the commands: clock synthesis. -/
namespace Sys2Proof.Machine

/-- XIN_LOST (R466). -/
def execXinLost (s : State) : Host.Outcome State Fault Refusal := takeAlways true xinLost s

/-- XIN_RESTORED (R466). -/
def execXinRestored (s : State) : Host.Outcome State Fault Refusal := takeAlways true xinRestored s

/-- PLL_COMMIT (R462). -/
def execPllCommit (pll v : Nat) (s : State) : Host.Outcome State Fault Refusal :=
  take (decide (pll < 4) && decide (v < 0x100000000)) (pllCommit pll v) s

/-- PLL_LOCK (R461). -/
def execPllLock (pll : Nat) (s : State) : Host.Outcome State Fault Refusal := take (decide (pll < 4)) (pllLock pll) s

/-- PLL_LOSS_OF_LOCK (R465). -/
def execPllLossOfLock (pll : Nat) (pherr : Int) (s : State) : Host.Outcome State Fault Refusal :=
  take (decide (pll < 4)) (pllLossOfLock pll pherr) s

/-- BAND_TIMEOUT (R460). -/
def execBandTimeout (pll : Nat) (s : State) : Host.Outcome State Fault Refusal :=
  take (decide (pll < 4)) (bandTimeout pll) s

/-- BAND_RETRY (R460). -/
def execBandRetry (pll : Nat) (s : State) : Host.Outcome State Fault Refusal :=
  take (decide (pll < 4)) (bandRetry pll) s

/-- PLL_SYS_RETURN (R465). -/
def execPllSysReturn (s : State) : Host.Outcome State Fault Refusal := take true pllSysReturn s

end Sys2Proof.Machine
end

