-- ==== Sys2Proof/Machine/ExecCommand.lean ====
section
/-! DEFINITION. Meanings of the commands: command transports and scheduler. -/
namespace Sys2Proof.Machine

/-- CORE_FAULT (R368). -/
def execCoreFault (core : Nat) (s : State) : Host.Outcome State Fault Refusal :=
  take (decide (core < 6)) (coreFault core) s

/-- SLICE_EXPIRE (R373). -/
def execSliceExpire (core cycles : Nat) (stop : Bool) (s : State) : Host.Outcome State Fault Refusal :=
  take (decide (core < 6)) (sliceExpire core cycles stop) s

/-- THREAD_READY (R372). -/
def execThreadReady (thread level : Nat) (s : State) : Host.Outcome State Fault Refusal :=
  take (decide (thread < 256)) (threadReady thread level) s

/-- PCIE_CQ_TAIL_WRITE (R282). -/
def execPcieCqTailWrite (q v : Nat) (s : State) : Host.Outcome State Fault Refusal :=
  take (decide (q < 2) && decide (v < 0x100000000)) (pcieCqTailWrite q v) s

/-- PCIE_DESCRIPTOR_FETCH (R282). -/
def execPcieDescriptorFetch (q : Nat) (err : Bool) (s : State) : Host.Outcome State Fault Refusal :=
  take (decide (q < 2)) (pcieDescriptorFetch q err) s

/-- PCIE_REPLY_WRITE (R283). -/
def execPcieReplyWrite (q : Nat) (s : State) : Host.Outcome State Fault Refusal :=
  take (decide (q < 2)) (pcieReplyWrite q) s

/-- PCIE_RQ_HEAD_WRITE (R283). -/
def execPcieRqHeadWrite (q v : Nat) (s : State) : Host.Outcome State Fault Refusal :=
  take (decide (q < 2) && decide (v < 0x100000000)) (pcieRqHeadWrite q v) s

/-- QP_CTRL_WRITE (R284). -/
def execQpCtrlWrite (q v : Nat) (s : State) : Host.Outcome State Fault Refusal :=
  take (decide (q < 2) && decide (v < 0x100000000)) (qpCtrlWrite q v) s

/-- SPI_WRITE (R285). -/
def execSpiWrite (pkt : List Byte) (s : State) : Host.Outcome State Fault Refusal :=
  take true (spiWrite pkt) s

/-- SPI_READ (R285). -/
def execSpiRead (n : Nat) (s : State) : Host.Outcome State Fault Refusal := take true (spiRead n) s

/-- SPI_STATUS (R286). -/
def execSpiStatus (s : State) : Host.Outcome State Fault Refusal := take true spiStatus s

/-- COMMAND_RELEASE (R276). -/
def execCommandRelease (id : Nat) (obs : List Nat) (s : State) : Host.Outcome State Fault Refusal :=
  take true (commandRelease id obs) s

/-- GAP_TIMEOUT (R277). -/
def execGapTimeout (flow : Nat) (s : State) : Host.Outcome State Fault Refusal :=
  take (decide (flow < 64)) (gapTimeout flow) s

/-- SESSION_IDLE_TIMEOUT (R272). -/
def execSessionIdleTimeout (sess : Nat) (s : State) : Host.Outcome State Fault Refusal :=
  take (decide (sess < 16)) (sessionIdleTimeout sess) s

/-- COMMAND_PROCESSING_END (R377). -/
def execCommandProcessingEnd (id cycles : Nat) (s : State) : Host.Outcome State Fault Refusal :=
  take true (commandProcessingEnd id cycles) s

end Sys2Proof.Machine
end

