-- ==== Sys2Proof/Machine/ExecDram.lean ====
section
/-! DEFINITION. Meanings of the commands: DRAM controller. -/
namespace Sys2Proof.Machine

/-- DRAM_HOLD_TIMEOUT (R506). -/
def execDramHoldTimeout (s : State) : Host.Outcome State Fault Refusal := take true dramHoldTimeout s

/-- DRAM_FREQ_SWITCH (R504). -/
def execDramFreqSwitch (s : State) : Host.Outcome State Fault Refusal := take true dramFreqSwitch s

/-- DRAM_FREQ_ABANDON (R505). -/
def execDramFreqAbandon (s : State) : Host.Outcome State Fault Refusal := take true dramFreqAbandon s

/-- DDRC_FREQ_GO (R504). -/
def execDdrcFreqGo (v : Nat) (s : State) : Host.Outcome State Fault Refusal :=
  take (decide (v < 0x100000000)) (ddrcFreqGo v) s

/-- DRAM_ALERT (R500). -/
def execDramAlert (ok : Bool) (s : State) : Host.Outcome State Fault Refusal := take true (dramAlert ok) s

/-- DRAM_REFRESH (R495). -/
def execDramRefresh (bank : Option Nat) (s : State) : Host.Outcome State Fault Refusal := take true (dramRefresh bank) s

/-- DRAM_ZQ_CAL (R495). -/
def execDramZqCal (s : State) : Host.Outcome State Fault Refusal := take true dramZqCal s

/-- DRAM_DQS_TRACK (R495). -/
def execDramDqsTrack (s : State) : Host.Outcome State Fault Refusal := take true dramDqsTrack s

/-- DRAM_TEMP_READ (R495). -/
def execDramTempRead (hottest : Nat) (s : State) : Host.Outcome State Fault Refusal :=
  take true (dramTempRead hottest) s

/-- DRAM_WRITE_DRAIN (R497). -/
def execDramWriteDrain (s : State) : Host.Outcome State Fault Refusal := take true dramWriteDrain s

/-- DRAM_READ_COMPLETE (R501). -/
def execDramReadComplete (addr reader : Nat) (s : State) : Host.Outcome State Fault Refusal :=
  take (decide (reader < 8)) (dramReadComplete addr reader) s

/-- SCRUB_READ (R503). -/
def execScrubRead (s : State) : Host.Outcome State Fault Refusal := take true scrubRead s

/-- DDRC_ECC_CLR (R501). -/
def execDdrcEccClr (v : Nat) (s : State) : Host.Outcome State Fault Refusal :=
  take (decide (v < 0x100000000)) (ddrcEccClr v) s

/-- DDRC_CNT_CLR (R509). -/
def execDdrcCntClr (v : Nat) (s : State) : Host.Outcome State Fault Refusal :=
  take (decide (v < 0x100000000)) (ddrcCntClr v) s

/-- DRAM_WRITE_COMPLETE (R580). -/
def execDramWriteComplete (kind i n : Nat) (s : State) : Host.Outcome State Fault Refusal :=
  take (decide (kind < 3) && decide (i < 512)) (dramWriteComplete kind i n) s

end Sys2Proof.Machine
end

