-- ==== Sys2Proof/Machine/ExecError.lean ====
section
/-! DEFINITION. Meanings of the commands: errors. -/
namespace Sys2Proof.Machine

/-- ERROR_HANDLED (R540). -/
def execErrorHandled (s : State) : Host.Outcome State Fault Refusal := take true errorHandled s

/-- FATAL_HANDLING_TIMEOUT (R541). -/
def execFatalHandlingTimeout (s : State) : Host.Outcome State Fault Refusal := take true fatalHandlingTimeout s

/-- ERR_ACK_WRITE (R537). -/
def execErrAckWrite (upTo : Nat) (s : State) : Host.Outcome State Fault Refusal :=
  take (decide (upTo < 0x100000000)) (errAckWrite upTo) s

/-- WATCHDOG_EXPIRE (R382). -/
def execWatchdogExpire (core : Nat) (s : State) : Host.Outcome State Fault Refusal :=
  take (decide (core < 6)) (watchdogExpire core) s

/-- STORM_RELEASE (R515). -/
def execStormRelease (s : State) : Host.Outcome State Fault Refusal := take true stormRelease s

end Sys2Proof.Machine
end

