-- ==== Sys2Proof/Machine/ExecFabric.lean ====
section
/-! DEFINITION. Meanings of the commands: fabric, Fawn and Ibex. -/
namespace Sys2Proof.Machine

/-- ENGINE_COMPLETE (R230). -/
def execEngineComplete (e count : Nat) (s : State) : Host.Outcome State Fault Refusal :=
  take (decide (e < 106)) (engineComplete e count) s

/-- ENGINE_ABANDON (R233). -/
def execEngineAbandon (cls : Nat) (s : State) : Host.Outcome State Fault Refusal :=
  take (decide (cls < 4)) (engineAbandon cls) s

/-- ENGINE_ABANDON_ACK (R233). -/
def execEngineAbandonAck (e : Nat) (s : State) : Host.Outcome State Fault Refusal :=
  take (decide (e < 106)) (engineAbandonAck e) s

/-- FABRIC_HANG (R236). -/
def execFabricHang (e : Nat) (s : State) : Host.Outcome State Fault Refusal := take (decide (e < 106)) (fabricHang e) s

/-- FABRIC_DONE (R226). -/
def execFabricDone (s : State) : Host.Outcome State Fault Refusal := take true fabricDone s

/-- ENGINE_GROUP_GATE (R238). -/
def execEngineGroupGate (k : Nat) (s : State) : Host.Outcome State Fault Refusal :=
  take (decide (k < 20)) (engineGroupGate k) s

/-- HERD_WINDOW (R257). -/
def execHerdWindow (avs : Bool) (s : State) : Host.Outcome State Fault Refusal := take true (herdWindow avs) s

/-- GROUP_AWAKE (R239). -/
def execGroupAwake (k : Nat) (s : State) : Host.Outcome State Fault Refusal := take (decide (k < 20)) (groupAwake k) s

/-- FAWN_READ (R243). -/
def execFawnRead (rates : List Nat) (s : State) : Host.Outcome State Fault Refusal := take true (fawnRead rates) s

/-- TJ_READ (R245). -/
def execTjRead (tj : Int) (s : State) : Host.Outcome State Fault Refusal := take true (tjRead tj) s

/-- IBEX_EVALUATE (R251). -/
def execIbexEvaluate (s : State) : Host.Outcome State Fault Refusal := take true ibexEvaluate s

/-- AVS_WRITE (R248). -/
def execAvsWrite (ok : Bool) (s : State) : Host.Outcome State Fault Refusal := take true (avsWrite ok) s

/-- IBEX_STUCK (R253). -/
def execIbexStuck (s : State) : Host.Outcome State Fault Refusal := take true ibexStuck s

/-- AGEING_LOG_WRITE (R247). -/
def execAgeingLogWrite (s : State) : Host.Outcome State Fault Refusal := take true ageingLogWrite s

/-- FABRIC_SELFTEST (R520). -/
def execFabricSelftest (bad rates : List Nat) (tj : Int) (s : State) : Host.Outcome State Fault Refusal :=
  take true (fabricSelftest bad rates tj) s

/-- FAB_MIN_CLR (R242). -/
def execFabMinClr (v : Nat) (s : State) : Host.Outcome State Fault Refusal :=
  take (decide (v < 0x100000000)) (fabMinClr v) s

/-- IBEX_APPROVE_WRITE (R254). -/
def execIbexApproveWrite (v : Nat) (s : State) : Host.Outcome State Fault Refusal :=
  take (decide (v < 0x100000000)) (ibexApproveWrite v) s

end Sys2Proof.Machine
end

