-- ==== Sys2Proof/Machine/ExecMeasure.lean ====
section
/-! DEFINITION. Meanings of the commands: latency monitors and measurement channels. -/
namespace Sys2Proof.Machine

/-- MEAS_RESULT_WRITE (R221). -/
def execMeasResultWrite (c : Nat) (s : State) : Host.Outcome State Fault Refusal :=
  take (decide (c < 32)) (measResultWrite c) s

/-- LATENCY_REFRESH (R48). -/
def execLatencyRefresh (m : Nat) (x : LatStamps) (s : State) : Host.Outcome State Fault Refusal :=
  take (decide (m < 4)) (latencyRefresh m x.inp x.out x.q) s

/-- MEAS_COMMIT (R208). -/
def execMeasCommit (v : Nat) (s : State) : Host.Outcome State Fault Refusal :=
  take (decide (v < 0x100000000)) (measCommit v) s

/-- MEAS_STR_CTRL_WRITE (R222). -/
def execMeasStrCtrlWrite (c v : Nat) (s : State) : Host.Outcome State Fault Refusal :=
  take (decide (c < 32) && decide (v < 0x100000000)) (measStrCtrlWrite c v) s

end Sys2Proof.Machine
end

