-- ==== Sys2Proof/Machine/ExecNet.lean ====
section
/-! DEFINITION. Meanings of the commands: network ports and streams. -/
namespace Sys2Proof.Machine

/-- NET_RX_FRAME (R406). -/
def execNetRxFrame (port : Nat) (f : RxFrame) (s : State) : Host.Outcome State Fault Refusal :=
  take (decide (port < 2)) (netRxFrame port f) s

/-- NET_RX_OVERFLOW (R407). -/
def execNetRxOverflow (port : Nat) (s : State) : Host.Outcome State Fault Refusal :=
  take (decide (port < 2)) (netRxOverflow port) s

/-- PAUSE_END (R417). -/
def execPauseEnd (port : Nat) (s : State) : Host.Outcome State Fault Refusal :=
  take (decide (port < 2)) (pauseEnd port) s

/-- PAUSE_WATCHDOG (R418). -/
def execPauseWatchdog (port : Nat) (s : State) : Host.Outcome State Fault Refusal :=
  take (decide (port < 2)) (pauseWatchdog port) s

/-- PAUSE_IGNORE_END (R418). -/
def execPauseIgnoreEnd (port : Nat) (s : State) : Host.Outcome State Fault Refusal :=
  take (decide (port < 2)) (pauseIgnoreEnd port) s

/-- NET_TX_FRAME_START (R413). -/
def execNetTxFrameStart (port : Nat) (s : State) : Host.Outcome State Fault Refusal :=
  take (decide (port < 2)) (netTxFrameStart port) s

/-- NET_TX_FRAME_DONE (R412). -/
def execNetTxFrameDone (port t : Nat) (underrun : Bool) (s : State) : Host.Outcome State Fault Refusal :=
  take (decide (port < 2)) (netTxFrameDone port t underrun) s

/-- LAUNCH_TIME_REACHED (R445). -/
def execLaunchTimeReached (port ring : Nat) (s : State) : Host.Outcome State Fault Refusal :=
  take (decide (port < 2) && decide (ring < 4)) (launchTimeReached port ring) s

/-- MEDIA_PACKET_LAUNCH (R428). -/
def execMediaPacketLaunch (stream : Nat) (s : State) : Host.Outcome State Fault Refusal :=
  take (decide (stream < 256)) (mediaPacketLaunch stream) s

/-- MEDIA_LATE_DROP (R419). -/
def execMediaLateDrop (port : Nat) (s : State) : Host.Outcome State Fault Refusal :=
  take (decide (port < 2)) (mediaLateDrop port) s

/-- NET_LINK_UP (R403). -/
def execNetLinkUp (port speed : Nat) (half : Bool) (s : State) : Host.Outcome State Fault Refusal :=
  take (decide (port < 2) && decide (speed < 5)) (netLinkUp port speed half) s

/-- NET_LINK_DOWN (R416). -/
def execNetLinkDown (port : Nat) (cut : Bool) (s : State) : Host.Outcome State Fault Refusal :=
  take (decide (port < 2)) (netLinkDown port cut) s

/-- LPI_ENTER (R420). -/
def execLpiEnter (port : Nat) (s : State) : Host.Outcome State Fault Refusal :=
  take (decide (port < 2)) (lpiEnter port) s

/-- LPI_WAKE (R420). -/
def execLpiWake (port : Nat) (s : State) : Host.Outcome State Fault Refusal := take (decide (port < 2)) (lpiWake port) s

/-- DOWNSHIFT (R421). -/
def execDownshift (port : Nat) (s : State) : Host.Outcome State Fault Refusal :=
  take (decide (port < 2)) (downshift port) s

/-- NET_RX_TAIL_WRITE (R409). -/
def execNetRxTailWrite (port ring v : Nat) (s : State) : Host.Outcome State Fault Refusal :=
  take (decide (port < 2) && decide (ring < 8) && decide (v < 0x100000000)) (netRxTailWrite port ring v) s

/-- NET_POOL_TAIL_WRITE (R409). -/
def execNetPoolTailWrite (port ring v : Nat) (s : State) : Host.Outcome State Fault Refusal :=
  take (decide (port < 2) && decide (ring < 8) && decide (v < 0x100000000)) (netPoolTailWrite port ring v) s

/-- NET_TX_TAIL_WRITE (R412). -/
def execNetTxTailWrite (port ring v : Nat) (s : State) : Host.Outcome State Fault Refusal :=
  take (decide (port < 2) && decide (ring < 4) && decide (v < 0x100000000)) (netTxTailWrite port ring v) s

/-- NET_RING_CTRL_WRITE (R431). -/
def execNetRingCtrlWrite (port : Nat) (tx : Bool) (ring v : Nat) (s : State) : Host.Outcome State Fault Refusal :=
  take (decide (port < 2) && decide (ring < (if tx then 4 else 8)) && decide (v < 0x100000000)) (netRingCtrlWrite port tx ring v) s

/-- NET_CNT_CLR (R431). -/
def execNetCntClr (port v : Nat) (s : State) : Host.Outcome State Fault Refusal :=
  take (decide (port < 2) && decide (v < 0x100000000)) (netCntClr port v) s

/-- MERGE_WINDOW_EXPIRE (R449). -/
def execMergeWindowExpire (stream seq : Nat) (s : State) : Host.Outcome State Fault Refusal :=
  take (decide (stream < 256) && decide (seq < 65536)) (mergeWindowExpire stream seq) s

/-- STREAM_LOST (R427). -/
def execStreamLost (stream : Nat) (s : State) : Host.Outcome State Fault Refusal :=
  take (decide (stream < 256)) (streamLost stream) s

/-- STRM_REGION_WRITE (R422). -/
def execStrmRegionWrite (v : Nat) (s : State) : Host.Outcome State Fault Refusal :=
  take (decide (v < 0x100000000)) (strmRegionWrite v) s

/-- STRM_CNT_CLR (R432). -/
def execStrmCntClr (v : Nat) (s : State) : Host.Outcome State Fault Refusal :=
  take (decide (v < 0x100000000)) (strmCntClr v) s

/-- DISCOVERY_ANNOUNCEMENT (R429). -/
def execDiscoveryAnnouncement (a : Announcement) (s : State) : Host.Outcome State Fault Refusal :=
  take true (discoveryAnnouncement a) s

/-- DISCOVERY_EXPIRE (R352). -/
def execDiscoveryExpire (sid : Nat) (s : State) : Host.Outcome State Fault Refusal := take true (discoveryExpire sid) s

/-- STREAM_ANNOUNCE (R429). -/
def execStreamAnnounce (stream : Nat) (s : State) : Host.Outcome State Fault Refusal :=
  take (decide (stream < 256)) (streamAnnounce stream) s

/-- FIRMWARE_PROTOCOL_REPLY (R406). -/
def execFirmwareProtocolReply (port : Nat) (s : State) : Host.Outcome State Fault Refusal :=
  take (decide (port < 2)) (firmwareProtocolReply port) s

/-- DOWNSHIFT_RENEGOTIATION_TIMEOUT (R421). -/
def execDownshiftRenegotiationTimeout (p : Nat) (s : State) : Host.Outcome State Fault Refusal :=
  take (decide (p < 2)) (downshiftRenegotiationTimeout p) s

end Sys2Proof.Machine
end

