-- ==== Sys2Proof/Machine/ExecOpFeed.lean ====
section
/-! DEFINITION. Meanings of the commands: feed, correction and route opcodes. -/
namespace Sys2Proof.Machine

/-- FEED_EQ_SET (R324). -/
def execFeedEqSet (o : Origin) (p : List Byte) (obs : List Nat) (s : State) : Host.Outcome State Fault Refusal :=
  issue 0x0601 opFeedEqSet o p obs s

/-- FEED_TRIM_SET (R324). -/
def execFeedTrimSet (o : Origin) (p : List Byte) (obs : List Nat) (s : State) : Host.Outcome State Fault Refusal :=
  issue 0x0602 opFeedTrimSet o p obs s

/-- FEED_OUT_SET (R324). -/
def execFeedOutSet (o : Origin) (p : List Byte) (obs : List Nat) (s : State) : Host.Outcome State Fault Refusal :=
  issue 0x0603 opFeedOutSet o p obs s

/-- FEED_GAIN_SET (R324). -/
def execFeedGainSet (o : Origin) (p : List Byte) (obs : List Nat) (s : State) : Host.Outcome State Fault Refusal :=
  issue 0x0604 opFeedGainSet o p obs s

/-- FEED_LIMIT_SET (R324). -/
def execFeedLimitSet (o : Origin) (p : List Byte) (obs : List Nat) (s : State) : Host.Outcome State Fault Refusal :=
  issue 0x0605 opFeedLimitSet o p obs s

/-- FEED_RATING_SET (R324). -/
def execFeedRatingSet (o : Origin) (p : List Byte) (obs : List Nat) (s : State) : Host.Outcome State Fault Refusal :=
  issue 0x0606 opFeedRatingSet o p obs s

/-- FEED_GET (R325). -/
def execFeedGet (o : Origin) (p : List Byte) (obs : List Nat) (s : State) : Host.Outcome State Fault Refusal :=
  issue 0x0607 opFeedGet o p obs s

/-- FEED_STATUS (R326). -/
def execFeedStatus (o : Origin) (p : List Byte) (obs : List Nat) (s : State) : Host.Outcome State Fault Refusal :=
  issue 0x0608 opFeedStatus o p obs s

/-- CORR_LOAD (R327). -/
def execCorrLoad (o : Origin) (p : List Byte) (obs : List Nat) (s : State) : Host.Outcome State Fault Refusal :=
  issue 0x0701 opCorrLoad o p obs s

/-- CORR_LOAD_MULTI (R328). -/
def execCorrLoadMulti (o : Origin) (p : List Byte) (obs : List Nat) (s : State) : Host.Outcome State Fault Refusal :=
  issue 0x0702 opCorrLoadMulti o p obs s

/-- CORR_SWAP (R329). -/
def execCorrSwap (o : Origin) (p : List Byte) (obs : List Nat) (s : State) : Host.Outcome State Fault Refusal :=
  issue 0x0703 opCorrSwap o p obs s

/-- CORR_XFCFG (R330). -/
def execCorrXfcfg (o : Origin) (p : List Byte) (obs : List Nat) (s : State) : Host.Outcome State Fault Refusal :=
  issue 0x0704 opCorrXfcfg o p obs s

/-- CORR_STATUS (R331). -/
def execCorrStatus (o : Origin) (p : List Byte) (obs : List Nat) (s : State) : Host.Outcome State Fault Refusal :=
  issue 0x0705 opCorrStatus o p obs s

/-- CORR_REGION (R333). -/
def execCorrRegion (o : Origin) (p : List Byte) (obs : List Nat) (s : State) : Host.Outcome State Fault Refusal :=
  issue 0x0706 opCorrRegion o p obs s

/-- CORR_RESET_SLOT (R332). -/
def execCorrResetSlot (o : Origin) (p : List Byte) (obs : List Nat) (s : State) : Host.Outcome State Fault Refusal :=
  issue 0x0707 opCorrResetSlot o p obs s

/-- ROUTE_IN_SET (R334). -/
def execRouteInSet (o : Origin) (p : List Byte) (obs : List Nat) (s : State) : Host.Outcome State Fault Refusal :=
  issue 0x0801 opRouteInSet o p obs s

/-- ROUTE_OUT_SET (R334). -/
def execRouteOutSet (o : Origin) (p : List Byte) (obs : List Nat) (s : State) : Host.Outcome State Fault Refusal :=
  issue 0x0802 opRouteOutSet o p obs s

/-- ROUTE_MATRIX_SET (R335). -/
def execRouteMatrixSet (o : Origin) (p : List Byte) (obs : List Nat) (s : State) : Host.Outcome State Fault Refusal :=
  issue 0x0803 opRouteMatrixSet o p obs s

/-- ROUTE_GEN_SET (R336). -/
def execRouteGenSet (o : Origin) (p : List Byte) (obs : List Nat) (s : State) : Host.Outcome State Fault Refusal :=
  issue 0x0804 opRouteGenSet o p obs s

/-- ROUTE_RING_SET (R337). -/
def execRouteRingSet (o : Origin) (p : List Byte) (obs : List Nat) (s : State) : Host.Outcome State Fault Refusal :=
  issue 0x0805 opRouteRingSet o p obs s

/-- ROUTE_STATUS (R338). -/
def execRouteStatus (o : Origin) (p : List Byte) (obs : List Nat) (s : State) : Host.Outcome State Fault Refusal :=
  issue 0x0806 opRouteStatus o p obs s

end Sys2Proof.Machine
end

