-- ==== Sys2Proof/Machine/ExecOpHealth.lean ====
section
/-! DEFINITION. Meanings of the commands: measurement, health, memory, DMA, placement and diagnostic opcodes. -/
namespace Sys2Proof.Machine

/-- MEAS_CFG (R357). -/
def execMeasCfg (o : Origin) (p : List Byte) (obs : List Nat) (s : State) : Host.Outcome State Fault Refusal :=
  issue 0x0C01 opMeasCfg o p obs s

/-- MEAS_STREAM (R357). -/
def execMeasStream (o : Origin) (p : List Byte) (obs : List Nat) (s : State) : Host.Outcome State Fault Refusal :=
  issue 0x0C02 opMeasStream o p obs s

/-- MEAS_STATUS (R356). -/
def execMeasStatus (o : Origin) (p : List Byte) (obs : List Nat) (s : State) : Host.Outcome State Fault Refusal :=
  issue 0x0C03 opMeasStatus o p obs s

/-- MEAS_RESTART (R357). -/
def execMeasRestart (o : Origin) (p : List Byte) (obs : List Nat) (s : State) : Host.Outcome State Fault Refusal :=
  issue 0x0C04 opMeasRestart o p obs s

/-- HLTH_STATUS (R358). -/
def execHlthStatus (o : Origin) (p : List Byte) (obs : List Nat) (s : State) : Host.Outcome State Fault Refusal :=
  issue 0x0D01 opHlthStatus o p obs s

/-- HLTH_LOG_READ (R359). -/
def execHlthLogRead (o : Origin) (p : List Byte) (obs : List Nat) (s : State) : Host.Outcome State Fault Refusal :=
  issue 0x0D02 opHlthLogRead o p obs s

/-- HLTH_IBEX_CFG (R359). -/
def execHlthIbexCfg (o : Origin) (p : List Byte) (obs : List Nat) (s : State) : Host.Outcome State Fault Refusal :=
  issue 0x0D03 opHlthIbexCfg o p obs s

/-- HLTH_APPROVE (R359). -/
def execHlthApprove (o : Origin) (p : List Byte) (obs : List Nat) (s : State) : Host.Outcome State Fault Refusal :=
  issue 0x0D04 opHlthApprove o p obs s

/-- HLTH_FAWN (R358). -/
def execHlthFawn (o : Origin) (p : List Byte) (obs : List Nat) (s : State) : Host.Outcome State Fault Refusal :=
  issue 0x0D05 opHlthFawn o p obs s

/-- HLTH_SLACK (R359). -/
def execHlthSlack (o : Origin) (p : List Byte) (obs : List Nat) (s : State) : Host.Outcome State Fault Refusal :=
  issue 0x0D06 opHlthSlack o p obs s

/-- MEM_READ (R361). -/
def execMemRead (o : Origin) (p : List Byte) (obs : List Nat) (s : State) : Host.Outcome State Fault Refusal :=
  issue 0x0E01 opMemRead o p obs s

/-- MEM_WRITE (R361). -/
def execMemWrite (o : Origin) (p : List Byte) (obs : List Nat) (s : State) : Host.Outcome State Fault Refusal :=
  issue 0x0E02 opMemWrite o p obs s

/-- MEM_COPY (R361). -/
def execMemCopy (o : Origin) (p : List Byte) (obs : List Nat) (s : State) : Host.Outcome State Fault Refusal :=
  issue 0x0E03 opMemCopy o p obs s

/-- MEM_DRAM_INFO (R360). -/
def execMemDramInfo (o : Origin) (p : List Byte) (obs : List Nat) (s : State) : Host.Outcome State Fault Refusal :=
  issue 0x0E04 opMemDramInfo o p obs s

/-- MEM_DRAM_FREQ (R362). -/
def execMemDramFreq (o : Origin) (p : List Byte) (obs : List Nat) (s : State) : Host.Outcome State Fault Refusal :=
  issue 0x0E05 opMemDramFreq o p obs s

/-- DMA_START (R362). -/
def execDmaStart (o : Origin) (p : List Byte) (obs : List Nat) (s : State) : Host.Outcome State Fault Refusal :=
  issue 0x0E11 opDmaStart o p obs s

/-- DMA_STOP (R362). -/
def execDmaStop (o : Origin) (p : List Byte) (obs : List Nat) (s : State) : Host.Outcome State Fault Refusal :=
  issue 0x0E12 opDmaStop o p obs s

/-- DMA_STATUS (R360). -/
def execDmaStatus (o : Origin) (p : List Byte) (obs : List Nat) (s : State) : Host.Outcome State Fault Refusal :=
  issue 0x0E13 opDmaStatus o p obs s

/-- PLACE_SET (R290). -/
def execPlaceSet (o : Origin) (p : List Byte) (obs : List Nat) (s : State) : Host.Outcome State Fault Refusal :=
  issue 0x0F01 opPlaceSet o p obs s

/-- PLACE_GET (R363). -/
def execPlaceGet (o : Origin) (p : List Byte) (obs : List Nat) (s : State) : Host.Outcome State Fault Refusal :=
  issue 0x0F02 opPlaceGet o p obs s

/-- DIAG_REG_READ (R366). -/
def execDiagRegRead (o : Origin) (p : List Byte) (obs : List Nat) (s : State) : Host.Outcome State Fault Refusal :=
  issue 0x1F01 opDiagRegRead o p obs s

/-- DIAG_REG_WRITE (R366). -/
def execDiagRegWrite (o : Origin) (p : List Byte) (obs : List Nat) (s : State) : Host.Outcome State Fault Refusal :=
  issue 0x1F02 opDiagRegWrite o p obs s

/-- DIAG_SWARD_READ (R366). -/
def execDiagSwardRead (o : Origin) (p : List Byte) (obs : List Nat) (s : State) : Host.Outcome State Fault Refusal :=
  issue 0x1F03 opDiagSwardRead o p obs s

/-- DIAG_SELFTEST (R366). -/
def execDiagSelftest (o : Origin) (p : List Byte) (obs : List Nat) (s : State) : Host.Outcome State Fault Refusal :=
  issue 0x1F04 opDiagSelftest o p obs s

/-- DIAG_LOOPBACK (R366). -/
def execDiagLoopback (o : Origin) (p : List Byte) (obs : List Nat) (s : State) : Host.Outcome State Fault Refusal :=
  issue 0x1F05 opDiagLoopback o p obs s

/-- DIAG_ERR_INJECT (R366). -/
def execDiagErrInject (o : Origin) (p : List Byte) (obs : List Nat) (s : State) : Host.Outcome State Fault Refusal :=
  issue 0x1F06 opDiagErrInject o p obs s

end Sys2Proof.Machine
end

