-- ==== Sys2Proof/Machine/ExecOpPort.lean ====
section
/-! DEFINITION. Meanings of the commands: serial-port, network and time opcodes. -/
namespace Sys2Proof.Machine

/-- ASP_CONFIG (R350). -/
def execAspConfig (o : Origin) (p : List Byte) (obs : List Nat) (s : State) : Host.Outcome State Fault Refusal :=
  issue 0x0901 opAspConfig o p obs s

/-- ASP_SLOTMASK (R350). -/
def execAspSlotmask (o : Origin) (p : List Byte) (obs : List Nat) (s : State) : Host.Outcome State Fault Refusal :=
  issue 0x0902 opAspSlotmask o p obs s

/-- ASP_ENABLE (R350). -/
def execAspEnable (o : Origin) (p : List Byte) (obs : List Nat) (s : State) : Host.Outcome State Fault Refusal :=
  issue 0x0903 opAspEnable o p obs s

/-- ASP_MCLK (R350). -/
def execAspMclk (o : Origin) (p : List Byte) (obs : List Nat) (s : State) : Host.Outcome State Fault Refusal :=
  issue 0x0904 opAspMclk o p obs s

/-- ASP_STATUS (R349). -/
def execAspStatus (o : Origin) (p : List Byte) (obs : List Nat) (s : State) : Host.Outcome State Fault Refusal :=
  issue 0x0905 opAspStatus o p obs s

/-- NET_PORT_CFG (R353). -/
def execNetPortCfg (o : Origin) (p : List Byte) (obs : List Nat) (s : State) : Host.Outcome State Fault Refusal :=
  issue 0x0A01 opNetPortCfg o p obs s

/-- NET_IP_CFG (R351). -/
def execNetIpCfg (o : Origin) (p : List Byte) (obs : List Nat) (s : State) : Host.Outcome State Fault Refusal :=
  issue 0x0A02 opNetIpCfg o p obs s

/-- NET_RING_CFG (R353). -/
def execNetRingCfg (o : Origin) (p : List Byte) (obs : List Nat) (s : State) : Host.Outcome State Fault Refusal :=
  issue 0x0A03 opNetRingCfg o p obs s

/-- NET_STREAM_IN (R352). -/
def execNetStreamIn (o : Origin) (p : List Byte) (obs : List Nat) (s : State) : Host.Outcome State Fault Refusal :=
  issue 0x0A04 opNetStreamIn o p obs s

/-- NET_STREAM_OUT (R352). -/
def execNetStreamOut (o : Origin) (p : List Byte) (obs : List Nat) (s : State) : Host.Outcome State Fault Refusal :=
  issue 0x0A05 opNetStreamOut o p obs s

/-- NET_STREAM_STOP (R352). -/
def execNetStreamStop (o : Origin) (p : List Byte) (obs : List Nat) (s : State) : Host.Outcome State Fault Refusal :=
  issue 0x0A06 opNetStreamStop o p obs s

/-- NET_DISCOVERED (R352). -/
def execNetDiscovered (o : Origin) (p : List Byte) (obs : List Nat) (s : State) : Host.Outcome State Fault Refusal :=
  issue 0x0A07 opNetDiscovered o p obs s

/-- NET_SUBSCRIBE (R352). -/
def execNetSubscribe (o : Origin) (p : List Byte) (obs : List Nat) (s : State) : Host.Outcome State Fault Refusal :=
  issue 0x0A08 opNetSubscribe o p obs s

/-- NET_STATUS (R353). -/
def execNetStatus (o : Origin) (p : List Byte) (obs : List Nat) (s : State) : Host.Outcome State Fault Refusal :=
  issue 0x0A09 opNetStatus o p obs s

/-- NET_STREAM_STATUS (R351). -/
def execNetStreamStatus (o : Origin) (p : List Byte) (obs : List Nat) (s : State) : Host.Outcome State Fault Refusal :=
  issue 0x0A0A opNetStreamStatus o p obs s

/-- NET_REDUND_CFG (R352). -/
def execNetRedundCfg (o : Origin) (p : List Byte) (obs : List Nat) (s : State) : Host.Outcome State Fault Refusal :=
  issue 0x0A0B opNetRedundCfg o p obs s

/-- NET_MDIO (R353). -/
def execNetMdio (o : Origin) (p : List Byte) (obs : List Nat) (s : State) : Host.Outcome State Fault Refusal :=
  issue 0x0A0C opNetMdio o p obs s

/-- TIME_CFG (R355). -/
def execTimeCfg (o : Origin) (p : List Byte) (obs : List Nat) (s : State) : Host.Outcome State Fault Refusal :=
  issue 0x0B01 opTimeCfg o p obs s

/-- TIME_STATUS (R354). -/
def execTimeStatus (o : Origin) (p : List Byte) (obs : List Nat) (s : State) : Host.Outcome State Fault Refusal :=
  issue 0x0B02 opTimeStatus o p obs s

/-- TIME_ADJUST (R443). -/
def execTimeAdjust (o : Origin) (p : List Byte) (obs : List Nat) (s : State) : Host.Outcome State Fault Refusal :=
  issue 0x0B03 opTimeAdjust o p obs s

/-- TIME_SERVO_CFG (R355). -/
def execTimeServoCfg (o : Origin) (p : List Byte) (obs : List Nat) (s : State) : Host.Outcome State Fault Refusal :=
  issue 0x0B04 opTimeServoCfg o p obs s

/-- TIME_GRID_CFG (R355). -/
def execTimeGridCfg (o : Origin) (p : List Byte) (obs : List Nat) (s : State) : Host.Outcome State Fault Refusal :=
  issue 0x0B05 opTimeGridCfg o p obs s

/-- TIME_LAT_SET (R355). -/
def execTimeLatSet (o : Origin) (p : List Byte) (obs : List Nat) (s : State) : Host.Outcome State Fault Refusal :=
  issue 0x0B06 opTimeLatSet o p obs s

/-- TIME_LAT_READ (R355). -/
def execTimeLatRead (o : Origin) (p : List Byte) (obs : List Nat) (s : State) : Host.Outcome State Fault Refusal :=
  issue 0x0B07 opTimeLatRead o p obs s

/-- TIME_PPS_CFG (R355). -/
def execTimePpsCfg (o : Origin) (p : List Byte) (obs : List Nat) (s : State) : Host.Outcome State Fault Refusal :=
  issue 0x0B08 opTimePpsCfg o p obs s

/-- TIME_EVT_READ (R355). -/
def execTimeEvtRead (o : Origin) (p : List Byte) (obs : List Nat) (s : State) : Host.Outcome State Fault Refusal :=
  issue 0x0B09 opTimeEvtRead o p obs s

/-- TIME_FAILOVER (R454). -/
def execTimeFailover (o : Origin) (p : List Byte) (obs : List Nat) (s : State) : Host.Outcome State Fault Refusal :=
  issue 0x0B0A opTimeFailover o p obs s

end Sys2Proof.Machine
end

