-- ==== Sys2Proof/Machine/ExecOpScene.lean ====
section
/-! DEFINITION. Meanings of the commands: scene, object, geometry and path opcodes. -/
namespace Sys2Proof.Machine

/-- SCN_COMMIT (R301). -/
def execScnCommit (o : Origin) (p : List Byte) (obs : List Nat) (s : State) : Host.Outcome State Fault Refusal :=
  issue 0x0201 opScnCommit o p obs s

/-- SCN_LOAD (R302). -/
def execScnLoad (o : Origin) (p : List Byte) (obs : List Nat) (s : State) : Host.Outcome State Fault Refusal :=
  issue 0x0202 opScnLoad o p obs s

/-- SCN_DISCARD (R303). -/
def execScnDiscard (o : Origin) (p : List Byte) (obs : List Nat) (s : State) : Host.Outcome State Fault Refusal :=
  issue 0x0203 opScnDiscard o p obs s

/-- SCN_READ (R304). -/
def execScnRead (o : Origin) (p : List Byte) (obs : List Nat) (s : State) : Host.Outcome State Fault Refusal :=
  issue 0x0204 opScnRead o p obs s

/-- SCN_STORE_WRITE (R305). -/
def execScnStoreWrite (o : Origin) (p : List Byte) (obs : List Nat) (s : State) : Host.Outcome State Fault Refusal :=
  issue 0x0205 opScnStoreWrite o p obs s

/-- SCN_STORE_RECALL (R306). -/
def execScnStoreRecall (o : Origin) (p : List Byte) (obs : List Nat) (s : State) : Host.Outcome State Fault Refusal :=
  issue 0x0206 opScnStoreRecall o p obs s

/-- SCN_STORE_INFO (R306). -/
def execScnStoreInfo (o : Origin) (p : List Byte) (obs : List Nat) (s : State) : Host.Outcome State Fault Refusal :=
  issue 0x0207 opScnStoreInfo o p obs s

/-- SCN_STORE_ERASE (R306). -/
def execScnStoreErase (o : Origin) (p : List Byte) (obs : List Nat) (s : State) : Host.Outcome State Fault Refusal :=
  issue 0x0208 opScnStoreErase o p obs s

/-- SCN_STATUS (R307). -/
def execScnStatus (o : Origin) (p : List Byte) (obs : List Nat) (s : State) : Host.Outcome State Fault Refusal :=
  issue 0x0209 opScnStatus o p obs s

/-- OBJ_SET_PARAMS (R308). -/
def execObjSetParams (o : Origin) (p : List Byte) (obs : List Nat) (s : State) : Host.Outcome State Fault Refusal :=
  issue 0x0301 opObjSetParams o p obs s

/-- OBJ_SET_GAIN (R309). -/
def execObjSetGain (o : Origin) (p : List Byte) (obs : List Nat) (s : State) : Host.Outcome State Fault Refusal :=
  issue 0x0302 opObjSetGain o p obs s

/-- OBJ_GET_PARAMS (R310). -/
def execObjGetParams (o : Origin) (p : List Byte) (obs : List Nat) (s : State) : Host.Outcome State Fault Refusal :=
  issue 0x0303 opObjGetParams o p obs s

/-- OBJ_STATUS (R311). -/
def execObjStatus (o : Origin) (p : List Byte) (obs : List Nat) (s : State) : Host.Outcome State Fault Refusal :=
  issue 0x0304 opObjStatus o p obs s

/-- GEO_SPK_LOAD (R312). -/
def execGeoSpkLoad (o : Origin) (p : List Byte) (obs : List Nat) (s : State) : Host.Outcome State Fault Refusal :=
  issue 0x0401 opGeoSpkLoad o p obs s

/-- GEO_ATMOS_SET (R313). -/
def execGeoAtmosSet (o : Origin) (p : List Byte) (obs : List Nat) (s : State) : Host.Outcome State Fault Refusal :=
  issue 0x0402 opGeoAtmosSet o p obs s

/-- GEO_OBJ_SET (R314). -/
def execGeoObjSet (o : Origin) (p : List Byte) (obs : List Nat) (s : State) : Host.Outcome State Fault Refusal :=
  issue 0x0403 opGeoObjSet o p obs s

/-- GEO_KEY (R315). -/
def execGeoKey (o : Origin) (p : List Byte) (obs : List Nat) (s : State) : Host.Outcome State Fault Refusal :=
  issue 0x0404 opGeoKey o p obs s

/-- GEO_KEY_FLUSH (R316). -/
def execGeoKeyFlush (o : Origin) (p : List Byte) (obs : List Nat) (s : State) : Host.Outcome State Fault Refusal :=
  issue 0x0405 opGeoKeyFlush o p obs s

/-- GEO_GET_OBJ (R317). -/
def execGeoGetObj (o : Origin) (p : List Byte) (obs : List Nat) (s : State) : Host.Outcome State Fault Refusal :=
  issue 0x0406 opGeoGetObj o p obs s

/-- GEO_GET_PATHS (R318). -/
def execGeoGetPaths (o : Origin) (p : List Byte) (obs : List Nat) (s : State) : Host.Outcome State Fault Refusal :=
  issue 0x0407 opGeoGetPaths o p obs s

/-- GEO_BULK_REGION (R319). -/
def execGeoBulkRegion (o : Origin) (p : List Byte) (obs : List Nat) (s : State) : Host.Outcome State Fault Refusal :=
  issue 0x0408 opGeoBulkRegion o p obs s

/-- PATH_UPDATE (R320). -/
def execPathUpdate (o : Origin) (p : List Byte) (obs : List Nat) (s : State) : Host.Outcome State Fault Refusal :=
  issue 0x0501 opPathUpdate o p obs s

/-- PATH_UPDATE_BUF (R321). -/
def execPathUpdateBuf (o : Origin) (p : List Byte) (obs : List Nat) (s : State) : Host.Outcome State Fault Refusal :=
  issue 0x0502 opPathUpdateBuf o p obs s

/-- PATH_MODE (R322). -/
def execPathMode (o : Origin) (p : List Byte) (obs : List Nat) (s : State) : Host.Outcome State Fault Refusal :=
  issue 0x0503 opPathMode o p obs s

/-- PATH_STATUS (R323). -/
def execPathStatus (o : Origin) (p : List Byte) (obs : List Nat) (s : State) : Host.Outcome State Fault Refusal :=
  issue 0x0504 opPathStatus o p obs s

end Sys2Proof.Machine
end

