-- ==== Sys2Proof/Machine/ExecOpSystem.lean ====
section
/-! DEFINITION. Meanings of the commands: system opcodes. -/
namespace Sys2Proof.Machine

/-- SYS_SESSION_OPEN (R271). -/
def execSysSessionOpen (o : Origin) (p : List Byte) (obs : List Nat) (s : State) : Host.Outcome State Fault Refusal :=
  issue 0x0101 opSysSessionOpen o p obs s

/-- SYS_SESSION_CLOSE (R272). -/
def execSysSessionClose (o : Origin) (p : List Byte) (obs : List Nat) (s : State) : Host.Outcome State Fault Refusal :=
  issue 0x0102 opSysSessionClose o p obs s

/-- SYS_FLOW_OPEN (R274). -/
def execSysFlowOpen (o : Origin) (p : List Byte) (obs : List Nat) (s : State) : Host.Outcome State Fault Refusal :=
  issue 0x0103 opSysFlowOpen o p obs s

/-- SYS_FLOW_CLOSE (R274). -/
def execSysFlowClose (o : Origin) (p : List Byte) (obs : List Nat) (s : State) : Host.Outcome State Fault Refusal :=
  issue 0x0104 opSysFlowClose o p obs s

/-- SYS_PING (R342). -/
def execSysPing (o : Origin) (p : List Byte) (obs : List Nat) (s : State) : Host.Outcome State Fault Refusal :=
  issue 0x0105 opSysPing o p obs s

/-- SYS_INFO (R341). -/
def execSysInfo (o : Origin) (p : List Byte) (obs : List Nat) (s : State) : Host.Outcome State Fault Refusal :=
  issue 0x0106 opSysInfo o p obs s

/-- SYS_POWER (R344). -/
def execSysPower (o : Origin) (p : List Byte) (obs : List Nat) (s : State) : Host.Outcome State Fault Refusal :=
  issue 0x0107 opSysPower o p obs s

/-- SYS_RESET (R345). -/
def execSysReset (o : Origin) (p : List Byte) (obs : List Nat) (s : State) : Host.Outcome State Fault Refusal :=
  issue 0x0108 opSysReset o p obs s

/-- SYS_RESET_HOLD (R346). -/
def execSysResetHold (o : Origin) (p : List Byte) (obs : List Nat) (s : State) : Host.Outcome State Fault Refusal :=
  issue 0x0109 opSysResetHold o p obs s

/-- SYS_ERR_READ (R347). -/
def execSysErrRead (o : Origin) (p : List Byte) (obs : List Nat) (s : State) : Host.Outcome State Fault Refusal :=
  issue 0x010A opSysErrRead o p obs s

/-- SYS_ERR_ACK (R347). -/
def execSysErrAck (o : Origin) (p : List Byte) (obs : List Nat) (s : State) : Host.Outcome State Fault Refusal :=
  issue 0x010B opSysErrAck o p obs s

/-- SYS_RTC (R348). -/
def execSysRtc (o : Origin) (p : List Byte) (obs : List Nat) (s : State) : Host.Outcome State Fault Refusal :=
  issue 0x010C opSysRtc o p obs s

/-- SYS_OPTION_READ (R348). -/
def execSysOptionRead (o : Origin) (p : List Byte) (obs : List Nat) (s : State) : Host.Outcome State Fault Refusal :=
  issue 0x010D opSysOptionRead o p obs s

/-- SYS_FW_UPDATE (R348). -/
def execSysFwUpdate (o : Origin) (p : List Byte) (obs : List Nat) (s : State) : Host.Outcome State Fault Refusal :=
  issue 0x010E opSysFwUpdate o p obs s

end Sys2Proof.Machine
end

