-- ==== Sys2Proof/Machine/ExecPower.lean ====
section
/-! DEFINITION. Meanings of the commands: reset, boot, power, JTAG and the PCIe link. -/
namespace Sys2Proof.Machine

/-- ESCALATION_RESET (R542). -/
def execEscalationReset (wclk : Nat) (s : State) : Host.Outcome State Fault Refusal :=
  take true (escalationReset wclk) s

/-- POWER_ON (R510). -/
def execPowerOn (wclk : Nat) (watchNew : Bool) (s : State) : Host.Outcome State Fault Refusal :=
  takeAlways true (powerOn wclk watchNew) s

/-- RESET_N_ASSERT (R510). -/
def execResetNAssert (wclk ns : Nat) (taken held : Bool) (s : State) : Host.Outcome State Fault Refusal :=
  takeAlways true (resetNAssert wclk ns taken held) s

/-- PERST_N_ASSERT (R510). -/
def execPerstNAssert (wclk : Nat) (s : State) : Host.Outcome State Fault Refusal := take true (perstNAssert wclk) s

/-- PCIE_HOT_RESET (R510). -/
def execPcieHotReset (wclk : Nat) (s : State) : Host.Outcome State Fault Refusal := take true (pcieHotReset wclk) s

/-- THERMAL_TRIP (R510). -/
def execThermalTrip (wclk : Nat) (s : State) : Host.Outcome State Fault Refusal := take true (thermalTrip wclk) s

/-- BROWN_OUT (R533). -/
def execBrownOut (wclk : Nat) (watch : Bool) (s : State) : Host.Outcome State Fault Refusal :=
  takeAlways true (brownOut wclk watch) s

/-- ORDERED_RESET_START (R511). -/
def execOrderedResetStart (wclk : Nat) (s : State) : Host.Outcome State Fault Refusal :=
  take true (orderedResetStart wclk) s

/-- OPTION_LOAD (R519). -/
def execOptionLoad (tj vio33 : Nat) (s : State) : Host.Outcome State Fault Refusal := take true (optionLoad tj vio33) s

/-- DRAM_TRAINING (R494). -/
def execDramTraining (good : List Nat) (ok1 : Bool) (cause : Nat) (s : State) : Host.Outcome State Fault Refusal :=
  take true (dramTraining good ok1 cause) s

/-- FIRMWARE_BOOT (R521). -/
def execFirmwareBoot (ok0 ok1 : Bool) (s : State) : Host.Outcome State Fault Refusal :=
  take true (firmwareBoot ok0 ok1) s

/-- FW_PUSH_GO (R521). -/
def execFwPushGo (v : Nat) (valid : Bool) (s : State) : Host.Outcome State Fault Refusal :=
  take (decide (v < 0x100000000)) (fwPushGo v valid) s

/-- WAKE_N_WAKE (R530). -/
def execWakeNWake (early : Bool) (s : State) : Host.Outcome State Fault Refusal := takeAlways true (wakeNWake early) s

/-- RTC_ALARM (R530). -/
def execRtcAlarm (early : Bool) (s : State) : Host.Outcome State Fault Refusal := takeAlways true (rtcAlarm early) s

/-- BLK_RST_WRITE (R524). -/
def execBlkRstWrite (v : Nat) (pcie : Bool) (s : State) : Host.Outcome State Fault Refusal :=
  take (decide (v < 0x100000000)) (blkRstWrite v pcie) s

/-- BLOCK_RESET_END (R525). -/
def execBlockResetEnd (block : Nat) (s : State) : Host.Outcome State Fault Refusal :=
  take (decide (block < 10)) (blockResetEnd block) s

/-- RESET_HOLD_END (R346). -/
def execResetHoldEnd (wclk : Nat) (s : State) : Host.Outcome State Fault Refusal := take true (resetHoldEnd wclk) s

/-- PCIE_LINK_UP (R553). -/
def execPcieLinkUp (gen width : Nat) (s : State) : Host.Outcome State Fault Refusal :=
  take true (pcieLinkUp gen width) s

/-- PCIE_LINK_DOWN (R554). -/
def execPcieLinkDown (s : State) : Host.Outcome State Fault Refusal := take true pcieLinkDown s

/-- PCIE_CONFIG_WRITE (R553). -/
def execPcieConfigWrite (d3 bme msix fmask : Bool) (s : State) : Host.Outcome State Fault Refusal :=
  take true (pcieConfigWrite d3 bme msix fmask) s

/-- HELD_WAKE_RELEASE (R534). -/
def execHeldWakeRelease (s : State) : Host.Outcome State Fault Refusal := takeAlways true heldWakeRelease s

/-- JTAG_UPDATE_IR (R569). -/
def execJtagUpdateIr (code : Nat) (s : State) : Host.Outcome State Fault Refusal :=
  takeAlways (decide (code < 256)) (jtagUpdateIr code) s

/-- MRAM_ACC_GO (R570). -/
def execMramAccGo (data : Word) (waddr : Nat) (wr go : Bool) (s : State) : Host.Outcome State Fault Refusal :=
  takeAlways (decide (waddr < 2 ^ 21)) (mramAccGo data waddr wr go) s

/-- MRAM_ACC_DONE (R570). -/
def execMramAccDone (s : State) : Host.Outcome State Fault Refusal := takeAlways true mramAccDone s

end Sys2Proof.Machine
end

