-- ==== Sys2Proof/Machine/ExecRender.lean ====
section
/-! DEFINITION. Meanings of the commands: render chain: fronts, paths, feeds, sinks and their commits. -/
namespace Sys2Proof.Machine

/-- TICK_TOKEN (R24). -/
def execTickToken (x : TokenObs) (s : State) : Host.Outcome State Fault Refusal := take true (tickToken x) s

/-- GRID_LOCK (R35). -/
def execGridLock (s : State) : Host.Outcome State Fault Refusal := take true gridLock s

/-- GRID_STEP_RESUME (R38). -/
def execGridStepResume (x : TokenObs) (s : State) : Host.Outcome State Fault Refusal := take true (gridStepResume x) s

/-- GRID_SLEW_LONG (R37). -/
def execGridSlewLong (s : State) : Host.Outcome State Fault Refusal := take true gridSlewLong s

/-- ROUTE_XFADE_END (R21). -/
def execRouteXfadeEnd (i : Nat) (s : State) : Host.Outcome State Fault Refusal :=
  take (decide (i < 3264)) (routeXfadeEnd i) s

/-- PLAY_PREFETCH (R56). -/
def execPlayPrefetch (p : Nat) (s : State) : Host.Outcome State Fault Refusal :=
  take (decide (p < 64)) (playPrefetch p) s

/-- BULK_WRITE_LOST (R118). -/
def execBulkWriteLost (o t : Nat) (s : State) : Host.Outcome State Fault Refusal :=
  take (decide (o < 512)) (bulkWriteLost o t) s

/-- HP_TIMEOUT (R146). -/
def execHpTimeout (o : Nat) (s : State) : Host.Outcome State Fault Refusal := take (decide (o < 512)) (hpTimeout o) s

/-- BANK_XFADE_END (R168). -/
def execBankXfadeEnd (f : Nat) (s : State) : Host.Outcome State Fault Refusal :=
  take (decide (f < 512)) (bankXfadeEnd f) s

/-- SPECTRUM_WRITE_LOST (R172). -/
def execSpectrumWriteLost (f b : Nat) (s : State) : Host.Outcome State Fault Refusal :=
  take (decide (f < 512)) (spectrumWriteLost f b) s

/-- TRIM_XFADE_END (R178). -/
def execTrimXfadeEnd (f : Nat) (s : State) : Host.Outcome State Fault Refusal :=
  take (decide (f < 512)) (trimXfadeEnd f) s

/-- ZERO_CROSSING (R184). -/
def execZeroCrossing (f : Nat) (mute : Bool) (s : State) : Host.Outcome State Fault Refusal :=
  take (decide (f < 512)) (zeroCrossing f mute) s

/-- ZC_TIMEOUT (R185). -/
def execZcTimeout (f : Nat) (mute : Bool) (s : State) : Host.Outcome State Fault Refusal :=
  take (decide (f < 512)) (zcTimeout f mute) s

/-- GAIN_RAMP_END (R186). -/
def execGainRampEnd (f : Nat) (mute : Bool) (s : State) : Host.Outcome State Fault Refusal :=
  take (decide (f < 512)) (gainRampEnd f mute) s

/-- LA_XFADE_END (R190). -/
def execLaXfadeEnd (f : Nat) (s : State) : Host.Outcome State Fault Refusal := take (decide (f < 512)) (laXfadeEnd f) s

/-- ASRC_SETTLING (R61). -/
def execAsrcSettling (i : Nat) (old : Bool) (s : State) : Host.Outcome State Fault Refusal :=
  take (decide (i < 640)) (asrcSettling i old) s

/-- ASRC_LOCKED (R61). -/
def execAsrcLocked (i : Nat) (old : Bool) (s : State) : Host.Outcome State Fault Refusal :=
  take (decide (i < 640)) (asrcLocked i old) s

/-- CONV_LOCKED (R196). -/
def execConvLocked (i : Nat) (s : State) : Host.Outcome State Fault Refusal := take (decide (i < 2624)) (convLocked i) s

/-- MUTE_N_LOW (R201). -/
def execMuteNLow (s : State) : Host.Outcome State Fault Refusal := take true muteNLow s

/-- MUTE_N_RELEASE (R203). -/
def execMuteNRelease (s : State) : Host.Outcome State Fault Refusal := take true muteNRelease s

/-- HWMUTE_CLR_WRITE (R203). -/
def execHwmuteClrWrite (v : Nat) (s : State) : Host.Outcome State Fault Refusal :=
  take (decide (v < 0x100000000)) (hwmuteClrWrite v) s

/-- HWMUTE_CFG_WRITE (R203). -/
def execHwmuteCfgWrite (v : Nat) (s : State) : Host.Outcome State Fault Refusal :=
  take (decide (v < 0x100000000)) (hwmuteCfgWrite v) s

/-- RENDER_COMMIT_INPUT (R57). -/
def execRenderCommitInput (v : Nat) (s : State) : Host.Outcome State Fault Refusal :=
  take (decide (v < 0x100000000)) (renderCommitInput v) s

/-- RENDER_COMMIT_GEN (R55). -/
def execRenderCommitGen (v : Nat) (s : State) : Host.Outcome State Fault Refusal :=
  take (decide (v < 0x100000000)) (renderCommitGen v) s

/-- INSEL_WRITE (R57). -/
def execInselWrite (i v : Nat) (s : State) : Host.Outcome State Fault Refusal :=
  take (decide (i < 640) && decide (v < 0x100000000)) (inselWrite i v) s

/-- PLAY_CTRL_WRITE (R56). -/
def execPlayCtrlWrite (p v : Nat) (s : State) : Host.Outcome State Fault Refusal :=
  take (decide (p < 64) && decide (v < 0x100000000)) (playCtrlWrite p v) s

/-- PLAY_WR_WRITE (R56). -/
def execPlayWrWrite (p v : Nat) (s : State) : Host.Outcome State Fault Refusal :=
  take (decide (p < 64) && decide (v < 0x100000000)) (playWrWrite p v) s

/-- CAP_CTRL_WRITE (R200). -/
def execCapCtrlWrite (c v : Nat) (s : State) : Host.Outcome State Fault Refusal :=
  take (decide (c < 64) && decide (v < 0x100000000)) (capCtrlWrite c v) s

/-- OUT_COMMIT (R197). -/
def execOutCommit (v : Nat) (s : State) : Host.Outcome State Fault Refusal :=
  take (decide (v < 0x100000000)) (outCommit v) s

/-- OUTSEL_WRITE (R197). -/
def execOutselWrite (i v : Nat) (s : State) : Host.Outcome State Fault Refusal :=
  take (decide (i < 2624) && decide (v < 0x100000000)) (outselWrite i v) s

/-- HP_COMMIT (R149). -/
def execHpCommit (v : Nat) (s : State) : Host.Outcome State Fault Refusal :=
  take (decide (v < 0x100000000)) (hpCommit v) s

/-- BULK_BASE_WRITE (R116). -/
def execBulkBaseWrite (v : Nat) (s : State) : Host.Outcome State Fault Refusal :=
  take (decide (v < 0x100000000)) (bulkBaseWrite v) s

/-- CORR_BASE_WRITE (R159). -/
def execCorrBaseWrite (v : Nat) (s : State) : Host.Outcome State Fault Refusal :=
  take (decide (v < 0x100000000)) (corrBaseWrite v) s

end Sys2Proof.Machine
end

