-- ==== Sys2Proof/Machine/ExecTime.lean ====
section
/-! DEFINITION. Meanings of the commands: time unit. -/
namespace Sys2Proof.Machine

/-- PTP_SYNC_RECEIVE (R440). -/
def execPtpSyncReceive (port seq gm : Nat) (twoStep : Bool) (t1 : Nat) (corr : Int) (t2 : Nat) (s : State) :
    Host.Outcome State Fault Refusal :=
  take (decide (port < 2) && decide (seq < 65536)) (ptpSyncReceive port seq gm twoStep t1 corr t2) s

/-- SERVO_SNAPSHOT (R453). -/
def execServoSnapshot (s : State) : Host.Outcome State Fault Refusal := take true servoSnapshot s

/-- STANDBY_SILENT (R452). -/
def execStandbySilent (s : State) : Host.Outcome State Fault Refusal := take true standbySilent s

/-- PTP_ANNOUNCE_RECEIVE (R438). -/
def execPtpAnnounceReceive (port : Nat) (d : GmData) (s : State) : Host.Outcome State Fault Refusal :=
  take (decide (port < 2)) (ptpAnnounceReceive port d) s

/-- PTP_DELAY_RESP_RECEIVE (R440). -/
def execPtpDelayRespReceive (port seq t4 t2p t3p : Nat) (s : State) : Host.Outcome State Fault Refusal :=
  take (decide (port < 2) && decide (seq < 65536)) (ptpDelayRespReceive port seq t4 t2p t3p) s

/-- PTP_PDELAY_REQ_RECEIVE (R438). -/
def execPtpPdelayReqReceive (port seq : Nat) (s : State) : Host.Outcome State Fault Refusal :=
  take (decide (port < 2) && decide (seq < 65536)) (ptpPdelayReqReceive port seq) s

/-- PTP_DELAY_REQ_SEND (R437). -/
def execPtpDelayReqSend (port seq t3 : Nat) (s : State) : Host.Outcome State Fault Refusal :=
  take (decide (port < 2) && decide (seq < 65536)) (ptpDelayReqSend port seq t3) s

/-- TIME_SOURCE_LOST (R439). -/
def execTimeSourceLost (port cause : Nat) (s : State) : Host.Outcome State Fault Refusal :=
  take (decide (port < 2)) (timeSourceLost port cause) s

/-- FAILOVER_TIMEOUT (R454). -/
def execFailoverTimeout (s : State) : Host.Outcome State Fault Refusal := take true failoverTimeout s

/-- PHASE_SLEW_END (R443). -/
def execPhaseSlewEnd (s : State) : Host.Outcome State Fault Refusal := take true phaseSlewEnd s

/-- CTRL_PORT_RETURN (R455). -/
def execCtrlPortReturn (s : State) : Host.Outcome State Fault Refusal := take true ctrlPortReturn s

/-- PPS_PULSE (R448). -/
def execPpsPulse (s : State) : Host.Outcome State Fault Refusal := take true ppsPulse s

/-- PTP_EVT_IN_EDGE (R448). -/
def execPtpEvtInEdge (rising : Bool) (t : Nat) (s : State) : Host.Outcome State Fault Refusal :=
  take true (ptpEvtInEdge rising t) s

/-- TIME_COMMIT (R437). -/
def execTimeCommit (v : Nat) (s : State) : Host.Outcome State Fault Refusal :=
  take (decide (v < 0x100000000)) (timeCommit v) s

/-- TIME_ADJ_GO (R443). -/
def execTimeAdjGo (v : Nat) (s : State) : Host.Outcome State Fault Refusal :=
  take (decide (v < 0x100000000)) (timeAdjGo v) s

/-- TIME_FAILOVER_GO (R454). -/
def execTimeFailoverGo (v : Nat) (s : State) : Host.Outcome State Fault Refusal :=
  take (decide (v < 0x100000000)) (timeFailoverGo v) s

/-- TXTS_POP (R446). -/
def execTxtsPop (port v : Nat) (s : State) : Host.Outcome State Fault Refusal :=
  take (decide (port < 2) && decide (v < 0x100000000)) (txtsPop port v) s

/-- EVTQ_POP (R448). -/
def execEvtqPop (v : Nat) (s : State) : Host.Outcome State Fault Refusal :=
  take (decide (v < 0x100000000)) (evtqPop v) s

/-- TIME_NOW_NS_READ (R436). -/
def execTimeNowNsRead (s : State) : Host.Outcome State Fault Refusal := take true timeNowNsRead s

/-- TIME_LAT_COMMIT (R50). -/
def execTimeLatCommit (v : Nat) (s : State) : Host.Outcome State Fault Refusal :=
  take (decide (v < 0x100000000)) (timeLatCommit v) s

/-- PTP_FOLLOW_UP_RECEIVE (R440). -/
def execPtpFollowUpReceive (port seq gm t1 : Nat) (corr : Int) (s : State) : Host.Outcome State Fault Refusal :=
  take (decide (port < 2) && decide (seq < 65536)) (ptpFollowUpReceive port seq gm t1 corr) s

end Sys2Proof.Machine
end

