-- ==== Sys2Proof/Machine/Dispatch.lean ====
section
/-! DEFINITION. One arm per command: its meaning. -/
namespace Sys2Proof.Machine

def exec (i : Instr) (s : State) : Host.Outcome State Fault Refusal :=
  match i with
  | .tickToken x => Sys2Proof.Machine.execTickToken x s
  | .gridLock => Sys2Proof.Machine.execGridLock s
  | .gridStepResume x => Sys2Proof.Machine.execGridStepResume x s
  | .gridSlewLong => Sys2Proof.Machine.execGridSlewLong s
  | .routeXfadeEnd ix => Sys2Proof.Machine.execRouteXfadeEnd ix s
  | .playPrefetch p => Sys2Proof.Machine.execPlayPrefetch p s
  | .bulkWriteLost o t => Sys2Proof.Machine.execBulkWriteLost o t s
  | .hpTimeout o => Sys2Proof.Machine.execHpTimeout o s
  | .bankXfadeEnd f => Sys2Proof.Machine.execBankXfadeEnd f s
  | .spectrumWriteLost f b => Sys2Proof.Machine.execSpectrumWriteLost f b s
  | .trimXfadeEnd f => Sys2Proof.Machine.execTrimXfadeEnd f s
  | .zeroCrossing f mute => Sys2Proof.Machine.execZeroCrossing f mute s
  | .zcTimeout f mute => Sys2Proof.Machine.execZcTimeout f mute s
  | .gainRampEnd f mute => Sys2Proof.Machine.execGainRampEnd f mute s
  | .laXfadeEnd f => Sys2Proof.Machine.execLaXfadeEnd f s
  | .measResultWrite c => Sys2Proof.Machine.execMeasResultWrite c s
  | .latencyRefresh m x => Sys2Proof.Machine.execLatencyRefresh m x s
  | .engineComplete e count => Sys2Proof.Machine.execEngineComplete e count s
  | .engineAbandon cls => Sys2Proof.Machine.execEngineAbandon cls s
  | .engineAbandonAck e => Sys2Proof.Machine.execEngineAbandonAck e s
  | .fabricHang e => Sys2Proof.Machine.execFabricHang e s
  | .fabricDone => Sys2Proof.Machine.execFabricDone s
  | .engineGroupGate k => Sys2Proof.Machine.execEngineGroupGate k s
  | .herdWindow avs => Sys2Proof.Machine.execHerdWindow avs s
  | .groupAwake k => Sys2Proof.Machine.execGroupAwake k s
  | .fawnRead rates => Sys2Proof.Machine.execFawnRead rates s
  | .tjRead tj => Sys2Proof.Machine.execTjRead tj s
  | .ibexEvaluate => Sys2Proof.Machine.execIbexEvaluate s
  | .avsWrite ok => Sys2Proof.Machine.execAvsWrite ok s
  | .ibexStuck => Sys2Proof.Machine.execIbexStuck s
  | .ageingLogWrite => Sys2Proof.Machine.execAgeingLogWrite s
  | .asrcSettling ix old => Sys2Proof.Machine.execAsrcSettling ix old s
  | .asrcLocked ix old => Sys2Proof.Machine.execAsrcLocked ix old s
  | .convLocked ix => Sys2Proof.Machine.execConvLocked ix s
  | .muteNLow => Sys2Proof.Machine.execMuteNLow s
  | .muteNRelease => Sys2Proof.Machine.execMuteNRelease s
  | .hwmuteClrWrite v => Sys2Proof.Machine.execHwmuteClrWrite v s
  | .hwmuteCfgWrite v => Sys2Proof.Machine.execHwmuteCfgWrite v s
  | .errorHandled => Sys2Proof.Machine.execErrorHandled s
  | .fatalHandlingTimeout => Sys2Proof.Machine.execFatalHandlingTimeout s
  | .escalationReset wclk => Sys2Proof.Machine.execEscalationReset wclk s
  | .errAckWrite upTo => Sys2Proof.Machine.execErrAckWrite upTo s
  | .powerOn wclk watchNew => Sys2Proof.Machine.execPowerOn wclk watchNew s
  | .resetNAssert wclk ns taken held => Sys2Proof.Machine.execResetNAssert wclk ns taken held s
  | .perstNAssert wclk => Sys2Proof.Machine.execPerstNAssert wclk s
  | .pcieHotReset wclk => Sys2Proof.Machine.execPcieHotReset wclk s
  | .thermalTrip wclk => Sys2Proof.Machine.execThermalTrip wclk s
  | .brownOut wclk watch => Sys2Proof.Machine.execBrownOut wclk watch s
  | .ioaspBrownOut bank bad => Sys2Proof.Machine.execIoaspBrownOut bank bad s
  | .watchdogExpire core => Sys2Proof.Machine.execWatchdogExpire core s
  | .orderedResetStart wclk => Sys2Proof.Machine.execOrderedResetStart wclk s
  | .stormRelease => Sys2Proof.Machine.execStormRelease s
  | .optionLoad tj vio33 => Sys2Proof.Machine.execOptionLoad tj vio33 s
  | .dramTraining good ok1 cause => Sys2Proof.Machine.execDramTraining good ok1 cause s
  | .fabricSelftest bad rates tj => Sys2Proof.Machine.execFabricSelftest bad rates tj s
  | .firmwareBoot ok0 ok1 => Sys2Proof.Machine.execFirmwareBoot ok0 ok1 s
  | .fwPushGo v valid => Sys2Proof.Machine.execFwPushGo v valid s
  | .wakeNWake early => Sys2Proof.Machine.execWakeNWake early s
  | .rtcAlarm early => Sys2Proof.Machine.execRtcAlarm early s
  | .xinLost => Sys2Proof.Machine.execXinLost s
  | .xinRestored => Sys2Proof.Machine.execXinRestored s
  | .blkRstWrite v pcie => Sys2Proof.Machine.execBlkRstWrite v pcie s
  | .blockResetEnd block => Sys2Proof.Machine.execBlockResetEnd block s
  | .pllCommit pll v => Sys2Proof.Machine.execPllCommit pll v s
  | .pllLock pll => Sys2Proof.Machine.execPllLock pll s
  | .pllLossOfLock pll pherr => Sys2Proof.Machine.execPllLossOfLock pll pherr s
  | .bandTimeout pll => Sys2Proof.Machine.execBandTimeout pll s
  | .bandRetry pll => Sys2Proof.Machine.execBandRetry pll s
  | .pllSysReturn => Sys2Proof.Machine.execPllSysReturn s
  | .dramHoldTimeout => Sys2Proof.Machine.execDramHoldTimeout s
  | .dramFreqSwitch => Sys2Proof.Machine.execDramFreqSwitch s
  | .dramFreqAbandon => Sys2Proof.Machine.execDramFreqAbandon s
  | .ddrcFreqGo v => Sys2Proof.Machine.execDdrcFreqGo v s
  | .dramAlert ok => Sys2Proof.Machine.execDramAlert ok s
  | .dramRefresh bank => Sys2Proof.Machine.execDramRefresh bank s
  | .dramZqCal => Sys2Proof.Machine.execDramZqCal s
  | .dramDqsTrack => Sys2Proof.Machine.execDramDqsTrack s
  | .dramTempRead hottest => Sys2Proof.Machine.execDramTempRead hottest s
  | .dramWriteDrain => Sys2Proof.Machine.execDramWriteDrain s
  | .dramReadComplete addr reader => Sys2Proof.Machine.execDramReadComplete addr reader s
  | .scrubRead => Sys2Proof.Machine.execScrubRead s
  | .ddrcEccClr v => Sys2Proof.Machine.execDdrcEccClr v s
  | .ddrcCntClr v => Sys2Proof.Machine.execDdrcCntClr v s
  | .busRequest tx => Sys2Proof.Machine.execBusRequest tx s
  | .busResponse m id t wr code => Sys2Proof.Machine.execBusResponse m id t wr code s
  | .busTimeout target => Sys2Proof.Machine.execBusTimeout target s
  | .lockBreak target => Sys2Proof.Machine.execLockBreak target s
  | .matrixErrClr v => Sys2Proof.Machine.execMatrixErrClr v s
  | .dmaGo chan v pcie => Sys2Proof.Machine.execDmaGo chan v pcie s
  | .dmaCtrlStop chan pcie => Sys2Proof.Machine.execDmaCtrlStop chan pcie s
  | .dmaBurstDone chan code => Sys2Proof.Machine.execDmaBurstDone chan code s
  | .dmaDescFetch chan code => Sys2Proof.Machine.execDmaDescFetch chan code s
  | .coreFault core => Sys2Proof.Machine.execCoreFault core s
  | .sliceExpire core cycles stop => Sys2Proof.Machine.execSliceExpire core cycles stop s
  | .threadReady thread level => Sys2Proof.Machine.execThreadReady thread level s
  | .pcieCqTailWrite q v => Sys2Proof.Machine.execPcieCqTailWrite q v s
  | .pcieDescriptorFetch q err => Sys2Proof.Machine.execPcieDescriptorFetch q err s
  | .pcieReplyWrite q => Sys2Proof.Machine.execPcieReplyWrite q s
  | .pcieRqHeadWrite q v => Sys2Proof.Machine.execPcieRqHeadWrite q v s
  | .qpCtrlWrite q v => Sys2Proof.Machine.execQpCtrlWrite q v s
  | .spiWrite pkt => Sys2Proof.Machine.execSpiWrite pkt s
  | .spiRead n => Sys2Proof.Machine.execSpiRead n s
  | .spiStatus => Sys2Proof.Machine.execSpiStatus s
  | .commandRelease id obs => Sys2Proof.Machine.execCommandRelease id obs s
  | .gapTimeout flow => Sys2Proof.Machine.execGapTimeout flow s
  | .sessionIdleTimeout sess => Sys2Proof.Machine.execSessionIdleTimeout sess s
  | .sysSessionOpen o p obs => Sys2Proof.Machine.execSysSessionOpen o p obs s
  | .sysSessionClose o p obs => Sys2Proof.Machine.execSysSessionClose o p obs s
  | .sysFlowOpen o p obs => Sys2Proof.Machine.execSysFlowOpen o p obs s
  | .sysFlowClose o p obs => Sys2Proof.Machine.execSysFlowClose o p obs s
  | .sysPing o p obs => Sys2Proof.Machine.execSysPing o p obs s
  | .sysInfo o p obs => Sys2Proof.Machine.execSysInfo o p obs s
  | .sysPower o p obs => Sys2Proof.Machine.execSysPower o p obs s
  | .sysReset o p obs => Sys2Proof.Machine.execSysReset o p obs s
  | .sysResetHold o p obs => Sys2Proof.Machine.execSysResetHold o p obs s
  | .resetHoldEnd wclk => Sys2Proof.Machine.execResetHoldEnd wclk s
  | .sysErrRead o p obs => Sys2Proof.Machine.execSysErrRead o p obs s
  | .sysErrAck o p obs => Sys2Proof.Machine.execSysErrAck o p obs s
  | .sysRtc o p obs => Sys2Proof.Machine.execSysRtc o p obs s
  | .sysOptionRead o p obs => Sys2Proof.Machine.execSysOptionRead o p obs s
  | .sysFwUpdate o p obs => Sys2Proof.Machine.execSysFwUpdate o p obs s
  | .scnCommit o p obs => Sys2Proof.Machine.execScnCommit o p obs s
  | .scnLoad o p obs => Sys2Proof.Machine.execScnLoad o p obs s
  | .scnDiscard o p obs => Sys2Proof.Machine.execScnDiscard o p obs s
  | .scnRead o p obs => Sys2Proof.Machine.execScnRead o p obs s
  | .scnStoreWrite o p obs => Sys2Proof.Machine.execScnStoreWrite o p obs s
  | .scnStoreRecall o p obs => Sys2Proof.Machine.execScnStoreRecall o p obs s
  | .scnStoreInfo o p obs => Sys2Proof.Machine.execScnStoreInfo o p obs s
  | .scnStoreErase o p obs => Sys2Proof.Machine.execScnStoreErase o p obs s
  | .scnStatus o p obs => Sys2Proof.Machine.execScnStatus o p obs s
  | .objSetParams o p obs => Sys2Proof.Machine.execObjSetParams o p obs s
  | .objSetGain o p obs => Sys2Proof.Machine.execObjSetGain o p obs s
  | .objGetParams o p obs => Sys2Proof.Machine.execObjGetParams o p obs s
  | .objStatus o p obs => Sys2Proof.Machine.execObjStatus o p obs s
  | .geoSpkLoad o p obs => Sys2Proof.Machine.execGeoSpkLoad o p obs s
  | .geoAtmosSet o p obs => Sys2Proof.Machine.execGeoAtmosSet o p obs s
  | .geoObjSet o p obs => Sys2Proof.Machine.execGeoObjSet o p obs s
  | .geoKey o p obs => Sys2Proof.Machine.execGeoKey o p obs s
  | .geoKeyFlush o p obs => Sys2Proof.Machine.execGeoKeyFlush o p obs s
  | .geoGetObj o p obs => Sys2Proof.Machine.execGeoGetObj o p obs s
  | .geoGetPaths o p obs => Sys2Proof.Machine.execGeoGetPaths o p obs s
  | .geoBulkRegion o p obs => Sys2Proof.Machine.execGeoBulkRegion o p obs s
  | .pathUpdate o p obs => Sys2Proof.Machine.execPathUpdate o p obs s
  | .pathUpdateBuf o p obs => Sys2Proof.Machine.execPathUpdateBuf o p obs s
  | .pathMode o p obs => Sys2Proof.Machine.execPathMode o p obs s
  | .pathStatus o p obs => Sys2Proof.Machine.execPathStatus o p obs s
  | .feedEqSet o p obs => Sys2Proof.Machine.execFeedEqSet o p obs s
  | .feedTrimSet o p obs => Sys2Proof.Machine.execFeedTrimSet o p obs s
  | .feedOutSet o p obs => Sys2Proof.Machine.execFeedOutSet o p obs s
  | .feedGainSet o p obs => Sys2Proof.Machine.execFeedGainSet o p obs s
  | .feedLimitSet o p obs => Sys2Proof.Machine.execFeedLimitSet o p obs s
  | .feedRatingSet o p obs => Sys2Proof.Machine.execFeedRatingSet o p obs s
  | .feedGet o p obs => Sys2Proof.Machine.execFeedGet o p obs s
  | .feedStatus o p obs => Sys2Proof.Machine.execFeedStatus o p obs s
  | .corrLoad o p obs => Sys2Proof.Machine.execCorrLoad o p obs s
  | .corrLoadMulti o p obs => Sys2Proof.Machine.execCorrLoadMulti o p obs s
  | .corrSwap o p obs => Sys2Proof.Machine.execCorrSwap o p obs s
  | .corrXfcfg o p obs => Sys2Proof.Machine.execCorrXfcfg o p obs s
  | .corrStatus o p obs => Sys2Proof.Machine.execCorrStatus o p obs s
  | .corrRegion o p obs => Sys2Proof.Machine.execCorrRegion o p obs s
  | .corrResetSlot o p obs => Sys2Proof.Machine.execCorrResetSlot o p obs s
  | .routeInSet o p obs => Sys2Proof.Machine.execRouteInSet o p obs s
  | .routeOutSet o p obs => Sys2Proof.Machine.execRouteOutSet o p obs s
  | .routeMatrixSet o p obs => Sys2Proof.Machine.execRouteMatrixSet o p obs s
  | .routeGenSet o p obs => Sys2Proof.Machine.execRouteGenSet o p obs s
  | .routeRingSet o p obs => Sys2Proof.Machine.execRouteRingSet o p obs s
  | .routeStatus o p obs => Sys2Proof.Machine.execRouteStatus o p obs s
  | .aspConfig o p obs => Sys2Proof.Machine.execAspConfig o p obs s
  | .aspSlotmask o p obs => Sys2Proof.Machine.execAspSlotmask o p obs s
  | .aspEnable o p obs => Sys2Proof.Machine.execAspEnable o p obs s
  | .aspMclk o p obs => Sys2Proof.Machine.execAspMclk o p obs s
  | .aspStatus o p obs => Sys2Proof.Machine.execAspStatus o p obs s
  | .netPortCfg o p obs => Sys2Proof.Machine.execNetPortCfg o p obs s
  | .netIpCfg o p obs => Sys2Proof.Machine.execNetIpCfg o p obs s
  | .netRingCfg o p obs => Sys2Proof.Machine.execNetRingCfg o p obs s
  | .netStreamIn o p obs => Sys2Proof.Machine.execNetStreamIn o p obs s
  | .netStreamOut o p obs => Sys2Proof.Machine.execNetStreamOut o p obs s
  | .netStreamStop o p obs => Sys2Proof.Machine.execNetStreamStop o p obs s
  | .netDiscovered o p obs => Sys2Proof.Machine.execNetDiscovered o p obs s
  | .netSubscribe o p obs => Sys2Proof.Machine.execNetSubscribe o p obs s
  | .netStatus o p obs => Sys2Proof.Machine.execNetStatus o p obs s
  | .netStreamStatus o p obs => Sys2Proof.Machine.execNetStreamStatus o p obs s
  | .netRedundCfg o p obs => Sys2Proof.Machine.execNetRedundCfg o p obs s
  | .netMdio o p obs => Sys2Proof.Machine.execNetMdio o p obs s
  | .timeCfg o p obs => Sys2Proof.Machine.execTimeCfg o p obs s
  | .timeStatus o p obs => Sys2Proof.Machine.execTimeStatus o p obs s
  | .timeAdjust o p obs => Sys2Proof.Machine.execTimeAdjust o p obs s
  | .timeServoCfg o p obs => Sys2Proof.Machine.execTimeServoCfg o p obs s
  | .timeGridCfg o p obs => Sys2Proof.Machine.execTimeGridCfg o p obs s
  | .timeLatSet o p obs => Sys2Proof.Machine.execTimeLatSet o p obs s
  | .timeLatRead o p obs => Sys2Proof.Machine.execTimeLatRead o p obs s
  | .timePpsCfg o p obs => Sys2Proof.Machine.execTimePpsCfg o p obs s
  | .timeEvtRead o p obs => Sys2Proof.Machine.execTimeEvtRead o p obs s
  | .timeFailover o p obs => Sys2Proof.Machine.execTimeFailover o p obs s
  | .measCfg o p obs => Sys2Proof.Machine.execMeasCfg o p obs s
  | .measStream o p obs => Sys2Proof.Machine.execMeasStream o p obs s
  | .measStatus o p obs => Sys2Proof.Machine.execMeasStatus o p obs s
  | .measRestart o p obs => Sys2Proof.Machine.execMeasRestart o p obs s
  | .hlthStatus o p obs => Sys2Proof.Machine.execHlthStatus o p obs s
  | .hlthLogRead o p obs => Sys2Proof.Machine.execHlthLogRead o p obs s
  | .hlthIbexCfg o p obs => Sys2Proof.Machine.execHlthIbexCfg o p obs s
  | .hlthApprove o p obs => Sys2Proof.Machine.execHlthApprove o p obs s
  | .hlthFawn o p obs => Sys2Proof.Machine.execHlthFawn o p obs s
  | .hlthSlack o p obs => Sys2Proof.Machine.execHlthSlack o p obs s
  | .memRead o p obs => Sys2Proof.Machine.execMemRead o p obs s
  | .memWrite o p obs => Sys2Proof.Machine.execMemWrite o p obs s
  | .memCopy o p obs => Sys2Proof.Machine.execMemCopy o p obs s
  | .memDramInfo o p obs => Sys2Proof.Machine.execMemDramInfo o p obs s
  | .memDramFreq o p obs => Sys2Proof.Machine.execMemDramFreq o p obs s
  | .dmaStart o p obs => Sys2Proof.Machine.execDmaStart o p obs s
  | .dmaStop o p obs => Sys2Proof.Machine.execDmaStop o p obs s
  | .dmaStatus o p obs => Sys2Proof.Machine.execDmaStatus o p obs s
  | .placeSet o p obs => Sys2Proof.Machine.execPlaceSet o p obs s
  | .placeGet o p obs => Sys2Proof.Machine.execPlaceGet o p obs s
  | .diagRegRead o p obs => Sys2Proof.Machine.execDiagRegRead o p obs s
  | .diagRegWrite o p obs => Sys2Proof.Machine.execDiagRegWrite o p obs s
  | .diagSwardRead o p obs => Sys2Proof.Machine.execDiagSwardRead o p obs s
  | .diagSelftest o p obs => Sys2Proof.Machine.execDiagSelftest o p obs s
  | .diagLoopback o p obs => Sys2Proof.Machine.execDiagLoopback o p obs s
  | .diagErrInject o p obs => Sys2Proof.Machine.execDiagErrInject o p obs s
  | .aspFrame port bitCount ps slots ph held => Sys2Proof.Machine.execAspFrame port bitCount ps slots ph held s
  | .aspClockTimeout port cause => Sys2Proof.Machine.execAspClockTimeout port cause s
  | .aspClockReturn port => Sys2Proof.Machine.execAspClockReturn port s
  | .aspRateMeasure port count => Sys2Proof.Machine.execAspRateMeasure port count s
  | .aspMclkMeasure bank hz => Sys2Proof.Machine.execAspMclkMeasure bank hz s
  | .aspCommit port v => Sys2Proof.Machine.execAspCommit port v s
  | .aspCtrlWrite port v => Sys2Proof.Machine.execAspCtrlWrite port v s
  | .aspMaskWrite port v late => Sys2Proof.Machine.execAspMaskWrite port v late s
  | .aspBankCfgWrite bank v => Sys2Proof.Machine.execAspBankCfgWrite bank v s
  | .aspCntClr port v => Sys2Proof.Machine.execAspCntClr port v s
  | .netRxFrame port f => Sys2Proof.Machine.execNetRxFrame port f s
  | .netRxOverflow port => Sys2Proof.Machine.execNetRxOverflow port s
  | .pauseEnd port => Sys2Proof.Machine.execPauseEnd port s
  | .pauseWatchdog port => Sys2Proof.Machine.execPauseWatchdog port s
  | .pauseIgnoreEnd port => Sys2Proof.Machine.execPauseIgnoreEnd port s
  | .netTxFrameStart port => Sys2Proof.Machine.execNetTxFrameStart port s
  | .netTxFrameDone port t underrun => Sys2Proof.Machine.execNetTxFrameDone port t underrun s
  | .launchTimeReached port ring => Sys2Proof.Machine.execLaunchTimeReached port ring s
  | .mediaPacketLaunch stream => Sys2Proof.Machine.execMediaPacketLaunch stream s
  | .mediaLateDrop port => Sys2Proof.Machine.execMediaLateDrop port s
  | .netLinkUp port speed half => Sys2Proof.Machine.execNetLinkUp port speed half s
  | .netLinkDown port cut => Sys2Proof.Machine.execNetLinkDown port cut s
  | .lpiEnter port => Sys2Proof.Machine.execLpiEnter port s
  | .lpiWake port => Sys2Proof.Machine.execLpiWake port s
  | .downshift port => Sys2Proof.Machine.execDownshift port s
  | .netRxTailWrite port ring v => Sys2Proof.Machine.execNetRxTailWrite port ring v s
  | .netPoolTailWrite port ring v => Sys2Proof.Machine.execNetPoolTailWrite port ring v s
  | .netTxTailWrite port ring v => Sys2Proof.Machine.execNetTxTailWrite port ring v s
  | .netRingCtrlWrite port tx ring v => Sys2Proof.Machine.execNetRingCtrlWrite port tx ring v s
  | .netCntClr port v => Sys2Proof.Machine.execNetCntClr port v s
  | .mergeWindowExpire stream seq => Sys2Proof.Machine.execMergeWindowExpire stream seq s
  | .streamLost stream => Sys2Proof.Machine.execStreamLost stream s
  | .strmRegionWrite v => Sys2Proof.Machine.execStrmRegionWrite v s
  | .strmCntClr v => Sys2Proof.Machine.execStrmCntClr v s
  | .discoveryAnnouncement a => Sys2Proof.Machine.execDiscoveryAnnouncement a s
  | .discoveryExpire sid => Sys2Proof.Machine.execDiscoveryExpire sid s
  | .streamAnnounce stream => Sys2Proof.Machine.execStreamAnnounce stream s
  | .firmwareProtocolReply port => Sys2Proof.Machine.execFirmwareProtocolReply port s
  | .ptpSyncReceive port seq gm twoStep t1 corr t2 => Sys2Proof.Machine.execPtpSyncReceive port seq gm twoStep t1 corr t2 s
  | .servoSnapshot => Sys2Proof.Machine.execServoSnapshot s
  | .standbySilent => Sys2Proof.Machine.execStandbySilent s
  | .ptpAnnounceReceive port d => Sys2Proof.Machine.execPtpAnnounceReceive port d s
  | .ptpDelayRespReceive port seq t4 t2p t3p => Sys2Proof.Machine.execPtpDelayRespReceive port seq t4 t2p t3p s
  | .ptpPdelayReqReceive port seq => Sys2Proof.Machine.execPtpPdelayReqReceive port seq s
  | .ptpDelayReqSend port seq t3 => Sys2Proof.Machine.execPtpDelayReqSend port seq t3 s
  | .timeSourceLost port cause => Sys2Proof.Machine.execTimeSourceLost port cause s
  | .failoverTimeout => Sys2Proof.Machine.execFailoverTimeout s
  | .phaseSlewEnd => Sys2Proof.Machine.execPhaseSlewEnd s
  | .ctrlPortReturn => Sys2Proof.Machine.execCtrlPortReturn s
  | .ppsPulse => Sys2Proof.Machine.execPpsPulse s
  | .ptpEvtInEdge rising t => Sys2Proof.Machine.execPtpEvtInEdge rising t s
  | .timeCommit v => Sys2Proof.Machine.execTimeCommit v s
  | .timeAdjGo v => Sys2Proof.Machine.execTimeAdjGo v s
  | .timeFailoverGo v => Sys2Proof.Machine.execTimeFailoverGo v s
  | .txtsPop port v => Sys2Proof.Machine.execTxtsPop port v s
  | .evtqPop v => Sys2Proof.Machine.execEvtqPop v s
  | .timeNowNsRead => Sys2Proof.Machine.execTimeNowNsRead s
  | .timeLatCommit v => Sys2Proof.Machine.execTimeLatCommit v s
  | .renderCommitInput v => Sys2Proof.Machine.execRenderCommitInput v s
  | .renderCommitGen v => Sys2Proof.Machine.execRenderCommitGen v s
  | .inselWrite ix v => Sys2Proof.Machine.execInselWrite ix v s
  | .playCtrlWrite p v => Sys2Proof.Machine.execPlayCtrlWrite p v s
  | .playWrWrite p v => Sys2Proof.Machine.execPlayWrWrite p v s
  | .capCtrlWrite c v => Sys2Proof.Machine.execCapCtrlWrite c v s
  | .outCommit v => Sys2Proof.Machine.execOutCommit v s
  | .outselWrite ix v => Sys2Proof.Machine.execOutselWrite ix v s
  | .hpCommit v => Sys2Proof.Machine.execHpCommit v s
  | .bulkBaseWrite v => Sys2Proof.Machine.execBulkBaseWrite v s
  | .corrBaseWrite v => Sys2Proof.Machine.execCorrBaseWrite v s
  | .measCommit v => Sys2Proof.Machine.execMeasCommit v s
  | .measStrCtrlWrite c v => Sys2Proof.Machine.execMeasStrCtrlWrite c v s
  | .fabMinClr v => Sys2Proof.Machine.execFabMinClr v s
  | .ibexApproveWrite v => Sys2Proof.Machine.execIbexApproveWrite v s
  | .rcFieldRead a => Sys2Proof.Machine.execRcFieldRead a s
  | .counterLowRead a => Sys2Proof.Machine.execCounterLowRead a s
  | .registerWrite a v pcie valid => Sys2Proof.Machine.execRegisterWrite a v pcie valid s
  | .ptpFollowUpReceive port seq gm t1 corr => Sys2Proof.Machine.execPtpFollowUpReceive port seq gm t1 corr s
  | .pcieLinkUp gen width => Sys2Proof.Machine.execPcieLinkUp gen width s
  | .pcieLinkDown => Sys2Proof.Machine.execPcieLinkDown s
  | .pcieConfigWrite d3 bme msix fmask => Sys2Proof.Machine.execPcieConfigWrite d3 bme msix fmask s
  | .hostCompletionTimeout => Sys2Proof.Machine.execHostCompletionTimeout s
  | .commandProcessingEnd id cycles => Sys2Proof.Machine.execCommandProcessingEnd id cycles s
  | .dramWriteComplete kind ix n => Sys2Proof.Machine.execDramWriteComplete kind ix n s
  | .downshiftRenegotiationTimeout p => Sys2Proof.Machine.execDownshiftRenegotiationTimeout p s
  | .heldWakeRelease => Sys2Proof.Machine.execHeldWakeRelease s
  | .jtagUpdateIr code => Sys2Proof.Machine.execJtagUpdateIr code s
  | .mramAccGo data waddr wr go => Sys2Proof.Machine.execMramAccGo data waddr wr go s
  | .mramAccDone => Sys2Proof.Machine.execMramAccDone s

end Sys2Proof.Machine
end

