-- ==== Sys2Proof/Safety.lean ====
section
/-! DEFINITION. The terms in which claims are stated: when the part takes commands, what a command makes of it, what a whole reset
leaves, and the invariants every step keeps. -/
namespace Sys2Proof.Machine

/-! ## Taking commands -/

/-- The part has its rails. -/
abbrev State.live (s : State) : Prop := s.m.sys.railsOff = false

/-- The block once a command has made `m` of the part: what follows every command is done, the queue is as before. -/
def State.gives (s : State) (m : Mach) : State := { s with m := m.fin }

/-- No power move, no load of a bank and no long command runs or falls due, and no converter loses lock: a command ends with the
interrupts formed anew, and nothing else. -/
abbrev Mach.calm (m : Mach) : Prop := m.loadsRun = m ∧ m.lockWatch = m ∧ m.sys.move = none ∧ m.cmd.running = []

/-- A command of an open session reaches its release on a part that takes commands (R271, R282). Log 60. -/
abbrev State.takes (s : State) (o : Origin) : Prop :=
  s.live ∧ o.ok = true ∧ s.m.on F.CMD_STAT_READY = true ∧ (o.sess = 255 ∨ (mfind s.m.cmd.sess o.sess).isSome = true)

/-- A command that answers at once: its reply packet with status, DETAIL, EFFECT_TICK and data (R263, R268). -/
def Mach.replies (m : Mach) (o : Origin) (op : Nat) (data : List Byte) : Mach := m.releaseRes o op (Res.ok data)

/-- A command's result as it leaves the part: the state its work made, and its reply by status (R263, R268). -/
def Mach.leaves (x : Mach × Res) (o : Origin) (op : Nat) : Mach := x.1.releaseRes o op x.2

/-- A list operand at packet offset l: COUNT from 1 to `top` entries of `size` bytes, reserved bytes zero, LENGTH to suit
(R294, R295). -/
abbrev listFits (p : List Byte) (l size top : Nat) : Prop :=
  lenOf p = l + 8 + countOf p l * size ∧ 1 ≤ countOf p l ∧ countOf p l ≤ top ∧ pf p (l + 2) 2 = 0

/-- No target is named twice in a list (R295). -/
abbrev onceEach (p : List Byte) (l size : Nat) (key : List Byte → Nat) : Prop := ((entriesOf p l size).map (fun x => key x.2)).Nodup

/-- A command that asks for a stated time finds room for `n` timed items (R268). -/
abbrev Mach.timeRoom (m : Mach) (p : List Byte) (n : Nat) : Prop :=
  (match m.effOf p with | .time _ => decide (m.timedCount + n ≤ 4096) | _ => true) = true

/-! ## Frames -/

/-- `t` differs from `s` in nothing but registers and the error state. -/
def Mach.errorsOnly (s t : Mach) : Prop :=
  t.variant = s.variant ∧ t.live = s.live ∧ t.hold = s.hold ∧ t.mem = s.mem ∧ t.free = s.free ∧ t.tm = s.tm
    ∧ t.pll = s.pll ∧ t.bus = s.bus ∧ t.dma = s.dma ∧ t.ddr = s.ddr ∧ t.sys = s.sys ∧ t.asp = s.asp ∧ t.cmd = s.cmd
    ∧ t.sch = s.sch ∧ t.net0 = s.net0 ∧ t.net1 = s.net1 ∧ t.sin = s.sin ∧ t.sout = s.sout ∧ t.disc = s.disc
    ∧ t.rend = s.rend ∧ t.irqN = s.irqN

/-- `t` differs from `s` in registers alone. -/
def Mach.registersOnly (s t : Mach) : Prop := s.errorsOnly t ∧ t.err = s.err

/-- Addresses of the registers that every command's end forms anew: ERR.PEND, ERR.PEND_DMA and the pending bits of MSI-X (R544, R545). -/
def settledRegs : List Nat := [0xD0001C, 0xD00020, 0xE02000, 0xE02004]

/-- `t` differs from `s` in those registers, the pin IRQ_N and in host memory alone, where messages are written. -/
def Mach.settledOnly (s t : Mach) : Prop :=
  t.variant = s.variant ∧ t.live = s.live ∧ t.hold = s.hold ∧ t.free = s.free ∧ t.err = s.err ∧ t.tm = s.tm
    ∧ t.pll = s.pll ∧ t.bus = s.bus ∧ t.dma = s.dma ∧ t.ddr = s.ddr ∧ t.sys = s.sys ∧ t.asp = s.asp ∧ t.cmd = s.cmd
    ∧ t.sch = s.sch ∧ t.net0 = s.net0 ∧ t.net1 = s.net1 ∧ t.sin = s.sin ∧ t.sout = s.sout ∧ t.disc = s.disc
    ∧ t.rend = s.rend ∧ (∀ r i j, r.at_ i j ∉ settledRegs → t.rd r i j = s.rd r i j)
    ∧ ∀ a, a < hostBit → memByte t.mem a = memByte s.mem a

/-! ### Frames of families -/

/-- What a well-formed command makes of a part with its rails stands in relation `P` to the part before it. -/
def keeps (P : Mach → Mach → Prop) (c : Instr) : Prop :=
  ∀ s : State, s.live → c.wellFormed = true → ∃ m : Mach, exec c s = .next (s.gives m) ∧ P s.m m

/-- Outside the windows [a, b) of the list every register holds what it held. -/
def Mach.outside (s t : Mach) (w : List (Nat × Nat)) : Prop :=
  ∀ r i j, (∀ x ∈ w, ¬ (x.1 ≤ r.at_ i j ∧ r.at_ i j < x.2)) → t.rd r i j = s.rd r i j

/-- Every register below address `b` holds what it held. -/
def Mach.below (s t : Mach) (b : Nat) : Prop := ∀ r i j, r.at_ i j < b → t.rd r i j = s.rd r i j

/-- The rendering: objects, paths, feeds, engines, measurement chain, and the values in force of staged fields. -/
def Mach.sameAudio (s t : Mach) : Prop := t.rend = s.rend ∧ t.live = s.live

/-- Both network ports, the media streams and the list of discovered sessions. -/
def Mach.sameNet (s t : Mach) : Prop := t.net0 = s.net0 ∧ t.net1 = s.net1 ∧ t.sin = s.sin ∧ t.sout = s.sout ∧ t.disc = s.disc

/-- Sessions, flows, waiting commands and replies, and the scheduler. -/
def Mach.sameCmd (s t : Mach) : Prop := t.cmd = s.cmd ∧ t.sch = s.sch

/-- Interconnect, DMA channels and DRAM controller. -/
def Mach.sameBus (s t : Mach) : Prop := t.bus = s.bus ∧ t.dma = s.dma ∧ t.ddr = s.ddr

/-- Variant, holding copies, PLLs, and the part's power and reset state. -/
def Mach.sameBase (s t : Mach) : Prop := t.variant = s.variant ∧ t.hold = s.hold ∧ t.pll = s.pll ∧ t.sys = s.sys

/-- A frame of a row that stores nothing: every byte of memory stands as well. -/
def noStore (P : Mach → Mach → Prop) (s t : Mach) : Prop := P s t ∧ t.mem = s.mem

/-- A time row's frame: network time, the TIME registers and error records apart, nothing changes. -/
def timeFrame (s t : Mach) : Prop :=
  s.sameBase t ∧ s.sameBus t ∧ s.sameCmd t ∧ s.sameNet t ∧ t.rend = s.rend ∧ t.asp = s.asp ∧ t.mem = s.mem ∧ t.free = s.free
    ∧ s.outside t [(0x380000, 0x400000), (0xD00000, 0xE00000)]

/-- A serial port row's frame: the ports, the ASP registers and error records apart, nothing changes. -/
def aspFrameOf (s t : Mach) : Prop :=
  s.sameBase t ∧ s.sameBus t ∧ s.sameCmd t ∧ s.sameNet t ∧ t.rend = s.rend ∧ t.tm = s.tm ∧ t.mem = s.mem ∧ t.free = s.free
    ∧ s.outside t [(0x200000, 0x300000), (0xD00000, 0xE00000)]

/-- A rate measurement's frame: a serial port row's, and the converters that follow the port may lose lock (R58). -/
def rateFrame (s t : Mach) : Prop :=
  s.sameBase t ∧ s.sameBus t ∧ s.sameCmd t ∧ s.sameNet t ∧ t.live = s.live ∧ t.tm = s.tm ∧ t.mem = s.mem ∧ t.free = s.free
    ∧ s.outside t [(0x200000, 0x300000), (0x800000, 0x900000), (0xD00000, 0xE00000)]

/-- A network row's frame: rendering, serial ports, interconnect, DMA and power state stand; so do the registers of SYS, CLK and
ASP. -/
def netFrame (s t : Mach) : Prop :=
  s.sameBase t ∧ s.sameAudio t ∧ t.asp = s.asp ∧ t.bus = s.bus ∧ t.dma = s.dma ∧ t.free = s.free
    ∧ s.below t 0x300000

/-- An interconnect, DMA or DRAM row's frame: rendering, time, ports and commands stand, and every register outside DMA, MATRIX,
DDRC, ERR and PCIE. -/
def busFrame (s t : Mach) : Prop :=
  t.variant = s.variant ∧ t.pll = s.pll ∧ t.sys = s.sys ∧ s.sameAudio t ∧ t.asp = s.asp ∧ t.tm = s.tm ∧ s.sameNet t ∧ s.sameCmd t
    ∧ s.outside t [(0x400000, 0x700000), (0xD00000, 0xF00000)]

/-- A command transport or scheduler row's frame: rendering, time, ports, interconnect and power state stand, and every register
below SCHED. -/
def cmdFrame (s t : Mach) : Prop :=
  s.sameBase t ∧ s.sameBus t ∧ s.sameAudio t ∧ t.asp = s.asp ∧ t.tm = s.tm ∧ s.sameNet t ∧ t.free = s.free
    ∧ s.below t 0xB00000

/-- The end of a tick's work: time, ports, commands, interconnect and power state stand, and every register below DDRC. -/
def tickFrame (s t : Mach) : Prop :=
  s.sameBase t ∧ t.live = s.live ∧ t.bus = s.bus ∧ t.dma = s.dma ∧ s.sameCmd t ∧ s.sameNet t ∧ t.asp = s.asp ∧ t.tm = s.tm
    ∧ s.below t 0x600000

/-- A fabric row's frame: as at the end of a tick's work, with DRAM controller and free values, and every register outside FAB
and ERR. -/
def fabFrame (s t : Mach) : Prop :=
  tickFrame s t ∧ t.ddr = s.ddr ∧ t.free = s.free ∧ s.outside t [(0x700000, 0x800000), (0xD00000, 0xE00000)]

/-- A rendering row's frame between tokens: the rendering and the RENDER and FEED registers apart, nothing changes. -/
def rendFrame (s t : Mach) : Prop :=
  s.sameBase t ∧ t.live = s.live ∧ s.sameBus t ∧ s.sameCmd t ∧ s.sameNet t ∧ t.asp = s.asp ∧ t.tm = s.tm ∧ t.err = s.err
    ∧ t.mem = s.mem ∧ t.free = s.free ∧ s.outside t [(0x800000, 0xA00000)]

/-! ## Whole resets -/

/-- Registers that a whole reset does not simply return to their reset value: CLK.STAT (XIN_OK), SYS.RESET_CAUSE, and WAKE_STAT and
STORM of the watch domain. -/
def keptRegs : List Nat := [0x100000, 0x204, 0x208, 0x20C]

/-- What a whole reset by source bit `cause` leaves of a part `s` (R513): every chapter's state at its reset value, the memory
that is kept, the reset cause. -/
def Mach.afterReset (s m : Mach) (cause : Nat) : Prop :=
  m.variant = s.variant ∧ m.mem = keptMem s.mem ∧ m.err = ErrSt.init ∧ m.tm = TimeSt.init ∧ m.pll = [] ∧ m.bus = BusSt.init
    ∧ m.dma = [] ∧ m.ddr = DdrSt.init ∧ m.asp = [] ∧ m.cmd = CmdSt.init ∧ m.sch = SchedSt.init ∧ m.net0 = NetPort.init
    ∧ m.net1 = NetPort.init ∧ m.sin = [] ∧ m.sout = [] ∧ m.disc = [] ∧ m.rend = Rend.init ∧ m.live = [] ∧ m.hold = []
    ∧ m.gf F.SYS_RESET_CAUSE_CAUSE = 2 ^ cause
    ∧ ∀ r i j, r.at_ i j ∉ keptRegs → m.rd r i j = r.rst i % 2 ^ 32

/-- A part past P1, not held by the storm guard and with fewer than seven resets started in the last second (R515). -/
abbrev Mach.calmStarts (s : Mach) (wclk : Nat) : Prop :=
  s.on F.SYS_STORM_HOLD = false ∧ 2 ≤ s.phase ∧ startsNear ((wclk :: s.sys.starts).take 8) wclk < 8

/-! ## Invariants -/

/-- Every command that waits is one the part can be given. -/
def State.queueFits (s : State) : Prop := ∀ c ∈ s.pending, c.wellFormed = true

/-- Memory is in canonical form. -/
def State.memoryCanonical (s : State) : Prop := Memory.wf s.m.mem = true

/-- ERR.PEND and ERR.PEND_DMA show exactly the sources that have an enabled event set (R544), and IRQ_N is at the level that
they and the mailbox give it (R286, R546). -/
def State.interruptsFormed (s : State) : Prop := (∀ k, k < 50 → s.m.wasPend k = s.m.srcPend k) ∧ s.m.irqN = s.m.irqLow

end Sys2Proof.Machine
end

