-- ==== Sys2Proof/Certificates/Slice0/Obligations.lean ====
section
/-! DEFINITION. The sixty statements for the provers. Each says of which rows of the command table it speaks, and every row has its completion
in one of them. The frames of Sys2Proof/Safety.lean say what a row leaves unchanged. -/

open Sys2Proof Sys2Proof.Machine

/-- A step runs the command at the front of the queue; an empty queue idles. For every command c and state s, step with c in front
of the queue is exec c on s with the rest of the queue. On an empty queue the step answers the same state; the queue and its
idling are the model's (log entry 1). -/
def Obligations.StepTakesTheFrontCommand : Prop :=
  (∀ (c : Instr) (s : State), step { s with pending := c :: s.pending } = exec c s)
  ∧ ∀ s : State, s.pending = [] → step s = .next s

/-- State.reset: every register at its reset value, no memory listed, no command, session, path or error. Every register reads the
reset value of its table, and nothing is listed, held, opened, staged, latched or waiting; the block is in phase P0, not READY
and not in the safe state, and the three invariants hold. The variant, the zeros for "Option" registers and the zero memory are
the model's choices (log entries 2, 3, 4 and 127). -/
def Obligations.ResetState : Prop :=
  (∀ r i j, State.reset.m.rd r i j = r.rst i % 2 ^ 32)
  ∧ State.reset.pending = [] ∧ State.reset.m.mem = [] ∧ State.reset.m.live = [] ∧ State.reset.m.hold = []
  ∧ State.reset.m.phase = 0 ∧ State.reset.m.on F.CMD_STAT_READY = false ∧ State.reset.m.on F.ERR_STAT_SAFE = false
  ∧ State.reset.m.rend.paths = [] ∧ State.reset.m.cmd.sess = [] ∧ State.reset.m.cmd.flows = [] ∧ State.reset.m.err.slots = []
  ∧ State.reset.m.bus.out = [] ∧ State.reset.m.tm.ticking = false
  ∧ State.reset.queueFits ∧ State.reset.memoryCanonical ∧ State.reset.interruptsFormed

/-- A step keeps the queue well formed, and the pending-interrupt words and IRQ_N true. From every state whose queue holds well-
formed commands, whose pending words show exactly the sources that have an enabled event set and whose IRQ_N is at the level
these and the mailbox give, a step that answers a next state answers one with all three again. Rules: R544, R545. -/
def Obligations.StepsKeepTheInvariants : Prop :=
  ∀ s t : State, s.queueFits → s.interruptsFormed → step s = .next t → t.queueFits ∧ t.interruptsFormed

/-- Every command answers a next state; one that names no unit of the part changes nothing. For every state and command: a well-
formed command answers a next state with the same queue, and one whose operands name no unit or do not fit their field answers
the state it was given (the model's choice, log entry 5). -/
def Obligations.WellFormedCommandsComplete : Prop :=
  ∀ (s : State) (c : Instr), (c.wellFormed = true → ∃ t, exec c s = .next t ∧ t.pending = s.pending)
    ∧ (c.wellFormed = false → exec c s = .next s)

/-- What is done at the end of every command leaves all but errors, interrupts and replies alone. On a part with no command to
close, what every command ends with changes only the registers of the interrupt logic and what has been told, as settledOnly
says. Rules: R544 to R546. -/
def Obligations.EveryCommandEndsInAFrame : Prop :=
  ∀ s : Mach, s.calm → s.settledOnly s.fin

/-- Each whole-reset source resets the part, and the boot rows move through their phases. Power-on, RESET_N, PERST_N, hot reset,
thermal trip, brown-out, escalation and ordered resets leave the part as afterReset says, with their cause. Option load, DRAM
training, fabric self-test, firmware boot and a pushed image move the phase on under the conditions the rows name. Rules: R510
to R516, R519 to R521. -/
def Obligations.ResetSourcesAndBootPhases : Prop :=
  (∀ (s : State) w, s.m.calmStarts w → s.m.sys.pwrReq = true →
    ∃ m : Mach, exec (.powerOn w false) s = .next (s.gives m) ∧ s.m.afterReset m 0)
  ∧ (∀ (s : State) w ns taken held, s.m.calmStarts w → s.live → (1000 ≤ ns ∨ 200 ≤ ns ∧ taken = true) →
    ∃ m : Mach, exec (.resetNAssert w ns taken held) s = .next (s.gives m) ∧ s.m.afterReset m 1 ∧ m.sys.resetLow = held)
  ∧ (∀ (s : State) w, s.m.calmStarts w → s.live → bitOf (s.m.optWord 1024) 4 = false →
    ∃ m : Mach, exec (.perstNAssert w) s = .next (s.gives m) ∧ s.m.afterReset m 2)
  ∧ (∀ (s : State) w, s.m.calmStarts w → s.live → bitOf (s.m.optWord 1024) 5 = false →
    ∃ m : Mach, exec (.pcieHotReset w) s = .next (s.gives m) ∧ s.m.afterReset m 3)
  ∧ (∀ (s : State) w, s.m.calmStarts w → s.live →
    ∃ m : Mach, exec (.thermalTrip w) s = .next (s.gives m) ∧ s.m.afterReset m 6 ∧ m.sys.tripHold = true)
  ∧ (∀ (s : State) w, s.m.calmStarts w → s.live →
    ∃ m : Mach, exec (.brownOut w false) s = .next (s.gives m) ∧ s.m.afterReset m 7)
  ∧ (∀ (s : State) w, s.m.calmStarts w → s.live → s.m.err.countdown.isSome = true → s.m.sys.hold = none →
    ∃ m : Mach, exec (.escalationReset w) s = .next (s.gives m) ∧ s.m.afterReset m 8)
  ∧ (∀ (s : State) w c r, s.m.calmStarts w → s.live → s.m.sys.ordered = some (c, r) → c = 4 ∨ c = 5 →
    ∃ m : Mach, exec (.orderedResetStart w) s = .next (s.gives m) ∧ s.m.afterReset m c)
  ∧ (∀ (s : State) w, s.m.calmStarts w → s.live → s.m.err.deferred = true →
    ∃ m : Mach, exec (.resetHoldEnd w) s = .next (s.gives m) ∧ s.m.afterReset m 8)
  ∧ (∀ (s : State) tj v33, s.live → s.m.phase < 2 → s.m.on F.SYS_STORM_HOLD = false → s.m.sys.pwrReq = true →
    s.m.sys.xinLost = false → (s.m.sys.tripHold = true → tj ≤ 100) →
    ∃ m, exec (.optionLoad tj v33) s = .next (s.gives m) ∧
      (pickPage (s.m.mrd mramBase 4096) (s.m.mrd (mramBase + 4096) 4096) = none → m.phase = 1 ∧ m.mem = s.m.mem) ∧
      (∀ k, pickPage (s.m.mrd mramBase 4096) (s.m.mrd (mramBase + 4096) 4096) = some k → m.phase = 2))
  ∧ (∀ (s : State) good ok1 cause, s.live → s.m.phase = 3 →
    ∃ m, exec (.dramTraining good ok1 cause) s = .next (s.gives m) ∧ m.phase = 4)
  ∧ (∀ (s : State) bad rates tj, s.live → s.m.phase = 4 →
    ∃ m, exec (.fabricSelftest bad rates tj) s = .next (s.gives m) ∧ m.phase = 5)
  ∧ (∀ (s : State) ok0 ok1, s.live → s.m.phase = 5 → bits (s.m.optWord 1024) 0 2 ≠ 1 →
    (if fld (s.m.mrd (mramBase + 0x3000) 1) 0 1 % 2 = 0 then ok0 else ok1) = true →
    ∃ m, exec (.firmwareBoot ok0 ok1) s = .next (s.gives m) ∧ m.phase = 6 ∧ m.gf F.CMD_STAT_READY = 1 ∧
      m.gf F.SYS_BOOT_STAT_FWBANK = fld (s.m.mrd (mramBase + 0x3000) 1) 0 1 % 2)
  ∧ (∀ (s : State) v, s.live → v < 2 ^ 32 → bitOf v 0 = true → s.m.phase = 5 → bits (s.m.optWord 1024) 0 2 ≠ 0 →
    ∃ m, exec (.fwPushGo v true) s = .next (s.gives m) ∧ m.phase = 6 ∧ m.gf F.CMD_STAT_READY = 1 ∧
      m.gf F.SYS_BOOT_STAT_FWSRC = 1)

/-- Wakes, block resets, the PCIe link and the test port. Wake events in STANDBY raise PWR_REQ and set WAKE_STAT or are held; a
block reset is started, refused and ended; link and configuration writes set PCIE.STAT; the JTAG instruction register and MRAM
accesses do what their codes say. Rules: R524, R525, R530, R531, R553, R569, R570. -/
def Obligations.WakeResetsAndTestPort : Prop :=
  (∀ s : State, s.m.sys.armWake = true → s.m.power = 3 → s.m.sys.pwrReq = false →
    ∃ m : Mach, exec (.wakeNWake false) s = .next (s.gives m) ∧ m.sys = { s.m.sys with pwrReq := true, heldWake := none } ∧
      m.rd R.SYS_WAKE_STAT = 1 ∧ m.mem = s.m.mem)
  ∧ (∀ s : State, s.m.sys.alarm.isSome = true → s.m.power = 3 → s.m.sys.pwrReq = false →
    ∃ m : Mach, exec (.rtcAlarm false) s = .next (s.gives m) ∧ m.sys = { s.m.sys with pwrReq := true, heldWake := none } ∧
      m.rd R.SYS_WAKE_STAT = 2 ∧ m.mem = s.m.mem)
  ∧ (∀ s : State, s.m.sys.armWake = true → s.m.power = 3 → s.m.sys.pwrReq = false →
    exec (.wakeNWake true) s = .next (s.gives { s.m with sys := { s.m.sys with heldWake := some 0 } }))
  ∧ (∀ (s : State) b, s.m.sys.heldWake = some b → b < 2 →
    ∃ m : Mach, exec .heldWakeRelease s = .next (s.gives m) ∧ m.sys = { s.m.sys with pwrReq := true, heldWake := none } ∧
      m.rd R.SYS_WAKE_STAT = 2 ^ b)
  ∧ (∀ (s : State) v, s.live → v < 2 ^ 32 → bitOf v 31 = true → v % 16 ≤ 9 →
    exec (.blkRstWrite v false) s = .next (s.gives (s.m.blockReset (v % 16))))
  ∧ (∀ (s : State) v p, s.live → v < 2 ^ 32 → bitOf v 31 = true → (9 < v % 16 ∨ p = true ∧ v % 16 = 8) →
    exec (.blkRstWrite v p) s = .next (s.gives (s.m.evt F.SYS_EVT_REFUSED)))
  ∧ (∀ (s : State) b, s.live → b < 10 → s.m.inReset b = true →
    ∃ m : Mach, exec (.blockResetEnd b) s = .next (s.gives m) ∧ s.m.registersOnly m ∧ m.inReset b = false ∧
      (∀ c, c < 10 → c ≠ b → m.inReset c = s.m.inReset c) ∧ m.gf F.SYS_EVT_BLK_DONE = 1)
  ∧ (∀ (s : State) g w, s.live → 2 ≤ s.m.phase → s.m.linkPcie = false → 1 ≤ g → g ≤ 4 → w = 1 ∨ w = 2 ∨ w = 4 →
    ∃ m : Mach, exec (.pcieLinkUp g w) s = .next (s.gives m) ∧ s.m.registersOnly m ∧ m.linkPcie = true ∧
      m.gf F.PCIE_STAT_GEN = g ∧ m.gf F.PCIE_STAT_WIDTH = w)
  ∧ (∀ s : State, s.live → s.m.linkPcie = true →
    ∃ m : Mach, exec .pcieLinkDown s = .next (s.gives m) ∧ s.m.registersOnly m ∧ m.linkPcie = false ∧
      m.rd R.PCIE_LINK_DOWN = Nat.min 0xFFFFFFFF (s.m.rd R.PCIE_LINK_DOWN + 1))
  ∧ (∀ (s : State) d b x f, s.live → s.m.linkPcie = true →
    ∃ m : Mach, exec (.pcieConfigWrite d b x f) s = .next (s.gives m.unmask) ∧ s.m.registersOnly m ∧
      m.gf F.PCIE_STAT_DSTATE = (if d then 3 else 0) ∧ m.gf F.PCIE_STAT_BME = b2n b ∧ m.gf F.PCIE_STAT_MSIX_EN = b2n x ∧
      m.gf F.PCIE_STAT_FMASK = b2n f)
  ∧ (∀ (s : State) c, c < 256 → c = 1 ∨ c = 2 ∨ c = 0x30 →
    exec (.jtagUpdateIr c) s = .next (s.gives { s.m with sys := { s.m.sys with jtag := { s.m.sys.jtag with ir := c } } }))
  ∧ (∀ (s : State) c, c < 256 → c = 0 ∨ c = 3 ∨ c = 4 →
    exec (.jtagUpdateIr c) s = .next (s.gives { s.m with sys := { s.m.sys with jtag := { s.m.sys.jtag with ir := if s.m.sys.resetLow then c else 0xFF } } }))
  ∧ (∀ (s : State) d a w, a < 2 ^ 21 → s.m.sys.jtag.ir = 0x30 → s.m.sys.jtag.busy = false → (s.m.sys.resetLow = true ∨ s.m.phase = 1) →
    jtagOk w (4 * a) = true →
    exec (.mramAccGo d a w true) s = .next (s.gives { s.m with sys := { s.m.sys with jtag := { s.m.sys.jtag with busy := true, done := false, err := false, op := some (w, a, d) } } }))
  ∧ (∀ (s : State) d a, s.m.sys.jtag.op = some (true, a, d) →
    ∃ m : Mach, exec .mramAccDone s = .next (s.gives m) ∧ m.mem = memPut s.m.mem (mramBase + 4 * a) (toLE 4 d.toNat) ∧
      m.sys.jtag = { s.m.sys.jtag with busy := false, done := true, op := none, waddr := a })
  ∧ (∀ (s : State) d a, s.m.sys.jtag.op = some (false, a, d) →
    ∃ m : Mach, exec .mramAccDone s = .next (s.gives m) ∧ m.mem = s.m.mem ∧
      m.sys.jtag = { s.m.sys.jtag with
        busy := false, done := true, op := none, waddr := a,
        data := BitVec.ofNat 32 (leNat (memGet s.m.mem (mramBase + 4 * a) 4)) })
  ∧ (∀ (s : State) d a w, a < 2 ^ 21 → s.m.sys.jtag.ir = 0x30 → s.m.sys.jtag.busy = true ∨ (s.m.sys.resetLow = false ∧ s.m.phase ≠ 1) ∨ jtagOk w (4 * a) = false →
    exec (.mramAccGo d a w true) s = .next (s.gives { s.m with sys := { s.m.sys with jtag := { s.m.sys.jtag with err := true } } }))
  ∧ (∀ (s : State) c, c < 256 → c ∉ [0, 1, 2, 3, 4, 0x30] →
    exec (.jtagUpdateIr c) s = .next (s.gives { s.m with sys := { s.m.sys with jtag := { s.m.sys.jtag with ir := 0xFF } } }))

/-- Handling, acknowledgement, the watchdog and the storm release. ERROR_HANDLED marks the record in hand and starts the next; a
handling timeout enters the safe state and starts the countdown; ERR_ACK acknowledges the records up to its number and drops
none below ERROR; a watchdog orders a reset; a storm release clears the history. Rules: R515, R538, R540, R541. -/
def Obligations.ErrorHandlingMovesOn : Prop :=
  (∀ (s : State) i, s.live → s.m.err.hF = some i →
    exec .errorHandled s = .next (s.gives
      { s.m with err := { s.m.err with slots := markHandled s.m.err.slots i, hF := none }.start }))
  ∧ (∀ (s : State) i, s.live → s.m.err.hF = none → s.m.err.hE = some i →
    exec .errorHandled s = .next (s.gives
      { s.m with err := { s.m.err with slots := markHandled s.m.err.slots i, hE := none }.start }))
  ∧ (∀ s : State, s.live → s.m.err.hF.isSome = true → s.m.safe = false →
    ∃ m, exec .fatalHandlingTimeout s = .next (s.gives m) ∧ m.safe = true ∧ m.gf F.ERR_EVT_SAFE = 1 ∧
      m.err = { s.m.err with countdown := some (s.m.tm.up + 100000000) } ∧ s.m.errorsOnly m)
  ∧ (∀ (s : State) n, s.live → n < 2 ^ 32 →
    ∃ m, exec (.errAckWrite n) s = .next (s.gives m) ∧ m = { s.m with err := { s.m.err with slots := m.err.slots } } ∧
      (∀ e ∈ m.err.slots, 2 ≤ e.2.sev → seqLe e.2.seq n = true → e.2.acked = true) ∧
      (∀ e ∈ s.m.err.slots, e.2.sev < 2 → e ∈ m.err.slots))
  ∧ (∀ (s : State) k, s.live → k < 6 → bitOf (s.m.gf F.SCHED_STAT_CORES) k = true → s.m.sys.ordered = none →
    exec (.watchdogExpire k) s = .next (s.gives { s.m with sys := { s.m.sys with ordered := some (4, 0) } }))
  ∧ (∀ s : State, s.live → s.m.on F.SYS_STORM_HOLD = true →
    exec .stormRelease s = .next (s.gives (Mach.wr { s.m with sys := { s.m.sys with starts := [] } } R.SYS_STORM 0)))

/-- Loss and return of XIN, commits, locks and band tries of a PLL. XIN_LOST and XIN_RESTORED set CLK.STAT; a refused commit raises
REFUSED; an output-only commit keeps lock and puts the staged dividers in force; loss of lock, lock, band timeout and band retry
change the PLL as their rules say. That the return of XIN resets nothing is the model's reading (log entry 30). Rules: R461 to
R466; log 30. -/
def Obligations.ClockEvents : Prop :=
  (∀ s : State, exec .xinLost s = .next (s.gives { s.m.sf F.CLK_STAT_XIN_OK 0 with sys := { s.m.sys with xinLost := true } }))
  ∧ (∀ s : State, exec .xinRestored s =
      .next (s.gives { s.m.sf F.CLK_STAT_XIN_OK 1 with sys := { s.m.sys with xinLost := false } }))
  ∧ (∀ s : State, s.live → s.m.on F.CLK_STAT_BACKUP = true → s.m.pllLocked 0 = true →
    ∃ m, exec .pllSysReturn s = .next (s.gives m) ∧ s.m.registersOnly m ∧ m.gf F.CLK_STAT_BACKUP = 0 ∧
      m.gf F.FAB_STAT_BACKUP = 0 ∧ m.gf F.SCHED_STAT_BACKUP = 0 ∧ m.gf F.CLK_EVT_RETURN = 1)
  ∧ (∀ (s : State) p v, s.live → p < 4 → v < 2 ^ 32 → bitOf v 0 = true → s.m.pllRefuse p = true →
    exec (.pllCommit p v) s = .next (s.gives (s.m.evt F.CLK_EVT_REFUSED)))
  ∧ (∀ (s : State) p v, s.live → p < 4 → v < 2 ^ 32 → bitOf v 0 = true → s.m.pllRefuse p = false → s.m.pllLocked p = true →
    s.m.rd R.CLK_PLL_CTRL p = s.m.lv R.CLK_PLL_CTRL p → s.m.rd R.CLK_PLL_FRAC p = s.m.lv R.CLK_PLL_FRAC p →
    ∃ m, exec (.pllCommit p v) s = .next (s.gives m) ∧ m.pllLocked p = true ∧
      ∀ o, o < 4 → m.lv R.CLK_PLL_OUT_DIV p o = s.m.rd R.CLK_PLL_OUT_DIV p o)
  ∧ (∀ (s : State) p e, s.live → p < 4 → s.m.pllLocked p = true →
    ∃ m, exec (.pllLossOfLock p e) s = .next (s.gives m) ∧ m.pllLocked p = false ∧
      m.rd R.CLK_PLL_LOL p = Nat.min 0xFFFFFFFF (s.m.rd R.CLK_PLL_LOL p + 1))
  ∧ (∀ (s : State) p, s.live → p < 4 → s.m.pllState p = 1 → (s.m.pllSt p).wait = none → s.m.phase ≠ 2 →
    ∃ m, exec (.pllLock p) s = .next (s.gives m) ∧ m.pllState p = 3 ∧ bitOf (m.gf F.CLK_EVT_LOCK) p = true)
  ∧ (∀ (s : State) p a b r, s.live → p < 4 → s.m.pllState p = 1 → (s.m.pllSt p).cand = a :: b :: r → b < 16 →
    ∃ m, exec (.bandTimeout p) s = .next (s.gives m) ∧ m.gf F.CLK_PLL_STAT_BAND p = b ∧ (m.pllSt p).cand = b :: r)
  ∧ (∀ (s : State) p b r, s.live → p < 4 → s.m.pllState p = 5 → s.m.bandCands p = b :: r →
    ∃ m, exec (.bandRetry p) s = .next (s.gives m) ∧ m.gf F.CLK_PLL_STAT_BAND p = b ∧ (m.pllSt p).cand = b :: r)

/-- Requests, responses, time-outs and broken locks on the matrix. A permitted request is given to its target; a good write response
puts its bytes into memory and nothing else, a good read response returns the bytes of memory; an errored response writes
nothing, returns zeros and counts; a time-out empties the target and counts; a broken lock is freed and told. Rules: R470 to
R476. -/
def Obligations.BusTransactions : Prop :=
  (∀ (s : State) x, s.live → x.ok = true → (x.master = 6 → s.m.d3hot = false) → 1 ≤ x.len → x.len ≤ 256 → x.lock = false → x.unlock = false →
    s.m.bus.waiting = [] → s.m.bus.out = [] → s.m.bus.locks = [] → s.m.matrixCode x.master x.id x.addr x.len x.wr = 0 →
    ∃ m : Mach, exec (.busRequest x) s = .next (s.gives m) ∧ m.bus = { s.m.bus with out := [x] } ∧ m.mem = s.m.mem ∧
      m.gf F.MATRIX_TSTAT_PARK (s.m.target x.addr) = x.master)
  ∧ (∀ (s : State) i d t x, s.live → i < 10 → d < 64 → t = 3 ∨ t = 4 ∨ t = 6 → s.m.bus.waiting = [] →
    s.m.oldestOut i d t true = some x →
    ∃ m : Mach, exec (.busResponse i d t true 0) s = .next (s.gives m) ∧ m.mem = memPut s.m.mem x.addr x.data ∧
      m.bus.out = dropOne x s.m.bus.out ∧ m.bus.resp = some ⟨x.master, x.id, t, 0, []⟩)
  ∧ (∀ (s : State) i d t x, s.live → i < 10 → d < 64 → t = 3 ∨ t = 4 ∨ t = 6 → s.m.bus.waiting = [] →
    s.m.oldestOut i d t false = some x →
    ∃ m : Mach, exec (.busResponse i d t false 0) s = .next (s.gives m) ∧ m.mem = s.m.mem ∧ m.bus.out = dropOne x s.m.bus.out ∧
      m.bus.resp = some ⟨x.master, x.id, t, 0, memGet s.m.mem x.addr x.len⟩)
  ∧ (∀ (s : State) i d t x w c, s.live → i < 10 → d < 64 → t < 8 → 1 ≤ c → c ≤ 6 → s.m.bus.waiting = [] →
    s.m.oldestOut i d t w = some x →
    ∃ m : Mach, exec (.busResponse i d t w c) s = .next (s.gives m) ∧ m.mem = s.m.mem ∧ m.bus.out = dropOne x s.m.bus.out ∧
      m.bus.resp = some ⟨x.master, x.id, t, c, if w then [] else List.replicate x.len 0⟩ ∧
      m.rd R.MATRIX_ERRORS = Nat.min 0xFFFFFFFF (s.m.rd R.MATRIX_ERRORS + 1))
  ∧ (∀ (s : State) t x, s.live → t < 8 → x ∈ s.m.bus.out → s.m.target x.addr = t → s.m.bus.waiting = [] →
    ∃ m : Mach, exec (.busTimeout t) s = .next (s.gives m) ∧ m.gf F.MATRIX_EVT_TIMEOUT = 1 ∧ m.mem = s.m.mem ∧
      (∀ y, y ∈ m.bus.out → s.m.target y.addr ≠ t) ∧
      m.rd R.MATRIX_TIMEOUT t = Nat.min 0xFFFFFFFF (s.m.rd R.MATRIX_TIMEOUT t + 1))
  ∧ (∀ (s : State) t l, s.live → t < 8 → mfind s.m.bus.locks t = some l → s.m.bus.waiting = [] →
    ∃ m : Mach, exec (.lockBreak t) s = .next (s.gives m) ∧ m.gf F.MATRIX_EVT_LOCK_BREAK = 1 ∧
      m.rd R.MATRIX_LOCK_BREAK = Nat.min 0xFFFFFFFF (s.m.rd R.MATRIX_LOCK_BREAK + 1) ∧
      m.bus = { s.m.bus with locks := mdel s.m.bus.locks t, told := s.m.bus.told ++ [(l.master, l.id)] } ∧ m.mem = s.m.mem)
  ∧ (∀ (s : State) v, s.live → v < 2 ^ 32 → bitOf v 0 = true →
    exec (.matrixErrClr v) s = .next (s.gives (s.m.sf F.MATRIX_ERR_INFO_VALID 0)))
  ∧ (∀ (s : State) x, s.live → s.m.bus.waiting = [] → s.m.bus.out.find? (fun x => s.m.target x.addr == 6 && !x.wr) = some x →
    ∃ m : Mach, exec .hostCompletionTimeout s = .next (s.gives m) ∧
      m.bus.resp = some ⟨x.master, x.id, 6, 3, List.replicate x.len 0⟩ ∧ m.bus.out = dropOne x s.m.bus.out ∧
      m.rd R.PCIE_CPL_TIMEOUT = Nat.min 0xFFFFFFFF (s.m.rd R.PCIE_CPL_TIMEOUT + 1) ∧ m.mem = s.m.mem)

/-- A register access of a wrong width or alignment is refused; unlisted offsets read zero. Accesses of the register region other
than an aligned word get an error code and change no register outside the matrix and interrupt windows, except the 64-bit
accesses of the MSI-X tables; an offset no register has reads zero, and a write to it changes nothing. Rules: R7, R552, R553. -/
def Obligations.RegisterRegionAccesses : Prop :=
  (∀ (s : Mach) m id a n wr, a < 0x1000000 → n ≠ 4 ∨ a % 4 ≠ 0 → ¬ (0xE01000 ≤ a ∧ a < 0xE02008 ∧ n = 8 ∧ a % 8 = 0) → s.matrixCode m id a n wr ≠ 0)
  ∧ (∀ (s : State) x, s.live → x.ok = true → (x.master = 6 → s.m.d3hot = false) → x.addr < 0x1000000 → 1 ≤ x.len → x.len ≤ 256 → x.len ≠ 4 ∨ x.addr % 4 ≠ 0 →
    ¬ (0xE01000 ≤ x.addr ∧ x.addr < 0xE02008 ∧ x.len = 8 ∧ x.addr % 8 = 0) → s.m.bus.waiting = [] → s.m.bus.out = [] → s.m.bus.locks = [] →
    ∃ m : Mach, exec (.busRequest x) s = .next (s.gives m) ∧
      (∃ c, c ≠ 0 ∧ m.bus = { s.m.bus with resp := some ⟨x.master, x.id, s.m.target x.addr, c, if x.wr then [] else List.replicate x.len 0⟩ }) ∧
      noStore busFrame s.m m ∧ s.m.outside m [(0x500000, 0x600000), (0xD00000, 0xF00000)])
  ∧ (∀ (s : Mach) id a wr, s.phase = 6 → s.isolated a = false → 0xE01000 ≤ a → a < 0xE02008 → a % 8 = 0 → s.matrixCode 6 id a 8 wr = 0)
  ∧ (∀ (s : Mach) a, regAt a = none → s.regRead a = (0, s))
  ∧ (∀ (s : State) a v pcie valid, s.live → v < 2 ^ 32 → a < 0x1000000 → regAt a = none →
    s.m.matrixCode (if pcie then 6 else 0) 0 a 4 true = 0 → exec (.registerWrite a v pcie valid) s = .next (s.gives s.m))
  ∧ (∀ a, 0xF00000 ≤ a → regAt a = none)

/-- Read-clears, counter pairs, plain writes and the merge of a write. A read of an RC field clears just its bits; a read of a low
counter word holds the high word; a register write is the write of its register; the write of a bit follows its access code:
kept when it has none, taken when RW or RWC, cleared by one when W1C. Rules: R8 to R11. -/
def Obligations.RegisterAccesses : Prop :=
  (∀ (s : State) a w i j, s.live → regAt a = some (w, i, j) → w.rc ≠ 0 → s.m.instOk w.reg i = true →
    (∀ p ∈ pairs64, p.1 ≠ w.reg ∧ p.2 ≠ w.reg) → w.reg ≠ R.TIME_NOW_NS →
    exec (.rcFieldRead a) s = .next (s.gives (s.m.wr w.reg (s.m.rd w.reg i j &&& (0xFFFFFFFF - w.rc)) i j)))
  ∧ (∀ (s : State) a w i j p, s.live → regAt a = some (w, i, j) → s.m.instOk w.reg i = true → w.rc = 0 → w.reg ≠ R.TIME_NOW_NS →
    p ∈ pairs64 → p.1 = w.reg →
    exec (.counterLowRead a) s = .next (s.gives { s.m with hold := mput s.m.hold (p.2.at_ i j) (BitVec.ofNat 32 (s.m.word p.2 i j)) }))
  ∧ (∀ (s : State) a v pcie valid, s.live → v < 2 ^ 32 → a < 0x1000000 → (pcie = true → s.m.d3hot = false) →
    s.m.matrixCode (if pcie then 6 else 0) 0 a 4 true = 0 →
    exec (.registerWrite a v pcie valid) s = .next (s.gives (s.m.regWrite a v pcie valid)))
  ∧ (∀ (s : State) a v valid w i j, s.live → v < 2 ^ 32 → a < 0x1000000 → regAt a = some (w, i, j) → s.m.instOk w.reg i = true →
    0x500000 ≤ w.reg.base → w.reg.base < 0x600000 → w.reg ≠ R.MATRIX_ERR_CLR → s.m.matrixCode 0 0 a 4 true = 0 → w.w1c = 0 →
    exec (.registerWrite a v false valid) s = .next (s.gives (s.m.wr w.reg (w.merge (s.m.rd w.reg i j) v) i j)))
  ∧ (∀ (w : RegRow) (o v k : Nat), k < 32 → v < 2 ^ 32 → w.rw < 2 ^ 32 → w.rwc < 2 ^ 32 →
      (bitOf w.w1s k = false → bitOf w.rw k = false → bitOf w.rwc k = false → bitOf w.w1c k = false → bitOf (w.merge o v) k = bitOf o k) ∧
      (bitOf w.w1s k = false → bitOf w.w1c k = false → (bitOf w.rw k = true ∨ bitOf w.rwc k = true) → bitOf (w.merge o v) k = bitOf v k) ∧
      (bitOf w.w1s k = false → bitOf w.rw k = false → bitOf w.rwc k = false → bitOf w.w1c k = true →
        bitOf (w.merge o v) k = (bitOf o k && !bitOf v k)))

/-- A read of TIME.NOW_NS latches the seconds that go with it. NOW_NS answers the nanoseconds of network time and latches NOW_SEC_LO
and NOW_SEC_HI, which read the seconds of that same instant however time goes on. Rules: R436. -/
def Obligations.NowReadsAreOneInstant : Prop :=
  (∀ s : Mach, (s.regRead 0x380018).1 = s.tm.netNs % 1000000000)
  ∧ (∀ (s : Mach) (later : TimeSt), let t := (s.regRead 0x380018).2
      (({ t with tm := later }).regRead 0x38001C).1 = s.tm.netNs / 1000000000 % 2 ^ 32
      ∧ (({ t with tm := later }).regRead 0x380020).1 = s.tm.netNs / 1000000000 / 2 ^ 32 % 2 ^ 16)
  ∧ (∀ s : Mach, s.tm.netNs = s.tm.net / 65536)
  ∧ (∀ s : State, s.live → exec .timeNowNsRead s = .next (s.gives (s.m.regRead 0x380018).2))

/-- Start, refusal, stop, last write and descriptor of a DMA channel. A GO on an idle channel starts its first burst; on a busy
channel it is refused; a stop is noted; the last write burst stores its bytes, ends the run and sets DONE; a fetched descriptor
loads SRC, DST, NEXT and CNT. One burst at a time is the model's reading (log entry 48). Rules: R481 to R488; log 48. -/
def Obligations.DmaTransfers : Prop :=
  (∀ (s : State) c v, s.live → c < 28 → v < 2 ^ 32 → s.m.on F.DMA_STAT_BUSY c = false → s.m.rd R.DMA_CNT c ≠ 0 →
    s.m.rd R.DMA_CNT c % swapSize (bits v 3 2) = 0 →
    ∃ m : Mach, exec (.dmaGo c v true) s = .next (s.gives m) ∧ m.gf F.DMA_STAT_BUSY c = 1 ∧ m.rd R.DMA_CTRL c = v &&& 0x3FC ∧
      m.rd R.DMA_HOPS c = 0 ∧ m.mem = s.m.mem ∧ (∃ n, (m.dmaSt c).phase = .read 0 n ∧ n ≤ s.m.rd R.DMA_CNT c))
  ∧ (∀ (s : State) c v, s.live → c < 32 → v < 2 ^ 32 → s.m.on F.DMA_STAT_BUSY c = true →
    exec (.dmaGo c v false) s = .next (s.gives (s.m.evt F.DMA_EVT_REFUSED)))
  ∧ (∀ (s : State) c, s.live → c < 28 → s.m.on F.DMA_STAT_BUSY c = true → (s.m.dmaSt c).tries = 0 →
    exec (.dmaCtrlStop c true) s = .next (s.gives { s.m with dma := mput s.m.dma c { s.m.dmaSt c with stopReq := true } }))
  ∧ (∀ (s : State) c off n, s.live → c < 32 → (s.m.dmaSt c).phase = .write off n → off = (s.m.dmaSt c).doneB →
    off + n = (s.m.dmaSt c).total → (s.m.dmaSt c).inChain = false → s.m.on F.DMA_CTRL_CHAIN c = false →
    s.m.matrixCode 7 c ((s.m.dmaSt c).dst + off) n true = 0 → s.m.target ((s.m.dmaSt c).dst + off) ≠ 5 →
    ∃ m : Mach, exec (.dmaBurstDone c 0) s = .next (s.gives m) ∧ m.gf F.DMA_STAT_DONE c = 1 ∧ m.gf F.DMA_STAT_BUSY c = 0 ∧
      bitOf (m.rd R.DMA_DONE) c = true ∧ m.mem = memPut s.m.mem ((s.m.dmaSt c).dst + off) ((s.m.dmaSt c).buf.take n))
  ∧ (∀ (s : State) c a, s.live → c < 32 → (s.m.dmaSt c).phase = .fetch → (s.m.dmaSt c).stopReq = false →
    a = s.m.dmaAddr R.DMA_NEXT_LO R.DMA_NEXT_HI c → s.m.matrixCode 7 (32 + c) a 32 false = 0 → s.m.target a ≠ 5 →
    fld (memGet s.m.mem a 32) 28 4 < 16 → fld (memGet s.m.mem a 32) 24 4 % swapSize (bits (fld (memGet s.m.mem a 32) 28 4) 2 2) = 0 →
    (fld (memGet s.m.mem a 32) 16 8 ≠ a ∨ fld (memGet s.m.mem a 32) 28 4 % 2 = 1) →
    ∃ m : Mach, exec (.dmaDescFetch c 0) s = .next (s.gives (m.dmaRun c)) ∧
      m.rd64 R.DMA_SRC_LO R.DMA_SRC_HI c = fld (memGet s.m.mem a 32) 0 8 ∧ m.rd64 R.DMA_DST_LO R.DMA_DST_HI c = fld (memGet s.m.mem a 32) 8 8 ∧
      m.rd64 R.DMA_NEXT_LO R.DMA_NEXT_HI c = fld (memGet s.m.mem a 32) 16 8 ∧ m.rd R.DMA_CNT c = fld (memGet s.m.mem a 32) 24 4 ∧
      m.mem = s.m.mem)

/-- Refresh, calibration, drain, scrub, replay and frequency changes of the DRAM controller. Refreshes close the rows they name; ZQ,
DQS and temperature rows do their one effect; a drain leaves WR_LO lines and no byte of memory changed; clears zero their
registers; holds, replays, and a frequency change that starts, switches, is refused or abandoned change the controller as
stated, and memory keeps its bytes. Rules: R493 to R508. -/
def Obligations.DramMaintenanceAndEcc : Prop :=
  (∀ s : State, s.live →
    ∃ m, exec (.dramRefresh none) s = .next (s.gives m) ∧ m.ddr.refreshes = s.m.ddr.refreshes + 1 ∧
      ∀ e ∈ m.ddr.banks, e.2.row = none)
  ∧ (∀ (s : State) b, s.live →
    ∃ m, exec (.dramRefresh (some b)) s = .next (s.gives m) ∧ m.ddr.refreshes = s.m.ddr.refreshes + 1 ∧
      (∀ e ∈ m.ddr.banks, e.1 = b → e.2.row = none) ∧ ∀ e ∈ s.m.ddr.banks, e.1 ≠ b → e ∈ m.ddr.banks)
  ∧ (∀ s : State, s.live →
    exec .dramZqCal s = .next (s.gives { s.m with ddr := { s.m.ddr with zqs := s.m.ddr.zqs + 1 } }))
  ∧ (∀ s : State, s.live →
    exec .dramDqsTrack s = .next (s.gives { s.m with ddr := { s.m.ddr with tracks := s.m.ddr.tracks + 1 } }))
  ∧ (∀ (s : State) t, s.live → 85 < t →
    exec (.dramTempRead t) s =
      .next (s.gives { s.m.evt F.DDRC_EVT_TEMP_HIGH with ddr := { s.m.ddr with hot := true } }))
  ∧ (∀ (s : State) t, s.live → t ≤ 80 →
    exec (.dramTempRead t) s = .next (s.gives { s.m with ddr := { s.m.ddr with hot := false } }))
  ∧ (∀ s : State, s.live → s.m.dramUp = true → s.m.ddr.wq.length ≥ s.m.gf F.DDRC_CFG_WR_HI → s.m.ddr.wq.length > s.m.gf F.DDRC_CFG_WR_LO →
    ∃ m, exec .dramWriteDrain s = .next (s.gives m) ∧ m.ddr.wq.length = s.m.gf F.DDRC_CFG_WR_LO ∧
      m.regs = s.m.regs ∧ m.mem = s.m.mem ∧ m.ddr.bad = s.m.ddr.bad)
  ∧ (∀ (s : State) v, s.live → v < 2 ^ 32 → bitOf v 0 = true →
    exec (.ddrcEccClr v) s = .next (s.gives (s.m.sf F.DDRC_ECC_INFO_VALID 0)))
  ∧ (∀ (s : State) v, s.live → v < 2 ^ 32 → bitOf v 0 = true →
    ∃ m, exec (.ddrcCntClr v) s = .next (s.gives m) ∧ s.m.registersOnly m ∧
      ∀ r ∈ [R.DDRC_ECC_CORR, R.DDRC_ECC_UNCORR, R.DDRC_REPLAY, R.DDRC_REPLAY_FAIL, R.DDRC_FREQ_CHG, R.DDRC_FREQ_FAIL, R.DDRC_RMW],
        m.rd r = 0)
  ∧ (∀ (s : State) f n, s.live → f < 512 → n ∈ (s.m.feed f).todo →
    ∃ m, exec (.dramWriteComplete 1 f n) s = .next (s.gives m) ∧ n ∉ (m.feed f).todo ∧ m.mem = s.m.mem ∧ m.regs = s.m.regs ∧
      ∀ g, g ≠ f → m.feed g = s.m.feed g)
  ∧ (∀ s : State, s.live → s.m.ddr.held = true → exec .dramHoldTimeout s = .next (s.gives (s.m.dramAnswer 3)))
  ∧ (∀ (s : State) c, s.live → s.m.ddr.chg = some c → c.switched = false →
    ∃ m : Mach, exec .dramFreqSwitch s = .next (s.gives m) ∧ m.ddr.wq = [] ∧ m.ddr.chg = some { c with switched := true } ∧
      (∀ e ∈ m.ddr.banks, e.2.row = none) ∧ m.gf F.CLK_PLL_STAT_STATE 3 = 2 ∧ bitOf (m.gf F.CLK_STAT_LOCKED) 3 = false ∧
      m.mem = s.m.mem)
  ∧ (∀ (s : State) c, s.live → s.m.ddr.chg = some c → c.switched = true → c.abandoned = false → c.set < 2 →
    ∃ m : Mach, exec .dramFreqAbandon s = .next (s.gives (m.freqReply c ST.HW_FAULT 7)) ∧ m.gf F.DDRC_SET_TRAINED c.set = 0 ∧
      m.rd R.DDRC_FREQ_FAIL = Nat.min 0xFFFFFFFF (s.m.rd R.DDRC_FREQ_FAIL + 1) ∧ m.gf F.DDRC_EVT_FREQ_FAIL = 1 ∧
      m.ddr = { s.m.ddr with chg := some { c with abandoned := true, origin := none } })
  ∧ (∀ (s : State) v, s.live → v < 2 ^ 32 → bitOf v 31 = true → s.m.freqRefuse (v % 2) = 0 → s.m.gf F.DDRC_STAT_SET ≠ v % 2 →
    exec (.ddrcFreqGo v) s = .next (s.gives ((s.m.sf F.DDRC_FREQ_CTRL_SET (v % 2)).freqStart (v % 2) none)))
  ∧ (∀ (s : State) v, s.live → v < 2 ^ 32 → bitOf v 31 = true → s.m.freqRefuse (v % 2) ≠ 0 →
    exec (.ddrcFreqGo v) s = .next (s.gives ((s.m.sf F.DDRC_FREQ_CTRL_SET (v % 2)).evt F.DDRC_EVT_REFUSED)))
  ∧ (∀ s : State, s.live → s.m.ddrState = 1 ∨ s.m.ddrState = 4 →
    ∃ m : Mach, exec (.dramAlert true) s = .next (s.gives m) ∧ m.ddrState = 1 ∧ m.ddr.fails = 0 ∧ m.gf F.DDRC_EVT_REPLAY = 1 ∧
      m.rd R.DDRC_REPLAY = Nat.min 0xFFFFFFFF (s.m.rd R.DDRC_REPLAY + 1) ∧ m.mem = s.m.mem)
  ∧ (∀ s : State, s.live → s.m.ddrState = 1 → s.m.ddr.fails < 2 →
    ∃ m : Mach, exec (.dramAlert false) s = .next (s.gives m) ∧ m.ddrState = 4 ∧ m.ddr.fails = s.m.ddr.fails + 1 ∧ m.mem = s.m.mem)
  ∧ (∀ (s : State) a r, s.live → r < 8 → s.m.target a = 5 →
    exec (.dramReadComplete a r) s = .next (s.gives (s.m.readLine r a)) ∧ (s.m.readLine r a).mem = s.m.mem)
  ∧ (∀ s : State, s.live → s.m.on F.DDRC_SCRUB_CFG_EN = true → s.m.dramSize ≠ 0 → s.m.dramUp = true →
    ∃ m : Mach, exec .scrubRead s = .next (s.gives m) ∧ m.ddr.scrub = (s.m.ddr.scrub + 64) % s.m.dramSize ∧ m.mem = s.m.mem)

/-- Completion stamps, abandonment, hangs and the end of a fabric tick. A completion in time is stamped; a late one is stamped and
counted; ABANDON marks the open engines of a class; an acknowledgement or a hang settles one; the tick ends when no engine is
open and its hand-off is formed. Rules: R226 to R236. -/
def Obligations.FabricEngines : Prop :=
  (∀ (s : State) e n, e < 106 → s.live → s.m.engRuns e = true → mfind s.m.rend.fab.stamps e = none → e ∈ s.m.engOpen →
    s.m.timerCycles n ≤ deadline (engClass e) →
    exec (.engineComplete e n) s = .next (s.gives (s.m.onFab (fun q =>
      { q with stamps := mput q.stamps e (s.m.timerCycles n) }))))
  ∧ (∀ (s : State) e n, e < 106 → s.live → s.m.engRuns e = true → mfind s.m.rend.fab.stamps e = none → e ∈ s.m.engOpen →
    s.m.timerBackup = false → deadline (engClass e) < n → n ≤ lateLimit (engClass e) →
    ∃ m : Mach, exec (.engineComplete e n) s = .next (s.gives m) ∧ m.rend.fab = { s.m.rend.fab with stamps := mput s.m.rend.fab.stamps e n }
      ∧ m.rd R.FAB_ENG_LATE e = Nat.min 0xFFFFFFFF (s.m.rd R.FAB_ENG_LATE e + 1) ∧ m.on F.FAB_EVT_LATE = true)
  ∧ (∀ (s : State) c, c < 4 → s.live → exec (.engineAbandon c) s = .next (s.gives (s.m.onFab (fun q =>
      { q with aband := q.aband ++ s.m.engOpen.filter (fun e => engClass e == c) }))))
  ∧ (∀ (s : State) e, e < 106 → s.live → e ∈ s.m.rend.fab.aband → exec (.engineAbandonAck e) s = .next (s.gives (s.m.onFab (fun q =>
      { q with aband := q.aband.filter (· != e), acked := q.acked ++ [e] }))))
  ∧ (∀ (s : State) e w, e < 106 → s.live → e ∈ s.m.rend.fab.aband → s.m.rend.work = some w →
    ∃ m : Mach, exec (.fabricHang e) s = .next (s.gives (m.raise E.FABRIC_HANG e (w.tick % 2 ^ 32)))
      ∧ e ∈ m.rend.fab.hung ∧ e ∉ m.rend.fab.aband ∧ e ∉ m.rend.fab.acked ∧ m.on F.FAB_EVT_HANG = true ∧ m.on F.FAB_HANG_ENG_VALID = true
      ∧ m.gf F.FAB_HANG_ENG_ENG = if s.m.on F.FAB_HANG_ENG_VALID then s.m.gf F.FAB_HANG_ENG_ENG else e)
  ∧ (∀ (s : State) w, s.live → s.m.rend.work = some w → s.m.engOpen = [] → s.m.rend.fab.aband = [] →
    ∃ m : Mach, exec .fabricDone s = .next (s.gives m) ∧ m.rend.work = none ∧ m.rend.hand.map Prod.fst = some w.tick
      ∧ m.rend.fab.stamps = [] ∧ m.rend.fab.acked = [])
  ∧ (∀ (s : State), s.live → s.m.rend.work.isSome → s.m.engOpen ≠ [] ∨ s.m.rend.fab.aband ≠ [] → exec .fabricDone s = .next (s.gives s.m))

/-- Groups gate when they may, and wake in herd windows that fit the step budget. An idle group that may gate gates and its Sward is
lost for front ends; other groups stay; a herd window releases the groups that fit in the current step budget, in order, and
none when a voltage step is out; a group reports awake. Rules: R238, R239, R257. -/
def Obligations.GatingAndHerdRelease : Prop :=
  (∀ (s : State) k, k < 20 → s.live → s.m.gated k = false → s.m.mayGate k = true → s.m.groupIdle k = true →
    s.m.gateTicks ≤ mget 0 s.m.rend.fab.idle k →
    ∃ m : Mach, exec (.engineGroupGate k) s = .next (s.gives m) ∧ m.gated k = true ∧ m.on F.FAB_EVT_GATE = true
      ∧ (∀ j, j < 20 → j ≠ k → m.gated j = s.m.gated j)
      ∧ (16 ≤ k → ∀ o q, mfind m.rend.omem o = some q → o / 128 = k - 16 → q.ring = []))
  ∧ (∀ (s : State) k, k < 20 → s.live → s.m.gated k = true ∨ s.m.mayGate k = false ∨ s.m.groupIdle k = false ∨
    mget 0 s.m.rend.fab.idle k < s.m.gateTicks →
    exec (.engineGroupGate k) s = .next (s.gives s.m))
  ∧ (∀ (s : State), s.live → s.m.herdOrder ≠ [] → exec (.herdWindow false) s = .next (s.gives (s.m.onFab (fun q =>
      { q with windows := Nat.min 31 (q.windows + 1),
               waking := q.waking.map (fun e =>
                 if (herdFit (s.m.gf F.FAB_SUP_OPT_ISTEP) s.m.herdOrder).contains e.1 then (e.1, { e.2 with st := 1 }) else e) }))))
  ∧ (∀ (s : State), s.live → s.m.herdOrder ≠ [] → exec (.herdWindow true) s = .next (s.gives (s.m.onFab (fun q =>
      { q with windows := Nat.min 31 (q.windows + 1) }))))
  ∧ (∀ room l, ((herdFit room l).map stepOf).sum ≤ room ∧ herdFit room l <+: l)
  ∧ (∀ (s : State) k, k < 20 → s.live → exec (.groupAwake k) s = .next (s.gives (s.m.onFab (fun q =>
      { q with waking := q.waking.map (fun e => if e.1 = k ∧ e.2.st = 1 then (e.1, { e.2 with st := 2 }) else e) }))))

/-- Sensor reads, supply writes, the ageing log, tier approvals and Ibex steps. Tj and Fawn reads store what they read, also where
the birth record is bad; an AVS write settles or fails and is raised at the third failure; STUCK is raised once; the day log is
written with its CRC and its totals start anew; approvals clear or grant a request; Ibex steps VDD up by 5 mV below its target.
The third failure and the log's slots are the model's readings (log entries 105 and 110). Rules: R243 to R255. -/
def Obligations.SupplyAgeingAndPlanning : Prop :=
  (∀ (s : State) t, s.live → ∃ m : Mach, exec (.tjRead t) s = .next (s.gives m) ∧ m.rend.ibex.tj = t ∧ m.rend.ibex.tjMax = max s.m.rend.ibex.tjMax t
      ∧ m.rend.log.tjMax = max s.m.rend.log.tjMax t ∧ m.regs = s.m.regs)
  ∧ (∀ (s : State) r, s.live → s.m.power ≤ 1 →
    ∃ m : Mach, exec (.fawnRead r) s = .next (s.gives m) ∧ (∀ k, k < 48 → m.gf F.FAB_FAWN_RATE_RATE k = r.getD k 0 % 2 ^ 24)
      ∧ (s.m.rend.ibex.birthBad = false → m.rend.ibex.vRead = s.m.vddNow ∧ m.rend.ibex.tjRead = s.m.rend.ibex.tj
        ∧ s.m.gf F.FAB_VFLOOR_NOW ≤ m.gf F.FAB_VFLOOR_NOW))
  ∧ (∀ (s : State) r, s.live → 1 < s.m.power → exec (.fawnRead r) s = .next (s.gives s.m))
  ∧ (∀ (s : State), s.live → s.m.rend.ibex.busy = true → exec (.avsWrite true) s = .next (s.gives (s.m.onIbex (fun q =>
      { q with busy := false, fails := 0, avsFail := false, vGood := q.vdd, settleAt := q.wroteAt + q.step * 100000 / Nat.max 1 (s.m.gf F.FAB_SUP_OPT_SLEW) }))))
  ∧ (∀ (s : State), s.live → s.m.rend.ibex.busy = true → s.m.rend.ibex.avsFail = false → s.m.rend.ibex.fails < 2 →
    exec (.avsWrite false) s = .next (s.gives (((s.m.bump R.FAB_AVS_ERR).evt F.FAB_IBEX_EVT_AVS_ERR).onIbex (fun q =>
      { q with fails := q.fails + 1, wroteAt := s.m.tm.up }))))
  ∧ (∀ (s : State), s.live → s.m.rend.ibex.busy = true → s.m.rend.ibex.avsFail = false → s.m.rend.ibex.fails = 2 →
    exec (.avsWrite false) s = .next (s.gives ((((s.m.bump R.FAB_AVS_ERR).evt F.FAB_IBEX_EVT_AVS_ERR).onIbex (fun q =>
      { q with busy := false, fails := 0, avsFail := true })).raise E.AVS_FAIL 0 s.m.rend.ibex.vdd)))
  ∧ (∀ (s : State), s.live → s.m.rend.ibex.busy = true → s.m.rend.ibex.avsFail = true →
    exec (.avsWrite false) s = .next (s.gives (((s.m.bump R.FAB_AVS_ERR).evt F.FAB_IBEX_EVT_AVS_ERR).onIbex (fun q => { q with busy := false }))))
  ∧ (∀ (s : State) b, s.live → s.m.rend.ibex.busy = false → exec (.avsWrite b) s = .next (s.gives s.m))
  ∧ (∀ (s : State), s.live → s.m.rend.ibex.enterM3 = none ∨ s.m.rend.ibex.stuck = true → exec .ibexStuck s = .next (s.gives s.m))
  ∧ (∀ (s : State) a, s.live → s.m.rend.ibex.enterM3 = some a → s.m.tm.tick < a + 6000 → exec .ibexStuck s = .next (s.gives s.m))
  ∧ (∀ (s : State) a, s.live → s.m.rend.ibex.enterM3 = some a → s.m.rend.ibex.stuck = false → a + 6000 ≤ s.m.tm.tick →
    exec .ibexStuck s = .next (s.gives (((s.m.onIbex (fun q => { q with stuck := true })).evt F.FAB_IBEX_EVT_STUCK).raise E.STUCK 0
      (s.m.tm.tick - a))))
  ∧ (∀ (s : State), s.live → s.m.phase = 6 → s.m.rend.log.day < s.m.rtcNow / 86400 →
    ∃ m : Mach, ∃ b : List Byte, b.length = 28 ∧ exec .ageingLogWrite s = .next (s.gives m)
      ∧ m.mem = memPut s.m.mem (logAddr s.m.rend.log.count) (b ++ toLE 4 (crc32c b))
      ∧ m.gf F.FAB_LOG_STAT_COUNT = Nat.min 4096 (s.m.gf F.FAB_LOG_STAT_COUNT + 1)
      ∧ m.rend.log.day = s.m.rtcNow / 86400 ∧ m.rend.log.count = (s.m.rend.log.count + 1) % 4096 ∧ m.rend.log.actTicks = 0)
  ∧ (∀ (s : State), s.live → s.m.phase ≠ 6 ∨ s.m.rtcNow / 86400 ≤ s.m.rend.log.day → exec .ageingLogWrite s = .next (s.gives s.m))
  ∧ (∀ (s : State) v, v < 0x100000000 → s.live → bitOf v 0 = false → exec (.fabMinClr v) s = .next (s.gives s.m))
  ∧ (∀ (s : State) v, v < 0x100000000 → s.live → bitOf v 0 = true →
    ∃ m : Mach, exec (.fabMinClr v) s = .next (s.gives m) ∧ (∀ e, e < 106 → m.gf F.FAB_ENG_SLACK_MIN e = 0x7FFF)
      ∧ m.rd R.FAB_SLACK_MIN = 0x7FFF ∧ (∀ e, e < 106 → m.gf F.FAB_ENG_SLACK_LAST e = s.m.gf F.FAB_ENG_SLACK_LAST e) ∧ s.m.registersOnly m)
  ∧ (∀ (s : State) v, v < 0x100000000 → s.live → s.m.rend.ibex.req = none → bitOf v 16 = false →
    exec (.ibexApproveWrite v) s = .next (s.gives (s.m.wr R.FAB_IBEX_APPROVE (((s.m.rd R.FAB_IBEX_APPROVE ||| v) &&& 3) ||| (v &&& 0x300)))))
  ∧ (∀ (s : State) v, v < 0x100000000 → s.live → bitOf v 16 = true →
    ∃ m : Mach, exec (.ibexApproveWrite v) s = .next (s.gives m) ∧ m.rend.ibex = { s.m.rend.ibex with req := none } ∧ m.rd R.FAB_IBEX_REQ = 0)
  ∧ (∀ (s : State) v t e, v < 0x100000000 → s.live → s.m.rend.ibex.req = some (t, e) → t = 2 ∨ t = 3 → bitOf v 16 = false →
    bitOf v (t - 2) = true ∨ bitOf v (t + 6) = true →
    ∃ m : Mach, exec (.ibexApproveWrite v) s = .next (s.gives m) ∧ m.rend.ibex.moveTo = some (t, e) ∧ m.rend.ibex.req = none)
  ∧ (∀ (s : State), s.live → s.m.power ≠ 0 ∨ s.m.tm.ticking = false ∨ s.m.phase ≠ 6 → exec .ibexEvaluate s = .next (s.gives s.m))
  ∧ (∀ (s : State) x, s.live → s.m.power = 0 → s.m.tm.ticking = true → s.m.phase = 6 → s.m.rend.ibex.avsFail = false →
    s.m.rend.ibex.birthBad = false → s.m.rend.ibex.emerg = false → s.m.on F.FAB_IBEX_CFG_HOLD = false → s.m.rend.ibex.degraded = false →
    s.m.rend.ibex.ret = false → s.m.rend.ibex.meas = some x → x < s.m.gf F.FAB_IBEX_CFG_TARGET → s.m.rend.ibex.vdd < 800 → s.m.tierNow < 2 →
    ∃ m : Mach, exec .ibexEvaluate s = .next (s.gives m) ∧ m.rend.ibex.vdd = Nat.min 800 (s.m.rend.ibex.vdd + 5) ∧ m.rend.ibex.busy = true
      ∧ m.rend.ibex.meas = none ∧ m.rd R.FAB_IBEX_UP = Nat.min 0xFFFFFFFF (s.m.rd R.FAB_IBEX_UP + 1) ∧ m.on F.FAB_IBEX_EVT_STEP = true)

/-- Route, bank, trim, gain, mute and look-ahead fades end as their rows say. A finished cross-fade drops the old side and takes the
pending change as the next; a zero crossing puts the waiting value in force; a time-out starts its ramp and is counted; an ended
ramp takes the next waiting value. Rules: R20, R21, R168, R178, R184 to R186, R190. -/
def Obligations.FadesAndWaitsEnd : Prop :=
  (∀ (s : State) i, i < 640 → s.live → exec (.routeXfadeEnd i) s = .next (s.gives (s.m.onChan i (fun c => { c with route := c.route.boundary }))))
  ∧ (∀ (s : State) i, i < 2624 → s.live → ∃ m : Mach, exec (.routeXfadeEnd (640 + i)) s = .next (s.gives m)
      ∧ (m.sink i) = { s.m.sink i with route := (s.m.sink i).route.boundary } ∧ ∀ j, j ≠ i → m.sink j = s.m.sink j)
  ∧ (∀ r : Route, r.old.isSome → 64 ≤ r.pos → r.pend = none → r.boundary = { r with old := none, pos := 0 })
  ∧ (∀ r : Route, ∀ v b, r.old.isSome → 64 ≤ r.pos → r.pend = some (v, b) →
      r.boundary.old = some r.cur ∧ r.boundary.cur.sel = v ∧ r.boundary.pend = none ∧ r.boundary.pos = 0)
  ∧ (∀ (s : State) f c, f < 512 → s.live → (s.m.feed f).xf = some c → 2 ^ c.lenLog ≤ c.pos →
    exec (.bankXfadeEnd f) s = .next (s.gives ((s.m.onFeed f (fun d => { d with live := c.slot, xf := none, linger := true })).evt F.FEED_CORR_EVT_XF_DONE)))
  ∧ (∀ (s : State) f o p, f < 512 → s.live → (s.m.feed f).trimXf = some (o, p) → 64 ≤ p → (s.m.feed f).trimPend = none →
    exec (.trimXfadeEnd f) s = .next (s.gives (s.m.onFeed f (fun d => { d with trimXf := none, trimPend := none }))))
  ∧ (∀ (s : State) f o p t, f < 512 → s.live → (s.m.feed f).trimXf = some (o, p) → 64 ≤ p → (s.m.feed f).trimPend = some t → t ≠ (s.m.feed f).trim →
    exec (.trimXfadeEnd f) s = .next (s.gives (s.m.onFeed f (fun d => { d with trim := t, trimXf := some (d.trim, 0), trimPend := none }))))
  ∧ (∀ (s : State) f n i z, f < 512 → s.live → (s.m.feed f).gain.ramp = none → (s.m.feed f).gain.wait = some (n, i, z) → i < z →
    exec (.zeroCrossing f false) s = .next (s.gives (s.m.onFeed f (fun d => { d with gain := { d.gain with cur := n, wait := none } }))))
  ∧ (∀ (s : State) f n i z, f < 512 → s.live → (s.m.feed f).mute.ramp = none → (s.m.feed f).mute.wait = some (n, i, z) → i < z →
    exec (.zeroCrossing f true) s = .next (s.gives (s.m.onFeed f (fun d => { d with mute := { d.mute with cur := n, wait := none } }))))
  ∧ (∀ (s : State) f n i z, f < 512 → s.live → (s.m.feed f).gain.ramp = none → (s.m.feed f).gain.wait = some (n, i, z) → z ≤ i →
    exec (.zcTimeout f false) s = .next (s.gives (((s.m.onFeed f (fun d =>
      { d with gain := { d.gain with wait := none, ramp := some (d.gain.cur, n, 0) } })).bump R.FEED_ZC_TIMEOUT).evt F.FEED_OUT_EVT_ZC_TIMEOUT)))
  ∧ (∀ (s : State) f n i z, f < 512 → s.live → (s.m.feed f).mute.ramp = none → (s.m.feed f).mute.wait = some (n, i, z) → z ≤ i →
    exec (.zcTimeout f true) s = .next (s.gives (((s.m.onFeed f (fun d =>
      { d with mute := { d.mute with wait := none, ramp := some (d.mute.cur, n, 0) } })).bump R.FEED_ZC_TIMEOUT).evt F.FEED_OUT_EVT_ZC_TIMEOUT)))
  ∧ (∀ (s : State) f o n i, f < 512 → s.live → (s.m.feed f).gain.ramp = some (o, n, i) → 64 ≤ i → (s.m.feed f).gain.pend = none →
    exec (.gainRampEnd f false) s = .next (s.gives (s.m.onFeed f (fun d => { d with gain := ⟨n, none, none, none⟩ }))))
  ∧ (∀ (s : State) f o n i v z, f < 512 → s.live → (s.m.feed f).gain.ramp = some (o, n, i) → 64 ≤ i → (s.m.feed f).gain.pend = some (v, z) → v ≠ n →
    exec (.gainRampEnd f false) s = .next (s.gives (s.m.onFeed f (fun d => { d with gain := ⟨n, some (v, 0, z), none, none⟩ }))))
  ∧ (∀ (s : State) f o n i v z, f < 512 → s.live → (s.m.feed f).mute.ramp = some (o, n, i) → 64 ≤ i → (s.m.feed f).mute.pend = some (v, z) → v ≠ n →
    exec (.gainRampEnd f true) s = .next (s.gives (s.m.onFeed f (fun d => { d with mute := ⟨n, some (v, 0, z), none, none⟩ }))))
  ∧ (∀ (s : State) f a b c i, f < 512 → s.live → (s.m.feed f).lim.xf = some (a, b, c, i) → 64 ≤ i →
    exec (.laXfadeEnd f) s = .next (s.gives (s.m.onFeed f (fun d => { d with lim := { d.lim with xf := none, pend := none }.put (s.m.limFields f) }))))

/-- Converter states, lost DRAM writes, playback prefetch and host-object time-outs. ASRC and sink converters move between their
states and no other channel changes; a lost bulk or spectrum write is marked lost; a prefetch appends 16 words of the ring; a
host object that held too long is emptied and counted once; in every other case each of these rows changes nothing. Rules: R56,
R61, R118, R146, R160, R196. -/
def Obligations.ConvertersAndWriteBehind : Prop :=
  (∀ (s : State) i, s.m.chanOk i = true → s.live → (s.m.chan i).route.cur.asrc = 1 → (s.m.chan i).route.cur.bypass = false →
    ∃ m : Mach, exec (.asrcSettling i false) s = .next (s.gives m) ∧ (m.chan i).route = { (s.m.chan i).route with
      cur := { (s.m.chan i).route.cur with asrc := 2, run := 0 } } ∧ ∀ j, j ≠ i → m.chan j = s.m.chan j)
  ∧ (∀ (s : State) i d, s.m.chanOk i = true → s.live → (s.m.chan i).route.old = some d → d.asrc = 1 → d.bypass = false →
    ∃ m : Mach, exec (.asrcSettling i true) s = .next (s.gives m) ∧ (m.chan i).route = { (s.m.chan i).route with
      old := some { d with asrc := 2, run := 0 } } ∧ ∀ j, j ≠ i → m.chan j = s.m.chan j)
  ∧ (∀ (s : State) i, s.m.chanOk i = true → s.live → (s.m.chan i).route.cur.asrc = 2 →
    ∃ m : Mach, exec (.asrcLocked i false) s = .next (s.gives m) ∧ (m.chan i).route = { (s.m.chan i).route with
      cur := { (s.m.chan i).route.cur with asrc := 3, run := 0 } } ∧ ∀ j, j ≠ i → m.chan j = s.m.chan j)
  ∧ (∀ (s : State) i d, s.m.chanOk i = true → s.live → (s.m.chan i).route.old = some d → d.asrc = 2 →
    ∃ m : Mach, exec (.asrcLocked i true) s = .next (s.gives m) ∧ (m.chan i).route = { (s.m.chan i).route with
      old := some { d with asrc := 3, run := 0 } } ∧ ∀ j, j ≠ i → m.chan j = s.m.chan j)
  ∧ (∀ (s : State) i b, i < 640 → s.live → s.m.chanOk i = false → exec (.asrcSettling i b) s = .next (s.gives s.m) ∧ exec (.asrcLocked i b) s = .next (s.gives s.m))
  ∧ (∀ (s : State) i, s.m.chanOk i = true → s.live → (s.m.chan i).route.cur.asrc ≠ 1 ∨ (s.m.chan i).route.cur.bypass = true →
    ∃ m : Mach, exec (.asrcSettling i false) s = .next (s.gives m) ∧ ∀ j, m.chan j = s.m.chan j)
  ∧ (∀ (s : State) i, s.m.chanOk i = true → s.live → (s.m.chan i).route.cur.asrc ≠ 2 →
    ∃ m : Mach, exec (.asrcLocked i false) s = .next (s.gives m) ∧ ∀ j, m.chan j = s.m.chan j)
  ∧ (∀ (s : State) i, s.m.chanOk i = true → s.live → (s.m.chan i).route.old = none →
    ∃ m : Mach, exec (.asrcSettling i true) s = .next (s.gives m) ∧ ∀ j, m.chan j = s.m.chan j)
  ∧ (∀ (s : State) i, s.m.chanOk i = true → s.live → (s.m.chan i).route.old = none →
    ∃ m : Mach, exec (.asrcLocked i true) s = .next (s.gives m) ∧ ∀ j, m.chan j = s.m.chan j)
  ∧ (∀ (s : State) i, i < 2560 → s.live → (s.m.sink i).conv = 1 ∨ (s.m.sink i).conv = 2 →
    exec (.convLocked i) s = .next (s.gives (s.m.onSink i (fun k => { k with conv := 2, run := 3 }))))
  ∧ (∀ (s : State) i, i < 2624 → s.live → 2560 ≤ i ∨ ((s.m.sink i).conv ≠ 1 ∧ (s.m.sink i).conv ≠ 2) → exec (.convLocked i) s = .next (s.gives s.m))
  ∧ (∀ (s : State) o t, o < 512 → s.live → t ∈ (s.m.omem o).todo →
    exec (.bulkWriteLost o t) s = .next (s.gives (s.m.onMem o (fun q => { q with
      todo := q.todo.filter (· != t), lost := t :: q.lost.filter (fun x => decide (t ≤ x + 16448)) }))))
  ∧ (∀ (s : State) o t, o < 512 → s.live → t ∉ (s.m.omem o).todo → exec (.bulkWriteLost o t) s = .next (s.gives s.m))
  ∧ (∀ (s : State) f b, f < 512 → s.live → b ∈ (s.m.feed f).todo →
    exec (.spectrumWriteLost f b) s = .next (s.gives (s.m.onFeed f (fun d => { d with todo := d.todo.filter (· != b), lost := (b :: d.lost).take 32 }))))
  ∧ (∀ (s : State) f b, f < 512 → s.live → b ∉ (s.m.feed f).todo → exec (.spectrumWriteLost f b) s = .next (s.gives s.m))
  ∧ (∀ (s : State) o, o < s.m.variant.objects → o < 512 → s.live → (s.m.hpo o).host = true → (s.m.hpo o).timed = false → (s.m.hpo o).pend = [] →
    s.m.glv F.RENDER_HP_CFG_HOLDMAX o ≤ (s.m.hpo o).hold →
    exec (.hpTimeout o) s = .next (s.gives (((s.m.bump R.RENDER_HP_TIMEOUT).evt F.RENDER_HP_EVT_TIMEOUT).onHp o (fun h =>
      { h with applied := [], timed := true, empty := true }))))
  ∧ (∀ (s : State) o, o < 512 → s.live → s.m.variant.objects ≤ o ∨ (s.m.hpo o).host = false ∨ (s.m.hpo o).timed = true ∨ (s.m.hpo o).pend ≠ [] ∨
    (s.m.hpo o).hold < s.m.glv F.RENDER_HP_CFG_HOLDMAX o → exec (.hpTimeout o) s = .next (s.gives s.m))
  ∧ (∀ (s : State) p, p < 64 → s.live → s.m.on F.RENDER_PLAY_CTRL_EN p = true → (s.m.play p).pre.length < 4 →
    (s.m.play p).fetch ≠ s.m.rd R.RENDER_PLAY_WR p →
    exec (.playPrefetch p) s = .next (s.gives (s.m.onPlay p (fun q => ⟨q.pre ++ [wordsAt s.m (s.m.playBase p + q.fetch) 16],
      (q.fetch + 64) % s.m.gf F.RENDER_PLAY_SIZE_BYTES p⟩))))
  ∧ (∀ (s : State) p, p < 64 → s.live → s.m.on F.RENDER_PLAY_CTRL_EN p = false ∨ 4 ≤ (s.m.play p).pre.length ∨
    (s.m.play p).fetch = s.m.rd R.RENDER_PLAY_WR p → exec (.playPrefetch p) s = .next (s.gives s.m))

/-- MUTE_N, selector writes, ring controls, regions and commits. The mute pin acts, latches and releases as HWMUTE_CFG says; a good
selector is staged and a bad one raises BAD_SEL; ring enables start at the other index; region writes enable and disable; commit
bits ask for their commit and a clear bit does nothing. Rules: R24, R55 to R57, R116, R159, R197, R200 to R203. -/
def Obligations.MuteRingAndCommitWrites : Prop :=
  (∀ (s : State), s.live → s.m.on F.FEED_HWMUTE_CFG_EN = true → s.m.on F.FEED_HWMUTE_STAT_PIN = false →
    ∃ m : Mach, exec .muteNLow s = .next (s.gives m) ∧ m.rend.pinLow = true ∧ m.on F.FEED_HWMUTE_STAT_PIN = true
      ∧ m.on F.FEED_HWMUTE_STAT_ACTIVE = true ∧ m.on F.FEED_OUT_EVT_MUTE_IN = true)
  ∧ (∀ (s : State), s.live → s.m.on F.FEED_HWMUTE_CFG_EN = false ∨ s.m.on F.FEED_HWMUTE_STAT_PIN = true →
    exec .muteNLow s = .next (s.gives (s.m.onRend (fun q => { q with pinLow := true }))))
  ∧ (∀ (s : State), s.live → s.m.safe = false → s.m.on F.FEED_HWMUTE_CFG_EN = true → s.m.on F.FEED_HWMUTE_STAT_PIN = true →
    s.m.on F.FEED_HWMUTE_CFG_LATCH = true →
    ∃ m : Mach, exec .muteNRelease s = .next (s.gives m) ∧ m.rend.pinLow = false ∧ m.on F.FEED_HWMUTE_STAT_PIN = false
      ∧ m.on F.FEED_HWMUTE_STAT_LATCHED = true ∧ m.gf F.FEED_HWMUTE_STAT_ACTIVE = s.m.gf F.FEED_HWMUTE_STAT_ACTIVE)
  ∧ (∀ (s : State), s.live → s.m.safe = false → s.m.on F.FEED_HWMUTE_CFG_EN = true → s.m.on F.FEED_HWMUTE_STAT_PIN = true →
    s.m.on F.FEED_HWMUTE_CFG_LATCH = false →
    ∃ m : Mach, exec .muteNRelease s = .next (s.gives m) ∧ m.rend.pinLow = false ∧ m.on F.FEED_HWMUTE_STAT_PIN = false
      ∧ m.on F.FEED_HWMUTE_STAT_ACTIVE = false ∧ m.on F.FEED_OUT_EVT_MUTE_REL = true)
  ∧ (∀ (s : State) v, v < 0x100000000 → s.live → bitOf v 0 = true → s.m.on F.FEED_HWMUTE_STAT_LATCHED = true → s.m.rend.pinLow = false → s.m.safe = false →
    ∃ m : Mach, exec (.hwmuteClrWrite v) s = .next (s.gives m) ∧ m.on F.FEED_HWMUTE_STAT_ACTIVE = false ∧ m.on F.FEED_HWMUTE_STAT_LATCHED = false
      ∧ m.on F.FEED_OUT_EVT_MUTE_REL = true)
  ∧ (∀ (s : State) v, v < 0x100000000 → s.live → bits (v &&& 0x303FF) 0 10 ≤ 1000 → bitOf v 17 = true ∨ s.m.on F.FEED_HWMUTE_CFG_EN = false →
    exec (.hwmuteCfgWrite v) s = .next (s.gives (s.m.wr R.FEED_HWMUTE_CFG (v &&& 0x303FF))))
  ∧ (∀ (s : State) v, v < 0x100000000 → s.live → bits (v &&& 0x303FF) 0 10 ≤ 1000 → bitOf v 17 = false → s.m.on F.FEED_HWMUTE_CFG_EN = true →
    ∃ m : Mach, exec (.hwmuteCfgWrite v) s = .next (s.gives m) ∧ m.rd R.FEED_HWMUTE_CFG = v &&& 0x303FF ∧ m.on F.FEED_HWMUTE_STAT_PIN = false
      ∧ m.on F.FEED_HWMUTE_STAT_ACTIVE = false ∧ s.m.registersOnly m)
  ∧ (∀ (s : State) i v, i < 640 → s.m.chanOk i = true → v < 0x100000000 → s.live → s.m.selBad 0 v = none →
    exec (.inselWrite i v) s = .next (s.gives (s.m.wr R.RENDER_INSEL (v % 0x20000) i)))
  ∧ (∀ (s : State) i v, i < 640 → s.m.chanOk i = true → v < 0x100000000 → s.live → s.m.selBad 0 v ≠ none →
    exec (.inselWrite i v) s = .next (s.gives (s.m.evt F.RENDER_FE_EVT_BAD_SEL)))
  ∧ (∀ (s : State) i v, i < 2624 → v < 0x100000000 → s.live → s.m.selBad 1 v = none →
    exec (.outselWrite i v) s = .next (s.gives (s.m.wr R.FEED_OUTSEL (v % 65536) i)))
  ∧ (∀ (s : State) i v, i < 2624 → v < 0x100000000 → s.live → s.m.selBad 1 v ≠ none →
    exec (.outselWrite i v) s = .next (s.gives (s.m.evt F.FEED_OUT_EVT_BAD_SEL)))
  ∧ (∀ (s : State) v, v < 0x100000000 → s.live → bitOf v 0 = true →
    exec (.renderCommitInput v) s = .next (s.gives (s.m.askCommit 0)) ∧ exec (.outCommit v) s = .next (s.gives (s.m.askCommit 2))
      ∧ exec (.hpCommit v) s = .next (s.gives (s.m.askCommit 3)) ∧ exec (.measCommit v) s = .next (s.gives (s.m.askCommit 4))
      ∧ exec (.timeLatCommit v) s = .next (s.gives (s.m.askCommit 5)))
  ∧ (∀ (s : State) v, v < 0x100000000 → s.live → bitOf v 1 = true → exec (.renderCommitGen v) s = .next (s.gives (s.m.askCommit 1)))
  ∧ (∀ (s : State) v, v < 0x100000000 → s.live → bitOf v 0 = false →
    exec (.renderCommitInput v) s = .next (s.gives s.m) ∧ exec (.outCommit v) s = .next (s.gives s.m)
      ∧ exec (.hpCommit v) s = .next (s.gives s.m) ∧ exec (.measCommit v) s = .next (s.gives s.m))
  ∧ (∀ (s : State) p v, p < 64 → v < 0x100000000 → s.live → bitOf v 0 = true → s.m.on F.RENDER_PLAY_CTRL_EN p = false →
    exec (.playCtrlWrite p v) s = .next (s.gives (((s.m.wr R.RENDER_PLAY_CTRL 1 p).wr R.RENDER_PLAY_RD (s.m.rd R.RENDER_PLAY_WR p) p).onPlay p
      (fun _ => ⟨[], s.m.rd R.RENDER_PLAY_WR p⟩))))
  ∧ (∀ (s : State) p v, p < 64 → v < 0x100000000 → s.live → v % 64 = 0 → v % 2 ^ 24 < s.m.gf F.RENDER_PLAY_SIZE_BYTES p →
    exec (.playWrWrite p v) s = .next (s.gives (s.m.wr R.RENDER_PLAY_WR (v % 2 ^ 24) p)))
  ∧ (∀ (s : State) c v, c < 64 → v < 0x100000000 → s.live → bitOf v 0 = true → s.m.on F.FEED_CAP_CTRL_EN c = false →
    exec (.capCtrlWrite c v) s = .next (s.gives (((s.m.wr R.FEED_CAP_CTRL 1 c).wr R.FEED_CAP_WR (s.m.rd R.FEED_CAP_RD c) c).onRend
      (fun q => { q with capArm := c :: q.capArm.filter (· != c) }))))
  ∧ (∀ (s : State) v, v < 0x100000000 → s.live → s.m.bulkOn = true → bitOf v 31 = false → s.m.bulkFree = true →
    exec (.bulkBaseWrite v) s = .next (s.gives (s.m.sf F.RENDER_BULK_BASE_HI_EN 0)))
  ∧ (∀ (s : State) v, v < 0x100000000 → s.live → s.m.bulkOn = false → bitOf v 31 = true →
    s.m.regionOk 0 (s.m.wr R.RENDER_BULK_BASE_HI (v % 256)).bulkBase bulkSize = true →
    ∃ m : Mach, exec (.bulkBaseWrite v) s = .next (s.gives m) ∧ m.bulkOn = true ∧ m.gf F.RENDER_BULK_BASE_HI_ADDR = v % 256)
  ∧ (∀ (s : State) v, v < 0x100000000 → s.live → s.m.corrOn = true → bitOf v 31 = false → s.m.corrFree = true →
    exec (.corrBaseWrite v) s = .next (s.gives (s.m.sf F.FEED_CORR_BASE_HI_EN 0)))
  ∧ (∀ (s : State) v, v < 0x100000000 → s.live → s.m.corrOn = false → bitOf v 31 = true →
    s.m.regionOk 1 (s.m.wr R.FEED_CORR_BASE_HI (v % 256)).corrBase corrSize = true →
    ∃ m : Mach, exec (.corrBaseWrite v) s = .next (s.gives m) ∧ m.corrOn = true ∧ m.gf F.FEED_CORR_BASE_HI_ADDR = v % 256)

/-- Tick tokens, lock, long slews and the resume of a grid step. A token outside running clocks only passes time; while the grid is
stopped it renders nothing; at the stop every history is cleared; otherwise it launches the next tick; lock, long slew and
resume act exactly under their conditions. Rules: R24, R35, R37, R38; log 21 to 25. -/
def Obligations.TokenAndGridRows : Prop :=
  (∀ (s : State) x, s.live → (s.m.advance x.dt).tokensRun = false → exec (.tickToken x) s = .next (s.gives (s.m.advance x.dt)))
  ∧ (∀ (s : State) x t, s.live → (s.m.advance x.dt).tokensRun = true → t = (s.m.advance x.dt).endTick → t.tm.gstep = .stopped →
    exec (.tickToken x) s = .next (s.gives t))
  ∧ (∀ (s : State) x t, s.live → (s.m.advance x.dt).tokensRun = true → t = (s.m.advance x.dt).endTick → t.tm.gstep = .down →
    ∃ m : Mach, exec (.tickToken x) s = .next (s.gives m) ∧ m.tm.gstep = .stopped ∧ m.rend.hand = none
      ∧ (∀ f q, mfind m.rend.feeds f = some q → q.lim.ys = [] ∧ q.hist = [] ∧ q.line = [])
      ∧ (∀ o q, mfind m.rend.omem o = some q → q.ring = [] ∧ q.stage = []))
  ∧ (∀ (s : State) x t u, s.live → (s.m.advance x.dt).tokensRun = true → t = (s.m.advance x.dt).endTick → t.tm.gstep ≠ .stopped → t.tm.gstep ≠ .down →
    u = ((gridSlewLong (gridLock t)).onTime (fun z => { z with gstep := t.tm.gstep.next })).powerToken →
    exec (.tickToken x) s = .next (s.gives (u.align.token u.nextTick.1 x)))
  ∧ (∀ (s : State), s.live → s.m.gf F.TIME_GRID_STAT_STATE = 1 → 64 ≤ s.m.gf F.TIME_GRID_STAT_LOCKRUN →
    ∃ m : Mach, exec .gridLock s = .next (s.gives m) ∧ m.gf F.TIME_GRID_STAT_STATE = 2 ∧ m.on F.TIME_GRID_EVT_LOCKED = true ∧ s.m.registersOnly m)
  ∧ (∀ (s : State), s.live → s.m.gf F.TIME_GRID_STAT_STATE ≠ 1 ∨ s.m.gf F.TIME_GRID_STAT_LOCKRUN < 64 → exec .gridLock s = .next (s.gives s.m))
  ∧ (∀ (s : State), s.live → 60000 ≤ s.m.tm.overRun → s.m.tm.overSaid = false →
    exec .gridSlewLong s = .next (s.gives ((s.m.onTime (fun t => { t with overSaid := true })).evt F.TIME_GRID_EVT_SLEW_LONG)))
  ∧ (∀ (s : State), s.live → s.m.tm.overRun < 60000 ∨ s.m.tm.overSaid = true → exec .gridSlewLong s = .next (s.gives s.m))
  ∧ (∀ (s : State) x t n, s.live → t = s.m.advance x.dt → n = tickAt t.tm.net → t.tm.gstep = .stopped → t.tokensRun = true → t.tm.stopAt < n →
    65536 * 1000000 ≤ 3 * (t.tm.net - t.tm.stopNet + 1) →
    exec (.gridStepResume x) s = .next (s.gives ((((t.onTime (fun z => { z with gstep := .held 2, aligned := true })).relatch n).aspGridStep.measGridStep n).token n x)))
  ∧ (∀ (s : State) x t, s.live → t = s.m.advance x.dt → t.tm.gstep ≠ .stopped ∨ t.tokensRun = false ∨ tickAt t.tm.net ≤ t.tm.stopAt ∨
    3 * (t.tm.net - t.tm.stopNet + 1) < 65536 * 1000000 → exec (.gridStepResume x) s = .next (s.gives t))

/-- Tick numbers and grid states follow the error against network time. A tick number is the whole ticks of network time; the next
number counts on, and at the first valid time jumps to it but never back; GRID_ERR, LOCKRUN and the state follow the error by
the stated limits; PLL_MEDIA's control word moves by no more than SLEW_PPM, in the direction that removes the error, and stays
where the grid does not follow. The rule that the number never falls is the model's reading (log entry 21). Rules: R33, R35,
R36, R40; log 21. -/
def Obligations.GridFollowsNetworkTime : Prop :=
  (∀ net m : Nat, tickAt net = m → -(1 / 65536 : Rat) < gridErrNs net m ∧ gridErrNs net m < 1000000 / 6)
  ∧ (∀ m : Nat, tickAt ((m * 65536 * 1000000 + 5) / 6) = m)
  ∧ (∀ s : Mach, s.tm.ticking = true → s.timeState ≠ 2 ∨ s.tm.aligned = true → s.nextTick = (s.tm.tick + 1, s.tm.aligned))
  ∧ (∀ s : Mach, s.timeState = 2 → s.tm.aligned = false → s.nextTick.2 = true ∧ tickAt s.tm.net ≤ s.nextTick.1 ∧
      (s.tm.ticking = true → s.tm.tick < s.nextTick.1))
  ∧ (∀ s : Mach, s.timeState = 2 → s.tm.aligned = false → s.align.tm.aligned = true ∧ s.align.gf F.TIME_GRID_STAT_STATE = 1
      ∧ s.align.gf F.TIME_GRID_STAT_LOCKRUN = 0)
  ∧ (∀ s : Mach, s.timeState ≠ 2 ∨ s.tm.aligned = true → s.align = s)
  ∧ (∀ (s : Mach) m, s.tm.aligned = true → (s.gridToken m).rd R.TIME_GRID_ERR = toU 32 (clampS 32 (rhaQ (gridErrNs s.tm.net m * 5 / 4))) % 2 ^ 32)
  ∧ (∀ (s : Mach) m, s.tm.aligned = true → s.gf F.TIME_GRID_STAT_STATE = 1 ∨ s.gf F.TIME_GRID_STAT_STATE = 2 → absQ (gridErrNs s.tm.net m) ≤ 8 →
    (s.gridToken m).gf F.TIME_GRID_STAT_LOCKRUN = Nat.min 255 (s.gf F.TIME_GRID_STAT_LOCKRUN + 1)
      ∧ (s.gridToken m).gf F.TIME_GRID_STAT_STATE = s.gf F.TIME_GRID_STAT_STATE)
  ∧ (∀ (s : Mach) m, s.tm.aligned = true → 8 < absQ (gridErrNs s.tm.net m) → (s.gridToken m).gf F.TIME_GRID_STAT_LOCKRUN = 0)
  ∧ (∀ (s : Mach) m, s.tm.aligned = true → s.gf F.TIME_GRID_STAT_STATE = 2 → 50 < absQ (gridErrNs s.tm.net m) → (s.gridToken m).gf F.TIME_GRID_STAT_STATE = 1)
  ∧ (∀ (s : Mach) m, s.timeState = 2 → s.gf F.TIME_GRID_STAT_STATE = 0 ∨ s.gf F.TIME_GRID_STAT_STATE = 3 → (s.gridToken m).gf F.TIME_GRID_STAT_STATE = 1)
  ∧ (∀ (s : Mach) m, s.tm.gstep = .none → (s.gridToken m).tm.gstep = .none ∨ ((s.gridToken m).tm.gstep = .down ∧ (s.gridToken m).gf F.TIME_GRID_STAT_STATE = 1
      ∧ ((1000 * s.gf F.TIME_GRID_CTRL_STEP_US : Nat) : Rat) < absQ (gridErrNs s.tm.net m) ∧ (s.power ≠ 0 ∨ s.on F.TIME_GRID_CTRL_STEP_ACTIVE = true)
      ∧ s.glv F.CLK_PLL_CTRL_REFSEL 1 = 0))
  ∧ (∀ (s : Mach) e, s.gf F.TIME_GRID_STAT_STATE ≠ 3 → s.glv F.CLK_PLL_CTRL_REFSEL 1 = 0 → s.pllLocked 1 = true →
    ∃ d : Int, 4000000 * d.natAbs ≤ s.pllTarget 1 * s.gf F.TIME_GRID_CTRL_SLEW_PPM
      ∧ (s.mediaSlew e).rd R.CLK_PLL_DCO 1 = toU 32 ((s.rd R.CLK_PLL_DCO 1 : Int) + d))
  ∧ (∀ (s : Mach) e, s.gf F.TIME_GRID_STAT_STATE = 3 ∨ s.glv F.CLK_PLL_CTRL_REFSEL 1 ≠ 0 ∨ s.pllLocked 1 = false → s.mediaSlew e = s)

/-- Measurement results, stream control and latency refreshes. Results are written where their channel says, stream control starts
and stops a ring, and a latency refresh sets FLOOR, PASS and the status bits of its monitor. Rules: R48 to R50, R221 to R223. -/
def Obligations.MeasurementAndLatencyRows : Prop :=
  (∀ (s : State) c b n, c < 32 → s.live → (s.m.meas c).pend = some (b, n) →
    ∃ m : Mach, exec (.measResultWrite c) s = .next (s.gives m) ∧ (m.meas c).pend = none ∧ (m.meas c).results = (s.m.meas c).results + 1
      ∧ m.rd R.MEAS_CH_RES_SEQ c = Nat.min (2 ^ 32 - 1) ((s.m.meas c).results + 1) ∧ m.on F.MEAS_EVT_RESULT = true
      ∧ m.mem = ((s.m.partStore (s.m.resBase c + (s.m.meas c).results % 2 * 0x8100) b).partStore
          (s.m.resBase c + (s.m.meas c).results % 2 * 0x8100 + 32) (toLE 4 (s.m.meas c).results)).mem)
  ∧ (∀ (s : State) c, c < 32 → s.live → (s.m.meas c).pend = none → exec (.measResultWrite c) s = .next (s.gives s.m))
  ∧ (∀ (s : State) c v, c < 32 → v < 0x100000000 → s.live → bitOf v 0 = true → s.m.hostMode 3 = false →
    exec (.measStrCtrlWrite c v) s = .next (s.gives (s.m.evt F.MEAS_EVT_REFUSED)))
  ∧ (∀ (s : State) c v, c < 32 → v < 0x100000000 → s.live → bitOf v 0 = true → s.m.hostMode 3 = true → s.m.on F.MEAS_CH_STR_CTRL_EN c = false →
    ∃ m : Mach, exec (.measStrCtrlWrite c v) s = .next (s.gives m) ∧ m.on F.MEAS_CH_STR_CTRL_EN c = true
      ∧ m.rd R.MEAS_CH_STR_WR c = s.m.rd R.MEAS_CH_STR_RD c ∧ m.rd R.MEAS_CH_STR_RD c = s.m.rd R.MEAS_CH_STR_RD c ∧ (m.meas c).segFlag = true)
  ∧ (∀ (s : State) c v, c < 32 → v < 0x100000000 → s.live → bitOf v 0 = false →
    ∃ m : Mach, exec (.measStrCtrlWrite c v) s = .next (s.gives m) ∧ m.on F.MEAS_CH_STR_CTRL_EN c = false ∧ (m.meas c).unit = [])
  ∧ (∀ (s : State) k inp out q p t, k < 4 → s.live → t = s.m.latFloor k → s.m.glv F.TIME_LAT_SINK_EN k = 1 → t.on F.TIME_LAT_STAT_NO_PATH k = false →
    t.on F.TIME_LAT_STAT_ABSENT k = false → t.on F.TIME_LAT_STAT_UNSUPPORTED k = false → t.markOf k = some p → t.passOf k inp out q p < 2 ^ 32 →
    ∃ m : Mach, exec (.latencyRefresh k ⟨inp, out, q⟩) s = .next (s.gives m) ∧ m.rd R.TIME_LAT_PASS k = t.passOf k inp out q p
      ∧ m.on F.TIME_LAT_STAT_VALID k = true ∧ m.rd R.TIME_LAT_FLOOR k = t.rd R.TIME_LAT_FLOOR k ∧ m.rd R.TIME_LAT_PROG k = samplesNs p % 2 ^ 32 ∧ m.markOf k = none
      ∧ (m.on F.TIME_LAT_STAT_BREACH k = true ↔ t.on F.TIME_LAT_STAT_BELOW_MIN k = false ∧
          5 * t.rd R.TIME_LAT_FLOOR k < 4 * (t.passOf k inp out q p)))
  ∧ (∀ (s : State) k inp out q, k < 4 → s.live → s.m.glv F.TIME_LAT_SINK_EN k = 0 → exec (.latencyRefresh k ⟨inp, out, q⟩) s = .next (s.gives (s.m.sf F.TIME_LAT_STAT_VALID 0 k)))

/-- A supported chain above 1.25 times its floor raises LATENCY_BREACH and sets STAT.BREACH. When an enabled monitor's supported
chain has PASS above 1.25 times FLOOR, the refresh raises LATENCY_BREACH, an ERROR record whose SRC names the monitor, and sets
BREACH. Rules: R49. -/
def Obligations.LatencyBreachIsRaised : Prop :=
  (∀ (s : State) k inp out q p t, k < 4 → s.live → t = s.m.latFloor k → s.m.glv F.TIME_LAT_SINK_EN k = 1 → t.on F.TIME_LAT_STAT_NO_PATH k = false →
    t.on F.TIME_LAT_STAT_ABSENT k = false → t.on F.TIME_LAT_STAT_UNSUPPORTED k = false → t.markOf k = some p → t.on F.TIME_LAT_STAT_BELOW_MIN k = false →
    t.passOf k inp out q p < 2 ^ 32 → 5 * t.rd R.TIME_LAT_FLOOR k < 4 * (t.passOf k inp out q p) →
    ∃ (m u : Mach) (arg : Nat), exec (.latencyRefresh k ⟨inp, out, q⟩) s = .next (s.gives m) ∧ m = u.raise E.LATENCY_BREACH k arg ∧
      Mach.registersOnly { s.m with tm := { s.m.tm with marks := mdel s.m.tm.marks k } } u
      ∧ m.on F.TIME_LAT_STAT_BREACH k = true ∧ m.rd R.TIME_LAT_FLOOR k = t.rd R.TIME_LAT_FLOOR k
      ∧ m.rd R.TIME_LAT_PASS k = t.passOf k inp out q p ∧ m.rend = s.m.rend ∧ m.live = s.m.live)
  ∧ (E.LATENCY_BREACH.sev = 2 ∧ E.LATENCY_BREACH.code = 0x0504)
  ∧ (∀ (s : Mach) k arg, s.err.slots = [] →
      ∃ r, ((s.raise E.LATENCY_BREACH k arg).err.slots.map (·.2)) = [r] ∧ r.code = 0x0504 ∧ r.sev = 2 ∧ r.src = srcOf 5 k)

/-- SCN_DISCARD clears every dirty mark and answers their number, and a commit then applies nothing. SCN_DISCARD answers the number
of dirty records and clears their marks, changing nothing else; a wrong length is refused; a scene commit on a stage without
marks changes no live record. Rules: R303. -/
def Obligations.DiscardClearsTheDirtyMarks : Prop :=
  (∀ (s : State) o p obs, s.takes o → lenOf p = 20 →
    ∃ m : Mach, exec (.scnDiscard o p obs) s = .next (s.gives (m.replies o 0x0203
        (toLE 4 (s.m.rend.recs.filter (fun e => e.2.dirty)).length))) ∧
      m = { s.m with rend := { s.m.rend with recs := s.m.rend.recs.map (fun e => (e.1, { e.2 with dirty := false })) } } ∧
      (∀ e ∈ m.rend.recs, e.2.dirty = false))
  ∧ (∀ (s : State) o p obs, s.takes o → lenOf p ≠ 20 →
    exec (.scnDiscard o p obs) s = .next (s.gives (Mach.leaves (s.m, Res.fail ST.BAD_LENGTH 20) o 0x0203)))
  ∧ (∀ (s : Mach) t, (∀ e ∈ s.rend.recs, e.2.dirty = false) →
      (s.sceneCommit t).2 = { s with rend := { s.rend with recs := (s.sceneCommit t).2.rend.recs, commitTick := some t } } ∧
      (s.sceneCommit t).2.rend.recs.map (fun e => (e.1, e.2.live, e.2.shadow, e.2.stage)) = s.rend.recs.map (fun e => (e.1, e.2.live, e.2.shadow, e.2.stage)))

/-- Doorbells, descriptors, replies and the SPI mailbox. CQ and RQ doorbells move their indices or raise BAD_DOORBELL; a descriptor
is fetched only while the reply queue has room, and takes its packet; a reply is written to its entry with the write-back; a
full reply queue is told; an SPI write is checked, overflows or is ignored; a read takes the reply it read whole. The full-queue
rule is the model's reading (log entry 57). Rules: R281 to R286; log 57. -/
def Obligations.CommandQueuesAndMailbox : Prop :=
  (∀ (s : State) q v, q < 2 → v < 0x100000000 → s.live → v % 4096 < 2 ^ s.m.gf F.CMD_QP_CTRL_CQ_SIZE q →
    exec (.pcieCqTailWrite q v) s = .next (s.gives (s.m.wr R.CMD_QP_CQ_TAIL (v % 4096) q)))
  ∧ (∀ (s : State) q v, q < 2 → v < 0x100000000 → s.live → 2 ^ s.m.gf F.CMD_QP_CTRL_CQ_SIZE q ≤ v % 4096 →
    exec (.pcieCqTailWrite q v) s = .next (s.gives (s.m.evt F.CMD_EVT_BAD_DOORBELL)))
  ∧ (∀ (s : State) q v, q < 2 → v < 0x100000000 → s.live →
    (s.m.on F.CMD_QP_CTRL_EN q = true → (s.m.wr R.CMD_QP_RQ_HEAD (v % 1024) q).rqFree q = true) →
    exec (.pcieRqHeadWrite q v) s = .next (s.gives (s.m.wr R.CMD_QP_RQ_HEAD (v % 1024) q)))
  ∧ (∀ (s : State) q v, q < 2 → v < 0x100000000 → s.live → s.m.on F.CMD_QP_CTRL_EN q = true →
    (s.m.wr R.CMD_QP_RQ_HEAD (v % 1024) q).rqFree q = false →
    exec (.pcieRqHeadWrite q v) s = .next (s.gives ((s.m.wr R.CMD_QP_RQ_HEAD (v % 1024) q).evt F.CMD_EVT_RQ_FULL)))
  ∧ (∀ (s : State) q v, q < 2 → v < 0x100000000 → s.live → 4 ≤ bits v 4 4 → bits v 4 4 ≤ 12 → 4 ≤ bits v 8 4 → bits v 8 4 ≤ 10 → bitOf v 0 = true →
    s.m.on F.CMD_QP_CTRL_EN q = false →
    exec (.qpCtrlWrite q v) s = .next (s.gives (((((s.m.wr R.CMD_QP_CTRL (v &&& 0x3F0FF3) q).wr R.CMD_QP_CQ_HEAD 0 q).wr R.CMD_QP_CQ_TAIL 0 q).wr
      R.CMD_QP_RQ_HEAD 0 q).wr R.CMD_QP_RQ_TAIL 0 q)))
  ∧ (∀ (s : State) q v, q < 2 → v < 0x100000000 → s.live → 4 ≤ bits v 4 4 → bits v 4 4 ≤ 12 → 4 ≤ bits v 8 4 → bits v 8 4 ≤ 10 → bitOf v 0 = false →
    s.m.on F.CMD_QP_CTRL_EN q = true → bits v 4 4 = s.m.gf F.CMD_QP_CTRL_CQ_SIZE q → bits v 8 4 = s.m.gf F.CMD_QP_CTRL_RQ_SIZE q →
    ∃ m : Mach, exec (.qpCtrlWrite q v) s = .next (s.gives m) ∧ m.cmd.waitOf q = [] ∧ (∀ n z, mfind m.cmd.sess n = some z → z.xport ≠ .pcie q)
      ∧ m.on F.CMD_QP_CTRL_EN q = false)
  ∧ (∀ (s : State) q e a d o m, q < 2 → s.live → s.m.on F.CMD_QP_CTRL_EN q = true → s.m.rd R.CMD_QP_CQ_HEAD q ≠ s.m.rd R.CMD_QP_CQ_TAIL q →
    s.m.poolFull = false → s.m.rqFree q = true →
    a = hostAddr (s.m.rd R.CMD_QP_CQ_BASE_LO q) (s.m.rd R.CMD_QP_CQ_BASE_HI q) + 16 * s.m.rd R.CMD_QP_CQ_HEAD q → d = s.m.mrd a 16 →
    o = (⟨0, .pcie q, 0, 0, 0, fld d 12 4, false, false⟩ : Origin) →
    m = s.m.wr R.CMD_QP_CQ_HEAD ((s.m.rd R.CMD_QP_CQ_HEAD q + 1) % 2 ^ s.m.gf F.CMD_QP_CTRL_CQ_SIZE q) q →
    exec (.pcieDescriptorFetch q e) s = .next (s.gives (
      if fld d 10 2 ≠ 0 ∨ fld d 0 8 % 4 ≠ 0 then m.reject o 0 ST.BAD_PARAM 0
      else if fld d 8 2 < 20 ∨ 4096 < fld d 8 2 then m.reject o 0 ST.BAD_LENGTH 0
      else if e then m.reject o 0 ST.HW_FAULT 1
      else m.checkIn (.pcie q) (fld d 12 4) (m.mrd (hostBit + fld d 0 8 % hostBit) (fld d 8 2)))))
  ∧ (∀ (s : State) q e, q < 2 → s.live → s.m.on F.CMD_QP_CTRL_EN q = false ∨ s.m.rd R.CMD_QP_CQ_HEAD q = s.m.rd R.CMD_QP_CQ_TAIL q ∨
    s.m.poolFull = true ∨ s.m.rqFree q = false → exec (.pcieDescriptorFetch q e) s = .next (s.gives s.m))
  ∧ (∀ (s : State) q p r, q < 2 → s.live → s.m.cmd.waitOf q = p :: r → s.m.on F.CMD_QP_CTRL_EN q = true → s.m.rqFree q = true →
    ∃ m : Mach, exec (.pcieReplyWrite q) s = .next (s.gives (m.when (s.m.on F.CMD_QP_CTRL_IRQ q) (·.sendMsg (s.m.gf F.CMD_QP_CTRL_VEC q))))
      ∧ m.cmd.waitOf q = r
      ∧ m.rd R.CMD_QP_RQ_TAIL q = (s.m.rd R.CMD_QP_RQ_TAIL q + 1) % 2 ^ s.m.gf F.CMD_QP_CTRL_RQ_SIZE q
      ∧ m.mem = memPut (memPut s.m.mem (hostAddr (s.m.rd R.CMD_QP_RQ_BASE_LO q) (s.m.rd R.CMD_QP_RQ_BASE_HI q) + 4096 * s.m.rd R.CMD_QP_RQ_TAIL q) p)
          (hostAddr (s.m.rd R.CMD_QP_WB_LO q) (s.m.rd R.CMD_QP_WB_HI q)) (toLE 4 (s.m.rd R.CMD_QP_CQ_HEAD q) ++ toLE 4 (m.rd R.CMD_QP_RQ_TAIL q)))
  ∧ (∀ (s : State) q p r, q < 2 → s.live → s.m.cmd.waitOf q = p :: r → s.m.on F.CMD_QP_CTRL_EN q = true → s.m.rqFree q = false →
    exec (.pcieReplyWrite q) s = .next (s.gives (s.m.evt F.CMD_EVT_RQ_FULL)))
  ∧ (∀ (s : State) p, s.live → s.m.spiReady = true → s.m.poolFull = false → exec (.spiWrite p) s = .next (s.gives (s.m.checkIn .spi 0 p)))
  ∧ (∀ (s : State) p, s.live → s.m.spiReady = true → s.m.poolFull = true →
    exec (.spiWrite p) s = .next (s.gives (s.m.onCmd (fun c => { c with spiOvf := true }))))
  ∧ (∀ (s : State) p, s.live → s.m.spiReady = false → exec (.spiWrite p) s = .next (s.gives s.m))
  ∧ (∀ (s : State) n p r, s.live → s.m.cmd.spiQ = p :: r → p.length ≤ n → s.m.cmd.spiWait = [] →
    exec (.spiRead n) s = .next (s.gives (s.m.onCmd (fun c => { c with spiQ := r }))))
  ∧ (∀ (s : State) n p r, s.live → s.m.cmd.spiQ = p :: r → n < p.length → exec (.spiRead n) s = .next (s.gives s.m))
  ∧ (∀ (s : State), s.live → exec .spiStatus s = .next (s.gives (s.m.onCmd (fun c => { c with spiOvf := false }))))

/-- A packet is refused at the first check it fails, else it enters the pool. A malformed packet is counted and, over PCIe, answered
BAD_LENGTH; a bad CRC, version, flag or reserved field, a missing or foreign session is answered with its status; any other
packet of flow 0 renews its session and enters. Rules: R260 to R264, R271. -/
def Obligations.ArrivingPacketsAreChecked : Prop :=
  (∀ (s : Mach) raw, fld raw 0 2 ≠ 0x5643 ∨ raw.length % 4 ≠ 0 ∨ raw.length < 20 ∨ 4096 < raw.length ∨ fld raw 4 2 ≠ raw.length →
    s.checkIn .spi 0 raw = s.bump R.CMD_RX_BAD
    ∧ ∀ q tag, s.checkIn (.pcie q) tag raw = (s.bump R.CMD_RX_BAD).reject ⟨0, .pcie q, 0, 0, 0, tag, false, false⟩ 0 ST.BAD_LENGTH 0)
  ∧ (∀ (s : Mach) x tag raw n o, n = raw.length → fld raw 0 2 = 0x5643 → n % 4 = 0 → 20 ≤ n → n ≤ 4096 → fld raw 4 2 = n →
    o = (⟨0, x, fld raw 6 1, fld raw 7 1, fld raw 8 2, tag, bitOf (fld raw 3 1) 1, bitOf (fld raw 3 1) 3⟩ : Origin) →
    (fld raw (n - 4) 4 ≠ crc32c (raw.take (n - 4)) → s.checkIn x tag raw = (s.bump R.CMD_CRC_ERR).reject o (fld raw 10 2) ST.BAD_CRC 0)
    ∧ (fld raw (n - 4) 4 = crc32c (raw.take (n - 4)) → ∀ d, step3 raw = some d → s.checkIn x tag raw = s.reject o (fld raw 10 2) ST.BAD_PARAM d)
    ∧ (fld raw (n - 4) 4 = crc32c (raw.take (n - 4)) → step3 raw = none → o.sess ≠ 255 → mfind s.cmd.sess o.sess = none →
        s.checkIn x tag raw = s.reject o (fld raw 10 2) ST.STATE 1)
    ∧ (fld raw (n - 4) 4 = crc32c (raw.take (n - 4)) → step3 raw = none → o.sess ≠ 255 → ∀ z, mfind s.cmd.sess o.sess = some z → z.xport ≠ x →
        s.checkIn x tag raw = s.reject o (fld raw 10 2) ST.STATE 1)
    ∧ (fld raw (n - 4) 4 = crc32c (raw.take (n - 4)) → step3 raw = none → o.sess = 255 → fld raw 10 2 ≠ 0x0101 → fld raw 10 2 ≠ 0x0105 →
        s.checkIn x tag raw = s.reject o (fld raw 10 2) ST.STATE 1)
    ∧ (fld raw (n - 4) 4 = crc32c (raw.take (n - 4)) → step3 raw = none → o.sess ≠ 255 → o.flow = 0 → ∀ z, mfind s.cmd.sess o.sess = some z → z.xport = x →
        s.checkIn x tag raw = (s.onCmd (fun c => { c with sess := mput c.sess o.sess { z with last := s.tm.up } })).enter o (fld raw 10 2)
          (groupOf (fld raw 10 2)) ((raw.drop 16).take (n - 20))))

/-- Commands release in their flow's order; gaps and idle sessions end. A command whose turn it is is released, any other stays;
release advances NEXT and remembers the outcome; a gap time-out answers the held commands TIMEOUT; an idle session is closed
with its flows. Rules: R272 to R278. -/
def Obligations.FlowsReleaseInOrder : Prop :=
  (∀ (s : State) i obs c, s.live → s.m.cmd.pool.find? (fun c => c.o.id == i) = some c → s.m.turnOf c = true →
    exec (.commandRelease i obs) s = .next (s.gives
      ((((s.m.onCmd (fun d => { d with pool := d.pool.filter (fun e => e.o.id != i) })).flowOn c).release c obs).handover)))
  ∧ (∀ (s : State) i obs c, s.live → s.m.cmd.pool.find? (fun c => c.o.id == i) = some c → s.m.turnOf c = false →
    exec (.commandRelease i obs) s = .next (s.gives s.m))
  ∧ (∀ (s : Mach) c k f, c.o.flow ≠ 0 → s.flowOf c.o.sess c.o.flow = some (k, f) → s.turnOf c = true → c.phase = 2 ∧ f.next = c.o.seq)
  ∧ (∀ (s : Mach) c k f, c.o.flow ≠ 0 → s.flowOf c.o.sess c.o.flow = some (k, f) →
    ∃ g, mfind (s.flowOn c).cmd.flows k = some g ∧ g.next = (f.next + 1) % 65536 ∧ g.past.head? = some ⟨c.o.seq, c.o.id, none⟩)
  ∧ (∀ (s : State) i f, i < 64 → s.live → mfind s.m.cmd.flows i = some f → f.gap = true →
    exec (.gapTimeout i) s = .next (s.gives ((((s.m.bump R.CMD_GAP_TIMEOUT).evt F.CMD_EVT_GAP_TIMEOUT).discard
      (fun c => c.o.sess == f.sess && c.o.flow == f.num) (some (ST.TIMEOUT, 1))).setGap i)))
  ∧ (∀ (s : State) i f, i < 64 → s.live → mfind s.m.cmd.flows i = some f → f.gap = false → exec (.gapTimeout i) s = .next (s.gives s.m))
  ∧ (∀ (s : State) n z, n < 16 → s.live → mfind s.m.cmd.sess n = some z → z.idleS ≠ 0 →
    ∃ m : Mach, exec (.sessionIdleTimeout n) s = .next (s.gives m) ∧ mfind m.cmd.sess n = none ∧ m.on F.CMD_EVT_SESSION_TIMEOUT = true
      ∧ (∀ e ∈ m.cmd.flows, e.2.sess ≠ n) ∧ (∀ r ∈ m.cmd.rel, r.o.sess ≠ n))
  ∧ (∀ (s : State) n z, n < 16 → s.live → mfind s.m.cmd.sess n = some z → z.idleS = 0 → exec (.sessionIdleTimeout n) s = .next (s.gives s.m))

/-- Core time is charged by weight, slices and faults move threads. The end of processing charges its group by weight and frees its
thread; threads become ready, are sliced and re-queued; a faulty core leaves service and no other does. Rules: R367 to R378. -/
def Obligations.ThreadsAndCores : Prop :=
  (∀ (s : State) i k c, s.live → s.m.cmd.pool.find? (fun c => c.o.id == i && c.phase == 1) = some c →
    exec (.commandProcessingEnd i k) s = .next (s.gives ((((s.m.charge c.level c.group k).freeThr c.thread).onCmd (fun d =>
      { d with pool := d.pool.map (fun e => if e.o.id == i then { e with phase := 2 } else e) })).handover)))
  ∧ (∀ (s : State) i k, s.live → s.m.cmd.pool.find? (fun c => c.o.id == i && c.phase == 1) = none →
    exec (.commandProcessingEnd i k) s = .next (s.gives s.m))
  ∧ (∀ (s : Mach) l g k, s.on F.SCHED_STAT_BACKUP = false → g < 8 →
    (s.charge l g k).rd64 R.SCHED_GRP_RUN_LO R.SCHED_GRP_RUN_HI g = (s.rd64 R.SCHED_GRP_RUN_LO R.SCHED_GRP_RUN_HI g + k) % 2 ^ 64
      ∧ (s.charge l g k).sch.v g = s.sch.v g + ((k * 256 : Nat) : Rat) / Nat.max 1 (s.gf F.SCHED_GRP_WEIGHT_WEIGHT g)
      ∧ (∀ h, h ≠ g → (s.charge l g k).sch.v h = s.sch.v h))
  ∧ (∀ (s : State) t l, t < 32 → s.live → (s.m.sch.thread t).state ≠ 1 → (s.m.sch.thread t).state ≠ 2 →
    exec (.threadReady t l) s = .next (s.gives ((s.m.onSch (fun c => c.makeReady t ⟨1, l % 32, 0, 7⟩ false)).dispatch)))
  ∧ (∀ (s : State) t l, t < 256 → s.live → (s.m.sch.thread t).state = 1 ∨ (s.m.sch.thread t).state = 2 → exec (.threadReady t l) s = .next (s.gives s.m))
  ∧ (∀ (s : State) k n t, k < 6 → s.live → mfind s.m.sch.cores k = some t → t < 32 → s.m.sch.ready = [] →
    exec (.sliceExpire k n false) s = .next (s.gives s.m))
  ∧ (∀ (s : State) k n t, k < 6 → s.live → mfind s.m.sch.cores k = some t → t < 32 →
    exec (.sliceExpire k n true) s = .next (s.gives ((s.m.onSch (fun c => { c with cores := mdel c.cores k, threads := mdel c.threads t })).dispatch)))
  ∧ (∀ (s : State) k n t, k < 6 → s.live → mfind s.m.sch.cores k = some t → t < 32 →
    s.m.sch.ready.any (fun u => (s.m.sch.thread u).level == (s.m.sch.thread t).level) = true →
    exec (.sliceExpire k n false) s = .next (s.gives ((s.m.onSch (fun c => ({ c with cores := mdel c.cores k }).makeReady t (s.m.sch.thread t) false)).dispatch)))
  ∧ (∀ (s : State) k, k < 6 → s.live → bitOf (s.m.gf F.SCHED_STAT_CORES) k = true → mfind s.m.sch.cores k = none →
    ∃ m : Mach, exec (.coreFault k) s = .next (s.gives m) ∧ bitOf (m.gf F.SCHED_STAT_CORES) k = false
      ∧ (∀ j, j < 6 → j ≠ k → bitOf (m.gf F.SCHED_STAT_CORES) j = bitOf (s.m.gf F.SCHED_STAT_CORES) j) ∧ m.on F.SCHED_EVT_CORE_FAULT = true)
  ∧ (∀ (s : State) k, k < 6 → s.live → bitOf (s.m.gf F.SCHED_STAT_CORES) k = false → exec (.coreFault k) s = .next (s.gives s.m))

/-- A reply is queued for its transport in the packets of its header. A reply of an open session is queued as the packets replyPkts
gives on its own queue pair or UDP peer, in order; none leaves when none is asked for or the session is closed; and a reply
packet holds its header, status, detail, tick and data at their offsets. Rules: R263 to R265. -/
def Obligations.RepliesLeaveThePart : Prop :=
  (∀ (s : Mach) o op data q, s.cmd.rel = [] → o.flow = 0 → o.sess = 255 ∨ (mfind s.cmd.sess o.sess).isSome = true → s.tm.ticking = true →
    answered o op ST.OK = true → o.xport = .pcie q →
    ∃ l, l = replyPkts (s.maxpkt o.sess) o.sess 0 o.seq op o.tag ST.OK 0 s.tm.tick data ∧
      (s.replies o op data).cmd.wait0 = s.cmd.wait0 ++ (if q = 0 then l else []) ∧ (s.replies o op data).cmd.wait1 = s.cmd.wait1 ++ (if q = 0 then [] else l)
      ∧ (s.replies o op data).cmd.rel = [] ∧ (s.replies o op data).regs = s.regs ∧ (s.replies o op data).rend = s.rend ∧ (s.replies o op data).mem = s.mem)
  ∧ (∀ (s : Mach) o op data ip port, s.cmd.rel = [] → o.flow = 0 → o.sess = 255 ∨ (mfind s.cmd.sess o.sess).isSome = true → s.tm.ticking = true →
    answered o op ST.OK = true → o.xport = .udp ip port →
    (s.replies o op data).cmd.udpOut = s.cmd.udpOut ++
      (replyPkts (s.maxpkt o.sess) o.sess 0 o.seq op o.tag ST.OK 0 s.tm.tick data).map (fun x => (ip, port, x)))
  ∧ (∀ (s : Mach) o op st det q, s.cmd.rel = [] → o.flow = 0 → o.sess = 255 ∨ (mfind s.cmd.sess o.sess).isSome = true → st ≠ ST.OK → st ≠ ST.ACCEPTED →
    det ≠ openDet → o.xport = .pcie q →
    (Mach.leaves (s, Res.fail st det) o op).cmd.wait0 ++ (Mach.leaves (s, Res.fail st det) o op).cmd.wait1 =
      (if q = 0 then s.cmd.wait0 ++ replyPkts (s.maxpkt o.sess) o.sess 0 o.seq op o.tag st det noTick [] ++ s.cmd.wait1
        else s.cmd.wait0 ++ (s.cmd.wait1 ++ replyPkts (s.maxpkt o.sess) o.sess 0 o.seq op o.tag st det noTick [])))
  ∧ (∀ (s : Mach) o op data, s.cmd.rel = [] → o.flow = 0 → o.sess = 255 ∨ (mfind s.cmd.sess o.sess).isSome = true → answered o op ST.OK = false →
    (s.replies o op data).cmd.wait0 = s.cmd.wait0 ∧ (s.replies o op data).cmd.wait1 = s.cmd.wait1 ∧ (s.replies o op data).cmd.spiQ = s.cmd.spiQ
      ∧ (s.replies o op data).cmd.spiWait = s.cmd.spiWait ∧ (s.replies o op data).cmd.udpOut = s.cmd.udpOut)
  ∧ (∀ (s : Mach) o op data, o.sess ≠ 255 → mfind s.cmd.sess o.sess = none → s.replies o op data = s)
  ∧ (∀ sess flow seq op tag last st det tick data p, sess < 256 → flow < 256 → seq < 65536 → op < 65536 → tag < 2 ^ 32 → st < 65536 → det < 65536 →
    tick < 2 ^ 64 → p = replyPkt sess flow seq op tag last st det tick data → data.length ≤ 4064 →
    fld p 3 1 = 1 + 4 * b2n last ∧ fld p 4 2 = 32 + data.length ∧ p.length = 32 + data.length ∧ fld p 6 1 = sess ∧ fld p 7 1 = flow ∧ fld p 8 2 = seq
      ∧ fld p 10 2 = op ∧ fld p 12 4 = tag ∧ fld p 16 2 = st ∧ fld p 18 2 = det ∧ fld p 20 8 = tick ∧ slice p 28 data.length = data)

/-- Commits, enables, masks, banks and counters of the serial ports. A commit puts a port's staged configuration in force or is
refused; an enable starts acquisition unless the channel limit is exceeded; a mask waits; a bank change restarts its masters; a
clear zeroes the counters. Rules: R385, R389 to R392, R402. -/
def Obligations.SerialPortConfiguration : Prop :=
  (∀ (s : State) n v, n < 64 → v < 0x100000000 → s.live → bitOf v 0 = true → s.m.aspRefuse n (s.m.rd R.ASP_CFG n) (s.m.on F.ASP_CTRL_EN n) = 0 →
    ∃ m : Mach, exec (.aspCommit n v) s = .next (s.gives m) ∧ m.lv R.ASP_CFG n = s.m.rd R.ASP_CFG n
      ∧ (∀ k, k ≠ n → k < 64 → m.lv R.ASP_CFG k = s.m.lv R.ASP_CFG k) ∧ m.gf F.ASP_LOAD_HALF = m.aspLoad % 4096
      ∧ m.rd R.ASP_MASK_LIVE n = s.m.rd R.ASP_MASK_LIVE n &&& (2 ^ bits (s.m.rd R.ASP_CFG n) 4 6 - 1))
  ∧ (∀ (s : State) n v, n < 64 → v < 0x100000000 → s.live → bitOf v 0 = true → s.m.aspRefuse n (s.m.rd R.ASP_CFG n) (s.m.on F.ASP_CTRL_EN n) ≠ 0 →
    exec (.aspCommit n v) s = .next (s.gives (s.m.evt F.ASP_EVT_REFUSED n)))
  ∧ (∀ (s : State) n v, n < 64 → v < 0x100000000 → s.live → bitOf v 0 = false → exec (.aspCommit n v) s = .next (s.gives s.m))
  ∧ (∀ (s : State) n v, n < 64 → v < 0x100000000 → s.live → bitOf v 0 = true → s.m.on F.ASP_CTRL_EN n = false →
    2048 < s.m.aspLoad n + aspWeight (s.m.lv R.ASP_CFG n) → exec (.aspCtrlWrite n v) s = .next (s.gives (s.m.evt F.ASP_EVT_REFUSED n)))
  ∧ (∀ (s : State) n v, n < 64 → v < 0x100000000 → s.live → bitOf v 0 = true → s.m.power < 2 → s.m.on F.ASP_STAT_EN n = false →
    s.m.on F.ASP_CTRL_EN n = true ∨ s.m.aspLoad n + aspWeight (s.m.lv R.ASP_CFG n) ≤ 2048 →
    ∃ m : Mach, exec (.aspCtrlWrite n v) s = .next (s.gives m) ∧ m.rd R.ASP_CTRL n = v % 8 ∧ m.on F.ASP_STAT_EN n = true
      ∧ m.aspState n = 1 ∧ m.on F.ASP_STAT_LOSS n = true)
  ∧ (∀ (s : State) n v, n < 64 → v < 0x100000000 → s.live → bitOf v 0 = false → s.m.on F.ASP_STAT_EN n = true →
    ∃ m : Mach, exec (.aspCtrlWrite n v) s = .next (s.gives m) ∧ m.rd R.ASP_CTRL n = v % 8 ∧ m.on F.ASP_STAT_EN n = false
      ∧ m.aspState n = 0 ∧ m.on F.ASP_STAT_LOSS n = false ∧ m.on F.ASP_STAT_SYNC n = false)
  ∧ (∀ (s : State) n v l, n < 64 → v < 0x100000000 → s.live → v < 2 ^ s.m.aspSlots n →
    exec (.aspMaskWrite n v l) s = .next (s.gives (((s.m.wr R.ASP_MASK v n).sf F.ASP_STAT_MASKPEND 1 n).onAsp n (fun a => { a with maskWait := some (b2n (l && s.m.aspRun n)) }))))
  ∧ (∀ (s : State) n v l, n < 64 → v < 0x100000000 → s.live → 2 ^ s.m.aspSlots n ≤ v →
    exec (.aspMaskWrite n v l) s = .next (s.gives (s.m.evt F.ASP_EVT_REFUSED n)))
  ∧ (∀ (s : State) b v, b < 8 → v < 0x100000000 → s.live → bits v 2 2 ≠ 3 → s.m.rd R.ASP_BANK_CFG b = v % 16 →
    exec (.aspBankCfgWrite b v) s = .next (s.gives (s.m.wr R.ASP_BANK_CFG (v % 16) b)))
  ∧ (∀ (s : State) b v, b < 8 → v < 0x100000000 → s.live → bits v 2 2 ≠ 3 → s.m.rd R.ASP_BANK_CFG b ≠ v % 16 →
    ∃ m : Mach, exec (.aspBankCfgWrite b v) s = .next (s.gives m) ∧ m.rd R.ASP_BANK_CFG b = v % 16
      ∧ (m.on F.ASP_BANK_STAT_PRESENT b = true ↔ bits v 0 2 = 1 ∨ bits v 0 2 = 2)
      ∧ (∀ k, k < 8 → s.m.aspMaster (8 * b + k) = true → s.m.on F.ASP_STAT_EN (8 * b + k) = true →
          m.aspState (8 * b + k) = 1 ∧ m.gf F.ASP_STAT_CAUSE (8 * b + k) = 6))
  ∧ (∀ (s : State) b v, b < 8 → v < 0x100000000 → s.live → bits v 2 2 = 3 → exec (.aspBankCfgWrite b v) s = .next (s.gives s.m))
  ∧ (∀ (s : State) n v, n < 64 → v < 0x100000000 → s.live → bitOf v 0 = true →
    ∃ m : Mach, exec (.aspCntClr n v) s = .next (s.gives m) ∧ m.rd R.ASP_SLIP n = 0 ∧ m.rd R.ASP_GLITCH n = 0 ∧ m.rd R.ASP_LOSSES n = 0
      ∧ s.m.registersOnly m)

/-- Acquisition, running, slips, glitches, losses and rates of the serial ports. Frames of a stopped port do nothing; a good frame
acquires, a wrong rate or bit count does not; in RUN they are collected or slip; losses, returned clocks, rates, master clocks
and brown-outs set the state and cause their rules name. Rules: R392 to R400. -/
def Obligations.SerialPortFramesAndLosses : Prop :=
  (∀ (s : State) n k p l ph h, n < 64 → s.live → l.all (fun w => decide (w < 0x100000000)) = true → s.m.aspState n = 0 ∨ s.m.aspState n = 3 →
    exec (.aspFrame n k p l ph h) s = .next (s.gives s.m))
  ∧ (∀ (s : State) n k p l ph h, n < 64 → s.live → l.all (fun w => decide (w < 0x100000000)) = true → s.m.aspState n = 1 → s.m.aspMaster n = false →
    k ≠ s.m.aspSlots n * bitsOf (s.m.glv F.ASP_CFG_WIDTH n) → exec (.aspFrame n k p l ph h) s = .next (s.gives s.m))
  ∧ (∀ (s : State) n k p l ph h, n < 64 → s.live → l.all (fun w => decide (w < 0x100000000)) = true → s.m.aspState n = 1 → s.m.aspMaster n = false →
    k = s.m.aspSlots n * bitsOf (s.m.glv F.ASP_CFG_WIDTH n) → s.m.glv F.ASP_CFG_RATE n ≠ 0 → periodOk p (rateHz (s.m.glv F.ASP_CFG_RATE n)) = true →
    s.m.on F.ASP_STAT_EN n = true → (s.m.aspSt n).maskWait = none →
    ∃ m : Mach, exec (.aspFrame n k p l ph h) s = .next (s.gives m) ∧ m.aspState n = 2 ∧ m.gf F.ASP_STAT_RATE n = s.m.glv F.ASP_CFG_RATE n
      ∧ m.on F.ASP_STAT_LOSS n = false ∧ m.on F.ASP_EVT_ACQ n = true ∧ m.gf F.ASP_STAT_FILL n = 2)
  ∧ (∀ (s : State) n k p l ph h, n < 64 → s.live → l.all (fun w => decide (w < 0x100000000)) = true → s.m.aspState n = 1 → s.m.aspMaster n = false →
    k = s.m.aspSlots n * bitsOf (s.m.glv F.ASP_CFG_WIDTH n) → s.m.glv F.ASP_CFG_RATE n ≠ 0 → periodOk p (rateHz (s.m.glv F.ASP_CFG_RATE n)) = false →
    ∃ m : Mach, exec (.aspFrame n k p l ph h) s = .next (s.gives m) ∧ m.on F.ASP_STAT_WRONG_RATE n = true ∧ m.aspState n = 1 ∧ s.m.registersOnly m)
  ∧ (∀ (s : State) n k p l ph h, n < 64 → s.live → l.all (fun w => decide (w < 0x100000000)) = true → s.m.aspState n = 2 →
    periodOk p (rateHz (s.m.gf F.ASP_STAT_RATE n)) = false → 1 ≤ (s.m.aspSt n).badRate →
    exec (.aspFrame n k p l ph h) s = .next (s.gives (s.m.aspLoss n 3 true)))
  ∧ (∀ (s : State) n k p l ph h, n < 64 → s.live → l.all (fun w => decide (w < 0x100000000)) = true → s.m.aspState n = 2 → s.m.aspMaster n = false →
    periodOk p (rateHz (s.m.gf F.ASP_STAT_RATE n)) = true → k ≠ s.m.aspSlots n * bitsOf (s.m.glv F.ASP_CFG_WIDTH n) →
    7 ≤ ((s.m.aspSt n).hist.take 63 |>.filter id).length → exec (.aspFrame n k p l ph h) s = .next (s.gives (s.m.aspLoss n 4 true)))
  ∧ (∀ (s : State) n k p l ph h, n < 64 → s.live → l.all (fun w => decide (w < 0x100000000)) = true → s.m.aspState n = 2 → s.m.aspOut n = false →
    periodOk p (rateHz (s.m.gf F.ASP_STAT_RATE n)) = true → k = s.m.aspSlots n * bitsOf (s.m.glv F.ASP_CFG_WIDTH n) → h < 4 → (∀ l ∈ s.m.sys.loops, l.1 ≠ 0 ∨ l.2.2 ≠ n) →
    ((s.m.aspSt n).hist.take 63 |>.filter id).length < 8 →
    ∃ m : Mach, exec (.aspFrame n k p l ph h) s = .next (s.gives m) ∧ (m.aspSt n).coll =
        (s.m.aspSt n).coll ++ [some ⟨l.map (aspWord (s.m.lv R.ASP_CFG n)), m.on F.ASP_STAT_SYNC n, s.m.rd R.ASP_MASK_LIVE n % 2 ^ s.m.aspSlots n, false⟩]
      ∧ m.rd R.ASP_PHASE n = toU 32 ph ∧ m.rd R.ASP_SLIP n = s.m.rd R.ASP_SLIP n ∧ m.rd R.ASP_GLITCH n = s.m.rd R.ASP_GLITCH n ∧ m.aspState n = 2)
  ∧ (∀ (s : State) n k p l ph h, n < 64 → s.live → l.all (fun w => decide (w < 0x100000000)) = true → s.m.aspState n = 2 → s.m.aspOut n = false →
    periodOk p (rateHz (s.m.gf F.ASP_STAT_RATE n)) = true → k = s.m.aspSlots n * bitsOf (s.m.glv F.ASP_CFG_WIDTH n) → 4 ≤ h →
    ((s.m.aspSt n).hist.take 63 |>.filter id).length < 8 →
    ∃ m : Mach, exec (.aspFrame n k p l ph h) s = .next (s.gives m) ∧ (m.aspSt n).coll =
        (s.m.aspSt n).coll ++ [some ⟨[], m.on F.ASP_STAT_SYNC n, s.m.rd R.ASP_MASK_LIVE n % 2 ^ s.m.aspSlots n, false⟩]
      ∧ m.rd R.ASP_SLIP n = Nat.min 0xFFFFFFFF (s.m.rd R.ASP_SLIP n + 1) ∧ m.on F.ASP_EVT_SLIP n = true ∧ m.aspState n = 2)
  ∧ (∀ (s : State) n k p l ph h, n < 64 → s.live → l.all (fun w => decide (w < 0x100000000)) = true → s.m.aspState n = 2 → s.m.aspMaster n = false →
    periodOk p (rateHz (s.m.gf F.ASP_STAT_RATE n)) = true → k ≠ s.m.aspSlots n * bitsOf (s.m.glv F.ASP_CFG_WIDTH n) →
    ((s.m.aspSt n).hist.take 63 |>.filter id).length < 7 →
    ∃ m : Mach, exec (.aspFrame n k p l ph h) s = .next (s.gives m) ∧ m.rd R.ASP_GLITCH n = Nat.min 0xFFFFFFFF (s.m.rd R.ASP_GLITCH n + 1)
      ∧ m.on F.ASP_EVT_GLITCH n = true ∧ m.rd R.ASP_SLIP n = s.m.rd R.ASP_SLIP n ∧ m.aspState n = 2)
  ∧ (∀ (s : State) n k p l ph h, n < 64 → s.live → l.all (fun w => decide (w < 0x100000000)) = true → s.m.aspState n = 2 → s.m.aspOut n = true →
    periodOk p (rateHz (s.m.gf F.ASP_STAT_RATE n)) = true → k = s.m.aspSlots n * bitsOf (s.m.glv F.ASP_CFG_WIDTH n) →
    ((s.m.aspSt n).hist.take 63 |>.filter id).length < 8 →
    ∃ m : Mach, exec (.aspFrame n k p l ph h) s = .next (s.gives m) ∧ (m.aspSt n).coll = (s.m.aspSt n).coll ∧ m.aspState n = 2
      ∧ m.rd R.ASP_SLIP n = (if h = 0 then Nat.min 0xFFFFFFFF (s.m.rd R.ASP_SLIP n + 1) else s.m.rd R.ASP_SLIP n))
  ∧ (∀ (s : Mach) n c b, n < 64 → c < 8 → s.aspRun n = true → s.on F.ASP_STAT_EN n = true →
    (s.aspLoss n c b).aspState n = (if b then 1 else 3) ∧ (s.aspLoss n c b).gf F.ASP_STAT_CAUSE n = c ∧ (s.aspLoss n c b).on F.ASP_STAT_LOSS n = true
      ∧ (s.aspLoss n c b).on F.ASP_EVT_LOSS n = true ∧ (s.aspLoss n c b).rd R.ASP_LOSSES n = Nat.min 0xFFFFFFFF (s.rd R.ASP_LOSSES n + 1)
      ∧ (∀ k, k ≠ n → k < 64 → (s.aspLoss n c b).aspState k = s.aspState k))
  ∧ (∀ (s : State) n, n < 64 → s.live → s.m.aspMaster n = true ∨ s.m.on F.ASP_CTRL_BCW n = true →
    exec (.aspClockTimeout n 1) s = .next (s.gives (s.m.aspLoss n 1 false)))
  ∧ (∀ (s : State) n, n < 64 → s.live → s.m.aspMaster n = false → exec (.aspClockTimeout n 2) s = .next (s.gives (s.m.aspLoss n 2 false)))
  ∧ (∀ (s : State) n, n < 64 → s.live → s.m.aspMaster n = false → s.m.on F.ASP_CTRL_BCW n = false → exec (.aspClockTimeout n 1) s = .next (s.gives s.m))
  ∧ (∀ (s : State) n, n < 64 → s.live → s.m.aspMaster n = true → exec (.aspClockTimeout n 2) s = .next (s.gives s.m))
  ∧ (∀ (s : State) n, n < 64 → s.live → s.m.gf F.ASP_BANK_CFG_SRC (n / 8) ≠ 3 → exec (.aspClockTimeout n 5) s = .next (s.gives s.m))
  ∧ (∀ (s : State) n, n < 64 → s.live → s.m.gf F.ASP_BANK_CFG_SRC (n / 8) = 3 →
    ∃ m : Mach, exec (.aspClockTimeout n 5) s = .next (s.gives m) ∧ m.on F.ASP_BANK_STAT_PRESENT (n / 8) = false
      ∧ ∀ k, k < 64 → (s.m.aspMaster k = false ∨ k / 8 ≠ n / 8) → m.aspState k = s.m.aspState k)
  ∧ (∀ (s : State) n, n < 64 → s.live → s.m.aspState n = 3 → exec (.aspClockReturn n) s = .next (s.gives (s.m.aspSet n 1)))
  ∧ (∀ (s : State) n, n < 64 → s.live → s.m.aspState n ≠ 3 → exec (.aspClockReturn n) s = .next (s.gives s.m))
  ∧ (∀ (s : State) n k, n < 64 → s.live → s.m.aspRun n = true → 0 < k → (s.m.aspSt n).rates = [] → 6400000000000 / k < 2 ^ 32 →
    ∃ m : Mach, exec (.aspRateMeasure n k) s = .next (s.gives m) ∧ m.rd R.ASP_RATE n = 6400000000000 / k ∧ m.rd R.ASP_STABLE n = 6400000000000 / k
      ∧ (m.aspSt n).rates = [6400000000000 / k] ∧ (m.aspSt n).exc = false)
  ∧ (∀ (s : State) n k, n < 64 → s.live → s.m.aspRun n = false ∨ k = 0 → exec (.aspRateMeasure n k) s = .next (s.gives s.m))
  ∧ (∀ (s : State) b k, b < 8 → s.live → s.m.gf F.ASP_BANK_CFG_SRC b ≠ 3 → exec (.aspMclkMeasure b k) s = .next (s.gives s.m))
  ∧ (∀ (s : State) b, b < 8 → s.live → s.m.gf F.ASP_BANK_CFG_SRC b = 3 →
    ∃ m : Mach, exec (.aspMclkMeasure b (128 * 2 ^ s.m.gf F.ASP_BANK_CFG_RATIO b * 44100)) s = .next (s.gives m) ∧ m.on F.ASP_BANK_STAT_PRESENT b = true
      ∧ m.gf F.ASP_BANK_STAT_FAMILY b = 1 ∧ s.m.registersOnly m)
  ∧ (∀ (s : State) b, b < 8 → s.live → ∃ m : Mach, exec (.ioaspBrownOut b true) s = .next (s.gives m)
      ∧ (∀ k, k < 8 → s.m.aspRun (8 * b + k) = true → s.m.on F.ASP_STAT_EN (8 * b + k) = true → m.aspState (8 * b + k) = 3 ∧ m.gf F.ASP_STAT_CAUSE (8 * b + k) = 5))
  ∧ (∀ (s : State) b, b < 8 → s.live → ∃ m : Mach, exec (.ioaspBrownOut b false) s = .next (s.gives m)
      ∧ (∀ k, k < 64 → m.aspState k = if k / 8 = b ∧ s.m.aspState k = 3 then 1 else s.m.aspState k))

/-- Each received frame goes where the first matching row sends it. Frames on a link that is down, runts, oversize and bad frames
are dropped and counted; pause, PTP, stream and ring frames go to their consumers; pause, overflow and firmware-protocol rows do
their effect. Rules: R404, R406, R411, R417, R418. -/
def Obligations.ReceivedFrames : Prop :=
  (∀ (s : State) p f, p < 2 → s.live → s.m.linkUp p = false ∨ s.m.macLooped p = true → exec (.netRxFrame p f) s = .next (s.gives s.m))
  ∧ (∀ (s : State) p f, p < 2 → s.live → s.m.linkUp p = true → s.m.macLooped p = false → f.len < 64 → s.m.on F.NET_CFG_RUNT_SILENT p = true →
    exec (.netRxFrame p f) s = .next (s.gives (s.m.bump R.NET_RUNT p)))
  ∧ (∀ (s : State) p f, p < 2 → s.live → s.m.linkUp p = true → s.m.macLooped p = false → f.len < 64 → s.m.on F.NET_CFG_RUNT_SILENT p = false →
    exec (.netRxFrame p f) s = .next (s.gives ((s.m.bump R.NET_RUNT p).evt F.NET_EVT_RUNT p)))
  ∧ (∀ (s : State) p f, p < 2 → s.live → s.m.linkUp p = true → s.m.macLooped p = false → 9216 < f.len → exec (.netRxFrame p f) s = .next (s.gives (s.m.bump R.NET_OVERSIZE p)))
  ∧ (∀ (s : State) p f, p < 2 → s.live → s.m.linkUp p = true → s.m.macLooped p = false → 64 ≤ f.len → f.len ≤ 9216 → f.fcsOk = false →
    exec (.netRxFrame p f) s = .next (s.gives (s.m.bump R.NET_FCS_ERR p)))
  ∧ (∀ (s : State) p f h t, p < 2 → s.live → s.m.linkUp p = true → s.m.macLooped p = false → 64 ≤ f.len → f.len ≤ 9216 → f.fcsOk = true → h = parseFrame f.data →
    t = s.m.bump R.NET_RX_FRAMES p →
    (h.ety = 0x8808 → beAt f.data h.l3 2 = 1 → exec (.netRxFrame p f) s = .next (s.gives (t.pauseFrame p (beAt f.data (h.l3 + 2) 2))))
    ∧ (h.ety = 0x88F7 ∨ (h.ety ≠ 0x8808 ∧ h.udp = true ∧ (h.dport = 319 ∨ h.dport = 320)) → exec (.netRxFrame p f) s = .next (s.gives t))
    ∧ (h.ety ≠ 0x8808 → h.ety ≠ 0x88F7 → h.udp = true → h.dport ≠ 319 → h.dport ≠ 320 → ∀ k x, t.sin.find? (fun e =>
        e.2.en && e.2.group == h.dst && e.2.port == h.dport && (e.2.source == 0 || e.2.source == h.src)) = some (k, x) →
        exec (.netRxFrame p f) s = .next (s.gives (t.mediaIn p k h.payload)))
    ∧ (h.ety ≠ 0x8808 → h.ety ≠ 0x88F7 → h.udp = false → t.fwProto p f.data h = none → ∀ k, t.classify p h = some k →
        exec (.netRxFrame p f) s = .next (s.gives (t.ringWrite p (t.gf F.NET_CLASS_RING p k) k h.vlan.isSome f.data f.stamp)))
    ∧ (h.ety ≠ 0x8808 → h.ety ≠ 0x88F7 → h.udp = false → t.fwProto p f.data h = none → t.classify p h = none →
        exec (.netRxFrame p f) s = .next (s.gives (t.ringWrite p 0 15 h.vlan.isSome f.data f.stamp))))
  ∧ (∀ (s : State) p, p < 2 → s.live → exec (.netRxOverflow p) s = .next (s.gives ((s.m.bump R.NET_RX_OVERFLOW p).evt F.NET_EVT_OVERFLOW p)))
  ∧ (∀ (s : State) p, p < 2 → s.live → exec (.pauseEnd p) s = .next (s.gives (s.m.sf F.NET_STAT_PAUSED 0 p)))
  ∧ (∀ (s : State) p, p < 2 → s.live → s.m.on F.NET_STAT_PAUSED p = true →
    ∃ m : Mach, exec (.pauseWatchdog p) s = .next (s.gives m) ∧ m.on F.NET_STAT_PAUSED p = false ∧ m.on F.NET_EVT_PAUSE_WD p = true
      ∧ m.rd R.NET_PAUSE_WD p = Nat.min 0xFFFFFFFF (s.m.rd R.NET_PAUSE_WD p + 1) ∧ (m.netPort p).ignore = true)
  ∧ (∀ (s : State) p, p < 2 → s.live → s.m.on F.NET_STAT_PAUSED p = false → exec (.pauseWatchdog p) s = .next (s.gives s.m))
  ∧ (∀ (s : State) p, p < 2 → s.live → exec (.pauseIgnoreEnd p) s = .next (s.gives (s.m.onNet p (fun n => { n with ignore := false }))))
  ∧ (∀ (s : State) p, p < 2 → s.live → (s.m.netPort p).fwIn = [] → exec (.firmwareProtocolReply p) s = .next (s.gives s.m))
  ∧ (∀ (s : State) p k d r, p < 2 → s.live → (s.m.netPort p).fwIn = (k, d) :: r → k ≠ 3 →
    exec (.firmwareProtocolReply p) s = .next (s.gives (s.m.onNet p (fun n => { n with fwIn := r, fwQ := n.fwQ ++ [(k, d)] }))))
  ∧ (∀ (s : State) p d r, p < 2 → s.live → (s.m.netPort p).fwIn = (3, d) :: r →
    exec (.firmwareProtocolReply p) s = .next (s.gives (s.m.onNet p (fun n => { n with fwIn := r }))))

/-- The next frame is chosen by class, launched on time and counted when done. A blocked port starts nothing; PTP answers go first,
media packets before replies, these before firmware's frames and these before host frames; a done frame is counted, received
again where the port is looped, and its descriptors written back; launch times wait, send or abort; media packets leave on the
ports that can send and are queued or dropped on the others. Rules: R412 to R416, R419, R428, R445, R450. -/
def Obligations.TransmittedFrames : Prop :=
  (∀ (s : State) p, p < 2 → s.live → s.m.linkUp p = false ∨ s.m.on F.NET_STAT_PAUSED p = true ∨ (s.m.netPort p).inflight.isSome →
    exec (.netTxFrameStart p) s = .next (s.gives s.m))
  ∧ (∀ (s : State) p q r, p < 2 → s.live → s.m.linkUp p = true → s.m.on F.NET_STAT_PAUSED p = false → (s.m.netPort p).inflight = none → s.m.ptpWait p = 0 →
    (s.m.netPort p).mediaQ = q :: r →
    (∀ x ∈ (s.m.netPort p).mediaQ, s.m.tm.net < x.launch + s.m.gf F.NET_MEDIA_BUDGET_US p * 1000 * 65536) →
    exec (.netTxFrameStart p) s = .next (s.gives ((s.m.onNet p (fun n => { n with mediaQ := r })).sendFrame p ⟨1, 0, 0, false, 0, q.rtp, q.stream, none, 0⟩)))
  ∧ (∀ (s : State) p i a k r, p < 2 → s.live → s.m.linkUp p = true → s.m.on F.NET_STAT_PAUSED p = false → (s.m.netPort p).inflight = none → s.m.ptpWait p = 0 →
    (s.m.netPort p).mediaQ = [] → s.m.gf F.TIME_STAT_CTRL_PORT = p → s.m.cmd.udpOut = (i, a, k) :: r → s.m.nextLaunch = none →
    exec (.netTxFrameStart p) s = .next (s.gives ((s.m.onCmd (fun c => { c with udpOut := r })).sendFrame p
      ⟨2, 0, 0, false, 0, k, 0, some (s.m.gf F.CMD_UDP_CFG_PORT, i, a), 0⟩)))
  ∧ (∀ (s : State) p i d r, p < 2 → s.live → s.m.linkUp p = true → s.m.on F.NET_STAT_PAUSED p = false → (s.m.netPort p).inflight = none → s.m.ptpWait p = 0 →
    (s.m.netPort p).mediaQ = [] → s.m.repliesOf p = [] → (s.m.netPort p).fwQ = (i, d) :: r → s.m.nextLaunch = none →
    exec (.netTxFrameStart p) s = .next (s.gives ((s.m.onNet p (fun n => { n with fwQ := r })).sendFrame p ⟨2, 1, 0, false, 0, d, 0, none, 0⟩)))
  ∧ (∀ (s : Mach) p f, ((s.sendFrame p f).netPort p).inflight = some f ∧ (s.sendFrame p f).on F.NET_STAT_LPI p = false)
  ∧ (∀ (s : State) p t u, p < 2 → s.live → (s.m.netPort p).inflight = none → exec (.netTxFrameDone p t u) s = .next (s.gives s.m))
  ∧ (∀ (s : State) p t u f, p < 2 → s.live → (s.m.netPort p).inflight = some f → f.cls ≠ 3 → s.m.macLooped p = false ∨ u = true →
    exec (.netTxFrameDone p t u) s = .next (s.gives ((s.m.onNet p (fun n => { n with inflight := none, sent := some f })).bump R.NET_TX_FRAMES p)))
  ∧ (∀ (s : State) p t f n, p < 2 → s.live → (s.m.netPort p).inflight = some f → f.cls ≠ 3 → s.m.macLooped p = true →
    n = s.m.onNet p (fun n => { n with inflight := none, sent := some f }) →
    exec (.netTxFrameDone p t false) s = .next (s.gives ((n.rxTake p f.bytes (n.loopFrame p f) t).bump R.NET_TX_FRAMES p)))
  ∧ (∀ (s : State) p t f, p < 2 → s.live → (s.m.netPort p).inflight = some f → f.cls = 3 → f.tsReq = false → f.ring < 4 → s.m.macLooped p = false →
    exec (.netTxFrameDone p t false) s = .next (s.gives (((s.m.onNet p (fun n => { n with inflight := none, sent := some f })).bump R.NET_TX_FRAMES p).endFrame
      p f.ring f.descs 0)))
  ∧ (∀ (s : Mach) p t n x, p < 2 → t < 4 → (s.endFrame p t n x).rd R.NET_TX_HEAD p t =
      (s.rd R.NET_TX_HEAD p t + n) % 2 ^ s.gf F.NET_TX_CTRL_SIZE p t)
  ∧ (∀ (s : State) p t ds l, p < 2 → t < 4 → s.live → s.m.linkUp p = false → s.m.headFrame p t = some ds → launchOf ds = some l → l ≤ s.m.tm.net →
    exec (.launchTimeReached p t) s = .next (s.gives (s.m.endFrame p t ds.length fABORT)))
  ∧ (∀ (s : State) p t, p < 2 → t < 4 → s.live → s.m.linkUp p = true → s.m.on F.NET_STAT_PAUSED p = true ∨ (s.m.netPort p).inflight.isSome ∨ 0 < s.m.ptpWait p ∨
    (s.m.netPort p).mediaQ ≠ [] ∨ s.m.repliesOf p ≠ [] ∨ (s.m.netPort p).fwQ ≠ [] → exec (.launchTimeReached p t) s = .next (s.gives s.m))
  ∧ (∀ (s : State) p t, p < 2 → t < 4 → s.live → s.m.linkUp p = true → s.m.on F.NET_STAT_PAUSED p = false → (s.m.netPort p).inflight = none → s.m.ptpWait p = 0 →
    (s.m.netPort p).mediaQ = [] → s.m.repliesOf p = [] → (s.m.netPort p).fwQ = [] → (∀ u, u < t → s.m.headFrame p u = none) →
    exec (.launchTimeReached p t) s = .next (s.gives (s.m.hostStart p t s.m.nextLaunch)))
  ∧ (∀ (s : Mach) p t l ds, s.headFrame p t = some ds → badFrame ds = false → launchOf ds = some l →
    (s.tm.net < l → l ≤ s.tm.net + s.gf F.TIME_LAUNCH_CFG_AHEAD_S * 1000000000 * 65536 → ((s.hostStart p t none).netPort p).inflight = (s.netPort p).inflight)
    ∧ (l ≤ s.tm.net → s.tm.net ≤ l + s.gf F.TIME_LAUNCH_CFG_LATE_US * 1000 * 65536 → ((s.hostStart p t none).netPort p).inflight = some (txFrameOf
        (s.each ds (fun s e => s.busRead (8 + p) (8 + t) (s.txBase p t + 32 * e.1) 32)) p t ds)))
  ∧ (∀ (s : State) k, k < 256 → s.live → (s.m.strOut k).en = true → ptimeSamples (s.m.strOut k).rate (s.m.strOut k).ptime ≤ (s.m.strOut k).buf.length →
    s.m.on F.TIME_REDUND_DUP_EGRESS = false → s.m.linkUp 0 = true → s.m.on F.NET_STAT_PAUSED 0 = false → s.m.net0.inflight = none → s.m.net0.mediaQ = [] → s.m.ptpWait 0 = 0 →
    ∃ m : Mach, exec (.mediaPacketLaunch k) s = .next (s.gives m) ∧ m.net0 = { s.m.net0 with inflight := some ⟨1, 0, 0, false, 0, rtpOf (s.m.strOut k), k, none, 0⟩ }
      ∧ (m.strOut k).seq = ((s.m.strOut k).seq + 1) % 65536 ∧ (m.strOut k).buf0 = (s.m.strOut k).buf0 + ptimeGrid (s.m.strOut k).ptime
      ∧ m.rd R.STRM_OUT_PKTS k = Nat.min 0xFFFFFFFF (s.m.rd R.STRM_OUT_PKTS k + 1) ∧ m.net1 = s.m.net1)
  ∧ (∀ (s : State) k, k < 256 → s.live → (s.m.strOut k).en = true → ptimeSamples (s.m.strOut k).rate (s.m.strOut k).ptime ≤ (s.m.strOut k).buf.length →
    s.m.on F.TIME_REDUND_DUP_EGRESS = true → s.m.linkUp 0 = true → s.m.linkUp 1 = true → s.m.on F.NET_STAT_PAUSED 0 = false →
    s.m.on F.NET_STAT_PAUSED 1 = true → s.m.net0.inflight = none → s.m.net0.mediaQ = [] → s.m.ptpWait 0 = 0 →
    ∃ m : Mach, exec (.mediaPacketLaunch k) s = .next (s.gives m) ∧ m.net0 = { s.m.net0 with inflight := some ⟨1, 0, 0, false, 0, rtpOf (s.m.strOut k), k, none, 0⟩ }
      ∧ m.net1 = { s.m.net1 with mediaQ := s.m.net1.mediaQ ++ [⟨k, launchAt (s.m.strOut k).buf0 (s.m.strOut k).ptime, rtpOf (s.m.strOut k)⟩] })
  ∧ (∀ (s : State) k, k < 256 → s.live → (s.m.strOut k).en = true → ptimeSamples (s.m.strOut k).rate (s.m.strOut k).ptime ≤ (s.m.strOut k).buf.length →
    s.m.on F.TIME_REDUND_DUP_EGRESS = false → s.m.linkUp 0 = false →
    ∃ m : Mach, exec (.mediaPacketLaunch k) s = .next (s.gives m) ∧ m.net0 = s.m.net0 ∧ m.net1 = s.m.net1
      ∧ m.rd R.NET_TX_DOWN_DROP 0 = Nat.min 0xFFFFFFFF (s.m.rd R.NET_TX_DOWN_DROP 0 + 1)
      ∧ m.rd R.STRM_OUT_DROP k = Nat.min 0xFFFFFFFF (s.m.rd R.STRM_OUT_DROP k + 1) ∧ m.rd R.STRM_OUT_PKTS k = s.m.rd R.STRM_OUT_PKTS k)
  ∧ (∀ (s : State) k, k < 256 → s.live → (s.m.strOut k).en = false ∨ (s.m.strOut k).buf.length < ptimeSamples (s.m.strOut k).rate (s.m.strOut k).ptime →
    exec (.mediaPacketLaunch k) s = .next (s.gives s.m))
  ∧ (∀ (s : State) p, p < 2 → s.live → ∃ m : Mach, exec (.mediaLateDrop p) s = .next (s.gives m)
      ∧ (∀ x, x ∈ (m.netPort p).mediaQ ↔ x ∈ (s.m.netPort p).mediaQ ∧ s.m.tm.net < x.launch + s.m.gf F.NET_MEDIA_BUDGET_US p * 1000 * 65536)
      ∧ s.m.gf F.NET_MEDIA_BUDGET_US p = m.gf F.NET_MEDIA_BUDGET_US p)
  ∧ (∀ (s : State) p, p < 2 → s.live → s.m.linkUp p = true → s.m.on F.NET_STAT_PAUSED p = false → (s.m.netPort p).inflight = none →
    (s.m.netPort p).mediaQ = [] → 0 < s.m.ptpWait p →
    exec (.netTxFrameStart p) s = .next (s.gives ((s.m.onTime (fun t => { t with ptpQ := mput t.ptpQ p (s.m.ptpWait p - 1) })).sendFrame p
      ⟨0, 0, 0, false, 0, [], 0, none, 0⟩)))

/-- Links, low-power idle, downshift, rings and counters of the network ports. A link comes up at its speed or is refused at half
duplex; a lost link drops what was queued; low-power idle and downshift act only under all their conditions; doorbells inside
the ring move an index, others raise BAD_DOORBELL; ring enables start at zero; a clear zeroes the counters. Rules: R408, R412,
R416, R420, R421, R431. -/
def Obligations.LinksAndRings : Prop :=
  (∀ (s : State) p v, p < 2 → 1 ≤ v → v ≤ 4 → s.live → s.m.linkUp p = false →
    ∃ m : Mach, exec (.netLinkUp p v false) s = .next (s.gives m) ∧ m.linkUp p = true ∧ m.gf F.NET_STAT_SPEED p = v ∧ m.on F.NET_EVT_LINK_UP p = true)
  ∧ (∀ (s : State) p v, p < 2 → 1 ≤ v → v ≤ 4 → s.live → s.m.linkUp p = false → exec (.netLinkUp p v true) s = .next (s.gives (s.m.evt F.NET_EVT_HALF p)))
  ∧ (∀ (s : State) p c, p < 2 → s.live → s.m.linkUp p = false → exec (.netLinkDown p c) s = .next (s.gives s.m))
  ∧ (∀ (s : State) p c, p < 2 → s.live → s.m.linkUp p = true →
    ∃ m : Mach, exec (.netLinkDown p c) s = .next (s.gives m) ∧ m.linkUp p = false ∧ m.on F.NET_EVT_LINK_DOWN p = true ∧ m.on F.NET_STAT_PAUSED p = false
      ∧ (m.netPort p).inflight = none ∧ (m.netPort p).mediaQ = [])
  ∧ (∀ (s : State) p, p < 2 → s.live → s.m.on F.NET_CFG_EEE p = true → s.m.linkUp p = true → (s.m.netPort p).inflight = none → s.m.ptpWait p = 0 →
    (s.m.netPort p).mediaQ = [] → (s.m.netPort p).fwQ = [] → (∀ t, t < 4 → s.m.headFrame p t = none) →
    s.m.repliesOf p = [] → (∀ l, s.m.nextLaunch = some l → s.m.tm.net + 2000 * 65536 < l) →
    exec (.lpiEnter p) s = .next (s.gives (s.m.sf F.NET_STAT_LPI 1 p)))
  ∧ (∀ (s : State) p l, p < 2 → s.live → s.m.on F.NET_CFG_EEE p = false ∨ s.m.linkUp p = false ∨ (s.m.netPort p).inflight.isSome ∨ 0 < s.m.ptpWait p ∨
    (s.m.netPort p).mediaQ ≠ [] ∨ (s.m.netPort p).fwQ ≠ [] ∨ s.m.repliesOf p ≠ [] ∨ (s.m.nextLaunch = some l ∧ l ≤ s.m.tm.net + 2000 * 65536) →
    exec (.lpiEnter p) s = .next (s.gives s.m))
  ∧ (∀ (s : State) p, p < 2 → s.live → exec (.lpiWake p) s = .next (s.gives (s.m.sf F.NET_STAT_LPI 0 p)))
  ∧ (∀ (s : State) p, p < 2 → s.live → s.m.on F.NET_CFG_DOWNSHIFT p = true → s.m.power = 2 → s.m.activePort ≠ p →
    s.m.on F.NET_STAT_DOWNSHIFTED p = false → s.m.linkUp p = true →
    exec (.downshift p) s = .next (s.gives (((s.m.linkDrop p).sf F.NET_STAT_DOWNSHIFTED 1 p).evt F.NET_EVT_DOWNSHIFT p)))
  ∧ (∀ (s : State) p, p < 2 → s.live → s.m.on F.NET_CFG_DOWNSHIFT p = false ∨ s.m.power ≠ 2 ∨ s.m.activePort = p ∨
    s.m.on F.NET_STAT_DOWNSHIFTED p = true ∨ s.m.linkUp p = false → exec (.downshift p) s = .next (s.gives s.m))
  ∧ (∀ (s : State) p, p < 2 → s.live → exec (.downshiftRenegotiationTimeout p) s = .next (s.gives (s.m.onNet p (fun n => { n with renego := false }))))
  ∧ (∀ (s : State) p r v, p < 2 → r < 8 → v < 0x100000000 → s.live → v % 4096 < 2 ^ s.m.gf F.NET_RX_CTRL_SIZE p r →
    exec (.netRxTailWrite p r v) s = .next (s.gives (s.m.wr R.NET_RX_TAIL (v % 4096) p r))
      ∧ exec (.netPoolTailWrite p r v) s = .next (s.gives (s.m.wr R.NET_RX_POOL_TAIL (v % 4096) p r)))
  ∧ (∀ (s : State) p r v, p < 2 → r < 8 → v < 0x100000000 → s.live → 2 ^ s.m.gf F.NET_RX_CTRL_SIZE p r ≤ v % 4096 →
    exec (.netRxTailWrite p r v) s = .next (s.gives (s.m.evt F.NET_EVT_BAD_DOORBELL p))
      ∧ exec (.netPoolTailWrite p r v) s = .next (s.gives (s.m.evt F.NET_EVT_BAD_DOORBELL p)))
  ∧ (∀ (s : State) p t v, p < 2 → t < 4 → v < 0x100000000 → s.live → v % 4096 < 2 ^ s.m.gf F.NET_TX_CTRL_SIZE p t →
    exec (.netTxTailWrite p t v) s = .next (s.gives (s.m.wr R.NET_TX_TAIL (v % 4096) p t)))
  ∧ (∀ (s : State) p t v, p < 2 → t < 4 → v < 0x100000000 → s.live → 2 ^ s.m.gf F.NET_TX_CTRL_SIZE p t ≤ v % 4096 →
    exec (.netTxTailWrite p t v) s = .next (s.gives s.m))
  ∧ (∀ (s : State) p r v, p < 2 → r < 8 → v < 0x100000000 → s.live → bits v 4 4 < 4 ∨ 12 < bits v 4 4 ∨ bits v 16 14 % 64 ≠ 0 ∨ bits v 16 14 < 256 ∨
    9216 < bits v 16 14 → exec (.netRingCtrlWrite p false r v) s = .next (s.gives s.m))
  ∧ (∀ (s : State) p t v, p < 2 → t < 4 → v < 0x100000000 → s.live → bits v 4 4 < 4 ∨ 12 < bits v 4 4 →
    exec (.netRingCtrlWrite p true t v) s = .next (s.gives s.m))
  ∧ (∀ (s : State) p r v, p < 2 → r < 8 → v < 0x100000000 → s.live → 4 ≤ bits v 4 4 → bits v 4 4 ≤ 12 → bits v 16 14 % 64 = 0 → 256 ≤ bits v 16 14 →
    bits v 16 14 ≤ 9216 → s.m.on F.NET_RX_CTRL_EN p r = true →
    exec (.netRingCtrlWrite p false r v) s = .next (s.gives (s.m.wr R.NET_RX_CTRL (putBits (s.m.rd R.NET_RX_CTRL p r) 0 1 (v &&& 0x3FFF00F1)) p r)))
  ∧ (∀ (s : State) p t v, p < 2 → t < 4 → v < 0x100000000 → s.live → 4 ≤ bits v 4 4 → bits v 4 4 ≤ 12 → s.m.on F.NET_TX_CTRL_EN p t = true →
    exec (.netRingCtrlWrite p true t v) s = .next (s.gives (s.m.wr R.NET_TX_CTRL (putBits (s.m.rd R.NET_TX_CTRL p t) 0 1 (v &&& 0xF1)) p t)))
  ∧ (∀ (s : State) p r v, p < 2 → r < 8 → v < 0x100000000 → s.live → 4 ≤ bits v 4 4 → bits v 4 4 ≤ 12 → bits v 16 14 % 64 = 0 → 256 ≤ bits v 16 14 →
    bits v 16 14 ≤ 9216 → bitOf v 0 = true → s.m.on F.NET_RX_CTRL_EN p r = false →
    exec (.netRingCtrlWrite p false r v) s = .next (s.gives (((((s.m.wr R.NET_RX_CTRL (v &&& 0x3FFF00F1) p r).wr R.NET_RX_HEAD 0 p r).wr
      R.NET_RX_TAIL 0 p r).wr R.NET_RX_POOL_HEAD 0 p r).wr R.NET_RX_POOL_TAIL 0 p r)))
  ∧ (∀ (s : State) p t v, p < 2 → t < 4 → v < 0x100000000 → s.live → 4 ≤ bits v 4 4 → bits v 4 4 ≤ 12 → bitOf v 0 = true →
    s.m.on F.NET_TX_CTRL_EN p t = false →
    exec (.netRingCtrlWrite p true t v) s = .next (s.gives (((s.m.wr R.NET_TX_CTRL (v &&& 0xF1) p t).wr R.NET_TX_HEAD 0 p t).wr R.NET_TX_TAIL 0 p t)))
  ∧ (∀ (s : State) p v, p < 2 → v < 0x100000000 → s.live → bitOf v 0 = true → ∃ m : Mach, exec (.netCntClr p v) s = .next (s.gives m)
      ∧ (∀ r, r ∈ [R.NET_RX_FRAMES, R.NET_TX_FRAMES, R.NET_RX_NOBUF_DROP, R.NET_RX_OVERFLOW, R.NET_RUNT, R.NET_FCS_ERR, R.NET_OVERSIZE,
          R.NET_PAUSE_WD, R.NET_MEDIA_LATE_DROP, R.NET_TX_UNDERRUN, R.NET_PAUSE_RCVD, R.NET_RX_NOMATCH, R.NET_TX_DOWN_DROP] → m.rd r p = 0)
      ∧ s.m.registersOnly m)

/-- Merge windows, lost streams, the stream region and discovered sessions. A closed merge window counts its packet lost; a running
stream that is lost changes state and raises LOST; the region enables and disables; announcements add, change and expire
entries, and an announced stream is sent on both ports. Rules: R422, R427, R429, R449. -/
def Obligations.StreamsAndDiscovery : Prop :=
  (∀ (s : State) k q e, k < 256 → q < 65536 → s.live → (s.m.strIn k).missing.find? (fun z => z % 65536 == q % 65536) = some e →
    exec (.mergeWindowExpire k q) s = .next (s.gives ((s.m.onIn k (fun x => { x with missing := x.missing.filter (· != e) })).bump R.STRM_IN_LOST k)))
  ∧ (∀ (s : State) k q, k < 256 → q < 65536 → s.live → (s.m.strIn k).missing.find? (fun z => z % 65536 == q % 65536) = none →
    exec (.mergeWindowExpire k q) s = .next (s.gives s.m))
  ∧ (∀ (s : State) k, k < 256 → s.live → s.m.gf F.STRM_IN_STAT_STATE k = 2 →
    ∃ m : Mach, exec (.streamLost k) s = .next (s.gives m) ∧ m.gf F.STRM_IN_STAT_STATE k = 3 ∧ m.on F.STRM_EVT_LOST = true
      ∧ ∀ j, j ≠ k → j < 256 → m.gf F.STRM_IN_STAT_STATE j = s.m.gf F.STRM_IN_STAT_STATE j)
  ∧ (∀ (s : State) k, k < 256 → s.live → s.m.gf F.STRM_IN_STAT_STATE k ≠ 2 → exec (.streamLost k) s = .next (s.gives s.m))
  ∧ (∀ (s : State) v, v < 0x100000000 → s.live → s.m.strmOn = false → bitOf v 31 = true →
    s.m.regionOk 2 (s.m.sf F.STRM_REGION_HI_ADDR v).strmBase strmSize = true →
    ∃ m : Mach, exec (.strmRegionWrite v) s = .next (s.gives m) ∧ m.strmOn = true ∧ m.gf F.STRM_REGION_HI_ADDR = v % 256)
  ∧ (∀ (s : State) v, v < 0x100000000 → s.live → s.m.strmOn = true → bitOf v 31 = false → (∀ e ∈ s.m.sin, e.2.en = false) →
    exec (.strmRegionWrite v) s = .next (s.gives (s.m.sf F.STRM_REGION_HI_EN 0)))
  ∧ (∀ (s : State) v, v < 0x100000000 → s.live → bitOf v 0 = true → ∃ m : Mach, exec (.strmCntClr v) s = .next (s.gives m)
      ∧ (∀ k r, k < 256 → r ∈ [R.STRM_IN_PKTS, R.STRM_IN_LOST, R.STRM_IN_DUP, R.STRM_IN_LATE, R.STRM_IN_EARLY, R.STRM_IN_BAD, R.STRM_OUT_PKTS,
          R.STRM_OUT_DROP] → m.rd r k = 0) ∧ s.m.registersOnly m)
  ∧ (∀ (s : State) a, s.live → s.m.hostMode 2 = false → s.m.disc.find? (fun d => d.a.sid == a.sid) = none →
    exec (.discoveryAnnouncement a) s = .next (s.gives { s.m with disc := s.m.disc ++ [⟨a, annSupported a, s.m.tm.up⟩] }))
  ∧ (∀ (s : State) a d, s.live → s.m.hostMode 2 = false → s.m.disc.find? (fun d => d.a.sid == a.sid) = some d → d.a ≠ a →
    exec (.discoveryAnnouncement a) s = .next (s.gives (Mach.evt { s.m with disc := s.m.disc.map (fun e =>
      if e.a.sid == a.sid then ⟨a, annSupported a, s.m.tm.up⟩ else e) } F.STRM_EVT_DISC_CHANGE)))
  ∧ (∀ (s : State) n, s.live → ∃ m : Mach, exec (.discoveryExpire n) s = .next (s.gives m) ∧ m.regs = s.m.regs
      ∧ ∀ d, d ∈ m.disc ↔ d ∈ s.m.disc ∧ ¬ (d.a.sid = n ∧ d.at_ + 300000000000 ≤ s.m.tm.up))
  ∧ (∀ (s : State) k, k < 256 → s.live → s.m.hostMode 2 = false → (s.m.strOut k).en = true → (s.m.strOut k).announce = true →
    ∃ m : Mach, exec (.streamAnnounce k) s = .next (s.gives m) ∧ m.on F.STRM_OUT_STAT_ANNOUNCED k = true
      ∧ m.net0 = { s.m.net0 with fwQ := s.m.net0.fwQ ++ [(3, (s.m.strOut k).name)] } ∧ m.net1 = { s.m.net1 with fwQ := s.m.net1.fwQ ++ [(3, (s.m.strOut k).name)] })
  ∧ (∀ (s : State) k, k < 256 → s.live → s.m.hostMode 2 = true ∨ (s.m.strOut k).en = false ∨ (s.m.strOut k).announce = false →
    exec (.streamAnnounce k) s = .next (s.gives s.m))

/-- Announces select a grandmaster, and Sync and delay exchanges give offsets. Announce, Sync, Follow_Up and delay messages are
taken from the selected master, stored and give the offset and mean path delay of their rules. The order of comparison is taken
from the standard (log entry 20). Rules: R438 to R440; log 20. -/
def Obligations.MasterSelectionAndExchanges : Prop :=
  (∀ (s : State) p d, p < 2 → s.live → (s.m.tm.port p).gm = none →
    ∃ m : Mach, exec (.ptpAnnounceReceive p d) s = .next (s.gives m) ∧ (m.tm.port p).gm = some d)
  ∧ (∀ (s : State) p d g, p < 2 → s.live → (s.m.tm.port p).gm = some g → g.ident = d.ident ∨ GmData.better d g = true →
    ∃ m : Mach, exec (.ptpAnnounceReceive p d) s = .next (s.gives m) ∧ (m.tm.port p).gm = some d ∧ (p = s.m.activePort → d.ident < 2 ^ 64 → m.lastGm = d.ident))
  ∧ (∀ (s : State) p d g, p < 2 → s.live → (s.m.tm.port p).gm = some g → g.ident ≠ d.ident → GmData.better d g = false →
    exec (.ptpAnnounceReceive p d) s = .next (s.gives s.m))
  ∧ (∀ a b : GmData, GmData.better a b = true → GmData.better b a = false)
  ∧ (∀ (s : State) p q t, p < 2 → q < 65536 → s.live → s.m.p2p = false →
    ∃ m : Mach, exec (.ptpDelayReqSend p q t) s = .next (s.gives m) ∧ (m.tm.port p).req = some (q, s.m.txStamp p t) ∧ mfind m.tm.lastPtp p = some (0, q))
  ∧ (∀ (s : State) p q t, p < 2 → q < 65536 → s.live → s.m.p2p = true →
    ∃ m : Mach, exec (.ptpDelayReqSend p q t) s = .next (s.gives m) ∧ (m.tm.port p).req = some (q, s.m.txStamp p t) ∧ mfind m.tm.lastPtp p = some (1, q))
  ∧ (∀ (s : State) p q t3 t4 a b, p < 2 → q < 65536 → s.live → (s.m.tm.port p).req = some (q, t3) → s.m.p2p = false →
    exec (.ptpDelayRespReceive p q t4 a b) s = .next (s.gives (s.m.onPort p (fun t => { t with req := none, exch := some (t3, t4) }))))
  ∧ (∀ (s : State) p q t1 t4 t2 t3, p < 2 → q < 65536 → s.live → (s.m.tm.port p).req = some (q, t1) → s.m.p2p = true →
    exec (.ptpDelayRespReceive p q t4 t2 t3) s = .next (s.gives (s.m.onPort p (fun t => { t with
      req := none, pdel := some ((((s.m.rxStamp p t4 : Int) - t1 - ((t3 : Int) - t2) : Int) : Rat) / 65536 / 2) }))))
  ∧ (∀ (s : State) p q t4 a b, p < 2 → q < 65536 → s.live → (s.m.tm.port p).req = none ∨ (∃ k t, (s.m.tm.port p).req = some (k, t) ∧ k ≠ q) →
    exec (.ptpDelayRespReceive p q t4 a b) s = .next (s.gives s.m))
  ∧ (∀ (s : State) p q, p < 2 → q < 65536 → s.live → s.m.p2p = true →
    exec (.ptpPdelayReqReceive p q) s = .next (s.gives (s.m.onTime (fun t => { t with
      lastPtp := mput t.lastPtp p (if s.m.glv F.TIME_CFG_TWO_STEP = 0 then 2 else 3, q)
      ptpQ := if s.m.linkUp p then mput t.ptpQ p (s.m.ptpWait p + if s.m.glv F.TIME_CFG_TWO_STEP = 0 then 1 else 2) else t.ptpQ }))))
  ∧ (∀ (s : State) p q, p < 2 → q < 65536 → s.live → s.m.p2p = false → exec (.ptpPdelayReqReceive p q) s = .next (s.gives s.m))

/-- An accepted offset moves the servo, its state and FREQ. An offset of the active port steps or slews the clock, integrates within
its limits and moves the time state; the registers hold the rounded values. The rounding is the model's (log entry 11). Rules:
R440 to R443; log 11. -/
def Obligations.OffsetsDriveTheServo : Prop :=
  (∀ (s : State) p q g b t1 c t2, p < 2 → q < 65536 → s.live → s.m.gmIdent p ≠ some g → exec (.ptpSyncReceive p q g b t1 c t2) s = .next (s.gives s.m))
  ∧ (∀ (s : State) p q g t1 c t2, p < 2 → q < 65536 → s.live → s.m.gmIdent p = some g →
    exec (.ptpSyncReceive p q g true t1 c t2) s = .next (s.gives (s.m.onPort p (fun t => { t with sync := some (q, s.m.rxStamp p t2, c) }))))
  ∧ (∀ (s : State) p q g t1 c t2, p < 2 → q < 65536 → s.live → s.m.gmIdent p = some g →
    exec (.ptpSyncReceive p q g false t1 c t2) s = .next (s.gives (s.m.offset p q ((t1 : Int) + c) (s.m.rxStamp p t2))))
  ∧ (∀ (s : State) p q g t1 c t2 z, p < 2 → q < 65536 → s.live → (s.m.tm.port p).sync = some (q, t2, z) → s.m.gmIdent p = some g →
    exec (.ptpFollowUpReceive p q g t1 c) s = .next (s.gives ((s.m.onPort p (fun t => { t with sync := none })).offset p q ((t1 : Int) + c) t2)))
  ∧ (∀ (s : State) p q g t1 c, p < 2 → q < 65536 → s.live → (s.m.tm.port p).sync = none → exec (.ptpFollowUpReceive p q g t1 c) s = .next (s.gives s.m))
  ∧ (∀ (s : Mach) p q t1 t2, s.p2p = false → (s.tm.port p).exch = none → s.offset p q t1 t2 = s)
  ∧ (∀ (s : Mach) p q o d, p = s.activePort → p < 2 → s.hostMode 1 = true → (s.accept p q o d).rd64 R.TIME_OFS_LO R.TIME_OFS_HI = ofsWord o % 2 ^ 64
      ∧ (s.accept p q o d).rd R.TIME_FREQ = s.rd R.TIME_FREQ ∧ (s.accept p q o d).tm.net = s.tm.net ∧ (s.accept p q o d).on F.TIME_EVT_SAMPLE = true)
  ∧ (∀ (s : Mach) o, s.tm.first = true → (s.servo o).tm.net = ((s.tm.net : Int) + rhaQ (-o * 65536)).toNat ∧ (s.servo o).rd R.TIME_FREQ = 0
      ∧ (s.servo o).tm.first = false ∧ (s.servo o).rd R.TIME_STEPS = Nat.min 0xFFFFFFFF (s.rd R.TIME_STEPS + 1))
  ∧ (∀ (s : Mach) o, s.tm.first = false → s.tm.relock = false → s.rd R.TIME_STEP_NS = 0 →
      (s.servo o).tm.net = s.tm.net ∧ (s.servo o).tm.servoI = s.tm.servoI + (s.rd R.TIME_SERVO_KI : Rat) / 65536 * o / s.tau
      ∧ (s.servo o).tm.servoF = clampQ (-500000) 500000 (-((s.rd R.TIME_SERVO_KP : Rat) / 65536 * o / s.tau + (s.servo o).tm.servoI)))
  ∧ (∀ (s : State) w, s.live → s.m.tm.writing = some w →
    exec .servoSnapshot s = .next (s.gives (s.m.onTime (fun t => { t with snaps := t.snaps.set (1 - t.newest) (some w), newest := 1 - t.newest, writing := none }))))
  ∧ (∀ (s : State), s.live → s.m.tm.writing = none → exec .servoSnapshot s = .next (s.gives s.m))

/-- A lost source fails over to a ready standby, and the control port follows its link. A lost time source of the active port fails
over when the standby is ready, else the clock is lost; HOST mode raises an error instead; the standby's silence, the forced
failover and the return of the control port act under their conditions. Rules: R439, R451 to R456; log 19. -/
def Obligations.SourcesFailOverAndMove : Prop :=
  (∀ (s : State) p c, p < 2 → s.live → (s.m.tm.port p).gm = none → exec (.timeSourceLost p c) s = .next (s.gives s.m))
  ∧ (∀ (s : State) p c, p < 2 → s.live → (s.m.tm.port p).gm ≠ none → p ≠ s.m.activePort →
    ∃ m : Mach, exec (.timeSourceLost p c) s = .next (s.gives m) ∧ (m.tm.port p).gm = none ∧ m.timeState = s.m.timeState ∧ m.activePort = s.m.activePort)
  ∧ (∀ (s : State) p c, p < 2 → s.live → (s.m.tm.port p).gm ≠ none → p = s.m.activePort → s.m.on F.TIME_STAT_FAILING = false → s.m.hostMode 6 = false →
    s.m.standbyReady = true → ∃ m : Mach, exec (.timeSourceLost p c) s = .next (s.gives m) ∧ m.activePort = 1 - p ∧ m.on F.TIME_STAT_FAILING = true)
  ∧ (∀ (s : State) p c, p < 2 → s.live → (s.m.tm.port p).gm ≠ none → p = s.m.activePort → s.m.on F.TIME_STAT_FAILING = false → s.m.hostMode 6 = false →
    s.m.standbyReady = false → s.m.timeState = 1 ∨ s.m.timeState = 2 →
    ∃ m : Mach, exec (.timeSourceLost p c) s = .next (s.gives m) ∧ m.timeState = 3 ∧ m.on F.TIME_EVT_LOST = true ∧ m.on F.TIME_STAT_TIME_VALID = false)
  ∧ (∀ (s : State), s.live → s.m.on F.TIME_STAT_FAILING = true → exec .failoverTimeout s = .next (s.gives ((s.m.sf F.TIME_STAT_FAILING 0).setTimeState 3)))
  ∧ (∀ (s : State), s.live → s.m.on F.TIME_STAT_FAILING = false → exec .failoverTimeout s = .next (s.gives s.m))
  ∧ (∀ (s : State), s.live → s.m.activePort < 2 → (s.m.tm.port (1 - s.m.activePort)).gm = none → (s.m.tm.port s.m.activePort).gm.isSome →
    exec .standbySilent s = .next (s.gives (s.m.suspect 3)))
  ∧ (∀ (s : Mach) c, c < 4 → s.on F.TIME_STAT_STANDBY_SUSPECT = false → (s.suspect c).on F.TIME_STAT_STANDBY_SUSPECT = true
      ∧ (s.suspect c).gf F.TIME_STAT_SUSPECT_CAUSE = c ∧ (s.suspect c).on F.TIME_EVT_SUSPECT = true)
  ∧ (∀ (s : State), s.live → s.m.linkUp 0 = true → s.m.tm.ctrlWait = true → s.m.gf F.TIME_STAT_CTRL_PORT ≠ 0 →
    ∃ m : Mach, exec .ctrlPortReturn s = .next (s.gives m) ∧ m.gf F.TIME_STAT_CTRL_PORT = 0 ∧ m.tm.ctrlWait = false ∧ m.on F.TIME_EVT_CTRL_MOVE = true
      ∧ m.rd R.TIME_CTRL_MOVES = Nat.min 0xFFFFFFFF (s.m.rd R.TIME_CTRL_MOVES + 1))
  ∧ (∀ (s : State), s.live → s.m.linkUp 0 = false ∨ s.m.tm.ctrlWait = false → exec .ctrlPortReturn s = .next (s.gives s.m))
  ∧ (∀ (s : State) v, v < 0x100000000 → s.live → bitOf v 0 = true → s.m.hostMode 6 = true → s.m.on F.TIME_STAT_FAILING = false → s.m.standbyReady = true →
    exec (.timeFailoverGo v) s = .next (s.gives s.m.failover))
  ∧ (∀ (s : State) v, v < 0x100000000 → s.live → bitOf v 0 = true → s.m.hostMode 6 = false ∨ s.m.on F.TIME_STAT_FAILING = true ∨ s.m.standbyReady = false →
    exec (.timeFailoverGo v) s = .next (s.gives (s.m.evt F.TIME_EVT_REFUSED)))

/-- Commits, adjustments, pulses and stamp queues of the time unit. A commit of a legal profile restarts the exchange and an illegal
one is refused; adjustments act in HOST mode only; pulses come with PPS_EN and VALID; event stamps queue up to 16 and then count
as lost; pops drop the oldest. Rules: R437, R443, R446 to R448. -/
def Obligations.TimeRegisterWritesAndStamps : Prop :=
  (∀ (s : State) v, v < 0x100000000 → s.live → bitOf v 0 = true → profileOk (s.m.rd R.TIME_CFG) (s.m.rd R.TIME_MSG) = true →
    ∃ m : Mach, exec (.timeCommit v) s = .next (s.gives m) ∧ m.lv R.TIME_CFG = s.m.rd R.TIME_CFG ∧ m.lv R.TIME_MSG = s.m.rd R.TIME_MSG ∧ m.timeState = 0
      ∧ m.tm.pa = PortTime.init ∧ m.tm.pb = PortTime.init ∧ m.tm.first = true ∧ m.activePort = s.m.gf F.TIME_REDUND_TIME_PREF_B)
  ∧ (∀ (s : State) v, v < 0x100000000 → s.live → bitOf v 0 = true → profileOk (s.m.rd R.TIME_CFG) (s.m.rd R.TIME_MSG) = false →
    exec (.timeCommit v) s = .next (s.gives (s.m.evt F.TIME_EVT_REFUSED)))
  ∧ (∀ (s : State) v, v < 0x100000000 → s.live → bitOf v 31 = true → s.m.hostMode 1 = true →
    adjustOk (v % 4) (sext 32 (s.m.rd R.TIME_ADJ_FREQ)) (sext 32 (s.m.rd R.TIME_ADJ_PHASE)) = true →
    ∃ m : Mach, exec (.timeAdjGo v) s = .next (s.gives m) ∧ m.rd R.TIME_FREQ = s.m.rd R.TIME_ADJ_FREQ
      ∧ (v % 4 = 0 → m.tm = s.m.tm) ∧ (v % 4 = 1 → m.tm.slew = some (sext 32 (s.m.rd R.TIME_ADJ_PHASE)) ∧ m.on F.TIME_STAT_SLEWING = true)
      ∧ (v % 4 = 2 → m.tm.slew = none ∧ m.tm.net = ((s.m.tm.net : Int) + sext 32 (s.m.rd R.TIME_ADJ_PHASE) * 65536).toNat))
  ∧ (∀ (s : State) v, v < 0x100000000 → s.live → bitOf v 31 = true → s.m.hostMode 1 = false ∨
    adjustOk (v % 4) (sext 32 (s.m.rd R.TIME_ADJ_FREQ)) (sext 32 (s.m.rd R.TIME_ADJ_PHASE)) = false →
    exec (.timeAdjGo v) s = .next (s.gives (s.m.evt F.TIME_EVT_REFUSED)))
  ∧ (∀ (s : State), s.live → exec .phaseSlewEnd s = .next (s.gives ((s.m.sf F.TIME_STAT_SLEWING 0).onTime (fun t => { t with slew := none }))))
  ∧ (∀ (s : State), s.live → s.m.on F.TIME_PPS_CFG_PPS_EN = true → s.m.timeState = 2 →
    exec .ppsPulse s = .next (s.gives (s.m.onTime (fun t => { t with ppsAt := some (((((s.m.tm.netNs : Nat) : Int) - sext 32 (s.m.rd R.TIME_PPS_OFS)) / 1000000000 * 1000000000 + sext 32 (s.m.rd R.TIME_PPS_OFS)) * 65536).toNat }))))
  ∧ (∀ (s : State), s.live → s.m.on F.TIME_PPS_CFG_PPS_EN = false ∨ s.m.timeState ≠ 2 → exec .ppsPulse s = .next (s.gives s.m))
  ∧ (∀ (s : State) b t, s.live → s.m.on F.TIME_PPS_CFG_EVT_EN = true → b = !s.m.on F.TIME_PPS_CFG_EVT_FALL → s.m.tm.evtq.length < 16 →
    ∃ m : Mach, exec (.ptpEvtInEdge b t) s = .next (s.gives m) ∧ m.tm = { s.m.tm with evtq := s.m.tm.evtq ++ [t] } ∧ (s.m.tm.evtq = [] → m.on F.TIME_EVT_EVTQ = true))
  ∧ (∀ (s : State) b t, s.live → s.m.on F.TIME_PPS_CFG_EVT_EN = true → b = !s.m.on F.TIME_PPS_CFG_EVT_FALL → 16 ≤ s.m.tm.evtq.length →
    exec (.ptpEvtInEdge b t) s = .next (s.gives (s.m.sf F.TIME_EVTQ_STAT_LOST (Nat.min 255 (s.m.gf F.TIME_EVTQ_STAT_LOST + 1)))))
  ∧ (∀ (s : State) b t, s.live → s.m.on F.TIME_PPS_CFG_EVT_EN = false ∨ b = s.m.on F.TIME_PPS_CFG_EVT_FALL → exec (.ptpEvtInEdge b t) s = .next (s.gives s.m))
  ∧ (∀ (s : State) p v, p < 2 → v < 0x100000000 → s.live → bitOf v 0 = true →
    exec (.txtsPop p v) s = .next (s.gives (s.m.onTime (fun t => t.setTxts p ((t.txts p).drop 1)))))
  ∧ (∀ (s : State) v, v < 0x100000000 → s.live → bitOf v 0 = true →
    exec (.evtqPop v) s = .next (s.gives ((s.m.sf F.TIME_EVTQ_STAT_LOST 0).onTime (fun q => { q with evtq := q.evtq.drop 1 }))))
  ∧ (∀ (s : State), s.live → ∃ m : Mach, exec .timeNowNsRead s = .next (s.gives m) ∧ s.m.registersOnly m
      ∧ m.rd R.TIME_NOW_SEC_LO = s.m.tm.netNs / 1000000000 % 2 ^ 32 ∧ m.rd R.TIME_NOW_SEC_HI = s.m.tm.netNs / 1000000000 / 2 ^ 32 % 2 ^ 16)

/-- Frames of the time rows and the serial-port rows. Each of these rows, on every state and with every well-formed operand, answers
a next state in which only what timeFrame, aspFrameOf or rateFrame names has changed: their own registers and state, for a rate
measurement the converters that follow the port, errors and interrupts, and no byte of memory. -/
def Obligations.TimeAndSerialPortFrames : Prop :=
  (∀ port seq gm twoStep t1 corr t2, keeps timeFrame (.ptpSyncReceive port seq gm twoStep t1 corr t2))
  ∧ (∀ port seq gm t1 corr, keeps timeFrame (.ptpFollowUpReceive port seq gm t1 corr))
  ∧ (keeps timeFrame .servoSnapshot)
  ∧ (keeps timeFrame .standbySilent)
  ∧ (∀ port d, keeps timeFrame (.ptpAnnounceReceive port d))
  ∧ (∀ port seq t4 t2p t3p, keeps timeFrame (.ptpDelayRespReceive port seq t4 t2p t3p))
  ∧ (∀ port seq, keeps timeFrame (.ptpPdelayReqReceive port seq))
  ∧ (∀ port seq t3, keeps timeFrame (.ptpDelayReqSend port seq t3))
  ∧ (∀ port cause, keeps timeFrame (.timeSourceLost port cause))
  ∧ (keeps timeFrame .failoverTimeout)
  ∧ (keeps timeFrame .phaseSlewEnd)
  ∧ (keeps timeFrame .ctrlPortReturn)
  ∧ (keeps timeFrame .ppsPulse)
  ∧ (∀ rising t, keeps timeFrame (.ptpEvtInEdge rising t))
  ∧ (∀ v, keeps timeFrame (.timeCommit v))
  ∧ (∀ v, keeps timeFrame (.timeAdjGo v))
  ∧ (∀ v, keeps timeFrame (.timeFailoverGo v))
  ∧ (∀ port v, keeps timeFrame (.txtsPop port v))
  ∧ (∀ v, keeps timeFrame (.evtqPop v))
  ∧ (keeps timeFrame .timeNowNsRead)
  ∧ (keeps timeFrame .gridLock)
  ∧ (keeps timeFrame .gridSlewLong)
  ∧ (∀ m x, keeps timeFrame (.latencyRefresh m x))
  ∧ (∀ bank bad, keeps aspFrameOf (.ioaspBrownOut bank bad))
  ∧ (∀ port bitCount ps slots ph held, keeps aspFrameOf (.aspFrame port bitCount ps slots ph held))
  ∧ (∀ port cause, keeps aspFrameOf (.aspClockTimeout port cause))
  ∧ (∀ port, keeps aspFrameOf (.aspClockReturn port))
  ∧ (∀ port count, keeps rateFrame (.aspRateMeasure port count))
  ∧ (∀ bank hz, keeps aspFrameOf (.aspMclkMeasure bank hz))
  ∧ (∀ port v, keeps aspFrameOf (.aspCommit port v))
  ∧ (∀ port v, keeps aspFrameOf (.aspCtrlWrite port v))
  ∧ (∀ port v late, keeps aspFrameOf (.aspMaskWrite port v late))
  ∧ (∀ bank v, keeps aspFrameOf (.aspBankCfgWrite bank v))
  ∧ (∀ port v, keeps aspFrameOf (.aspCntClr port v))

/-- Frames of the network and stream rows. Each of these rows answers a next state in which only what netFrame names has changed;
those marked noStore change no byte of memory. -/
def Obligations.NetworkFrames : Prop :=
  (∀ port f, keeps netFrame (.netRxFrame port f))
  ∧ (∀ port, keeps (noStore netFrame) (.netRxOverflow port))
  ∧ (∀ port, keeps (noStore netFrame) (.pauseEnd port))
  ∧ (∀ port, keeps (noStore netFrame) (.pauseWatchdog port))
  ∧ (∀ port, keeps (noStore netFrame) (.pauseIgnoreEnd port))
  ∧ (∀ port, keeps netFrame (.netTxFrameStart port))
  ∧ (∀ port t underrun, keeps netFrame (.netTxFrameDone port t underrun))
  ∧ (∀ port ring, keeps netFrame (.launchTimeReached port ring))
  ∧ (∀ stream, keeps (noStore netFrame) (.mediaPacketLaunch stream))
  ∧ (∀ port, keeps (noStore netFrame) (.mediaLateDrop port))
  ∧ (∀ port speed half, keeps (noStore netFrame) (.netLinkUp port speed half))
  ∧ (∀ port cut, keeps netFrame (.netLinkDown port cut))
  ∧ (∀ port, keeps (noStore netFrame) (.lpiEnter port))
  ∧ (∀ port, keeps (noStore netFrame) (.lpiWake port))
  ∧ (∀ port, keeps netFrame (.downshift port))
  ∧ (∀ port ring v, keeps (noStore netFrame) (.netRxTailWrite port ring v))
  ∧ (∀ port ring v, keeps (noStore netFrame) (.netPoolTailWrite port ring v))
  ∧ (∀ port ring v, keeps (noStore netFrame) (.netTxTailWrite port ring v))
  ∧ (∀ port tx ring v, keeps (noStore netFrame) (.netRingCtrlWrite port tx ring v))
  ∧ (∀ port v, keeps (noStore netFrame) (.netCntClr port v))
  ∧ (∀ stream seq, keeps (noStore netFrame) (.mergeWindowExpire stream seq))
  ∧ (∀ stream, keeps (noStore netFrame) (.streamLost stream))
  ∧ (∀ v, keeps (noStore netFrame) (.strmRegionWrite v))
  ∧ (∀ v, keeps (noStore netFrame) (.strmCntClr v))
  ∧ (∀ a, keeps (noStore netFrame) (.discoveryAnnouncement a))
  ∧ (∀ sid, keeps (noStore netFrame) (.discoveryExpire sid))
  ∧ (∀ stream, keeps (noStore netFrame) (.streamAnnounce stream))
  ∧ (∀ port, keeps (noStore netFrame) (.firmwareProtocolReply port))
  ∧ (∀ p, keeps (noStore netFrame) (.downshiftRenegotiationTimeout p))

/-- Frames of the matrix, DMA, DRAM, scheduler and transport rows. Each of these rows answers a next state in which only what
busFrame or cmdFrame names has changed; those marked noStore change no byte of memory. -/
def Obligations.TransportAndInterconnectFrames : Prop :=
  (∀ tx, keeps (noStore busFrame) (.busRequest tx))
  ∧ (∀ target, keeps (noStore busFrame) (.busTimeout target))
  ∧ (∀ target, keeps (noStore busFrame) (.lockBreak target))
  ∧ (∀ v, keeps (noStore busFrame) (.matrixErrClr v))
  ∧ (keeps (noStore busFrame) .hostCompletionTimeout)
  ∧ (∀ chan v pcie, keeps (noStore busFrame) (.dmaGo chan v pcie))
  ∧ (∀ chan pcie, keeps (noStore busFrame) (.dmaCtrlStop chan pcie))
  ∧ (∀ chan code, keeps busFrame (.dmaBurstDone chan code))
  ∧ (∀ chan code, keeps (noStore busFrame) (.dmaDescFetch chan code))
  ∧ (keeps (noStore busFrame) .dramHoldTimeout)
  ∧ (∀ ok, keeps (noStore busFrame) (.dramAlert ok))
  ∧ (∀ bank, keeps (noStore busFrame) (.dramRefresh bank))
  ∧ (keeps (noStore busFrame) .dramZqCal)
  ∧ (keeps (noStore busFrame) .dramDqsTrack)
  ∧ (∀ hottest, keeps (noStore busFrame) (.dramTempRead hottest))
  ∧ (keeps (noStore busFrame) .dramWriteDrain)
  ∧ (∀ addr reader, keeps (noStore busFrame) (.dramReadComplete addr reader))
  ∧ (keeps (noStore busFrame) .scrubRead)
  ∧ (∀ v, keeps (noStore busFrame) (.ddrcEccClr v))
  ∧ (∀ v, keeps (noStore busFrame) (.ddrcCntClr v))
  ∧ (∀ v, keeps (noStore busFrame) (.ddrcFreqGo v))
  ∧ (∀ core, keeps (noStore cmdFrame) (.coreFault core))
  ∧ (∀ core cycles stop, keeps (noStore cmdFrame) (.sliceExpire core cycles stop))
  ∧ (∀ thread level, keeps (noStore cmdFrame) (.threadReady thread level))
  ∧ (∀ q v, keeps (noStore cmdFrame) (.pcieCqTailWrite q v))
  ∧ (∀ q err, keeps (noStore cmdFrame) (.pcieDescriptorFetch q err))
  ∧ (∀ q, keeps cmdFrame (.pcieReplyWrite q))
  ∧ (∀ q v, keeps (noStore cmdFrame) (.pcieRqHeadWrite q v))
  ∧ (∀ q v, keeps (noStore cmdFrame) (.qpCtrlWrite q v))
  ∧ (∀ pkt, keeps (noStore cmdFrame) (.spiWrite pkt))
  ∧ (∀ n, keeps (noStore cmdFrame) (.spiRead n))
  ∧ (keeps (noStore cmdFrame) .spiStatus)
  ∧ (∀ flow, keeps (noStore cmdFrame) (.gapTimeout flow))
  ∧ (∀ sess, keeps (noStore cmdFrame) (.sessionIdleTimeout sess))
  ∧ (∀ id cycles, keeps (noStore cmdFrame) (.commandProcessingEnd id cycles))

/-- Frames of the fabric, ageing and rendering rows. Each of these rows answers a next state in which only what fabFrame, tickFrame
or rendFrame names has changed; those marked noStore change no byte of memory. -/
def Obligations.FabricAndRenderingFrames : Prop :=
  (∀ e count, keeps (noStore fabFrame) (.engineComplete e count))
  ∧ (∀ cls, keeps (noStore fabFrame) (.engineAbandon cls))
  ∧ (∀ e, keeps (noStore fabFrame) (.engineAbandonAck e))
  ∧ (∀ e, keeps (noStore fabFrame) (.fabricHang e))
  ∧ (keeps (noStore tickFrame) .fabricDone)
  ∧ (∀ k, keeps (noStore fabFrame) (.engineGroupGate k))
  ∧ (∀ avs, keeps (noStore fabFrame) (.herdWindow avs))
  ∧ (∀ k, keeps (noStore fabFrame) (.groupAwake k))
  ∧ (∀ rates, keeps (noStore fabFrame) (.fawnRead rates))
  ∧ (∀ tj, keeps (noStore fabFrame) (.tjRead tj))
  ∧ (keeps (noStore fabFrame) .ibexEvaluate)
  ∧ (∀ ok, keeps (noStore fabFrame) (.avsWrite ok))
  ∧ (keeps (noStore fabFrame) .ibexStuck)
  ∧ (keeps fabFrame .ageingLogWrite)
  ∧ (∀ v, keeps (noStore fabFrame) (.fabMinClr v))
  ∧ (∀ v, keeps (noStore fabFrame) (.ibexApproveWrite v))
  ∧ (∀ i, keeps rendFrame (.routeXfadeEnd i))
  ∧ (∀ p, keeps rendFrame (.playPrefetch p))
  ∧ (∀ o t, keeps rendFrame (.bulkWriteLost o t))
  ∧ (∀ o, keeps rendFrame (.hpTimeout o))
  ∧ (∀ f, keeps rendFrame (.bankXfadeEnd f))
  ∧ (∀ f b, keeps rendFrame (.spectrumWriteLost f b))
  ∧ (∀ f, keeps rendFrame (.trimXfadeEnd f))
  ∧ (∀ f mute, keeps rendFrame (.zeroCrossing f mute))
  ∧ (∀ f mute, keeps rendFrame (.zcTimeout f mute))
  ∧ (∀ f mute, keeps rendFrame (.gainRampEnd f mute))
  ∧ (∀ f, keeps rendFrame (.laXfadeEnd f))
  ∧ (∀ i old, keeps rendFrame (.asrcSettling i old))
  ∧ (∀ i old, keeps rendFrame (.asrcLocked i old))
  ∧ (∀ i, keeps rendFrame (.convLocked i))
  ∧ (keeps rendFrame .muteNLow)
  ∧ (keeps rendFrame .muteNRelease)
  ∧ (∀ v, keeps rendFrame (.hwmuteClrWrite v))
  ∧ (∀ v, keeps rendFrame (.hwmuteCfgWrite v))
  ∧ (∀ v, keeps rendFrame (.renderCommitInput v))
  ∧ (∀ v, keeps rendFrame (.renderCommitGen v))
  ∧ (∀ i v, keeps rendFrame (.inselWrite i v))
  ∧ (∀ p v, keeps rendFrame (.playCtrlWrite p v))
  ∧ (∀ p v, keeps rendFrame (.playWrWrite p v))
  ∧ (∀ c v, keeps rendFrame (.capCtrlWrite c v))
  ∧ (∀ v, keeps rendFrame (.outCommit v))
  ∧ (∀ i v, keeps rendFrame (.outselWrite i v))
  ∧ (∀ v, keeps rendFrame (.hpCommit v))
  ∧ (∀ v, keeps rendFrame (.bulkBaseWrite v))
  ∧ (∀ v, keeps rendFrame (.corrBaseWrite v))
  ∧ (∀ v, keeps rendFrame (.timeLatCommit v))
  ∧ (∀ v, keeps rendFrame (.measCommit v))

/-- Sessions, flows and system queries: what each opcode does and answers. Opening takes the lowest free session and grants MAXPKT;
closing ends a session or flow; a flow starts at FIRST; ping, info, error read and acknowledgement, RTC and option reads answer
what the part holds. Each clause gives the whole next state of the accepted form, on every state that takes commands and every
packet whose fields meet the stated checks. Rules: R271 to R274, R341 to R348. -/
def Obligations.SessionAndSystemOpcodes : Prop :=
  (∀ (s : State) o p obs n, s.takes o → o.sess = 255 → lenOf p = 28 → 256 ≤ pf p 16 2 → pf p 16 2 ≤ 4096 → pf p 18 2 ≤ 3600 →
    pf p 20 4 = 0 → (upto 16).find? (fun k => (mfind s.m.cmd.sess k).isNone) = some n →
    exec (.sysSessionOpen o p obs) s =
      let mp := match o.xport with | .pcie _ => 4096 | _ => pf p 16 2
      .next (s.gives (({ s.m with cmd := { s.m.cmd with sess := mput s.m.cmd.sess n ⟨o.xport, mp, pf p 18 2, s.m.tm.up⟩ } }).replies o 0x0101
        (toLE 1 n ++ toLE 1 0 ++ toLE 2 mp ++ toLE 4 (s.m.rd R.SYS_PART_ID) ++ toLE 4 (s.m.rd R.SYS_LIMITS)))))
  ∧ (∀ (s : State) o p obs, s.takes o → lenOf p = 20 →
    exec (.sysSessionClose o p obs) s = .next (s.gives
      (({ s.m with cmd := { s.m.cmd with running := mput s.m.cmd.running (0x01020000 + o.sess) o.id } }).replies o 0x0102 [])))
  ∧ (∀ (s : State) o p obs i, s.takes o → o.flow = 0 → lenOf p = 24 → 1 ≤ pf p 16 1 → pf p 17 1 ≤ 7 →
    s.m.flowOf o.sess (pf p 16 1) = none → (upto 64).find? (fun k => (mfind s.m.cmd.flows k).isNone) = some i →
    exec (.sysFlowOpen o p obs) s = .next (s.gives (({ s.m with cmd := { s.m.cmd with
        flows := mput s.m.cmd.flows i ⟨o.sess, pf p 16 1, pf p 17 1, pf p 18 2, [], false⟩ } }).replies o 0x0103 (toLE 1 i))))
  ∧ (∀ (s : State) o p obs i f, s.takes o → o.flow = 0 → lenOf p = 24 → pf p 17 3 = 0 → s.m.flowOf o.sess (pf p 16 1) = some (i, f) →
    ∃ t : Mach, exec (.sysFlowClose o p obs) s = .next (s.gives (t.replies o 0x0104 [])) ∧ t.flowOf o.sess (pf p 16 1) = none)
  ∧ (∀ (s : State) o p obs, s.takes o → p.length ≤ 4052 → (o.sess = 255 → p.length ≤ 212) →
    exec (.sysPing o p obs) s = .next (s.gives (s.m.replies o 0x0105
      (toLE 6 s.m.secNow ++ toLE 1 (s.m.gf F.TIME_GRID_STAT_STATE) ++ toLE 1 s.m.power ++ toLE 4 (s.m.tm.netNs % 1000000000) ++ p))))
  ∧ (∀ (s : State) o p obs, s.takes o → lenOf p = 20 →
    exec (.sysInfo o p obs) s = .next (s.gives (s.m.replies o 0x0106
      (toLE 4 (s.m.rd R.SYS_PART_ID) ++ toLE 4 (s.m.rd R.SYS_REV) ++ toLE 4 (s.m.rd R.SYS_LIMITS)
        ++ toLE 4 s.m.sys.fw.1 ++ toLE 8 s.m.sys.fw.2 ++ toLE 1 s.m.power
        ++ toLE 1 (s.m.gf F.SYS_BOOT_STAT_OPTPAGE) ++ toLE 2 (s.m.gf F.SYS_RESET_CAUSE_CAUSE) ++ toLE 4 s.m.uptime))))
  ∧ (∀ (s : State) o p obs, s.takes o → lenOf p = 28 → 1 ≤ pf p 20 2 → pf p 20 2 ≤ 64 → pf p 22 2 = 0 →
    ∃ l : List ErrRec, exec (.sysErrRead o p obs) s = .next (s.gives (s.m.replies o 0x010A
        (toLE 2 l.length ++ toLE 2 (Nat.min 65535 (s.m.err.gone.filter (fun q => seqLe (pf p 16 4) q)).length)
          ++ (l.map ErrRec.bytes).flatten))) ∧
      l.length ≤ pf p 20 2 ∧ ∀ r ∈ l, r ∈ s.m.err.slots.map (·.2) ∧ seqLe (pf p 16 4) r.seq = true)
  ∧ (∀ (s : State) o p obs, s.takes o → lenOf p = 24 →
    exec (.sysErrAck o p obs) s = .next (s.gives ((s.m.ackErr (pf p 16 4)).2.replies o 0x010B (toLE 2 (s.m.ackErr (pf p 16 4)).1))))
  ∧ (∀ (s : State) o p obs, s.takes o → lenOf p = 32 → pf p 16 1 = 0 → pf p 17 3 = 0 → pf p 26 2 = 0 →
    exec (.sysRtc o p obs) s = .next (s.gives (s.m.replies o 0x010C (toLE 6 s.m.rtcNow))))
  ∧ (∀ (s : State) o p obs, s.takes o → lenOf p = 32 → pf p 16 1 = 1 → pf p 17 3 = 0 → pf p 26 2 = 0 →
    exec (.sysRtc o p obs) s = .next (s.gives
      (({ s.m with sys := { s.m.sys with rtc := pf p 20 6, rtcAt := s.m.tm.up } }).replies o 0x010C (toLE 6 (pf p 20 6)))))
  ∧ (∀ (s : State) o p obs, s.takes o → lenOf p = 28 → pf p 16 1 ≤ 1 → pf p 17 1 = 0 → pf p 22 2 = 0 →
    4 ≤ pf p 20 2 → pf p 20 2 ≤ 4064 → pf p 20 2 % 4 = 0 → pf p 18 2 + pf p 20 2 ≤ 4096 →
    exec (.sysOptionRead o p obs) s = .next (s.gives (s.m.replies o 0x010D
      (memGet s.m.mem (0x100000000 + 4096 * pf p 16 1 + pf p 18 2) (pf p 20 2)))))

/-- SYS_POWER, SYS_RESET, SYS_RESET_HOLD, SYS_RTC and SYS_FW_UPDATE. A power request in force answers at once and another starts its
move; a reset is ordered or one block is reset; a hold is set; the clock is set; a firmware update records the next bank. When
replies leave and the layout of the boot record are the model's (log entries 33, 39 and 47). Each clause gives the whole next
state of the accepted form, on every state that takes commands and every packet whose fields meet the stated checks. Rules: R343
to R346, R348, R527. -/
def Obligations.PowerAndResetOpcodes : Prop :=
  (∀ (s : State) o p obs, s.takes o → lenOf p = 28 → pf p 16 1 ≤ 4 → pf p 16 1 ≠ 3 → pf p 17 1 ≤ 3 → s.m.sys.move = none →
    s.m.longRuns o.id = false → pf p 16 1 ≠ s.m.power →
    exec (.sysPower o p obs) s = .next (s.gives ((s.m.powerStart (pf p 16 1) o.id).releaseRes o 0x0107 Res.wait)))
  ∧ (∀ (s : State) o p obs, s.takes o → lenOf p = 28 → pf p 16 1 = 3 → pf p 17 1 ≤ 3 → s.m.sys.move = none →
    s.m.longRuns o.id = false → s.m.power ≠ 3 → (bitOf (pf p 17 1) 1 = true → s.m.rtcNow < pf p 18 6) →
    exec (.sysPower o p obs) s = .next (s.gives ((Mach.powerStart { s.m with sys := { s.m.sys with
        armWake := bitOf (pf p 17 1) 0, alarm := if bitOf (pf p 17 1) 1 then some (pf p 18 6) else none } } 3 o.id).releaseRes
      o 0x0107 Res.wait)))
  ∧ (∀ (s : State) o p obs, s.takes o → lenOf p = 28 → pf p 16 1 = s.m.power → pf p 16 1 ≠ 3 → pf p 16 1 ≤ 4 → pf p 17 1 ≤ 3 →
    s.m.sys.move = none → s.m.longRuns o.id = false →
    exec (.sysPower o p obs) s = .next (s.gives (s.m.replies o 0x0107 [])))
  ∧ (∀ (s : State) o p obs, s.takes o → lenOf p = 24 → pf p 16 2 = 0x5253 → pf p 18 1 = 0 → s.m.sys.ordered = none →
    exec (.sysReset o p obs) s = .next (s.gives
      (({ s.m with sys := { s.m.sys with ordered := some (5, 0) } }).replies o 0x0108 [])))
  ∧ (∀ (s : State) o p obs, s.takes o → lenOf p = 24 → pf p 16 2 = 0x5253 → pf p 18 1 = 1 → pf p 19 1 ≤ 9 →
    s.m.ownBlock o.xport (pf p 19 1) = false →
    exec (.sysReset o p obs) s = .next (s.gives ((s.m.blockReset (pf p 19 1)).replies o 0x0108 [])))
  ∧ (∀ (s : State) o p obs, s.takes o → lenOf p = 24 → pf p 16 2 ≤ 60000 → 1 ≤ pf p 16 2 → pf p 18 2 = 0 →
    exec (.sysResetHold o p obs) s = .next (s.gives (({ s.m with sys := { s.m.sys with
      hold := some (s.m.tm.up + pf p 16 2 * 1000000) } }).replies o 0x0109 (toLE 2 (pf p 16 2)))))
  ∧ (∀ (s : State) o p obs, s.takes o → lenOf p = 24 → pf p 16 2 = 0 → pf p 18 2 = 0 → s.m.err.deferred = false →
    exec (.sysResetHold o p obs) s = .next (s.gives (({ s.m with sys := { s.m.sys with hold := none } }).replies o 0x0109 [0, 0])))
  ∧ (∀ (s : State) o p t n v i, s.takes o → lenOf p = 36 → s.m.bufChk p 16 = none → s.m.bufErr (bufOf p 16) false false = false →
    v < 2 ^ 32 → i < 2 ^ 64 → t = s.m.bufTouch (bufOf p 16) → n = 1 - fld (s.m.mrd 0x100003001 1) 0 1 % 2 →
    exec (.sysFwUpdate o p [0, 1, 1, 1, v, i]) s = .next (s.gives (Mach.replies { t with
      mem := memPut s.m.mem 0x100003000 (toLE 1 n), sys := { s.m.sys with flash := mput s.m.sys.flash n (v, i) } }
      o 0x010E (toLE 4 v ++ toLE 8 i))))

/-- MEM_ and DMA_ opcodes read, write, copy and start as they say. Reads answer the bytes of memory, writes store theirs and nothing
else, a copy moves bytes, DMA opcodes start, stop and report a channel, and DRAM information and a frequency change answer or
start. Each clause gives the whole next state of the accepted form, on every state that takes commands and every packet whose
fields meet the stated checks. Rules: R360 to R362. -/
def Obligations.MemoryAndDmaOpcodes : Prop :=
  (∀ (s : State) o p obs, s.takes o → lenOf p = 32 → 4 ≤ pf p 24 4 → pf p 24 4 ≤ 4064 → pf p 24 4 % 4 = 0 →
    (inSram (pf p 16 8) (pf p 24 4) || inMram (pf p 16 8) (pf p 24 4)) = true →
    exec (.memRead o p obs) s = .next (s.gives (s.m.replies o 0x0E01 (memGet s.m.mem (pf p 16 8) (pf p 24 4)))))
  ∧ (∀ (s : State) o p obs, s.takes o → lenOf p = 32 → 4 ≤ pf p 24 4 → pf p 24 4 ≤ 4064 → pf p 24 4 % 4 = 0 →
    s.m.inDram (pf p 16 8) (pf p 24 4) = true → s.m.dramCode = 0 → s.m.badRange (pf p 16 8) (pf p 24 4) = false →
    exec (.memRead o p obs) s = .next (s.gives ((s.m.readRange 0 (pf p 16 8) (pf p 24 4)).replies o 0x0E01
      (memGet s.m.mem (pf p 16 8) (pf p 24 4)))))
  ∧ (∀ (s : State) o p obs, s.takes o → 12 ≤ p.length → p.length ≤ 4072 → p.length % 4 = 0 →
    (inSram (pf p 16 8) (p.length - 8) || s.m.inDram (pf p 16 8) (p.length - 8)) = true →
    s.m.regionBusy (pf p 16 8) (p.length - 8) = none → (s.m.target (pf p 16 8) = 5 → s.m.dramCode = 0) →
    (s.m.store (pf p 16 8) (p.drop 8)).1 = 0 →
    exec (.memWrite o p obs) s = .next (s.gives ((s.m.store (pf p 16 8) (p.drop 8)).2.replies o 0x0E02 [])))
  ∧ (∀ (s : State) o p e1 e2 t w, s.takes o → lenOf p = 52 → s.m.bufChk p 16 = none → s.m.bufChk p 32 = none →
    pf p 24 4 ≤ pf p 40 4 → (2 ^ 63 ≤ pf p 32 8 ∨ s.m.regionBusy (pf p 32 8) (pf p 24 4) = none) →
    s.m.bufErr (bufOf p 16) false (e1 == 1) = false → t = s.m.bufTouch (bufOf p 16) → t.bufErr (bufOf p 32) true (e2 == 1) = false →
    t.store (pf p 32 8) (s.m.bufRead (bufOf p 16)) = (0, w) →
    exec (.memCopy o p [e1, e2]) s = .next (s.gives (w.replies o 0x0E03 (toLE 4 (pf p 24 4)))))
  ∧ (∀ (s : State) o p obs, s.takes o → lenOf p = 20 →
    ∃ l : List Byte, exec (.memDramInfo o p obs) s = .next (s.gives (s.m.replies o 0x0E04 l)) ∧ l.length = 28 ∧
      fld l 0 4 = s.m.gf F.DDRC_STAT_SIZE ∧ fld l 12 4 = s.m.rd R.DDRC_ECC_CORR ∧ fld l 16 4 = s.m.rd R.DDRC_ECC_UNCORR ∧
      fld l 20 4 = s.m.rd R.DDRC_REPLAY ∧ fld l 24 4 = s.m.rd R.DDRC_FREQ_CHG)
  ∧ (∀ (s : State) o p obs, s.takes o → lenOf p = 24 → pf p 16 1 ≤ 1 → pf p 17 3 = 0 → s.m.freqRefuse (pf p 16 1) = 0 →
    s.m.gf F.DDRC_STAT_SET ≠ pf p 16 1 →
    exec (.memDramFreq o p obs) s = .next (s.gives (((s.m.freqStart (pf p 16 1) (some o.id)).onCmd
      (fun c => { c with running := mput c.running 0x0E05 o.id })).releaseRes o 0x0E05 Res.wait)))
  ∧ (∀ (s : State) o p obs, s.takes o → lenOf p = 24 → pf p 16 1 ≤ 1 → pf p 17 3 = 0 → s.m.freqRefuse (pf p 16 1) = 0 →
    s.m.gf F.DDRC_STAT_SET = pf p 16 1 →
    exec (.memDramFreq o p obs) s = .next (s.gives (s.m.replies o 0x0E05 [])))
  ∧ (∀ (s : State) o p obs, s.takes o → lenOf p = 52 → pf p 16 1 ≤ 27 → pf p 17 3 = 0 → pf p 20 4 < 1024 → pf p 44 4 = 0 →
    s.m.on F.DMA_STAT_BUSY (pf p 16 1) = false →
    exec (.dmaStart o p obs) s = .next (s.gives ((dmaGo (pf p 16 1) (pf p 20 4 ||| 1) false
      (Mach.wr ((s.m.wr64 R.DMA_SRC_LO R.DMA_SRC_HI (pf p 24 8) (pf p 16 1)).wr64 R.DMA_DST_LO R.DMA_DST_HI (pf p 32 8) (pf p 16 1))
        R.DMA_CNT (pf p 40 4) (pf p 16 1))).replies o 0x0E11 [])))
  ∧ (∀ (s : State) o p obs c, s.takes o → c < 28 → p = toLE 2 1 ++ [0, 0] ++ toLE 4 c →
    exec (.dmaStop o p obs) s = .next (s.gives ((s.m.dmaStop c).replies o 0x0E12 [])))
  ∧ (∀ (s : State) o p obs l, s.takes o → lenOf p = 24 → pf p 16 1 < 32 → 1 ≤ pf p 17 1 → pf p 16 1 + pf p 17 1 ≤ 32 → pf p 18 2 = 0 →
    l = (upto (pf p 17 1)).flatMap (fun i =>
      [R.DMA_STAT, R.DMA_CNT, R.DMA_HOPS, R.DMA_RETRIES].map (fun r => r.at_ (pf p 16 1 + i) 0)) →
    exec (.dmaStatus o p obs) s = .next (s.gives ((s.m.readAll l).2.replies o 0x0E13 (s.m.readAll l).1))
      ∧ (s.m.readAll l).1.length = 16 * pf p 17 1)

/-- PLACE_ and DIAG_ opcodes. A placement latches or applies at once by its function; reads of registers act as reads; writes act in
list order; the Sward read, the self-test, the loopback and the injection do what they name. Which words an injection hits is
the model's choice (log entry 89). Each clause gives the whole next state of the accepted form, on every state that takes
commands and every packet whose fields meet the stated checks. Rules: R289, R290, R363 to R366; log 89, 90. -/
def Obligations.PlacementAndDiagnosticOpcodes : Prop :=
  (∀ (s : State) o p obs f h, s.takes o → lenOf p = 40 → pf p 16 4 = 0 → pf p 28 4 = 0 → pf p 32 1 = f → f = 2 ∨ f = 3 ∨ f = 5 →
    pf p 33 1 = b2n h → pf p 34 2 = 0 → s.m.hostMode f ≠ h → s.m.immReady f = true →
    exec (.placeSet o p obs) s = .next (s.gives ((s.m.setMode f h).replies o 0x0F01 [])))
  ∧ (∀ (s : State) o p obs f h, s.takes o → lenOf p = 40 → pf p 16 1 = 1 → pf p 17 1 = 0 → pf p 28 4 = 0 → pf p 32 1 = f →
    f = 0 ∨ f = 1 ∨ f = 4 ∨ f = 6 ∨ f = 7 → pf p 33 1 = b2n h → pf p 34 2 = 0 → s.m.hostMode f ≠ h → mfind s.m.cmd.place f = none →
    (f = 0 → h = false → s.m.hostObjs = 0) →
    ∃ m : Mach, exec (.placeSet o p obs) s = .next (s.gives (m.releaseRes o 0x0F01 (Res.nextTick 0))) ∧
      ∃ it : Item, mfind m.cmd.place f = some (h, it) ∧ it.t = 0 ∧ it.reply = true ∧ it.o = o)
  ∧ (∀ (s : State) o p obs, s.takes o → lenOf p = 20 →
    exec (.placeGet o p obs) s = .next (s.gives (s.m.replies o 0x0F02 (toLE 1 (s.m.gf F.SYS_PLACE_STAT_HOST)
      ++ toLE 1 (s.m.gf F.SYS_PLACE_STAT_PEND) ++ toLE 1 (s.m.cmd.place.foldl (fun a e => a + b2n e.2.1 * 2 ^ e.1) 0) ++ [0]))))
  ∧ (∀ (s : State) o p obs a, s.takes o → p = toLE 2 1 ++ [0, 0] ++ toLE 4 a → a % 4 = 0 → a < 0x1000000 →
    ∃ (v : List Byte) (m : Mach), s.m.readAll [a] = (v, m) ∧ exec (.diagRegRead o p obs) s = .next (s.gives (m.replies o 0x1F01 v)))
  ∧ (∀ (s : State) o p obs a v, s.takes o → p = toLE 2 1 ++ [0, 0] ++ toLE 4 a ++ toLE 4 v → a % 4 = 0 → a < 0x1000000 → v < 2 ^ 32 →
    (∀ q, o.xport = .pcie q → qpReg q a = false) →
    exec (.diagRegWrite o p obs) s = .next (s.gives ((registerWrite a v false (obsOn obs 0) s.m).replies o 0x1F02 [])))
  ∧ (∀ (s : State) o p obs, s.takes o → lenOf p = 32 → pf p 16 2 < s.m.variant.objects → pf p 18 2 = 0 → 1 ≤ pf p 24 2 →
    pf p 24 2 ≤ 1008 → pf p 20 4 + pf p 24 2 ≤ 32768 → pf p 26 2 = 0 →
    exec (.diagSwardRead o p obs) s = .next (s.gives (s.m.replies o 0x1F03
      (toLE 2 (s.m.omem (pf p 16 2)).ring.length ++ [0, 0]
        ++ (upto (pf p 24 2)).flatMap (fun i => toLE 4 (s.m.swardWord (pf p 16 2) (pf p 20 4 + i)))))))
  ∧ (∀ (s : State) o p, s.takes o → lenOf p = 24 → pf p 16 4 = 0 → s.m.power = 2 →
    exec (.diagSelftest o p []) s = .next (s.gives (s.m.replies o 0x1F04 (1 :: List.replicate 19 0))))
  ∧ (∀ (s : State) o p, s.takes o → lenOf p = 24 → pf p 16 1 = 1 ∨ pf p 16 1 = 2 → pf p 17 3 = 0 →
    exec (.diagSelftest o p []) s = .next (s.gives (s.m.replies o 0x1F04 (1 :: List.replicate 19 0))))
  ∧ (∀ (s : State) o p obs, s.takes o → lenOf p = 24 → pf p 16 1 = 1 ∨ pf p 16 1 = 2 → pf p 17 1 ≤ 1 → pf p 19 1 = 1 → s.m.power = 2 →
    ∃ m : Mach, exec (.diagLoopback o p obs) s = .next (s.gives (m.replies o 0x1F05 [])) ∧ (pf p 16 1, pf p 17 1, 0) ∈ m.sys.loops)
  ∧ (∀ (s : State) o p obs, s.takes o → lenOf p = 28 → pf p 16 1 = 0 → pf p 17 1 = 0 → pf p 18 2 < s.m.variant.objects →
    1 ≤ pf p 20 2 → pf p 20 2 ≤ 16 → pf p 22 2 = 0 →
    exec (.diagErrInject o p obs) s = .next (s.gives (({ s.m with
      rend := { s.m.rend with injS := mput s.m.rend.injS (pf p 18 2) (pf p 20 2) } }).replies o 0x1F06 [])))
  ∧ (∀ (s : State) o p obs, s.takes o → lenOf p = 28 → pf p 16 1 = 1 ∨ pf p 16 1 = 2 → pf p 17 1 = 0 →
    1 ≤ pf p 20 2 → pf p 20 2 ≤ 16 → pf p 22 2 = 0 →
    exec (.diagErrInject o p obs) s = .next (s.gives (({ s.m with
      ddr := { s.m.ddr with inj := mput s.m.ddr.inj (pf p 16 1) (pf p 20 2) } }).replies o 0x1F06 [])))

/-- MEAS_ and HLTH_ opcodes. Channel fields are staged under their mask and latched; a restart names its parts; status opcodes
answer the registers; the configuration and approvals of Ibex are taken. Each clause gives the whole next state of the accepted
form, on every state that takes commands and every packet whose fields meet the stated checks. Rules: R356 to R359. -/
def Obligations.MeasurementAndHealthOpcodes : Prop :=
  (∀ (s : State) o p obs, s.takes o → listFits p 32 28 32 → onceEach p 32 28 (fun e => fld e 0 1) → s.m.timingChk 10 p = none →
    (∀ x ∈ entriesOf p 32 28, fld x.2 0 1 < 32 ∧ s.m.measChk x.1 x.2 = none) →
    (s.m.modeAt 3 (s.m.effOf p) = false ∨ ∀ x ∈ entriesOf p 32 28, bitOf (fld x.2 1 1) 2 = false) →
    s.m.timeRoom p (countOf p 32) →
    ∃ (m : Mach) (r : Res), s.m.putPlain o 0x0C01 (s.m.effOf p) ((entriesOf p 32 28).map (fun x => (K.MEAS, fld x.2 0 1, x.2))) = (m, r)
      ∧ exec (.measCfg o p obs) s = .next (s.gives (m.releaseRes o 0x0C01 r)) ∧ r.st ≤ 1)
  ∧ (∀ (s : State) o p obs, s.takes o → lenOf p = 36 → s.m.modeAt 3 .imm = true → pf p 16 1 < 32 → pf p 17 1 = 0 →
    ringChk p 256 (pf p 28 4 % 256 == 0 && inRange 0x1000 0x1000000 (pf p 28 4)) (s.m.on F.MEAS_CH_STR_CTRL_EN (pf p 16 1)) = none →
    exec (.measStream o p obs) s = .next (s.gives ((s.m.ringPut
      ⟨F.MEAS_CH_STR_CTRL_EN, R.MEAS_CH_STR_BASE_LO, R.MEAS_CH_STR_BASE_HI, R.MEAS_CH_STR_SIZE⟩ (pf p 16 1) p
      (fun v t => measStrCtrlWrite (pf p 16 1) v t)).replies o 0x0C02 [])))
  ∧ (∀ (s : State) o p obs, s.takes o → lenOf p = 24 → pf p 16 1 < 32 → 1 ≤ pf p 17 1 → pf p 16 1 + pf p 17 1 ≤ 32 → pf p 18 2 = 0 →
    exec (.measStatus o p obs) s = .next (s.gives (s.m.replies o 0x0C03 ((upto (pf p 17 1)).flatMap (fun i =>
      [R.MEAS_CH_STAT, R.MEAS_CH_LVL, R.MEAS_CH_RES_SEQ, R.MEAS_CH_FRAMES, R.MEAS_CH_FIRST_LO, R.MEAS_CH_FIRST_HI].flatMap
        (fun r => toLE 4 (s.m.rd r (pf p 16 1 + i))))))))
  ∧ (∀ (s : State) o p obs, s.takes o → listFits p 32 4 32 → onceEach p 32 4 (fun e => fld e 0 1) → s.m.timingChk 10 p = none →
    (∀ x ∈ entriesOf p 32 4, fld x.2 0 1 < 32 ∧ 1 ≤ fld x.2 1 1 ∧ fld x.2 1 1 ≤ 7 ∧ allZero (slice x.2 2 2) = true) →
    s.m.timeRoom p (countOf p 32) →
    ∃ (m : Mach) (r : Res), s.m.putPlain o 0x0C04 (s.m.effOf p) ((entriesOf p 32 4).map (fun x => (K.RESTART, fld x.2 0 1, x.2))) = (m, r)
      ∧ exec (.measRestart o p obs) s = .next (s.gives (m.releaseRes o 0x0C04 r)) ∧ r.st ≤ 1)
  ∧ (∀ (s : State) o p obs, s.takes o → lenOf p = 20 →
    ∃ l : List Byte, exec (.hlthStatus o p obs) s = .next (s.gives (s.m.replies o 0x0D01 l)) ∧ l.length = 36 ∧
      fld l 0 4 = s.m.word R.FAB_IBEX_STAT ∧ fld l 32 4 = s.m.word R.FAB_STAT)
  ∧ (∀ (s : State) o p obs, s.takes o → lenOf p = 40 → 1 ≤ pf p 18 2 → pf p 18 2 ≤ 4096 → s.m.bufChk p 20 = none →
    32 * pf p 18 2 ≤ pf p 28 4 →
    ∃ (l : List Byte) (bad : Nat), exec (.hlthLogRead o p obs) s = .next (s.gives (Mach.leaves
      (s.m.dest (bufOf p 20) (obsOn obs 0) l (Res.ok (toLE 2 (Nat.min (pf p 18 2) (s.m.gf F.FAB_LOG_STAT_COUNT - pf p 16 2))
        ++ toLE 2 bad))) o 0x0D02)) ∧ (s.m.logRec ((s.m.rend.log.count + 8191 - pf p 16 2 % 4096) % 4096) = none → pf p 16 2 = 0 →
        0 < s.m.gf F.FAB_LOG_STAT_COUNT → 1 ≤ bad))
  ∧ (∀ (s : State) o p obs, s.takes o → lenOf p = 28 → 41 ≤ pf p 16 2 → pf p 16 2 ≤ 410 → 8 ≤ pf p 18 1 → pf p 18 1 ≤ 63 →
    pf p 19 1 ≤ 127 → pf p 20 1 ≤ 1 → pf p 21 3 = 0 →
    exec (.hlthIbexCfg o p obs) s = .next (s.gives ((s.m.wr R.FAB_IBEX_CFG
      (pf p 16 2 + 2 ^ 12 * pf p 18 1 + 2 ^ 18 * pf p 19 1 + 2 ^ 31 * pf p 20 1)).replies o 0x0D03 [])))
  ∧ (∀ (s : State) o p obs, s.takes o → lenOf p = 28 → (pf p 16 4 &&& 0x10003 ≠ 0 → s.m.modeAt 4 .imm = true) →
    pf p 16 4 &&& 0xFFFEFCFC = 0 → pf p 20 4 &&& 0xFFFEFCFC = 0 →
    ∃ m : Mach, exec (.hlthApprove o p obs) s = .next (s.gives (m.replies o 0x0D04 (toLE 4 (m.rd R.FAB_IBEX_APPROVE)))))
  ∧ (∀ (s : State) o p obs, s.takes o → lenOf p = 20 →
    exec (.hlthFawn o p obs) s = .next (s.gives (s.m.replies o 0x0D05 ((upto 48).flatMap (fun k =>
      toLE 4 (s.m.rd R.FAB_FAWN_RATE k) ++ toLE 2 (s.m.gf F.FAB_FAWN_AGE_INDEX k) ++ toLE 2 (s.m.gf F.FAB_FAWN_AGE_FAULT k))))))
  ∧ (∀ (s : State) o p obs, s.takes o → lenOf p = 24 → pf p 16 4 = 0 →
    ∃ (v : List Byte) (m : Mach), s.m.readAll ([R.FAB_TICK_SLACK, R.FAB_SLACK_MIN, R.FAB_LATE_TICKS, R.FAB_MISS_TICKS,
        R.FAB_MISS_TICK_LO, R.FAB_MISS_TICK_HI].map (fun r => r.at_ 0 0) ++ (upto 16).map (fun k => R.FAB_SLACK_HIST.at_ k 0)) = (v, m) ∧
      exec (.hlthSlack o p obs) s = .next (s.gives (m.replies o 0x0D06 v)))

/-- TIME_ opcodes. Configuration, servo, grid, monitors and pulses are taken as given; status answers the registers; an adjustment
acts in HOST mode; event reads answer and remove the stamps (log entry 87); a forced failover acts on a ready standby. Each
clause gives the whole next state of the accepted form, on every state that takes commands and every packet whose fields meet
the stated checks. Rules: R354, R355; log 87. -/
def Obligations.TimeOpcodes : Prop :=
  (∀ (s : State) o p obs, s.takes o → lenOf p = 28 → pf p 16 1 ≤ 3 → pf p 17 1 ≤ 127 → pf p 18 1 ≤ 3 → (pf p 16 1 = 3 → 2 ≤ pf p 18 1) →
    (∀ k, k < 3 → ((profileLogs (pf p 16 1)).getD k (0, 0)).1 ≤ psf p (19 + k) 1 ∧
      psf p (19 + k) 1 ≤ ((profileLogs (pf p 16 1)).getD k (0, 0)).2) → pf p 22 2 = 0 →
    ∃ cfg msg, cfg = pf p 16 1 + 256 * pf p 17 1 + 65536 * pf p 18 1 ∧ msg = pf p 19 3 + 2 ^ 24 * s.m.gf F.TIME_MSG_ANN_TO ∧
      exec (.timeCfg o p obs) s = .next (s.gives ((((s.m.wr R.TIME_CFG cfg).wr R.TIME_MSG msg).timeApply cfg msg).replies o 0x0B01 [])))
  ∧ (∀ (s : State) o p obs, s.takes o → lenOf p = 20 →
    ∃ (l : List Byte) (m : Mach), (s.m.regRead (R.TIME_STEPS.at_ 0 0)).2 = m ∧
      exec (.timeStatus o p obs) s = .next (s.gives (m.replies o 0x0B02 l)) ∧ l.length = 44 ∧
      fld l 0 1 = s.m.gf F.TIME_GRID_STAT_STATE ∧ fld l 1 1 = s.m.activePort ∧ fld l 20 4 = s.m.rd R.TIME_MPD ∧
      fld l 24 4 = s.m.rd R.TIME_FREQ ∧ fld l 36 2 = Nat.min 65535 (s.m.rd R.TIME_STEPS) ∧ fld l 40 4 = s.m.rd R.TIME_GRID_ERR)
  ∧ (∀ (s : State) o p obs, s.takes o → lenOf p = 32 → s.m.modeAt 1 .imm = true → (psf p 16 4).natAbs ≤ 128000000 → pf p 24 1 ≤ 2 →
    (pf p 24 1 = 1 → (psf p 20 4).natAbs ≤ 500000) → pf p 25 3 = 0 →
    exec (.timeAdjust o p obs) s = .next (s.gives ((s.m.adjust (pf p 24 1) (psf p 16 4) (psf p 20 4)).replies o 0x0B03 [])))
  ∧ (∀ (s : State) o p obs, s.takes o → lenOf p = 32 → pf p 16 4 ≤ 0x40000 → pf p 20 4 ≤ 0x40000 →
    exec (.timeServoCfg o p obs) s = .next (s.gives
      ((((s.m.wr R.TIME_SERVO_KP (pf p 16 4)).wr R.TIME_SERVO_KI (pf p 20 4)).wr R.TIME_STEP_NS (pf p 24 4)).replies o 0x0B04 [])))
  ∧ (∀ (s : State) o p obs, s.takes o → lenOf p = 28 → 40 ≤ pf p 16 2 → pf p 16 2 ≤ 800 → pf p 18 1 ≤ 1 → pf p 19 1 = 0 →
    1 ≤ pf p 20 4 → pf p 20 4 ≤ 1000000 →
    ∃ m : Mach, exec (.timeGridCfg o p obs) s = .next (s.gives (m.replies o 0x0B05 [])) ∧ s.m.registersOnly m ∧
      m.gf F.TIME_GRID_CTRL_SLEW_PPM = pf p 16 2 ∧ m.gf F.TIME_GRID_CTRL_STEP_US = pf p 20 4 ∧ m.gf F.TIME_GRID_CTRL_STEP_ACTIVE = pf p 18 1)
  ∧ (∀ (s : State) o p obs, s.takes o → listFits p 16 12 4 → onceEach p 16 12 (fun e => fld e 0 1) →
    (∀ x ∈ entriesOf p 16 12, fld x.2 0 1 < 4 ∧ fld x.2 1 1 ≤ 1 ∧ allZero (slice x.2 6 2) = true ∧ fld x.2 8 4 &&& 0xFE007C00 = 0 ∧
      (bitOf (fld x.2 8 4) 15 = true → fld x.2 8 4 % 1024 < 128) ∧
      (bitOf (fld x.2 8 4) 15 = false → fld x.2 8 4 % 1024 < s.m.variant.objects) ∧ bits (fld x.2 8 4) 16 9 < s.m.variant.feeds) →
    ∃ m : Mach, exec (.timeLatSet o p obs) s = .next (s.gives (m.releaseRes o 0x0B06 (Res.nextTick 0))) ∧
      m = { s.m with cmd := { s.m.cmd with ord := s.m.cmd.ord + 1, latch := s.m.cmd.latch ++
        [⟨o, 0x0B06, ((entriesOf p 16 12).map (·.2)).flatten, 0, s.m.cmd.ord, rkey K.LAT 0, true, false⟩] } })
  ∧ (∀ (s : State) o p obs, s.takes o → lenOf p = 20 →
    exec (.timeLatRead o p obs) s = .next (s.gives (s.m.replies o 0x0B07 ((upto 4).flatMap (fun k =>
      toLE 4 (s.m.rd R.TIME_LAT_FLOOR k) ++ toLE 4 (s.m.rd R.TIME_LAT_PASS k) ++ toLE 4 (s.m.rd R.TIME_LAT_PROG k)
        ++ toLE 4 (s.m.rd R.TIME_LAT_RATIO k) ++ toLE 4 (s.m.rd R.TIME_LAT_STAT k) ++ [0, 0, 0, 0])))))
  ∧ (∀ (s : State) o p obs, s.takes o → lenOf p = 28 → pf p 16 1 ≤ 7 → pf p 17 1 = 0 → 1 ≤ pf p 18 2 →
    -500000000 ≤ psf p 20 4 → psf p 20 4 ≤ 499999999 →
    exec (.timePpsCfg o p obs) s = .next (s.gives
      (((s.m.wr R.TIME_PPS_CFG (pf p 16 1 + 65536 * pf p 18 2)).wr R.TIME_PPS_OFS (pf p 20 4)).replies o 0x0B08 [])))
  ∧ (∀ (s : State) o p obs, s.takes o → lenOf p = 24 → 1 ≤ pf p 16 1 → pf p 16 1 ≤ 16 → pf p 17 3 = 0 →
    ∃ (l : List Byte) (m : Mach), exec (.timeEvtRead o p obs) s = .next (s.gives (m.replies o 0x0B09 l)) ∧
      m.tm.evtq = s.m.tm.evtq.drop (pf p 16 1) ∧ m.gf F.TIME_EVTQ_STAT_LOST = 0 ∧ l.length = 4 + 12 * Nat.min (pf p 16 1) s.m.tm.evtq.length)
  ∧ (∀ (s : State) o p obs, s.takes o → lenOf p = 20 → s.m.modeAt 6 .imm = true → s.m.on F.TIME_STAT_FAILING = false →
    s.m.standbyReady = true →
    exec (.timeFailover o p obs) s = .next (s.gives (s.m.failover.replies o 0x0B0A [])))

/-- ASP_ opcodes. A list of configurations, masks, enables and bank clocks is applied whole, and status answers the ports asked for.
Each clause gives the whole next state of the accepted form, on every state that takes commands and every packet whose fields
meet the stated checks. Rules: R349, R350. -/
def Obligations.SerialPortOpcodes : Prop :=
  (∀ (s : State) o p obs, s.takes o → listFits p 16 12 64 → onceEach p 16 12 (fun e => fld e 0 1) →
    (∀ x ∈ entriesOf p 16 12, fld x.2 0 1 < 64 ∧ s.m.aspEntryChk x.1 x.2 = none) →
    s.m.loadChk (s.m.each (entriesOf p 16 12) (fun t x => t.setLv R.ASP_CFG (aspEntry x.2) (fld x.2 0 1))) = none →
    exec (.aspConfig o p obs) s = .next (s.gives ((s.m.each (entriesOf p 16 12) (fun t x =>
      (t.wr R.ASP_CFG (aspEntry x.2) (fld x.2 0 1)).aspApply (fld x.2 0 1) (aspEntry x.2))).replies o 0x0901 [])))
  ∧ (∀ (s : State) o p obs, s.takes o → listFits p 16 8 64 → onceEach p 16 8 (fun e => fld e 0 1) →
    (∀ x ∈ entriesOf p 16 8, fld x.2 0 1 < 64 ∧ allZero (slice x.2 1 3) = true ∧ fld x.2 4 4 < 2 ^ s.m.aspSlots (fld x.2 0 1)) →
    exec (.aspSlotmask o p obs) s = .next (s.gives ((s.m.each (entriesOf p 16 8).zipIdx (fun t x =>
      t.aspMask (fld x.1.2 0 1) (fld x.1.2 4 4) (obsOn obs x.2))).replies o 0x0902 [])))
  ∧ (∀ (s : State) o p obs t, s.takes o → listFits p 16 4 64 → onceEach p 16 4 (fun e => fld e 0 1) →
    (∀ x ∈ entriesOf p 16 4, fld x.2 0 1 < 64 ∧ fld x.2 1 1 ≤ 1 ∧ allZero (slice x.2 2 2) = true) →
    t = s.m.each (entriesOf p 16 4) (fun t x => t.sf F.ASP_CTRL_EN (fld x.2 1 1 % 2) (fld x.2 0 1)) → s.m.loadChk t = none →
    exec (.aspEnable o p obs) s = .next (s.gives
      (((t.each (entriesOf p 16 4) (fun t x => t.aspEnable (fld x.2 0 1))).aspReload).replies o 0x0903 [])))
  ∧ (∀ (s : State) o p obs, s.takes o → listFits p 16 8 8 → onceEach p 16 8 (fun e => fld e 0 1) →
    (∀ x ∈ entriesOf p 16 8, fld x.2 0 1 < 8 ∧ fld x.2 1 1 ≤ 3 ∧ fld x.2 2 2 ∈ [128, 256, 512] ∧ allZero (slice x.2 4 4) = true) →
    exec (.aspMclk o p obs) s = .next (s.gives ((s.m.each (entriesOf p 16 8) (fun t x => t.aspBank (fld x.2 0 1)
      (fld x.2 1 1 + 4 * (if fld x.2 2 2 = 128 then 0 else if fld x.2 2 2 = 256 then 1 else 2)))).replies o 0x0904 [])))
  ∧ (∀ (s : State) o p obs, s.takes o → lenOf p = 24 → pf p 16 1 < 64 → 1 ≤ pf p 17 1 → pf p 16 1 + pf p 17 1 ≤ 64 → pf p 18 2 = 0 →
    exec (.aspStatus o p obs) s = .next (s.gives (s.m.replies o 0x0905 (((upto (pf p 17 1)).map (· + pf p 16 1)).flatMap (fun n =>
      toLE 4 (s.m.rd R.ASP_STAT n % 128) ++ toLE 4 (s.m.rd R.ASP_RATE n) ++ toLE 4 (s.m.rd R.ASP_SLIP n)
        ++ toLE 4 (s.m.rd R.ASP_GLITCH n) ++ toLE 4 (s.m.rd R.ASP_LOSSES n) ++ toLE 4 (s.m.rd R.ASP_MASK_LIVE n))))))

/-- NET_ opcodes of ports, rings, IP and redundancy. Port, IP, ring, redundancy and MDIO settings are taken as given, and status
answers the port's counters. Each clause gives the whole next state of the accepted form, on every state that takes commands and
every packet whose fields meet the stated checks. Rules: R351, R353. -/
def Obligations.NetworkPortOpcodes : Prop :=
  (∀ (s : State) o p obs, s.takes o → lenOf p = 32 → pf p 16 1 ≤ 1 → 1 ≤ pf p 17 1 → pf p 17 1 ≤ 4 → pf p 18 2 ≤ 31 →
    1 ≤ pf p 20 2 → pf p 20 2 ≤ 1000 → 1 ≤ pf p 22 2 → pf p 22 2 ≤ 5000 → 256 ≤ pf p 24 2 → pf p 24 2 ≤ 9216 → pf p 26 2 = 0 →
    s.m.speedHeld (pf p 16 1) (pf p 17 1) = false →
    ∃ t : Mach, s.m.registersOnly t ∧ t.gf F.NET_PAUSE_CFG_PAUSE_WD (pf p 16 1) = pf p 20 2 ∧
      t.gf F.NET_DS_CFG_DS_MBPS (pf p 16 1) = pf p 22 2 ∧ t.gf F.NET_CT_LIVE_BYTES (pf p 16 1) = pf p 24 2 ∧
      exec (.netPortCfg o p obs) s = .next (s.gives ((t.netCfg (pf p 16 1) (pf p 17 1 + 16 * pf p 18 2)).replies o 0x0A01 [])))
  ∧ (∀ (s : State) o p obs, s.takes o → lenOf p = 36 → pf p 16 1 ≤ 1 → 8 ≤ pf p 17 1 → pf p 17 1 ≤ 30 → pf p 18 2 ≤ 4094 → pf p 31 1 ≤ 7 →
    exec (.netIpCfg o p obs) s = .next (s.gives ((s.m.onNet (pf p 16 1) (fun n => { n with
      ip := ⟨pf p 20 4, pf p 17 1, pf p 18 2, pf p 24 4, pf p 28 1, pf p 29 1, pf p 30 1, pf p 31 1⟩ })).replies o 0x0A02 [])))
  ∧ (∀ (s : State) o p obs lg, s.takes o → lenOf p = 36 → pf p 16 1 ≤ 1 → pf p 17 1 ≤ 7 → pf p 18 2 = 2 ∨ pf p 18 2 = 3 →
    pf p 20 8 % 64 = 0 → pf p 20 8 < 2 ^ 40 → 4 ≤ lg → lg ≤ 12 → pf p 28 2 = 2 ^ lg → 256 ≤ pf p 30 2 → pf p 30 2 ≤ 9216 →
    pf p 30 2 % 64 = 0 → s.m.on F.NET_RX_CTRL_EN (pf p 16 1) (pf p 17 1) = false →
    exec (.netRingCfg o p obs) s = .next (s.gives
      (((Mach.wr (s.m.wr R.NET_RX_BASE_LO (pf p 20 8 % 2 ^ 32) (pf p 16 1) (pf p 17 1)) R.NET_RX_BASE_HI (pf p 20 8 / 2 ^ 32)
        (pf p 16 1) (pf p 17 1)).rxCtrl (pf p 16 1) (pf p 17 1) (pf p 18 2 % 2 + 16 * lg + 65536 * pf p 30 2)).replies o 0x0A03 [])))
  ∧ (∀ (s : State) o p obs, s.takes o → lenOf p = 24 → pf p 16 1 ≤ 1 → pf p 17 1 ≤ 1 → pf p 18 2 = 0 →
    ∃ l : List Byte, exec (.netStatus o p obs) s = .next (s.gives
        ((if pf p 17 1 = 1 then s.m.netClear (pf p 16 1) else s.m).replies o 0x0A09 l)) ∧ l.length = 40 ∧
      fld l 0 1 = s.m.gf F.NET_STAT_LINK (pf p 16 1) ∧ fld l 4 4 = s.m.rd R.NET_RX_FRAMES (pf p 16 1) ∧
      fld l 8 4 = s.m.rd R.NET_TX_FRAMES (pf p 16 1))
  ∧ (∀ (s : State) o p w, s.takes o → lenOf p = 28 → pf p 16 1 ≤ 1 → pf p 17 1 ≤ 3 → pf p 18 1 ≤ 31 → pf p 19 1 ≤ 31 →
    exec (.netMdio o p [1, w]) s = .next (s.gives (s.m.replies o 0x0A0C
      (toLE 2 (if pf p 17 1 % 2 = 0 then w else pf p 22 2)))))
  ∧ (∀ (s : State) o p obs, s.takes o → lenOf p = 24 → 1 ≤ pf p 16 1 → pf p 16 1 ≤ 16 → pf p 17 1 ≤ 3 → pf p 18 2 = 0 →
    ∃ m : Mach, exec (.netRedundCfg o p obs) s = .next (s.gives (m.replies o 0x0A0B [])) ∧ s.m.registersOnly m ∧
      m.gf F.TIME_REDUND_MERGE_MS = pf p 16 1 ∧ m.gf F.TIME_REDUND_DUP_EGRESS = pf p 17 1 % 2 ∧
      m.gf F.TIME_REDUND_TIME_PREF_B = pf p 17 1 / 2)

/-- NET_ opcodes of streams and discovery. Streams start with their pool and stop by list; a discovered session can be subscribed
to; the list of sessions and the status of a stream are answered. Each clause gives the whole next state of the accepted form,
on every state that takes commands and every packet whose fields meet the stated checks. Rules: R351, R352. -/
def Obligations.StreamOpcodes : Prop :=
  (∀ (s : State) o p obs, s.takes o → lenOf p = 44 → s.m.modeAt 2 .imm = true → s.m.strmOn = true → pf p 17 1 ≤ 3 →
    1 ≤ pf p 18 1 → pf p 18 1 ≤ 64 → pf p 19 1 = 2 ∨ pf p 19 1 = 4 → 96 ≤ pf p 30 1 → pf p 30 1 ≤ 127 → pf p 31 1 ≤ 3 →
    jitterBad (pf p 31 1) (pf p 32 2) = false → poolChk s.m.inPools (pf p 16 1) (pf p 34 2) (pf p 18 1) 34 = none →
    ∃ x : StrIn, exec (.netStreamIn o p obs) s = .next (s.gives ((s.m.startIn (pf p 16 1) x).replies o 0x0A04 [])) ∧
      x.en = bitOf (pf p 17 1) 0 ∧ x.l32 = bitOf (pf p 17 1) 1 ∧ x.chans = pf p 18 1 ∧ x.rate = pf p 19 1 ∧ x.group = pf p 20 4 ∧
      x.source = pf p 24 4 ∧ x.port = pf p 28 2 ∧ x.pt = pf p 30 1 ∧ x.ptime = pf p 31 1 ∧ x.jitUs = pf p 32 2 ∧ x.pool = pf p 34 2 ∧
      x.offset = pf p 36 4 ∧ x.held = [] ∧ x.seen = [])
  ∧ (∀ (s : State) o p obs, s.takes o → lenOf p = 76 → (bitOf (pf p 17 1) 2 = true → s.m.modeAt 2 .imm = false) → pf p 17 1 ≤ 7 →
    1 ≤ pf p 18 1 → pf p 18 1 ≤ 64 → pf p 19 1 = 2 ∨ pf p 19 1 = 4 → pf p 28 1 ≤ 3 → pf p 29 3 = 0 → pf p 34 2 = 0 →
    (∀ q, q < 2 → pf p 18 1 * ptimeSamples (pf p 19 1) (pf p 28 1) * 4 + 40 ≤ s.m.gf F.NET_MTU_BYTES q) →
    poolChk s.m.outPools (pf p 16 1) (pf p 32 2) (pf p 18 1) 32 = none →
    ∃ x : StrOut, exec (.netStreamOut o p obs) s = .next (s.gives ((s.m.startOut (pf p 16 1) x).replies o 0x0A05 [])) ∧
      x.en = bitOf (pf p 17 1) 0 ∧ x.l32 = bitOf (pf p 17 1) 1 ∧ x.announce = bitOf (pf p 17 1) 2 ∧ x.chans = pf p 18 1 ∧
      x.rate = pf p 19 1 ∧ x.dest = pf p 20 4 ∧ x.ttl = pf p 24 1 ∧ x.pt = pf p 25 1 ∧ x.port = pf p 26 2 ∧ x.ptime = pf p 28 1 ∧
      x.pool = pf p 32 2 ∧ x.ssrc = pf p 36 4 ∧ x.seq = 0 ∧ x.buf = [])
  ∧ (∀ (s : State) o p obs, s.takes o → listFits p 16 4 512 → onceEach p 16 4 (fun e => fld e 0 2) →
    (∀ x ∈ entriesOf p 16 4, fld x.2 0 1 ≤ 1 ∧ allZero (slice x.2 2 2) = true) →
    exec (.netStreamStop o p obs) s = .next (s.gives ((s.m.each (entriesOf p 16 4) (fun t x =>
      if fld x.2 0 1 = 0 then t.startIn (fld x.2 1 1) { t.strIn (fld x.2 1 1) with en := false, held := [] }
      else t.startOut (fld x.2 1 1) { t.strOut (fld x.2 1 1) with en := false, buf := [] })).replies o 0x0A06 [])))
  ∧ (∀ (s : State) o p obs, s.takes o → lenOf p = 24 → 1 ≤ pf p 18 2 → pf p 18 2 ≤ 60 → s.m.hostMode 2 = false →
    exec (.netDiscovered o p obs) s = .next (s.gives (s.m.replies o 0x0A07 (toLE 2 s.m.disc.length ++ [0, 0]
      ++ ((s.m.disc.drop (pf p 16 2)).take (pf p 18 2)).flatMap s.m.discBytes))))
  ∧ (∀ (s : State) o p obs d, s.takes o → lenOf p = 36 → s.m.modeAt 2 .imm = false → s.m.strmOn = true → pf p 17 1 = 0 →
    s.m.disc.find? (fun d => d.a.sid == pf p 20 8 && d.sup) = some d → poolChk s.m.inPools (pf p 16 1) (pf p 18 2) d.a.chans 18 = none →
    jitterBad d.a.ptime (pf p 28 2) = false → pf p 30 2 = 0 →
    ∃ x : StrIn, exec (.netSubscribe o p obs) s = .next (s.gives ((s.m.startIn (pf p 16 1) x).replies o 0x0A08 [])) ∧
      x.en = true ∧ x.chans = d.a.chans ∧ x.rate = d.a.rate ∧ x.group = d.a.group ∧ x.source = d.a.source ∧ x.port = d.a.port ∧
      x.pt = d.a.pt ∧ x.ptime = d.a.ptime ∧ x.offset = d.a.offset ∧ x.sid = d.a.sid ∧ x.jitUs = pf p 28 2 ∧ x.pool = pf p 18 2)
  ∧ (∀ (s : State) o p obs, s.takes o → lenOf p = 24 → pf p 16 1 = 1 → 1 ≤ pf p 18 2 → pf p 17 1 + pf p 18 2 ≤ 256 →
    exec (.netStreamStatus o p obs) s = .next (s.gives (s.m.replies o 0x0A0A ((upto (pf p 18 2)).flatMap (fun i =>
      toLE 1 (2 * b2n (s.m.strOut (pf p 17 1 + i)).en) ++ [0, 0, 0] ++ toLE 4 (s.m.rd R.STRM_OUT_PKTS (pf p 17 1 + i))
        ++ List.replicate 12 0)))))
  ∧ (∀ (s : State) o p obs, s.takes o → lenOf p = 24 → pf p 16 1 = 0 → 1 ≤ pf p 18 2 → pf p 17 1 + pf p 18 2 ≤ 256 →
    ∃ l : List Byte, exec (.netStreamStatus o p obs) s = .next (s.gives (s.m.replies o 0x0A0A l)) ∧ l.length = 20 * pf p 18 2)

/-- ROUTE_ opcodes. Selectors, matrix rows and generator fields latch for the next token or a time, rings are configured whole, and
status answers the words asked for. Each clause gives the whole next state of the accepted form, on every state that takes
commands and every packet whose fields meet the stated checks. Rules: R334 to R338. -/
def Obligations.RoutingOpcodes : Prop :=
  (∀ (s : State) o p obs x, s.takes o → listFits p 32 8 500 → onceEach p 32 8 (fun e => fld e 0 2) → s.m.timingChk 14 p = none →
    (∀ e ∈ entriesOf p 32 8, s.m.chanOk (fld e.2 0 2) = true ∧ s.m.selBad 0 (fld e.2 2 2) = none ∧ fld e.2 4 4 ≤ 1) →
    s.m.timeRoom p (countOf p 32) →
    x = s.m.putPlain o 0x0801 (s.m.effOf p) ((entriesOf p 32 8).map (fun e =>
      (K.INSEL, fld e.2 0 2, toLE 4 (fld e.2 2 2 + 65536 * fld e.2 4 4)))) →
    exec (.routeInSet o p obs) s = .next (s.gives (Mach.leaves x o 0x0801)) ∧ x.2.st ≤ 1)
  ∧ (∀ (s : State) o p obs x, s.takes o → listFits p 32 4 1000 → onceEach p 32 4 (fun e => fld e 0 2) → s.m.timingChk 14 p = none →
    (∀ e ∈ entriesOf p 32 4, fld e.2 0 2 < 2624 ∧ s.m.selBad 1 (fld e.2 2 2) = none) → s.m.timeRoom p (countOf p 32) →
    x = s.m.putPlain o 0x0802 (s.m.effOf p) ((entriesOf p 32 4).map (fun e => (K.OUTSEL, fld e.2 0 2, toLE 4 (fld e.2 2 2)))) →
    exec (.routeOutSet o p obs) s = .next (s.gives (Mach.leaves x o 0x0802)) ∧ x.2.st ≤ 1)
  ∧ (∀ (s : State) o p obs x, s.takes o → lenOf p = 2088 → s.m.timingChk 14 p = none → pf p 32 2 = 0 → pf p 34 2 ≤ 127 →
    s.m.recBad K.MATRIX (slice p 20 2048) = none → s.m.timeRoom p 1 →
    x = s.m.putPlain o 0x0803 (s.m.effOf p) [(K.MATRIX, pf p 34 2, slice p 20 2048)] →
    exec (.routeMatrixSet o p obs) s = .next (s.gives (Mach.leaves x o 0x0803)) ∧ x.2.st ≤ 1)
  ∧ (∀ (s : State) o p obs t l x, s.takes o → lenOf p = 56 → s.m.timingChk 14 p = none → pf p 32 4 = 1 → s.m.bufChk p 36 = none →
    1 ≤ pf p 44 4 → pf p 44 4 % 2052 = 0 → pf p 44 4 ≤ 128 * 2052 → s.m.bufErr (bufOf p 36) false (obsOn obs 0) = false →
    t = s.m.bufTouch (bufOf p 36) → l = chunks 2052 128 (s.m.bufRead (bufOf p 36)) → rowsBad t l = none → t.timeRoom p l.length →
    x = t.putPlain o 0x0803 (t.effOf p) (l.map (fun e => (K.MATRIX, fld e 0 4, e.drop 4))) →
    exec (.routeMatrixSet o p obs) s = .next (s.gives (Mach.leaves x { o with ack := true } 0x0803)) ∧ x.2.st ≤ 1)
  ∧ (∀ (s : State) o p obs x, s.takes o → listFits p 32 20 16 → onceEach p 32 20 (fun e => fld e 0 2) → s.m.timingChk 10 p = none →
    (∀ e ∈ entriesOf p 32 20, fld e.2 0 2 < 16 ∧ 1 ≤ fld e.2 2 2 ∧ fld e.2 2 2 ≤ 15 ∧
      (bitOf (fld e.2 2 2) 0 = true → fld e.2 4 4 &&& 0xFFFFE0F8 = 0 ∧ genCtrlOk (fld e.2 4 4) = true) ∧
      (bitOf (fld e.2 2 2) 1 = true → fld e.2 8 4 ≤ 0x7FFFFFFF) ∧ (bitOf (fld e.2 2 2) 2 = true → fld e.2 12 4 ≤ 0x100000)) →
    s.m.timeRoom p (countOf p 32) →
    x = s.m.putPlain o 0x0804 (s.m.effOf p) ((entriesOf p 32 20).map (fun e => (K.GEN, fld e.2 0 2, e.2))) →
    exec (.routeGenSet o p obs) s = .next (s.gives (Mach.leaves x o 0x0804)) ∧ x.2.st ≤ 1)
  ∧ (∀ (s : State) o p obs, s.takes o → lenOf p = 36 → pf p 16 1 = 0 → pf p 17 1 ≤ 63 →
    ringChk p 64 (ringSizeOk (pf p 28 4)) (s.m.on F.RENDER_PLAY_CTRL_EN (pf p 17 1)) = none →
    exec (.routeRingSet o p obs) s = .next (s.gives ((s.m.ringPut
      ⟨F.RENDER_PLAY_CTRL_EN, R.RENDER_PLAY_BASE_LO, R.RENDER_PLAY_BASE_HI, R.RENDER_PLAY_SIZE⟩ (pf p 17 1) p
      (fun v t => playCtrlWrite (pf p 17 1) v t)).replies o 0x0805 [])))
  ∧ (∀ (s : State) o p obs, s.takes o → lenOf p = 36 → pf p 16 1 = 1 → pf p 17 1 ≤ 63 →
    ringChk p 64 (ringSizeOk (pf p 28 4)) (s.m.on F.FEED_CAP_CTRL_EN (pf p 17 1)) = none →
    exec (.routeRingSet o p obs) s = .next (s.gives ((s.m.ringPut
      ⟨F.FEED_CAP_CTRL_EN, R.FEED_CAP_BASE_LO, R.FEED_CAP_BASE_HI, R.FEED_CAP_SIZE⟩ (pf p 17 1) p
      (fun v t => capCtrlWrite (pf p 17 1) v t)).replies o 0x0805 [])))
  ∧ (∀ (s : State) o p obs b, s.takes o → lenOf p = 28 → pf p 16 1 = b2n b → pf p 17 1 = 0 → 1 ≤ pf p 20 2 → pf p 20 2 ≤ 256 →
    (b = true → pf p 18 2 + pf p 20 2 ≤ 2624) → (b = false → s.m.chansOk (pf p 18 2) (pf p 20 2) = true) → pf p 22 2 = 0 →
    exec (.routeStatus o p obs) s = .next (s.gives (s.m.replies o 0x0806
      ((upto (pf p 20 2)).flatMap (fun j => s.m.routeBytes b (pf p 18 2 + j))))))

/-- FEED_ opcodes. Records and fields of feeds are staged, latched or put for a time by their class, with SCENE leaving a dirty
stage; gets and status answer them. Each clause gives the whole next state of the accepted form, on every state that takes
commands and every packet whose fields meet the stated checks. Rules: R324 to R326. -/
def Obligations.FeedOpcodes : Prop :=
  (∀ (s : State) o p obs x, s.takes o → listFits p 32 356 11 → onceEach p 32 356 (fun e => fld e 0 2) → s.m.timingChk 14 p = none →
    (∀ e ∈ entriesOf p 32 356, fld e.2 0 2 < s.m.variant.feeds ∧ allZero (slice e.2 2 2) = true ∧ s.m.recBad K.EQ (e.2.drop 4) = none) →
    s.m.timeRoom p (countOf p 32) → x = s.m.feedPut o 0x0601 p 356 K.EQ (fun e => e.drop 4) →
    exec (.feedEqSet o p obs) s = .next (s.gives (Mach.leaves x o 0x0601)) ∧ x.2.st ≤ 1)
  ∧ (∀ (s : State) o p obs w x, s.takes o → listFits p 32 4 500 → onceEach p 32 4 (fun e => fld e 0 2) → s.m.timingChk 14 p = none →
    w = (fun e => (s.m.baseRec (s.m.effOf p) K.EQ (fld e 0 2)).take 320 ++ slice e 2 2 ++ toLE 2 0
      ++ (s.m.baseRec (s.m.effOf p) K.EQ (fld e 0 2)).drop 324) →
    (∀ e ∈ entriesOf p 32 4, fld e.2 0 2 < s.m.variant.feeds ∧ fld e.2 2 2 ≤ 9600 ∧ s.m.recBad K.EQ (w e.2) = none) →
    s.m.timeRoom p (countOf p 32) → x = s.m.feedPut o 0x0602 p 4 K.EQ w →
    exec (.feedTrimSet o p obs) s = .next (s.gives (Mach.leaves x o 0x0602)) ∧ x.2.st ≤ 1)
  ∧ (∀ (s : State) o p obs x, s.takes o → listFits p 32 20 200 → onceEach p 32 20 (fun e => fld e 0 2) → s.m.timingChk 14 p = none →
    (∀ e ∈ entriesOf p 32 20, fld e.2 0 2 < s.m.variant.feeds ∧ allZero (slice e.2 2 2) = true ∧ s.m.recBad K.OUTSET (e.2.drop 4) = none) →
    s.m.timeRoom p (countOf p 32) → x = s.m.feedPut o 0x0603 p 20 K.OUTSET (fun e => e.drop 4) →
    exec (.feedOutSet o p obs) s = .next (s.gives (Mach.leaves x o 0x0603)) ∧ x.2.st ≤ 1)
  ∧ (∀ (s : State) o p obs w x, s.takes o → listFits p 32 8 500 → onceEach p 32 8 (fun e => fld e 0 2) → s.m.timingChk 14 p = none →
    w = (fun e => (if bitOf (fld e 2 1) 0 then slice e 4 4 else (s.m.baseRec (s.m.effOf p) K.OUTSET (fld e 0 2)).take 4)
      ++ toLE 2 (if bitOf (fld e 2 1) 1 then putBits (fld (s.m.baseRec (s.m.effOf p) K.OUTSET (fld e 0 2)) 4 2) 0 1 (fld e 3 1)
        else fld (s.m.baseRec (s.m.effOf p) K.OUTSET (fld e 0 2)) 4 2)
      ++ (s.m.baseRec (s.m.effOf p) K.OUTSET (fld e 0 2)).drop 6) →
    (∀ e ∈ entriesOf p 32 8, fld e.2 0 2 < s.m.variant.feeds ∧ 1 ≤ fld e.2 2 1 ∧ fld e.2 2 1 ≤ 3 ∧ fld e.2 3 1 ≤ 1 ∧
      s.m.recBad K.OUTSET (w e.2) = none) →
    s.m.timeRoom p (countOf p 32) → x = s.m.feedPut o 0x0604 p 8 K.OUTSET w →
    exec (.feedGainSet o p obs) s = .next (s.gives (Mach.leaves x o 0x0604)) ∧ x.2.st ≤ 1)
  ∧ (∀ (s : State) o p obs w x, s.takes o → listFits p 32 8 500 → onceEach p 32 8 (fun e => fld e 0 2) → s.m.timingChk 14 p = none →
    s.m.modeAt 7 (s.m.effOf p) = true →
    w = (fun e => (s.m.baseRec (s.m.effOf p) K.OUTSET (fld e 0 2)).take 4
      ++ toLE 2 (putBits (fld (s.m.baseRec (s.m.effOf p) K.OUTSET (fld e 0 2)) 4 2) 1 1 (fld e 2 1))
      ++ slice (s.m.baseRec (s.m.effOf p) K.OUTSET (fld e 0 2)) 6 1 ++ slice e 3 1 ++ slice e 4 4
      ++ (s.m.baseRec (s.m.effOf p) K.OUTSET (fld e 0 2)).drop 12) →
    (∀ e ∈ entriesOf p 32 8, fld e.2 0 2 < s.m.variant.feeds ∧ fld e.2 2 1 ≤ 1 ∧ s.m.recBad K.OUTSET (w e.2) = none) →
    s.m.timeRoom p (countOf p 32) → x = s.m.feedPut o 0x0605 p 8 K.OUTSET w →
    exec (.feedLimitSet o p obs) s = .next (s.gives (Mach.leaves x o 0x0605)) ∧ x.2.st ≤ 1)
  ∧ (∀ (s : State) o p obs x, s.takes o → listFits p 32 12 300 → onceEach p 32 12 (fun e => fld e 0 2) → s.m.timingChk 14 p = none →
    (∀ e ∈ entriesOf p 32 12, fld e.2 0 2 < s.m.variant.feeds ∧ allZero (slice e.2 2 2) = true ∧ s.m.recBad K.RATING (e.2.drop 4) = none) →
    s.m.timeRoom p (countOf p 32) → x = s.m.feedPut o 0x0606 p 12 K.RATING (fun e => e.drop 4) →
    exec (.feedRatingSet o p obs) s = .next (s.gives (Mach.leaves x o 0x0606)) ∧ x.2.st ≤ 1)
  ∧ (∀ (s : State) o p obs, s.takes o → lenOf p = 24 → pf p 16 2 < s.m.variant.feeds → pf p 18 1 ≤ 2 → pf p 18 1 ≠ 1 → pf p 19 1 ≤ 3 →
    exec (.feedGet o p obs) s = .next (s.gives (s.m.replies o 0x0607
      (s.m.recWhich (if pf p 18 1 = 0 then K.EQ else K.RATING) (pf p 16 2) (pf p 19 1)
        ++ s.m.recTail (if pf p 18 1 = 0 then K.EQ else K.RATING) (pf p 16 2)))))
  ∧ (∀ (s : State) o p obs, s.takes o → lenOf p = 24 → pf p 16 2 < s.m.variant.feeds → pf p 18 1 = 1 → pf p 19 1 ≤ 3 →
    exec (.feedGet o p obs) s = .next (s.gives (s.m.replies o 0x0607
      ((if pf p 19 1 = 0 then s.m.outInForce (pf p 16 2) (s.m.recWhich K.OUTSET (pf p 16 2) 0)
        else s.m.recWhich K.OUTSET (pf p 16 2) (pf p 19 1)) ++ s.m.recTail K.OUTSET (pf p 16 2)))))
  ∧ (∀ (s : State) o p obs, s.takes o → lenOf p = 24 → 1 ≤ pf p 18 2 → pf p 18 2 ≤ 128 → pf p 16 2 + pf p 18 2 ≤ s.m.variant.feeds →
    ∃ (l : List Byte) (m : Mach), exec (.feedStatus o p obs) s = .next (s.gives (m.replies o 0x0608 l)) ∧ l.length = 24 * pf p 18 2 ∧
      m.mem = s.m.mem ∧ m.rend = s.m.rend)

/-- CORR_ opcodes. A good image is loaded into its slot or slots and answered with its sizes; swaps are requested; fade settings,
status, the region and a reset slot act as stated. Each clause gives the whole next state of the accepted form, on every state
that takes commands and every packet whose fields meet the stated checks. Rules: R327 to R333. -/
def Obligations.CorrectionOpcodes : Prop :=
  (∀ (s : State) o p obs, s.takes o → lenOf p = 40 → pf p 16 2 < s.m.variant.feeds → pf p 18 1 ≤ 1 → pf p 19 1 = 0 →
    (∀ e ∈ s.m.cmd.loads, e.1 ≠ o.id) → s.m.bufChk p 20 = none → pf p 28 4 ≤ 66616 → s.m.corrOn = true → s.m.slotBusy (pf p 16 2) (pf p 18 1) = none →
    s.m.bufErr (bufOf p 20) false (obsOn obs 0) = false → bankBad (s.m.bufRead (bufOf p 20)) = none →
    exec (.corrLoad o p obs) s = .next (s.gives (((s.m.bufTouch (bufOf p 20)).putBank (pf p 16 2) (pf p 18 1) (s.m.bufRead (bufOf p 20))).replies o 0x0701
      (bankReply (s.m.bufRead (bufOf p 20))))))
  ∧ (∀ (s : State) o p obs fs, s.takes o → lenOf p = 104 → pf p 16 1 ≤ 1 → pf p 17 3 = 0 →
    fs = (upto 512).filter (fun f => bitOf (pf p (20 + f / 8) 1) (f % 8)) → fs ≠ [] →
    (∀ f ∈ fs, f < s.m.variant.feeds ∧ s.m.slotBusy f (pf p 16 1) = none) →
    (∀ e ∈ s.m.cmd.loads, e.1 ≠ o.id) → s.m.bufChk p 84 = none → pf p 92 4 ≤ 66616 → s.m.corrOn = true →
    s.m.bufErr (bufOf p 84) false (obsOn obs 0) = false → bankBad (s.m.bufRead (bufOf p 84)) = none →
    exec (.corrLoadMulti o p obs) s = .next (s.gives (((s.m.bufTouch (bufOf p 84)).each fs (fun t f =>
      t.putBank f (pf p 16 1) (s.m.bufRead (bufOf p 84)))).replies o 0x0702
        (bankReply (s.m.bufRead (bufOf p 84)) ++ toLE 2 fs.length))))
  ∧ (∀ (s : State) o p obs t, s.takes o → listFits p 32 4 512 → onceEach p 32 4 (fun e => fld e 0 4 % 512) → s.m.timingChk 14 p = none →
    (∀ e ∈ entriesOf p 32 4, fld e.2 0 4 % 512 < s.m.variant.feeds ∧
      fld e.2 0 4 = fld e.2 0 4 % 512 + 65536 * bits (fld e.2 0 4) 16 1) → s.m.effOf p = .scene →
    t = s.m.each (entriesOf p 32 4) (fun t e => t.putStage K.BANKSEL (fld e.2 0 4 % 512) (toLE 1 (bits (fld e.2 0 4) 16 1))) →
    exec (.corrSwap o p obs) s = .next (s.gives (t.releaseRes o 0x0703 Res.accepted)))
  ∧ (∀ (s : State) o p obs puts x, s.takes o → listFits p 32 4 512 → onceEach p 32 4 (fun e => fld e 0 4 % 512) →
    s.m.timingChk 14 p = none →
    (∀ e ∈ entriesOf p 32 4, fld e.2 0 4 % 512 < s.m.variant.feeds ∧
      fld e.2 0 4 = fld e.2 0 4 % 512 + 65536 * bits (fld e.2 0 4) 16 1 ∧
      ((s.m.feed (fld e.2 0 4 % 512)).bank (bits (fld e.2 0 4) 16 1)).state ≠ 0 ∧
      ((s.m.feed (fld e.2 0 4 % 512)).bank (bits (fld e.2 0 4) 16 1)).state ≠ 1) →
    s.m.timeRoom p (countOf p 32) →
    puts = (entriesOf p 32 4).map (fun e => (⟨rkey K.SWAP (fld e.2 0 4 % 512), toLE 1 (bits (fld e.2 0 4) 16 1)⟩ : Put)) →
    ((∃ late, s.m.effOf p = .next late ∧ x = s.m.latchPuts o 0x0703 late puts) ∨
      (∃ t, s.m.effOf p = .time t ∧ x = s.m.timePuts o 0x0703 t false puts)) →
    exec (.corrSwap o p obs) s = .next (s.gives (Mach.leaves x o 0x0703)) ∧ x.2.st ≤ 1)
  ∧ (∀ (s : State) o p obs, s.takes o → listFits p 16 4 500 → onceEach p 16 4 (fun e => fld e 0 2) →
    (∀ e ∈ entriesOf p 16 4, fld e.2 0 2 < s.m.variant.feeds ∧ 8 ≤ fld e.2 2 1 ∧ fld e.2 2 1 ≤ 14 ∧ fld e.2 3 1 ≤ 1) →
    ∃ m : Mach, exec (.corrXfcfg o p obs) s = .next (s.gives (m.replies o 0x0704 [])) ∧ s.m.registersOnly m ∧
      ∀ e ∈ entriesOf p 16 4, m.gf F.FEED_XFCFG_LENLOG (fld e.2 0 2) = fld e.2 2 1 ∧ m.gf F.FEED_XFCFG_CURVE (fld e.2 0 2) = fld e.2 3 1)
  ∧ (∀ (s : State) o p obs, s.takes o → lenOf p = 24 → pf p 16 2 < s.m.variant.feeds → pf p 18 2 = 0 →
    ∃ l : List Byte, exec (.corrStatus o p obs) s = .next (s.gives (s.m.replies o 0x0705 l)) ∧ l.length = 36 ∧
      l.take 8 = toLE 4 (s.m.bankStat (pf p 16 2)) ++ toLE 4 (s.m.xfPos (pf p 16 2)) ∧
      slice l 8 16 = toLE 8 (s.m.feed (pf p 16 2)).a.id ++ toLE 8 (s.m.feed (pf p 16 2)).b.id)
  ∧ (∀ (s : State) o p obs, s.takes o → lenOf p = 32 → pf p 16 8 % 0x100000 = 0 → pf p 16 8 < 2 ^ 40 → pf p 24 4 = 1 →
    s.m.regionOk 1 (pf p 16 8) corrSize = true → s.m.corrOn = false →
    exec (.corrRegion o p obs) s = .next (s.gives ((s.m.corrRegion (pf p 16 8) true).replies o 0x0706 [])))
  ∧ (∀ (s : State) o p obs, s.takes o → lenOf p = 32 → pf p 16 8 % 0x100000 = 0 → pf p 16 8 < 2 ^ 40 → pf p 24 4 = 0 →
    (s.m.corrOn = true → pf p 16 8 = s.m.corrBase ∧ s.m.corrFree = true) →
    exec (.corrRegion o p obs) s = .next (s.gives ((s.m.corrRegion (pf p 16 8) false).replies o 0x0706 [])))
  ∧ (∀ (s : State) o p obs, s.takes o → listFits p 16 4 500 → onceEach p 16 4 (fun e => fld e 0 2 * 256 + fld e 2 1) →
    (∀ e ∈ entriesOf p 16 4, fld e.2 0 2 < s.m.variant.feeds ∧ fld e.2 2 1 ≤ 1 ∧ fld e.2 3 1 ≤ 1 ∧
      s.m.slotBusy (fld e.2 0 2) (fld e.2 2 1) = none) →
    exec (.corrResetSlot o p obs) s = .next (s.gives ((s.m.each (entriesOf p 16 4) (fun t e => t.onFeed (fld e.2 0 2) (fun d =>
      d.setBank (fld e.2 2 1) (if fld e.2 3 1 = 0 then Bank.empty else Bank.ident)))).replies o 0x0707 [])))

/-- SCN_ opcodes. A commit latches; a load stages every record of a good image; a discard clears the marks; a read makes an image;
the store is written, recalled, listed and erased. The layout of the store is the model's (log entry 79). Each clause gives the
whole next state of the accepted form, on every state that takes commands and every packet whose fields meet the stated checks.
Rules: R299 to R307; log 79. -/
def Obligations.SceneOpcodes : Prop :=
  (∀ (s : State) o p obs x, s.takes o → lenOf p = 36 → s.m.timingChk 10 p = none → s.m.timeRoom p 1 →
    ((∃ late, s.m.effOf p = .next late ∧ x = s.m.latchPuts o 0x0201 late [⟨rkey K.COMMIT 0, []⟩]) ∨
      (∃ t, s.m.effOf p = .time t ∧ x = s.m.timePuts o 0x0201 t false [⟨rkey K.COMMIT 0, []⟩])) →
    exec (.scnCommit o p obs) s = .next (s.gives (Mach.leaves x o 0x0201)) ∧ x.2.st ≤ 1)
  ∧ (∀ (s : State) o p obs t img, s.takes o → lenOf p = 36 → s.m.bufChk p 16 = none → pf p 24 4 ≤ maxImage →
    s.m.bufErr (bufOf p 16) false (obsOn obs 0) = false → t = s.m.bufTouch (bufOf p 16) → img = s.m.bufRead (bufOf p 16) →
    fld img 8 4 = pf p 24 4 → t.imageChk true img = none →
    exec (.scnLoad o p obs) s = .next (s.gives ((t.stageImage img).replies o 0x0202 [])))
  ∧ (∀ (s : State) o p obs, s.takes o → lenOf p = 20 →
    ∃ m : Mach, exec (.scnDiscard o p obs) s = .next (s.gives (m.replies o 0x0203
        (toLE 4 (s.m.rend.recs.filter (fun e => e.2.dirty)).length))) ∧
      (∀ e ∈ m.rend.recs, e.2.dirty = false) ∧ (∀ k i, (m.recd k i).stage = (s.m.recd k i).stage) ∧ m.mem = s.m.mem ∧ m.regs = s.m.regs)
  ∧ (∀ (s : State) o p obs b w, s.takes o → lenOf p = 40 → pf p 16 1 = b2n b → pf p 17 1 = 0 → pf p 18 2 < 2048 → s.m.bufChk p 20 = none →
    imageSize (pf p 18 2) ≤ pf p 28 4 → s.m.bufErr (bufOf p 20) true (obsOn obs 0) = false →
    s.m.store (pf p 20 8) (s.m.makeImage (!b) (pf p 18 2)) = (0, w) →
    exec (.scnRead o p obs) s = .next (s.gives (w.replies o 0x0204
      (toLE 4 (s.m.makeImage (!b) (pf p 18 2)).length))))
  ∧ (∀ (s : State) o p obs t img, s.takes o → lenOf p = 40 → pf p 16 1 ≤ 7 → pf p 17 3 = 0 → s.m.bufChk p 20 = none →
    s.m.bufErr (bufOf p 20) false (obsOn obs 0) = false → obsOn obs 1 = false → t = s.m.bufTouch (bufOf p 20) →
    img = s.m.bufRead (bufOf p 20) → t.imageChk false img = none → fld img 4 2 = 0x7FF → pf p 28 4 = maxImage →
    ∃ m : Mach, exec (.scnStoreWrite o p obs) s = .next (s.gives (m.replies o 0x0205 (toLE 4 (s.m.frameWrites s.m.freeFrame + 1)))) ∧
      m = { t with mem := m.mem } ∧ m.slotImage (pf p 16 1) = some img)
  ∧ (∀ (s : State) o p obs img, s.takes o → lenOf p = 24 → pf p 16 1 ≤ 7 → pf p 17 3 = 0 → s.m.slotImage (pf p 16 1) = some img →
    crcBad img = false → s.m.imageChk true img = none →
    exec (.scnStoreRecall o p obs) s = .next (s.gives ((s.m.stageImage img).replies o 0x0206 [])))
  ∧ (∀ (s : State) o p obs, s.takes o → lenOf p = 20 →
    ∃ l : List Byte, exec (.scnStoreInfo o p obs) s = .next (s.gives (s.m.replies o 0x0207 l)) ∧ l.length = 128)
  ∧ (∀ (s : State) o p obs, s.takes o → lenOf p = 24 → pf p 16 1 ≤ 7 → pf p 17 3 = 0 →
    ∃ m : Mach, exec (.scnStoreErase o p obs) s = .next (s.gives (m.replies o 0x0208 [])) ∧ m.slotImage (pf p 16 1) = none ∧
      ∀ k, k < 8 → k ≠ pf p 16 1 → m.slotFrame k = s.m.slotFrame k)
  ∧ (∀ (s : State) o p obs, s.takes o → lenOf p = 20 →
    ∃ l : List Byte, exec (.scnStatus o p obs) s = .next (s.gives (s.m.replies o 0x0209 l)) ∧ l.length = 32 ∧
      fld l 24 8 = (s.m.rend.commitTick.getD noTick) % 2 ^ 64)

/-- OBJ_ and GEO_ opcodes. Parameter sets, gains, speaker tables, atmosphere and geometry records are staged or latched, keyframes
queued and flushed, the bulk region set, and objects and paths reported. Each clause gives the whole next state of the accepted
form, on every state that takes commands and every packet whose fields meet the stated checks. Rules: R308 to R319. -/
def Obligations.ObjectAndGeometryOpcodes : Prop :=
  (∀ (s : State) o p obs x, s.takes o → listFits p 32 100 40 → onceEach p 32 100 (fun e => fld e 0 2) → s.m.timingChk 14 p = none →
    (∀ e ∈ entriesOf p 32 100, s.m.chanOk (fld e.2 0 2) = true ∧ allZero (slice e.2 2 2) = true ∧ s.m.recBad K.CHAN (e.2.drop 4) = none) →
    s.m.timeRoom p (countOf p 32) →
    x = s.m.putRecords o 0x0301 (s.m.effOf p) true ((entriesOf p 32 100).map (fun e => (K.CHAN, fld e.2 0 2, e.2.drop 4))) →
    exec (.objSetParams o p obs) s = .next (s.gives (Mach.leaves x o 0x0301)) ∧ x.2.st ≤ 1)
  ∧ (∀ (s : State) o p obs w x, s.takes o → listFits p 32 8 500 → onceEach p 32 8 (fun e => fld e 0 2) → s.m.timingChk 14 p = none →
    w = (fun e => (s.m.baseRec (s.m.effOf p) K.CHAN (fld e 0 2)).take 80 ++ slice e 4 4
      ++ (s.m.baseRec (s.m.effOf p) K.CHAN (fld e 0 2)).drop 84) →
    (∀ e ∈ entriesOf p 32 8, s.m.chanOk (fld e.2 0 2) = true ∧ allZero (slice e.2 2 2) = true ∧ s.m.recBad K.CHAN (w e.2) = none) →
    s.m.timeRoom p (countOf p 32) →
    x = s.m.putRecords o 0x0302 (s.m.effOf p) true ((entriesOf p 32 8).map (fun e => (K.CHAN, fld e.2 0 2, w e.2))) →
    exec (.objSetGain o p obs) s = .next (s.gives (Mach.leaves x o 0x0302)) ∧ x.2.st ≤ 1)
  ∧ (∀ (s : State) o p obs, s.takes o → lenOf p = 24 → s.m.chanOk (pf p 16 2) = true → pf p 18 1 ≤ 3 → pf p 19 1 = 0 →
    exec (.objGetParams o p obs) s = .next (s.gives (s.m.replies o 0x0303
      (s.m.recWhich K.CHAN (pf p 16 2) (pf p 18 1) ++ s.m.recTail K.CHAN (pf p 16 2)))))
  ∧ (∀ (s : State) o p obs, s.takes o → lenOf p = 24 → 1 ≤ pf p 18 2 → pf p 18 2 ≤ 128 → s.m.chansOk (pf p 16 2) (pf p 18 2) = true →
    ∃ l : List Byte, exec (.objStatus o p obs) s = .next (s.gives (s.m.replies o 0x0304 l)) ∧ l.length = 16 * pf p 18 2)
  ∧ (∀ (s : State) o p obs l, s.takes o → lenOf p = 36 → s.m.bufChk p 16 = none → s.m.bufErr (bufOf p 16) false (obsOn obs 0) = false →
    l = s.m.bufRead (bufOf p 16) → 32 ≤ pf p 24 4 → pf p 24 4 = tabLen l → tabBad 512 l = none → fld l 4 2 ≤ s.m.variant.feeds →
    exec (.geoSpkLoad o p obs) s = .next (s.gives (((s.m.bufTouch (bufOf p 16)).putStage K.SPKTAB 0 l).releaseRes o 0x0401 Res.accepted)))
  ∧ (∀ (s : State) o p obs, s.takes o → lenOf p = 36 → s.m.recBad K.ATMOS (p.take 16) = none →
    exec (.geoAtmosSet o p obs) s = .next (s.gives ((s.m.putStage K.ATMOS 0 (p.take 16)).releaseRes o 0x0402 Res.accepted)))
  ∧ (∀ (s : State) o p obs x, s.takes o → listFits p 32 36 100 → onceEach p 32 36 (fun e => fld e 0 2) → s.m.timingChk 14 p = none →
    (∀ e ∈ entriesOf p 32 36, fld e.2 0 2 < s.m.variant.objects ∧ allZero (slice e.2 2 2) = true ∧
      s.m.recBad K.GEOREC (e.2.drop 4) = none) → s.m.timeRoom p (countOf p 32) →
    x = s.m.putRecords o 0x0403 (s.m.effOf p) true ((entriesOf p 32 36).map (fun e => (K.GEOREC, fld e.2 0 2, e.2.drop 4))) →
    exec (.geoObjSet o p obs) s = .next (s.gives (Mach.leaves x o 0x0403)) ∧ x.2.st ≤ 1)
  ∧ (∀ (s : State) o p obs q, s.takes o → listFits p 16 36 112 → s.m.gridFree = false →
    (∀ e ∈ entriesOf p 16 36, fld e.2 0 2 < s.m.variant.objects ∧ allZero (slice e.2 2 2) = true ∧ fld e.2 4 4 < 1000000000 ∧
      fld e.2 14 2 ≤ 7 ∧ allZero (slice e.2 34 2) = true) →
    keysFit (fun o => (s.m.obj o).queue) 0 [] ((entriesOf p 16 36).map (fun e => (fld e.2 0 2, keyOf (e.2.drop 4)))) = .inr q →
    exec (.geoKey o p obs) s = .next (s.gives ((s.m.each q (fun t e => t.onObj e.1 (fun g => { g with queue := e.2 }))).replies o 0x0404 [])))
  ∧ (∀ (s : State) o p obs, s.takes o → listFits p 16 4 500 → onceEach p 16 4 (fun e => fld e 0 2) →
    (∀ e ∈ entriesOf p 16 4, fld e.2 0 2 < s.m.variant.objects ∧ allZero (slice e.2 2 2) = true) →
    ∃ m : Mach, exec (.geoKeyFlush o p obs) s = .next (s.gives (m.replies o 0x0405 [])) ∧
      (∀ e ∈ entriesOf p 16 4, (m.obj (fld e.2 0 2)).queue = [] ∧ (m.obj (fld e.2 0 2)).traj.seg = none) ∧
      ∀ k, (∀ e ∈ entriesOf p 16 4, fld e.2 0 2 ≠ k) → m.obj k = s.m.obj k)
  ∧ (∀ (s : State) o p obs, s.takes o → lenOf p = 24 → pf p 16 2 < s.m.variant.objects → pf p 18 2 = 0 →
    ∃ l : List Byte, exec (.geoGetObj o p obs) s = .next (s.gives (s.m.replies o 0x0406 (s.m.liveRec K.GEOREC (pf p 16 2) ++ l))))
  ∧ (∀ (s : State) o p obs, s.takes o → lenOf p = 24 → pf p 16 2 < s.m.variant.objects → pf p 18 2 = 0 →
    ∃ l : List Byte, exec (.geoGetPaths o p obs) s = .next (s.gives (s.m.replies o 0x0407
      (toLE 2 (s.m.pathsOf (pf p 16 2)).length ++ [0, 0] ++ toLE 8 s.m.tm.tick ++ l))) ∧ l.length = 16 * (s.m.pathsOf (pf p 16 2)).length)
  ∧ (∀ (s : State) o p obs, s.takes o → lenOf p = 32 → pf p 16 8 % 0x100000 = 0 → pf p 16 8 < 2 ^ 40 → pf p 24 4 = 1 →
    s.m.regionOk 0 (pf p 16 8) bulkSize = true → s.m.bulkOn = false →
    exec (.geoBulkRegion o p obs) s = .next (s.gives ((s.m.bulkRegion (pf p 16 8) true).replies o 0x0408 [])))
  ∧ (∀ (s : State) o p obs, s.takes o → lenOf p = 32 → pf p 16 8 % 0x100000 = 0 → pf p 16 8 < 2 ^ 40 → pf p 24 4 = 0 →
    (s.m.bulkOn = true → pf p 16 8 = s.m.bulkBase ∧ s.m.bulkFree = true) →
    exec (.geoBulkRegion o p obs) s = .next (s.gives ((s.m.bulkRegion (pf p 16 8) false).replies o 0x0408 [])))

/-- PATH_ opcodes. An update or a buffer of updates is queued for its object, modes latch, and the status of a host object is
answered. Each clause gives the whole next state of the accepted form, on every state that takes commands and every packet whose
fields meet the stated checks. Rules: R320 to R323. -/
def Obligations.HostPathOpcodes : Prop :=
  (∀ (s : State) o p obs q, s.takes o → lenOf p = 36 + 16 * pf p 18 2 → s.m.modeAt 0 .imm = true → s.m.updBad p = none →
    updsFit s.m 0 [] [(fld p 0 2, updOf p)] = .inr q →
    exec (.pathUpdate o p obs) s = .next (s.gives ((s.m.putUpdates q).replies o 0x0501 [])))
  ∧ (∀ (s : State) o p obs t l offs q, s.takes o → lenOf p = 36 → s.m.modeAt 0 .imm = true → s.m.bufChk p 16 = none → pf p 24 4 ≤ 0x400000 →
    s.m.bufErr (bufOf p 16) false (obsOn obs 0) = false → t = s.m.bufTouch (bufOf p 16) → l = s.m.bufRead (bufOf p 16) →
    walkUpds l (l.length / 16 + 2) 0 0 [] = .inr offs → (∀ a ∈ offs, t.updBad (l.drop a) = none) →
    updsFit t 0 [] (offs.map (fun a => (fld l a 2, updOf (l.drop a)))) = .inr q →
    exec (.pathUpdateBuf o p obs) s = .next (s.gives ((t.putUpdates q).replies o 0x0502 [])))
  ∧ (∀ (s : State) o p obs puts x, s.takes o → listFits p 32 4 500 → onceEach p 32 4 (fun e => fld e 0 2) →
    s.m.modeAt 0 (s.m.effOf p) = true → s.m.timingChk 10 p = none →
    (∀ e ∈ entriesOf p 32 4, fld e.2 0 2 < s.m.variant.objects ∧ fld e.2 2 2 < 2 ^ 14 ∧ 1 ≤ fld e.2 2 2 / 2 ∧ fld e.2 2 2 / 2 ≤ 6000) →
    s.m.timeRoom p (countOf p 32) →
    puts = (entriesOf p 32 4).map (fun e => (⟨rkey K.HPMODE (fld e.2 0 2), e.2⟩ : Put)) →
    ((∃ late, s.m.effOf p = .next late ∧ x = s.m.latchPuts o 0x0503 late puts) ∨
      (∃ t, s.m.effOf p = .time t ∧ x = s.m.timePuts o 0x0503 t true puts)) →
    exec (.pathMode o p obs) s = .next (s.gives (Mach.leaves x o 0x0503)) ∧ x.2.st ≤ 1)
  ∧ (∀ (s : State) o p obs, s.takes o → lenOf p = 24 → pf p 16 2 < s.m.variant.objects → pf p 18 2 = 0 →
    ∃ l : List Byte, exec (.pathStatus o p obs) s = .next (s.gives (s.m.replies o 0x0504 (toLE 4 (s.m.hpObjstat (pf p 16 2)) ++ l))) ∧
      l.length = 32)
end

