-- ==== Sys2Proof/Laws/State.lean ====
section
/-! SUPPORT. What each update of the state leaves alone, one lemma per field and update, and what it changes. -/
namespace Sys2Proof.Machine

/-! ### wr -/

section
variable (s : Mach) (r : Reg) (v i j : Nat)
@[simp] theorem Mach.wr_variant : (s.wr r v i j).variant = s.variant := rfl
@[simp] theorem Mach.wr_live : (s.wr r v i j).live = s.live := rfl
@[simp] theorem Mach.wr_hold : (s.wr r v i j).hold = s.hold := rfl
@[simp] theorem Mach.wr_mem : (s.wr r v i j).mem = s.mem := rfl
@[simp] theorem Mach.wr_free : (s.wr r v i j).free = s.free := rfl
@[simp] theorem Mach.wr_err : (s.wr r v i j).err = s.err := rfl
@[simp] theorem Mach.wr_tm : (s.wr r v i j).tm = s.tm := rfl
@[simp] theorem Mach.wr_pll : (s.wr r v i j).pll = s.pll := rfl
@[simp] theorem Mach.wr_bus : (s.wr r v i j).bus = s.bus := rfl
@[simp] theorem Mach.wr_dma : (s.wr r v i j).dma = s.dma := rfl
@[simp] theorem Mach.wr_ddr : (s.wr r v i j).ddr = s.ddr := rfl
@[simp] theorem Mach.wr_sys : (s.wr r v i j).sys = s.sys := rfl
@[simp] theorem Mach.wr_asp : (s.wr r v i j).asp = s.asp := rfl
@[simp] theorem Mach.wr_cmd : (s.wr r v i j).cmd = s.cmd := rfl
@[simp] theorem Mach.wr_sch : (s.wr r v i j).sch = s.sch := rfl
@[simp] theorem Mach.wr_net0 : (s.wr r v i j).net0 = s.net0 := rfl
@[simp] theorem Mach.wr_net1 : (s.wr r v i j).net1 = s.net1 := rfl
@[simp] theorem Mach.wr_sin : (s.wr r v i j).sin = s.sin := rfl
@[simp] theorem Mach.wr_sout : (s.wr r v i j).sout = s.sout := rfl
@[simp] theorem Mach.wr_disc : (s.wr r v i j).disc = s.disc := rfl
@[simp] theorem Mach.wr_rend : (s.wr r v i j).rend = s.rend := rfl
@[simp] theorem Mach.wr_irqN : (s.wr r v i j).irqN = s.irqN := rfl
@[simp] theorem Mach.wr_regs : (s.wr r v i j).regs = mput s.regs (r.at_ i j) (BitVec.ofNat 32 v) := rfl
end

/-! ### setLv -/

section
variable (s : Mach) (r : Reg) (v i j : Nat)
@[simp] theorem Mach.setLv_variant : (s.setLv r v i j).variant = s.variant := rfl
@[simp] theorem Mach.setLv_regs : (s.setLv r v i j).regs = s.regs := rfl
@[simp] theorem Mach.setLv_hold : (s.setLv r v i j).hold = s.hold := rfl
@[simp] theorem Mach.setLv_mem : (s.setLv r v i j).mem = s.mem := rfl
@[simp] theorem Mach.setLv_free : (s.setLv r v i j).free = s.free := rfl
@[simp] theorem Mach.setLv_err : (s.setLv r v i j).err = s.err := rfl
@[simp] theorem Mach.setLv_tm : (s.setLv r v i j).tm = s.tm := rfl
@[simp] theorem Mach.setLv_pll : (s.setLv r v i j).pll = s.pll := rfl
@[simp] theorem Mach.setLv_bus : (s.setLv r v i j).bus = s.bus := rfl
@[simp] theorem Mach.setLv_dma : (s.setLv r v i j).dma = s.dma := rfl
@[simp] theorem Mach.setLv_ddr : (s.setLv r v i j).ddr = s.ddr := rfl
@[simp] theorem Mach.setLv_sys : (s.setLv r v i j).sys = s.sys := rfl
@[simp] theorem Mach.setLv_asp : (s.setLv r v i j).asp = s.asp := rfl
@[simp] theorem Mach.setLv_cmd : (s.setLv r v i j).cmd = s.cmd := rfl
@[simp] theorem Mach.setLv_sch : (s.setLv r v i j).sch = s.sch := rfl
@[simp] theorem Mach.setLv_net0 : (s.setLv r v i j).net0 = s.net0 := rfl
@[simp] theorem Mach.setLv_net1 : (s.setLv r v i j).net1 = s.net1 := rfl
@[simp] theorem Mach.setLv_sin : (s.setLv r v i j).sin = s.sin := rfl
@[simp] theorem Mach.setLv_sout : (s.setLv r v i j).sout = s.sout := rfl
@[simp] theorem Mach.setLv_disc : (s.setLv r v i j).disc = s.disc := rfl
@[simp] theorem Mach.setLv_rend : (s.setLv r v i j).rend = s.rend := rfl
@[simp] theorem Mach.setLv_irqN : (s.setLv r v i j).irqN = s.irqN := rfl
@[simp] theorem Mach.setLv_live : (s.setLv r v i j).live = mput s.live (r.at_ i j) (BitVec.ofNat 32 v) := rfl
end

/-! ### sf -/

section
variable (s : Mach) (f : Fld) (v i j : Nat)
@[simp] theorem Mach.sf_variant : (s.sf f v i j).variant = s.variant := rfl
@[simp] theorem Mach.sf_live : (s.sf f v i j).live = s.live := rfl
@[simp] theorem Mach.sf_hold : (s.sf f v i j).hold = s.hold := rfl
@[simp] theorem Mach.sf_mem : (s.sf f v i j).mem = s.mem := rfl
@[simp] theorem Mach.sf_free : (s.sf f v i j).free = s.free := rfl
@[simp] theorem Mach.sf_err : (s.sf f v i j).err = s.err := rfl
@[simp] theorem Mach.sf_tm : (s.sf f v i j).tm = s.tm := rfl
@[simp] theorem Mach.sf_pll : (s.sf f v i j).pll = s.pll := rfl
@[simp] theorem Mach.sf_bus : (s.sf f v i j).bus = s.bus := rfl
@[simp] theorem Mach.sf_dma : (s.sf f v i j).dma = s.dma := rfl
@[simp] theorem Mach.sf_ddr : (s.sf f v i j).ddr = s.ddr := rfl
@[simp] theorem Mach.sf_sys : (s.sf f v i j).sys = s.sys := rfl
@[simp] theorem Mach.sf_asp : (s.sf f v i j).asp = s.asp := rfl
@[simp] theorem Mach.sf_cmd : (s.sf f v i j).cmd = s.cmd := rfl
@[simp] theorem Mach.sf_sch : (s.sf f v i j).sch = s.sch := rfl
@[simp] theorem Mach.sf_net0 : (s.sf f v i j).net0 = s.net0 := rfl
@[simp] theorem Mach.sf_net1 : (s.sf f v i j).net1 = s.net1 := rfl
@[simp] theorem Mach.sf_sin : (s.sf f v i j).sin = s.sin := rfl
@[simp] theorem Mach.sf_sout : (s.sf f v i j).sout = s.sout := rfl
@[simp] theorem Mach.sf_disc : (s.sf f v i j).disc = s.disc := rfl
@[simp] theorem Mach.sf_rend : (s.sf f v i j).rend = s.rend := rfl
@[simp] theorem Mach.sf_irqN : (s.sf f v i j).irqN = s.irqN := rfl
end

/-! ### orf -/

section
variable (s : Mach) (f : Fld) (v i j : Nat)
@[simp] theorem Mach.orf_variant : (s.orf f v i j).variant = s.variant := rfl
@[simp] theorem Mach.orf_live : (s.orf f v i j).live = s.live := rfl
@[simp] theorem Mach.orf_hold : (s.orf f v i j).hold = s.hold := rfl
@[simp] theorem Mach.orf_mem : (s.orf f v i j).mem = s.mem := rfl
@[simp] theorem Mach.orf_free : (s.orf f v i j).free = s.free := rfl
@[simp] theorem Mach.orf_err : (s.orf f v i j).err = s.err := rfl
@[simp] theorem Mach.orf_tm : (s.orf f v i j).tm = s.tm := rfl
@[simp] theorem Mach.orf_pll : (s.orf f v i j).pll = s.pll := rfl
@[simp] theorem Mach.orf_bus : (s.orf f v i j).bus = s.bus := rfl
@[simp] theorem Mach.orf_dma : (s.orf f v i j).dma = s.dma := rfl
@[simp] theorem Mach.orf_ddr : (s.orf f v i j).ddr = s.ddr := rfl
@[simp] theorem Mach.orf_sys : (s.orf f v i j).sys = s.sys := rfl
@[simp] theorem Mach.orf_asp : (s.orf f v i j).asp = s.asp := rfl
@[simp] theorem Mach.orf_cmd : (s.orf f v i j).cmd = s.cmd := rfl
@[simp] theorem Mach.orf_sch : (s.orf f v i j).sch = s.sch := rfl
@[simp] theorem Mach.orf_net0 : (s.orf f v i j).net0 = s.net0 := rfl
@[simp] theorem Mach.orf_net1 : (s.orf f v i j).net1 = s.net1 := rfl
@[simp] theorem Mach.orf_sin : (s.orf f v i j).sin = s.sin := rfl
@[simp] theorem Mach.orf_sout : (s.orf f v i j).sout = s.sout := rfl
@[simp] theorem Mach.orf_disc : (s.orf f v i j).disc = s.disc := rfl
@[simp] theorem Mach.orf_rend : (s.orf f v i j).rend = s.rend := rfl
@[simp] theorem Mach.orf_irqN : (s.orf f v i j).irqN = s.irqN := rfl
end

/-! ### evt -/

section
variable (s : Mach) (f : Fld) (i : Nat)
@[simp] theorem Mach.evt_variant : (s.evt f i).variant = s.variant := rfl
@[simp] theorem Mach.evt_live : (s.evt f i).live = s.live := rfl
@[simp] theorem Mach.evt_hold : (s.evt f i).hold = s.hold := rfl
@[simp] theorem Mach.evt_mem : (s.evt f i).mem = s.mem := rfl
@[simp] theorem Mach.evt_free : (s.evt f i).free = s.free := rfl
@[simp] theorem Mach.evt_err : (s.evt f i).err = s.err := rfl
@[simp] theorem Mach.evt_tm : (s.evt f i).tm = s.tm := rfl
@[simp] theorem Mach.evt_pll : (s.evt f i).pll = s.pll := rfl
@[simp] theorem Mach.evt_bus : (s.evt f i).bus = s.bus := rfl
@[simp] theorem Mach.evt_dma : (s.evt f i).dma = s.dma := rfl
@[simp] theorem Mach.evt_ddr : (s.evt f i).ddr = s.ddr := rfl
@[simp] theorem Mach.evt_sys : (s.evt f i).sys = s.sys := rfl
@[simp] theorem Mach.evt_asp : (s.evt f i).asp = s.asp := rfl
@[simp] theorem Mach.evt_cmd : (s.evt f i).cmd = s.cmd := rfl
@[simp] theorem Mach.evt_sch : (s.evt f i).sch = s.sch := rfl
@[simp] theorem Mach.evt_net0 : (s.evt f i).net0 = s.net0 := rfl
@[simp] theorem Mach.evt_net1 : (s.evt f i).net1 = s.net1 := rfl
@[simp] theorem Mach.evt_sin : (s.evt f i).sin = s.sin := rfl
@[simp] theorem Mach.evt_sout : (s.evt f i).sout = s.sout := rfl
@[simp] theorem Mach.evt_disc : (s.evt f i).disc = s.disc := rfl
@[simp] theorem Mach.evt_rend : (s.evt f i).rend = s.rend := rfl
@[simp] theorem Mach.evt_irqN : (s.evt f i).irqN = s.irqN := rfl
end

/-! ### setBit -/

section
variable (s : Mach) (r : Reg) (k i : Nat)
@[simp] theorem Mach.setBit_variant : (s.setBit r k i).variant = s.variant := rfl
@[simp] theorem Mach.setBit_live : (s.setBit r k i).live = s.live := rfl
@[simp] theorem Mach.setBit_hold : (s.setBit r k i).hold = s.hold := rfl
@[simp] theorem Mach.setBit_mem : (s.setBit r k i).mem = s.mem := rfl
@[simp] theorem Mach.setBit_free : (s.setBit r k i).free = s.free := rfl
@[simp] theorem Mach.setBit_err : (s.setBit r k i).err = s.err := rfl
@[simp] theorem Mach.setBit_tm : (s.setBit r k i).tm = s.tm := rfl
@[simp] theorem Mach.setBit_pll : (s.setBit r k i).pll = s.pll := rfl
@[simp] theorem Mach.setBit_bus : (s.setBit r k i).bus = s.bus := rfl
@[simp] theorem Mach.setBit_dma : (s.setBit r k i).dma = s.dma := rfl
@[simp] theorem Mach.setBit_ddr : (s.setBit r k i).ddr = s.ddr := rfl
@[simp] theorem Mach.setBit_sys : (s.setBit r k i).sys = s.sys := rfl
@[simp] theorem Mach.setBit_asp : (s.setBit r k i).asp = s.asp := rfl
@[simp] theorem Mach.setBit_cmd : (s.setBit r k i).cmd = s.cmd := rfl
@[simp] theorem Mach.setBit_sch : (s.setBit r k i).sch = s.sch := rfl
@[simp] theorem Mach.setBit_net0 : (s.setBit r k i).net0 = s.net0 := rfl
@[simp] theorem Mach.setBit_net1 : (s.setBit r k i).net1 = s.net1 := rfl
@[simp] theorem Mach.setBit_sin : (s.setBit r k i).sin = s.sin := rfl
@[simp] theorem Mach.setBit_sout : (s.setBit r k i).sout = s.sout := rfl
@[simp] theorem Mach.setBit_disc : (s.setBit r k i).disc = s.disc := rfl
@[simp] theorem Mach.setBit_rend : (s.setBit r k i).rend = s.rend := rfl
@[simp] theorem Mach.setBit_irqN : (s.setBit r k i).irqN = s.irqN := rfl
end

/-! ### clrBit -/

section
variable (s : Mach) (r : Reg) (k i : Nat)
@[simp] theorem Mach.clrBit_variant : (s.clrBit r k i).variant = s.variant := rfl
@[simp] theorem Mach.clrBit_live : (s.clrBit r k i).live = s.live := rfl
@[simp] theorem Mach.clrBit_hold : (s.clrBit r k i).hold = s.hold := rfl
@[simp] theorem Mach.clrBit_mem : (s.clrBit r k i).mem = s.mem := rfl
@[simp] theorem Mach.clrBit_free : (s.clrBit r k i).free = s.free := rfl
@[simp] theorem Mach.clrBit_err : (s.clrBit r k i).err = s.err := rfl
@[simp] theorem Mach.clrBit_tm : (s.clrBit r k i).tm = s.tm := rfl
@[simp] theorem Mach.clrBit_pll : (s.clrBit r k i).pll = s.pll := rfl
@[simp] theorem Mach.clrBit_bus : (s.clrBit r k i).bus = s.bus := rfl
@[simp] theorem Mach.clrBit_dma : (s.clrBit r k i).dma = s.dma := rfl
@[simp] theorem Mach.clrBit_ddr : (s.clrBit r k i).ddr = s.ddr := rfl
@[simp] theorem Mach.clrBit_sys : (s.clrBit r k i).sys = s.sys := rfl
@[simp] theorem Mach.clrBit_asp : (s.clrBit r k i).asp = s.asp := rfl
@[simp] theorem Mach.clrBit_cmd : (s.clrBit r k i).cmd = s.cmd := rfl
@[simp] theorem Mach.clrBit_sch : (s.clrBit r k i).sch = s.sch := rfl
@[simp] theorem Mach.clrBit_net0 : (s.clrBit r k i).net0 = s.net0 := rfl
@[simp] theorem Mach.clrBit_net1 : (s.clrBit r k i).net1 = s.net1 := rfl
@[simp] theorem Mach.clrBit_sin : (s.clrBit r k i).sin = s.sin := rfl
@[simp] theorem Mach.clrBit_sout : (s.clrBit r k i).sout = s.sout := rfl
@[simp] theorem Mach.clrBit_disc : (s.clrBit r k i).disc = s.disc := rfl
@[simp] theorem Mach.clrBit_rend : (s.clrBit r k i).rend = s.rend := rfl
@[simp] theorem Mach.clrBit_irqN : (s.clrBit r k i).irqN = s.irqN := rfl
end

/-! ### bump -/

section
variable (s : Mach) (r : Reg) (i n : Nat)
@[simp] theorem Mach.bump_variant : (s.bump r i n).variant = s.variant := rfl
@[simp] theorem Mach.bump_live : (s.bump r i n).live = s.live := rfl
@[simp] theorem Mach.bump_hold : (s.bump r i n).hold = s.hold := rfl
@[simp] theorem Mach.bump_mem : (s.bump r i n).mem = s.mem := rfl
@[simp] theorem Mach.bump_free : (s.bump r i n).free = s.free := rfl
@[simp] theorem Mach.bump_err : (s.bump r i n).err = s.err := rfl
@[simp] theorem Mach.bump_tm : (s.bump r i n).tm = s.tm := rfl
@[simp] theorem Mach.bump_pll : (s.bump r i n).pll = s.pll := rfl
@[simp] theorem Mach.bump_bus : (s.bump r i n).bus = s.bus := rfl
@[simp] theorem Mach.bump_dma : (s.bump r i n).dma = s.dma := rfl
@[simp] theorem Mach.bump_ddr : (s.bump r i n).ddr = s.ddr := rfl
@[simp] theorem Mach.bump_sys : (s.bump r i n).sys = s.sys := rfl
@[simp] theorem Mach.bump_asp : (s.bump r i n).asp = s.asp := rfl
@[simp] theorem Mach.bump_cmd : (s.bump r i n).cmd = s.cmd := rfl
@[simp] theorem Mach.bump_sch : (s.bump r i n).sch = s.sch := rfl
@[simp] theorem Mach.bump_net0 : (s.bump r i n).net0 = s.net0 := rfl
@[simp] theorem Mach.bump_net1 : (s.bump r i n).net1 = s.net1 := rfl
@[simp] theorem Mach.bump_sin : (s.bump r i n).sin = s.sin := rfl
@[simp] theorem Mach.bump_sout : (s.bump r i n).sout = s.sout := rfl
@[simp] theorem Mach.bump_disc : (s.bump r i n).disc = s.disc := rfl
@[simp] theorem Mach.bump_rend : (s.bump r i n).rend = s.rend := rfl
@[simp] theorem Mach.bump_irqN : (s.bump r i n).irqN = s.irqN := rfl
end

/-! ### step32 -/

section
variable (s : Mach) (r : Reg) (i : Nat)
@[simp] theorem Mach.step32_variant : (s.step32 r i).variant = s.variant := rfl
@[simp] theorem Mach.step32_live : (s.step32 r i).live = s.live := rfl
@[simp] theorem Mach.step32_hold : (s.step32 r i).hold = s.hold := rfl
@[simp] theorem Mach.step32_mem : (s.step32 r i).mem = s.mem := rfl
@[simp] theorem Mach.step32_free : (s.step32 r i).free = s.free := rfl
@[simp] theorem Mach.step32_err : (s.step32 r i).err = s.err := rfl
@[simp] theorem Mach.step32_tm : (s.step32 r i).tm = s.tm := rfl
@[simp] theorem Mach.step32_pll : (s.step32 r i).pll = s.pll := rfl
@[simp] theorem Mach.step32_bus : (s.step32 r i).bus = s.bus := rfl
@[simp] theorem Mach.step32_dma : (s.step32 r i).dma = s.dma := rfl
@[simp] theorem Mach.step32_ddr : (s.step32 r i).ddr = s.ddr := rfl
@[simp] theorem Mach.step32_sys : (s.step32 r i).sys = s.sys := rfl
@[simp] theorem Mach.step32_asp : (s.step32 r i).asp = s.asp := rfl
@[simp] theorem Mach.step32_cmd : (s.step32 r i).cmd = s.cmd := rfl
@[simp] theorem Mach.step32_sch : (s.step32 r i).sch = s.sch := rfl
@[simp] theorem Mach.step32_net0 : (s.step32 r i).net0 = s.net0 := rfl
@[simp] theorem Mach.step32_net1 : (s.step32 r i).net1 = s.net1 := rfl
@[simp] theorem Mach.step32_sin : (s.step32 r i).sin = s.sin := rfl
@[simp] theorem Mach.step32_sout : (s.step32 r i).sout = s.sout := rfl
@[simp] theorem Mach.step32_disc : (s.step32 r i).disc = s.disc := rfl
@[simp] theorem Mach.step32_rend : (s.step32 r i).rend = s.rend := rfl
@[simp] theorem Mach.step32_irqN : (s.step32 r i).irqN = s.irqN := rfl
end

/-! ### wr64 -/

section
variable (s : Mach) (lo hi : Reg) (v i : Nat)
@[simp] theorem Mach.wr64_variant : (s.wr64 lo hi v i).variant = s.variant := rfl
@[simp] theorem Mach.wr64_live : (s.wr64 lo hi v i).live = s.live := rfl
@[simp] theorem Mach.wr64_hold : (s.wr64 lo hi v i).hold = s.hold := rfl
@[simp] theorem Mach.wr64_mem : (s.wr64 lo hi v i).mem = s.mem := rfl
@[simp] theorem Mach.wr64_free : (s.wr64 lo hi v i).free = s.free := rfl
@[simp] theorem Mach.wr64_err : (s.wr64 lo hi v i).err = s.err := rfl
@[simp] theorem Mach.wr64_tm : (s.wr64 lo hi v i).tm = s.tm := rfl
@[simp] theorem Mach.wr64_pll : (s.wr64 lo hi v i).pll = s.pll := rfl
@[simp] theorem Mach.wr64_bus : (s.wr64 lo hi v i).bus = s.bus := rfl
@[simp] theorem Mach.wr64_dma : (s.wr64 lo hi v i).dma = s.dma := rfl
@[simp] theorem Mach.wr64_ddr : (s.wr64 lo hi v i).ddr = s.ddr := rfl
@[simp] theorem Mach.wr64_sys : (s.wr64 lo hi v i).sys = s.sys := rfl
@[simp] theorem Mach.wr64_asp : (s.wr64 lo hi v i).asp = s.asp := rfl
@[simp] theorem Mach.wr64_cmd : (s.wr64 lo hi v i).cmd = s.cmd := rfl
@[simp] theorem Mach.wr64_sch : (s.wr64 lo hi v i).sch = s.sch := rfl
@[simp] theorem Mach.wr64_net0 : (s.wr64 lo hi v i).net0 = s.net0 := rfl
@[simp] theorem Mach.wr64_net1 : (s.wr64 lo hi v i).net1 = s.net1 := rfl
@[simp] theorem Mach.wr64_sin : (s.wr64 lo hi v i).sin = s.sin := rfl
@[simp] theorem Mach.wr64_sout : (s.wr64 lo hi v i).sout = s.sout := rfl
@[simp] theorem Mach.wr64_disc : (s.wr64 lo hi v i).disc = s.disc := rfl
@[simp] theorem Mach.wr64_rend : (s.wr64 lo hi v i).rend = s.rend := rfl
@[simp] theorem Mach.wr64_irqN : (s.wr64 lo hi v i).irqN = s.irqN := rfl
end

/-! ### clearRegs -/

section
variable (s : Mach) (lo hi : Nat)
@[simp] theorem Mach.clearRegs_variant : (s.clearRegs lo hi).variant = s.variant := rfl
@[simp] theorem Mach.clearRegs_mem : (s.clearRegs lo hi).mem = s.mem := rfl
@[simp] theorem Mach.clearRegs_free : (s.clearRegs lo hi).free = s.free := rfl
@[simp] theorem Mach.clearRegs_err : (s.clearRegs lo hi).err = s.err := rfl
@[simp] theorem Mach.clearRegs_tm : (s.clearRegs lo hi).tm = s.tm := rfl
@[simp] theorem Mach.clearRegs_pll : (s.clearRegs lo hi).pll = s.pll := rfl
@[simp] theorem Mach.clearRegs_bus : (s.clearRegs lo hi).bus = s.bus := rfl
@[simp] theorem Mach.clearRegs_dma : (s.clearRegs lo hi).dma = s.dma := rfl
@[simp] theorem Mach.clearRegs_ddr : (s.clearRegs lo hi).ddr = s.ddr := rfl
@[simp] theorem Mach.clearRegs_sys : (s.clearRegs lo hi).sys = s.sys := rfl
@[simp] theorem Mach.clearRegs_asp : (s.clearRegs lo hi).asp = s.asp := rfl
@[simp] theorem Mach.clearRegs_cmd : (s.clearRegs lo hi).cmd = s.cmd := rfl
@[simp] theorem Mach.clearRegs_sch : (s.clearRegs lo hi).sch = s.sch := rfl
@[simp] theorem Mach.clearRegs_net0 : (s.clearRegs lo hi).net0 = s.net0 := rfl
@[simp] theorem Mach.clearRegs_net1 : (s.clearRegs lo hi).net1 = s.net1 := rfl
@[simp] theorem Mach.clearRegs_sin : (s.clearRegs lo hi).sin = s.sin := rfl
@[simp] theorem Mach.clearRegs_sout : (s.clearRegs lo hi).sout = s.sout := rfl
@[simp] theorem Mach.clearRegs_disc : (s.clearRegs lo hi).disc = s.disc := rfl
@[simp] theorem Mach.clearRegs_rend : (s.clearRegs lo hi).rend = s.rend := rfl
@[simp] theorem Mach.clearRegs_irqN : (s.clearRegs lo hi).irqN = s.irqN := rfl
end

/-! ### mwr -/

section
variable (s : Mach) (a : Nat) (l : List Byte)
@[simp] theorem Mach.mwr_variant : (s.mwr a l).variant = s.variant := rfl
@[simp] theorem Mach.mwr_regs : (s.mwr a l).regs = s.regs := rfl
@[simp] theorem Mach.mwr_live : (s.mwr a l).live = s.live := rfl
@[simp] theorem Mach.mwr_hold : (s.mwr a l).hold = s.hold := rfl
@[simp] theorem Mach.mwr_free : (s.mwr a l).free = s.free := rfl
@[simp] theorem Mach.mwr_err : (s.mwr a l).err = s.err := rfl
@[simp] theorem Mach.mwr_tm : (s.mwr a l).tm = s.tm := rfl
@[simp] theorem Mach.mwr_pll : (s.mwr a l).pll = s.pll := rfl
@[simp] theorem Mach.mwr_bus : (s.mwr a l).bus = s.bus := rfl
@[simp] theorem Mach.mwr_dma : (s.mwr a l).dma = s.dma := rfl
@[simp] theorem Mach.mwr_ddr : (s.mwr a l).ddr = s.ddr := rfl
@[simp] theorem Mach.mwr_sys : (s.mwr a l).sys = s.sys := rfl
@[simp] theorem Mach.mwr_asp : (s.mwr a l).asp = s.asp := rfl
@[simp] theorem Mach.mwr_cmd : (s.mwr a l).cmd = s.cmd := rfl
@[simp] theorem Mach.mwr_sch : (s.mwr a l).sch = s.sch := rfl
@[simp] theorem Mach.mwr_net0 : (s.mwr a l).net0 = s.net0 := rfl
@[simp] theorem Mach.mwr_net1 : (s.mwr a l).net1 = s.net1 := rfl
@[simp] theorem Mach.mwr_sin : (s.mwr a l).sin = s.sin := rfl
@[simp] theorem Mach.mwr_sout : (s.mwr a l).sout = s.sout := rfl
@[simp] theorem Mach.mwr_disc : (s.mwr a l).disc = s.disc := rfl
@[simp] theorem Mach.mwr_rend : (s.mwr a l).rend = s.rend := rfl
@[simp] theorem Mach.mwr_irqN : (s.mwr a l).irqN = s.irqN := rfl
@[simp] theorem Mach.mwr_mem : (s.mwr a l).mem = memPut s.mem a l := rfl
end

/-! ### onAsp -/

section
variable (s : Mach) (n : Nat) (f : AspSt → AspSt)
@[simp] theorem Mach.onAsp_variant : (s.onAsp n f).variant = s.variant := rfl
@[simp] theorem Mach.onAsp_regs : (s.onAsp n f).regs = s.regs := rfl
@[simp] theorem Mach.onAsp_live : (s.onAsp n f).live = s.live := rfl
@[simp] theorem Mach.onAsp_hold : (s.onAsp n f).hold = s.hold := rfl
@[simp] theorem Mach.onAsp_mem : (s.onAsp n f).mem = s.mem := rfl
@[simp] theorem Mach.onAsp_free : (s.onAsp n f).free = s.free := rfl
@[simp] theorem Mach.onAsp_err : (s.onAsp n f).err = s.err := rfl
@[simp] theorem Mach.onAsp_tm : (s.onAsp n f).tm = s.tm := rfl
@[simp] theorem Mach.onAsp_pll : (s.onAsp n f).pll = s.pll := rfl
@[simp] theorem Mach.onAsp_bus : (s.onAsp n f).bus = s.bus := rfl
@[simp] theorem Mach.onAsp_dma : (s.onAsp n f).dma = s.dma := rfl
@[simp] theorem Mach.onAsp_ddr : (s.onAsp n f).ddr = s.ddr := rfl
@[simp] theorem Mach.onAsp_sys : (s.onAsp n f).sys = s.sys := rfl
@[simp] theorem Mach.onAsp_cmd : (s.onAsp n f).cmd = s.cmd := rfl
@[simp] theorem Mach.onAsp_sch : (s.onAsp n f).sch = s.sch := rfl
@[simp] theorem Mach.onAsp_net0 : (s.onAsp n f).net0 = s.net0 := rfl
@[simp] theorem Mach.onAsp_net1 : (s.onAsp n f).net1 = s.net1 := rfl
@[simp] theorem Mach.onAsp_sin : (s.onAsp n f).sin = s.sin := rfl
@[simp] theorem Mach.onAsp_sout : (s.onAsp n f).sout = s.sout := rfl
@[simp] theorem Mach.onAsp_disc : (s.onAsp n f).disc = s.disc := rfl
@[simp] theorem Mach.onAsp_rend : (s.onAsp n f).rend = s.rend := rfl
@[simp] theorem Mach.onAsp_irqN : (s.onAsp n f).irqN = s.irqN := rfl
@[simp] theorem Mach.onAsp_asp : (s.onAsp n f).asp = mmod AspSt.init s.asp n f := rfl
end

/-! ### onSys -/

section
variable (s : Mach) (f : SysSt → SysSt)
@[simp] theorem Mach.onSys_variant : (s.onSys f).variant = s.variant := rfl
@[simp] theorem Mach.onSys_regs : (s.onSys f).regs = s.regs := rfl
@[simp] theorem Mach.onSys_live : (s.onSys f).live = s.live := rfl
@[simp] theorem Mach.onSys_hold : (s.onSys f).hold = s.hold := rfl
@[simp] theorem Mach.onSys_mem : (s.onSys f).mem = s.mem := rfl
@[simp] theorem Mach.onSys_free : (s.onSys f).free = s.free := rfl
@[simp] theorem Mach.onSys_err : (s.onSys f).err = s.err := rfl
@[simp] theorem Mach.onSys_tm : (s.onSys f).tm = s.tm := rfl
@[simp] theorem Mach.onSys_pll : (s.onSys f).pll = s.pll := rfl
@[simp] theorem Mach.onSys_bus : (s.onSys f).bus = s.bus := rfl
@[simp] theorem Mach.onSys_dma : (s.onSys f).dma = s.dma := rfl
@[simp] theorem Mach.onSys_ddr : (s.onSys f).ddr = s.ddr := rfl
@[simp] theorem Mach.onSys_asp : (s.onSys f).asp = s.asp := rfl
@[simp] theorem Mach.onSys_cmd : (s.onSys f).cmd = s.cmd := rfl
@[simp] theorem Mach.onSys_sch : (s.onSys f).sch = s.sch := rfl
@[simp] theorem Mach.onSys_net0 : (s.onSys f).net0 = s.net0 := rfl
@[simp] theorem Mach.onSys_net1 : (s.onSys f).net1 = s.net1 := rfl
@[simp] theorem Mach.onSys_sin : (s.onSys f).sin = s.sin := rfl
@[simp] theorem Mach.onSys_sout : (s.onSys f).sout = s.sout := rfl
@[simp] theorem Mach.onSys_disc : (s.onSys f).disc = s.disc := rfl
@[simp] theorem Mach.onSys_rend : (s.onSys f).rend = s.rend := rfl
@[simp] theorem Mach.onSys_irqN : (s.onSys f).irqN = s.irqN := rfl
@[simp] theorem Mach.onSys_sys : (s.onSys f).sys = f s.sys := rfl
end

/-! ### onPll -/

section
variable (s : Mach) (p : Nat) (f : PllSt → PllSt)
@[simp] theorem Mach.onPll_variant : (s.onPll p f).variant = s.variant := rfl
@[simp] theorem Mach.onPll_regs : (s.onPll p f).regs = s.regs := rfl
@[simp] theorem Mach.onPll_live : (s.onPll p f).live = s.live := rfl
@[simp] theorem Mach.onPll_hold : (s.onPll p f).hold = s.hold := rfl
@[simp] theorem Mach.onPll_mem : (s.onPll p f).mem = s.mem := rfl
@[simp] theorem Mach.onPll_free : (s.onPll p f).free = s.free := rfl
@[simp] theorem Mach.onPll_err : (s.onPll p f).err = s.err := rfl
@[simp] theorem Mach.onPll_tm : (s.onPll p f).tm = s.tm := rfl
@[simp] theorem Mach.onPll_bus : (s.onPll p f).bus = s.bus := rfl
@[simp] theorem Mach.onPll_dma : (s.onPll p f).dma = s.dma := rfl
@[simp] theorem Mach.onPll_ddr : (s.onPll p f).ddr = s.ddr := rfl
@[simp] theorem Mach.onPll_sys : (s.onPll p f).sys = s.sys := rfl
@[simp] theorem Mach.onPll_asp : (s.onPll p f).asp = s.asp := rfl
@[simp] theorem Mach.onPll_cmd : (s.onPll p f).cmd = s.cmd := rfl
@[simp] theorem Mach.onPll_sch : (s.onPll p f).sch = s.sch := rfl
@[simp] theorem Mach.onPll_net0 : (s.onPll p f).net0 = s.net0 := rfl
@[simp] theorem Mach.onPll_net1 : (s.onPll p f).net1 = s.net1 := rfl
@[simp] theorem Mach.onPll_sin : (s.onPll p f).sin = s.sin := rfl
@[simp] theorem Mach.onPll_sout : (s.onPll p f).sout = s.sout := rfl
@[simp] theorem Mach.onPll_disc : (s.onPll p f).disc = s.disc := rfl
@[simp] theorem Mach.onPll_rend : (s.onPll p f).rend = s.rend := rfl
@[simp] theorem Mach.onPll_irqN : (s.onPll p f).irqN = s.irqN := rfl
@[simp] theorem Mach.onPll_pll : (s.onPll p f).pll = mmod PllSt.init s.pll p f := rfl
end

/-! ### onCmd -/

section
variable (s : Mach) (f : CmdSt → CmdSt)
@[simp] theorem Mach.onCmd_variant : (s.onCmd f).variant = s.variant := rfl
@[simp] theorem Mach.onCmd_regs : (s.onCmd f).regs = s.regs := rfl
@[simp] theorem Mach.onCmd_live : (s.onCmd f).live = s.live := rfl
@[simp] theorem Mach.onCmd_hold : (s.onCmd f).hold = s.hold := rfl
@[simp] theorem Mach.onCmd_mem : (s.onCmd f).mem = s.mem := rfl
@[simp] theorem Mach.onCmd_free : (s.onCmd f).free = s.free := rfl
@[simp] theorem Mach.onCmd_err : (s.onCmd f).err = s.err := rfl
@[simp] theorem Mach.onCmd_tm : (s.onCmd f).tm = s.tm := rfl
@[simp] theorem Mach.onCmd_pll : (s.onCmd f).pll = s.pll := rfl
@[simp] theorem Mach.onCmd_bus : (s.onCmd f).bus = s.bus := rfl
@[simp] theorem Mach.onCmd_dma : (s.onCmd f).dma = s.dma := rfl
@[simp] theorem Mach.onCmd_ddr : (s.onCmd f).ddr = s.ddr := rfl
@[simp] theorem Mach.onCmd_sys : (s.onCmd f).sys = s.sys := rfl
@[simp] theorem Mach.onCmd_asp : (s.onCmd f).asp = s.asp := rfl
@[simp] theorem Mach.onCmd_sch : (s.onCmd f).sch = s.sch := rfl
@[simp] theorem Mach.onCmd_net0 : (s.onCmd f).net0 = s.net0 := rfl
@[simp] theorem Mach.onCmd_net1 : (s.onCmd f).net1 = s.net1 := rfl
@[simp] theorem Mach.onCmd_sin : (s.onCmd f).sin = s.sin := rfl
@[simp] theorem Mach.onCmd_sout : (s.onCmd f).sout = s.sout := rfl
@[simp] theorem Mach.onCmd_disc : (s.onCmd f).disc = s.disc := rfl
@[simp] theorem Mach.onCmd_rend : (s.onCmd f).rend = s.rend := rfl
@[simp] theorem Mach.onCmd_irqN : (s.onCmd f).irqN = s.irqN := rfl
@[simp] theorem Mach.onCmd_cmd : (s.onCmd f).cmd = f s.cmd := rfl
end

/-! ### onSch -/

section
variable (s : Mach) (f : SchedSt → SchedSt)
@[simp] theorem Mach.onSch_variant : (s.onSch f).variant = s.variant := rfl
@[simp] theorem Mach.onSch_regs : (s.onSch f).regs = s.regs := rfl
@[simp] theorem Mach.onSch_live : (s.onSch f).live = s.live := rfl
@[simp] theorem Mach.onSch_hold : (s.onSch f).hold = s.hold := rfl
@[simp] theorem Mach.onSch_mem : (s.onSch f).mem = s.mem := rfl
@[simp] theorem Mach.onSch_free : (s.onSch f).free = s.free := rfl
@[simp] theorem Mach.onSch_err : (s.onSch f).err = s.err := rfl
@[simp] theorem Mach.onSch_tm : (s.onSch f).tm = s.tm := rfl
@[simp] theorem Mach.onSch_pll : (s.onSch f).pll = s.pll := rfl
@[simp] theorem Mach.onSch_bus : (s.onSch f).bus = s.bus := rfl
@[simp] theorem Mach.onSch_dma : (s.onSch f).dma = s.dma := rfl
@[simp] theorem Mach.onSch_ddr : (s.onSch f).ddr = s.ddr := rfl
@[simp] theorem Mach.onSch_sys : (s.onSch f).sys = s.sys := rfl
@[simp] theorem Mach.onSch_asp : (s.onSch f).asp = s.asp := rfl
@[simp] theorem Mach.onSch_cmd : (s.onSch f).cmd = s.cmd := rfl
@[simp] theorem Mach.onSch_net0 : (s.onSch f).net0 = s.net0 := rfl
@[simp] theorem Mach.onSch_net1 : (s.onSch f).net1 = s.net1 := rfl
@[simp] theorem Mach.onSch_sin : (s.onSch f).sin = s.sin := rfl
@[simp] theorem Mach.onSch_sout : (s.onSch f).sout = s.sout := rfl
@[simp] theorem Mach.onSch_disc : (s.onSch f).disc = s.disc := rfl
@[simp] theorem Mach.onSch_rend : (s.onSch f).rend = s.rend := rfl
@[simp] theorem Mach.onSch_irqN : (s.onSch f).irqN = s.irqN := rfl
@[simp] theorem Mach.onSch_sch : (s.onSch f).sch = f s.sch := rfl
end

/-! ### onDdr -/

section
variable (s : Mach) (f : DdrSt → DdrSt)
@[simp] theorem Mach.onDdr_variant : (s.onDdr f).variant = s.variant := rfl
@[simp] theorem Mach.onDdr_regs : (s.onDdr f).regs = s.regs := rfl
@[simp] theorem Mach.onDdr_live : (s.onDdr f).live = s.live := rfl
@[simp] theorem Mach.onDdr_hold : (s.onDdr f).hold = s.hold := rfl
@[simp] theorem Mach.onDdr_mem : (s.onDdr f).mem = s.mem := rfl
@[simp] theorem Mach.onDdr_free : (s.onDdr f).free = s.free := rfl
@[simp] theorem Mach.onDdr_err : (s.onDdr f).err = s.err := rfl
@[simp] theorem Mach.onDdr_tm : (s.onDdr f).tm = s.tm := rfl
@[simp] theorem Mach.onDdr_pll : (s.onDdr f).pll = s.pll := rfl
@[simp] theorem Mach.onDdr_bus : (s.onDdr f).bus = s.bus := rfl
@[simp] theorem Mach.onDdr_dma : (s.onDdr f).dma = s.dma := rfl
@[simp] theorem Mach.onDdr_sys : (s.onDdr f).sys = s.sys := rfl
@[simp] theorem Mach.onDdr_asp : (s.onDdr f).asp = s.asp := rfl
@[simp] theorem Mach.onDdr_cmd : (s.onDdr f).cmd = s.cmd := rfl
@[simp] theorem Mach.onDdr_sch : (s.onDdr f).sch = s.sch := rfl
@[simp] theorem Mach.onDdr_net0 : (s.onDdr f).net0 = s.net0 := rfl
@[simp] theorem Mach.onDdr_net1 : (s.onDdr f).net1 = s.net1 := rfl
@[simp] theorem Mach.onDdr_sin : (s.onDdr f).sin = s.sin := rfl
@[simp] theorem Mach.onDdr_sout : (s.onDdr f).sout = s.sout := rfl
@[simp] theorem Mach.onDdr_disc : (s.onDdr f).disc = s.disc := rfl
@[simp] theorem Mach.onDdr_rend : (s.onDdr f).rend = s.rend := rfl
@[simp] theorem Mach.onDdr_irqN : (s.onDdr f).irqN = s.irqN := rfl
@[simp] theorem Mach.onDdr_ddr : (s.onDdr f).ddr = f s.ddr := rfl
end

/-! ### onRend -/

section
variable (s : Mach) (f : Rend → Rend)
@[simp] theorem Mach.onRend_variant : (s.onRend f).variant = s.variant := rfl
@[simp] theorem Mach.onRend_regs : (s.onRend f).regs = s.regs := rfl
@[simp] theorem Mach.onRend_live : (s.onRend f).live = s.live := rfl
@[simp] theorem Mach.onRend_hold : (s.onRend f).hold = s.hold := rfl
@[simp] theorem Mach.onRend_mem : (s.onRend f).mem = s.mem := rfl
@[simp] theorem Mach.onRend_free : (s.onRend f).free = s.free := rfl
@[simp] theorem Mach.onRend_err : (s.onRend f).err = s.err := rfl
@[simp] theorem Mach.onRend_tm : (s.onRend f).tm = s.tm := rfl
@[simp] theorem Mach.onRend_pll : (s.onRend f).pll = s.pll := rfl
@[simp] theorem Mach.onRend_bus : (s.onRend f).bus = s.bus := rfl
@[simp] theorem Mach.onRend_dma : (s.onRend f).dma = s.dma := rfl
@[simp] theorem Mach.onRend_ddr : (s.onRend f).ddr = s.ddr := rfl
@[simp] theorem Mach.onRend_sys : (s.onRend f).sys = s.sys := rfl
@[simp] theorem Mach.onRend_asp : (s.onRend f).asp = s.asp := rfl
@[simp] theorem Mach.onRend_cmd : (s.onRend f).cmd = s.cmd := rfl
@[simp] theorem Mach.onRend_sch : (s.onRend f).sch = s.sch := rfl
@[simp] theorem Mach.onRend_net0 : (s.onRend f).net0 = s.net0 := rfl
@[simp] theorem Mach.onRend_net1 : (s.onRend f).net1 = s.net1 := rfl
@[simp] theorem Mach.onRend_sin : (s.onRend f).sin = s.sin := rfl
@[simp] theorem Mach.onRend_sout : (s.onRend f).sout = s.sout := rfl
@[simp] theorem Mach.onRend_disc : (s.onRend f).disc = s.disc := rfl
@[simp] theorem Mach.onRend_irqN : (s.onRend f).irqN = s.irqN := rfl
@[simp] theorem Mach.onRend_rend : (s.onRend f).rend = f s.rend := rfl
end

/-! ### onBus -/

section
variable (s : Mach) (f : BusSt → BusSt)
@[simp] theorem Mach.onBus_variant : (s.onBus f).variant = s.variant := rfl
@[simp] theorem Mach.onBus_regs : (s.onBus f).regs = s.regs := rfl
@[simp] theorem Mach.onBus_live : (s.onBus f).live = s.live := rfl
@[simp] theorem Mach.onBus_hold : (s.onBus f).hold = s.hold := rfl
@[simp] theorem Mach.onBus_mem : (s.onBus f).mem = s.mem := rfl
@[simp] theorem Mach.onBus_free : (s.onBus f).free = s.free := rfl
@[simp] theorem Mach.onBus_err : (s.onBus f).err = s.err := rfl
@[simp] theorem Mach.onBus_tm : (s.onBus f).tm = s.tm := rfl
@[simp] theorem Mach.onBus_pll : (s.onBus f).pll = s.pll := rfl
@[simp] theorem Mach.onBus_dma : (s.onBus f).dma = s.dma := rfl
@[simp] theorem Mach.onBus_ddr : (s.onBus f).ddr = s.ddr := rfl
@[simp] theorem Mach.onBus_sys : (s.onBus f).sys = s.sys := rfl
@[simp] theorem Mach.onBus_asp : (s.onBus f).asp = s.asp := rfl
@[simp] theorem Mach.onBus_cmd : (s.onBus f).cmd = s.cmd := rfl
@[simp] theorem Mach.onBus_sch : (s.onBus f).sch = s.sch := rfl
@[simp] theorem Mach.onBus_net0 : (s.onBus f).net0 = s.net0 := rfl
@[simp] theorem Mach.onBus_net1 : (s.onBus f).net1 = s.net1 := rfl
@[simp] theorem Mach.onBus_sin : (s.onBus f).sin = s.sin := rfl
@[simp] theorem Mach.onBus_sout : (s.onBus f).sout = s.sout := rfl
@[simp] theorem Mach.onBus_disc : (s.onBus f).disc = s.disc := rfl
@[simp] theorem Mach.onBus_rend : (s.onBus f).rend = s.rend := rfl
@[simp] theorem Mach.onBus_irqN : (s.onBus f).irqN = s.irqN := rfl
@[simp] theorem Mach.onBus_bus : (s.onBus f).bus = f s.bus := rfl
end

/-! ### onDma -/

section
variable (s : Mach) (c : Nat) (f : DmaSt → DmaSt)
@[simp] theorem Mach.onDma_variant : (s.onDma c f).variant = s.variant := rfl
@[simp] theorem Mach.onDma_regs : (s.onDma c f).regs = s.regs := rfl
@[simp] theorem Mach.onDma_live : (s.onDma c f).live = s.live := rfl
@[simp] theorem Mach.onDma_hold : (s.onDma c f).hold = s.hold := rfl
@[simp] theorem Mach.onDma_mem : (s.onDma c f).mem = s.mem := rfl
@[simp] theorem Mach.onDma_free : (s.onDma c f).free = s.free := rfl
@[simp] theorem Mach.onDma_err : (s.onDma c f).err = s.err := rfl
@[simp] theorem Mach.onDma_tm : (s.onDma c f).tm = s.tm := rfl
@[simp] theorem Mach.onDma_pll : (s.onDma c f).pll = s.pll := rfl
@[simp] theorem Mach.onDma_bus : (s.onDma c f).bus = s.bus := rfl
@[simp] theorem Mach.onDma_ddr : (s.onDma c f).ddr = s.ddr := rfl
@[simp] theorem Mach.onDma_sys : (s.onDma c f).sys = s.sys := rfl
@[simp] theorem Mach.onDma_asp : (s.onDma c f).asp = s.asp := rfl
@[simp] theorem Mach.onDma_cmd : (s.onDma c f).cmd = s.cmd := rfl
@[simp] theorem Mach.onDma_sch : (s.onDma c f).sch = s.sch := rfl
@[simp] theorem Mach.onDma_net0 : (s.onDma c f).net0 = s.net0 := rfl
@[simp] theorem Mach.onDma_net1 : (s.onDma c f).net1 = s.net1 := rfl
@[simp] theorem Mach.onDma_sin : (s.onDma c f).sin = s.sin := rfl
@[simp] theorem Mach.onDma_sout : (s.onDma c f).sout = s.sout := rfl
@[simp] theorem Mach.onDma_disc : (s.onDma c f).disc = s.disc := rfl
@[simp] theorem Mach.onDma_rend : (s.onDma c f).rend = s.rend := rfl
@[simp] theorem Mach.onDma_irqN : (s.onDma c f).irqN = s.irqN := rfl
@[simp] theorem Mach.onDma_dma : (s.onDma c f).dma = mmod DmaSt.init s.dma c f := rfl
end

/-! ### onIn -/

section
variable (s : Mach) (k : Nat) (f : StrIn → StrIn)
@[simp] theorem Mach.onIn_variant : (s.onIn k f).variant = s.variant := rfl
@[simp] theorem Mach.onIn_regs : (s.onIn k f).regs = s.regs := rfl
@[simp] theorem Mach.onIn_live : (s.onIn k f).live = s.live := rfl
@[simp] theorem Mach.onIn_hold : (s.onIn k f).hold = s.hold := rfl
@[simp] theorem Mach.onIn_mem : (s.onIn k f).mem = s.mem := rfl
@[simp] theorem Mach.onIn_free : (s.onIn k f).free = s.free := rfl
@[simp] theorem Mach.onIn_err : (s.onIn k f).err = s.err := rfl
@[simp] theorem Mach.onIn_tm : (s.onIn k f).tm = s.tm := rfl
@[simp] theorem Mach.onIn_pll : (s.onIn k f).pll = s.pll := rfl
@[simp] theorem Mach.onIn_bus : (s.onIn k f).bus = s.bus := rfl
@[simp] theorem Mach.onIn_dma : (s.onIn k f).dma = s.dma := rfl
@[simp] theorem Mach.onIn_ddr : (s.onIn k f).ddr = s.ddr := rfl
@[simp] theorem Mach.onIn_sys : (s.onIn k f).sys = s.sys := rfl
@[simp] theorem Mach.onIn_asp : (s.onIn k f).asp = s.asp := rfl
@[simp] theorem Mach.onIn_cmd : (s.onIn k f).cmd = s.cmd := rfl
@[simp] theorem Mach.onIn_sch : (s.onIn k f).sch = s.sch := rfl
@[simp] theorem Mach.onIn_net0 : (s.onIn k f).net0 = s.net0 := rfl
@[simp] theorem Mach.onIn_net1 : (s.onIn k f).net1 = s.net1 := rfl
@[simp] theorem Mach.onIn_sout : (s.onIn k f).sout = s.sout := rfl
@[simp] theorem Mach.onIn_disc : (s.onIn k f).disc = s.disc := rfl
@[simp] theorem Mach.onIn_rend : (s.onIn k f).rend = s.rend := rfl
@[simp] theorem Mach.onIn_irqN : (s.onIn k f).irqN = s.irqN := rfl
@[simp] theorem Mach.onIn_sin : (s.onIn k f).sin = mmod StrIn.off s.sin k f := rfl
end

/-! ### onOut -/

section
variable (s : Mach) (k : Nat) (f : StrOut → StrOut)
@[simp] theorem Mach.onOut_variant : (s.onOut k f).variant = s.variant := rfl
@[simp] theorem Mach.onOut_regs : (s.onOut k f).regs = s.regs := rfl
@[simp] theorem Mach.onOut_live : (s.onOut k f).live = s.live := rfl
@[simp] theorem Mach.onOut_hold : (s.onOut k f).hold = s.hold := rfl
@[simp] theorem Mach.onOut_mem : (s.onOut k f).mem = s.mem := rfl
@[simp] theorem Mach.onOut_free : (s.onOut k f).free = s.free := rfl
@[simp] theorem Mach.onOut_err : (s.onOut k f).err = s.err := rfl
@[simp] theorem Mach.onOut_tm : (s.onOut k f).tm = s.tm := rfl
@[simp] theorem Mach.onOut_pll : (s.onOut k f).pll = s.pll := rfl
@[simp] theorem Mach.onOut_bus : (s.onOut k f).bus = s.bus := rfl
@[simp] theorem Mach.onOut_dma : (s.onOut k f).dma = s.dma := rfl
@[simp] theorem Mach.onOut_ddr : (s.onOut k f).ddr = s.ddr := rfl
@[simp] theorem Mach.onOut_sys : (s.onOut k f).sys = s.sys := rfl
@[simp] theorem Mach.onOut_asp : (s.onOut k f).asp = s.asp := rfl
@[simp] theorem Mach.onOut_cmd : (s.onOut k f).cmd = s.cmd := rfl
@[simp] theorem Mach.onOut_sch : (s.onOut k f).sch = s.sch := rfl
@[simp] theorem Mach.onOut_net0 : (s.onOut k f).net0 = s.net0 := rfl
@[simp] theorem Mach.onOut_net1 : (s.onOut k f).net1 = s.net1 := rfl
@[simp] theorem Mach.onOut_sin : (s.onOut k f).sin = s.sin := rfl
@[simp] theorem Mach.onOut_disc : (s.onOut k f).disc = s.disc := rfl
@[simp] theorem Mach.onOut_rend : (s.onOut k f).rend = s.rend := rfl
@[simp] theorem Mach.onOut_irqN : (s.onOut k f).irqN = s.irqN := rfl
@[simp] theorem Mach.onOut_sout : (s.onOut k f).sout = mmod StrOut.off s.sout k f := rfl
end

/-! ### onTime -/

section
variable (s : Mach) (f : TimeSt → TimeSt)
@[simp] theorem Mach.onTime_variant : (s.onTime f).variant = s.variant := rfl
@[simp] theorem Mach.onTime_regs : (s.onTime f).regs = s.regs := rfl
@[simp] theorem Mach.onTime_live : (s.onTime f).live = s.live := rfl
@[simp] theorem Mach.onTime_hold : (s.onTime f).hold = s.hold := rfl
@[simp] theorem Mach.onTime_mem : (s.onTime f).mem = s.mem := rfl
@[simp] theorem Mach.onTime_free : (s.onTime f).free = s.free := rfl
@[simp] theorem Mach.onTime_err : (s.onTime f).err = s.err := rfl
@[simp] theorem Mach.onTime_pll : (s.onTime f).pll = s.pll := rfl
@[simp] theorem Mach.onTime_bus : (s.onTime f).bus = s.bus := rfl
@[simp] theorem Mach.onTime_dma : (s.onTime f).dma = s.dma := rfl
@[simp] theorem Mach.onTime_ddr : (s.onTime f).ddr = s.ddr := rfl
@[simp] theorem Mach.onTime_sys : (s.onTime f).sys = s.sys := rfl
@[simp] theorem Mach.onTime_asp : (s.onTime f).asp = s.asp := rfl
@[simp] theorem Mach.onTime_cmd : (s.onTime f).cmd = s.cmd := rfl
@[simp] theorem Mach.onTime_sch : (s.onTime f).sch = s.sch := rfl
@[simp] theorem Mach.onTime_net0 : (s.onTime f).net0 = s.net0 := rfl
@[simp] theorem Mach.onTime_net1 : (s.onTime f).net1 = s.net1 := rfl
@[simp] theorem Mach.onTime_sin : (s.onTime f).sin = s.sin := rfl
@[simp] theorem Mach.onTime_sout : (s.onTime f).sout = s.sout := rfl
@[simp] theorem Mach.onTime_disc : (s.onTime f).disc = s.disc := rfl
@[simp] theorem Mach.onTime_rend : (s.onTime f).rend = s.rend := rfl
@[simp] theorem Mach.onTime_irqN : (s.onTime f).irqN = s.irqN := rfl
@[simp] theorem Mach.onTime_tm : (s.onTime f).tm = f s.tm := rfl
end

/-! ### onFab -/

section
variable (s : Mach) (f : FabSt → FabSt)
@[simp] theorem Mach.onFab_variant : (s.onFab f).variant = s.variant := rfl
@[simp] theorem Mach.onFab_regs : (s.onFab f).regs = s.regs := rfl
@[simp] theorem Mach.onFab_live : (s.onFab f).live = s.live := rfl
@[simp] theorem Mach.onFab_hold : (s.onFab f).hold = s.hold := rfl
@[simp] theorem Mach.onFab_mem : (s.onFab f).mem = s.mem := rfl
@[simp] theorem Mach.onFab_free : (s.onFab f).free = s.free := rfl
@[simp] theorem Mach.onFab_err : (s.onFab f).err = s.err := rfl
@[simp] theorem Mach.onFab_tm : (s.onFab f).tm = s.tm := rfl
@[simp] theorem Mach.onFab_pll : (s.onFab f).pll = s.pll := rfl
@[simp] theorem Mach.onFab_bus : (s.onFab f).bus = s.bus := rfl
@[simp] theorem Mach.onFab_dma : (s.onFab f).dma = s.dma := rfl
@[simp] theorem Mach.onFab_ddr : (s.onFab f).ddr = s.ddr := rfl
@[simp] theorem Mach.onFab_sys : (s.onFab f).sys = s.sys := rfl
@[simp] theorem Mach.onFab_asp : (s.onFab f).asp = s.asp := rfl
@[simp] theorem Mach.onFab_cmd : (s.onFab f).cmd = s.cmd := rfl
@[simp] theorem Mach.onFab_sch : (s.onFab f).sch = s.sch := rfl
@[simp] theorem Mach.onFab_net0 : (s.onFab f).net0 = s.net0 := rfl
@[simp] theorem Mach.onFab_net1 : (s.onFab f).net1 = s.net1 := rfl
@[simp] theorem Mach.onFab_sin : (s.onFab f).sin = s.sin := rfl
@[simp] theorem Mach.onFab_sout : (s.onFab f).sout = s.sout := rfl
@[simp] theorem Mach.onFab_disc : (s.onFab f).disc = s.disc := rfl
@[simp] theorem Mach.onFab_irqN : (s.onFab f).irqN = s.irqN := rfl
end

/-! ### onFeed -/

section
variable (s : Mach) (n : Nat) (f : Feed → Feed)
@[simp] theorem Mach.onFeed_variant : (s.onFeed n f).variant = s.variant := rfl
@[simp] theorem Mach.onFeed_regs : (s.onFeed n f).regs = s.regs := rfl
@[simp] theorem Mach.onFeed_live : (s.onFeed n f).live = s.live := rfl
@[simp] theorem Mach.onFeed_hold : (s.onFeed n f).hold = s.hold := rfl
@[simp] theorem Mach.onFeed_mem : (s.onFeed n f).mem = s.mem := rfl
@[simp] theorem Mach.onFeed_free : (s.onFeed n f).free = s.free := rfl
@[simp] theorem Mach.onFeed_err : (s.onFeed n f).err = s.err := rfl
@[simp] theorem Mach.onFeed_tm : (s.onFeed n f).tm = s.tm := rfl
@[simp] theorem Mach.onFeed_pll : (s.onFeed n f).pll = s.pll := rfl
@[simp] theorem Mach.onFeed_bus : (s.onFeed n f).bus = s.bus := rfl
@[simp] theorem Mach.onFeed_dma : (s.onFeed n f).dma = s.dma := rfl
@[simp] theorem Mach.onFeed_ddr : (s.onFeed n f).ddr = s.ddr := rfl
@[simp] theorem Mach.onFeed_sys : (s.onFeed n f).sys = s.sys := rfl
@[simp] theorem Mach.onFeed_asp : (s.onFeed n f).asp = s.asp := rfl
@[simp] theorem Mach.onFeed_cmd : (s.onFeed n f).cmd = s.cmd := rfl
@[simp] theorem Mach.onFeed_sch : (s.onFeed n f).sch = s.sch := rfl
@[simp] theorem Mach.onFeed_net0 : (s.onFeed n f).net0 = s.net0 := rfl
@[simp] theorem Mach.onFeed_net1 : (s.onFeed n f).net1 = s.net1 := rfl
@[simp] theorem Mach.onFeed_sin : (s.onFeed n f).sin = s.sin := rfl
@[simp] theorem Mach.onFeed_sout : (s.onFeed n f).sout = s.sout := rfl
@[simp] theorem Mach.onFeed_disc : (s.onFeed n f).disc = s.disc := rfl
@[simp] theorem Mach.onFeed_irqN : (s.onFeed n f).irqN = s.irqN := rfl
end

/-! ### onChan -/

section
variable (s : Mach) (n : Nat) (f : Chan → Chan)
@[simp] theorem Mach.onChan_variant : (s.onChan n f).variant = s.variant := rfl
@[simp] theorem Mach.onChan_regs : (s.onChan n f).regs = s.regs := rfl
@[simp] theorem Mach.onChan_live : (s.onChan n f).live = s.live := rfl
@[simp] theorem Mach.onChan_hold : (s.onChan n f).hold = s.hold := rfl
@[simp] theorem Mach.onChan_mem : (s.onChan n f).mem = s.mem := rfl
@[simp] theorem Mach.onChan_free : (s.onChan n f).free = s.free := rfl
@[simp] theorem Mach.onChan_err : (s.onChan n f).err = s.err := rfl
@[simp] theorem Mach.onChan_tm : (s.onChan n f).tm = s.tm := rfl
@[simp] theorem Mach.onChan_pll : (s.onChan n f).pll = s.pll := rfl
@[simp] theorem Mach.onChan_bus : (s.onChan n f).bus = s.bus := rfl
@[simp] theorem Mach.onChan_dma : (s.onChan n f).dma = s.dma := rfl
@[simp] theorem Mach.onChan_ddr : (s.onChan n f).ddr = s.ddr := rfl
@[simp] theorem Mach.onChan_sys : (s.onChan n f).sys = s.sys := rfl
@[simp] theorem Mach.onChan_asp : (s.onChan n f).asp = s.asp := rfl
@[simp] theorem Mach.onChan_cmd : (s.onChan n f).cmd = s.cmd := rfl
@[simp] theorem Mach.onChan_sch : (s.onChan n f).sch = s.sch := rfl
@[simp] theorem Mach.onChan_net0 : (s.onChan n f).net0 = s.net0 := rfl
@[simp] theorem Mach.onChan_net1 : (s.onChan n f).net1 = s.net1 := rfl
@[simp] theorem Mach.onChan_sin : (s.onChan n f).sin = s.sin := rfl
@[simp] theorem Mach.onChan_sout : (s.onChan n f).sout = s.sout := rfl
@[simp] theorem Mach.onChan_disc : (s.onChan n f).disc = s.disc := rfl
@[simp] theorem Mach.onChan_irqN : (s.onChan n f).irqN = s.irqN := rfl
end

/-! ### onPlay -/

section
variable (s : Mach) (n : Nat) (f : Play → Play)
@[simp] theorem Mach.onPlay_variant : (s.onPlay n f).variant = s.variant := rfl
@[simp] theorem Mach.onPlay_regs : (s.onPlay n f).regs = s.regs := rfl
@[simp] theorem Mach.onPlay_live : (s.onPlay n f).live = s.live := rfl
@[simp] theorem Mach.onPlay_hold : (s.onPlay n f).hold = s.hold := rfl
@[simp] theorem Mach.onPlay_mem : (s.onPlay n f).mem = s.mem := rfl
@[simp] theorem Mach.onPlay_free : (s.onPlay n f).free = s.free := rfl
@[simp] theorem Mach.onPlay_err : (s.onPlay n f).err = s.err := rfl
@[simp] theorem Mach.onPlay_tm : (s.onPlay n f).tm = s.tm := rfl
@[simp] theorem Mach.onPlay_pll : (s.onPlay n f).pll = s.pll := rfl
@[simp] theorem Mach.onPlay_bus : (s.onPlay n f).bus = s.bus := rfl
@[simp] theorem Mach.onPlay_dma : (s.onPlay n f).dma = s.dma := rfl
@[simp] theorem Mach.onPlay_ddr : (s.onPlay n f).ddr = s.ddr := rfl
@[simp] theorem Mach.onPlay_sys : (s.onPlay n f).sys = s.sys := rfl
@[simp] theorem Mach.onPlay_asp : (s.onPlay n f).asp = s.asp := rfl
@[simp] theorem Mach.onPlay_cmd : (s.onPlay n f).cmd = s.cmd := rfl
@[simp] theorem Mach.onPlay_sch : (s.onPlay n f).sch = s.sch := rfl
@[simp] theorem Mach.onPlay_net0 : (s.onPlay n f).net0 = s.net0 := rfl
@[simp] theorem Mach.onPlay_net1 : (s.onPlay n f).net1 = s.net1 := rfl
@[simp] theorem Mach.onPlay_sin : (s.onPlay n f).sin = s.sin := rfl
@[simp] theorem Mach.onPlay_sout : (s.onPlay n f).sout = s.sout := rfl
@[simp] theorem Mach.onPlay_disc : (s.onPlay n f).disc = s.disc := rfl
@[simp] theorem Mach.onPlay_irqN : (s.onPlay n f).irqN = s.irqN := rfl
end

/-! ### onIbex -/

section
variable (s : Mach) (f : IbexSt → IbexSt)
@[simp] theorem Mach.onIbex_variant : (s.onIbex f).variant = s.variant := rfl
@[simp] theorem Mach.onIbex_regs : (s.onIbex f).regs = s.regs := rfl
@[simp] theorem Mach.onIbex_live : (s.onIbex f).live = s.live := rfl
@[simp] theorem Mach.onIbex_hold : (s.onIbex f).hold = s.hold := rfl
@[simp] theorem Mach.onIbex_mem : (s.onIbex f).mem = s.mem := rfl
@[simp] theorem Mach.onIbex_free : (s.onIbex f).free = s.free := rfl
@[simp] theorem Mach.onIbex_err : (s.onIbex f).err = s.err := rfl
@[simp] theorem Mach.onIbex_tm : (s.onIbex f).tm = s.tm := rfl
@[simp] theorem Mach.onIbex_pll : (s.onIbex f).pll = s.pll := rfl
@[simp] theorem Mach.onIbex_bus : (s.onIbex f).bus = s.bus := rfl
@[simp] theorem Mach.onIbex_dma : (s.onIbex f).dma = s.dma := rfl
@[simp] theorem Mach.onIbex_ddr : (s.onIbex f).ddr = s.ddr := rfl
@[simp] theorem Mach.onIbex_sys : (s.onIbex f).sys = s.sys := rfl
@[simp] theorem Mach.onIbex_asp : (s.onIbex f).asp = s.asp := rfl
@[simp] theorem Mach.onIbex_cmd : (s.onIbex f).cmd = s.cmd := rfl
@[simp] theorem Mach.onIbex_sch : (s.onIbex f).sch = s.sch := rfl
@[simp] theorem Mach.onIbex_net0 : (s.onIbex f).net0 = s.net0 := rfl
@[simp] theorem Mach.onIbex_net1 : (s.onIbex f).net1 = s.net1 := rfl
@[simp] theorem Mach.onIbex_sin : (s.onIbex f).sin = s.sin := rfl
@[simp] theorem Mach.onIbex_sout : (s.onIbex f).sout = s.sout := rfl
@[simp] theorem Mach.onIbex_disc : (s.onIbex f).disc = s.disc := rfl
@[simp] theorem Mach.onIbex_irqN : (s.onIbex f).irqN = s.irqN := rfl
end

/-! ### onMeas -/

section
variable (s : Mach) (n : Nat) (f : MeasCh → MeasCh)
@[simp] theorem Mach.onMeas_variant : (s.onMeas n f).variant = s.variant := rfl
@[simp] theorem Mach.onMeas_regs : (s.onMeas n f).regs = s.regs := rfl
@[simp] theorem Mach.onMeas_live : (s.onMeas n f).live = s.live := rfl
@[simp] theorem Mach.onMeas_hold : (s.onMeas n f).hold = s.hold := rfl
@[simp] theorem Mach.onMeas_mem : (s.onMeas n f).mem = s.mem := rfl
@[simp] theorem Mach.onMeas_free : (s.onMeas n f).free = s.free := rfl
@[simp] theorem Mach.onMeas_err : (s.onMeas n f).err = s.err := rfl
@[simp] theorem Mach.onMeas_tm : (s.onMeas n f).tm = s.tm := rfl
@[simp] theorem Mach.onMeas_pll : (s.onMeas n f).pll = s.pll := rfl
@[simp] theorem Mach.onMeas_bus : (s.onMeas n f).bus = s.bus := rfl
@[simp] theorem Mach.onMeas_dma : (s.onMeas n f).dma = s.dma := rfl
@[simp] theorem Mach.onMeas_ddr : (s.onMeas n f).ddr = s.ddr := rfl
@[simp] theorem Mach.onMeas_sys : (s.onMeas n f).sys = s.sys := rfl
@[simp] theorem Mach.onMeas_asp : (s.onMeas n f).asp = s.asp := rfl
@[simp] theorem Mach.onMeas_cmd : (s.onMeas n f).cmd = s.cmd := rfl
@[simp] theorem Mach.onMeas_sch : (s.onMeas n f).sch = s.sch := rfl
@[simp] theorem Mach.onMeas_net0 : (s.onMeas n f).net0 = s.net0 := rfl
@[simp] theorem Mach.onMeas_net1 : (s.onMeas n f).net1 = s.net1 := rfl
@[simp] theorem Mach.onMeas_sin : (s.onMeas n f).sin = s.sin := rfl
@[simp] theorem Mach.onMeas_sout : (s.onMeas n f).sout = s.sout := rfl
@[simp] theorem Mach.onMeas_disc : (s.onMeas n f).disc = s.disc := rfl
@[simp] theorem Mach.onMeas_irqN : (s.onMeas n f).irqN = s.irqN := rfl
end

/-! ### onObj -/

section
variable (s : Mach) (n : Nat) (f : ObjGeo → ObjGeo)
@[simp] theorem Mach.onObj_variant : (s.onObj n f).variant = s.variant := rfl
@[simp] theorem Mach.onObj_regs : (s.onObj n f).regs = s.regs := rfl
@[simp] theorem Mach.onObj_live : (s.onObj n f).live = s.live := rfl
@[simp] theorem Mach.onObj_hold : (s.onObj n f).hold = s.hold := rfl
@[simp] theorem Mach.onObj_mem : (s.onObj n f).mem = s.mem := rfl
@[simp] theorem Mach.onObj_free : (s.onObj n f).free = s.free := rfl
@[simp] theorem Mach.onObj_err : (s.onObj n f).err = s.err := rfl
@[simp] theorem Mach.onObj_tm : (s.onObj n f).tm = s.tm := rfl
@[simp] theorem Mach.onObj_pll : (s.onObj n f).pll = s.pll := rfl
@[simp] theorem Mach.onObj_bus : (s.onObj n f).bus = s.bus := rfl
@[simp] theorem Mach.onObj_dma : (s.onObj n f).dma = s.dma := rfl
@[simp] theorem Mach.onObj_ddr : (s.onObj n f).ddr = s.ddr := rfl
@[simp] theorem Mach.onObj_sys : (s.onObj n f).sys = s.sys := rfl
@[simp] theorem Mach.onObj_asp : (s.onObj n f).asp = s.asp := rfl
@[simp] theorem Mach.onObj_cmd : (s.onObj n f).cmd = s.cmd := rfl
@[simp] theorem Mach.onObj_sch : (s.onObj n f).sch = s.sch := rfl
@[simp] theorem Mach.onObj_net0 : (s.onObj n f).net0 = s.net0 := rfl
@[simp] theorem Mach.onObj_net1 : (s.onObj n f).net1 = s.net1 := rfl
@[simp] theorem Mach.onObj_sin : (s.onObj n f).sin = s.sin := rfl
@[simp] theorem Mach.onObj_sout : (s.onObj n f).sout = s.sout := rfl
@[simp] theorem Mach.onObj_disc : (s.onObj n f).disc = s.disc := rfl
@[simp] theorem Mach.onObj_irqN : (s.onObj n f).irqN = s.irqN := rfl
end

/-! ### onMem -/

section
variable (s : Mach) (n : Nat) (f : ObjMem → ObjMem)
@[simp] theorem Mach.onMem_variant : (s.onMem n f).variant = s.variant := rfl
@[simp] theorem Mach.onMem_regs : (s.onMem n f).regs = s.regs := rfl
@[simp] theorem Mach.onMem_live : (s.onMem n f).live = s.live := rfl
@[simp] theorem Mach.onMem_hold : (s.onMem n f).hold = s.hold := rfl
@[simp] theorem Mach.onMem_mem : (s.onMem n f).mem = s.mem := rfl
@[simp] theorem Mach.onMem_free : (s.onMem n f).free = s.free := rfl
@[simp] theorem Mach.onMem_err : (s.onMem n f).err = s.err := rfl
@[simp] theorem Mach.onMem_tm : (s.onMem n f).tm = s.tm := rfl
@[simp] theorem Mach.onMem_pll : (s.onMem n f).pll = s.pll := rfl
@[simp] theorem Mach.onMem_bus : (s.onMem n f).bus = s.bus := rfl
@[simp] theorem Mach.onMem_dma : (s.onMem n f).dma = s.dma := rfl
@[simp] theorem Mach.onMem_ddr : (s.onMem n f).ddr = s.ddr := rfl
@[simp] theorem Mach.onMem_sys : (s.onMem n f).sys = s.sys := rfl
@[simp] theorem Mach.onMem_asp : (s.onMem n f).asp = s.asp := rfl
@[simp] theorem Mach.onMem_cmd : (s.onMem n f).cmd = s.cmd := rfl
@[simp] theorem Mach.onMem_sch : (s.onMem n f).sch = s.sch := rfl
@[simp] theorem Mach.onMem_net0 : (s.onMem n f).net0 = s.net0 := rfl
@[simp] theorem Mach.onMem_net1 : (s.onMem n f).net1 = s.net1 := rfl
@[simp] theorem Mach.onMem_sin : (s.onMem n f).sin = s.sin := rfl
@[simp] theorem Mach.onMem_sout : (s.onMem n f).sout = s.sout := rfl
@[simp] theorem Mach.onMem_disc : (s.onMem n f).disc = s.disc := rfl
@[simp] theorem Mach.onMem_irqN : (s.onMem n f).irqN = s.irqN := rfl
end

/-! ### onHp -/

section
variable (s : Mach) (n : Nat) (f : HpObj → HpObj)
@[simp] theorem Mach.onHp_variant : (s.onHp n f).variant = s.variant := rfl
@[simp] theorem Mach.onHp_regs : (s.onHp n f).regs = s.regs := rfl
@[simp] theorem Mach.onHp_live : (s.onHp n f).live = s.live := rfl
@[simp] theorem Mach.onHp_hold : (s.onHp n f).hold = s.hold := rfl
@[simp] theorem Mach.onHp_mem : (s.onHp n f).mem = s.mem := rfl
@[simp] theorem Mach.onHp_free : (s.onHp n f).free = s.free := rfl
@[simp] theorem Mach.onHp_err : (s.onHp n f).err = s.err := rfl
@[simp] theorem Mach.onHp_tm : (s.onHp n f).tm = s.tm := rfl
@[simp] theorem Mach.onHp_pll : (s.onHp n f).pll = s.pll := rfl
@[simp] theorem Mach.onHp_bus : (s.onHp n f).bus = s.bus := rfl
@[simp] theorem Mach.onHp_dma : (s.onHp n f).dma = s.dma := rfl
@[simp] theorem Mach.onHp_ddr : (s.onHp n f).ddr = s.ddr := rfl
@[simp] theorem Mach.onHp_sys : (s.onHp n f).sys = s.sys := rfl
@[simp] theorem Mach.onHp_asp : (s.onHp n f).asp = s.asp := rfl
@[simp] theorem Mach.onHp_cmd : (s.onHp n f).cmd = s.cmd := rfl
@[simp] theorem Mach.onHp_sch : (s.onHp n f).sch = s.sch := rfl
@[simp] theorem Mach.onHp_net0 : (s.onHp n f).net0 = s.net0 := rfl
@[simp] theorem Mach.onHp_net1 : (s.onHp n f).net1 = s.net1 := rfl
@[simp] theorem Mach.onHp_sin : (s.onHp n f).sin = s.sin := rfl
@[simp] theorem Mach.onHp_sout : (s.onHp n f).sout = s.sout := rfl
@[simp] theorem Mach.onHp_disc : (s.onHp n f).disc = s.disc := rfl
@[simp] theorem Mach.onHp_irqN : (s.onHp n f).irqN = s.irqN := rfl
end

/-! ### onSink -/

section
variable (s : Mach) (n : Nat) (f : Sink → Sink)
@[simp] theorem Mach.onSink_variant : (s.onSink n f).variant = s.variant := rfl
@[simp] theorem Mach.onSink_regs : (s.onSink n f).regs = s.regs := rfl
@[simp] theorem Mach.onSink_live : (s.onSink n f).live = s.live := rfl
@[simp] theorem Mach.onSink_hold : (s.onSink n f).hold = s.hold := rfl
@[simp] theorem Mach.onSink_mem : (s.onSink n f).mem = s.mem := rfl
@[simp] theorem Mach.onSink_free : (s.onSink n f).free = s.free := rfl
@[simp] theorem Mach.onSink_err : (s.onSink n f).err = s.err := rfl
@[simp] theorem Mach.onSink_tm : (s.onSink n f).tm = s.tm := rfl
@[simp] theorem Mach.onSink_pll : (s.onSink n f).pll = s.pll := rfl
@[simp] theorem Mach.onSink_bus : (s.onSink n f).bus = s.bus := rfl
@[simp] theorem Mach.onSink_dma : (s.onSink n f).dma = s.dma := rfl
@[simp] theorem Mach.onSink_ddr : (s.onSink n f).ddr = s.ddr := rfl
@[simp] theorem Mach.onSink_sys : (s.onSink n f).sys = s.sys := rfl
@[simp] theorem Mach.onSink_asp : (s.onSink n f).asp = s.asp := rfl
@[simp] theorem Mach.onSink_cmd : (s.onSink n f).cmd = s.cmd := rfl
@[simp] theorem Mach.onSink_sch : (s.onSink n f).sch = s.sch := rfl
@[simp] theorem Mach.onSink_net0 : (s.onSink n f).net0 = s.net0 := rfl
@[simp] theorem Mach.onSink_net1 : (s.onSink n f).net1 = s.net1 := rfl
@[simp] theorem Mach.onSink_sin : (s.onSink n f).sin = s.sin := rfl
@[simp] theorem Mach.onSink_sout : (s.onSink n f).sout = s.sout := rfl
@[simp] theorem Mach.onSink_disc : (s.onSink n f).disc = s.disc := rfl
@[simp] theorem Mach.onSink_irqN : (s.onSink n f).irqN = s.irqN := rfl
end

/-! ### onMove -/

section
variable (s : Mach) (f : PwrMove → PwrMove)
@[simp] theorem Mach.onMove_variant : (s.onMove f).variant = s.variant := rfl
@[simp] theorem Mach.onMove_regs : (s.onMove f).regs = s.regs := rfl
@[simp] theorem Mach.onMove_live : (s.onMove f).live = s.live := rfl
@[simp] theorem Mach.onMove_hold : (s.onMove f).hold = s.hold := rfl
@[simp] theorem Mach.onMove_mem : (s.onMove f).mem = s.mem := rfl
@[simp] theorem Mach.onMove_free : (s.onMove f).free = s.free := rfl
@[simp] theorem Mach.onMove_err : (s.onMove f).err = s.err := rfl
@[simp] theorem Mach.onMove_tm : (s.onMove f).tm = s.tm := rfl
@[simp] theorem Mach.onMove_pll : (s.onMove f).pll = s.pll := rfl
@[simp] theorem Mach.onMove_bus : (s.onMove f).bus = s.bus := rfl
@[simp] theorem Mach.onMove_dma : (s.onMove f).dma = s.dma := rfl
@[simp] theorem Mach.onMove_ddr : (s.onMove f).ddr = s.ddr := rfl
@[simp] theorem Mach.onMove_asp : (s.onMove f).asp = s.asp := rfl
@[simp] theorem Mach.onMove_cmd : (s.onMove f).cmd = s.cmd := rfl
@[simp] theorem Mach.onMove_sch : (s.onMove f).sch = s.sch := rfl
@[simp] theorem Mach.onMove_net0 : (s.onMove f).net0 = s.net0 := rfl
@[simp] theorem Mach.onMove_net1 : (s.onMove f).net1 = s.net1 := rfl
@[simp] theorem Mach.onMove_sin : (s.onMove f).sin = s.sin := rfl
@[simp] theorem Mach.onMove_sout : (s.onMove f).sout = s.sout := rfl
@[simp] theorem Mach.onMove_disc : (s.onMove f).disc = s.disc := rfl
@[simp] theorem Mach.onMove_rend : (s.onMove f).rend = s.rend := rfl
@[simp] theorem Mach.onMove_irqN : (s.onMove f).irqN = s.irqN := rfl
end

/-! ### onJtag -/

section
variable (s : Mach) (f : JtagSt → JtagSt)
@[simp] theorem Mach.onJtag_variant : (s.onJtag f).variant = s.variant := rfl
@[simp] theorem Mach.onJtag_regs : (s.onJtag f).regs = s.regs := rfl
@[simp] theorem Mach.onJtag_live : (s.onJtag f).live = s.live := rfl
@[simp] theorem Mach.onJtag_hold : (s.onJtag f).hold = s.hold := rfl
@[simp] theorem Mach.onJtag_mem : (s.onJtag f).mem = s.mem := rfl
@[simp] theorem Mach.onJtag_free : (s.onJtag f).free = s.free := rfl
@[simp] theorem Mach.onJtag_err : (s.onJtag f).err = s.err := rfl
@[simp] theorem Mach.onJtag_tm : (s.onJtag f).tm = s.tm := rfl
@[simp] theorem Mach.onJtag_pll : (s.onJtag f).pll = s.pll := rfl
@[simp] theorem Mach.onJtag_bus : (s.onJtag f).bus = s.bus := rfl
@[simp] theorem Mach.onJtag_dma : (s.onJtag f).dma = s.dma := rfl
@[simp] theorem Mach.onJtag_ddr : (s.onJtag f).ddr = s.ddr := rfl
@[simp] theorem Mach.onJtag_asp : (s.onJtag f).asp = s.asp := rfl
@[simp] theorem Mach.onJtag_cmd : (s.onJtag f).cmd = s.cmd := rfl
@[simp] theorem Mach.onJtag_sch : (s.onJtag f).sch = s.sch := rfl
@[simp] theorem Mach.onJtag_net0 : (s.onJtag f).net0 = s.net0 := rfl
@[simp] theorem Mach.onJtag_net1 : (s.onJtag f).net1 = s.net1 := rfl
@[simp] theorem Mach.onJtag_sin : (s.onJtag f).sin = s.sin := rfl
@[simp] theorem Mach.onJtag_sout : (s.onJtag f).sout = s.sout := rfl
@[simp] theorem Mach.onJtag_disc : (s.onJtag f).disc = s.disc := rfl
@[simp] theorem Mach.onJtag_rend : (s.onJtag f).rend = s.rend := rfl
@[simp] theorem Mach.onJtag_irqN : (s.onJtag f).irqN = s.irqN := rfl
end

/-! ### onPort -/

section
variable (s : Mach) (p : Nat) (f : PortTime → PortTime)
@[simp] theorem Mach.onPort_variant : (s.onPort p f).variant = s.variant := rfl
@[simp] theorem Mach.onPort_regs : (s.onPort p f).regs = s.regs := rfl
@[simp] theorem Mach.onPort_live : (s.onPort p f).live = s.live := rfl
@[simp] theorem Mach.onPort_hold : (s.onPort p f).hold = s.hold := rfl
@[simp] theorem Mach.onPort_mem : (s.onPort p f).mem = s.mem := rfl
@[simp] theorem Mach.onPort_free : (s.onPort p f).free = s.free := rfl
@[simp] theorem Mach.onPort_err : (s.onPort p f).err = s.err := rfl
@[simp] theorem Mach.onPort_pll : (s.onPort p f).pll = s.pll := rfl
@[simp] theorem Mach.onPort_bus : (s.onPort p f).bus = s.bus := rfl
@[simp] theorem Mach.onPort_dma : (s.onPort p f).dma = s.dma := rfl
@[simp] theorem Mach.onPort_ddr : (s.onPort p f).ddr = s.ddr := rfl
@[simp] theorem Mach.onPort_sys : (s.onPort p f).sys = s.sys := rfl
@[simp] theorem Mach.onPort_asp : (s.onPort p f).asp = s.asp := rfl
@[simp] theorem Mach.onPort_cmd : (s.onPort p f).cmd = s.cmd := rfl
@[simp] theorem Mach.onPort_sch : (s.onPort p f).sch = s.sch := rfl
@[simp] theorem Mach.onPort_net0 : (s.onPort p f).net0 = s.net0 := rfl
@[simp] theorem Mach.onPort_net1 : (s.onPort p f).net1 = s.net1 := rfl
@[simp] theorem Mach.onPort_sin : (s.onPort p f).sin = s.sin := rfl
@[simp] theorem Mach.onPort_sout : (s.onPort p f).sout = s.sout := rfl
@[simp] theorem Mach.onPort_disc : (s.onPort p f).disc = s.disc := rfl
@[simp] theorem Mach.onPort_rend : (s.onPort p f).rend = s.rend := rfl
@[simp] theorem Mach.onPort_irqN : (s.onPort p f).irqN = s.irqN := rfl
end

/-! ### onNet, fresh, when -/

section
variable (s : Mach) (p : Nat) (f : NetPort → NetPort)
@[simp] theorem Mach.onNet_variant : (s.onNet p f).variant = s.variant := by unfold Mach.onNet; split <;> rfl
@[simp] theorem Mach.onNet_regs : (s.onNet p f).regs = s.regs := by unfold Mach.onNet; split <;> rfl
@[simp] theorem Mach.onNet_live : (s.onNet p f).live = s.live := by unfold Mach.onNet; split <;> rfl
@[simp] theorem Mach.onNet_hold : (s.onNet p f).hold = s.hold := by unfold Mach.onNet; split <;> rfl
@[simp] theorem Mach.onNet_mem : (s.onNet p f).mem = s.mem := by unfold Mach.onNet; split <;> rfl
@[simp] theorem Mach.onNet_free : (s.onNet p f).free = s.free := by unfold Mach.onNet; split <;> rfl
@[simp] theorem Mach.onNet_err : (s.onNet p f).err = s.err := by unfold Mach.onNet; split <;> rfl
@[simp] theorem Mach.onNet_tm : (s.onNet p f).tm = s.tm := by unfold Mach.onNet; split <;> rfl
@[simp] theorem Mach.onNet_pll : (s.onNet p f).pll = s.pll := by unfold Mach.onNet; split <;> rfl
@[simp] theorem Mach.onNet_bus : (s.onNet p f).bus = s.bus := by unfold Mach.onNet; split <;> rfl
@[simp] theorem Mach.onNet_dma : (s.onNet p f).dma = s.dma := by unfold Mach.onNet; split <;> rfl
@[simp] theorem Mach.onNet_ddr : (s.onNet p f).ddr = s.ddr := by unfold Mach.onNet; split <;> rfl
@[simp] theorem Mach.onNet_sys : (s.onNet p f).sys = s.sys := by unfold Mach.onNet; split <;> rfl
@[simp] theorem Mach.onNet_asp : (s.onNet p f).asp = s.asp := by unfold Mach.onNet; split <;> rfl
@[simp] theorem Mach.onNet_cmd : (s.onNet p f).cmd = s.cmd := by unfold Mach.onNet; split <;> rfl
@[simp] theorem Mach.onNet_sch : (s.onNet p f).sch = s.sch := by unfold Mach.onNet; split <;> rfl
@[simp] theorem Mach.onNet_sin : (s.onNet p f).sin = s.sin := by unfold Mach.onNet; split <;> rfl
@[simp] theorem Mach.onNet_sout : (s.onNet p f).sout = s.sout := by unfold Mach.onNet; split <;> rfl
@[simp] theorem Mach.onNet_disc : (s.onNet p f).disc = s.disc := by unfold Mach.onNet; split <;> rfl
@[simp] theorem Mach.onNet_irqN : (s.onNet p f).irqN = s.irqN := by unfold Mach.onNet; split <;> rfl
@[simp] theorem Mach.onNet_rend : (s.onNet p f).rend = s.rend := by unfold Mach.onNet; split <;> rfl
end

@[simp] theorem Mach.fresh_variant (s : Mach) : s.fresh.2.variant = s.variant := rfl
@[simp] theorem Mach.fresh_regs (s : Mach) : s.fresh.2.regs = s.regs := rfl
@[simp] theorem Mach.fresh_live (s : Mach) : s.fresh.2.live = s.live := rfl
@[simp] theorem Mach.fresh_hold (s : Mach) : s.fresh.2.hold = s.hold := rfl
@[simp] theorem Mach.fresh_mem (s : Mach) : s.fresh.2.mem = s.mem := rfl
@[simp] theorem Mach.fresh_free (s : Mach) : s.fresh.2.free = s.free + 1 := rfl
@[simp] theorem Mach.fresh_fst (s : Mach) : s.fresh.1 = s.free := rfl
@[simp] theorem Mach.fresh_err (s : Mach) : s.fresh.2.err = s.err := rfl
@[simp] theorem Mach.fresh_tm (s : Mach) : s.fresh.2.tm = s.tm := rfl
@[simp] theorem Mach.fresh_pll (s : Mach) : s.fresh.2.pll = s.pll := rfl
@[simp] theorem Mach.fresh_bus (s : Mach) : s.fresh.2.bus = s.bus := rfl
@[simp] theorem Mach.fresh_dma (s : Mach) : s.fresh.2.dma = s.dma := rfl
@[simp] theorem Mach.fresh_ddr (s : Mach) : s.fresh.2.ddr = s.ddr := rfl
@[simp] theorem Mach.fresh_sys (s : Mach) : s.fresh.2.sys = s.sys := rfl
@[simp] theorem Mach.fresh_asp (s : Mach) : s.fresh.2.asp = s.asp := rfl
@[simp] theorem Mach.fresh_cmd (s : Mach) : s.fresh.2.cmd = s.cmd := rfl
@[simp] theorem Mach.fresh_sch (s : Mach) : s.fresh.2.sch = s.sch := rfl
@[simp] theorem Mach.fresh_net0 (s : Mach) : s.fresh.2.net0 = s.net0 := rfl
@[simp] theorem Mach.fresh_net1 (s : Mach) : s.fresh.2.net1 = s.net1 := rfl
@[simp] theorem Mach.fresh_sin (s : Mach) : s.fresh.2.sin = s.sin := rfl
@[simp] theorem Mach.fresh_sout (s : Mach) : s.fresh.2.sout = s.sout := rfl
@[simp] theorem Mach.fresh_disc (s : Mach) : s.fresh.2.disc = s.disc := rfl
@[simp] theorem Mach.fresh_irqN (s : Mach) : s.fresh.2.irqN = s.irqN := rfl
@[simp] theorem Mach.fresh_rend (s : Mach) : s.fresh.2.rend = s.rend := rfl
@[simp] theorem Mach.when_true (s : Mach) (f : Mach → Mach) : s.when true f = f s := rfl
@[simp] theorem Mach.when_false (s : Mach) (f : Mach → Mach) : s.when false f = s := rfl
@[simp] theorem Mach.each_nil {α : Type} (s : Mach) (f : Mach → α → Mach) : s.each [] f = s := rfl
@[simp] theorem Mach.each_cons {α : Type} (s : Mach) (a : α) (l : List α) (f : Mach → α → Mach) :
    s.each (a :: l) f = (f s a).each l f := rfl

/-! ### The block -/

@[simp] theorem State.reset_pending : State.reset.pending = [] := rfl
@[simp] theorem State.reset_m : State.reset.m = Mach.reset := rfl

end Sys2Proof.Machine
end

