-- ==== Sys2Proof/Laws/Exec.lean ====
section
/-! SUPPORT. The forms in which commands reach the part: what each answers, and that no command touches the queue. -/
namespace Sys2Proof.Machine

theorem take_next {ok : Bool} {f : Mach → Mach} {s t : State} (h : take ok f s = .next t) :
    t.pending = s.pending ∧ t.m = if ok = false ∨ s.m.sys.railsOff = true then s.m else (f s.m).fin := by
  cases h
  cases ok <;> cases hr : s.m.sys.railsOff <;> simp

theorem takeAlways_next {ok : Bool} {f : Mach → Mach} {s t : State} (h : takeAlways ok f s = .next t) :
    t.pending = s.pending ∧ t.m = if ok then (f s.m).fin else s.m := by
  cases h
  cases ok <;> simp

/-- With its rails, the part takes a well-formed command. -/
theorem take_live (f : Mach → Mach) (s : State) (h : s.m.sys.railsOff = false) :
    take true f s = .next { s with m := (f s.m).fin } := by simp [take, h]

/-- Without its rails, the part is left as it is. -/
theorem take_dark (f : Mach → Mach) (s : State) (h : s.m.sys.railsOff = true) : take true f s = .next s := by
  simp [take, h]

@[simp] theorem take_bad (f : Mach → Mach) (s : State) : take false f s = .next s := rfl
@[simp] theorem takeAlways_bad (f : Mach → Mach) (s : State) : takeAlways false f s = .next s := rfl
@[simp] theorem takeAlways_ok (f : Mach → Mach) (s : State) : takeAlways true f s = .next { s with m := (f s.m).fin } := rfl

/-- An opcode at its release, on a part with its rails that takes commands. -/
theorem issue_live (op : Nat) (f : OpBody) (o : Origin) (p : List Byte) (obs : List Nat) (s : State) (hk : o.ok = true)
    (hp : s.m.sys.railsOff = false) : issue op f o p obs s = .next { s with m := (runOp o op f p obs s.m).fin } := by
  simp [issue, hk, take_live _ _ hp]

/-- The step takes the command that has waited longest, on the queue's rest. -/
theorem step_cons (c : Instr) (r : List Instr) (m : Mach) : step ⟨c :: r, m⟩ = exec c ⟨r, m⟩ := rfl

theorem step_nil (m : Mach) : step ⟨[], m⟩ = .next ⟨[], m⟩ := rfl

/-! ## What every command ends with -/

theorem powerCheck_idle (s : Mach) (h : s.sys.move = none) : s.powerCheck = s := by simp [Mach.powerCheck, h]

theorem closeDone_idle (s : Mach) (h : s.cmd.running = []) : s.closeDone = s := by simp [Mach.closeDone, h]

/-- Where nothing else falls due, a command ends with the interrupts formed anew. -/
theorem fin_idle (s : Mach) (hl : s.loadsRun = s) (hw : s.lockWatch = s) (hm : s.sys.move = none) (hr : s.cmd.running = []) :
    s.fin = s.settle := by
  rw [Mach.fin, hl, hw, powerCheck_idle s hm, Mach.after, closeDone_idle s hr]

end Sys2Proof.Machine
end

