-- ==== Sys2Proof/Laws/Arms.lean ====
section
/-! SUPPORT. The two forms in which a command reaches the part, said once for every row of the table. -/
namespace Sys2Proof.Machine

/-- Every command is taken in one of two forms: by a part that has its rails, or by any part. -/
theorem exec_form (c : Instr) (s : State) :
    ∃ f : Mach → Mach, exec c s = take c.wellFormed f s ∨ exec c s = takeAlways c.wellFormed f s := by
  cases c <;> first
    | exact ⟨_, .inl rfl⟩
    | exact ⟨_, .inr rfl⟩

end Sys2Proof.Machine
end

