-- ==== Sys2Proof/Laws/Regs.lean ====
section
/-! SUPPORT. Sparse tables, bit fields and registers: what a read gives after a write. -/
namespace Sys2Proof.Machine

/-! ## Sparse tables -/

theorem mget_mput_self {α : Type} (d : α) (m : SMap α) (k : Nat) (v : α) : mget d (mput m k v) k = v := by
  induction m with
  | nil => simp [mput, mget]
  | cons e r ih =>
    obtain ⟨j, w⟩ := e
    unfold mput
    split
    · simp [mget]
    · split
      · simp [mget]
      · have : j ≠ k := by omega
        simp [mget, this, ih]

theorem mget_mput_ne {α : Type} (d : α) (m : SMap α) {k n : Nat} (v : α) (h : k ≠ n) :
    mget d (mput m k v) n = mget d m n := by
  induction m with
  | nil => simp [mput, mget, h]
  | cons e r ih =>
    obtain ⟨j, w⟩ := e
    unfold mput
    split
    · simp [mget, h]
    · split
      · subst_vars; simp [mget, h]
      · simp [mget, ih]

theorem mfind_mput_self {α : Type} (m : SMap α) (k : Nat) (v : α) : mfind (mput m k v) k = some v := by
  induction m with
  | nil => simp [mput, mfind]
  | cons e r ih =>
    obtain ⟨j, w⟩ := e
    unfold mput
    split
    · simp [mfind]
    · split
      · simp [mfind]
      · have : j ≠ k := by omega
        simp [mfind, this, ih]

theorem mfind_mput_ne {α : Type} (m : SMap α) {k n : Nat} (v : α) (h : k ≠ n) : mfind (mput m k v) n = mfind m n := by
  induction m with
  | nil => simp [mput, mfind, h]
  | cons e r ih =>
    obtain ⟨j, w⟩ := e
    unfold mput
    split
    · simp [mfind, h]
    · split
      · subst_vars; simp [mfind, h]
      · simp [mfind, ih]

theorem mget_mdel_self {α : Type} (d : α) (m : SMap α) (k : Nat) : mget d (mdel m k) k = d := by
  induction m with
  | nil => rfl
  | cons e r ih =>
    unfold mdel at ih ⊢
    by_cases h : e.1 = k
    · rw [List.filter_cons_of_neg (by simp [h])]; exact ih
    · rw [List.filter_cons_of_pos (by simp [h])]; simpa only [mget, h, if_false] using ih

theorem mget_mdel_ne {α : Type} (d : α) (m : SMap α) {k n : Nat} (h : k ≠ n) : mget d (mdel m k) n = mget d m n := by
  induction m with
  | nil => rfl
  | cons e r ih =>
    unfold mdel at ih ⊢
    by_cases hj : e.1 = k
    · rw [List.filter_cons_of_neg (by simp [hj])]
      have : ¬ e.1 = n := by omega
      simpa only [mget, this, if_false] using ih
    · rw [List.filter_cons_of_pos (by simp [hj])]
      simp only [mget, ih]

@[simp] theorem mget_nil {α : Type} (d : α) (k : Nat) : mget d [] k = d := rfl
@[simp] theorem mfind_nil {α : Type} (k : Nat) : mfind ([] : SMap α) k = none := rfl

/-! ## Bit fields -/

theorem bits_lt (v lo len : Nat) : bits v lo len < 2 ^ len := Nat.mod_lt _ (by positivity)

theorem bits_eq (v lo len : Nat) : bits v lo len = v / 2 ^ lo % 2 ^ len := by simp [bits, Nat.shiftRight_eq_div_pow]

/-- A word splits at a field. -/
theorem bits_split (v lo len : Nat) :
    v = v / 2 ^ (lo + len) * 2 ^ (lo + len) + bits v lo len * 2 ^ lo + v % 2 ^ lo := by
  rw [bits_eq]
  have h1 := Nat.div_add_mod v (2 ^ lo)
  have h2 := Nat.div_add_mod (v / 2 ^ lo) (2 ^ len)
  rw [Nat.div_div_eq_div_mul, ← pow_add] at h2
  have h3 : v / 2 ^ (lo + len) * 2 ^ (lo + len) = 2 ^ lo * (2 ^ len * (v / 2 ^ (lo + len))) := by
    rw [pow_add]; ring
  rw [h3]
  have h4 : 2 ^ lo * (2 ^ len * (v / 2 ^ (lo + len)) + v / 2 ^ lo % 2 ^ len) = 2 ^ lo * (v / 2 ^ lo) := by rw [h2]
  rw [Nat.mul_add] at h4
  rw [Nat.mul_comm (v / 2 ^ lo % 2 ^ len)]
  omega

theorem putBits_eq (v lo len x : Nat) :
    putBits v lo len x = v / 2 ^ (lo + len) * 2 ^ (lo + len) + (x % 2 ^ len) * 2 ^ lo + v % 2 ^ lo := by
  have h := bits_split v lo len
  unfold putBits
  omega

theorem bits_putBits_self (v lo len x : Nat) : bits (putBits v lo len x) lo len = x % 2 ^ len := by
  rw [putBits_eq, bits_eq]
  have hp : 0 < 2 ^ lo := by positivity
  have : v / 2 ^ (lo + len) * 2 ^ (lo + len) + x % 2 ^ len * 2 ^ lo + v % 2 ^ lo
      = v % 2 ^ lo + 2 ^ lo * (x % 2 ^ len + 2 ^ len * (v / 2 ^ (lo + len))) := by rw [pow_add]; ring
  rw [this, Nat.add_mul_div_left _ _ hp, Nat.div_eq_of_lt (Nat.mod_lt _ hp), Nat.zero_add, Nat.add_mul_mod_self_left,
    Nat.mod_mod]

theorem bits_putBits_above (v lo len x l n : Nat) (h : lo + len ≤ l) : bits (putBits v lo len x) l n = bits v l n := by
  rw [putBits_eq, bits_eq, bits_eq]
  congr 1
  have hb : (x % 2 ^ len) * 2 ^ lo + v % 2 ^ lo < 2 ^ (lo + len) := by
    have h1 : x % 2 ^ len < 2 ^ len := Nat.mod_lt _ (by positivity)
    have h2 : v % 2 ^ lo < 2 ^ lo := Nat.mod_lt _ (by positivity)
    rw [pow_add]; nlinarith [Nat.two_pow_pos lo]
  obtain ⟨k, rfl⟩ := Nat.exists_eq_add_of_le h
  rw [pow_add 2 (lo + len) k, ← Nat.div_div_eq_div_mul, ← Nat.div_div_eq_div_mul]
  congr 1
  have : v / 2 ^ (lo + len) * 2 ^ (lo + len) + x % 2 ^ len * 2 ^ lo + v % 2 ^ lo
      = (x % 2 ^ len * 2 ^ lo + v % 2 ^ lo) + 2 ^ (lo + len) * (v / 2 ^ (lo + len)) := by ring
  rw [this, Nat.add_mul_div_left _ _ (by positivity), Nat.div_eq_of_lt hb, Nat.zero_add]

theorem bits_putBits_below (v lo len x l n : Nat) (h : l + n ≤ lo) : bits (putBits v lo len x) l n = bits v l n := by
  have hm : ∀ w : Nat, bits w l n = bits (w % 2 ^ lo) l n := by
    intro w
    rw [bits_eq, bits_eq]
    obtain ⟨k, rfl⟩ := Nat.exists_eq_add_of_le h
    have e : 2 ^ (l + n + k) = 2 ^ l * (2 ^ n * 2 ^ k) := by rw [pow_add, pow_add]; ring
    rw [e, Nat.mod_mul_right_div_self, Nat.mod_mul_right_mod]
  rw [hm (putBits v lo len x), hm v]
  congr 1
  rw [putBits_eq, pow_add]
  have : v / (2 ^ lo * 2 ^ len) * (2 ^ lo * 2 ^ len) + x % 2 ^ len * 2 ^ lo + v % 2 ^ lo
      = v % 2 ^ lo + 2 ^ lo * (v / (2 ^ lo * 2 ^ len) * 2 ^ len + x % 2 ^ len) := by ring
  rw [this, Nat.add_mul_mod_self_left, Nat.mod_mod]

theorem putBits_lt (v lo len x w : Nat) (hv : v < 2 ^ w) (h : lo + len ≤ w) : putBits v lo len x < 2 ^ w := by
  rw [putBits_eq]
  obtain ⟨k, rfl⟩ := Nat.exists_eq_add_of_le h
  have h1 : x % 2 ^ len < 2 ^ len := Nat.mod_lt _ (by positivity)
  have h2 : v % 2 ^ lo < 2 ^ lo := Nat.mod_lt _ (by positivity)
  have h3 : v / 2 ^ (lo + len) < 2 ^ k := by
    apply Nat.div_lt_of_lt_mul; rw [← pow_add]; exact hv
  have hb : (x % 2 ^ len) * 2 ^ lo + v % 2 ^ lo < 2 ^ (lo + len) := by
    rw [pow_add]; nlinarith [Nat.two_pow_pos lo]
  rw [pow_add 2 (lo + len) k]
  nlinarith [Nat.two_pow_pos (lo + len)]

/-! ## Registers -/

theorem Mach.rd_lt (s : Mach) (r : Reg) (i j : Nat) : s.rd r i j < 2 ^ 32 := BitVec.isLt _

theorem Mach.rd_wr_self (s : Mach) (r : Reg) (v i j : Nat) : (s.wr r v i j).rd r i j = v % 2 ^ 32 := by
  simp [Mach.rd, mget_mput_self]

theorem Mach.rd_wr_ne (s : Mach) {r q : Reg} (v : Nat) {i j a b : Nat} (h : r.at_ i j ≠ q.at_ a b) :
    (s.wr r v i j).rd q a b = s.rd q a b := by
  simp [Mach.rd, mget_mput_ne _ _ _ h]

theorem Mach.rd_sf_ne (s : Mach) {f : Fld} {q : Reg} (v : Nat) {i j a b : Nat} (h : f.reg.at_ i j ≠ q.at_ a b) :
    (s.sf f v i j).rd q a b = s.rd q a b := Mach.rd_wr_ne s _ h

/-- A write leaves every register at another address alone. -/
theorem Mach.gf_wr_ne (s : Mach) {r : Reg} {g : Fld} (v : Nat) {i j a b : Nat} (h : r.at_ i j ≠ g.reg.at_ a b) :
    (s.wr r v i j).gf g a b = s.gf g a b := by
  simp only [Mach.gf, Mach.rd_wr_ne s v h]

theorem Mach.gf_sf_self (s : Mach) (f : Fld) (v i j : Nat) (h : f.lo + f.len ≤ 32) :
    (s.sf f v i j).gf f i j = v % 2 ^ f.len := by
  simp only [Mach.gf, Mach.sf, Mach.rd_wr_self]
  rw [Nat.mod_eq_of_lt (putBits_lt _ _ _ _ _ (Mach.rd_lt ..) h), bits_putBits_self]

theorem Mach.gf_sf_ne (s : Mach) {f g : Fld} (v : Nat) {i j a b : Nat} (h : f.reg.at_ i j ≠ g.reg.at_ a b) :
    (s.sf f v i j).gf g a b = s.gf g a b := Mach.gf_wr_ne s _ h

/-- Setting a field leaves the disjoint fields of its register alone. -/
theorem Mach.gf_sf_disjoint (s : Mach) {f g : Fld} (v i j : Nat) (hr : g.reg = f.reg) (hf : f.lo + f.len ≤ 32)
    (h : f.lo + f.len ≤ g.lo ∨ g.lo + g.len ≤ f.lo) : (s.sf f v i j).gf g i j = s.gf g i j := by
  simp only [Mach.gf, Mach.sf, hr, Mach.rd_wr_self]
  rw [Nat.mod_eq_of_lt (putBits_lt _ _ _ _ _ (Mach.rd_lt ..) hf)]
  rcases h with h | h
  · exact bits_putBits_above _ _ _ _ _ _ h
  · exact bits_putBits_below _ _ _ _ _ _ h

end Sys2Proof.Machine
end

