-- ==== Sys2Proof/Laws/Memory.lean ====
section
/-! SUPPORT. Memory: every operation keeps the canonical form, a read after a write gives what was written, and a write leaves
every other byte alone. -/
namespace Sys2Proof.Machine

/-! ## The canonical form -/

theorem rising_mono {α : Type} {n k : Nat} (m : SMap α) (h : n ≤ k) : risingFrom k m = true → risingFrom n m = true := by
  cases m with
  | nil => intro _; rfl
  | cons e r =>
    obtain ⟨j, w⟩ := e
    simp only [risingFrom, Bool.and_eq_true, decide_eq_true_eq]
    exact fun ⟨a, b⟩ => ⟨by omega, b⟩

theorem rising_filter {α : Type} (p : Nat × α → Bool) (m : SMap α) (n : Nat) (h : risingFrom n m = true) :
    risingFrom n (m.filter p) = true := by
  induction m generalizing n with
  | nil => rfl
  | cons e r ih =>
    obtain ⟨j, w⟩ := e
    simp only [risingFrom, Bool.and_eq_true, decide_eq_true_eq] at h
    by_cases hp : p (j, w) = true
    · rw [List.filter_cons_of_pos hp]
      simp only [risingFrom, Bool.and_eq_true, decide_eq_true_eq]
      exact ⟨h.1, ih _ h.2⟩
    · rw [List.filter_cons_of_neg hp]
      exact rising_mono _ (by omega) (ih _ h.2)

theorem rising_mput {α : Type} (m : SMap α) (n k : Nat) (v : α) (hn : n ≤ k) (h : risingFrom n m = true) :
    risingFrom n (mput m k v) = true := by
  induction m generalizing n with
  | nil => simp [mput, risingFrom, hn]
  | cons e r ih =>
    obtain ⟨j, w⟩ := e
    simp only [risingFrom, Bool.and_eq_true, decide_eq_true_eq] at h
    unfold mput
    split
    · simp only [risingFrom, Bool.and_eq_true, decide_eq_true_eq]; exact ⟨hn, by omega, h.2⟩
    · split
      · subst_vars; simp only [risingFrom, Bool.and_eq_true, decide_eq_true_eq]; exact ⟨hn, h.2⟩
      · simp only [risingFrom, Bool.and_eq_true, decide_eq_true_eq]
        exact ⟨h.1, ih _ (by omega) h.2⟩

theorem mem_mput {α : Type} (m : SMap α) (k : Nat) (v : α) (e : Nat × α) (h : e ∈ mput m k v) : e = (k, v) ∨ e ∈ m := by
  induction m with
  | nil => simpa [mput] using h
  | cons f r ih =>
    obtain ⟨j, w⟩ := f
    unfold mput at h
    split at h
    · simpa using h
    · split at h
      · rcases List.mem_cons.mp h with h | h
        · exact .inl h
        · exact .inr (List.mem_cons_of_mem _ h)
      · rcases List.mem_cons.mp h with h | h
        · exact .inr (by simp [h])
        · rcases ih h with h | h
          · exact .inl h
          · exact .inr (List.mem_cons_of_mem _ h)

theorem memory_wf_filter (p : Host.Cell → Bool) (m : List Host.Cell) (h : Memory.wf m = true) :
    Memory.wf (m.filter p) = true := by
  simp only [Memory.wf, Bool.and_eq_true, List.all_eq_true] at h ⊢
  exact ⟨rising_filter p m 0 h.1, fun e he => h.2 e (List.mem_filter.mp he).1⟩

/-- Storing one byte keeps the canonical form. -/
theorem memory_wf_memSet (m : List Host.Cell) (a : Nat) (b : Byte) (h : Memory.wf m = true) :
    Memory.wf (memSet m a b) = true := by
  unfold memSet
  split
  · exact memory_wf_filter _ m h
  · rename_i hb
    simp only [Memory.wf, Bool.and_eq_true, List.all_eq_true] at h ⊢
    refine ⟨rising_mput m 0 a b (Nat.zero_le _) h.1, fun e he => ?_⟩
    rcases mem_mput m a b e he with rfl | he
    · simpa using hb
    · exact h.2 e he

/-- Storing a string keeps the canonical form. -/
theorem memory_wf_memPut (l : List Byte) (m : List Host.Cell) (a : Nat) (h : Memory.wf m = true) :
    Memory.wf (memPut m a l) = true := by
  induction l generalizing m a with
  | nil => exact h
  | cons b r ih => exact ih _ _ (memory_wf_memSet m a b h)

theorem memory_wf_mwr (s : Mach) (a : Nat) (l : List Byte) (h : Memory.wf s.mem = true) : Memory.wf (s.mwr a l).mem = true :=
  memory_wf_memPut l s.mem a h

theorem memory_wf_kept (m : List Host.Cell) (h : Memory.wf m = true) : Memory.wf (keptMem m) = true :=
  memory_wf_filter _ m h

theorem memory_wf_dramLost (s : Mach) (h : Memory.wf s.mem = true) : Memory.wf s.dramLost.mem = true :=
  memory_wf_filter _ s.mem h

theorem memory_wf_reset : Memory.wf State.reset.m.mem = true := rfl

/-! ## Reading after writing -/

@[simp] theorem memByte_memSet_self (m : List Host.Cell) (a : Nat) (b : Byte) : memByte (memSet m a b) a = b := by
  unfold memByte memSet
  split
  · rw [mget_mdel_self]; exact Eq.symm (by assumption)
  · exact mget_mput_self ..

theorem memByte_memSet_ne (m : List Host.Cell) {a n : Nat} (b : Byte) (h : a ≠ n) : memByte (memSet m a b) n = memByte m n := by
  unfold memByte memSet
  split
  · exact mget_mdel_ne _ _ h
  · exact mget_mput_ne _ _ _ h

/-- A byte below the string stored is as before. -/
theorem memByte_memPut_below (l : List Byte) (m : List Host.Cell) (a n : Nat) (h : n < a) :
    memByte (memPut m a l) n = memByte m n := by
  induction l generalizing m a with
  | nil => rfl
  | cons b r ih => rw [memPut, ih _ _ (by omega), memByte_memSet_ne _ _ (by omega)]

/-- A byte above the string stored is as before. -/
theorem memByte_memPut_above (l : List Byte) (m : List Host.Cell) (a n : Nat) (h : a + l.length ≤ n) :
    memByte (memPut m a l) n = memByte m n := by
  induction l generalizing m a with
  | nil => rfl
  | cons b r ih =>
    simp only [List.length_cons] at h
    rw [memPut, ih _ _ (by omega), memByte_memSet_ne _ _ (by omega)]

/-- A byte of the string stored reads as the string gives. -/
theorem memByte_memPut_in (l : List Byte) (m : List Host.Cell) (a i : Nat) (h : i < l.length) :
    memByte (memPut m a l) (a + i) = l[i] := by
  induction l generalizing m a i with
  | nil => simp at h
  | cons b r ih =>
    cases i with
    | zero => simp [memPut, memByte_memPut_below r _ (a + 1) a (by omega)]
    | succ i =>
      have h' : i < r.length := by simpa using h
      have := ih (memSet m a b) (a + 1) i h'
      simp only [memPut, List.getElem_cons_succ]
      rw [← this]; congr 1; omega

end Sys2Proof.Machine
end

