-- ==== Sys2Proof/Laws/Bytes.lean ====
section
/-! SUPPORT. Byte strings: fields of what was put together, what memory gives back of what was stored, and the CRC's range. -/
namespace Sys2Proof.Machine

@[simp] theorem toLE_length (n v : Nat) : (toLE n v).length = n := by
  induction n generalizing v with
  | zero => rfl
  | succ n ih => simp [toLE, ih]

/-- A number's little-endian bytes give it back, as far as they reach. -/
theorem leNat_toLE (n v : Nat) : leNat (toLE n v) = v % 256 ^ n := by
  induction n generalizing v with
  | zero => simp [toLE, leNat, Nat.mod_one]
  | succ n ih =>
    simp only [toLE, leNat, ih, BitVec.toNat_ofNat]
    rw [show 256 ^ (n + 1) = 256 * 256 ^ n by ring, Nat.mod_mul]

/-- A slice within the first part of a string. -/
theorem slice_append_left (a b : List Byte) {o n : Nat} (h : o + n ≤ a.length) : slice (a ++ b) o n = slice a o n := by
  unfold slice
  rw [List.drop_append_of_le_length (by omega), List.take_append_of_le_length (by rw [List.length_drop]; omega)]

theorem fld_append_left (a b : List Byte) {o n : Nat} (h : o + n ≤ a.length) : fld (a ++ b) o n = fld a o n := by
  unfold fld; rw [slice_append_left a b h]

theorem length_repeat (n : Nat) (r : List Byte) : (List.replicate n r).flatten.length = n * r.length := by
  simp

theorem drop_repeat (n i : Nat) (r : List Byte) (h : i ≤ n) :
    (List.replicate n r).flatten.drop (i * r.length) = (List.replicate (n - i) r).flatten := by
  induction i generalizing n with
  | zero => simp
  | succ i ih =>
    obtain ⟨n, rfl⟩ : ∃ k, n = k + 1 := ⟨n - 1, by omega⟩
    rw [List.replicate_succ, List.flatten_cons, show (i + 1) * r.length = r.length + i * r.length by ring, ← List.drop_drop,
      List.drop_left, ih n (by omega)]
    congr 2; omega

/-- Entry i of a run of equal records. -/
theorem slice_repeat (pre post r : List Byte) (n i : Nat) (h : i < n) :
    slice (pre ++ ((List.replicate n r).flatten ++ post)) (pre.length + i * r.length) r.length = r := by
  unfold slice
  rw [← List.drop_drop, List.drop_left, List.drop_append_of_le_length (by rw [length_repeat]; exact Nat.mul_le_mul_right _ h.le),
    drop_repeat n i r h.le, show n - i = (n - i - 1) + 1 by omega, List.replicate_succ, List.flatten_cons, List.append_assoc,
    List.take_left]

/-- Memory gives back what was stored. -/
theorem memGet_memPut_self (l : List Byte) (m : List Host.Cell) (a : Nat) : memGet (memPut m a l) a l.length = l := by
  apply List.ext_getElem
  · simp [memGet, upto]
  · intro i h _
    simp only [memGet, upto, List.getElem_map, List.getElem_range]
    exact memByte_memPut_in l m a i (by simpa [memGet, upto] using h)

theorem memGet_memPut_below (l : List Byte) (m : List Host.Cell) (a b n : Nat) (h : b + n ≤ a) :
    memGet (memPut m a l) b n = memGet m b n := by
  apply List.map_congr_left
  intro i hi
  exact memByte_memPut_below l m a (b + i) (by have := List.mem_range.mp hi; omega)

theorem memGet_memPut_above (l : List Byte) (m : List Host.Cell) (a b n : Nat) (h : a + l.length ≤ b) :
    memGet (memPut m a l) b n = memGet m b n := by
  apply List.map_congr_left
  intro i _
  exact memByte_memPut_above l m a (b + i) (by omega)

/-! ## The CRC (R261) -/

theorem crcBit_lt {c : Nat} (h : c < 2 ^ 32) : crcBit c < 2 ^ 32 := by
  unfold crcBit
  split
  · exact Nat.xor_lt_two_pow (by omega) (by omega)
  · omega

theorem crcByte_lt {c : Nat} (b : Byte) (h : c < 2 ^ 32) : crcByte c b < 2 ^ 32 := by
  unfold crcByte
  iterate 8 apply crcBit_lt
  exact Nat.xor_lt_two_pow h (by have := b.isLt; omega)

theorem crcFold_lt (l : List Byte) {c : Nat} (h : c < 2 ^ 32) : l.foldl crcByte c < 2 ^ 32 := by
  induction l generalizing c with
  | nil => exact h
  | cons b r ih => exact ih (crcByte_lt b h)

theorem crc32c_lt (l : List Byte) : crc32c l < 2 ^ 32 :=
  Nat.xor_lt_two_pow (crcFold_lt l (by decide)) (by decide)

end Sys2Proof.Machine
end

