-- ==== Sys2Proof/Laws/Shared.lean ====
section
/-! SUPPORT. The shared operations: folds, error records, whole resets, memory of the part, what each can do. -/
namespace Sys2Proof.Machine

/-! ## Folds -/

/-- What every step of a fold keeps, the fold keeps. -/
theorem Mach.each_keeps {α : Type} (P : Mach → Prop) (f : Mach → α → Mach) (hf : ∀ s a, P s → P (f s a)) :
    ∀ (l : List α) (s : Mach), P s → P (s.each l f) := by
  intro l
  induction l with
  | nil => exact fun _ h => h
  | cons a r ih => exact fun s h => ih _ (hf s a h)

theorem Mach.when_keeps (P : Mach → Prop) (c : Bool) (f : Mach → Mach) (s : Mach) (hf : P s → P (f s)) (h : P s) :
    P (s.when c f) := by
  unfold Mach.when; split
  · exact hf h
  · exact h

/-! ## Registers far apart -/

/-- A register below the base of the one written is as before. -/
theorem Mach.rd_wr_below (s : Mach) {r q : Reg} (v i j a b : Nat) (h : q.at_ a b < r.base) :
    (s.wr r v i j).rd q a b = s.rd q a b := by
  apply Mach.rd_wr_ne
  unfold Reg.at_ at *
  omega

theorem Mach.gf_wr_below (s : Mach) {r : Reg} {g : Fld} (v i j a b : Nat) (h : g.reg.at_ a b < r.base) :
    (s.wr r v i j).gf g a b = s.gf g a b := by
  simp only [Mach.gf, Mach.rd_wr_below s v i j a b h]

theorem Mach.rd_setLv (s : Mach) (r q : Reg) (v i j a b : Nat) : (s.setLv r v i j).rd q a b = s.rd q a b := rfl
theorem Mach.gf_setLv (s : Mach) (r : Reg) (g : Fld) (v i j a b : Nat) : (s.setLv r v i j).gf g a b = s.gf g a b := rfl

/-! ## Error records (R536 to R541) -/

theorem Mach.errorsOnly_refl (s : Mach) : s.errorsOnly s := by simp [Mach.errorsOnly]
theorem Mach.errorsOnly_wr {s t : Mach} (r : Reg) (v i j : Nat) (h : s.errorsOnly t) : s.errorsOnly (t.wr r v i j) := h
theorem Mach.errorsOnly_sf {s t : Mach} (f : Fld) (v i j : Nat) (h : s.errorsOnly t) : s.errorsOnly (t.sf f v i j) := h
theorem Mach.errorsOnly_err {s t : Mach} (e : ErrSt) (h : s.errorsOnly t) : s.errorsOnly { t with err := e } := h
theorem Mach.errorsOnly_when {s t : Mach} (c : Bool) (f : Mach → Mach) (h : s.errorsOnly t)
    (hf : s.errorsOnly t → s.errorsOnly (f t)) : s.errorsOnly (t.when c f) := Mach.when_keeps (s.errorsOnly ·) c f t hf h

theorem Mach.errorsOnly_safe {s t : Mach} (h : s.errorsOnly t) : s.errorsOnly t.enterSafe := by
  unfold Mach.enterSafe; split <;> exact h

theorem Mach.errorsOnly_recEvt {s t : Mach} (n : Nat) (h : s.errorsOnly t) : s.errorsOnly (t.recEvt n) :=
  Mach.errorsOnly_when _ _ h (fun h => h)

/-- An occurrence changes registers and the error state alone. -/
theorem Mach.raise_frame {s t : Mach} (c : ECode) (i a : Nat) (h : s.errorsOnly t) : s.errorsOnly (t.raise c i a) := by
  have h0 : s.errorsOnly (t.step32 R.ERR_SEQ) := h
  unfold Mach.raise
  simp only []
  split
  · split
    · exact Mach.errorsOnly_safe (Mach.errorsOnly_recEvt _ (Mach.errorsOnly_err _ h0))
    · exact Mach.errorsOnly_recEvt _ (Mach.errorsOnly_err _ h0)
  · refine Mach.errorsOnly_when _ _ ?_ Mach.errorsOnly_safe
    refine Mach.errorsOnly_err _ (Mach.errorsOnly_when _ _ (Mach.errorsOnly_recEvt _ ?_) (fun h => h))
    split
    · exact Mach.errorsOnly_when _ _ h0 (fun h => h)
    · exact h0

/-- An occurrence leaves every register below the error block alone. -/
theorem Mach.raise_rd (s : Mach) (c : ECode) (i a : Nat) (q : Reg) (x y : Nat) (h : q.at_ x y < 0xD00000) :
    (s.raise c i a).rd q x y = s.rd q x y := by
  have low : ∀ (t : Mach) (r : Reg) (v i j : Nat), 0xD00000 ≤ r.base → (t.wr r v i j).rd q x y = t.rd q x y :=
    fun t r v i j hr => Mach.rd_wr_below t v i j x y (by omega)
  have recE : ∀ (t : Mach) (n : Nat), (t.recEvt n).rd q x y = t.rd q x y := by
    intro t n; unfold Mach.recEvt Mach.when; split
    · exact low _ _ _ _ _ (by decide)
    · rfl
  have safeE : ∀ (t : Mach), t.enterSafe.rd q x y = t.rd q x y := by
    intro t; unfold Mach.enterSafe; split
    · rfl
    · show ((t.sf F.ERR_STAT_SAFE 1).evt F.ERR_EVT_SAFE).rd q x y = _
      exact (low _ _ _ _ _ (by decide)).trans (low _ _ _ _ _ (by decide))
  have start : (s.step32 R.ERR_SEQ).rd q x y = s.rd q x y := low _ _ _ _ _ (by decide)
  unfold Mach.raise
  simp only []
  split
  · split
    · rw [safeE, recE]; exact start
    · rw [recE]; exact start
  · have fin : ∀ (t : Mach) (b : Bool), t.rd q x y = s.rd q x y → (t.when b Mach.enterSafe).rd q x y = s.rd q x y := by
      intro t b ht; unfold Mach.when; split
      · rw [safeE]; exact ht
      · exact ht
    apply fin
    have ev : ∀ (t : Mach) (b : Bool), (t.when b (·.evt F.ERR_EVT_FATAL)).rd q x y = t.rd q x y := by
      intro t b; unfold Mach.when; split
      · exact low _ _ _ _ _ (by decide)
      · rfl
    have key : ∀ (t : Mach) (e : ErrSt), Mach.rd { t with err := e } q x y = t.rd q x y := fun _ _ => rfl
    rw [key, ev, recE]
    split
    · unfold Mach.when; split
      · exact (low _ _ _ _ _ (by decide)).trans start
      · exact start
    · refine (low _ _ _ _ _ (by decide)).trans ((low _ _ _ _ _ (by decide)).trans start)

theorem Mach.raise_gf (s : Mach) (c : ECode) (i a : Nat) (g : Fld) (x y : Nat) (h : g.reg.at_ x y < 0xD00000) :
    (s.raise c i a).gf g x y = s.gf g x y := by
  simp only [Mach.gf, Mach.raise_rd s c i a g.reg x y h]

/-! ## Whole resets (R510 to R515) -/

/-- A whole reset of a part past P1 outside a storm: everything but what R513 keeps is at its reset value. -/
theorem Mach.wholeReset_spec (s : Mach) (c w : Nat) (ro : Bool) (h : s.calmStarts w) (hc : c < 9) :
    s.afterReset (s.wholeReset c w ro) c ∧ (s.wholeReset c w ro).sys.resetLow = s.sys.resetLow := by
  obtain ⟨h1, h2, h3⟩ := h
  have e1 : decide (s.phase < 2) = false := by simp; omega
  have e2 : (s.phase == 1) = false := by simp; omega
  unfold Mach.wholeReset
  simp only [h1, e1, e2, Bool.false_and, Bool.false_eq_true, if_false, Nat.not_le.mpr h3]
  refine ⟨⟨rfl, rfl, rfl, rfl, rfl, rfl, rfl, rfl, rfl, rfl, rfl, rfl, rfl, rfl, rfl, rfl, rfl, rfl, rfl, ?_, ?_⟩, rfl⟩
  · rw [Mach.gf_sf_self _ _ _ _ _ (by decide)]
    interval_cases c <;> decide
  · intro r i j hn
    have h4 : r.at_ i j ≠ 0x100000 ∧ r.at_ i j ≠ 0x204 ∧ r.at_ i j ≠ 0x208 ∧ r.at_ i j ≠ 0x20C := by
      simpa [keptRegs] using hn
    have a1 : R.SYS_RESET_CAUSE.at_ 0 0 ≠ r.at_ i j := fun e => h4.2.1 (e ▸ rfl)
    have a2 : R.SYS_STORM.at_ 0 0 ≠ r.at_ i j := fun e => h4.2.2.2 (e ▸ rfl)
    have a3 : R.CLK_STAT.at_ 0 0 ≠ r.at_ i j := fun e => h4.1 (e ▸ rfl)
    have a4 : R.SYS_WAKE_STAT.at_ 0 0 ≠ r.at_ i j := fun e => h4.2.2.1 (e ▸ rfl)
    rw [Mach.rd_sf_ne _ _ a1, Mach.rd_sf_ne _ _ a2]
    show (s.wiped).rd r i j = _
    unfold Mach.wiped
    simp only []
    rw [Mach.rd_sf_ne _ _ a3, Mach.rd_wr_ne _ _ a2, Mach.rd_wr_ne _ _ a4]
    simp [Mach.rd, Mach.reset]

end Sys2Proof.Machine
end

