-- ==== Sys2Proof/Laws/Opcodes.lean ====
section
/-! SUPPORT. The opcodes at their release: from what a body answers to what the command makes of the part (R262, R264). -/
namespace Sys2Proof.Machine

/-- A command of an open session reaches its body on a part that takes commands, and leaves with the body's result. -/
theorem issue_takes {op : Nat} {f : OpBody} {o : Origin} {p : List Byte} {obs : List Nat} {s : State} {m : Mach} {r : Res}
    (h : s.takes o) (hop : op ≠ 0x0803) (hf : f o p obs s.m = (m, r)) :
    issue op f o p obs s = .next (s.gives (m.releaseRes o op r)) := by
  rw [issue_live op f o p obs s h.2.1 h.1]
  have h3 : s.m.on F.CMD_STAT_READY = true := h.2.2.1
  have h4 : decide (op = 0x0803) = false := by simp [hop]
  unfold runOp
  simp only [h3, h4, Bool.not_true, Bool.false_and, Bool.false_eq_true, if_false]
  rw [hf]; rfl

theorem guard_none (s : Mach) (f : Mach → Mach × Res) : s.guard none f = f s := rfl
theorem guard_some (s : Mach) (r : Res) (f : Mach → Mach × Res) : s.guard (some r) f = (s, r) := rfl

/-- A list of checks passes when every check does. -/
theorem firstOf_none {l : List (Option Res)} (h : ∀ x ∈ l, x = none) : firstOf l = none := by
  unfold firstOf
  rw [List.findSome?_eq_none_iff]
  exact fun x hx => h x hx

@[simp] theorem failIf_false (st det : Nat) (d : List Byte) : failIf false st det d = none := rfl
theorem lenIs_ok {p : List Byte} {n : Nat} (h : lenOf p = n) : lenIs p n = none := by simp [lenIs, h]
theorem within_ok {p : List Byte} {o n lo hi : Nat} (h1 : lo ≤ pf p o n) (h2 : pf p o n ≤ hi) : within p o n lo hi = none := by
  simp [within, inRange, h1, h2]
theorem codeTo_ok {p : List Byte} {o n hi : Nat} (h : pf p o n ≤ hi) : codeTo p o n hi = none := by
  simp [codeTo, Nat.not_lt.mpr h]


theorem allZero_of_leNat (l : List Byte) (h : leNat l = 0) : allZero l = true := by
  induction l with
  | nil => rfl
  | cons b r ih =>
    have h1 : b.toNat + 256 * leNat r = 0 := h
    have h2 : b = 0 := BitVec.eq_of_toNat_eq (by simp; omega)
    have h3 := ih (by omega)
    simp only [allZero, List.all_cons, h2, beq_self_eq_true, Bool.true_and]
    exact h3

/-- Reserved bytes that read as zero pass. -/
theorem resv_ok {p : List Byte} {o n : Nat} (h : pf p o n = 0) : resv p o n = none := by
  simp [resv, allZero_of_leNat _ h]

theorem leNat_lt (l : List Byte) : leNat l < 256 ^ l.length := by
  induction l with
  | nil => simp [leNat]
  | cons b r ih =>
    have := b.isLt
    simp only [leNat, List.length_cons, pow_succ]
    omega

/-- A field of n bytes is below 256^n. -/
theorem pf_lt (p : List Byte) (o n : Nat) : pf p o n < 256 ^ n := by
  refine (leNat_lt _).trans_le (Nat.pow_le_pow_right (by omega) ?_)
  simp [slice]

/-- A list passes its scan when no target is named twice and every entry passes its own checks. -/
theorem scanEntries_none {key : List Byte → Nat} {target rest : Nat → List Byte → Option Res} :
    ∀ (l : List (Nat × List Byte)) (seen : List Nat), (∀ x ∈ l, target x.1 x.2 = none ∧ rest x.1 x.2 = none ∧ key x.2 ∉ seen) →
      (l.map (fun x => key x.2)).Nodup → scanEntries key target rest seen l = none
  | [], _, _, _ => rfl
  | (o, e) :: r, seen, h, hn => by
    obtain ⟨h1, h2, h3⟩ := h (o, e) (by simp)
    simp only [List.map_cons, List.nodup_cons] at hn
    have h4 : seen.contains (key e) = false := by simpa using h3
    have hf : firstOf [target o e, failIf (seen.contains (key e)) ST.BAD_PARAM o, rest o e] = none := by
      have h1' : target o e = none := h1
      have h2' : rest o e = none := h2
      rw [h1', h2', h4]; rfl
    unfold scanEntries
    rw [hf]
    refine scanEntries_none r _ ?_ hn.2
    intro x hx
    obtain ⟨a, b, c⟩ := h x (List.mem_cons_of_mem _ hx)
    refine ⟨a, b, ?_⟩
    simp only [List.mem_cons, not_or]
    refine ⟨?_, c⟩
    intro he
    exact hn.1 (List.mem_map.mpr ⟨x, hx, he⟩)

theorem scan_ok {key : List Byte → Nat} {target rest : Nat → List Byte → Option Res} {p : List Byte} {l size : Nat}
    (h : ∀ x ∈ entriesOf p l size, target x.1 x.2 = none ∧ rest x.1 x.2 = none) (hn : onceEach p l size key) :
    scanEntries key target rest [] (entriesOf p l size) = none :=
  scanEntries_none _ _ (fun x hx => ⟨(h x hx).1, (h x hx).2, List.not_mem_nil⟩) hn

theorem eachEntry_none {chk : Nat → List Byte → Option Res} : ∀ (l : List (Nat × List Byte)), (∀ x ∈ l, chk x.1 x.2 = none) →
    eachEntry chk l = none
  | [], _ => rfl
  | (o, e) :: r, h => by
    unfold eachEntry
    rw [h (o, e) (by simp)]
    exact eachEntry_none r (fun x hx => h x (List.mem_cons_of_mem _ hx))

/-- A list operand that fits passes its length and its head checks. -/
theorem listLen_ok {p : List Byte} {l size top : Nat} (h : listFits p l size top) : listLen p l size = none := lenIs_ok h.1
theorem listHead_ok {p : List Byte} {l size top : Nat} (h : listFits p l size top) : listHead p l top = none := by
  obtain ⟨_, h1, h2, h3⟩ := h
  have a : (countOf p l == 0) = false := by simp; omega
  have b : ¬ top < countOf p l := by omega
  simp [listHead, firstOf, a, b, resv_ok h3]

end Sys2Proof.Machine
end

