-- ==== Sys2Proof/Laws/Settle.lean ====
section
/-! SUPPORT. The end of a command: messages and pending bits, and what they leave alone (R544, R545). -/
namespace Sys2Proof.Machine

theorem Mach.settledOnly_refl (s : Mach) : s.settledOnly s := by simp [Mach.settledOnly]

/-- A write to one of the registers formed at a command's end. -/
theorem Mach.settledOnly_wr {s t : Mach} (r : Reg) (v i j : Nat) (hr : r.at_ i j ∈ settledRegs) (h : s.settledOnly t) :
    s.settledOnly (t.wr r v i j) := by
  obtain ⟨a1, a2, a3, a4, a5, a6, a7, a8, a9, b1, b2, b3, b4, b5, b6, b7, b8, b9, c1, c2, c3, c4⟩ := h
  refine ⟨a1, a2, a3, a4, a5, a6, a7, a8, a9, b1, b2, b3, b4, b5, b6, b7, b8, b9, c1, c2, fun q x y hq => ?_, c4⟩
  rw [Mach.rd_wr_ne _ _ (fun e => hq (e ▸ hr))]
  exact c3 q x y hq

/-- A write to host memory. -/
theorem Mach.settledOnly_host {s t : Mach} (a : Nat) (l : List Byte) (h : s.settledOnly t) :
    s.settledOnly (t.mwr (hostBit + a) l) := by
  obtain ⟨a1, a2, a3, a4, a5, a6, a7, a8, a9, b1, b2, b3, b4, b5, b6, b7, b8, b9, c1, c2, c3, c4⟩ := h
  refine ⟨a1, a2, a3, a4, a5, a6, a7, a8, a9, b1, b2, b3, b4, b5, b6, b7, b8, b9, c1, c2, c3, fun x hx => ?_⟩
  rw [← c4 x hx]
  exact memByte_memPut_below _ _ _ _ (by omega)

theorem Mach.settledOnly_setPba {s t : Mach} (v : Nat) (b : Bool) (h : s.settledOnly t) : s.settledOnly (t.setPba v b) := by
  unfold Mach.setPba
  refine Mach.settledOnly_wr _ _ _ _ ?_ h
  split <;> decide

theorem Mach.settledOnly_sendMsg {s t : Mach} (v : Nat) (h : s.settledOnly t) : s.settledOnly (t.sendMsg v) := by
  unfold Mach.sendMsg
  split
  · exact h
  · split
    · exact Mach.settledOnly_setPba _ _ h
    · exact Mach.settledOnly_host _ _ h

theorem Mach.settledOnly_srcMsg {s t : Mach} (k : Nat) (h : s.settledOnly t) : s.settledOnly (t.srcMsg k) :=
  Mach.when_keeps (s.settledOnly ·) _ _ t (Mach.settledOnly_sendMsg _) h

/-- A field of a register that no command's end forms. -/
theorem Mach.settledOnly_gf {s t : Mach} (h : s.settledOnly t) (f : Fld) (i j : Nat) (hf : f.reg.at_ i j ∉ settledRegs) :
    t.gf f i j = s.gf f i j := by
  simp only [Mach.gf, h.2.2.2.2.2.2.2.2.2.2.2.2.2.2.2.2.2.2.2.2.1 f.reg i j hf]

/-- A message sent leaves ERR.PEND and ERR.PEND_DMA alone. -/
theorem Mach.srcMsg_pend (s : Mach) (k : Nat) (q : Reg) (h : q = R.ERR_PEND ∨ q = R.ERR_PEND_DMA) : (s.srcMsg k).rd q = s.rd q := by
  unfold Mach.srcMsg Mach.when
  split
  · show ((s.sendMsg _)).rd q = _
    unfold Mach.sendMsg
    split
    · rfl
    · split
      · unfold Mach.setPba
        apply Mach.rd_wr_ne
        rcases h with rfl | rfl <;> split <;> decide
      · rfl
  · rfl

end Sys2Proof.Machine
end

