-- ==== Sys2Proof/Laws/Pending.lean ====
section
/-! SUPPORT. Which sources are pending when a command has ended (R544): the frame of the command's end and the pending registers. -/
namespace Sys2Proof.Machine

/-- Forming the interrupts changes nothing but the registers formed and host memory. -/
theorem Mach.pend_frame (s : Mach) : s.settledOnly s.pend := by
  unfold Mach.pend
  refine Mach.each_keeps (s.settledOnly ·) _ (fun t k h => Mach.settledOnly_srcMsg k h) _ _ ?_
  exact Mach.settledOnly_wr _ _ _ _ (by decide) (Mach.settledOnly_wr _ _ _ _ (by decide) (Mach.settledOnly_refl s))

/-- The end of a command changes nothing but the registers it forms, the pin IRQ_N and host memory. -/
theorem Mach.settle_frame (s : Mach) : s.settledOnly s.settle := Mach.pend_frame s

theorem mem_upto (n i : Nat) (h : i ∈ upto n) : i < n := by
  simpa [upto] using h

/-- What the end of a command leaves alone decides whether an event register has an enabled event set. -/
theorem anyEvt_settled {s t : Mach} (hr : ∀ (r : Reg) (i j : Nat), r.at_ i j ∉ settledRegs → t.rd r i j = s.rd r i j) (ev en : Reg)
    (h : ∀ i, i < ev.n1 → ev.at_ i 0 ∉ settledRegs ∧ en.at_ i 0 ∉ settledRegs) : anyEvt t ev en = anyEvt s ev en := by
  unfold anyEvt
  rw [Bool.eq_iff_iff]; simp only [List.any_eq_true]
  constructor <;> rintro ⟨i, hi, hx⟩ <;> refine ⟨i, hi, ?_⟩ <;> have := h i (mem_upto _ _ hi)
  · rwa [← hr ev i 0 this.1, ← hr en i 0 this.2]
  · rwa [hr ev i 0 this.1, hr en i 0 this.2]

theorem ok_ERR : ∀ i, i < R.ERR_EVT.n1 → R.ERR_EVT.at_ i 0 ∉ settledRegs ∧ R.ERR_EVT_EN.at_ i 0 ∉ settledRegs := by decide
theorem ok_SYS : ∀ i, i < R.SYS_EVT.n1 → R.SYS_EVT.at_ i 0 ∉ settledRegs ∧ R.SYS_EVT_EN.at_ i 0 ∉ settledRegs := by decide
theorem ok_CLK : ∀ i, i < R.CLK_EVT.n1 → R.CLK_EVT.at_ i 0 ∉ settledRegs ∧ R.CLK_EVT_EN.at_ i 0 ∉ settledRegs := by decide
theorem ok_ASP : ∀ i, i < R.ASP_EVT.n1 → R.ASP_EVT.at_ i 0 ∉ settledRegs ∧ R.ASP_EVT_EN.at_ i 0 ∉ settledRegs := by decide
theorem ok_STRM : ∀ i, i < R.STRM_EVT.n1 → R.STRM_EVT.at_ i 0 ∉ settledRegs ∧ R.STRM_EVT_EN.at_ i 0 ∉ settledRegs := by decide
theorem ok_DMA : ∀ i, i < R.DMA_EVT.n1 → R.DMA_EVT.at_ i 0 ∉ settledRegs ∧ R.DMA_EVT_EN.at_ i 0 ∉ settledRegs := by decide
theorem ok_MATRIX : ∀ i, i < R.MATRIX_EVT.n1 → R.MATRIX_EVT.at_ i 0 ∉ settledRegs ∧ R.MATRIX_EVT_EN.at_ i 0 ∉ settledRegs := by decide
theorem ok_DDRC : ∀ i, i < R.DDRC_EVT.n1 → R.DDRC_EVT.at_ i 0 ∉ settledRegs ∧ R.DDRC_EVT_EN.at_ i 0 ∉ settledRegs := by decide
theorem ok_MEAS : ∀ i, i < R.MEAS_EVT.n1 → R.MEAS_EVT.at_ i 0 ∉ settledRegs ∧ R.MEAS_EVT_EN.at_ i 0 ∉ settledRegs := by decide
theorem ok_SCHED : ∀ i, i < R.SCHED_EVT.n1 → R.SCHED_EVT.at_ i 0 ∉ settledRegs ∧ R.SCHED_EVT_EN.at_ i 0 ∉ settledRegs := by decide
theorem ok_CMD : ∀ i, i < R.CMD_EVT.n1 → R.CMD_EVT.at_ i 0 ∉ settledRegs ∧ R.CMD_EVT_EN.at_ i 0 ∉ settledRegs := by decide
theorem ok_TIME : ∀ i, i < R.TIME_EVT.n1 → R.TIME_EVT.at_ i 0 ∉ settledRegs ∧ R.TIME_EVT_EN.at_ i 0 ∉ settledRegs := by decide
theorem ok_FAB : ∀ i, i < R.FAB_EVT.n1 → R.FAB_EVT.at_ i 0 ∉ settledRegs ∧ R.FAB_EVT_EN.at_ i 0 ∉ settledRegs := by decide
theorem ok_FAB_IBEX : ∀ i, i < R.FAB_IBEX_EVT.n1 → R.FAB_IBEX_EVT.at_ i 0 ∉ settledRegs ∧ R.FAB_IBEX_EVT_EN.at_ i 0 ∉ settledRegs := by decide
theorem ok_RENDER_FE : ∀ i, i < R.RENDER_FE_EVT.n1 → R.RENDER_FE_EVT.at_ i 0 ∉ settledRegs ∧ R.RENDER_FE_EVT_EN.at_ i 0 ∉ settledRegs := by decide
theorem ok_RENDER_GEO : ∀ i, i < R.RENDER_GEO_EVT.n1 → R.RENDER_GEO_EVT.at_ i 0 ∉ settledRegs ∧ R.RENDER_GEO_EVT_EN.at_ i 0 ∉ settledRegs := by decide
theorem ok_RENDER_PR : ∀ i, i < R.RENDER_PR_EVT.n1 → R.RENDER_PR_EVT.at_ i 0 ∉ settledRegs ∧ R.RENDER_PR_EVT_EN.at_ i 0 ∉ settledRegs := by decide
theorem ok_RENDER_HP : ∀ i, i < R.RENDER_HP_EVT.n1 → R.RENDER_HP_EVT.at_ i 0 ∉ settledRegs ∧ R.RENDER_HP_EVT_EN.at_ i 0 ∉ settledRegs := by decide
theorem ok_FEED_CORR : ∀ i, i < R.FEED_CORR_EVT.n1 → R.FEED_CORR_EVT.at_ i 0 ∉ settledRegs ∧ R.FEED_CORR_EVT_EN.at_ i 0 ∉ settledRegs := by decide
theorem ok_FEED_OUT : ∀ i, i < R.FEED_OUT_EVT.n1 → R.FEED_OUT_EVT.at_ i 0 ∉ settledRegs ∧ R.FEED_OUT_EVT_EN.at_ i 0 ∉ settledRegs := by decide
theorem sp0 {s t : Mach} (hr : ∀ (r : Reg) (i j : Nat), r.at_ i j ∉ settledRegs → t.rd r i j = s.rd r i j) : t.srcPend 0 = s.srcPend 0 :=
  anyEvt_settled hr R.ERR_EVT R.ERR_EVT_EN ok_ERR
theorem sp1 {s t : Mach} (hr : ∀ (r : Reg) (i j : Nat), r.at_ i j ∉ settledRegs → t.rd r i j = s.rd r i j) : t.srcPend 1 = s.srcPend 1 := by
  show t.safe = s.safe
  have := hr R.ERR_STAT 0 0 (by decide)
  simp only [Mach.safe, Mach.on, Mach.gf, show F.ERR_STAT_SAFE.reg = R.ERR_STAT from rfl, this]
theorem sp2 {s t : Mach} (hr : ∀ (r : Reg) (i j : Nat), r.at_ i j ∉ settledRegs → t.rd r i j = s.rd r i j) : t.srcPend 2 = s.srcPend 2 :=
  anyEvt_settled hr R.SYS_EVT R.SYS_EVT_EN ok_SYS
theorem sp3 {s t : Mach} (hr : ∀ (r : Reg) (i j : Nat), r.at_ i j ∉ settledRegs → t.rd r i j = s.rd r i j) : t.srcPend 3 = s.srcPend 3 :=
  anyEvt_settled hr R.CLK_EVT R.CLK_EVT_EN ok_CLK
theorem sp4 {s t : Mach} (hr : ∀ (r : Reg) (i j : Nat), r.at_ i j ∉ settledRegs → t.rd r i j = s.rd r i j) : t.srcPend 4 = s.srcPend 4 :=
  anyEvt_settled hr R.ASP_EVT R.ASP_EVT_EN ok_ASP
theorem sp5 {s t : Mach} (hr : ∀ (r : Reg) (i j : Nat), r.at_ i j ∉ settledRegs → t.rd r i j = s.rd r i j) : t.srcPend 5 = s.srcPend 5 := by
  show (t.rd R.NET_EVT 0 &&& t.rd R.NET_EVT_EN 0 != 0) = (s.rd R.NET_EVT 0 &&& s.rd R.NET_EVT_EN 0 != 0)
  rw [hr R.NET_EVT 0 0 (by decide), hr R.NET_EVT_EN 0 0 (by decide)]
theorem sp6 {s t : Mach} (hr : ∀ (r : Reg) (i j : Nat), r.at_ i j ∉ settledRegs → t.rd r i j = s.rd r i j) : t.srcPend 6 = s.srcPend 6 := by
  show (t.rd R.NET_EVT 1 &&& t.rd R.NET_EVT_EN 1 != 0) = (s.rd R.NET_EVT 1 &&& s.rd R.NET_EVT_EN 1 != 0)
  rw [hr R.NET_EVT 1 0 (by decide), hr R.NET_EVT_EN 1 0 (by decide)]
theorem sp7 {s t : Mach} (hr : ∀ (r : Reg) (i j : Nat), r.at_ i j ∉ settledRegs → t.rd r i j = s.rd r i j) : t.srcPend 7 = s.srcPend 7 :=
  anyEvt_settled hr R.STRM_EVT R.STRM_EVT_EN ok_STRM
theorem sp8 {s t : Mach} (hr : ∀ (r : Reg) (i j : Nat), r.at_ i j ∉ settledRegs → t.rd r i j = s.rd r i j) : t.srcPend 8 = s.srcPend 8 := by
  show (anyEvt t R.TIME_EVT R.TIME_EVT_EN || t.rd R.TIME_GRID_EVT != 0) = (anyEvt s R.TIME_EVT R.TIME_EVT_EN || s.rd R.TIME_GRID_EVT != 0)
  rw [anyEvt_settled hr R.TIME_EVT R.TIME_EVT_EN ok_TIME, hr R.TIME_GRID_EVT 0 0 (by decide)]
theorem sp9 {s t : Mach} (hr : ∀ (r : Reg) (i j : Nat), r.at_ i j ∉ settledRegs → t.rd r i j = s.rd r i j) : t.srcPend 9 = s.srcPend 9 :=
  anyEvt_settled hr R.DMA_EVT R.DMA_EVT_EN ok_DMA
theorem sp10 {s t : Mach} (hr : ∀ (r : Reg) (i j : Nat), r.at_ i j ∉ settledRegs → t.rd r i j = s.rd r i j) : t.srcPend 10 = s.srcPend 10 :=
  anyEvt_settled hr R.MATRIX_EVT R.MATRIX_EVT_EN ok_MATRIX
theorem sp11 {s t : Mach} (hr : ∀ (r : Reg) (i j : Nat), r.at_ i j ∉ settledRegs → t.rd r i j = s.rd r i j) : t.srcPend 11 = s.srcPend 11 :=
  anyEvt_settled hr R.DDRC_EVT R.DDRC_EVT_EN ok_DDRC
theorem sp12 {s t : Mach} (hr : ∀ (r : Reg) (i j : Nat), r.at_ i j ∉ settledRegs → t.rd r i j = s.rd r i j) : t.srcPend 12 = s.srcPend 12 := by
  show (anyEvt t R.FAB_EVT R.FAB_EVT_EN || anyEvt t R.FAB_IBEX_EVT R.FAB_IBEX_EVT_EN) = (anyEvt s R.FAB_EVT R.FAB_EVT_EN || anyEvt s R.FAB_IBEX_EVT R.FAB_IBEX_EVT_EN)
  rw [anyEvt_settled hr R.FAB_EVT R.FAB_EVT_EN ok_FAB, anyEvt_settled hr R.FAB_IBEX_EVT R.FAB_IBEX_EVT_EN ok_FAB_IBEX]
theorem sp13 {s t : Mach} (hr : ∀ (r : Reg) (i j : Nat), r.at_ i j ∉ settledRegs → t.rd r i j = s.rd r i j) : t.srcPend 13 = s.srcPend 13 := by
  show (anyEvt t R.RENDER_FE_EVT R.RENDER_FE_EVT_EN || anyEvt t R.RENDER_GEO_EVT R.RENDER_GEO_EVT_EN || anyEvt t R.RENDER_PR_EVT R.RENDER_PR_EVT_EN || anyEvt t R.RENDER_HP_EVT R.RENDER_HP_EVT_EN) = (anyEvt s R.RENDER_FE_EVT R.RENDER_FE_EVT_EN || anyEvt s R.RENDER_GEO_EVT R.RENDER_GEO_EVT_EN || anyEvt s R.RENDER_PR_EVT R.RENDER_PR_EVT_EN || anyEvt s R.RENDER_HP_EVT R.RENDER_HP_EVT_EN)
  rw [anyEvt_settled hr R.RENDER_FE_EVT R.RENDER_FE_EVT_EN ok_RENDER_FE, anyEvt_settled hr R.RENDER_GEO_EVT R.RENDER_GEO_EVT_EN ok_RENDER_GEO, anyEvt_settled hr R.RENDER_PR_EVT R.RENDER_PR_EVT_EN ok_RENDER_PR, anyEvt_settled hr R.RENDER_HP_EVT R.RENDER_HP_EVT_EN ok_RENDER_HP]
theorem sp14 {s t : Mach} (hr : ∀ (r : Reg) (i j : Nat), r.at_ i j ∉ settledRegs → t.rd r i j = s.rd r i j) : t.srcPend 14 = s.srcPend 14 := by
  show (anyEvt t R.FEED_CORR_EVT R.FEED_CORR_EVT_EN || anyEvt t R.FEED_OUT_EVT R.FEED_OUT_EVT_EN) = (anyEvt s R.FEED_CORR_EVT R.FEED_CORR_EVT_EN || anyEvt s R.FEED_OUT_EVT R.FEED_OUT_EVT_EN)
  rw [anyEvt_settled hr R.FEED_CORR_EVT R.FEED_CORR_EVT_EN ok_FEED_CORR, anyEvt_settled hr R.FEED_OUT_EVT R.FEED_OUT_EVT_EN ok_FEED_OUT]
theorem sp15 {s t : Mach} (hr : ∀ (r : Reg) (i j : Nat), r.at_ i j ∉ settledRegs → t.rd r i j = s.rd r i j) : t.srcPend 15 = s.srcPend 15 :=
  anyEvt_settled hr R.MEAS_EVT R.MEAS_EVT_EN ok_MEAS
theorem sp16 {s t : Mach} (hr : ∀ (r : Reg) (i j : Nat), r.at_ i j ∉ settledRegs → t.rd r i j = s.rd r i j) : t.srcPend 16 = s.srcPend 16 :=
  anyEvt_settled hr R.SCHED_EVT R.SCHED_EVT_EN ok_SCHED
theorem sp17 {s t : Mach} (hr : ∀ (r : Reg) (i j : Nat), r.at_ i j ∉ settledRegs → t.rd r i j = s.rd r i j) : t.srcPend 17 = s.srcPend 17 :=
  anyEvt_settled hr R.CMD_EVT R.CMD_EVT_EN ok_CMD
theorem dmaAt : ∀ c, c < 32 → F.DMA_CTRL_IRQ_DONE.reg.at_ c 0 ∉ settledRegs := by decide
theorem sp18 {s t : Mach} (hr : ∀ (r : Reg) (i j : Nat), r.at_ i j ∉ settledRegs → t.rd r i j = s.rd r i j) (c : Nat) (hc : c < 32) :
    t.srcPend (c + 18) = s.srcPend (c + 18) := by
  have a := hr F.DMA_CTRL_IRQ_DONE.reg c 0 (dmaAt c hc)
  have b := hr F.DMA_CTRL_IRQ_ERR.reg c 0 (dmaAt c hc)
  show (((bitOf (t.rd R.DMA_DONE) (c + 18 - 18) || bitOf (t.rd R.DMA_DESC) (c + 18 - 18)) && t.on F.DMA_CTRL_IRQ_DONE (c + 18 - 18))
      || (bitOf (t.rd R.DMA_ERR) (c + 18 - 18) && t.on F.DMA_CTRL_IRQ_ERR (c + 18 - 18))) = (((bitOf (s.rd R.DMA_DONE) (c + 18 - 18) || bitOf (s.rd R.DMA_DESC) (c + 18 - 18)) && s.on F.DMA_CTRL_IRQ_DONE (c + 18 - 18))
      || (bitOf (s.rd R.DMA_ERR) (c + 18 - 18) && s.on F.DMA_CTRL_IRQ_ERR (c + 18 - 18)))
  rw [Nat.add_sub_cancel, hr R.DMA_DONE 0 0 (by decide), hr R.DMA_DESC 0 0 (by decide), hr R.DMA_ERR 0 0 (by decide)]
  simp only [Mach.on, Mach.gf, a, b]
/-- No source of interrupts is changed by the end of a command (R544). -/
theorem srcPend_settled {s t : Mach} (h : s.settledOnly t) (k : Nat) (hk : k < 50) : t.srcPend k = s.srcPend k := by
  have hr := h.2.2.2.2.2.2.2.2.2.2.2.2.2.2.2.2.2.2.2.2.1
  match k, hk with
  | 0, _ => exact sp0 hr
  | 1, _ => exact sp1 hr
  | 2, _ => exact sp2 hr
  | 3, _ => exact sp3 hr
  | 4, _ => exact sp4 hr
  | 5, _ => exact sp5 hr
  | 6, _ => exact sp6 hr
  | 7, _ => exact sp7 hr
  | 8, _ => exact sp8 hr
  | 9, _ => exact sp9 hr
  | 10, _ => exact sp10 hr
  | 11, _ => exact sp11 hr
  | 12, _ => exact sp12 hr
  | 13, _ => exact sp13 hr
  | 14, _ => exact sp14 hr
  | 15, _ => exact sp15 hr
  | 16, _ => exact sp16 hr
  | 17, _ => exact sp17 hr
  | c + 18, h => exact sp18 hr c (by omega)

theorem each_srcMsg_pend (s : Mach) (l : List Nat) (q : Reg) (h : q = R.ERR_PEND ∨ q = R.ERR_PEND_DMA) : (s.each l Mach.srcMsg).rd q = s.rd q := by
  induction l generalizing s with
  | nil => rfl
  | cons a r ih => exact (ih _).trans (Mach.srcMsg_pend s a q h)

/-- A bit of a word made of flags is that flag. -/
theorem bitOf_mask (l : List Bool) (k : Nat) : bitOf (l.foldr (fun b acc => b2n b + 2 * acc) 0) k = l.getD k false := by
  induction l generalizing k with
  | nil => simp [bitOf]
  | cons b r ih =>
    cases k with
    | zero => cases b <;> simp [bitOf, b2n]
    | succ k =>
      simp only [List.foldr_cons, List.getD_cons_succ, ← ih k]
      unfold bitOf
      rw [Nat.shiftRight_succ_inside, show ∀ x, (b2n b + 2 * x) / 2 = x from fun x => by cases b <;> simp only [b2n, Bool.false_eq_true, if_false, if_true] <;> omega]
theorem mask_lt (l : List Bool) : l.foldr (fun b acc => b2n b + 2 * acc) 0 < 2 ^ l.length := by
  induction l with
  | nil => simp
  | cons b r ih =>
    simp only [List.foldr_cons, List.length_cons, pow_succ]
    have hb : b2n b ≤ 1 := by cases b <;> decide
    omega

/-- The pending registers once formed show the sources as they stood (R544). -/
theorem Mach.pend_was (s : Mach) (k : Nat) (hk : k < 50) : s.pend.wasPend k = s.srcPend k := by
  unfold Mach.wasPend Mach.pend
  simp only []
  split
  · rename_i h
    rw [each_srcMsg_pend _ _ _ (.inl rfl), Mach.rd_wr_ne _ _ (by decide), Mach.rd_wr_self]
    rw [Nat.mod_eq_of_lt ((mask_lt _).trans_le (Nat.pow_le_pow_right (by omega) (by simp [upto]))), bitOf_mask]
    simp [List.getD_eq_getElem?_getD, upto, h]
  · rename_i h
    rw [each_srcMsg_pend _ _ _ (.inr rfl), Mach.rd_wr_self]
    rw [Nat.mod_eq_of_lt ((mask_lt _).trans_le (Nat.pow_le_pow_right (by omega) (by simp [upto]))), bitOf_mask]
    have : 18 + (k - 18) = k := by omega
    simp [List.getD_eq_getElem?_getD, upto, List.getElem?_drop, this, hk]

/-- After a command ends, the pending registers show the sources as they stood (R544). -/
theorem Mach.settle_was (s : Mach) (k : Nat) (hk : k < 50) : s.settle.wasPend k = s.srcPend k := Mach.pend_was s k hk

/-- After a command ends, IRQ_N is at the level the pending registers and the mailbox give it (R286, R546). -/
theorem Mach.settle_irq (s : Mach) : s.settle.irqN = s.settle.irqLow := rfl

end Sys2Proof.Machine
end

