-- ==== Sys2Proof/Laws/PerInstr.lean ====
section
/-! SUPPORT. The header an opcode acts for fits its packet's fields when the command is well formed (R260), one lemma per
command. -/

namespace Sys2Proof.Laws.Wf
open Sys2Proof

/-- The header of the command an opcode acts for. -/
def header : Instr → Option Origin
  | .sysSessionOpen o _ _ => some o
  | .sysSessionClose o _ _ => some o
  | .sysFlowOpen o _ _ => some o
  | .sysFlowClose o _ _ => some o
  | .sysPing o _ _ => some o
  | .sysInfo o _ _ => some o
  | .sysPower o _ _ => some o
  | .sysReset o _ _ => some o
  | .sysResetHold o _ _ => some o
  | .sysErrRead o _ _ => some o
  | .sysErrAck o _ _ => some o
  | .sysRtc o _ _ => some o
  | .sysOptionRead o _ _ => some o
  | .sysFwUpdate o _ _ => some o
  | .scnCommit o _ _ => some o
  | .scnLoad o _ _ => some o
  | .scnDiscard o _ _ => some o
  | .scnRead o _ _ => some o
  | .scnStoreWrite o _ _ => some o
  | .scnStoreRecall o _ _ => some o
  | .scnStoreInfo o _ _ => some o
  | .scnStoreErase o _ _ => some o
  | .scnStatus o _ _ => some o
  | .objSetParams o _ _ => some o
  | .objSetGain o _ _ => some o
  | .objGetParams o _ _ => some o
  | .objStatus o _ _ => some o
  | .geoSpkLoad o _ _ => some o
  | .geoAtmosSet o _ _ => some o
  | .geoObjSet o _ _ => some o
  | .geoKey o _ _ => some o
  | .geoKeyFlush o _ _ => some o
  | .geoGetObj o _ _ => some o
  | .geoGetPaths o _ _ => some o
  | .geoBulkRegion o _ _ => some o
  | .pathUpdate o _ _ => some o
  | .pathUpdateBuf o _ _ => some o
  | .pathMode o _ _ => some o
  | .pathStatus o _ _ => some o
  | .feedEqSet o _ _ => some o
  | .feedTrimSet o _ _ => some o
  | .feedOutSet o _ _ => some o
  | .feedGainSet o _ _ => some o
  | .feedLimitSet o _ _ => some o
  | .feedRatingSet o _ _ => some o
  | .feedGet o _ _ => some o
  | .feedStatus o _ _ => some o
  | .corrLoad o _ _ => some o
  | .corrLoadMulti o _ _ => some o
  | .corrSwap o _ _ => some o
  | .corrXfcfg o _ _ => some o
  | .corrStatus o _ _ => some o
  | .corrRegion o _ _ => some o
  | .corrResetSlot o _ _ => some o
  | .routeInSet o _ _ => some o
  | .routeOutSet o _ _ => some o
  | .routeMatrixSet o _ _ => some o
  | .routeGenSet o _ _ => some o
  | .routeRingSet o _ _ => some o
  | .routeStatus o _ _ => some o
  | .aspConfig o _ _ => some o
  | .aspSlotmask o _ _ => some o
  | .aspEnable o _ _ => some o
  | .aspMclk o _ _ => some o
  | .aspStatus o _ _ => some o
  | .netPortCfg o _ _ => some o
  | .netIpCfg o _ _ => some o
  | .netRingCfg o _ _ => some o
  | .netStreamIn o _ _ => some o
  | .netStreamOut o _ _ => some o
  | .netStreamStop o _ _ => some o
  | .netDiscovered o _ _ => some o
  | .netSubscribe o _ _ => some o
  | .netStatus o _ _ => some o
  | .netStreamStatus o _ _ => some o
  | .netRedundCfg o _ _ => some o
  | .netMdio o _ _ => some o
  | .timeCfg o _ _ => some o
  | .timeStatus o _ _ => some o
  | .timeAdjust o _ _ => some o
  | .timeServoCfg o _ _ => some o
  | .timeGridCfg o _ _ => some o
  | .timeLatSet o _ _ => some o
  | .timeLatRead o _ _ => some o
  | .timePpsCfg o _ _ => some o
  | .timeEvtRead o _ _ => some o
  | .timeFailover o _ _ => some o
  | .measCfg o _ _ => some o
  | .measStream o _ _ => some o
  | .measStatus o _ _ => some o
  | .measRestart o _ _ => some o
  | .hlthStatus o _ _ => some o
  | .hlthLogRead o _ _ => some o
  | .hlthIbexCfg o _ _ => some o
  | .hlthApprove o _ _ => some o
  | .hlthFawn o _ _ => some o
  | .hlthSlack o _ _ => some o
  | .memRead o _ _ => some o
  | .memWrite o _ _ => some o
  | .memCopy o _ _ => some o
  | .memDramInfo o _ _ => some o
  | .memDramFreq o _ _ => some o
  | .dmaStart o _ _ => some o
  | .dmaStop o _ _ => some o
  | .dmaStatus o _ _ => some o
  | .placeSet o _ _ => some o
  | .placeGet o _ _ => some o
  | .diagRegRead o _ _ => some o
  | .diagRegWrite o _ _ => some o
  | .diagSwardRead o _ _ => some o
  | .diagSelftest o _ _ => some o
  | .diagLoopback o _ _ => some o
  | .diagErrInject o _ _ => some o
  | _ => none

/-- A well-formed opcode has a header whose fields fit: SESS and FLOW in a byte each, SEQ in two and TAG in four. -/
def Statement (c : Instr) : Prop :=
  c.wellFormed = true → ∀ o, header c = some o → o.sess < 256 ∧ o.flow < 256 ∧ o.seq < 65536 ∧ o.tag < 0x100000000

theorem of_ok {o : Origin} (h : o.ok = true) : o.sess < 256 ∧ o.flow < 256 ∧ o.seq < 65536 ∧ o.tag < 0x100000000 := by
  simpa [Origin.ok, and_assoc] using h

theorem tickToken (x : TokenObs) : Statement (.tickToken x) := fun _ _ e => by cases e
theorem gridLock : Statement (.gridLock) := fun _ _ e => by cases e
theorem gridStepResume (x : TokenObs) : Statement (.gridStepResume x) := fun _ _ e => by cases e
theorem gridSlewLong : Statement (.gridSlewLong) := fun _ _ e => by cases e
theorem routeXfadeEnd (i : Nat) : Statement (.routeXfadeEnd i) := fun _ _ e => by cases e
theorem playPrefetch (p : Nat) : Statement (.playPrefetch p) := fun _ _ e => by cases e
theorem bulkWriteLost (o t : Nat) : Statement (.bulkWriteLost o t) := fun _ _ e => by cases e
theorem hpTimeout (o : Nat) : Statement (.hpTimeout o) := fun _ _ e => by cases e
theorem bankXfadeEnd (f : Nat) : Statement (.bankXfadeEnd f) := fun _ _ e => by cases e
theorem spectrumWriteLost (f b : Nat) : Statement (.spectrumWriteLost f b) := fun _ _ e => by cases e
theorem trimXfadeEnd (f : Nat) : Statement (.trimXfadeEnd f) := fun _ _ e => by cases e
theorem zeroCrossing (f : Nat) (mute : Bool) : Statement (.zeroCrossing f mute) := fun _ _ e => by cases e
theorem zcTimeout (f : Nat) (mute : Bool) : Statement (.zcTimeout f mute) := fun _ _ e => by cases e
theorem gainRampEnd (f : Nat) (mute : Bool) : Statement (.gainRampEnd f mute) := fun _ _ e => by cases e
theorem laXfadeEnd (f : Nat) : Statement (.laXfadeEnd f) := fun _ _ e => by cases e
theorem measResultWrite (c : Nat) : Statement (.measResultWrite c) := fun _ _ e => by cases e
theorem latencyRefresh (m : Nat) (x : LatStamps) : Statement (.latencyRefresh m x) := fun _ _ e => by cases e
theorem engineComplete (e count : Nat) : Statement (.engineComplete e count) := fun _ _ e => by cases e
theorem engineAbandon (cls : Nat) : Statement (.engineAbandon cls) := fun _ _ e => by cases e
theorem engineAbandonAck (e : Nat) : Statement (.engineAbandonAck e) := fun _ _ e => by cases e
theorem fabricHang (e : Nat) : Statement (.fabricHang e) := fun _ _ e => by cases e
theorem fabricDone : Statement (.fabricDone) := fun _ _ e => by cases e
theorem engineGroupGate (k : Nat) : Statement (.engineGroupGate k) := fun _ _ e => by cases e
theorem herdWindow (avs : Bool) : Statement (.herdWindow avs) := fun _ _ e => by cases e
theorem groupAwake (k : Nat) : Statement (.groupAwake k) := fun _ _ e => by cases e
theorem fawnRead (rates : List Nat) : Statement (.fawnRead rates) := fun _ _ e => by cases e
theorem tjRead (tj : Int) : Statement (.tjRead tj) := fun _ _ e => by cases e
theorem ibexEvaluate : Statement (.ibexEvaluate) := fun _ _ e => by cases e
theorem avsWrite (ok : Bool) : Statement (.avsWrite ok) := fun _ _ e => by cases e
theorem ibexStuck : Statement (.ibexStuck) := fun _ _ e => by cases e
theorem ageingLogWrite : Statement (.ageingLogWrite) := fun _ _ e => by cases e
theorem asrcSettling (i : Nat) (old : Bool) : Statement (.asrcSettling i old) := fun _ _ e => by cases e
theorem asrcLocked (i : Nat) (old : Bool) : Statement (.asrcLocked i old) := fun _ _ e => by cases e
theorem convLocked (i : Nat) : Statement (.convLocked i) := fun _ _ e => by cases e
theorem muteNLow : Statement (.muteNLow) := fun _ _ e => by cases e
theorem muteNRelease : Statement (.muteNRelease) := fun _ _ e => by cases e
theorem hwmuteClrWrite (v : Nat) : Statement (.hwmuteClrWrite v) := fun _ _ e => by cases e
theorem hwmuteCfgWrite (v : Nat) : Statement (.hwmuteCfgWrite v) := fun _ _ e => by cases e
theorem errorHandled : Statement (.errorHandled) := fun _ _ e => by cases e
theorem fatalHandlingTimeout : Statement (.fatalHandlingTimeout) := fun _ _ e => by cases e
theorem escalationReset (wclk : Nat) : Statement (.escalationReset wclk) := fun _ _ e => by cases e
theorem errAckWrite (upTo : Nat) : Statement (.errAckWrite upTo) := fun _ _ e => by cases e
theorem powerOn (wclk : Nat) (watchNew : Bool) : Statement (.powerOn wclk watchNew) := fun _ _ e => by cases e
theorem resetNAssert (wclk ns : Nat) (taken held : Bool) : Statement (.resetNAssert wclk ns taken held) := fun _ _ e => by cases e
theorem perstNAssert (wclk : Nat) : Statement (.perstNAssert wclk) := fun _ _ e => by cases e
theorem pcieHotReset (wclk : Nat) : Statement (.pcieHotReset wclk) := fun _ _ e => by cases e
theorem thermalTrip (wclk : Nat) : Statement (.thermalTrip wclk) := fun _ _ e => by cases e
theorem brownOut (wclk : Nat) (watch : Bool) : Statement (.brownOut wclk watch) := fun _ _ e => by cases e
theorem ioaspBrownOut (bank : Nat) (bad : Bool) : Statement (.ioaspBrownOut bank bad) := fun _ _ e => by cases e
theorem watchdogExpire (core : Nat) : Statement (.watchdogExpire core) := fun _ _ e => by cases e
theorem orderedResetStart (wclk : Nat) : Statement (.orderedResetStart wclk) := fun _ _ e => by cases e
theorem stormRelease : Statement (.stormRelease) := fun _ _ e => by cases e
theorem optionLoad (tj vio33 : Nat) : Statement (.optionLoad tj vio33) := fun _ _ e => by cases e
theorem dramTraining (good : List Nat) (ok1 : Bool) (cause : Nat) : Statement (.dramTraining good ok1 cause) := fun _ _ e => by cases e
theorem fabricSelftest (bad rates : List Nat) (tj : Int) : Statement (.fabricSelftest bad rates tj) := fun _ _ e => by cases e
theorem firmwareBoot (ok0 ok1 : Bool) : Statement (.firmwareBoot ok0 ok1) := fun _ _ e => by cases e
theorem fwPushGo (v : Nat) (valid : Bool) : Statement (.fwPushGo v valid) := fun _ _ e => by cases e
theorem wakeNWake (early : Bool) : Statement (.wakeNWake early) := fun _ _ e => by cases e
theorem rtcAlarm (early : Bool) : Statement (.rtcAlarm early) := fun _ _ e => by cases e
theorem xinLost : Statement (.xinLost) := fun _ _ e => by cases e
theorem xinRestored : Statement (.xinRestored) := fun _ _ e => by cases e
theorem blkRstWrite (v : Nat) (pcie : Bool) : Statement (.blkRstWrite v pcie) := fun _ _ e => by cases e
theorem blockResetEnd (block : Nat) : Statement (.blockResetEnd block) := fun _ _ e => by cases e
theorem pllCommit (pll v : Nat) : Statement (.pllCommit pll v) := fun _ _ e => by cases e
theorem pllLock (pll : Nat) : Statement (.pllLock pll) := fun _ _ e => by cases e
theorem pllLossOfLock (pll : Nat) (pherr : Int) : Statement (.pllLossOfLock pll pherr) := fun _ _ e => by cases e
theorem bandTimeout (pll : Nat) : Statement (.bandTimeout pll) := fun _ _ e => by cases e
theorem bandRetry (pll : Nat) : Statement (.bandRetry pll) := fun _ _ e => by cases e
theorem pllSysReturn : Statement (.pllSysReturn) := fun _ _ e => by cases e
theorem dramHoldTimeout : Statement (.dramHoldTimeout) := fun _ _ e => by cases e
theorem dramFreqSwitch : Statement (.dramFreqSwitch) := fun _ _ e => by cases e
theorem dramFreqAbandon : Statement (.dramFreqAbandon) := fun _ _ e => by cases e
theorem ddrcFreqGo (v : Nat) : Statement (.ddrcFreqGo v) := fun _ _ e => by cases e
theorem dramAlert (ok : Bool) : Statement (.dramAlert ok) := fun _ _ e => by cases e
theorem dramRefresh (bank : Option Nat) : Statement (.dramRefresh bank) := fun _ _ e => by cases e
theorem dramZqCal : Statement (.dramZqCal) := fun _ _ e => by cases e
theorem dramDqsTrack : Statement (.dramDqsTrack) := fun _ _ e => by cases e
theorem dramTempRead (hottest : Nat) : Statement (.dramTempRead hottest) := fun _ _ e => by cases e
theorem dramWriteDrain : Statement (.dramWriteDrain) := fun _ _ e => by cases e
theorem dramReadComplete (addr reader : Nat) : Statement (.dramReadComplete addr reader) := fun _ _ e => by cases e
theorem scrubRead : Statement (.scrubRead) := fun _ _ e => by cases e
theorem ddrcEccClr (v : Nat) : Statement (.ddrcEccClr v) := fun _ _ e => by cases e
theorem ddrcCntClr (v : Nat) : Statement (.ddrcCntClr v) := fun _ _ e => by cases e
theorem busRequest (tx : BusTx) : Statement (.busRequest tx) := fun _ _ e => by cases e
theorem busResponse (m id t : Nat) (wr : Bool) (code : Nat) : Statement (.busResponse m id t wr code) := fun _ _ e => by cases e
theorem busTimeout (target : Nat) : Statement (.busTimeout target) := fun _ _ e => by cases e
theorem lockBreak (target : Nat) : Statement (.lockBreak target) := fun _ _ e => by cases e
theorem matrixErrClr (v : Nat) : Statement (.matrixErrClr v) := fun _ _ e => by cases e
theorem dmaGo (chan v : Nat) (pcie : Bool) : Statement (.dmaGo chan v pcie) := fun _ _ e => by cases e
theorem dmaCtrlStop (chan : Nat) (pcie : Bool) : Statement (.dmaCtrlStop chan pcie) := fun _ _ e => by cases e
theorem dmaBurstDone (chan code : Nat) : Statement (.dmaBurstDone chan code) := fun _ _ e => by cases e
theorem dmaDescFetch (chan code : Nat) : Statement (.dmaDescFetch chan code) := fun _ _ e => by cases e
theorem coreFault (core : Nat) : Statement (.coreFault core) := fun _ _ e => by cases e
theorem sliceExpire (core cycles : Nat) (stop : Bool) : Statement (.sliceExpire core cycles stop) := fun _ _ e => by cases e
theorem threadReady (thread level : Nat) : Statement (.threadReady thread level) := fun _ _ e => by cases e
theorem pcieCqTailWrite (q v : Nat) : Statement (.pcieCqTailWrite q v) := fun _ _ e => by cases e
theorem pcieDescriptorFetch (q : Nat) (err : Bool) : Statement (.pcieDescriptorFetch q err) := fun _ _ e => by cases e
theorem pcieReplyWrite (q : Nat) : Statement (.pcieReplyWrite q) := fun _ _ e => by cases e
theorem pcieRqHeadWrite (q v : Nat) : Statement (.pcieRqHeadWrite q v) := fun _ _ e => by cases e
theorem qpCtrlWrite (q v : Nat) : Statement (.qpCtrlWrite q v) := fun _ _ e => by cases e
theorem spiWrite (pkt : List Byte) : Statement (.spiWrite pkt) := fun _ _ e => by cases e
theorem spiRead (n : Nat) : Statement (.spiRead n) := fun _ _ e => by cases e
theorem spiStatus : Statement (.spiStatus) := fun _ _ e => by cases e
theorem commandRelease (id : Nat) (obs : List Nat) : Statement (.commandRelease id obs) := fun _ _ e => by cases e
theorem gapTimeout (flow : Nat) : Statement (.gapTimeout flow) := fun _ _ e => by cases e
theorem sessionIdleTimeout (sess : Nat) : Statement (.sessionIdleTimeout sess) := fun _ _ e => by cases e
theorem sysSessionOpen (o : Origin) (p : List Byte) (obs : List Nat) : Statement (.sysSessionOpen o p obs) := fun h _ e => by cases e; exact of_ok h
theorem sysSessionClose (o : Origin) (p : List Byte) (obs : List Nat) : Statement (.sysSessionClose o p obs) := fun h _ e => by cases e; exact of_ok h
theorem sysFlowOpen (o : Origin) (p : List Byte) (obs : List Nat) : Statement (.sysFlowOpen o p obs) := fun h _ e => by cases e; exact of_ok h
theorem sysFlowClose (o : Origin) (p : List Byte) (obs : List Nat) : Statement (.sysFlowClose o p obs) := fun h _ e => by cases e; exact of_ok h
theorem sysPing (o : Origin) (p : List Byte) (obs : List Nat) : Statement (.sysPing o p obs) := fun h _ e => by cases e; exact of_ok h
theorem sysInfo (o : Origin) (p : List Byte) (obs : List Nat) : Statement (.sysInfo o p obs) := fun h _ e => by cases e; exact of_ok h
theorem sysPower (o : Origin) (p : List Byte) (obs : List Nat) : Statement (.sysPower o p obs) := fun h _ e => by cases e; exact of_ok h
theorem sysReset (o : Origin) (p : List Byte) (obs : List Nat) : Statement (.sysReset o p obs) := fun h _ e => by cases e; exact of_ok h
theorem sysResetHold (o : Origin) (p : List Byte) (obs : List Nat) : Statement (.sysResetHold o p obs) := fun h _ e => by cases e; exact of_ok h
theorem resetHoldEnd (wclk : Nat) : Statement (.resetHoldEnd wclk) := fun _ _ e => by cases e
theorem sysErrRead (o : Origin) (p : List Byte) (obs : List Nat) : Statement (.sysErrRead o p obs) := fun h _ e => by cases e; exact of_ok h
theorem sysErrAck (o : Origin) (p : List Byte) (obs : List Nat) : Statement (.sysErrAck o p obs) := fun h _ e => by cases e; exact of_ok h
theorem sysRtc (o : Origin) (p : List Byte) (obs : List Nat) : Statement (.sysRtc o p obs) := fun h _ e => by cases e; exact of_ok h
theorem sysOptionRead (o : Origin) (p : List Byte) (obs : List Nat) : Statement (.sysOptionRead o p obs) := fun h _ e => by cases e; exact of_ok h
theorem sysFwUpdate (o : Origin) (p : List Byte) (obs : List Nat) : Statement (.sysFwUpdate o p obs) := fun h _ e => by cases e; exact of_ok h
theorem scnCommit (o : Origin) (p : List Byte) (obs : List Nat) : Statement (.scnCommit o p obs) := fun h _ e => by cases e; exact of_ok h
theorem scnLoad (o : Origin) (p : List Byte) (obs : List Nat) : Statement (.scnLoad o p obs) := fun h _ e => by cases e; exact of_ok h
theorem scnDiscard (o : Origin) (p : List Byte) (obs : List Nat) : Statement (.scnDiscard o p obs) := fun h _ e => by cases e; exact of_ok h
theorem scnRead (o : Origin) (p : List Byte) (obs : List Nat) : Statement (.scnRead o p obs) := fun h _ e => by cases e; exact of_ok h
theorem scnStoreWrite (o : Origin) (p : List Byte) (obs : List Nat) : Statement (.scnStoreWrite o p obs) := fun h _ e => by cases e; exact of_ok h
theorem scnStoreRecall (o : Origin) (p : List Byte) (obs : List Nat) : Statement (.scnStoreRecall o p obs) := fun h _ e => by cases e; exact of_ok h
theorem scnStoreInfo (o : Origin) (p : List Byte) (obs : List Nat) : Statement (.scnStoreInfo o p obs) := fun h _ e => by cases e; exact of_ok h
theorem scnStoreErase (o : Origin) (p : List Byte) (obs : List Nat) : Statement (.scnStoreErase o p obs) := fun h _ e => by cases e; exact of_ok h
theorem scnStatus (o : Origin) (p : List Byte) (obs : List Nat) : Statement (.scnStatus o p obs) := fun h _ e => by cases e; exact of_ok h
theorem objSetParams (o : Origin) (p : List Byte) (obs : List Nat) : Statement (.objSetParams o p obs) := fun h _ e => by cases e; exact of_ok h
theorem objSetGain (o : Origin) (p : List Byte) (obs : List Nat) : Statement (.objSetGain o p obs) := fun h _ e => by cases e; exact of_ok h
theorem objGetParams (o : Origin) (p : List Byte) (obs : List Nat) : Statement (.objGetParams o p obs) := fun h _ e => by cases e; exact of_ok h
theorem objStatus (o : Origin) (p : List Byte) (obs : List Nat) : Statement (.objStatus o p obs) := fun h _ e => by cases e; exact of_ok h
theorem geoSpkLoad (o : Origin) (p : List Byte) (obs : List Nat) : Statement (.geoSpkLoad o p obs) := fun h _ e => by cases e; exact of_ok h
theorem geoAtmosSet (o : Origin) (p : List Byte) (obs : List Nat) : Statement (.geoAtmosSet o p obs) := fun h _ e => by cases e; exact of_ok h
theorem geoObjSet (o : Origin) (p : List Byte) (obs : List Nat) : Statement (.geoObjSet o p obs) := fun h _ e => by cases e; exact of_ok h
theorem geoKey (o : Origin) (p : List Byte) (obs : List Nat) : Statement (.geoKey o p obs) := fun h _ e => by cases e; exact of_ok h
theorem geoKeyFlush (o : Origin) (p : List Byte) (obs : List Nat) : Statement (.geoKeyFlush o p obs) := fun h _ e => by cases e; exact of_ok h
theorem geoGetObj (o : Origin) (p : List Byte) (obs : List Nat) : Statement (.geoGetObj o p obs) := fun h _ e => by cases e; exact of_ok h
theorem geoGetPaths (o : Origin) (p : List Byte) (obs : List Nat) : Statement (.geoGetPaths o p obs) := fun h _ e => by cases e; exact of_ok h
theorem geoBulkRegion (o : Origin) (p : List Byte) (obs : List Nat) : Statement (.geoBulkRegion o p obs) := fun h _ e => by cases e; exact of_ok h
theorem pathUpdate (o : Origin) (p : List Byte) (obs : List Nat) : Statement (.pathUpdate o p obs) := fun h _ e => by cases e; exact of_ok h
theorem pathUpdateBuf (o : Origin) (p : List Byte) (obs : List Nat) : Statement (.pathUpdateBuf o p obs) := fun h _ e => by cases e; exact of_ok h
theorem pathMode (o : Origin) (p : List Byte) (obs : List Nat) : Statement (.pathMode o p obs) := fun h _ e => by cases e; exact of_ok h
theorem pathStatus (o : Origin) (p : List Byte) (obs : List Nat) : Statement (.pathStatus o p obs) := fun h _ e => by cases e; exact of_ok h
theorem feedEqSet (o : Origin) (p : List Byte) (obs : List Nat) : Statement (.feedEqSet o p obs) := fun h _ e => by cases e; exact of_ok h
theorem feedTrimSet (o : Origin) (p : List Byte) (obs : List Nat) : Statement (.feedTrimSet o p obs) := fun h _ e => by cases e; exact of_ok h
theorem feedOutSet (o : Origin) (p : List Byte) (obs : List Nat) : Statement (.feedOutSet o p obs) := fun h _ e => by cases e; exact of_ok h
theorem feedGainSet (o : Origin) (p : List Byte) (obs : List Nat) : Statement (.feedGainSet o p obs) := fun h _ e => by cases e; exact of_ok h
theorem feedLimitSet (o : Origin) (p : List Byte) (obs : List Nat) : Statement (.feedLimitSet o p obs) := fun h _ e => by cases e; exact of_ok h
theorem feedRatingSet (o : Origin) (p : List Byte) (obs : List Nat) : Statement (.feedRatingSet o p obs) := fun h _ e => by cases e; exact of_ok h
theorem feedGet (o : Origin) (p : List Byte) (obs : List Nat) : Statement (.feedGet o p obs) := fun h _ e => by cases e; exact of_ok h
theorem feedStatus (o : Origin) (p : List Byte) (obs : List Nat) : Statement (.feedStatus o p obs) := fun h _ e => by cases e; exact of_ok h
theorem corrLoad (o : Origin) (p : List Byte) (obs : List Nat) : Statement (.corrLoad o p obs) := fun h _ e => by cases e; exact of_ok h
theorem corrLoadMulti (o : Origin) (p : List Byte) (obs : List Nat) : Statement (.corrLoadMulti o p obs) := fun h _ e => by cases e; exact of_ok h
theorem corrSwap (o : Origin) (p : List Byte) (obs : List Nat) : Statement (.corrSwap o p obs) := fun h _ e => by cases e; exact of_ok h
theorem corrXfcfg (o : Origin) (p : List Byte) (obs : List Nat) : Statement (.corrXfcfg o p obs) := fun h _ e => by cases e; exact of_ok h
theorem corrStatus (o : Origin) (p : List Byte) (obs : List Nat) : Statement (.corrStatus o p obs) := fun h _ e => by cases e; exact of_ok h
theorem corrRegion (o : Origin) (p : List Byte) (obs : List Nat) : Statement (.corrRegion o p obs) := fun h _ e => by cases e; exact of_ok h
theorem corrResetSlot (o : Origin) (p : List Byte) (obs : List Nat) : Statement (.corrResetSlot o p obs) := fun h _ e => by cases e; exact of_ok h
theorem routeInSet (o : Origin) (p : List Byte) (obs : List Nat) : Statement (.routeInSet o p obs) := fun h _ e => by cases e; exact of_ok h
theorem routeOutSet (o : Origin) (p : List Byte) (obs : List Nat) : Statement (.routeOutSet o p obs) := fun h _ e => by cases e; exact of_ok h
theorem routeMatrixSet (o : Origin) (p : List Byte) (obs : List Nat) : Statement (.routeMatrixSet o p obs) := fun h _ e => by cases e; exact of_ok h
theorem routeGenSet (o : Origin) (p : List Byte) (obs : List Nat) : Statement (.routeGenSet o p obs) := fun h _ e => by cases e; exact of_ok h
theorem routeRingSet (o : Origin) (p : List Byte) (obs : List Nat) : Statement (.routeRingSet o p obs) := fun h _ e => by cases e; exact of_ok h
theorem routeStatus (o : Origin) (p : List Byte) (obs : List Nat) : Statement (.routeStatus o p obs) := fun h _ e => by cases e; exact of_ok h
theorem aspConfig (o : Origin) (p : List Byte) (obs : List Nat) : Statement (.aspConfig o p obs) := fun h _ e => by cases e; exact of_ok h
theorem aspSlotmask (o : Origin) (p : List Byte) (obs : List Nat) : Statement (.aspSlotmask o p obs) := fun h _ e => by cases e; exact of_ok h
theorem aspEnable (o : Origin) (p : List Byte) (obs : List Nat) : Statement (.aspEnable o p obs) := fun h _ e => by cases e; exact of_ok h
theorem aspMclk (o : Origin) (p : List Byte) (obs : List Nat) : Statement (.aspMclk o p obs) := fun h _ e => by cases e; exact of_ok h
theorem aspStatus (o : Origin) (p : List Byte) (obs : List Nat) : Statement (.aspStatus o p obs) := fun h _ e => by cases e; exact of_ok h
theorem netPortCfg (o : Origin) (p : List Byte) (obs : List Nat) : Statement (.netPortCfg o p obs) := fun h _ e => by cases e; exact of_ok h
theorem netIpCfg (o : Origin) (p : List Byte) (obs : List Nat) : Statement (.netIpCfg o p obs) := fun h _ e => by cases e; exact of_ok h
theorem netRingCfg (o : Origin) (p : List Byte) (obs : List Nat) : Statement (.netRingCfg o p obs) := fun h _ e => by cases e; exact of_ok h
theorem netStreamIn (o : Origin) (p : List Byte) (obs : List Nat) : Statement (.netStreamIn o p obs) := fun h _ e => by cases e; exact of_ok h
theorem netStreamOut (o : Origin) (p : List Byte) (obs : List Nat) : Statement (.netStreamOut o p obs) := fun h _ e => by cases e; exact of_ok h
theorem netStreamStop (o : Origin) (p : List Byte) (obs : List Nat) : Statement (.netStreamStop o p obs) := fun h _ e => by cases e; exact of_ok h
theorem netDiscovered (o : Origin) (p : List Byte) (obs : List Nat) : Statement (.netDiscovered o p obs) := fun h _ e => by cases e; exact of_ok h
theorem netSubscribe (o : Origin) (p : List Byte) (obs : List Nat) : Statement (.netSubscribe o p obs) := fun h _ e => by cases e; exact of_ok h
theorem netStatus (o : Origin) (p : List Byte) (obs : List Nat) : Statement (.netStatus o p obs) := fun h _ e => by cases e; exact of_ok h
theorem netStreamStatus (o : Origin) (p : List Byte) (obs : List Nat) : Statement (.netStreamStatus o p obs) := fun h _ e => by cases e; exact of_ok h
theorem netRedundCfg (o : Origin) (p : List Byte) (obs : List Nat) : Statement (.netRedundCfg o p obs) := fun h _ e => by cases e; exact of_ok h
theorem netMdio (o : Origin) (p : List Byte) (obs : List Nat) : Statement (.netMdio o p obs) := fun h _ e => by cases e; exact of_ok h
theorem timeCfg (o : Origin) (p : List Byte) (obs : List Nat) : Statement (.timeCfg o p obs) := fun h _ e => by cases e; exact of_ok h
theorem timeStatus (o : Origin) (p : List Byte) (obs : List Nat) : Statement (.timeStatus o p obs) := fun h _ e => by cases e; exact of_ok h
theorem timeAdjust (o : Origin) (p : List Byte) (obs : List Nat) : Statement (.timeAdjust o p obs) := fun h _ e => by cases e; exact of_ok h
theorem timeServoCfg (o : Origin) (p : List Byte) (obs : List Nat) : Statement (.timeServoCfg o p obs) := fun h _ e => by cases e; exact of_ok h
theorem timeGridCfg (o : Origin) (p : List Byte) (obs : List Nat) : Statement (.timeGridCfg o p obs) := fun h _ e => by cases e; exact of_ok h
theorem timeLatSet (o : Origin) (p : List Byte) (obs : List Nat) : Statement (.timeLatSet o p obs) := fun h _ e => by cases e; exact of_ok h
theorem timeLatRead (o : Origin) (p : List Byte) (obs : List Nat) : Statement (.timeLatRead o p obs) := fun h _ e => by cases e; exact of_ok h
theorem timePpsCfg (o : Origin) (p : List Byte) (obs : List Nat) : Statement (.timePpsCfg o p obs) := fun h _ e => by cases e; exact of_ok h
theorem timeEvtRead (o : Origin) (p : List Byte) (obs : List Nat) : Statement (.timeEvtRead o p obs) := fun h _ e => by cases e; exact of_ok h
theorem timeFailover (o : Origin) (p : List Byte) (obs : List Nat) : Statement (.timeFailover o p obs) := fun h _ e => by cases e; exact of_ok h
theorem measCfg (o : Origin) (p : List Byte) (obs : List Nat) : Statement (.measCfg o p obs) := fun h _ e => by cases e; exact of_ok h
theorem measStream (o : Origin) (p : List Byte) (obs : List Nat) : Statement (.measStream o p obs) := fun h _ e => by cases e; exact of_ok h
theorem measStatus (o : Origin) (p : List Byte) (obs : List Nat) : Statement (.measStatus o p obs) := fun h _ e => by cases e; exact of_ok h
theorem measRestart (o : Origin) (p : List Byte) (obs : List Nat) : Statement (.measRestart o p obs) := fun h _ e => by cases e; exact of_ok h
theorem hlthStatus (o : Origin) (p : List Byte) (obs : List Nat) : Statement (.hlthStatus o p obs) := fun h _ e => by cases e; exact of_ok h
theorem hlthLogRead (o : Origin) (p : List Byte) (obs : List Nat) : Statement (.hlthLogRead o p obs) := fun h _ e => by cases e; exact of_ok h
theorem hlthIbexCfg (o : Origin) (p : List Byte) (obs : List Nat) : Statement (.hlthIbexCfg o p obs) := fun h _ e => by cases e; exact of_ok h
theorem hlthApprove (o : Origin) (p : List Byte) (obs : List Nat) : Statement (.hlthApprove o p obs) := fun h _ e => by cases e; exact of_ok h
theorem hlthFawn (o : Origin) (p : List Byte) (obs : List Nat) : Statement (.hlthFawn o p obs) := fun h _ e => by cases e; exact of_ok h
theorem hlthSlack (o : Origin) (p : List Byte) (obs : List Nat) : Statement (.hlthSlack o p obs) := fun h _ e => by cases e; exact of_ok h
theorem memRead (o : Origin) (p : List Byte) (obs : List Nat) : Statement (.memRead o p obs) := fun h _ e => by cases e; exact of_ok h
theorem memWrite (o : Origin) (p : List Byte) (obs : List Nat) : Statement (.memWrite o p obs) := fun h _ e => by cases e; exact of_ok h
theorem memCopy (o : Origin) (p : List Byte) (obs : List Nat) : Statement (.memCopy o p obs) := fun h _ e => by cases e; exact of_ok h
theorem memDramInfo (o : Origin) (p : List Byte) (obs : List Nat) : Statement (.memDramInfo o p obs) := fun h _ e => by cases e; exact of_ok h
theorem memDramFreq (o : Origin) (p : List Byte) (obs : List Nat) : Statement (.memDramFreq o p obs) := fun h _ e => by cases e; exact of_ok h
theorem dmaStart (o : Origin) (p : List Byte) (obs : List Nat) : Statement (.dmaStart o p obs) := fun h _ e => by cases e; exact of_ok h
theorem dmaStop (o : Origin) (p : List Byte) (obs : List Nat) : Statement (.dmaStop o p obs) := fun h _ e => by cases e; exact of_ok h
theorem dmaStatus (o : Origin) (p : List Byte) (obs : List Nat) : Statement (.dmaStatus o p obs) := fun h _ e => by cases e; exact of_ok h
theorem placeSet (o : Origin) (p : List Byte) (obs : List Nat) : Statement (.placeSet o p obs) := fun h _ e => by cases e; exact of_ok h
theorem placeGet (o : Origin) (p : List Byte) (obs : List Nat) : Statement (.placeGet o p obs) := fun h _ e => by cases e; exact of_ok h
theorem diagRegRead (o : Origin) (p : List Byte) (obs : List Nat) : Statement (.diagRegRead o p obs) := fun h _ e => by cases e; exact of_ok h
theorem diagRegWrite (o : Origin) (p : List Byte) (obs : List Nat) : Statement (.diagRegWrite o p obs) := fun h _ e => by cases e; exact of_ok h
theorem diagSwardRead (o : Origin) (p : List Byte) (obs : List Nat) : Statement (.diagSwardRead o p obs) := fun h _ e => by cases e; exact of_ok h
theorem diagSelftest (o : Origin) (p : List Byte) (obs : List Nat) : Statement (.diagSelftest o p obs) := fun h _ e => by cases e; exact of_ok h
theorem diagLoopback (o : Origin) (p : List Byte) (obs : List Nat) : Statement (.diagLoopback o p obs) := fun h _ e => by cases e; exact of_ok h
theorem diagErrInject (o : Origin) (p : List Byte) (obs : List Nat) : Statement (.diagErrInject o p obs) := fun h _ e => by cases e; exact of_ok h
theorem aspFrame (port bitCount ps : Nat) (slots : List Nat) (ph : Int) (held : Nat) : Statement (.aspFrame port bitCount ps slots ph held) := fun _ _ e => by cases e
theorem aspClockTimeout (port cause : Nat) : Statement (.aspClockTimeout port cause) := fun _ _ e => by cases e
theorem aspClockReturn (port : Nat) : Statement (.aspClockReturn port) := fun _ _ e => by cases e
theorem aspRateMeasure (port count : Nat) : Statement (.aspRateMeasure port count) := fun _ _ e => by cases e
theorem aspMclkMeasure (bank hz : Nat) : Statement (.aspMclkMeasure bank hz) := fun _ _ e => by cases e
theorem aspCommit (port v : Nat) : Statement (.aspCommit port v) := fun _ _ e => by cases e
theorem aspCtrlWrite (port v : Nat) : Statement (.aspCtrlWrite port v) := fun _ _ e => by cases e
theorem aspMaskWrite (port v : Nat) (late : Bool) : Statement (.aspMaskWrite port v late) := fun _ _ e => by cases e
theorem aspBankCfgWrite (bank v : Nat) : Statement (.aspBankCfgWrite bank v) := fun _ _ e => by cases e
theorem aspCntClr (port v : Nat) : Statement (.aspCntClr port v) := fun _ _ e => by cases e
theorem netRxFrame (port : Nat) (f : RxFrame) : Statement (.netRxFrame port f) := fun _ _ e => by cases e
theorem netRxOverflow (port : Nat) : Statement (.netRxOverflow port) := fun _ _ e => by cases e
theorem pauseEnd (port : Nat) : Statement (.pauseEnd port) := fun _ _ e => by cases e
theorem pauseWatchdog (port : Nat) : Statement (.pauseWatchdog port) := fun _ _ e => by cases e
theorem pauseIgnoreEnd (port : Nat) : Statement (.pauseIgnoreEnd port) := fun _ _ e => by cases e
theorem netTxFrameStart (port : Nat) : Statement (.netTxFrameStart port) := fun _ _ e => by cases e
theorem netTxFrameDone (port t : Nat) (underrun : Bool) : Statement (.netTxFrameDone port t underrun) := fun _ _ e => by cases e
theorem launchTimeReached (port ring : Nat) : Statement (.launchTimeReached port ring) := fun _ _ e => by cases e
theorem mediaPacketLaunch (stream : Nat) : Statement (.mediaPacketLaunch stream) := fun _ _ e => by cases e
theorem mediaLateDrop (port : Nat) : Statement (.mediaLateDrop port) := fun _ _ e => by cases e
theorem netLinkUp (port speed : Nat) (half : Bool) : Statement (.netLinkUp port speed half) := fun _ _ e => by cases e
theorem netLinkDown (port : Nat) (cut : Bool) : Statement (.netLinkDown port cut) := fun _ _ e => by cases e
theorem lpiEnter (port : Nat) : Statement (.lpiEnter port) := fun _ _ e => by cases e
theorem lpiWake (port : Nat) : Statement (.lpiWake port) := fun _ _ e => by cases e
theorem downshift (port : Nat) : Statement (.downshift port) := fun _ _ e => by cases e
theorem netRxTailWrite (port ring v : Nat) : Statement (.netRxTailWrite port ring v) := fun _ _ e => by cases e
theorem netPoolTailWrite (port ring v : Nat) : Statement (.netPoolTailWrite port ring v) := fun _ _ e => by cases e
theorem netTxTailWrite (port ring v : Nat) : Statement (.netTxTailWrite port ring v) := fun _ _ e => by cases e
theorem netRingCtrlWrite (port : Nat) (tx : Bool) (ring v : Nat) : Statement (.netRingCtrlWrite port tx ring v) := fun _ _ e => by cases e
theorem netCntClr (port v : Nat) : Statement (.netCntClr port v) := fun _ _ e => by cases e
theorem mergeWindowExpire (stream seq : Nat) : Statement (.mergeWindowExpire stream seq) := fun _ _ e => by cases e
theorem streamLost (stream : Nat) : Statement (.streamLost stream) := fun _ _ e => by cases e
theorem strmRegionWrite (v : Nat) : Statement (.strmRegionWrite v) := fun _ _ e => by cases e
theorem strmCntClr (v : Nat) : Statement (.strmCntClr v) := fun _ _ e => by cases e
theorem discoveryAnnouncement (a : Announcement) : Statement (.discoveryAnnouncement a) := fun _ _ e => by cases e
theorem discoveryExpire (sid : Nat) : Statement (.discoveryExpire sid) := fun _ _ e => by cases e
theorem streamAnnounce (stream : Nat) : Statement (.streamAnnounce stream) := fun _ _ e => by cases e
theorem firmwareProtocolReply (port : Nat) : Statement (.firmwareProtocolReply port) := fun _ _ e => by cases e
theorem ptpSyncReceive (port seq gm : Nat) (twoStep : Bool) (t1 : Nat) (corr : Int) (t2 : Nat) : Statement (.ptpSyncReceive port seq gm twoStep t1 corr t2) := fun _ _ e => by cases e
theorem servoSnapshot : Statement (.servoSnapshot) := fun _ _ e => by cases e
theorem standbySilent : Statement (.standbySilent) := fun _ _ e => by cases e
theorem ptpAnnounceReceive (port : Nat) (d : GmData) : Statement (.ptpAnnounceReceive port d) := fun _ _ e => by cases e
theorem ptpDelayRespReceive (port seq t4 t2p t3p : Nat) : Statement (.ptpDelayRespReceive port seq t4 t2p t3p) := fun _ _ e => by cases e
theorem ptpPdelayReqReceive (port seq : Nat) : Statement (.ptpPdelayReqReceive port seq) := fun _ _ e => by cases e
theorem ptpDelayReqSend (port seq t3 : Nat) : Statement (.ptpDelayReqSend port seq t3) := fun _ _ e => by cases e
theorem timeSourceLost (port cause : Nat) : Statement (.timeSourceLost port cause) := fun _ _ e => by cases e
theorem failoverTimeout : Statement (.failoverTimeout) := fun _ _ e => by cases e
theorem phaseSlewEnd : Statement (.phaseSlewEnd) := fun _ _ e => by cases e
theorem ctrlPortReturn : Statement (.ctrlPortReturn) := fun _ _ e => by cases e
theorem ppsPulse : Statement (.ppsPulse) := fun _ _ e => by cases e
theorem ptpEvtInEdge (rising : Bool) (t : Nat) : Statement (.ptpEvtInEdge rising t) := fun _ _ e => by cases e
theorem timeCommit (v : Nat) : Statement (.timeCommit v) := fun _ _ e => by cases e
theorem timeAdjGo (v : Nat) : Statement (.timeAdjGo v) := fun _ _ e => by cases e
theorem timeFailoverGo (v : Nat) : Statement (.timeFailoverGo v) := fun _ _ e => by cases e
theorem txtsPop (port v : Nat) : Statement (.txtsPop port v) := fun _ _ e => by cases e
theorem evtqPop (v : Nat) : Statement (.evtqPop v) := fun _ _ e => by cases e
theorem timeNowNsRead : Statement (.timeNowNsRead) := fun _ _ e => by cases e
theorem timeLatCommit (v : Nat) : Statement (.timeLatCommit v) := fun _ _ e => by cases e
theorem renderCommitInput (v : Nat) : Statement (.renderCommitInput v) := fun _ _ e => by cases e
theorem renderCommitGen (v : Nat) : Statement (.renderCommitGen v) := fun _ _ e => by cases e
theorem inselWrite (i v : Nat) : Statement (.inselWrite i v) := fun _ _ e => by cases e
theorem playCtrlWrite (p v : Nat) : Statement (.playCtrlWrite p v) := fun _ _ e => by cases e
theorem playWrWrite (p v : Nat) : Statement (.playWrWrite p v) := fun _ _ e => by cases e
theorem capCtrlWrite (c v : Nat) : Statement (.capCtrlWrite c v) := fun _ _ e => by cases e
theorem outCommit (v : Nat) : Statement (.outCommit v) := fun _ _ e => by cases e
theorem outselWrite (i v : Nat) : Statement (.outselWrite i v) := fun _ _ e => by cases e
theorem hpCommit (v : Nat) : Statement (.hpCommit v) := fun _ _ e => by cases e
theorem bulkBaseWrite (v : Nat) : Statement (.bulkBaseWrite v) := fun _ _ e => by cases e
theorem corrBaseWrite (v : Nat) : Statement (.corrBaseWrite v) := fun _ _ e => by cases e
theorem measCommit (v : Nat) : Statement (.measCommit v) := fun _ _ e => by cases e
theorem measStrCtrlWrite (c v : Nat) : Statement (.measStrCtrlWrite c v) := fun _ _ e => by cases e
theorem fabMinClr (v : Nat) : Statement (.fabMinClr v) := fun _ _ e => by cases e
theorem ibexApproveWrite (v : Nat) : Statement (.ibexApproveWrite v) := fun _ _ e => by cases e
theorem rcFieldRead (a : Nat) : Statement (.rcFieldRead a) := fun _ _ e => by cases e
theorem counterLowRead (a : Nat) : Statement (.counterLowRead a) := fun _ _ e => by cases e
theorem registerWrite (a v : Nat) (pcie valid : Bool) : Statement (.registerWrite a v pcie valid) := fun _ _ e => by cases e
theorem ptpFollowUpReceive (port seq gm t1 : Nat) (corr : Int) : Statement (.ptpFollowUpReceive port seq gm t1 corr) := fun _ _ e => by cases e
theorem pcieLinkUp (gen width : Nat) : Statement (.pcieLinkUp gen width) := fun _ _ e => by cases e
theorem pcieLinkDown : Statement (.pcieLinkDown) := fun _ _ e => by cases e
theorem pcieConfigWrite (d3 bme msix fmask : Bool) : Statement (.pcieConfigWrite d3 bme msix fmask) := fun _ _ e => by cases e
theorem hostCompletionTimeout : Statement (.hostCompletionTimeout) := fun _ _ e => by cases e
theorem commandProcessingEnd (id cycles : Nat) : Statement (.commandProcessingEnd id cycles) := fun _ _ e => by cases e
theorem dramWriteComplete (kind i n : Nat) : Statement (.dramWriteComplete kind i n) := fun _ _ e => by cases e
theorem downshiftRenegotiationTimeout (p : Nat) : Statement (.downshiftRenegotiationTimeout p) := fun _ _ e => by cases e
theorem heldWakeRelease : Statement (.heldWakeRelease) := fun _ _ e => by cases e
theorem jtagUpdateIr (code : Nat) : Statement (.jtagUpdateIr code) := fun _ _ e => by cases e
theorem mramAccGo (data : Word) (waddr : Nat) (wr go : Bool) : Statement (.mramAccGo data waddr wr go) := fun _ _ e => by cases e
theorem mramAccDone : Statement (.mramAccDone) := fun _ _ e => by cases e

end Sys2Proof.Laws.Wf
end

