-- ==== Sys2Proof/Tests/Slice0.lean ====
section
/-! SUPPORT. Tests: well-formedness refuses what lies outside each of its checks, the manual's worked examples, and for every
obligation with hypotheses states and operands that meet them. -/

namespace Sys2Proof.Tests
open Sys2Proof Sys2Proof.Machine

-- One proof at a time: each of these proofs waits for the kernel, and a thread for each would exhaust the stacks.
set_option Elab.async false

/-- A part that has booted and takes commands. -/
def u : Mach := (Mach.reset.setPhase 6).sf F.CMD_STAT_READY 1
def st (m : Mach) : State := ⟨[], m⟩
def org : Origin := ⟨1, .pcie 0, 255, 0, 0, 0, true, false⟩
def pk (l : List (Nat × Nat)) : List Byte := (l.map (fun x => toLE x.1 x.2)).flatten
/-- The same part in ACTIVE. -/
def act : Mach := u.sf F.SYS_PWR_STAT_STATE 0
/-- A byte string with its CRC put at offset `o` (R261). -/
def sealed (l : List Byte) (o : Nat) : List Byte := l.take o ++ toLE 4 (crc32c l) ++ l.drop (o + 4)
/-- A speaker table of one loudspeaker. -/
def tabImg : List Byte := sealed (pk [(2, 0x5354), (2, 1), (2, 1), (58, 0)]) 24
/-- A scene image with no section. -/
def sceneImg : List Byte := sealed (pk [(2, 0x5343), (2, 1), (4, 0), (4, 64), (52, 0)]) 12
/-- Session 7 on the PCIe transport. -/
def sess7 : Sess := ⟨.pcie 0, 4096, 10, 0⟩
def uSess : Mach := u.onCmd (fun c => { c with sess := [(7, sess7)] })
/-- A packet with its CRC. -/
def wirePacket (l : List Byte) : List Byte := l ++ toLE 4 (crc32c l)

/-! ### Well-formedness: every check refuses a term just outside it and takes one at its bound -/

/-- The header of a command at the ends of its fields. -/
def hdr : Origin := ⟨0, .spi, 255, 255, 65535, 0xFFFFFFFF, false, false⟩
/-- A term outside each check is refused (1). -/
theorem test_wellFormed_refuses_1 : ([
  .routeXfadeEnd 3264,
  .playPrefetch 64,
  .bulkWriteLost 512 0,
  .hpTimeout 512,
  .bankXfadeEnd 512,
  .spectrumWriteLost 512 0,
  .trimXfadeEnd 512,
  .zeroCrossing 512 false,
  .zcTimeout 512 false,
  .gainRampEnd 512 false,
  .laXfadeEnd 512,
  .measResultWrite 32,
  .latencyRefresh 4 ⟨0, 0, 0⟩,
  .engineComplete 106 0,
  .engineAbandon 4,
  .engineAbandonAck 106,
  .fabricHang 106,
  .engineGroupGate 20,
  .groupAwake 20,
  .asrcSettling 640 false,
  .asrcLocked 640 false,
  .convLocked 2624,
  .hwmuteClrWrite 4294967296,
  .hwmuteCfgWrite 4294967296,
  .errAckWrite 4294967296,
  .ioaspBrownOut 8 false,
  .watchdogExpire 6,
  .fwPushGo 4294967296 false,
  .blkRstWrite 4294967296 false,
  .blockResetEnd 10,
  .pllCommit 4 4294967295,
  .pllCommit 3 4294967296,
  .pllLock 4,
  .pllLossOfLock 4 0,
  .bandTimeout 4,
  .bandRetry 4,
  .ddrcFreqGo 4294967296,
  .dramReadComplete 0 8,
  .ddrcEccClr 4294967296,
  .ddrcCntClr 4294967296,
  .busResponse 10 63 7 false 0,
  .busResponse 9 64 7 false 0,
  .busResponse 9 63 8 false 0,
  .busTimeout 8,
  .lockBreak 8,
  .matrixErrClr 4294967296,
  .dmaGo 32 4294967295 false,
  .dmaGo 31 4294967296 false,
  .dmaCtrlStop 32 false,
  .dmaBurstDone 32 0,
  .dmaDescFetch 32 0,
  .coreFault 6,
  .sliceExpire 6 0 false,
  .threadReady 256 0,
  .pcieCqTailWrite 2 4294967295,
  .pcieCqTailWrite 1 4294967296,
  .pcieDescriptorFetch 2 false,
  .pcieReplyWrite 2,
  .pcieRqHeadWrite 2 4294967295,
  .pcieRqHeadWrite 1 4294967296] : List Instr).all (fun c => c.wellFormed == false) = true := by decide
/-- A term outside each check is refused (2). -/
theorem test_wellFormed_refuses_2 : ([
  .qpCtrlWrite 2 4294967295,
  .qpCtrlWrite 1 4294967296,
  .gapTimeout 64,
  .sessionIdleTimeout 16,
  .sysSessionOpen { hdr with sess := 256 } [] [],
  .sysSessionClose { hdr with sess := 256 } [] [],
  .sysFlowOpen { hdr with sess := 256 } [] [],
  .sysFlowClose { hdr with sess := 256 } [] [],
  .sysPing { hdr with sess := 256 } [] [],
  .sysInfo { hdr with sess := 256 } [] [],
  .sysPower { hdr with sess := 256 } [] [],
  .sysReset { hdr with sess := 256 } [] [],
  .sysResetHold { hdr with sess := 256 } [] [],
  .sysErrRead { hdr with sess := 256 } [] [],
  .sysErrAck { hdr with sess := 256 } [] [],
  .sysRtc { hdr with sess := 256 } [] [],
  .sysOptionRead { hdr with sess := 256 } [] [],
  .sysFwUpdate { hdr with sess := 256 } [] [],
  .scnCommit { hdr with sess := 256 } [] [],
  .scnLoad { hdr with sess := 256 } [] [],
  .scnDiscard { hdr with sess := 256 } [] [],
  .scnRead { hdr with sess := 256 } [] [],
  .scnStoreWrite { hdr with sess := 256 } [] [],
  .scnStoreRecall { hdr with sess := 256 } [] [],
  .scnStoreInfo { hdr with sess := 256 } [] [],
  .scnStoreErase { hdr with sess := 256 } [] [],
  .scnStatus { hdr with sess := 256 } [] [],
  .objSetParams { hdr with sess := 256 } [] [],
  .objSetGain { hdr with sess := 256 } [] [],
  .objGetParams { hdr with sess := 256 } [] [],
  .objStatus { hdr with sess := 256 } [] [],
  .geoSpkLoad { hdr with sess := 256 } [] [],
  .geoAtmosSet { hdr with sess := 256 } [] [],
  .geoObjSet { hdr with sess := 256 } [] [],
  .geoKey { hdr with sess := 256 } [] [],
  .geoKeyFlush { hdr with sess := 256 } [] [],
  .geoGetObj { hdr with sess := 256 } [] [],
  .geoGetPaths { hdr with sess := 256 } [] [],
  .geoBulkRegion { hdr with sess := 256 } [] [],
  .pathUpdate { hdr with sess := 256 } [] [],
  .pathUpdateBuf { hdr with sess := 256 } [] [],
  .pathMode { hdr with sess := 256 } [] [],
  .pathStatus { hdr with sess := 256 } [] [],
  .feedEqSet { hdr with sess := 256 } [] [],
  .feedTrimSet { hdr with sess := 256 } [] [],
  .feedOutSet { hdr with sess := 256 } [] [],
  .feedGainSet { hdr with sess := 256 } [] [],
  .feedLimitSet { hdr with sess := 256 } [] [],
  .feedRatingSet { hdr with sess := 256 } [] [],
  .feedGet { hdr with sess := 256 } [] [],
  .feedStatus { hdr with sess := 256 } [] [],
  .corrLoad { hdr with sess := 256 } [] [],
  .corrLoadMulti { hdr with sess := 256 } [] [],
  .corrSwap { hdr with sess := 256 } [] [],
  .corrXfcfg { hdr with sess := 256 } [] [],
  .corrStatus { hdr with sess := 256 } [] [],
  .corrRegion { hdr with sess := 256 } [] [],
  .corrResetSlot { hdr with sess := 256 } [] [],
  .routeInSet { hdr with sess := 256 } [] [],
  .routeOutSet { hdr with sess := 256 } [] []] : List Instr).all (fun c => c.wellFormed == false) = true := by decide
/-- A term outside each check is refused (3). -/
theorem test_wellFormed_refuses_3 : ([
  .routeMatrixSet { hdr with sess := 256 } [] [],
  .routeGenSet { hdr with sess := 256 } [] [],
  .routeRingSet { hdr with sess := 256 } [] [],
  .routeStatus { hdr with sess := 256 } [] [],
  .aspConfig { hdr with sess := 256 } [] [],
  .aspSlotmask { hdr with sess := 256 } [] [],
  .aspEnable { hdr with sess := 256 } [] [],
  .aspMclk { hdr with sess := 256 } [] [],
  .aspStatus { hdr with sess := 256 } [] [],
  .netPortCfg { hdr with sess := 256 } [] [],
  .netIpCfg { hdr with sess := 256 } [] [],
  .netRingCfg { hdr with sess := 256 } [] [],
  .netStreamIn { hdr with sess := 256 } [] [],
  .netStreamOut { hdr with sess := 256 } [] [],
  .netStreamStop { hdr with sess := 256 } [] [],
  .netDiscovered { hdr with sess := 256 } [] [],
  .netSubscribe { hdr with sess := 256 } [] [],
  .netStatus { hdr with sess := 256 } [] [],
  .netStreamStatus { hdr with sess := 256 } [] [],
  .netRedundCfg { hdr with sess := 256 } [] [],
  .netMdio { hdr with sess := 256 } [] [],
  .timeCfg { hdr with sess := 256 } [] [],
  .timeStatus { hdr with sess := 256 } [] [],
  .timeAdjust { hdr with sess := 256 } [] [],
  .timeServoCfg { hdr with sess := 256 } [] [],
  .timeGridCfg { hdr with sess := 256 } [] [],
  .timeLatSet { hdr with sess := 256 } [] [],
  .timeLatRead { hdr with sess := 256 } [] [],
  .timePpsCfg { hdr with sess := 256 } [] [],
  .timeEvtRead { hdr with sess := 256 } [] [],
  .timeFailover { hdr with sess := 256 } [] [],
  .measCfg { hdr with sess := 256 } [] [],
  .measStream { hdr with sess := 256 } [] [],
  .measStatus { hdr with sess := 256 } [] [],
  .measRestart { hdr with sess := 256 } [] [],
  .hlthStatus { hdr with sess := 256 } [] [],
  .hlthLogRead { hdr with sess := 256 } [] [],
  .hlthIbexCfg { hdr with sess := 256 } [] [],
  .hlthApprove { hdr with sess := 256 } [] [],
  .hlthFawn { hdr with sess := 256 } [] [],
  .hlthSlack { hdr with sess := 256 } [] [],
  .memRead { hdr with sess := 256 } [] [],
  .memWrite { hdr with sess := 256 } [] [],
  .memCopy { hdr with sess := 256 } [] [],
  .memDramInfo { hdr with sess := 256 } [] [],
  .memDramFreq { hdr with sess := 256 } [] [],
  .dmaStart { hdr with sess := 256 } [] [],
  .dmaStop { hdr with sess := 256 } [] [],
  .dmaStatus { hdr with sess := 256 } [] [],
  .placeSet { hdr with sess := 256 } [] [],
  .placeGet { hdr with sess := 256 } [] [],
  .diagRegRead { hdr with sess := 256 } [] [],
  .diagRegWrite { hdr with sess := 256 } [] [],
  .diagSwardRead { hdr with sess := 256 } [] [],
  .diagSelftest { hdr with sess := 256 } [] [],
  .diagLoopback { hdr with sess := 256 } [] [],
  .diagErrInject { hdr with sess := 256 } [] [],
  .aspFrame 64 0 0 [] 0 0,
  .aspFrame 63 0 0 [0x100000000] 0 0,
  .aspClockTimeout 64 0] : List Instr).all (fun c => c.wellFormed == false) = true := by decide
/-- A term outside each check is refused (4). -/
theorem test_wellFormed_refuses_4 : ([
  .aspClockReturn 64,
  .aspRateMeasure 64 0,
  .aspMclkMeasure 8 0,
  .aspCommit 64 4294967295,
  .aspCommit 63 4294967296,
  .aspCtrlWrite 64 4294967295,
  .aspCtrlWrite 63 4294967296,
  .aspMaskWrite 64 4294967295 false,
  .aspMaskWrite 63 4294967296 false,
  .aspBankCfgWrite 8 4294967295,
  .aspBankCfgWrite 7 4294967296,
  .aspCntClr 64 4294967295,
  .aspCntClr 63 4294967296,
  .netRxFrame 2 ⟨64, true, [], 0⟩,
  .netRxOverflow 2,
  .pauseEnd 2,
  .pauseWatchdog 2,
  .pauseIgnoreEnd 2,
  .netTxFrameStart 2,
  .netTxFrameDone 2 0 false,
  .launchTimeReached 2 3,
  .launchTimeReached 1 4,
  .mediaPacketLaunch 256,
  .mediaLateDrop 2,
  .netLinkUp 2 4 false,
  .netLinkUp 1 5 false,
  .netLinkDown 2 false,
  .lpiEnter 2,
  .lpiWake 2,
  .downshift 2,
  .netRxTailWrite 2 7 4294967295,
  .netRxTailWrite 1 8 4294967295,
  .netRxTailWrite 1 7 4294967296,
  .netPoolTailWrite 2 7 4294967295,
  .netPoolTailWrite 1 8 4294967295,
  .netPoolTailWrite 1 7 4294967296,
  .netTxTailWrite 2 3 4294967295,
  .netTxTailWrite 1 4 4294967295,
  .netTxTailWrite 1 3 4294967296,
  .netRingCtrlWrite 2 false 7 4294967295,
  .netRingCtrlWrite 1 false 8 4294967295,
  .netRingCtrlWrite 1 false 7 4294967296,
  .netCntClr 2 4294967295,
  .netCntClr 1 4294967296,
  .mergeWindowExpire 256 65535,
  .mergeWindowExpire 255 65536,
  .streamLost 256,
  .strmRegionWrite 4294967296,
  .strmCntClr 4294967296,
  .streamAnnounce 256,
  .firmwareProtocolReply 2,
  .ptpSyncReceive 2 65535 0 false 0 0 0,
  .ptpSyncReceive 1 65536 0 false 0 0 0,
  .ptpAnnounceReceive 2 ⟨0, 0, 0, 0, 0, 0, 0⟩,
  .ptpDelayRespReceive 2 65535 0 0 0,
  .ptpDelayRespReceive 1 65536 0 0 0,
  .ptpPdelayReqReceive 2 65535,
  .ptpPdelayReqReceive 1 65536,
  .ptpDelayReqSend 2 65535 0,
  .ptpDelayReqSend 1 65536 0] : List Instr).all (fun c => c.wellFormed == false) = true := by decide
/-- A term outside each check is refused (5). -/
theorem test_wellFormed_refuses_5 : ([
  .timeSourceLost 2 0,
  .timeCommit 4294967296,
  .timeAdjGo 4294967296,
  .timeFailoverGo 4294967296,
  .txtsPop 2 4294967295,
  .txtsPop 1 4294967296,
  .evtqPop 4294967296,
  .timeLatCommit 4294967296,
  .renderCommitInput 4294967296,
  .renderCommitGen 4294967296,
  .inselWrite 640 4294967295,
  .inselWrite 639 4294967296,
  .playCtrlWrite 64 4294967295,
  .playCtrlWrite 63 4294967296,
  .playWrWrite 64 4294967295,
  .playWrWrite 63 4294967296,
  .capCtrlWrite 64 4294967295,
  .capCtrlWrite 63 4294967296,
  .outCommit 4294967296,
  .outselWrite 2624 4294967295,
  .outselWrite 2623 4294967296,
  .hpCommit 4294967296,
  .bulkBaseWrite 4294967296,
  .corrBaseWrite 4294967296,
  .measCommit 4294967296,
  .measStrCtrlWrite 32 4294967295,
  .measStrCtrlWrite 31 4294967296,
  .fabMinClr 4294967296,
  .ibexApproveWrite 4294967296,
  .registerWrite 0 4294967296 false false,
  .ptpFollowUpReceive 2 65535 0 0 0,
  .ptpFollowUpReceive 1 65536 0 0 0,
  .dramWriteComplete 3 511 0,
  .dramWriteComplete 2 512 0,
  .downshiftRenegotiationTimeout 2,
  .jtagUpdateIr 256,
  .mramAccGo 0 2097152 false false,
  .sysPing { hdr with flow := 256 } [] [],
  .sysPing { hdr with seq := 65536 } [] [],
  .sysPing { hdr with tag := 0x100000000 } [] [],
  .busRequest ⟨10, 0, 0, false, 4, [], false, false⟩,
  .busRequest ⟨6, 64, 0, false, 4, [], false, false⟩,
  .busRequest ⟨6, 0, 0x10000000000000000, false, 4, [], false, false⟩] : List Instr).all (fun c => c.wellFormed == false) = true := by decide
/-- A term at the bound of each check is taken (1). -/
theorem test_wellFormed_takes_1 : ([
  .routeXfadeEnd 3263,
  .playPrefetch 63,
  .bulkWriteLost 511 0,
  .hpTimeout 511,
  .bankXfadeEnd 511,
  .spectrumWriteLost 511 0,
  .trimXfadeEnd 511,
  .zeroCrossing 511 false,
  .zcTimeout 511 false,
  .gainRampEnd 511 false,
  .laXfadeEnd 511,
  .measResultWrite 31,
  .latencyRefresh 3 ⟨0, 0, 0⟩,
  .engineComplete 105 0,
  .engineAbandon 3,
  .engineAbandonAck 105,
  .fabricHang 105,
  .engineGroupGate 19,
  .groupAwake 19,
  .asrcSettling 639 false,
  .asrcLocked 639 false,
  .convLocked 2623,
  .hwmuteClrWrite 4294967295,
  .hwmuteCfgWrite 4294967295,
  .errAckWrite 4294967295,
  .ioaspBrownOut 7 false,
  .watchdogExpire 5,
  .fwPushGo 4294967295 false,
  .blkRstWrite 4294967295 false,
  .blockResetEnd 9,
  .pllCommit 3 4294967295,
  .pllLock 3,
  .pllLossOfLock 3 0,
  .bandTimeout 3,
  .bandRetry 3,
  .ddrcFreqGo 4294967295,
  .dramReadComplete 0 7,
  .ddrcEccClr 4294967295,
  .ddrcCntClr 4294967295,
  .busRequest ⟨6, 0, 0x1000000, false, 4, [], false, false⟩,
  .busResponse 9 63 7 false 0,
  .busTimeout 7,
  .lockBreak 7,
  .matrixErrClr 4294967295,
  .dmaGo 31 4294967295 false,
  .dmaCtrlStop 31 false,
  .dmaBurstDone 31 0,
  .dmaDescFetch 31 0,
  .coreFault 5,
  .sliceExpire 5 0 false,
  .threadReady 255 0,
  .pcieCqTailWrite 1 4294967295,
  .pcieDescriptorFetch 1 false,
  .pcieReplyWrite 1,
  .pcieRqHeadWrite 1 4294967295,
  .qpCtrlWrite 1 4294967295,
  .gapTimeout 63,
  .sessionIdleTimeout 15,
  .sysSessionOpen hdr [] [],
  .sysSessionClose hdr [] []] : List Instr).all (fun c => c.wellFormed == true) = true := by decide
/-- A term at the bound of each check is taken (2). -/
theorem test_wellFormed_takes_2 : ([
  .sysFlowOpen hdr [] [],
  .sysFlowClose hdr [] [],
  .sysPing hdr [] [],
  .sysInfo hdr [] [],
  .sysPower hdr [] [],
  .sysReset hdr [] [],
  .sysResetHold hdr [] [],
  .sysErrRead hdr [] [],
  .sysErrAck hdr [] [],
  .sysRtc hdr [] [],
  .sysOptionRead hdr [] [],
  .sysFwUpdate hdr [] [],
  .scnCommit hdr [] [],
  .scnLoad hdr [] [],
  .scnDiscard hdr [] [],
  .scnRead hdr [] [],
  .scnStoreWrite hdr [] [],
  .scnStoreRecall hdr [] [],
  .scnStoreInfo hdr [] [],
  .scnStoreErase hdr [] [],
  .scnStatus hdr [] [],
  .objSetParams hdr [] [],
  .objSetGain hdr [] [],
  .objGetParams hdr [] [],
  .objStatus hdr [] [],
  .geoSpkLoad hdr [] [],
  .geoAtmosSet hdr [] [],
  .geoObjSet hdr [] [],
  .geoKey hdr [] [],
  .geoKeyFlush hdr [] [],
  .geoGetObj hdr [] [],
  .geoGetPaths hdr [] [],
  .geoBulkRegion hdr [] [],
  .pathUpdate hdr [] [],
  .pathUpdateBuf hdr [] [],
  .pathMode hdr [] [],
  .pathStatus hdr [] [],
  .feedEqSet hdr [] [],
  .feedTrimSet hdr [] [],
  .feedOutSet hdr [] [],
  .feedGainSet hdr [] [],
  .feedLimitSet hdr [] [],
  .feedRatingSet hdr [] [],
  .feedGet hdr [] [],
  .feedStatus hdr [] [],
  .corrLoad hdr [] [],
  .corrLoadMulti hdr [] [],
  .corrSwap hdr [] [],
  .corrXfcfg hdr [] [],
  .corrStatus hdr [] [],
  .corrRegion hdr [] [],
  .corrResetSlot hdr [] [],
  .routeInSet hdr [] [],
  .routeOutSet hdr [] [],
  .routeMatrixSet hdr [] [],
  .routeGenSet hdr [] [],
  .routeRingSet hdr [] [],
  .routeStatus hdr [] [],
  .aspConfig hdr [] [],
  .aspSlotmask hdr [] []] : List Instr).all (fun c => c.wellFormed == true) = true := by decide
/-- A term at the bound of each check is taken (3). -/
theorem test_wellFormed_takes_3 : ([
  .aspEnable hdr [] [],
  .aspMclk hdr [] [],
  .aspStatus hdr [] [],
  .netPortCfg hdr [] [],
  .netIpCfg hdr [] [],
  .netRingCfg hdr [] [],
  .netStreamIn hdr [] [],
  .netStreamOut hdr [] [],
  .netStreamStop hdr [] [],
  .netDiscovered hdr [] [],
  .netSubscribe hdr [] [],
  .netStatus hdr [] [],
  .netStreamStatus hdr [] [],
  .netRedundCfg hdr [] [],
  .netMdio hdr [] [],
  .timeCfg hdr [] [],
  .timeStatus hdr [] [],
  .timeAdjust hdr [] [],
  .timeServoCfg hdr [] [],
  .timeGridCfg hdr [] [],
  .timeLatSet hdr [] [],
  .timeLatRead hdr [] [],
  .timePpsCfg hdr [] [],
  .timeEvtRead hdr [] [],
  .timeFailover hdr [] [],
  .measCfg hdr [] [],
  .measStream hdr [] [],
  .measStatus hdr [] [],
  .measRestart hdr [] [],
  .hlthStatus hdr [] [],
  .hlthLogRead hdr [] [],
  .hlthIbexCfg hdr [] [],
  .hlthApprove hdr [] [],
  .hlthFawn hdr [] [],
  .hlthSlack hdr [] [],
  .memRead hdr [] [],
  .memWrite hdr [] [],
  .memCopy hdr [] [],
  .memDramInfo hdr [] [],
  .memDramFreq hdr [] [],
  .dmaStart hdr [] [],
  .dmaStop hdr [] [],
  .dmaStatus hdr [] [],
  .placeSet hdr [] [],
  .placeGet hdr [] [],
  .diagRegRead hdr [] [],
  .diagRegWrite hdr [] [],
  .diagSwardRead hdr [] [],
  .diagSelftest hdr [] [],
  .diagLoopback hdr [] [],
  .diagErrInject hdr [] [],
  .aspFrame 63 0 0 [] 0 0,
  .aspClockTimeout 63 0,
  .aspClockReturn 63,
  .aspRateMeasure 63 0,
  .aspMclkMeasure 7 0,
  .aspCommit 63 4294967295,
  .aspCtrlWrite 63 4294967295,
  .aspMaskWrite 63 4294967295 false,
  .aspBankCfgWrite 7 4294967295] : List Instr).all (fun c => c.wellFormed == true) = true := by decide
/-- A term at the bound of each check is taken (4). -/
theorem test_wellFormed_takes_4 : ([
  .aspCntClr 63 4294967295,
  .netRxFrame 1 ⟨64, true, [], 0⟩,
  .netRxOverflow 1,
  .pauseEnd 1,
  .pauseWatchdog 1,
  .pauseIgnoreEnd 1,
  .netTxFrameStart 1,
  .netTxFrameDone 1 0 false,
  .launchTimeReached 1 3,
  .mediaPacketLaunch 255,
  .mediaLateDrop 1,
  .netLinkUp 1 4 false,
  .netLinkDown 1 false,
  .lpiEnter 1,
  .lpiWake 1,
  .downshift 1,
  .netRxTailWrite 1 7 4294967295,
  .netPoolTailWrite 1 7 4294967295,
  .netTxTailWrite 1 3 4294967295,
  .netRingCtrlWrite 1 false 7 4294967295,
  .netCntClr 1 4294967295,
  .mergeWindowExpire 255 65535,
  .streamLost 255,
  .strmRegionWrite 4294967295,
  .strmCntClr 4294967295,
  .streamAnnounce 255,
  .firmwareProtocolReply 1,
  .ptpSyncReceive 1 65535 0 false 0 0 0,
  .ptpAnnounceReceive 1 ⟨0, 0, 0, 0, 0, 0, 0⟩,
  .ptpDelayRespReceive 1 65535 0 0 0,
  .ptpPdelayReqReceive 1 65535,
  .ptpDelayReqSend 1 65535 0,
  .timeSourceLost 1 0,
  .timeCommit 4294967295,
  .timeAdjGo 4294967295,
  .timeFailoverGo 4294967295,
  .txtsPop 1 4294967295,
  .evtqPop 4294967295,
  .timeLatCommit 4294967295,
  .renderCommitInput 4294967295,
  .renderCommitGen 4294967295,
  .inselWrite 639 4294967295,
  .playCtrlWrite 63 4294967295,
  .playWrWrite 63 4294967295,
  .capCtrlWrite 63 4294967295,
  .outCommit 4294967295,
  .outselWrite 2623 4294967295,
  .hpCommit 4294967295,
  .bulkBaseWrite 4294967295,
  .corrBaseWrite 4294967295,
  .measCommit 4294967295,
  .measStrCtrlWrite 31 4294967295,
  .fabMinClr 4294967295,
  .ibexApproveWrite 4294967295,
  .registerWrite 0 4294967295 false false,
  .ptpFollowUpReceive 1 65535 0 0 0,
  .dramWriteComplete 2 511 0,
  .downshiftRenegotiationTimeout 1,
  .jtagUpdateIr 255,
  .mramAccGo 0 2097151 false false] : List Instr).all (fun c => c.wellFormed == true) = true := by decide

/-! ### Worked examples of the manual -/

/-- The check value of R261. -/
theorem test_crc_check_value : crc32c ((List.range 9).map (fun i => BitVec.ofNat 8 (49 + i))) = 0xE3069283 := by decide +kernel
/-- The address table of "Worked example: computing addresses". -/
theorem test_register_addresses : [R.NET_RX_TAIL.at_ 1 5, R.FEED_OUTSEL.at_ 547 0, R.CLK_PLL_OUT_DIV.at_ 1 3, R.TIME_LAT_RATIO.at_ 2 0,
    R.ASP_STAT.at_ 42 0, R.PCIE_MSIX_CTRL.at_ 18 0] = [0x341150, 0x90888C, 0x100250, 0x38099C, 0x22A014, 0xE0112C] := by decide
/-- Distance and slope of the rear tower at Kestrel Down Racecourse (R94). -/
theorem test_rear_tower_distance :
    (mkTgt (delaySlope (distRate ⟨-2, 0, 3, 3 / 2, 0, 0⟩ 94 0 31 0).1 (distRate ⟨-2, 0, 3, 3 / 2, 0, 0⟩ 94 0 31 0).2 343 343).1
      (delaySlope (distRate ⟨-2, 0, 3, 3 / 2, 0, 0⟩ 94 0 31 0).1 (distRate ⟨-2, 0, 3, 3 / 2, 0,
      0⟩ 94 0 31 0).2 343 343).2 (33634 / 100000) 84 none).tgt.spread
      = 0xDAA8AD28 := by decide +kernel
/-- Its slope, −275. -/
theorem test_rear_tower_slope : (mkTgt 27988 (-144 / 100 / 343) 0 0 none).tgt.slope = -275 := by decide +kernel
/-- The limiter of the side hang at Aldwick Common: its threshold and release (R187). -/
theorem test_limiter_threshold : limT (-600) = 8408526 := by decide +kernel
theorem test_limiter_release : limKR 500 = 3495 := by decide +kernel
/-- Its gain as the snare enters the window, in the middle and at the end. -/
theorem test_limiter_gain : limA (8408526 :: List.replicate 40 (2 ^ 24)) 32 32 = 16523619
    ∧ limA (List.replicate 16 (2 ^ 24) ++ 8408526 :: List.replicate 40 (2 ^ 24)) 32 32 = 12466072
    ∧ limA (List.replicate 32 (2 ^ 24) ++ 8408526 :: List.replicate 40 (2 ^ 24)) 32 32 = 8408526 := by decide +kernel
/-- The tick tokens at 6,000 ticks a second: tick 6 begins 1 ms in (R33). -/
theorem test_tick_number : tickAt (1000000 * 65536) = 6 := by decide +kernel
/-- Bytes are little-endian. -/
theorem test_little_endian : (toLE 4 0x12345678).map BitVec.toNat = [0x78, 0x56, 0x34, 0x12] ∧ leNat (toLE 3 0x563412) = 0x563412 := by decide

/-! ### Lengths and images -/

theorem pk_length (l : List (Nat × Nat)) : (pk l).length = (l.map (·.1)).sum := by
  simp [pk, List.length_flatten, Function.comp_def]

/-- Zero bytes. -/
def zer (n : Nat) : List Byte := List.replicate n 0
theorem zer_length (n : Nat) : (zer n).length = n := List.length_replicate
theorem tabImg_length : tabImg.length = 64 := by simp [tabImg, sealed, pk_length]

/-! A whole scene image: every section holds one record over and over. -/

def atmosImg : List Byte := pk [(4, 343 * 65536), (2, 2000), (2, 5000), (2, 10000), (2, 6000), (2, 100), (2, 0)]
def geoImg : List Byte := pk [(4, 0), (2, 8), (2, 0), (2, 1), (2, 1), (20, 0)]
def outImg : List Byte := pk [(10, 0), (2, 1), (4, 0)]
def tabSec : List Byte := tabImg ++ zer 24544
theorem atmosImg_length : atmosImg.length = 16 := by simp [atmosImg, pk_length]
theorem geoImg_length : geoImg.length = 32 := by simp [geoImg, pk_length]
theorem outImg_length : outImg.length = 16 := by simp [outImg, pk_length]
theorem tabSec_length : tabSec.length = 24608 := by rw [tabSec, List.length_append, tabImg_length, zer_length]

/-- The sections with their record and number of records. -/
def runs : List (Nat × List Byte) :=
  [(640, zer 4), (640, zer 96), (128, zer 2048), (1, atmosImg), (512, geoImg), (1, tabSec), (512, zer 352), (512, outImg), (512, zer 8), (1, zer 64),
   (2624, zer 4)]
def runBytes (x : Nat × List Byte) : List Byte := (List.replicate x.1 x.2).flatten
def bodyImg : List Byte := (runs.map runBytes).flatten
def hdrA : List Byte := pk [(2, 0x5343), (2, 1), (2, 0x7FF), (2, 0), (4, 570288)]
theorem hdrA_length : hdrA.length = 12 := by simp [hdrA, pk_length]
def imgWith (c : Nat) (b : List Byte) : List Byte := hdrA ++ (toLE 4 c ++ (zer 8 ++ (zer 40 ++ b)))
def fullImg : List Byte := imgWith (crc32c (imgWith 0 bodyImg)) bodyImg

theorem slice_mid (a m b : List Byte) (o n : Nat) (ha : a.length = o) (hm : m.length = n) : slice (a ++ (m ++ b)) o n = m := by
  subst ha hm; simp [slice]
theorem zeroAt_mid (a m b : List Byte) (o n : Nat) (ha : a.length = o) (hm : m.length = n) :
    zeroAt (a ++ (m ++ b)) o n = a ++ (List.replicate n 0 ++ b) := by
  subst ha hm; unfold zeroAt; rw [List.take_left, ← List.drop_drop, List.drop_left, List.drop_left, List.append_assoc]

theorem zeroAt_imgWith (c : Nat) (b : List Byte) : zeroAt (imgWith c b) 12 4 = imgWith 0 b := by
  rw [imgWith, zeroAt_mid _ _ _ _ _ hdrA_length (toLE_length _ _)]; rfl
theorem fld_imgWith (c : Nat) (b : List Byte) (o n : Nat) (h : o + n ≤ 12) : fld (imgWith c b) o n = fld hdrA o n :=
  fld_append_left _ _ (by rw [hdrA_length]; exact h)
theorem crc_imgWith (c : Nat) (b : List Byte) : fld (imgWith c b) 12 4 = c % 2 ^ 32 := by
  unfold fld imgWith; rw [slice_mid _ _ _ _ _ hdrA_length (toLE_length _ _), leNat_toLE]; norm_num
theorem rest_imgWith (c : Nat) (b : List Byte) : allZero (slice (imgWith c b) 24 40) = true := by
  have : imgWith c b = (hdrA ++ (toLE 4 c ++ zer 8)) ++ (zer 40 ++ b) := by simp [imgWith, List.append_assoc]
  rw [this, slice_mid _ _ _ 24 40 (by simp [hdrA_length, zer_length]) (zer_length _)]; decide

theorem header_ok : headerBad fullImg = none := by
  have hc : fld fullImg 12 4 = crc32c (zeroAt fullImg 12 4) := by
    rw [fullImg, zeroAt_imgWith, crc_imgWith]; exact Nat.mod_eq_of_lt (crc32c_lt _)
  have h0 : allZero (slice fullImg 24 40) = true := rest_imgWith _ _
  have h1 (o n : Nat) (h : o + n ≤ 12) : fld fullImg o n = fld hdrA o n := fld_imgWith _ _ o n h
  unfold headerBad
  rw [hc, h0, h1 0 2 (by decide), h1 2 2 (by decide), h1 4 2 (by decide), h1 6 2 (by decide), h1 8 4 (by decide)]
  generalize crc32c _ = c
  rw [show fld hdrA 0 2 = 0x5343 by decide, show fld hdrA 2 2 = 1 by decide, show fld hdrA 4 2 = 0x7FF by decide,
    show fld hdrA 6 2 = 0 by decide, show fld hdrA 8 4 = 570288 by decide]
  simp [show imageSize 2047 = 570288 by decide]

theorem crc_ok : crcBad fullImg = false := by
  unfold crcBad
  rw [fullImg, zeroAt_imgWith, crc_imgWith, Nat.mod_eq_of_lt (crc32c_lt _)]; exact bne_self_eq_false _

theorem fullImg_length : fullImg.length = maxImage := by
  unfold fullImg imgWith bodyImg runs
  generalize crc32c _ = c
  simp only [List.length_append, toLE_length, zer_length, hdrA_length, List.map_cons, List.map_nil, List.flatten_cons, List.flatten_nil, runBytes,
    length_repeat, atmosImg_length, geoImg_length, outImg_length, tabSec_length, List.length_nil]
  rfl

theorem find_zeros (n : Nat) : findPos (fun y => y != 0) (zer n) = none := by
  induction n with
  | zero => rfl
  | succ n ih => rw [zer, List.replicate_succ, findPos]; exact (by rw [show List.replicate n (0 : Byte) = zer n from rfl, ih]; rfl)

theorem rec0 (r : Bool) : u.imageRec r 0 (zer 4) = none := by cases r <;> decide +kernel
theorem rec1 (r : Bool) : u.imageRec r 1 (zer 96) = none := by cases r <;> decide +kernel
theorem leNat_zeros (n : Nat) : leNat (List.replicate n 0) = 0 := by
  induction n with
  | zero => rfl
  | succ n ih => rw [List.replicate_succ, leNat, ih]; rfl
theorem fld_zer (n o k : Nat) : fld (zer n) o k = 0 := by
  unfold fld slice zer; rw [List.drop_replicate, List.take_replicate]; exact leNat_zeros _
theorem bad2 (s : Mach) (n : Nat) : s.recBad 2 (zer n) = none := by
  unfold Mach.recBad
  simp only [fld_zer, Option.map_eq_none_iff, List.find?_eq_none]
  intro f _
  decide
theorem imageRec_two (s : Mach) (r : Bool) (b : List Byte) (h : s.recBad 2 b = none) : s.imageRec r 2 b = none := by
  unfold Mach.imageRec
  simp only [h, Option.map_none]
theorem rec2 (r : Bool) : u.imageRec r 2 (zer 2048) = none := imageRec_two u r _ (bad2 u 2048)
theorem rec3 (r : Bool) : u.imageRec r 3 atmosImg = none := by cases r <;> decide +kernel
theorem rec4 (r : Bool) : u.imageRec r 4 geoImg = none := by cases r <;> decide +kernel
theorem rec6 (r : Bool) : u.imageRec r 6 (zer 352) = none := by cases r <;> decide +kernel
theorem rec7 (r : Bool) : u.imageRec r 7 outImg = none := by cases r <;> decide +kernel
theorem rec8 (r : Bool) : u.imageRec r 8 (zer 8) = none := by cases r <;> decide +kernel
theorem rec10 (r : Bool) : u.imageRec r 10 (zer 4) = none := by cases r <;> decide +kernel
theorem tab_ok : u.recBad 5 tabImg = none := by decide +kernel
theorem rec5 (r : Bool) : u.imageRec r 5 tabSec = none := by
  have hn : tabLen tabSec = 64 := by
    unfold tabLen tabSec
    rw [fld_append_left _ _ (by rw [tabImg_length]; decide), fld_append_left _ _ (by rw [tabImg_length]; decide)]
    decide +kernel
  have ht : tabSec.take 64 = tabImg := by rw [tabSec, ← tabImg_length, List.take_left]
  have hd : tabSec.drop 64 = zer 24544 := by rw [tabSec, ← tabImg_length, List.drop_left]
  unfold Mach.imageRec
  simp only [hn, ht, hd, tab_ok, find_zeros, tabSec_length, Option.map_none]
  rfl

/-- Header of the whole image. -/
def hdrImg : List Byte := hdrA ++ (toLE 4 (crc32c (imgWith 0 bodyImg)) ++ (zer 8 ++ zer 40))
theorem hdrImg_length : hdrImg.length = 64 := by simp [hdrImg, hdrA_length, zer_length]
theorem fullImg_eq : fullImg = hdrImg ++ bodyImg := by simp [fullImg, imgWith, hdrImg, List.append_assoc]

/-- Run j of the image, with what stands before and behind it. -/
theorem split_run (j : Nat) (h : j < runs.length) : fullImg = (hdrImg ++ ((runs.take j).map runBytes).flatten)
    ++ ((List.replicate runs[j].1 runs[j].2).flatten ++ ((runs.drop (j + 1)).map runBytes).flatten) := by
  have e : bodyImg = ((runs.take j).map runBytes).flatten ++ (runBytes runs[j] ++ ((runs.drop (j + 1)).map runBytes).flatten) := by
    rw [← List.flatten_cons, ← List.map_cons, ← List.drop_eq_getElem_cons h, ← List.flatten_append, ← List.map_append, List.take_append_drop]; rfl
  rw [fullImg_eq, e, List.append_assoc]; rfl

theorem run_ok (b : Bool) (j at_ : Nat) (n : Nat) (x : List Byte) (h : j < runs.length) (hn : runs[j] = (n, x))
    (hs : sections.getD j (0, 0) = (n, x.length)) (ha : (hdrImg ++ ((runs.take j).map runBytes).flatten).length = at_)
    (hr : u.imageRec b j x = none) (i : Nat) (hi : i < (sections.getD j (0, 0)).1) :
    u.imageRec b j (slice fullImg (at_ + i * (sections.getD j (0, 0)).2) (sections.getD j (0, 0)).2) = none := by
  rw [hs] at hi ⊢
  subst ha
  rw [split_run j h, hn, slice_repeat _ _ _ _ _ hi, hr]

theorem secPlaces_all : secPlaces 0x7FF = [(0, 64), (1, 2624), (2, 64064), (3, 326208), (4, 326224), (5, 342608), (6, 367216), (7, 547440), (8,
      555632),
    (9, 559728), (10, 559792)] := by decide

theorem before_run (j at_ : Nat) (h : 64 + ((runs.take j).map (fun x => x.1 * x.2.length)).sum = at_) :
    (hdrImg ++ ((runs.take j).map runBytes).flatten).length = at_ := by
  rw [List.length_append, hdrImg_length, List.length_flatten, List.map_map, ← h]
  congr 3
  funext x
  exact length_repeat x.1 x.2

theorem run_lengths : runs.map (fun x => x.1 * x.2.length) = [2560, 61440, 262144, 16, 16384, 24608, 180224, 8192, 4096, 64, 10496] := by
  simp only [runs, List.map_cons, List.map_nil, zer_length, atmosImg_length, geoImg_length, outImg_length, tabSec_length]

theorem at_run (j at_ : Nat) (h : 64 + ([2560, 61440, 262144, 16, 16384, 24608, 180224, 8192, 4096, 64, 10496].take j).sum = at_) :
    (hdrImg ++ ((runs.take j).map runBytes).flatten).length = at_ :=
  before_run j at_ (by rw [List.map_take, run_lengths]; exact h)

theorem runs_ok (b : Bool) : ∀ x ∈ [(0, 64), (1, 2624), (2, 64064), (3, 326208), (4, 326224), (5, 342608), (6, 367216), (7, 547440), (8, 555632),
    (9, 559728), (10, 559792)], ∀ i, i < (sections.getD x.1 (0, 0)).1 →
      u.imageRec b x.1 (slice fullImg (x.2 + i * (sections.getD x.1 (0, 0)).2) (sections.getD x.1 (0, 0)).2) = none := by
  simp only [List.forall_mem_cons, List.not_mem_nil, false_implies, implies_true, and_true]
  exact ⟨run_ok b 0 64 640 (zer 4) (by decide) rfl (by rw [zer_length]; rfl) (at_run _ _ (by decide)) (rec0 b),
    run_ok b 1 2624 640 (zer 96) (by decide) rfl (by rw [zer_length]; rfl) (at_run _ _ (by decide)) (rec1 b),
    run_ok b 2 64064 128 (zer 2048) (by decide) rfl (by rw [zer_length]; rfl) (at_run _ _ (by decide)) (rec2 b),
    run_ok b 3 326208 1 atmosImg (by decide) rfl (by rw [atmosImg_length]; rfl) (at_run _ _ (by decide)) (rec3 b),
    run_ok b 4 326224 512 geoImg (by decide) rfl (by rw [geoImg_length]; rfl) (at_run _ _ (by decide)) (rec4 b),
    run_ok b 5 342608 1 tabSec (by decide) rfl (by rw [tabSec_length]; rfl) (at_run _ _ (by decide)) (rec5 b),
    run_ok b 6 367216 512 (zer 352) (by decide) rfl (by rw [zer_length]; rfl) (at_run _ _ (by decide)) (rec6 b),
    run_ok b 7 547440 512 outImg (by decide) rfl (by rw [outImg_length]; rfl) (at_run _ _ (by decide)) (rec7 b),
    run_ok b 8 555632 512 (zer 8) (by decide) rfl (by rw [zer_length]; rfl) (at_run _ _ (by decide)) (rec8 b),
    run_ok b 9 559728 1 (zer 64) (by decide) rfl (by rw [zer_length]; rfl) (at_run _ _ (by decide)) (by unfold Mach.imageRec; rfl),
    run_ok b 10 559792 2624 (zer 4) (by decide) rfl (by rw [zer_length]; rfl) (at_run _ _ (by decide)) (rec10 b)⟩

theorem imageBad_none (s : Mach) (b : Bool) (img : List Byte) (h1 : headerBad img = none)
    (h2 : ∀ x ∈ secPlaces (fld img 4 2), ∀ i, i < (sections.getD x.1 (0, 0)).1 →
      s.imageRec b x.1 (slice img (x.2 + i * (sections.getD x.1 (0, 0)).2) (sections.getD x.1 (0, 0)).2) = none) : s.imageBad b img = none := by
  unfold Mach.imageBad
  rw [h1]
  show List.findSome? _ _ = none
  rw [List.findSome?_eq_none_iff]
  rintro ⟨k, at_⟩ hx
  show List.findSome? _ _ = none
  rw [List.findSome?_eq_none_iff]
  intro i hi
  show (if !s.secInst k i then none else _) = none
  split
  · rfl
  · rw [h2 _ hx i (by simpa [upto] using hi)]; rfl

/-- The image is one the part takes. -/
theorem image_ok (b : Bool) : u.imageChk b fullImg = none := by
  have hm : fld fullImg 4 2 = fld hdrA 4 2 := fld_imgWith _ _ 4 2 (by decide)
  have h7 : fld hdrA 4 2 = 0x7FF := by decide
  unfold Mach.imageChk
  rw [imageBad_none u b fullImg header_ok (by rw [hm, h7, secPlaces_all]; exact runs_ok b)]; rfl
theorem mwr_imageChk (s : Mach) (a : Nat) (l : List Byte) (r : Bool) (img : List Byte) : (s.mwr a l).imageChk r img = s.imageChk r img := rfl
theorem mwr_takes (s : Mach) (a : Nat) (l : List Byte) (o : Origin) : (st (s.mwr a l)).takes o = (st s).takes o := rfl
theorem mwr_bufChk (s : Mach) (a : Nat) (l : List Byte) (p : List Byte) (k : Nat) : (s.mwr a l).bufChk p k = s.bufChk p k := rfl
theorem mwr_bufErr (s : Mach) (a : Nat) (l : List Byte) (b : Buf) (w e : Bool) : (s.mwr a l).bufErr b w e = s.bufErr b w e := rfl
theorem mwr_bufRead (s : Mach) (a : Nat) (l : List Byte) (p : List Byte) (k : Nat) (ha : pf p k 8 = a) (hl : pf p (k + 8) 4 = l.length) :
    (s.mwr a l).bufRead (bufOf p k) = l := by
  subst ha
  unfold Mach.bufRead bufOf Mach.mrd Mach.mwr
  simp only [hl, memGet_memPut_self]
theorem mwr_slotImage (s : Mach) (l l4 : List Byte) (k : Nat) (hk : k < 8) (hl : l.length = maxImage) (h4 : l4.length = 4) (h : leNat l4 = 1) :
    ((s.mwr (storeFrame 0) l).mwr (storeDir + 16 * k) l4).slotImage k = some l := by
  have h1 : ((s.mwr (storeFrame 0) l).mwr (storeDir + 16 * k) l4).slotFrame k = 1 := by
    unfold Mach.slotFrame Mach.mrd Mach.mwr
    rw [← h4, memGet_memPut_self, h]
  have h2 : ((s.mwr (storeFrame 0) l).mwr (storeDir + 16 * k) l4).mrd (storeFrame 0) maxImage = l := by
    unfold Mach.mrd Mach.mwr
    rw [memGet_memPut_above _ _ _ _ _ (by rw [h4]; unfold storeDir storeFrame; omega), ← hl, memGet_memPut_self]
  unfold Mach.slotImage
  rw [h1]
  simp only [h2]
  rfl
def pWrite : List Byte := pk [(1, 7), (3, 0), (8, 0x1000000), (4, 570288), (4, 0)]
theorem wit_SceneOpcodes_store_write :
    ∃ (s : State) (o : Sys2Proof.Origin) (p : List Byte) (obs : List Nat) (t : Mach) (img : List Byte), s.takes o ∧ lenOf p = 40 ∧ pf p 16 1 ≤ 7 ∧
      pf p 17 3 = 0 ∧ s.m.bufChk p 20 = none ∧
    s.m.bufErr (bufOf p 20) false (obsOn obs 0) = false ∧ obsOn obs 1 = false ∧ t = s.m.bufTouch (bufOf p 20) ∧ img = s.m.bufRead (bufOf p 20) ∧
      t.imageChk false img = none ∧
    fld img 4 2 = 0x7FF ∧ pf p 28 4 = maxImage :=
  ⟨st (u.mwr 0x1000000 fullImg), org, pWrite, [], _, fullImg, (mwr_takes _ _ _ _).mpr (by decide), by decide, by decide, by decide,
    (mwr_bufChk u _ _ _ _).trans (by decide), (mwr_bufErr u _ _ _ _ _).trans (by decide), by decide, rfl,
    (mwr_bufRead u _ _ _ _ (by decide) (by rw [fullImg_length]; decide)).symm, (mwr_imageChk u _ _ _ _).trans (image_ok false),
    (fld_imgWith _ _ 4 2 (by decide)).trans (by decide), by decide⟩
theorem wit_SceneOpcodes_store_recall :
    ∃ (s : State) (o : Sys2Proof.Origin) (p : List Byte) (img : List Byte), s.takes o ∧ lenOf p = 24 ∧ pf p 16 1 ≤ 7 ∧ pf p 17 3 = 0 ∧
      s.m.slotImage (pf p 16 1) = some img ∧
    crcBad img = false ∧ s.m.imageChk true img = none :=
  ⟨st ((u.mwr (storeFrame 0) fullImg).mwr (storeDir + 16 * 7) (toLE 4 1)), org, pk [(1, 7), (3, 0)], fullImg,
    (mwr_takes _ _ _ _).mpr ((mwr_takes _ _ _ _).mpr (by decide)), by decide, by decide, by decide,
    (congrArg _ (by decide)).trans (mwr_slotImage u _ _ 7 (by decide) fullImg_length (toLE_length _ _) (by decide)), crc_ok,
    (mwr_imageChk _ _ _ _ _).trans ((mwr_imageChk u _ _ _ _).trans (image_ok true))⟩
def bankHdr : List Byte := pk [(2, 0x434B), (2, 1), (20, 0)]
theorem bankHdr_length : bankHdr.length = 24 := by simp [bankHdr, pk_length]
def bankWith (c : Nat) : List Byte := bankHdr ++ (toLE 4 c ++ (zer 36 ++ zer 512))
/-- The smallest bank image: no partitions. -/
def bankImg : List Byte := bankWith (crc32c (bankWith 0))
theorem bankImg_length : bankImg.length = 576 := by simp [bankImg, bankWith, bankHdr_length, zer_length]
theorem bank_ok : bankBad bankImg = none := by
  have h1 (o n : Nat) (h : o + n ≤ 24) : fld bankImg o n = fld bankHdr o n := fld_append_left _ _ (by rw [bankHdr_length]; exact h)
  have hz : zeroAt bankImg 24 4 = bankWith 0 := by
    rw [bankImg, bankWith, zeroAt_mid _ _ _ _ _ bankHdr_length (toLE_length _ _)]; rfl
  have hc : fld bankImg 24 4 = crc32c (bankWith 0) := by
    rw [bankImg, bankWith]; unfold fld
    rw [slice_mid _ _ _ _ _ bankHdr_length (toLE_length _ _), leNat_toLE]
    exact Nat.mod_eq_of_lt (crc32c_lt _)
  have h0 : slice bankImg 28 36 = zer 36 := by
    have : bankImg = (bankHdr ++ toLE 4 (crc32c (bankWith 0))) ++ (zer 36 ++ zer 512) := by simp [bankImg, bankWith, List.append_assoc]
    rw [this, slice_mid _ _ _ _ _ (by simp [bankHdr_length]) (zer_length _)]
  unfold bankBad
  rw [hz, hc, h0, bankImg_length, h1 0 2 (by decide), h1 2 2 (by decide), h1 4 1 (by decide), h1 5 1 (by decide), h1 6 2 (by decide),
      h1 8 3 (by decide),
    h1 11 1 (by decide), h1 12 2 (by decide), h1 14 2 (by decide)]
  generalize crc32c _ = c
  rw [show fld bankHdr 0 2 = 0x434B by decide, show fld bankHdr 2 2 = 1 by decide, show fld bankHdr 4 1 = 0 by decide,
      show fld bankHdr 5 1 = 0 by decide,
    show fld bankHdr 6 2 = 0 by decide, show fld bankHdr 8 3 = 0 by decide, show fld bankHdr 11 1 = 0 by decide, show fld bankHdr 12 2 = 0 by decide,
    show fld bankHdr 14 2 = 0 by decide, show allZero (zer 36) = true by decide]
  simp [upto, bankSize, findPos]
theorem mwr_slotBusy (s : Mach) (a : Nat) (l : List Byte) (f k : Nat) : (s.mwr a l).slotBusy f k = s.slotBusy f k := rfl
/-- A part with a correction-bank region. -/
def uCorr : Mach := u.sf F.FEED_CORR_BASE_HI_EN 1
theorem wit_CorrectionOpcodes_load :
    ∃ (s : State) (o : Sys2Proof.Origin) (p : List Byte) (obs : List Nat), s.takes o ∧ lenOf p = 40 ∧ pf p 16 2 < s.m.variant.feeds ∧ pf p 18 1 ≤ 1 ∧
      pf p 19 1 = 0 ∧ (∀ e ∈ s.m.cmd.loads, e.1 ≠ o.id) ∧ s.m.bufChk p 20 = none ∧ pf p 28 4 ≤ 66616 ∧ s.m.corrOn = true ∧
      s.m.slotBusy (pf p 16 2) (pf p 18 1) = none ∧ s.m.bufErr (bufOf p 20) false (obsOn obs 0) = false ∧ bankBad (s.m.bufRead (bufOf p 20)) = none :=
  ⟨st (uCorr.mwr 0x1000000 bankImg), org, pk [(2, 511), (1, 1), (1, 0), (8, 0x1000000), (4, 576), (4, 0)], [],
    (mwr_takes _ _ _ _).mpr (by decide), by decide, by decide, by decide, by decide, fun _ h => absurd h List.not_mem_nil,
      (mwr_bufChk uCorr _ _ _ _).trans (by decide), by decide,
    by decide +kernel, (mwr_slotBusy uCorr _ _ _ _).trans (by decide), (mwr_bufErr uCorr _ _ _ _ _).trans (by decide),
    (congrArg bankBad (mwr_bufRead uCorr _ _ _ _ (by decide) (by rw [bankImg_length]; decide))).trans bank_ok⟩
def pMulti : List Byte := pk [(1, 1), (3, 0), (63, 0), (1, 0x80), (8, 0x1000000), (4, 576), (4, 0)]
theorem wit_CorrectionOpcodes_load_multi :
    ∃ (s : State) (o : Sys2Proof.Origin) (p : List Byte) (obs : List Nat) (fs : List Nat), s.takes o ∧ lenOf p = 104 ∧ pf p 16 1 ≤ 1 ∧ pf p 17 3 = 0 ∧
      fs = (upto 512).filter (fun f => bitOf (pf p (20 + f / 8) 1) (f % 8)) ∧ fs ≠ [] ∧ (∀ f ∈ fs, f < s.m.variant.feeds ∧
      s.m.slotBusy f (pf p 16 1) = none) ∧ (∀ e ∈ s.m.cmd.loads, e.1 ≠ o.id) ∧ s.m.bufChk p 84 = none ∧ pf p 92 4 ≤ 66616 ∧ s.m.corrOn = true ∧
      s.m.bufErr (bufOf p 84) false (obsOn obs 0) = false ∧ bankBad (s.m.bufRead (bufOf p 84)) = none :=
  have hf : (upto 512).filter (fun f => bitOf (pf pMulti (20 + f / 8) 1) (f % 8)) = [511] := by decide +kernel
  ⟨st (uCorr.mwr 0x1000000 bankImg), org, pMulti, [], [511],
    (mwr_takes _ _ _ _).mpr (by decide), by decide, by decide, by decide, hf.symm, List.cons_ne_nil _ _,
    by intro f hm; rw [List.mem_singleton] at hm; subst hm; exact ⟨by decide, (mwr_slotBusy uCorr _ _ _ _).trans (by decide)⟩,
    fun _ h => absurd h List.not_mem_nil,
    (mwr_bufChk uCorr _ _ _ _).trans (by decide), by decide,
    by decide +kernel, (mwr_bufErr uCorr _ _ _ _ _).trans (by decide),
    (congrArg bankBad (mwr_bufRead uCorr _ _ _ _ (by decide) (by rw [bankImg_length]; decide))).trans bank_ok⟩

theorem rowsBad_zeros (s : Mach) : rowsBad s [zer 2052] = none := by
  have hd : (zer 2052).drop 4 = zer 2048 := by rw [zer, List.drop_replicate]; rfl
  simp [rowsBad, fld_zer, hd, K.MATRIX, bad2]
def pRow : List Byte := pk [(1, 1), (15, 0), (2, 0), (2, 127)] ++ (zer 2048 ++ [])
theorem wit_RoutingOpcodes_row :
    ∃ (s : State) (o : Sys2Proof.Origin) (p : List Byte), s.takes o ∧ lenOf p = 2088 ∧ s.m.timingChk 14 p = none ∧ pf p 32 2 = 0 ∧ pf p 34 2 ≤ 127 ∧
    s.m.recBad K.MATRIX (slice p 20 2048) = none ∧ s.m.timeRoom p 1 :=
  ⟨st u, org, pRow, by decide, by decide +kernel, by decide, by decide, by decide,
    (congrArg _ (slice_mid _ _ _ _ _ (by simp [pk_length]) (zer_length _))).trans (bad2 u 2048), by decide⟩
def pRows : List Byte := pk [(1, 1), (15, 0), (4, 1), (8, 0x1000000), (4, 2052), (4, 0)]
theorem wit_RoutingOpcodes_rows :
    ∃ (s : State) (o : Sys2Proof.Origin) (p : List Byte) (obs : List Nat) (t : Mach) (l : List (List Byte)), s.takes o ∧ lenOf p = 56 ∧
      s.m.timingChk 14 p = none ∧ pf p 32 4 = 1 ∧ s.m.bufChk p 36 = none ∧
    1 ≤ pf p 44 4 ∧ pf p 44 4 % 2052 = 0 ∧ pf p 44 4 ≤ 128 * 2052 ∧ s.m.bufErr (bufOf p 36) false (obsOn obs 0) = false ∧
    t = s.m.bufTouch (bufOf p 36) ∧ l = chunks 2052 128 (s.m.bufRead (bufOf p 36)) ∧ rowsBad t l = none ∧ t.timeRoom p l.length :=
  ⟨st u, org, pRows, [], u, [zer 2052], by decide, by decide, by decide, by decide, by decide, by decide, by decide, by decide, by decide +kernel,
      rfl,
    by decide +kernel, rowsBad_zeros u, by decide⟩

/-! ### Witnesses -/

/-- Every clause of ArrivingPacketsAreChecked that has hypotheses has operands that meet them. -/
theorem wit_ArrivingPacketsAreChecked :
    (∃ (raw : List Byte), (fld raw 0 2 ≠ 0x5643 ∨ raw.length % 4 ≠ 0 ∨ raw.length < 20 ∨ 4096 < raw.length ∨ fld raw 4 2 ≠ raw.length))
    ∧ (∃ (x : Xport) (tag : Nat) (raw : List Byte) (n : Nat) (o : Sys2Proof.Origin), n = raw.length ∧ fld raw 0 2 = 0x5643 ∧ n % 4 = 0 ∧ 20 ≤ n ∧
      n ≤ 4096 ∧ fld raw 4 2 = n ∧ o = (⟨0, x, fld raw 6 1, fld raw 7 1, fld raw 8 2, tag, bitOf (fld raw 3 1) 1, bitOf (fld raw 3 1) 3⟩ : Origin)) :=
  ⟨⟨[], by decide⟩,
   ⟨.spi, 0, pk [(2, 0x5643), (1, 1), (1, 2), (2, 20), (1, 255), (1, 0), (2, 0), (2, 0x0101), (4, 0), (4, 0)], 20, ⟨0, .spi, 255, 0, 0, 0, true,
      false⟩, by decide⟩⟩

/-- Each outcome of ArrivingPacketsAreChecked has a packet that meets it. -/
theorem wit_ArrivingPacketsAreChecked_cases :
    (∃ raw : List Byte, fld raw 0 2 = 0x5643 ∧ raw.length = 20 ∧ fld raw 4 2 = 20 ∧ fld raw 16 4 ≠ crc32c (raw.take 16))
    ∧ (∃ (raw : List Byte) (d : Nat), fld raw 0 2 = 0x5643 ∧ raw.length = 20 ∧ fld raw 4 2 = 20 ∧ fld raw 16 4 = crc32c (raw.take 16) ∧
      step3 raw = some d)
    ∧ (∃ (s : Mach) (raw : List Byte), fld raw 0 2 = 0x5643 ∧ raw.length = 20 ∧ fld raw 4 2 = 20 ∧ fld raw 16 4 = crc32c (raw.take 16) ∧
      step3 raw = none ∧ fld raw 6 1 ≠ 255 ∧ mfind s.cmd.sess (fld raw 6 1) = none)
    ∧ (∃ (s : Mach) (x : Xport) (raw : List Byte) (z : Sess), fld raw 0 2 = 0x5643 ∧ raw.length = 20 ∧ fld raw 4 2 = 20 ∧
      fld raw 16 4 = crc32c (raw.take 16) ∧ step3 raw = none ∧ fld raw 6 1 ≠ 255 ∧ mfind s.cmd.sess (fld raw 6 1) = some z ∧ z.xport ≠ x)
    ∧ (∃ raw : List Byte, fld raw 0 2 = 0x5643 ∧ raw.length = 20 ∧ fld raw 4 2 = 20 ∧ fld raw 16 4 = crc32c (raw.take 16) ∧ step3 raw = none ∧
      fld raw 6 1 = 255 ∧ fld raw 10 2 ≠ 0x0101 ∧ fld raw 10 2 ≠ 0x0105)
    ∧ (∃ (s : Mach) (x : Xport) (raw : List Byte) (z : Sess), fld raw 0 2 = 0x5643 ∧ raw.length = 20 ∧ fld raw 4 2 = 20 ∧
      fld raw 16 4 = crc32c (raw.take 16) ∧ step3 raw = none ∧ fld raw 6 1 ≠ 255 ∧ fld raw 7 1 = 0 ∧ mfind s.cmd.sess (fld raw 6 1) = some z ∧
      z.xport = x) :=
  ⟨⟨pk [(2, 0x5643), (1, 1), (1, 6), (2, 20), (1, 255), (1, 0), (2, 0), (2, 0x0101), (4, 0), (4, 0)], by decide +kernel⟩,
   ⟨wirePacket (pk [(2, 0x5643), (1, 2), (1, 6), (2, 20), (1, 7), (1, 0), (2, 0), (2, 261), (4, 0)]), 2, by decide +kernel⟩,
   ⟨u, wirePacket (pk [(2, 0x5643), (1, 1), (1, 6), (2, 20), (1, 7), (1, 0), (2, 0), (2, 261), (4, 0)]), by decide +kernel⟩,
   ⟨uSess, .spi, wirePacket (pk [(2, 0x5643), (1, 1), (1, 6), (2, 20), (1, 7), (1, 0), (2, 0), (2, 261), (4, 0)]), sess7, by decide +kernel⟩,
   ⟨wirePacket (pk [(2, 0x5643), (1, 1), (1, 6), (2, 20), (1, 255), (1, 0), (2, 0), (2, 515), (4, 0)]), by decide +kernel⟩,
   ⟨uSess, .pcie 0, wirePacket (pk [(2, 0x5643), (1, 1), (1, 6), (2, 20), (1, 7), (1, 0), (2, 0), (2, 261), (4, 0)]), sess7, by decide +kernel⟩⟩

/-- Every clause of BusTransactions that has hypotheses has operands that meet them. -/
theorem wit_BusTransactions :
    (∃ (s : State) (x : BusTx), s.live ∧ x.ok = true ∧ 1 ≤ x.len ∧ x.len ≤ 256 ∧ x.lock = false ∧ x.unlock = false ∧ s.m.bus.waiting = [] ∧
      s.m.bus.out = [] ∧ s.m.bus.locks = [] ∧ (x.master = 6 → s.m.d3hot = false) ∧ s.m.matrixCode x.master x.id x.addr x.len x.wr = 0)
    ∧ (∃ (s : State) (i : Nat) (d : Nat) (t : Nat) (x : BusTx), s.live ∧ i < 10 ∧ d < 64 ∧ (t = 3 ∨ t = 4 ∨ t = 6) ∧ s.m.bus.waiting = [] ∧
      s.m.oldestOut i d t true = some x)
    ∧ (∃ (s : State) (i : Nat) (d : Nat) (t : Nat) (x : BusTx), s.live ∧ i < 10 ∧ d < 64 ∧ (t = 3 ∨ t = 4 ∨ t = 6) ∧ s.m.bus.waiting = [] ∧
      s.m.oldestOut i d t false = some x)
    ∧ (∃ (s : State) (i : Nat) (d : Nat) (t : Nat) (x : BusTx) (w : Bool) (c : Nat), s.live ∧ i < 10 ∧ d < 64 ∧ t < 8 ∧ 1 ≤ c ∧ c ≤ 6 ∧
      s.m.bus.waiting = [] ∧ s.m.oldestOut i d t w = some x)
    ∧ (∃ (s : State) (t : Nat) (x : BusTx), s.live ∧ t < 8 ∧ x ∈ s.m.bus.out ∧ s.m.target x.addr = t ∧ s.m.bus.waiting = [])
    ∧ (∃ (s : State) (t : Nat) (l : BusLock), s.live ∧ t < 8 ∧ mfind s.m.bus.locks t = some l ∧ s.m.bus.waiting = [])
    ∧ (∃ (s : State) (v : Nat), s.live ∧ v < 2 ^ 32 ∧ bitOf v 0 = true)
    ∧ (∃ (s : State) (x : BusTx), s.live ∧ s.m.bus.waiting = [] ∧ s.m.bus.out.find? (fun x => s.m.target x.addr == 6 && !x.wr) = some x) :=
  ⟨⟨(st u), (⟨6, 0, 0x1000000, false, 256, [], false, false⟩ : BusTx), by decide⟩,
   ⟨(st { u with bus := { BusSt.init with out := [(⟨6, 0, 0x1000000, true, 4, [1, 2, 3, 4], false, false⟩ : BusTx)] } }), 6, 0, 3, (⟨6, 0, 0x1000000,
      true, 4, [1, 2, 3, 4], false, false⟩ : BusTx), by decide⟩,
   ⟨(st { u with bus := { BusSt.init with out := [(⟨6, 0, 0x1000000, false, 4, [], false, false⟩ : BusTx)] } }), 6, 0, 3, (⟨6, 0, 0x1000000, false, 4,
      [], false, false⟩ : BusTx), by decide⟩,
   ⟨(st { u with bus := { BusSt.init with out := [(⟨6, 0, 0x1000000, false, 4, [], false, false⟩ : BusTx)] } }), 6, 0, 3, (⟨6, 0, 0x1000000, false, 4,
      [], false, false⟩ : BusTx), false, 6, by decide⟩,
   ⟨(st { u with bus := { BusSt.init with out := [(⟨6, 0, 0x1000000, false, 4, [], false, false⟩ : BusTx)] } }), 3, (⟨6, 0, 0x1000000, false, 4, [],
      false, false⟩ : BusTx), by decide⟩,
   ⟨(st { u with bus := { BusSt.init with locks := [(3, ⟨6, 0, false⟩)] } }), 3, (⟨6, 0, false⟩ : BusLock), by decide⟩,
   ⟨(st u), 1, by decide⟩,
   ⟨(st { u with bus := { BusSt.init with out := [(⟨7, 0, hostBit, false, 4, [], false, false⟩ : BusTx)] } }), (⟨7, 0, hostBit, false, 4, [], false,
      false⟩ : BusTx), by decide⟩⟩

/-- Every clause of ClockEvents that has hypotheses has operands that meet them. -/
theorem wit_ClockEvents :
    (∃ (s : State), s.live ∧ s.m.on F.CLK_STAT_BACKUP = true ∧ s.m.pllLocked 0 = true)
    ∧ (∃ (s : State) (p : Nat) (v : Nat), s.live ∧ p < 4 ∧ v < 2 ^ 32 ∧ bitOf v 0 = true ∧ s.m.pllRefuse p = true)
    ∧ (∃ (s : State) (p : Nat) (v : Nat), s.live ∧ p < 4 ∧ v < 2 ^ 32 ∧ bitOf v 0 = true ∧ s.m.pllRefuse p = false ∧ s.m.pllLocked p = true ∧
      s.m.rd R.CLK_PLL_CTRL p = s.m.lv R.CLK_PLL_CTRL p ∧ s.m.rd R.CLK_PLL_FRAC p = s.m.lv R.CLK_PLL_FRAC p)
    ∧ (∃ (s : State) (p : Nat), s.live ∧ p < 4 ∧ s.m.pllLocked p = true)
    ∧ (∃ (s : State) (p : Nat), s.live ∧ p < 4 ∧ s.m.pllState p = 1 ∧ (s.m.pllSt p).wait = none ∧ s.m.phase ≠ 2)
    ∧ (∃ (s : State) (p : Nat) (a : Nat) (b : Nat) (r : List Nat), s.live ∧ p < 4 ∧ s.m.pllState p = 1 ∧ (s.m.pllSt p).cand = a :: b :: r ∧ b < 16)
    ∧ (∃ (s : State) (p : Nat) (b : Nat) (r : List Nat), s.live ∧ p < 4 ∧ s.m.pllState p = 5 ∧ s.m.bandCands p = b :: r) :=
  ⟨⟨(st ((u.setPll 0 3).sf F.CLK_STAT_BACKUP 1)), by decide⟩,
   ⟨(st u), 3, 1, by decide⟩,
   ⟨(st (u.setPll 1 3)), 1, 1, by decide⟩,
   ⟨(st (u.setPll 3 3)), 3, by decide⟩,
   ⟨(st (u.setPll 0 1)), 0, by decide⟩,
   ⟨(st { u.setPll 0 1 with pll := [(0, { u.pllSt 0 with cand := [1, 15] })] }), 0, 1, 15, ([] : List Nat), by decide⟩,
   ⟨(st (((u.setPll 0 5).sf F.CLK_PLL_BAND_CODE_VALID 1 0 15).wr R.CLK_PLL_BAND_RANGE 0xFFFF0000 0 15)), 0, 15, ([] : List Nat), by decide⟩⟩

/-- Every clause of CommandQueuesAndMailbox that has hypotheses has operands that meet them. -/
theorem wit_CommandQueuesAndMailbox :
    (∃ (s : State) (q : Nat) (v : Nat), q < 2 ∧ v < 0x100000000 ∧ s.live ∧ v % 4096 < 2 ^ s.m.gf F.CMD_QP_CTRL_CQ_SIZE q)
    ∧ (∃ (s : State) (q : Nat) (v : Nat), q < 2 ∧ v < 0x100000000 ∧ s.live ∧ 2 ^ s.m.gf F.CMD_QP_CTRL_CQ_SIZE q ≤ v % 4096)
    ∧ (∃ (s : State) (q : Nat) (v : Nat), q < 2 ∧ v < 0x100000000 ∧ s.live ∧
      (s.m.on F.CMD_QP_CTRL_EN q = true → (s.m.wr R.CMD_QP_RQ_HEAD (v % 1024) q).rqFree q = true))
    ∧ (∃ (s : State) (q : Nat) (v : Nat), q < 2 ∧ v < 0x100000000 ∧ s.live ∧ 4 ≤ bits v 4 4 ∧ bits v 4 4 ≤ 12 ∧ 4 ≤ bits v 8 4 ∧ bits v 8 4 ≤ 10 ∧
      bitOf v 0 = true ∧ s.m.on F.CMD_QP_CTRL_EN q = false)
    ∧ (∃ (s : State) (q : Nat) (v : Nat), q < 2 ∧ v < 0x100000000 ∧ s.live ∧ 4 ≤ bits v 4 4 ∧ bits v 4 4 ≤ 12 ∧ 4 ≤ bits v 8 4 ∧ bits v 8 4 ≤ 10 ∧
      bitOf v 0 = false ∧ s.m.on F.CMD_QP_CTRL_EN q = true ∧ bits v 4 4 = s.m.gf F.CMD_QP_CTRL_CQ_SIZE q ∧
      bits v 8 4 = s.m.gf F.CMD_QP_CTRL_RQ_SIZE q)
    ∧ (∃ (s : State) (q : Nat) (a : Nat) (d : List Byte) (o : Sys2Proof.Origin) (m : Mach), q < 2 ∧ s.live ∧ s.m.on F.CMD_QP_CTRL_EN q = true ∧
      s.m.rd R.CMD_QP_CQ_HEAD q ≠ s.m.rd R.CMD_QP_CQ_TAIL q ∧ s.m.poolFull = false ∧ s.m.rqFree q = true ∧
      a = hostAddr (s.m.rd R.CMD_QP_CQ_BASE_LO q) (s.m.rd R.CMD_QP_CQ_BASE_HI q) + 16 * s.m.rd R.CMD_QP_CQ_HEAD q ∧ d = s.m.mrd a 16 ∧ o = (⟨0,
      .pcie q, 0, 0, 0, fld d 12 4, false, false⟩ : Origin) ∧
      m = s.m.wr R.CMD_QP_CQ_HEAD ((s.m.rd R.CMD_QP_CQ_HEAD q + 1) % 2 ^ s.m.gf F.CMD_QP_CTRL_CQ_SIZE q) q)
    ∧ (∃ (s : State) (q : Nat), q < 2 ∧ s.live ∧ (s.m.on F.CMD_QP_CTRL_EN q = false ∨ s.m.rd R.CMD_QP_CQ_HEAD q = s.m.rd R.CMD_QP_CQ_TAIL q ∨ s.m.poolFull = true ∨ s.m.rqFree q = false))
    ∧ (∃ (s : State) (q : Nat) (p : List Byte) (r : List (List Byte)), q < 2 ∧ s.live ∧ s.m.cmd.waitOf q = p :: r ∧ s.m.on F.CMD_QP_CTRL_EN q = true ∧
      s.m.rqFree q = true)
    ∧ (∃ (s : State) (q : Nat) (p : List Byte) (r : List (List Byte)), q < 2 ∧ s.live ∧ s.m.cmd.waitOf q = p :: r ∧ s.m.on F.CMD_QP_CTRL_EN q = true ∧
      s.m.rqFree q = false)
    ∧ (∃ (s : State), s.live ∧ s.m.spiReady = true ∧ s.m.poolFull = false)
    ∧ (∃ (s : State), s.live ∧ s.m.spiReady = true ∧ s.m.poolFull = true)
    ∧ (∃ (s : State), s.live ∧ s.m.spiReady = false)
    ∧ (∃ (s : State) (n : Nat) (p : List Byte) (r : List (List Byte)), s.live ∧ s.m.cmd.spiQ = p :: r ∧ p.length ≤ n ∧ s.m.cmd.spiWait = [])
    ∧ (∃ (s : State) (n : Nat) (p : List Byte) (r : List (List Byte)), s.live ∧ s.m.cmd.spiQ = p :: r ∧ n < p.length)
    ∧ (∃ (s : State), s.live)
    ∧ (∃ (s : State) (q : Nat) (v : Nat), q < 2 ∧ v < 0x100000000 ∧ s.live ∧ s.m.on F.CMD_QP_CTRL_EN q = true ∧
      (s.m.wr R.CMD_QP_RQ_HEAD (v % 1024) q).rqFree q = false) :=
  ⟨⟨(st (u.wr R.CMD_QP_CTRL 0x440 1)), 1, 15, by decide⟩,
   ⟨(st (u.wr R.CMD_QP_CTRL 0x440 1)), 1, 16, by decide⟩,
   ⟨(st u), 1, 1023, by decide⟩,
   ⟨(st u), 1, 0xAC1, by decide⟩,
   ⟨(st ((u.wr R.CMD_QP_CTRL 0x441 1).wr R.CMD_QP_CQ_TAIL 2 1)), 1, 0x440, by decide⟩,
   ⟨(st ((u.wr R.CMD_QP_CTRL 0x441 1).wr R.CMD_QP_CQ_TAIL 2 1)), 1, hostBit, List.replicate 16 0, ⟨0, .pcie 1, 0, 0, 0, 0, false, false⟩,
      (((u.wr R.CMD_QP_CTRL 0x441 1).wr R.CMD_QP_CQ_TAIL 2 1).wr R.CMD_QP_CQ_HEAD 1 1), ⟨by decide, by decide, by decide, by decide, by decide,
      by decide, by decide, by decide +kernel, by decide +kernel, by decide⟩⟩,
   ⟨(st u), 1, by decide⟩,
   ⟨(st { ((u.wr R.CMD_QP_CTRL 0x441 1).wr R.CMD_QP_CQ_TAIL 2 1) with cmd := { CmdSt.init with wait1 := [[1]] } }), 1, [1], [], by decide⟩,
   ⟨(st { (((u.wr R.CMD_QP_CTRL 0x441 1).wr R.CMD_QP_CQ_TAIL 2 1).wr R.CMD_QP_RQ_TAIL 15 1) with cmd := { CmdSt.init with wait1 := [[1]] } }), 1, [1],
      [], by decide⟩,
   ⟨(st (u.sf F.CMD_SPI_CFG_EN 1)), by decide⟩,
   ⟨(st { (u.sf F.CMD_SPI_CFG_EN 1) with cmd := { CmdSt.init with pool := List.replicate 1024 ⟨org, 0, [], 0, 0, 2, 0, 0, false, none⟩ } }),
      ⟨by decide, by decide, by decide +kernel⟩⟩,
   ⟨(st (u.sf F.CMD_SPI_CFG_EN 0)), by decide⟩,
   ⟨(st { u with cmd := { CmdSt.init with spiQ := [[1, 2, 3, 4], [5]] } }), 4, [1, 2, 3, 4], [[5]], by decide⟩,
   ⟨(st { u with cmd := { CmdSt.init with spiQ := [[1, 2, 3, 4], [5]] } }), 3, [1, 2, 3, 4], [[5]], by decide⟩,
   ⟨(st u), by decide⟩,
   ⟨(st ((u.wr R.CMD_QP_CTRL 0x441 1).wr R.CMD_QP_RQ_TAIL 15 1)), 1, 0, by decide⟩⟩

/-- Every clause of ConvertersAndWriteBehind that has hypotheses has operands that meet them. -/
theorem wit_ConvertersAndWriteBehind :
    (∃ (s : State) (i : Nat), s.m.chanOk i = true ∧ s.live ∧ (s.m.chan i).route.cur.asrc = 1 ∧ (s.m.chan i).route.cur.bypass = false)
    ∧ (∃ (s : State) (i : Nat) (d : Side), s.m.chanOk i = true ∧ s.live ∧ (s.m.chan i).route.old = some d ∧ d.asrc = 1 ∧ d.bypass = false)
    ∧ (∃ (s : State) (i : Nat), s.m.chanOk i = true ∧ s.live ∧ (s.m.chan i).route.cur.asrc = 2)
    ∧ (∃ (s : State) (i : Nat) (d : Side), s.m.chanOk i = true ∧ s.live ∧ (s.m.chan i).route.old = some d ∧ d.asrc = 2)
    ∧ (∃ (s : State) (i : Nat), i < 2560 ∧ s.live ∧ ((s.m.sink i).conv = 1 ∨ (s.m.sink i).conv = 2))
    ∧ (∃ (s : State) (i : Nat), i < 2624 ∧ s.live ∧ (2560 ≤ i ∨ ((s.m.sink i).conv ≠ 1 ∧ (s.m.sink i).conv ≠ 2)))
    ∧ (∃ (s : State) (o : Nat) (t : Nat), o < 512 ∧ s.live ∧ t ∈ (s.m.omem o).todo)
    ∧ (∃ (s : State) (o : Nat) (t : Nat), o < 512 ∧ s.live ∧ t ∉ (s.m.omem o).todo)
    ∧ (∃ (s : State) (f : Nat) (b : Nat), f < 512 ∧ s.live ∧ b ∈ (s.m.feed f).todo)
    ∧ (∃ (s : State) (f : Nat) (b : Nat), f < 512 ∧ s.live ∧ b ∉ (s.m.feed f).todo)
    ∧ (∃ (s : State) (o : Nat), o < s.m.variant.objects ∧ o < 512 ∧ s.live ∧ (s.m.hpo o).host = true ∧ (s.m.hpo o).timed = false ∧
      (s.m.hpo o).pend = [] ∧ s.m.glv F.RENDER_HP_CFG_HOLDMAX o ≤ (s.m.hpo o).hold)
    ∧ (∃ (s : State) (p : Nat), p < 64 ∧ s.live ∧ s.m.on F.RENDER_PLAY_CTRL_EN p = true ∧ (s.m.play p).pre.length < 4 ∧
      (s.m.play p).fetch ≠ s.m.rd R.RENDER_PLAY_WR p)
    ∧ (∃ (s : State) (p : Nat), p < 64 ∧ s.live ∧ (s.m.on F.RENDER_PLAY_CTRL_EN p = false ∨ 4 ≤ (s.m.play p).pre.length ∨ (s.m.play p).fetch = s.m.rd R.RENDER_PLAY_WR p))
    ∧ (∃ (s : State) (i : Nat), i < 640 ∧ s.live ∧ s.m.chanOk i = false)
    ∧ (∃ (s : State) (i : Nat), s.m.chanOk i = true ∧ s.live ∧ ((s.m.chan i).route.cur.asrc ≠ 1 ∨ (s.m.chan i).route.cur.bypass = true))
    ∧ (∃ (s : State) (i : Nat), s.m.chanOk i = true ∧ s.live ∧ (s.m.chan i).route.cur.asrc ≠ 2)
    ∧ (∃ (s : State) (i : Nat), s.m.chanOk i = true ∧ s.live ∧ (s.m.chan i).route.old = none)
    ∧ (∃ (s : State) (o : Nat), o < 512 ∧ s.live ∧ (s.m.variant.objects ≤ o ∨ (s.m.hpo o).host = false ∨ (s.m.hpo o).timed = true ∨ (s.m.hpo o).pend ≠ [] ∨ (s.m.hpo o).hold < s.m.glv F.RENDER_HP_CFG_HOLDMAX o)) :=
  ⟨⟨(st (u.onChan 511 (fun c => { c with route := ⟨⟨5, false, 1, 0, false, none, none⟩, none, 0, none⟩ }))), 511, by decide⟩,
   ⟨(st (u.onChan 511 (fun c => { c with route := ⟨⟨5, false, 0, 0, false, none, none⟩, some ⟨5, false, 1, 0, false, none, none⟩, 3, none⟩ }))), 511,
      ⟨5, false, 1, 0, false, none, none⟩, by decide⟩,
   ⟨(st (u.onChan 511 (fun c => { c with route := ⟨⟨5, false, 2, 0, false, none, none⟩, none, 0, none⟩ }))), 511, by decide⟩,
   ⟨(st (u.onChan 511 (fun c => { c with route := ⟨⟨5, false, 0, 0, false, none, none⟩, some ⟨5, false, 2, 0, false, none, none⟩, 3, none⟩ }))), 511,
      ⟨5, false, 2, 0, false, none, none⟩, by decide⟩,
   ⟨(st (u.onSink 2559 (fun c => { c with conv := 1 }))), 2559, by decide⟩,
   ⟨(st u), 2560, by decide⟩,
   ⟨(st (u.onMem 511 (fun q => { q with todo := [9] }))), 511, 9, by decide⟩,
   ⟨(st u), 511, 0, by decide⟩,
   ⟨(st (u.onFeed 511 (fun q => { q with todo := [9] }))), 511, 9, by decide⟩,
   ⟨(st u), 511, 0, by decide⟩,
   ⟨(st (u.onHp 511 (fun h => { h with host := true, empty := false, pend := [], hold := 4095 }))), 511, by decide⟩,
   ⟨(st ((u.sf F.RENDER_PLAY_CTRL_EN 1 63).wr R.RENDER_PLAY_WR 128 63)), 63, by decide⟩,
   ⟨(st u), 63, by decide⟩,
   ⟨(st { u with variant := .v9256 }), 511, by decide⟩,
   ⟨(st u), 639, by decide⟩,
   ⟨(st u), 639, by decide⟩,
   ⟨(st u), 512, by decide⟩,
   ⟨(st u), 511, by decide⟩⟩

/-- Every clause of CorrectionOpcodes that has hypotheses has operands that meet them. -/
theorem wit_CorrectionOpcodes :
    (∃ (s : State) (o : Sys2Proof.Origin) (p : List Byte) (t : Mach), s.takes o ∧ listFits p 32 4 512 ∧ onceEach p 32 4 (fun e => fld e 0 4 % 512) ∧
      s.m.timingChk 14 p = none ∧ (∀ e ∈ entriesOf p 32 4, fld e.2 0 4 % 512 < s.m.variant.feeds ∧
      fld e.2 0 4 = fld e.2 0 4 % 512 + 65536 * bits (fld e.2 0 4) 16 1) ∧ s.m.effOf p = .scene ∧
      t = s.m.each (entriesOf p 32 4) (fun t e => t.putStage K.BANKSEL (fld e.2 0 4 % 512) (toLE 1 (bits (fld e.2 0 4) 16 1))))
    ∧ (∃ (s : State) (o : Sys2Proof.Origin) (p : List Byte) (puts : List Put) (x : Mach × Res), s.takes o ∧ listFits p 32 4 512 ∧
      onceEach p 32 4 (fun e => fld e 0 4 % 512) ∧ s.m.timingChk 14 p = none ∧ (∀ e ∈ entriesOf p 32 4, fld e.2 0 4 % 512 < s.m.variant.feeds ∧
      fld e.2 0 4 = fld e.2 0 4 % 512 + 65536 * bits (fld e.2 0 4) 16 1 ∧ ((s.m.feed (fld e.2 0 4 % 512)).bank (bits (fld e.2 0 4) 16 1)).state ≠ 0 ∧
      ((s.m.feed (fld e.2 0 4 % 512)).bank (bits (fld e.2 0 4) 16 1)).state ≠ 1) ∧ s.m.timeRoom p (countOf p 32) ∧
      puts = (entriesOf p 32 4).map (fun e => (⟨rkey K.SWAP (fld e.2 0 4 % 512), toLE 1 (bits (fld e.2 0 4) 16 1)⟩ : Put)) ∧ (((∃ late,
      s.m.effOf p = .next late ∧ x = s.m.latchPuts o 0x0703 late puts) ∨ (∃ t, s.m.effOf p = .time t ∧ x = s.m.timePuts o 0x0703 t false puts))))
    ∧ (∃ (s : State) (o : Sys2Proof.Origin) (p : List Byte), s.takes o ∧ listFits p 16 4 500 ∧ onceEach p 16 4 (fun e => fld e 0 2) ∧
      (∀ e ∈ entriesOf p 16 4, fld e.2 0 2 < s.m.variant.feeds ∧ 8 ≤ fld e.2 2 1 ∧ fld e.2 2 1 ≤ 14 ∧ fld e.2 3 1 ≤ 1))
    ∧ (∃ (s : State) (o : Sys2Proof.Origin) (p : List Byte), s.takes o ∧ lenOf p = 24 ∧ pf p 16 2 < s.m.variant.feeds ∧ pf p 18 2 = 0)
    ∧ (∃ (s : State) (o : Sys2Proof.Origin) (p : List Byte), s.takes o ∧ lenOf p = 32 ∧ pf p 16 8 % 0x100000 = 0 ∧ pf p 16 8 < 2 ^ 40 ∧ pf p 24 4 = 1 ∧
      s.m.regionOk 1 (pf p 16 8) corrSize = true ∧ s.m.corrOn = false)
    ∧ (∃ (s : State) (o : Sys2Proof.Origin) (p : List Byte), s.takes o ∧ lenOf p = 32 ∧ pf p 16 8 % 0x100000 = 0 ∧ pf p 16 8 < 2 ^ 40 ∧ pf p 24 4 = 0 ∧
      ((s.m.corrOn = true → pf p 16 8 = s.m.corrBase ∧ s.m.corrFree = true)))
    ∧ (∃ (s : State) (o : Sys2Proof.Origin) (p : List Byte), s.takes o ∧ listFits p 16 4 500 ∧ onceEach p 16 4 (fun e => fld e 0 2 * 256 + fld e 2 1) ∧
      (∀ e ∈ entriesOf p 16 4, fld e.2 0 2 < s.m.variant.feeds ∧ fld e.2 2 1 ≤ 1 ∧ fld e.2 3 1 ≤ 1 ∧
      s.m.slotBusy (fld e.2 0 2) (fld e.2 2 1) = none)) :=
  ⟨⟨(st u), org, pk [(1, 2), (15, 0), (2, 1), (2, 0), (4, 0x101FF)], _, ⟨by decide, by decide +kernel, by decide +kernel, by decide +kernel,
      by decide +kernel, by decide +kernel, rfl⟩⟩,
   ⟨(st (u.onFeed 511 (fun d => d.setBank 1 Bank.ident))), org, pk [(1, 1), (15, 0), (2, 1), (2, 0), (4, 0x101FF)], _, _, ⟨by decide, by decide,
      by decide, by decide, by decide +kernel, by decide, rfl, .inl ⟨false, by decide, rfl⟩⟩⟩,
   ⟨(st u), org, pk [(2, 1), (2, 0), (2, 511), (1, 14), (1, 1)], by decide⟩,
   ⟨(st u), org, pk [(2, 511), (2, 0)], by decide⟩,
   ⟨(st ((u.setDdr 1).sf F.DDRC_STAT_SIZE 8192)), org, pk [(8, 0x1000000000), (4, 1)], by decide +kernel⟩,
   ⟨(st u), org, pk [(8, 0x1000000000), (4, 0)], by decide⟩,
   ⟨(st u), org, pk [(2, 1), (2, 0), (2, 511), (1, 1), (1, 1)], by decide⟩⟩

/-- Every clause of DiscardClearsTheDirtyMarks that has hypotheses has operands that meet them. -/
theorem wit_DiscardClearsTheDirtyMarks :
    (∃ (s : State) (o : Sys2Proof.Origin) (p : List Byte), s.takes o ∧ lenOf p = 20)
    ∧ (∃ (s : State) (o : Sys2Proof.Origin) (p : List Byte), s.takes o ∧ lenOf p ≠ 20)
    ∧ (∃ (s : Mach), (∀ e ∈ s.rend.recs, e.2.dirty = false)) :=
  ⟨⟨(st { u with rend := { Rend.init with recs := [(5, ⟨[1], [2], [3], true⟩)] } }), org, [], by decide⟩,
   ⟨(st u), org, [0], by decide⟩,
   ⟨u, by decide⟩⟩

/-- Every clause of DmaTransfers that has hypotheses has operands that meet them. -/
theorem wit_DmaTransfers :
    (∃ (s : State) (c : Nat) (v : Nat), s.live ∧ c < 28 ∧ v < 2 ^ 32 ∧ s.m.on F.DMA_STAT_BUSY c = false ∧ s.m.rd R.DMA_CNT c ≠ 0 ∧
      s.m.rd R.DMA_CNT c % swapSize (bits v 3 2) = 0)
    ∧ (∃ (s : State) (c : Nat) (v : Nat), s.live ∧ c < 32 ∧ v < 2 ^ 32 ∧ s.m.on F.DMA_STAT_BUSY c = true)
    ∧ (∃ (s : State) (c : Nat), s.live ∧ c < 28 ∧ s.m.on F.DMA_STAT_BUSY c = true ∧ (s.m.dmaSt c).tries = 0)
    ∧ (∃ (s : State) (c : Nat) (off : Nat) (n : Nat), s.live ∧ c < 32 ∧ (s.m.dmaSt c).phase = .write off n ∧ off = (s.m.dmaSt c).doneB ∧
      off + n = (s.m.dmaSt c).total ∧ (s.m.dmaSt c).inChain = false ∧ s.m.on F.DMA_CTRL_CHAIN c = false ∧
      s.m.matrixCode 7 c ((s.m.dmaSt c).dst + off) n true = 0 ∧ s.m.target ((s.m.dmaSt c).dst + off) ≠ 5)
    ∧ (∃ (s : State) (c : Nat) (a : Nat), s.live ∧ c < 32 ∧ (s.m.dmaSt c).phase = .fetch ∧ (s.m.dmaSt c).stopReq = false ∧
      a = s.m.dmaAddr R.DMA_NEXT_LO R.DMA_NEXT_HI c ∧ s.m.matrixCode 7 (32 + c) a 32 false = 0 ∧ s.m.target a ≠ 5 ∧
      fld (memGet s.m.mem a 32) 28 4 < 16 ∧ fld (memGet s.m.mem a 32) 24 4 % swapSize (bits (fld (memGet s.m.mem a 32) 28 4) 2 2) = 0 ∧
      ((fld (memGet s.m.mem a 32) 16 8 ≠ a ∨ fld (memGet s.m.mem a 32) 28 4 % 2 = 1))) :=
  ⟨⟨(st (u.wr R.DMA_CNT 64 27)), 27, 1, by decide⟩,
   ⟨(st (u.sf F.DMA_STAT_BUSY 1 31)), 31, 1, by decide⟩,
   ⟨(st (u.sf F.DMA_STAT_BUSY 1 27)), 27, by decide⟩,
   ⟨(st { u with dma := [(31, { DmaSt.init with phase := .write 0 4, total := 4, dst := 0x1000000, buf := [1, 2, 3, 4] })] }), 31, 0, 4, by decide⟩,
   ⟨(st { (u.wr R.DMA_NEXT_LO 0x1000000 31).mwr 0x1000000 (toLE 8 0x1001000 ++ toLE 8 0x1002000 ++ toLE 8 0 ++ toLE 4 16 ++ toLE 4 1) with dma := [(31, { DmaSt.init with phase := .fetch })] }), 31, 0x1000000, by decide⟩⟩

/-- Clauses of DramMaintenanceAndEcc with hypotheses have operands that meet them. -/
theorem wit_DramMaintenanceAndEcc_1 :
    (∃ (s : State), s.live)
    ∧ (∃ (s : State), s.live)
    ∧ (∃ (s : State), s.live)
    ∧ (∃ (s : State), s.live)
    ∧ (∃ (s : State) (t : Nat), s.live ∧ 85 < t)
    ∧ (∃ (s : State) (t : Nat), s.live ∧ t ≤ 80)
    ∧ (∃ (s : State), s.live ∧ s.m.dramUp = true ∧ s.m.ddr.wq.length ≥ s.m.gf F.DDRC_CFG_WR_HI ∧ s.m.ddr.wq.length > s.m.gf F.DDRC_CFG_WR_LO)
    ∧ (∃ (s : State) (v : Nat), s.live ∧ v < 2 ^ 32 ∧ bitOf v 0 = true)
    ∧ (∃ (s : State) (v : Nat), s.live ∧ v < 2 ^ 32 ∧ bitOf v 0 = true)
    ∧ (∃ (s : State) (f : Nat) (n : Nat), s.live ∧ f < 512 ∧ n ∈ (s.m.feed f).todo) :=
  ⟨⟨(st u), by decide⟩,
   ⟨(st u), by decide⟩,
   ⟨(st u), by decide⟩,
   ⟨(st u), by decide⟩,
   ⟨(st u), 86, by decide⟩,
   ⟨(st u), 80, by decide⟩,
   ⟨(st { u.sf F.DDRC_STAT_STATE 1 with ddr := { DdrSt.init with wq := List.replicate 48 ⟨0, 0⟩ } }), by decide⟩,
   ⟨(st u), 1, by decide⟩,
   ⟨(st u), 0xFFFFFFFF, by decide⟩,
   ⟨(st (u.onFeed 511 (fun q => { q with todo := [7] }))), 511, 7, by decide⟩⟩

/-- Clauses of DramMaintenanceAndEcc with hypotheses have operands that meet them. -/
theorem wit_DramMaintenanceAndEcc_2 :
    (∃ (s : State), s.live ∧ s.m.ddr.held = true)
    ∧ (∃ (s : State) (c : FreqChg), s.live ∧ s.m.ddr.chg = some c ∧ c.switched = false)
    ∧ (∃ (s : State) (c : FreqChg), s.live ∧ s.m.ddr.chg = some c ∧ c.switched = true ∧ c.abandoned = false ∧ c.set < 2)
    ∧ (∃ (s : State) (v : Nat), s.live ∧ v < 2 ^ 32 ∧ bitOf v 31 = true ∧ s.m.freqRefuse (v % 2) = 0 ∧ s.m.gf F.DDRC_STAT_SET ≠ v % 2)
    ∧ (∃ (s : State) (v : Nat), s.live ∧ v < 2 ^ 32 ∧ bitOf v 31 = true ∧ s.m.freqRefuse (v % 2) ≠ 0)
    ∧ (∃ (s : State), s.live ∧ (s.m.ddrState = 1 ∨ s.m.ddrState = 4))
    ∧ (∃ (s : State), s.live ∧ s.m.ddrState = 1 ∧ s.m.ddr.fails < 2)
    ∧ (∃ (s : State) (a : Nat) (r : Nat), s.live ∧ r < 8 ∧ s.m.target a = 5)
    ∧ (∃ (s : State), s.live ∧ s.m.on F.DDRC_SCRUB_CFG_EN = true ∧ s.m.dramSize ≠ 0 ∧ s.m.dramUp = true) :=
  ⟨⟨(st { u with ddr := { DdrSt.init with held := true } }), by decide⟩,
   ⟨(st { u with ddr := { DdrSt.init with chg := some ⟨1, false, false, none⟩ } }), ⟨1, false, false, none⟩, by decide⟩,
   ⟨(st { u with ddr := { DdrSt.init with chg := some ⟨1, true, false, none⟩ } }), ⟨1, true, false, none⟩, by decide⟩,
   ⟨(st (((u.setDdr 1).sf F.DDRC_STAT_SIZE 8192).sf F.DDRC_SET_TRAINED 1 1)), 0x80000001, by decide⟩,
   ⟨(st u), 0x80000000, by decide⟩,
   ⟨(st (u.setDdr 4)), by decide⟩,
   ⟨(st ((u.setDdr 1).sf F.DDRC_STAT_SIZE 8192)), by decide⟩,
   ⟨(st ((u.setDdr 1).sf F.DDRC_STAT_SIZE 8192)), dramBase, 7, by decide⟩,
   ⟨(st (((u.setDdr 1).sf F.DDRC_STAT_SIZE 8192).sf F.DDRC_SCRUB_CFG_EN 1)), by decide⟩⟩

/-- Every clause of ErrorHandlingMovesOn that has hypotheses has operands that meet them. -/
theorem wit_ErrorHandlingMovesOn :
    (∃ (s : State) (i : HandItem), s.live ∧ s.m.err.hF = some i)
    ∧ (∃ (s : State) (i : HandItem), s.live ∧ s.m.err.hF = none ∧ s.m.err.hE = some i)
    ∧ (∃ (s : State), s.live ∧ s.m.err.hF.isSome = true ∧ s.m.safe = false)
    ∧ (∃ (s : State) (n : Nat), s.live ∧ n < 2 ^ 32)
    ∧ (∃ (s : State) (k : Nat), s.live ∧ k < 6 ∧ bitOf (s.m.gf F.SCHED_STAT_CORES) k = true ∧ s.m.sys.ordered = none)
    ∧ (∃ (s : State), s.live ∧ s.m.on F.SYS_STORM_HOLD = true) :=
  ⟨⟨(st { u with err := { ErrSt.init with hF := some ⟨3, 0x101, 0, 0⟩ } }), ⟨3, 0x101, 0, 0⟩, by decide⟩,
   ⟨(st { u with err := { ErrSt.init with hE := some ⟨3, 0x101, 0, 0⟩ } }), ⟨3, 0x101, 0, 0⟩, by decide⟩,
   ⟨(st { u with err := { ErrSt.init with hF := some ⟨3, 0x101, 0, 0⟩ } }), by decide⟩,
   ⟨(st u), 0xFFFFFFFF, by decide⟩,
   ⟨(st u), 5, by decide⟩,
   ⟨(st (u.sf F.SYS_STORM_HOLD 1)), by decide⟩⟩

/-- The hypotheses of EveryCommandEndsInAFrame are met. -/
theorem wit_EveryCommandEndsInAFrame :
    (∃ (s : Mach), s.calm) :=
  ⟨u, by decide⟩

/-- The commands of FabricAndRenderingFrames have well-formed operands on a part with its rails. -/
theorem wit_FabricAndRenderingFrames :
    (∃ (s : State) (e : Nat) (count : Nat), s.live ∧ (Instr.engineComplete e count).wellFormed = true)
    ∧ (∃ (s : State) (cls : Nat), s.live ∧ (Instr.engineAbandon cls).wellFormed = true)
    ∧ (∃ (s : State) (e : Nat), s.live ∧ (Instr.engineAbandonAck e).wellFormed = true)
    ∧ (∃ (s : State) (e : Nat), s.live ∧ (Instr.fabricHang e).wellFormed = true)
    ∧ (∃ (s : State), s.live ∧ (Instr.fabricDone).wellFormed = true)
    ∧ (∃ (s : State) (k : Nat), s.live ∧ (Instr.engineGroupGate k).wellFormed = true)
    ∧ (∃ (s : State) (avs : Bool), s.live ∧ (Instr.herdWindow avs).wellFormed = true)
    ∧ (∃ (s : State) (k : Nat), s.live ∧ (Instr.groupAwake k).wellFormed = true)
    ∧ (∃ (s : State) (rates : List Nat), s.live ∧ (Instr.fawnRead rates).wellFormed = true)
    ∧ (∃ (s : State) (tj : Int), s.live ∧ (Instr.tjRead tj).wellFormed = true)
    ∧ (∃ (s : State), s.live ∧ (Instr.ibexEvaluate).wellFormed = true)
    ∧ (∃ (s : State) (ok : Bool), s.live ∧ (Instr.avsWrite ok).wellFormed = true)
    ∧ (∃ (s : State), s.live ∧ (Instr.ibexStuck).wellFormed = true)
    ∧ (∃ (s : State), s.live ∧ (Instr.ageingLogWrite).wellFormed = true)
    ∧ (∃ (s : State) (v : Nat), s.live ∧ (Instr.fabMinClr v).wellFormed = true)
    ∧ (∃ (s : State) (v : Nat), s.live ∧ (Instr.ibexApproveWrite v).wellFormed = true)
    ∧ (∃ (s : State) (i : Nat), s.live ∧ (Instr.routeXfadeEnd i).wellFormed = true)
    ∧ (∃ (s : State) (p : Nat), s.live ∧ (Instr.playPrefetch p).wellFormed = true)
    ∧ (∃ (s : State) (o : Nat) (t : Nat), s.live ∧ (Instr.bulkWriteLost o t).wellFormed = true)
    ∧ (∃ (s : State) (o : Nat), s.live ∧ (Instr.hpTimeout o).wellFormed = true)
    ∧ (∃ (s : State) (f : Nat), s.live ∧ (Instr.bankXfadeEnd f).wellFormed = true)
    ∧ (∃ (s : State) (f : Nat) (b : Nat), s.live ∧ (Instr.spectrumWriteLost f b).wellFormed = true)
    ∧ (∃ (s : State) (f : Nat), s.live ∧ (Instr.trimXfadeEnd f).wellFormed = true)
    ∧ (∃ (s : State) (f : Nat) (mute : Bool), s.live ∧ (Instr.zeroCrossing f mute).wellFormed = true)
    ∧ (∃ (s : State) (f : Nat) (mute : Bool), s.live ∧ (Instr.zcTimeout f mute).wellFormed = true)
    ∧ (∃ (s : State) (f : Nat) (mute : Bool), s.live ∧ (Instr.gainRampEnd f mute).wellFormed = true)
    ∧ (∃ (s : State) (f : Nat), s.live ∧ (Instr.laXfadeEnd f).wellFormed = true)
    ∧ (∃ (s : State) (i : Nat) (old : Bool), s.live ∧ (Instr.asrcSettling i old).wellFormed = true)
    ∧ (∃ (s : State) (i : Nat) (old : Bool), s.live ∧ (Instr.asrcLocked i old).wellFormed = true)
    ∧ (∃ (s : State) (i : Nat), s.live ∧ (Instr.convLocked i).wellFormed = true)
    ∧ (∃ (s : State), s.live ∧ (Instr.muteNLow).wellFormed = true)
    ∧ (∃ (s : State), s.live ∧ (Instr.muteNRelease).wellFormed = true)
    ∧ (∃ (s : State) (v : Nat), s.live ∧ (Instr.hwmuteClrWrite v).wellFormed = true)
    ∧ (∃ (s : State) (v : Nat), s.live ∧ (Instr.hwmuteCfgWrite v).wellFormed = true)
    ∧ (∃ (s : State) (v : Nat), s.live ∧ (Instr.renderCommitInput v).wellFormed = true)
    ∧ (∃ (s : State) (v : Nat), s.live ∧ (Instr.renderCommitGen v).wellFormed = true)
    ∧ (∃ (s : State) (i : Nat) (v : Nat), s.live ∧ (Instr.inselWrite i v).wellFormed = true)
    ∧ (∃ (s : State) (p : Nat) (v : Nat), s.live ∧ (Instr.playCtrlWrite p v).wellFormed = true)
    ∧ (∃ (s : State) (p : Nat) (v : Nat), s.live ∧ (Instr.playWrWrite p v).wellFormed = true)
    ∧ (∃ (s : State) (c : Nat) (v : Nat), s.live ∧ (Instr.capCtrlWrite c v).wellFormed = true)
    ∧ (∃ (s : State) (v : Nat), s.live ∧ (Instr.outCommit v).wellFormed = true)
    ∧ (∃ (s : State) (i : Nat) (v : Nat), s.live ∧ (Instr.outselWrite i v).wellFormed = true)
    ∧ (∃ (s : State) (v : Nat), s.live ∧ (Instr.hpCommit v).wellFormed = true)
    ∧ (∃ (s : State) (v : Nat), s.live ∧ (Instr.bulkBaseWrite v).wellFormed = true)
    ∧ (∃ (s : State) (v : Nat), s.live ∧ (Instr.corrBaseWrite v).wellFormed = true)
    ∧ (∃ (s : State) (v : Nat), s.live ∧ (Instr.timeLatCommit v).wellFormed = true)
    ∧ (∃ (s : State) (v : Nat), s.live ∧ (Instr.measCommit v).wellFormed = true) :=
  ⟨⟨st u, 0, 0, by decide⟩,
   ⟨st u, 0, by decide⟩,
   ⟨st u, 0, by decide⟩,
   ⟨st u, 0, by decide⟩,
   ⟨st u, by decide⟩,
   ⟨st u, 0, by decide⟩,
   ⟨st u, false, by decide⟩,
   ⟨st u, 0, by decide⟩,
   ⟨st u, [], by decide⟩,
   ⟨st u, 0, by decide⟩,
   ⟨st u, by decide⟩,
   ⟨st u, false, by decide⟩,
   ⟨st u, by decide⟩,
   ⟨st u, by decide⟩,
   ⟨st u, 0, by decide⟩,
   ⟨st u, 0, by decide⟩,
   ⟨st u, 0, by decide⟩,
   ⟨st u, 0, by decide⟩,
   ⟨st u, 0, 0, by decide⟩,
   ⟨st u, 0, by decide⟩,
   ⟨st u, 0, by decide⟩,
   ⟨st u, 0, 0, by decide⟩,
   ⟨st u, 0, by decide⟩,
   ⟨st u, 0, false, by decide⟩,
   ⟨st u, 0, false, by decide⟩,
   ⟨st u, 0, false, by decide⟩,
   ⟨st u, 0, by decide⟩,
   ⟨st u, 0, false, by decide⟩,
   ⟨st u, 0, false, by decide⟩,
   ⟨st u, 0, by decide⟩,
   ⟨st u, by decide⟩,
   ⟨st u, by decide⟩,
   ⟨st u, 0, by decide⟩,
   ⟨st u, 0, by decide⟩,
   ⟨st u, 0, by decide⟩,
   ⟨st u, 0, by decide⟩,
   ⟨st u, 0, 0, by decide⟩,
   ⟨st u, 0, 0, by decide⟩,
   ⟨st u, 0, 0, by decide⟩,
   ⟨st u, 0, 0, by decide⟩,
   ⟨st u, 0, by decide⟩,
   ⟨st u, 0, 0, by decide⟩,
   ⟨st u, 0, by decide⟩,
   ⟨st u, 0, by decide⟩,
   ⟨st u, 0, by decide⟩,
   ⟨st u, 0, by decide⟩,
   ⟨st u, 0, by decide⟩⟩

/-- Every clause of FabricEngines that has hypotheses has operands that meet them. -/
theorem wit_FabricEngines :
    (∃ (s : State) (e : Nat) (n : Nat), e < 106 ∧ s.live ∧ s.m.engRuns e = true ∧ mfind s.m.rend.fab.stamps e = none ∧ e ∈ s.m.engOpen ∧
      s.m.timerCycles n ≤ deadline (engClass e))
    ∧ (∃ (s : State) (e : Nat) (n : Nat), e < 106 ∧ s.live ∧ s.m.engRuns e = true ∧ mfind s.m.rend.fab.stamps e = none ∧ e ∈ s.m.engOpen ∧
      s.m.timerBackup = false ∧ deadline (engClass e) < n ∧ n ≤ lateLimit (engClass e))
    ∧ (∃ (s : State) (c : Nat), c < 4 ∧ s.live)
    ∧ (∃ (s : State) (e : Nat), e < 106 ∧ s.live ∧ e ∈ s.m.rend.fab.aband)
    ∧ (∃ (s : State) (e : Nat) (w : Work), e < 106 ∧ s.live ∧ e ∈ s.m.rend.fab.aband ∧ s.m.rend.work = some w)
    ∧ (∃ (s : State) (w : Work), s.live ∧ s.m.rend.work = some w ∧ s.m.engOpen = [] ∧ s.m.rend.fab.aband = [])
    ∧ (∃ (s : State), s.live ∧ s.m.rend.work.isSome ∧ (s.m.engOpen ≠ [] ∨ s.m.rend.fab.aband ≠ [])) :=
  ⟨⟨(st { act with rend := { Rend.init with work := some ⟨5, [], [], false⟩ } }), 105, 190400, by decide⟩,
   ⟨(st { (act.wr R.FAB_GATE_STAT 0) with rend := { Rend.init with work := some ⟨5, [], [], false⟩ } }), 63, 190400, by decide⟩,
   ⟨(st { act with rend := { Rend.init with work := some ⟨5, [], [], false⟩ } }), 1, by decide⟩,
   ⟨(st { act with rend := { Rend.init with work := some ⟨5, [], [], false⟩, fab := { FabSt.init with aband := [3] } } }), 3, by decide⟩,
   ⟨(st { act with rend := { Rend.init with work := some ⟨5, [], [], false⟩, fab := { FabSt.init with aband := [3] } } }), 3, ⟨5, [], [], false⟩,
      by decide⟩,
   ⟨(st { act with rend := { Rend.init with work := some ⟨5, [], [], false⟩, fab := { FabSt.init with acked := upto 106 } } }), ⟨5, [], [], false⟩,
      by decide⟩,
   ⟨(st { act with rend := { Rend.init with work := some ⟨5, [], [], false⟩ } }), by decide⟩⟩

/-- Every clause of FadesAndWaitsEnd that has hypotheses has operands that meet them. -/
theorem wit_FadesAndWaitsEnd :
    (∃ (s : State) (i : Nat), i < 640 ∧ s.live)
    ∧ (∃ (s : State) (i : Nat), i < 2624 ∧ s.live)
    ∧ (∃ (r : Route), r.old.isSome ∧ 64 ≤ r.pos ∧ r.pend = none)
    ∧ (∃ (s : State) (f : Nat) (c : Xfade), f < 512 ∧ s.live ∧ (s.m.feed f).xf = some c ∧ 2 ^ c.lenLog ≤ c.pos)
    ∧ (∃ (s : State) (f : Nat) (o : Nat) (p : Nat), f < 512 ∧ s.live ∧ (s.m.feed f).trimXf = some (o, p) ∧ 64 ≤ p ∧ (s.m.feed f).trimPend = none)
    ∧ (∃ (s : State) (f : Nat) (o : Nat) (p : Nat) (t : Nat), f < 512 ∧ s.live ∧ (s.m.feed f).trimXf = some (o, p) ∧ 64 ≤ p ∧
      (s.m.feed f).trimPend = some t ∧ t ≠ (s.m.feed f).trim)
    ∧ (∃ (s : State) (f : Nat) (n : Nat) (i : Nat) (z : Nat), f < 512 ∧ s.live ∧ (s.m.feed f).gain.ramp = none ∧ (s.m.feed f).gain.wait = some (n, i,
      z) ∧ i < z)
    ∧ (∃ (s : State) (f : Nat) (n : Nat) (i : Nat) (z : Nat), f < 512 ∧ s.live ∧ (s.m.feed f).mute.ramp = none ∧ (s.m.feed f).mute.wait = some (n, i,
      z) ∧ i < z)
    ∧ (∃ (s : State) (f : Nat) (n : Nat) (i : Nat) (z : Nat), f < 512 ∧ s.live ∧ (s.m.feed f).gain.ramp = none ∧ (s.m.feed f).gain.wait = some (n, i,
      z) ∧ z ≤ i)
    ∧ (∃ (s : State) (f : Nat) (n : Nat) (i : Nat) (z : Nat), f < 512 ∧ s.live ∧ (s.m.feed f).mute.ramp = none ∧ (s.m.feed f).mute.wait = some (n, i,
      z) ∧ z ≤ i)
    ∧ (∃ (s : State) (f : Nat) (o : Nat) (n : Nat) (i : Nat), f < 512 ∧ s.live ∧ (s.m.feed f).gain.ramp = some (o, n, i) ∧ 64 ≤ i ∧
      (s.m.feed f).gain.pend = none)
    ∧ (∃ (s : State) (f : Nat) (o : Nat) (n : Nat) (i : Nat) (v : Nat) (z : Nat), f < 512 ∧ s.live ∧ (s.m.feed f).gain.ramp = some (o, n, i) ∧ 64 ≤ i ∧
      (s.m.feed f).gain.pend = some (v, z) ∧ v ≠ n)
    ∧ (∃ (s : State) (f : Nat) (o : Nat) (n : Nat) (i : Nat) (v : Nat) (z : Nat), f < 512 ∧ s.live ∧ (s.m.feed f).mute.ramp = some (o, n, i) ∧ 64 ≤ i ∧
      (s.m.feed f).mute.pend = some (v, z) ∧ v ≠ n)
    ∧ (∃ (s : State) (f : Nat) (a : Nat) (b : Nat) (c : Int) (i : Nat), f < 512 ∧ s.live ∧ (s.m.feed f).lim.xf = some (a, b, c, i) ∧ 64 ≤ i) :=
  ⟨⟨(st u), 639, by decide⟩,
   ⟨(st u), 2623, by decide⟩,
   ⟨⟨⟨5, false, 0, 0, false, none, none⟩, some ⟨4, false, 0, 0, false, none, none⟩, 64, none⟩, by decide⟩,
   ⟨(st (u.onFeed 511 (fun q => { q with xf := some ⟨1, 1024, 10, false, 5⟩ }))), 511, ⟨1, 1024, 10, false, 5⟩, by decide⟩,
   ⟨(st (u.onFeed 511 (fun q => { q with trimXf := some (3, 64) }))), 511, 3, 64, by decide⟩,
   ⟨(st (u.onFeed 511 (fun q => { q with trimXf := some (3, 64), trimPend := some 7 }))), 511, 3, 64, 7, by decide⟩,
   ⟨(st (u.onFeed 511 (fun q => { q with gain := ⟨0, some (5, 2399, 2400), none, none⟩ }))), 511, 5, 2399, 2400, by decide⟩,
   ⟨(st (u.onFeed 511 (fun q => { q with mute := ⟨0, some (5, 2399, 2400), none, none⟩ }))), 511, 5, 2399, 2400, by decide⟩,
   ⟨(st (u.onFeed 511 (fun q => { q with gain := ⟨0, some (5, 2400, 2400), none, none⟩ }))), 511, 5, 2400, 2400, by decide⟩,
   ⟨(st (u.onFeed 511 (fun q => { q with mute := ⟨0, some (5, 2400, 2400), none, none⟩ }))), 511, 5, 2400, 2400, by decide⟩,
   ⟨(st (u.onFeed 511 (fun q => { q with gain := ⟨0, none, some (1, 5, 64), none⟩ }))), 511, 1, 5, 64, by decide⟩,
   ⟨(st (u.onFeed 511 (fun q => { q with gain := ⟨0, none, some (1, 5, 64), some (9, 2400)⟩ }))), 511, 1, 5, 64, 9, 2400, by decide⟩,
   ⟨(st (u.onFeed 511 (fun q => { q with mute := ⟨0, none, some (1, 5, 64), some (9, 2400)⟩ }))), 511, 1, 5, 64, 9, 2400, by decide⟩,
   ⟨(st (u.onFeed 511 (fun q => { q with lim := { q.lim with xf := some (1, 2, 3, 64) } }))), 511, 1, 2, 3, 64, by decide⟩⟩

/-- Every clause of FeedOpcodes that has hypotheses has operands that meet them. -/
theorem wit_FeedOpcodes :
    (∃ (s : State) (o : Sys2Proof.Origin) (p : List Byte) (x : Mach × Res), s.takes o ∧ listFits p 32 356 11 ∧ onceEach p 32 356 (fun e => fld e 0 2) ∧
      s.m.timingChk 14 p = none ∧ (∀ e ∈ entriesOf p 32 356, fld e.2 0 2 < s.m.variant.feeds ∧ allZero (slice e.2 2 2) = true ∧
      s.m.recBad K.EQ (e.2.drop 4) = none) ∧ s.m.timeRoom p (countOf p 32) ∧ x = s.m.feedPut o 0x0601 p 356 K.EQ (fun e => e.drop 4))
    ∧ (∃ (s : State) (o : Sys2Proof.Origin) (p : List Byte) (w : List Byte → List Byte) (x : Mach × Res), s.takes o ∧ listFits p 32 4 500 ∧
      onceEach p 32 4 (fun e => fld e 0 2) ∧ s.m.timingChk 14 p = none ∧
      w = (fun e => (s.m.baseRec (s.m.effOf p) K.EQ (fld e 0 2)).take 320 ++ slice e 2 2 ++ toLE 2 0 ++ (s.m.baseRec (s.m.effOf p) K.EQ (fld e 0 2)).drop 324) ∧ (∀ e ∈ entriesOf p 32 4, fld e.2 0 2 < s.m.variant.feeds ∧ fld e.2 2 2 ≤ 9600 ∧ s.m.recBad K.EQ (w e.2) = none) ∧ s.m.timeRoom p (countOf p 32) ∧ x = s.m.feedPut o 0x0602 p 4 K.EQ w)
    ∧ (∃ (s : State) (o : Sys2Proof.Origin) (p : List Byte) (x : Mach × Res), s.takes o ∧ listFits p 32 20 200 ∧
      onceEach p 32 20 (fun e => fld e 0 2) ∧ s.m.timingChk 14 p = none ∧ (∀ e ∈ entriesOf p 32 20, fld e.2 0 2 < s.m.variant.feeds ∧
      allZero (slice e.2 2 2) = true ∧ s.m.recBad K.OUTSET (e.2.drop 4) = none) ∧ s.m.timeRoom p (countOf p 32) ∧
      x = s.m.feedPut o 0x0603 p 20 K.OUTSET (fun e => e.drop 4))
    ∧ (∃ (s : State) (o : Sys2Proof.Origin) (p : List Byte) (w : List Byte → List Byte) (x : Mach × Res), s.takes o ∧ listFits p 32 8 500 ∧
      onceEach p 32 8 (fun e => fld e 0 2) ∧ s.m.timingChk 14 p = none ∧
      w = (fun e => (if bitOf (fld e 2 1) 0 then slice e 4 4 else (s.m.baseRec (s.m.effOf p) K.OUTSET (fld e 0 2)).take 4) ++ toLE 2 (if bitOf (fld e 2 1) 1 then putBits (fld (s.m.baseRec (s.m.effOf p) K.OUTSET (fld e 0 2)) 4 2) 0 1 (fld e 3 1) else fld (s.m.baseRec (s.m.effOf p) K.OUTSET (fld e 0 2)) 4 2) ++ (s.m.baseRec (s.m.effOf p) K.OUTSET (fld e 0 2)).drop 6) ∧ (∀ e ∈ entriesOf p 32 8, fld e.2 0 2 < s.m.variant.feeds ∧ 1 ≤ fld e.2 2 1 ∧ fld e.2 2 1 ≤ 3 ∧ fld e.2 3 1 ≤ 1 ∧ s.m.recBad K.OUTSET (w e.2) = none) ∧ s.m.timeRoom p (countOf p 32) ∧ x = s.m.feedPut o 0x0604 p 8 K.OUTSET w)
    ∧ (∃ (s : State) (o : Sys2Proof.Origin) (p : List Byte) (w : List Byte → List Byte) (x : Mach × Res), s.takes o ∧ listFits p 32 8 500 ∧
      onceEach p 32 8 (fun e => fld e 0 2) ∧ s.m.timingChk 14 p = none ∧ s.m.modeAt 7 (s.m.effOf p) = true ∧
      w = (fun e => (s.m.baseRec (s.m.effOf p) K.OUTSET (fld e 0 2)).take 4 ++ toLE 2 (putBits (fld (s.m.baseRec (s.m.effOf p) K.OUTSET (fld e 0 2)) 4 2) 1 1 (fld e 2 1)) ++ slice (s.m.baseRec (s.m.effOf p) K.OUTSET (fld e 0 2)) 6 1 ++ slice e 3 1 ++ slice e 4 4 ++ (s.m.baseRec (s.m.effOf p) K.OUTSET (fld e 0 2)).drop 12) ∧ (∀ e ∈ entriesOf p 32 8, fld e.2 0 2 < s.m.variant.feeds ∧ fld e.2 2 1 ≤ 1 ∧ s.m.recBad K.OUTSET (w e.2) = none) ∧ s.m.timeRoom p (countOf p 32) ∧ x = s.m.feedPut o 0x0605 p 8 K.OUTSET w)
    ∧ (∃ (s : State) (o : Sys2Proof.Origin) (p : List Byte) (x : Mach × Res), s.takes o ∧ listFits p 32 12 300 ∧
      onceEach p 32 12 (fun e => fld e 0 2) ∧ s.m.timingChk 14 p = none ∧ (∀ e ∈ entriesOf p 32 12, fld e.2 0 2 < s.m.variant.feeds ∧
      allZero (slice e.2 2 2) = true ∧ s.m.recBad K.RATING (e.2.drop 4) = none) ∧ s.m.timeRoom p (countOf p 32) ∧
      x = s.m.feedPut o 0x0606 p 12 K.RATING (fun e => e.drop 4))
    ∧ (∃ (s : State) (o : Sys2Proof.Origin) (p : List Byte), s.takes o ∧ lenOf p = 24 ∧ pf p 16 2 < s.m.variant.feeds ∧ pf p 18 1 ≤ 2 ∧ pf p 18 1 ≠ 1 ∧
      pf p 19 1 ≤ 3)
    ∧ (∃ (s : State) (o : Sys2Proof.Origin) (p : List Byte), s.takes o ∧ lenOf p = 24 ∧ pf p 16 2 < s.m.variant.feeds ∧ pf p 18 1 = 1 ∧ pf p 19 1 ≤ 3)
    ∧ (∃ (s : State) (o : Sys2Proof.Origin) (p : List Byte), s.takes o ∧ lenOf p = 24 ∧ 1 ≤ pf p 18 2 ∧ pf p 18 2 ≤ 128 ∧
      pf p 16 2 + pf p 18 2 ≤ s.m.variant.feeds) :=
  ⟨⟨(st u), org, pk [(1, 1), (15, 0), (2, 1), (2, 0), (2, 511), (2, 0), (352, 0)], _, ⟨by decide, by decide +kernel, by decide +kernel,
      by decide +kernel, by decide +kernel, by decide +kernel, rfl⟩⟩,
   ⟨(st u), org, pk [(1, 1), (15, 0), (2, 1), (2, 0), (2, 511), (2, 143)], _, _, ⟨by decide, by decide +kernel, by decide +kernel, by decide +kernel,
      rfl, by decide +kernel, by decide +kernel, rfl⟩⟩,
   ⟨(st u), org, pk [(1, 1), (15, 0), (2, 1), (2, 0), (2, 511), (2, 0), (10, 0), (2, 1), (4, 0)], _, ⟨by decide, by decide +kernel, by decide +kernel,
      by decide +kernel, by decide +kernel, by decide +kernel, rfl⟩⟩,
   ⟨(st u), org, pk [(1, 1), (15, 0), (2, 1), (2, 0), (2, 511), (1, 3), (1, 1), (4, 9)], _, _, ⟨by decide, by decide +kernel, by decide +kernel,
      by decide +kernel, rfl, by decide +kernel, by decide +kernel, rfl⟩⟩,
   ⟨(st (u.sf F.SYS_PLACE_STAT_HOST 128)), org, pk [(1, 1), (15, 0), (2, 1), (2, 0), (2, 511), (1, 1), (1, 0), (2, 0), (2, 1)], _, _, ⟨by decide,
      by decide +kernel, by decide +kernel, by decide +kernel, by decide +kernel, rfl, by decide +kernel, by decide +kernel, rfl⟩⟩,
   ⟨(st u), org, pk [(1, 1), (15, 0), (2, 1), (2, 0), (2, 511), (2, 0), (8, 0)], _, ⟨by decide, by decide +kernel, by decide +kernel,
      by decide +kernel, by decide +kernel, by decide +kernel, rfl⟩⟩,
   ⟨(st u), org, pk [(2, 511), (1, 2), (1, 3)], by decide⟩,
   ⟨(st u), org, pk [(2, 511), (1, 1), (1, 3)], by decide⟩,
   ⟨(st u), org, pk [(2, 384), (2, 128)], by decide⟩⟩

/-- Every clause of FlowsReleaseInOrder that has hypotheses has operands that meet them. -/
theorem wit_FlowsReleaseInOrder :
    (∃ (s : State) (i : Nat) (c : InCmd), s.live ∧ s.m.cmd.pool.find? (fun c => c.o.id == i) = some c ∧ s.m.turnOf c = true)
    ∧ (∃ (s : State) (i : Nat) (c : InCmd), s.live ∧ s.m.cmd.pool.find? (fun c => c.o.id == i) = some c ∧ s.m.turnOf c = false)
    ∧ (∃ (s : Mach) (c : InCmd) (k : Nat) (f : Flow), c.o.flow ≠ 0 ∧ s.flowOf c.o.sess c.o.flow = some (k, f) ∧ s.turnOf c = true)
    ∧ (∃ (s : Mach) (c : InCmd) (k : Nat) (f : Flow), c.o.flow ≠ 0 ∧ s.flowOf c.o.sess c.o.flow = some (k, f))
    ∧ (∃ (s : State) (i : Nat) (f : Flow), i < 64 ∧ s.live ∧ mfind s.m.cmd.flows i = some f ∧ f.gap = true)
    ∧ (∃ (s : State) (i : Nat) (f : Flow), i < 64 ∧ s.live ∧ mfind s.m.cmd.flows i = some f ∧ f.gap = false)
    ∧ (∃ (s : State) (n : Nat) (z : Sess), n < 16 ∧ s.live ∧ mfind s.m.cmd.sess n = some z ∧ z.idleS ≠ 0)
    ∧ (∃ (s : State) (n : Nat) (z : Sess), n < 16 ∧ s.live ∧ mfind s.m.cmd.sess n = some z ∧ z.idleS = 0) :=
  ⟨⟨(st { u with cmd := { CmdSt.init with pool := [⟨{ org with id := 7, sess := 3, flow := 2, seq := 9 }, 0x0102, [], 0, 0, 2, 4, 20, true, none⟩], flows := [(5, ⟨3, 2, 0, 9, [], false⟩)] } }), 7, ⟨{ org with id := 7, sess := 3, flow := 2, seq := 9 }, 0x0102, [], 0, 0, 2, 4, 20, true, none⟩, by decide⟩,
   ⟨(st { u with cmd := { CmdSt.init with pool := [⟨{ org with id := 7, sess := 3, flow := 2, seq := 9 }, 0x0102, [], 0, 0, 2, 4, 20, true, none⟩], flows := [(5, ⟨3, 2, 0, 8, [], false⟩)] } }), 7, ⟨{ org with id := 7, sess := 3, flow := 2, seq := 9 }, 0x0102, [], 0, 0, 2, 4, 20, true, none⟩, by decide⟩,
   ⟨{ u with cmd := { CmdSt.init with pool := [⟨{ org with id := 7, sess := 3, flow := 2, seq := 9 }, 0x0102, [], 0, 0, 2, 4, 20, true, none⟩], flows := [(5, ⟨3, 2, 0, 9, [], false⟩)] } }, ⟨{ org with id := 7, sess := 3, flow := 2, seq := 9 }, 0x0102, [], 0, 0, 2, 4, 20, true, none⟩, 5, ⟨3, 2, 0, 9, [], false⟩, by decide⟩,
   ⟨{ u with cmd := { CmdSt.init with pool := [⟨{ org with id := 7, sess := 3, flow := 2, seq := 9 }, 0x0102, [], 0, 0, 2, 4, 20, true, none⟩], flows := [(5, ⟨3, 2, 0, 9, [], false⟩)] } }, ⟨{ org with id := 7, sess := 3, flow := 2, seq := 9 }, 0x0102, [], 0, 0, 2, 4, 20, true, none⟩, 5, ⟨3, 2, 0, 9, [], false⟩, by decide⟩,
   ⟨(st { u with cmd := { CmdSt.init with flows := [(63, ⟨3, 2, 0, 9, [], true⟩)] } }), 63, ⟨3, 2, 0, 9, [], true⟩, by decide⟩,
   ⟨(st { u with cmd := { CmdSt.init with flows := [(63, ⟨3, 2, 0, 9, [], false⟩)] } }), 63, ⟨3, 2, 0, 9, [], false⟩, by decide⟩,
   ⟨(st { u with cmd := { CmdSt.init with sess := [(15, ⟨.spi, 4096, 10, 0⟩)] } }), 15, ⟨.spi, 4096, 10, 0⟩, by decide⟩,
   ⟨(st { u with cmd := { CmdSt.init with sess := [(15, ⟨.spi, 4096, 0, 0⟩)] } }), 15, ⟨.spi, 4096, 0, 0⟩, by decide⟩⟩

/-- Every clause of GatingAndHerdRelease that has hypotheses has operands that meet them. -/
theorem wit_GatingAndHerdRelease :
    (∃ (s : State) (k : Nat), k < 20 ∧ s.live ∧ s.m.gated k = false ∧ s.m.mayGate k = true ∧ s.m.groupIdle k = true ∧
      s.m.gateTicks ≤ mget 0 s.m.rend.fab.idle k)
    ∧ (∃ (s : State) (k : Nat), k < 20 ∧ s.live ∧ (s.m.gated k = true ∨ s.m.mayGate k = false ∨ s.m.groupIdle k = false ∨ mget 0 s.m.rend.fab.idle k < s.m.gateTicks))
    ∧ (∃ (s : State), s.live ∧ s.m.herdOrder ≠ [])
    ∧ (∃ (s : State), s.live ∧ s.m.herdOrder ≠ [])
    ∧ (∃ (s : State) (k : Nat), k < 20 ∧ s.live) :=
  ⟨⟨(st { (act.wr R.FAB_GATE_STAT 0) with rend := { Rend.init with fab := { FabSt.init with idle := [(19, 6000)] } } }), 19, by decide⟩,
   ⟨(st u), 19, by decide⟩,
   ⟨(st { act with rend := { Rend.init with fab := { FabSt.init with waking := [(17, ⟨0, 0⟩)] } } }), by decide⟩,
   ⟨(st { act with rend := { Rend.init with fab := { FabSt.init with waking := [(17, ⟨0, 0⟩)] } } }), by decide⟩,
   ⟨(st { act with rend := { Rend.init with fab := { FabSt.init with waking := [(17, ⟨0, 0⟩)] } } }), 19, by decide⟩⟩

/-- Clauses of GridFollowsNetworkTime with hypotheses have operands that meet them. -/
theorem wit_GridFollowsNetworkTime_1 :
    (∃ (net : Nat) (m : Nat), tickAt net = m)
    ∧ (∃ (s : Mach), s.tm.ticking = true ∧ (s.timeState ≠ 2 ∨ s.tm.aligned = true))
    ∧ (∃ (s : Mach), s.timeState = 2 ∧ s.tm.aligned = false)
    ∧ (∃ (s : Mach), s.timeState ≠ 2 ∨ s.tm.aligned = true) :=
  ⟨⟨65536 * 1000000, 6, by decide +kernel⟩,
   ⟨(u.onTime (fun t => { t with ticking := true })), by decide⟩,
   ⟨((u.sf F.TIME_STAT_STATE 2).onTime (fun t => { t with ticking := true, tick := 7 })), by decide⟩,
   ⟨u, by decide⟩⟩

/-- Clauses of GridFollowsNetworkTime with hypotheses have operands that meet them. -/
theorem wit_GridFollowsNetworkTime_2 :
    (∃ (s : Mach), s.tm.aligned = true)
    ∧ (∃ (s : Mach) (m : Nat), s.tm.aligned = true ∧ (s.gf F.TIME_GRID_STAT_STATE = 1 ∨ s.gf F.TIME_GRID_STAT_STATE = 2) ∧
      absQ (gridErrNs s.tm.net m) ≤ 8)
    ∧ (∃ (s : Mach) (m : Nat), s.tm.aligned = true ∧ 8 < absQ (gridErrNs s.tm.net m))
    ∧ (∃ (s : Mach) (m : Nat), s.tm.aligned = true ∧ s.gf F.TIME_GRID_STAT_STATE = 2 ∧ 50 < absQ (gridErrNs s.tm.net m))
    ∧ (∃ (s : Mach), s.timeState = 2 ∧ (s.gf F.TIME_GRID_STAT_STATE = 0 ∨ s.gf F.TIME_GRID_STAT_STATE = 3))
    ∧ (∃ (s : Mach), s.tm.gstep = .none)
    ∧ (∃ (s : Mach), s.gf F.TIME_GRID_STAT_STATE ≠ 3 ∧ s.glv F.CLK_PLL_CTRL_REFSEL 1 = 0 ∧ s.pllLocked 1 = true)
    ∧ (∃ (s : Mach), s.gf F.TIME_GRID_STAT_STATE = 3 ∨ s.glv F.CLK_PLL_CTRL_REFSEL 1 ≠ 0 ∨ s.pllLocked 1 = false) :=
  ⟨⟨((u.sf F.TIME_GRID_STAT_STATE 1).onTime (fun t => { t with aligned := true, net := 65536 * 1000000 })), by decide⟩,
   ⟨((u.sf F.TIME_GRID_STAT_STATE 2).onTime (fun t => { t with aligned := true, net := 65536 * 1000008 })), 6, by decide +kernel⟩,
   ⟨((u.sf F.TIME_GRID_STAT_STATE 2).onTime (fun t => { t with aligned := true, net := 65536 * 1000009 })), 6, by decide +kernel⟩,
   ⟨((u.sf F.TIME_GRID_STAT_STATE 2).onTime (fun t => { t with aligned := true, net := 65536 * 1000051 })), 6, by decide +kernel⟩,
   ⟨(u.sf F.TIME_STAT_STATE 2), by decide⟩,
   ⟨u, by decide⟩,
   ⟨((u.sf F.TIME_GRID_STAT_STATE 1).sf F.CLK_PLL_STAT_STATE 3 1), by decide⟩,
   ⟨u, by decide⟩⟩

/-- Every clause of HostPathOpcodes that has hypotheses has operands that meet them. -/
theorem wit_HostPathOpcodes :
    (∃ (s : State) (o : Sys2Proof.Origin) (p : List Byte) (q : Sys2Proof.SMap (List HpUpdate)), s.takes o ∧ lenOf p = 36 + 16 * pf p 18 2 ∧
      s.m.modeAt 0 .imm = true ∧ s.m.updBad p = none ∧ updsFit s.m 0 [] [(fld p 0 2, updOf p)] = .inr q)
    ∧ (∃ (s : State) (o : Sys2Proof.Origin) (p : List Byte) (obs : List Nat) (t : Mach) (l : List Byte) (offs : List Nat) (q : Sys2Proof.SMap (List HpUpdate)), s.takes o ∧ lenOf p = 36 ∧ s.m.modeAt 0 .imm = true ∧ s.m.bufChk p 16 = none ∧ pf p 24 4 ≤ 0x400000 ∧ s.m.bufErr (bufOf p 16) false (obsOn obs 0) = false ∧ t = s.m.bufTouch (bufOf p 16) ∧ l = s.m.bufRead (bufOf p 16) ∧ walkUpds l (l.length / 16 + 2) 0 0 [] = .inr offs ∧ (∀ a ∈ offs, t.updBad (l.drop a) = none) ∧ updsFit t 0 [] (offs.map (fun a => (fld l a 2, updOf (l.drop a)))) = .inr q)
    ∧ (∃ (s : State) (o : Sys2Proof.Origin) (p : List Byte) (puts : List Put) (x : Mach × Res), s.takes o ∧ listFits p 32 4 500 ∧
      onceEach p 32 4 (fun e => fld e 0 2) ∧ s.m.modeAt 0 (s.m.effOf p) = true ∧ s.m.timingChk 10 p = none ∧ (∀ e ∈ entriesOf p 32 4,
      fld e.2 0 2 < s.m.variant.objects ∧ fld e.2 2 2 < 2 ^ 14 ∧ 1 ≤ fld e.2 2 2 / 2 ∧ fld e.2 2 2 / 2 ≤ 6000) ∧ s.m.timeRoom p (countOf p 32) ∧
      puts = (entriesOf p 32 4).map (fun e => (⟨rkey K.HPMODE (fld e.2 0 2), e.2⟩ : Put)) ∧ (((∃ late, s.m.effOf p = .next late ∧
      x = s.m.latchPuts o 0x0503 late puts) ∨ (∃ t, s.m.effOf p = .time t ∧ x = s.m.timePuts o 0x0503 t true puts))))
    ∧ (∃ (s : State) (o : Sys2Proof.Origin) (p : List Byte), s.takes o ∧ lenOf p = 24 ∧ pf p 16 2 < s.m.variant.objects ∧ pf p 18 2 = 0) :=
  ⟨⟨(st (((u.sf F.SYS_PLACE_STAT_HOST 1)).onHp 511 (fun h => { h with host := true }))), org, pk [(2, 511), (2, 0), (2, 1), (10, 0)], _, ⟨by decide,
      by decide, by decide, by decide +kernel, rfl⟩⟩,
   ⟨(st ((((u.sf F.SYS_PLACE_STAT_HOST 1)).onHp 511 (fun h => { h with host := true })).mwr 0x1000000 (pk [(2, 511), (2, 0), (2, 1), (10, 0)]))), org,
      pk [(8, 0x1000000), (4, 16), (4, 0)], [], _, _, _, _, ⟨by decide, by decide, by decide, by decide +kernel, by decide, by decide +kernel, rfl,
      rfl, rfl, by decide +kernel, rfl⟩⟩,
   ⟨(st (u.sf F.SYS_PLACE_STAT_HOST 1)), org, pk [(1, 1), (15, 0), (2, 1), (2, 0), (2, 511), (2, 12001)], _, _, ⟨by decide, by decide, by decide,
      by decide, by decide, by decide, by decide, rfl, .inl ⟨false, by decide, rfl⟩⟩⟩,
   ⟨(st u), org, pk [(2, 511), (2, 0)], by decide⟩⟩

/-- Every clause of LatencyBreachIsRaised that has hypotheses has operands that meet them. -/
theorem wit_LatencyBreachIsRaised :
    (∃ (s : State) (k inp out q : Nat) (p : Rat) (t : Mach), k < 4 ∧ s.live ∧ t = s.m.latFloor k ∧ s.m.glv F.TIME_LAT_SINK_EN k = 1 ∧
      t.on F.TIME_LAT_STAT_NO_PATH k = false ∧ t.on F.TIME_LAT_STAT_ABSENT k = false ∧ t.on F.TIME_LAT_STAT_UNSUPPORTED k = false ∧
      t.markOf k = some p ∧ t.on F.TIME_LAT_STAT_BELOW_MIN k = false ∧ t.passOf k inp out q p < 2 ^ 32 ∧
      5 * t.rd R.TIME_LAT_FLOOR k < 4 * (t.passOf k inp out q p))
    ∧ (∃ (s : Mach), s.err.slots = []) :=
  ⟨⟨(st ((((((u.onTime (fun t => { t with marks := [(3, 5)] })).setLv R.TIME_LAT_SINK 0x80001000 3).setLv R.TIME_LAT_VIA 0x8000 3).setLv R.TIME_LAT_SRC 0x1000 3).sf F.ASP_TERM_FRAMES 0 0).setLv R.ASP_CFG 0x40000 0)), 3, 0, 6250000, 0, 5, (((((((u.onTime (fun t => { t with marks := [(3, 5)] })).setLv R.TIME_LAT_SINK 0x80001000 3).setLv R.TIME_LAT_VIA 0x8000 3).setLv R.TIME_LAT_SRC 0x1000 3).sf F.ASP_TERM_FRAMES 0 0).setLv R.ASP_CFG 0x40000 0).latFloor 3), ⟨by decide, by decide, rfl, by decide +kernel⟩⟩,
   ⟨u, by decide⟩⟩

/-- Every clause of LinksAndRings that has hypotheses has operands that meet them. -/
theorem wit_LinksAndRings :
    (∃ (s : State) (p : Nat) (v : Nat), p < 2 ∧ 1 ≤ v ∧ v ≤ 4 ∧ s.live ∧ s.m.linkUp p = false)
    ∧ (∃ (s : State) (p : Nat) (v : Nat), p < 2 ∧ 1 ≤ v ∧ v ≤ 4 ∧ s.live ∧ s.m.linkUp p = false)
    ∧ (∃ (s : State) (p : Nat), p < 2 ∧ s.live ∧ s.m.linkUp p = false)
    ∧ (∃ (s : State) (p : Nat), p < 2 ∧ s.live ∧ s.m.linkUp p = true)
    ∧ (∃ (s : State) (p : Nat), p < 2 ∧ s.live ∧ s.m.on F.NET_CFG_EEE p = true ∧ s.m.linkUp p = true ∧ (s.m.netPort p).inflight = none ∧
      s.m.ptpWait p = 0 ∧ (s.m.netPort p).mediaQ = [] ∧ (s.m.netPort p).fwQ = [] ∧ ((∀ t, t < 4 → s.m.headFrame p t = none)) ∧ s.m.repliesOf p = [] ∧
      (∀ l, s.m.nextLaunch = some l → s.m.tm.net + 2000 * 65536 < l))
    ∧ (∃ (s : State) (p : Nat), p < 2 ∧ s.live)
    ∧ (∃ (s : State) (p : Nat), p < 2 ∧ s.live ∧ s.m.on F.NET_CFG_DOWNSHIFT p = true ∧ s.m.power = 2 ∧ s.m.activePort ≠ p ∧
      s.m.on F.NET_STAT_DOWNSHIFTED p = false ∧ s.m.linkUp p = true)
    ∧ (∃ (s : State) (p : Nat), p < 2 ∧ s.live ∧ (s.m.on F.NET_CFG_DOWNSHIFT p = false ∨ s.m.power ≠ 2 ∨ s.m.activePort = p ∨ s.m.on F.NET_STAT_DOWNSHIFTED p = true ∨ s.m.linkUp p = false))
    ∧ (∃ (s : State) (p : Nat), p < 2 ∧ s.live)
    ∧ (∃ (s : State) (p : Nat) (r : Nat) (v : Nat), p < 2 ∧ r < 8 ∧ v < 0x100000000 ∧ s.live ∧ v % 4096 < 2 ^ s.m.gf F.NET_RX_CTRL_SIZE p r)
    ∧ (∃ (s : State) (p : Nat) (r : Nat) (v : Nat), p < 2 ∧ r < 8 ∧ v < 0x100000000 ∧ s.live ∧ 2 ^ s.m.gf F.NET_RX_CTRL_SIZE p r ≤ v % 4096)
    ∧ (∃ (s : State) (p : Nat) (t : Nat) (v : Nat), p < 2 ∧ t < 4 ∧ v < 0x100000000 ∧ s.live ∧ v % 4096 < 2 ^ s.m.gf F.NET_TX_CTRL_SIZE p t)
    ∧ (∃ (s : State) (p : Nat) (r : Nat) (v : Nat), p < 2 ∧ r < 8 ∧ v < 0x100000000 ∧ s.live ∧ 4 ≤ bits v 4 4 ∧ bits v 4 4 ≤ 12 ∧
      bits v 16 14 % 64 = 0 ∧ 256 ≤ bits v 16 14 ∧ bits v 16 14 ≤ 9216 ∧ bitOf v 0 = true ∧ s.m.on F.NET_RX_CTRL_EN p r = false)
    ∧ (∃ (s : State) (p : Nat) (t : Nat) (v : Nat), p < 2 ∧ t < 4 ∧ v < 0x100000000 ∧ s.live ∧ 4 ≤ bits v 4 4 ∧ bits v 4 4 ≤ 12 ∧ bitOf v 0 = true ∧
      s.m.on F.NET_TX_CTRL_EN p t = false)
    ∧ (∃ (s : State) (p : Nat) (v : Nat), p < 2 ∧ v < 0x100000000 ∧ s.live ∧ bitOf v 0 = true)
    ∧ (∃ (s : State) (p : Nat) (l : Nat), p < 2 ∧ s.live ∧
      (s.m.on F.NET_CFG_EEE p = false ∨ s.m.linkUp p = false ∨ (s.m.netPort p).inflight.isSome ∨ 0 < s.m.ptpWait p ∨ (s.m.netPort p).mediaQ ≠ [] ∨ (s.m.netPort p).fwQ ≠ [] ∨ s.m.repliesOf p ≠ [] ∨ (s.m.nextLaunch = some l ∧ l ≤ s.m.tm.net + 2000 * 65536)))
    ∧ (∃ (s : State) (p : Nat) (t : Nat) (v : Nat), p < 2 ∧ t < 4 ∧ v < 0x100000000 ∧ s.live ∧ 2 ^ s.m.gf F.NET_TX_CTRL_SIZE p t ≤ v % 4096)
    ∧ (∃ (s : State) (p : Nat) (r : Nat) (v : Nat), p < 2 ∧ r < 8 ∧ v < 0x100000000 ∧ s.live ∧
      (bits v 4 4 < 4 ∨ 12 < bits v 4 4 ∨ bits v 16 14 % 64 ≠ 0 ∨ bits v 16 14 < 256 ∨ 9216 < bits v 16 14))
    ∧ (∃ (s : State) (p : Nat) (t : Nat) (v : Nat), p < 2 ∧ t < 4 ∧ v < 0x100000000 ∧ s.live ∧ (bits v 4 4 < 4 ∨ 12 < bits v 4 4))
    ∧ (∃ (s : State) (p : Nat) (r : Nat) (v : Nat), p < 2 ∧ r < 8 ∧ v < 0x100000000 ∧ s.live ∧ 4 ≤ bits v 4 4 ∧ bits v 4 4 ≤ 12 ∧
      bits v 16 14 % 64 = 0 ∧ 256 ≤ bits v 16 14 ∧ bits v 16 14 ≤ 9216 ∧ s.m.on F.NET_RX_CTRL_EN p r = true)
    ∧ (∃ (s : State) (p : Nat) (t : Nat) (v : Nat), p < 2 ∧ t < 4 ∧ v < 0x100000000 ∧ s.live ∧ 4 ≤ bits v 4 4 ∧ bits v 4 4 ≤ 12 ∧
      s.m.on F.NET_TX_CTRL_EN p t = true) :=
  ⟨⟨(st u), 1, 4, by decide⟩,
   ⟨(st u), 1, 1, by decide⟩,
   ⟨(st u), 1, by decide⟩,
   ⟨(st (u.sf F.NET_STAT_LINK 1 1)), 1, by decide⟩,
   ⟨(st ((u.sf F.NET_STAT_LINK 1 1).sf F.NET_CFG_EEE 1 1)), 1, ⟨by decide, by decide, by decide, by decide, by decide, by decide, by decide,
      by decide, by decide, by decide, fun l h => nomatch (by decide : (st ((u.sf F.NET_STAT_LINK 1 1).sf F.NET_CFG_EEE 1 1)).m.nextLaunch = none).symm.trans h⟩⟩,
   ⟨(st u), 1, by decide⟩,
   ⟨(st (((u.sf F.NET_STAT_LINK 1 1).sf F.NET_CFG_DOWNSHIFT 1 1).sf F.SYS_PWR_STAT_STATE 2)), 1, by decide⟩,
   ⟨(st u), 1, by decide⟩,
   ⟨(st u), 1, by decide⟩,
   ⟨(st (u.sf F.NET_RX_CTRL_SIZE 4 1 7)), 1, 7, 15, by decide⟩,
   ⟨(st (u.sf F.NET_RX_CTRL_SIZE 4 1 7)), 1, 7, 16, by decide⟩,
   ⟨(st (u.sf F.NET_TX_CTRL_SIZE 4 1 3)), 1, 3, 15, by decide⟩,
   ⟨(st u), 1, 7, 0x240000C1, by decide⟩,
   ⟨(st u), 1, 3, 0xC1, by decide⟩,
   ⟨(st u), 1, 1, by decide⟩,
   ⟨(st u), 1, 0, by decide⟩,
   ⟨(st (u.sf F.NET_TX_CTRL_SIZE 4 1 3)), 1, 3, 16, by decide⟩,
   ⟨(st u), 1, 7, 0x240000D1, by decide⟩,
   ⟨(st u), 1, 3, 0x31, by decide⟩,
   ⟨(st (u.sf F.NET_RX_CTRL_EN 1 1 7)), 1, 7, 0x240000C0, by decide⟩,
   ⟨(st (u.sf F.NET_TX_CTRL_EN 1 1 3)), 1, 3, 0xC0, by decide⟩⟩

/-- Every clause of MasterSelectionAndExchanges that has hypotheses has operands that meet them. -/
theorem wit_MasterSelectionAndExchanges :
    (∃ (s : State) (p : Nat), p < 2 ∧ s.live ∧ (s.m.tm.port p).gm = none)
    ∧ (∃ (s : State) (p : Nat) (d : GmData) (g : GmData), p < 2 ∧ s.live ∧ (s.m.tm.port p).gm = some g ∧
      (g.ident = d.ident ∨ GmData.better d g = true))
    ∧ (∃ (s : State) (p : Nat) (d : GmData) (g : GmData), p < 2 ∧ s.live ∧ (s.m.tm.port p).gm = some g ∧ g.ident ≠ d.ident ∧
      GmData.better d g = false)
    ∧ (∃ (a : GmData) (b : GmData), GmData.better a b = true)
    ∧ (∃ (s : State) (p : Nat) (q : Nat), p < 2 ∧ q < 65536 ∧ s.live ∧ s.m.p2p = false)
    ∧ (∃ (s : State) (p : Nat) (q : Nat), p < 2 ∧ q < 65536 ∧ s.live ∧ s.m.p2p = true)
    ∧ (∃ (s : State) (p : Nat) (q : Nat) (t3 : Nat), p < 2 ∧ q < 65536 ∧ s.live ∧ (s.m.tm.port p).req = some (q, t3) ∧ s.m.p2p = false)
    ∧ (∃ (s : State) (p : Nat) (q : Nat) (t1 : Nat), p < 2 ∧ q < 65536 ∧ s.live ∧ (s.m.tm.port p).req = some (q, t1) ∧ s.m.p2p = true)
    ∧ (∃ (s : State) (p : Nat) (q : Nat), p < 2 ∧ q < 65536 ∧ s.live ∧ ((s.m.tm.port p).req = none ∨ (∃ k t, (s.m.tm.port p).req = some (k, t) ∧
      k ≠ q)))
    ∧ (∃ (s : State) (p : Nat) (q : Nat), p < 2 ∧ q < 65536 ∧ s.live ∧ s.m.p2p = true)
    ∧ (∃ (s : State) (p : Nat) (q : Nat), p < 2 ∧ q < 65536 ∧ s.live ∧ s.m.p2p = false) :=
  ⟨⟨(st u), 1, by decide⟩,
   ⟨(st (u.onPort 1 (fun t => { t with gm := some ⟨128, 248, 254, 65535, 128, 9, 0⟩ }))), 1, ⟨128, 248, 254, 65535, 128, 7, 0⟩, ⟨128, 248, 254, 65535,
      128, 9, 0⟩, by decide⟩,
   ⟨(st (u.onPort 1 (fun t => { t with gm := some ⟨128, 248, 254, 65535, 128, 7, 0⟩ }))), 1, ⟨128, 248, 254, 65535, 128, 9, 0⟩, ⟨128, 248, 254, 65535,
      128, 7, 0⟩, by decide⟩,
   ⟨⟨128, 248, 254, 65535, 128, 7, 0⟩, ⟨128, 248, 254, 65535, 128, 9, 0⟩, by decide⟩,
   ⟨(st u), 1, 65535, by decide⟩,
   ⟨(st (u.setLv R.TIME_CFG 131072)), 1, 65535, by decide⟩,
   ⟨(st (u.onPort 1 (fun t => { t with req := some (65535, 5) }))), 1, 65535, 5, by decide⟩,
   ⟨(st ((u.setLv R.TIME_CFG 131072).onPort 1 (fun t => { t with req := some (65535, 5) }))), 1, 65535, 5, by decide⟩,
   ⟨(st (u.onPort 1 (fun t => { t with req := some (4, 5) }))), 1, 65535, ⟨by decide, by decide, by decide, .inr ⟨4, 5, by decide, by decide⟩⟩⟩,
   ⟨(st (u.setLv R.TIME_CFG 131072)), 1, 65535, by decide⟩,
   ⟨(st u), 1, 65535, by decide⟩⟩

/-- Every clause of MeasurementAndHealthOpcodes that has hypotheses has operands that meet them. -/
theorem wit_MeasurementAndHealthOpcodes :
    (∃ (s : State) (o : Sys2Proof.Origin) (p : List Byte), s.takes o ∧ listFits p 32 28 32 ∧ onceEach p 32 28 (fun e => fld e 0 1) ∧
      s.m.timingChk 10 p = none ∧ (∀ x ∈ entriesOf p 32 28, fld x.2 0 1 < 32 ∧ s.m.measChk x.1 x.2 = none) ∧
      ((s.m.modeAt 3 (s.m.effOf p) = false ∨ ∀ x ∈ entriesOf p 32 28, bitOf (fld x.2 1 1) 2 = false)) ∧ s.m.timeRoom p (countOf p 32))
    ∧ (∃ (s : State) (o : Sys2Proof.Origin) (p : List Byte), s.takes o ∧ lenOf p = 36 ∧ s.m.modeAt 3 .imm = true ∧ pf p 16 1 < 32 ∧ pf p 17 1 = 0 ∧
      ringChk p 256 (pf p 28 4 % 256 == 0 && inRange 0x1000 0x1000000 (pf p 28 4)) (s.m.on F.MEAS_CH_STR_CTRL_EN (pf p 16 1)) = none)
    ∧ (∃ (s : State) (o : Sys2Proof.Origin) (p : List Byte), s.takes o ∧ lenOf p = 24 ∧ pf p 16 1 < 32 ∧ 1 ≤ pf p 17 1 ∧ pf p 16 1 + pf p 17 1 ≤ 32 ∧
      pf p 18 2 = 0)
    ∧ (∃ (s : State) (o : Sys2Proof.Origin) (p : List Byte), s.takes o ∧ listFits p 32 4 32 ∧ onceEach p 32 4 (fun e => fld e 0 1) ∧
      s.m.timingChk 10 p = none ∧ (∀ x ∈ entriesOf p 32 4, fld x.2 0 1 < 32 ∧ 1 ≤ fld x.2 1 1 ∧ fld x.2 1 1 ≤ 7 ∧ allZero (slice x.2 2 2) = true) ∧
      s.m.timeRoom p (countOf p 32))
    ∧ (∃ (s : State) (o : Sys2Proof.Origin) (p : List Byte), s.takes o ∧ lenOf p = 20)
    ∧ (∃ (s : State) (o : Sys2Proof.Origin) (p : List Byte) (obs : List Nat), s.takes o ∧ lenOf p = 40 ∧ 1 ≤ pf p 18 2 ∧ pf p 18 2 ≤ 4096 ∧
      s.m.bufChk p 20 = none ∧ 32 * pf p 18 2 ≤ pf p 28 4 ∧ s.m.bufErr (bufOf p 20) true (obsOn obs 0) = false)
    ∧ (∃ (s : State) (o : Sys2Proof.Origin) (p : List Byte), s.takes o ∧ lenOf p = 28 ∧ 41 ≤ pf p 16 2 ∧ pf p 16 2 ≤ 410 ∧ 8 ≤ pf p 18 1 ∧
      pf p 18 1 ≤ 63 ∧ pf p 19 1 ≤ 127 ∧ pf p 20 1 ≤ 1 ∧ pf p 21 3 = 0)
    ∧ (∃ (s : State) (o : Sys2Proof.Origin) (p : List Byte), s.takes o ∧ lenOf p = 28 ∧ ((pf p 16 4 &&& 0x10003 ≠ 0 → s.m.modeAt 4 .imm = true)) ∧
      pf p 16 4 &&& 0xFFFEFCFC = 0 ∧ pf p 20 4 &&& 0xFFFEFCFC = 0)
    ∧ (∃ (s : State) (o : Sys2Proof.Origin) (p : List Byte), s.takes o ∧ lenOf p = 20)
    ∧ (∃ (s : State) (o : Sys2Proof.Origin) (p : List Byte), s.takes o ∧ lenOf p = 24 ∧ pf p 16 4 = 0) :=
  ⟨⟨(st u), org, pk [(1, 1), (15, 0), (2, 2), (2, 0), (1, 31), (1, 1), (2, 0), (24, 0), (1, 0), (1, 16), (2, 0), (16, 0), (8, 0x1000000)], by decide⟩,
   ⟨(st (u.sf F.SYS_PLACE_STAT_HOST 8)), org, pk [(1, 31), (1, 0), (2, 3), (8, 0x1000000), (4, 0x1000)], by decide⟩,
   ⟨(st u), org, pk [(1, 31), (1, 1), (2, 0)], by decide⟩,
   ⟨(st u), org, pk [(1, 1), (15, 0), (2, 1), (2, 0), (1, 31), (1, 7), (2, 0)], by decide⟩,
   ⟨(st u), org, [], by decide⟩,
   ⟨(st u), org, pk [(2, 0), (2, 4096), (8, 0x1000000), (4, 131072), (4, 0)], [], by decide +kernel⟩,
   ⟨(st u), org, pk [(2, 410), (1, 63), (1, 127), (1, 1), (3, 0)], by decide⟩,
   ⟨(st (u.sf F.SYS_PLACE_STAT_HOST 16)), org, pk [(4, 0x10303), (4, 0)], by decide⟩,
   ⟨(st u), org, [], by decide⟩,
   ⟨(st u), org, pk [(4, 0)], by decide⟩⟩

/-- Every clause of MeasurementAndLatencyRows that has hypotheses has operands that meet them. -/
theorem wit_MeasurementAndLatencyRows :
    (∃ (s : State) (c : Nat) (b : List Byte) (n : Nat), c < 32 ∧ s.live ∧ (s.m.meas c).pend = some (b, n))
    ∧ (∃ (s : State) (c : Nat), c < 32 ∧ s.live ∧ (s.m.meas c).pend = none)
    ∧ (∃ (s : State) (c : Nat) (v : Nat), c < 32 ∧ v < 0x100000000 ∧ s.live ∧ bitOf v 0 = true ∧ s.m.hostMode 3 = false)
    ∧ (∃ (s : State) (c : Nat) (v : Nat), c < 32 ∧ v < 0x100000000 ∧ s.live ∧ bitOf v 0 = true ∧ s.m.hostMode 3 = true ∧
      s.m.on F.MEAS_CH_STR_CTRL_EN c = false)
    ∧ (∃ (s : State) (c : Nat) (v : Nat), c < 32 ∧ v < 0x100000000 ∧ s.live ∧ bitOf v 0 = false)
    ∧ (∃ (s : State) (k inp out q : Nat) (p : Rat) (t : Mach), k < 4 ∧ s.live ∧ t = s.m.latFloor k ∧ s.m.glv F.TIME_LAT_SINK_EN k = 1 ∧
      t.on F.TIME_LAT_STAT_NO_PATH k = false ∧ t.on F.TIME_LAT_STAT_ABSENT k = false ∧ t.on F.TIME_LAT_STAT_UNSUPPORTED k = false ∧
      t.markOf k = some p ∧ t.passOf k inp out q p < 2 ^ 32)
    ∧ (∃ (s : State) (k : Nat), k < 4 ∧ s.live ∧ s.m.glv F.TIME_LAT_SINK_EN k = 0) :=
  ⟨⟨(st (u.onMeas 31 (fun q => { q with pend := some ([1, 2], 0) }))), 31, [1, 2], 0, by decide⟩,
   ⟨(st u), 31, by decide⟩,
   ⟨(st u), 31, 1, by decide⟩,
   ⟨(st (u.sf F.SYS_PLACE_STAT_HOST 8)), 31, 1, by decide⟩,
   ⟨(st u), 31, 0, by decide⟩,
   ⟨(st ((((u.onTime (fun t => { t with marks := [(3, 5)] })).setLv R.TIME_LAT_SINK 0x80001000 3).setLv R.TIME_LAT_VIA 0x8000 3).setLv R.TIME_LAT_SRC 0x1000 3)), 3, 0, 125, 0, 5, (((((u.onTime (fun t => { t with marks := [(3, 5)] })).setLv R.TIME_LAT_SINK 0x80001000 3).setLv R.TIME_LAT_VIA 0x8000 3).setLv R.TIME_LAT_SRC 0x1000 3).latFloor 3), ⟨by decide, by decide, rfl, by decide +kernel⟩⟩,
   ⟨(st u), 3, by decide⟩⟩

/-- Every clause of MemoryAndDmaOpcodes that has hypotheses has operands that meet them. -/
theorem wit_MemoryAndDmaOpcodes :
    (∃ (s : State) (o : Sys2Proof.Origin) (p : List Byte), s.takes o ∧ lenOf p = 32 ∧ 4 ≤ pf p 24 4 ∧ pf p 24 4 ≤ 4064 ∧ pf p 24 4 % 4 = 0 ∧
      (inSram (pf p 16 8) (pf p 24 4) || inMram (pf p 16 8) (pf p 24 4)) = true)
    ∧ (∃ (s : State) (o : Sys2Proof.Origin) (p : List Byte), s.takes o ∧ lenOf p = 32 ∧ 4 ≤ pf p 24 4 ∧ pf p 24 4 ≤ 4064 ∧ pf p 24 4 % 4 = 0 ∧
      s.m.inDram (pf p 16 8) (pf p 24 4) = true ∧ s.m.dramCode = 0 ∧ s.m.badRange (pf p 16 8) (pf p 24 4) = false)
    ∧ (∃ (s : State) (o : Sys2Proof.Origin) (p : List Byte), s.takes o ∧ 12 ≤ p.length ∧ p.length ≤ 4072 ∧ p.length % 4 = 0 ∧
      (inSram (pf p 16 8) (p.length - 8) || s.m.inDram (pf p 16 8) (p.length - 8)) = true ∧ s.m.regionBusy (pf p 16 8) (p.length - 8) = none ∧
      (s.m.target (pf p 16 8) = 5 → s.m.dramCode = 0) ∧ (s.m.store (pf p 16 8) (p.drop 8)).1 = 0)
    ∧ (∃ (s : State) (o : Sys2Proof.Origin) (p : List Byte) (e1 : Nat) (e2 : Nat) (t w : Mach), s.takes o ∧ lenOf p = 52 ∧ s.m.bufChk p 16 = none ∧
      s.m.bufChk p 32 = none ∧ pf p 24 4 ≤ pf p 40 4 ∧ ((2 ^ 63 ≤ pf p 32 8 ∨ s.m.regionBusy (pf p 32 8) (pf p 24 4) = none)) ∧
      s.m.bufErr (bufOf p 16) false (e1 == 1) = false ∧ t = s.m.bufTouch (bufOf p 16) ∧ t.bufErr (bufOf p 32) true (e2 == 1) = false ∧
      t.store (pf p 32 8) (s.m.bufRead (bufOf p 16)) = (0, w))
    ∧ (∃ (s : State) (o : Sys2Proof.Origin) (p : List Byte), s.takes o ∧ lenOf p = 20)
    ∧ (∃ (s : State) (o : Sys2Proof.Origin) (p : List Byte), s.takes o ∧ lenOf p = 24 ∧ pf p 16 1 ≤ 1 ∧ pf p 17 3 = 0 ∧
      s.m.freqRefuse (pf p 16 1) = 0 ∧ s.m.gf F.DDRC_STAT_SET ≠ pf p 16 1)
    ∧ (∃ (s : State) (o : Sys2Proof.Origin) (p : List Byte), s.takes o ∧ lenOf p = 24 ∧ pf p 16 1 ≤ 1 ∧ pf p 17 3 = 0 ∧
      s.m.freqRefuse (pf p 16 1) = 0 ∧ s.m.gf F.DDRC_STAT_SET = pf p 16 1)
    ∧ (∃ (s : State) (o : Sys2Proof.Origin) (p : List Byte), s.takes o ∧ lenOf p = 52 ∧ pf p 16 1 ≤ 27 ∧ pf p 17 3 = 0 ∧ pf p 20 4 < 1024 ∧
      pf p 44 4 = 0 ∧ s.m.on F.DMA_STAT_BUSY (pf p 16 1) = false)
    ∧ (∃ (s : State) (o : Sys2Proof.Origin) (p : List Byte) (c : Nat), s.takes o ∧ c < 28 ∧ p = toLE 2 1 ++ [0, 0] ++ toLE 4 c)
    ∧ (∃ (s : State) (o : Sys2Proof.Origin) (p : List Byte) (l : List Nat), s.takes o ∧ lenOf p = 24 ∧ pf p 16 1 < 32 ∧ 1 ≤ pf p 17 1 ∧
      pf p 16 1 + pf p 17 1 ≤ 32 ∧ pf p 18 2 = 0 ∧ l = (upto (pf p 17 1)).flatMap (fun i => [R.DMA_STAT, R.DMA_CNT, R.DMA_HOPS,
      R.DMA_RETRIES].map (fun r => r.at_ (pf p 16 1 + i) 0))) :=
  ⟨⟨(st u), org, (toLE 8 0x1000000 ++ toLE 4 4064), by decide⟩,
   ⟨(st ((u.setDdr 1).sf F.DDRC_STAT_SIZE 8192)), org, pk [(8, 0x1000000000), (4, 4)], by decide⟩,
   ⟨(st u), org, pk [(8, 0x1000000), (4, 7)], by decide⟩,
   ⟨(st u), org, pk [(8, 0x1000000), (4, 8), (4, 0), (8, 0x1001000), (4, 8), (4, 0)], 0, 0, u, u.mwr 0x1001000 (List.replicate 8 0), ⟨by decide,
      by decide, by decide, by decide, by decide, by decide, by decide, rfl, by decide, rfl⟩⟩,
   ⟨(st u), org, [], by decide⟩,
   ⟨(st (((u.setDdr 1).sf F.DDRC_STAT_SIZE 8192).sf F.DDRC_SET_TRAINED 1 1)), org, pk [(1, 1), (3, 0)], by decide⟩,
   ⟨(st (((u.setDdr 1).sf F.DDRC_STAT_SIZE 8192).sf F.DDRC_SET_TRAINED 1 0)), org, pk [(1, 0), (3, 0)], by decide⟩,
   ⟨(st u), org, pk [(1, 27), (3, 0), (4, 0), (8, 0x1000000), (8, 0x1001000), (4, 16), (4, 0)], by decide⟩,
   ⟨(st u), org, (toLE 2 1 ++ [0, 0] ++ toLE 4 27), 27, by decide⟩,
   ⟨(st u), org, pk [(1, 31), (1, 1), (2, 0)], _, ⟨by decide, by decide, by decide, by decide, by decide, by decide, rfl⟩⟩⟩

/-- Every clause of MuteRingAndCommitWrites that has hypotheses has operands that meet them. -/
theorem wit_MuteRingAndCommitWrites :
    (∃ (s : State), s.live ∧ s.m.on F.FEED_HWMUTE_CFG_EN = true ∧ s.m.on F.FEED_HWMUTE_STAT_PIN = false)
    ∧ (∃ (s : State), s.live ∧ (s.m.on F.FEED_HWMUTE_CFG_EN = false ∨ s.m.on F.FEED_HWMUTE_STAT_PIN = true))
    ∧ (∃ (s : State), s.live ∧ s.m.safe = false ∧ s.m.on F.FEED_HWMUTE_CFG_EN = true ∧ s.m.on F.FEED_HWMUTE_STAT_PIN = true ∧
      s.m.on F.FEED_HWMUTE_CFG_LATCH = true)
    ∧ (∃ (s : State), s.live ∧ s.m.safe = false ∧ s.m.on F.FEED_HWMUTE_CFG_EN = true ∧ s.m.on F.FEED_HWMUTE_STAT_PIN = true ∧
      s.m.on F.FEED_HWMUTE_CFG_LATCH = false)
    ∧ (∃ (s : State) (v : Nat), v < 0x100000000 ∧ s.live ∧ bitOf v 0 = true ∧ s.m.on F.FEED_HWMUTE_STAT_LATCHED = true ∧ s.m.rend.pinLow = false ∧
      s.m.safe = false)
    ∧ (∃ (s : State) (v : Nat), v < 0x100000000 ∧ s.live ∧ bits (v &&& 0x303FF) 0 10 ≤ 1000 ∧
      (bitOf v 17 = true ∨ s.m.on F.FEED_HWMUTE_CFG_EN = false))
    ∧ (∃ (s : State) (v : Nat), v < 0x100000000 ∧ s.live ∧ bits (v &&& 0x303FF) 0 10 ≤ 1000 ∧ bitOf v 17 = false ∧ s.m.on F.FEED_HWMUTE_CFG_EN = true)
    ∧ (∃ (s : State) (i : Nat) (v : Nat), i < 640 ∧ s.m.chanOk i = true ∧ v < 0x100000000 ∧ s.live ∧ s.m.selBad 0 v = none)
    ∧ (∃ (s : State) (i : Nat) (v : Nat), i < 640 ∧ s.m.chanOk i = true ∧ v < 0x100000000 ∧ s.live ∧ s.m.selBad 0 v ≠ none)
    ∧ (∃ (s : State) (i : Nat) (v : Nat), i < 2624 ∧ v < 0x100000000 ∧ s.live ∧ s.m.selBad 1 v = none)
    ∧ (∃ (s : State) (i : Nat) (v : Nat), i < 2624 ∧ v < 0x100000000 ∧ s.live ∧ s.m.selBad 1 v ≠ none)
    ∧ (∃ (s : State) (v : Nat), v < 0x100000000 ∧ s.live ∧ bitOf v 0 = true)
    ∧ (∃ (s : State) (v : Nat), v < 0x100000000 ∧ s.live ∧ bitOf v 1 = true)
    ∧ (∃ (s : State) (v : Nat), v < 0x100000000 ∧ s.live ∧ bitOf v 0 = false)
    ∧ (∃ (s : State) (p : Nat) (v : Nat), p < 64 ∧ v < 0x100000000 ∧ s.live ∧ bitOf v 0 = true ∧ s.m.on F.RENDER_PLAY_CTRL_EN p = false)
    ∧ (∃ (s : State) (p : Nat) (v : Nat), p < 64 ∧ v < 0x100000000 ∧ s.live ∧ v % 64 = 0 ∧ v % 2 ^ 24 < s.m.gf F.RENDER_PLAY_SIZE_BYTES p)
    ∧ (∃ (s : State) (c : Nat) (v : Nat), c < 64 ∧ v < 0x100000000 ∧ s.live ∧ bitOf v 0 = true ∧ s.m.on F.FEED_CAP_CTRL_EN c = false)
    ∧ (∃ (s : State) (v : Nat), v < 0x100000000 ∧ s.live ∧ s.m.bulkOn = true ∧ bitOf v 31 = false ∧ s.m.bulkFree = true)
    ∧ (∃ (s : State) (v : Nat), v < 0x100000000 ∧ s.live ∧ s.m.bulkOn = false ∧ bitOf v 31 = true ∧
      s.m.regionOk 0 (s.m.wr R.RENDER_BULK_BASE_HI (v % 256)).bulkBase bulkSize = true)
    ∧ (∃ (s : State) (v : Nat), v < 0x100000000 ∧ s.live ∧ s.m.corrOn = true ∧ bitOf v 31 = false ∧ s.m.corrFree = true)
    ∧ (∃ (s : State) (v : Nat), v < 0x100000000 ∧ s.live ∧ s.m.corrOn = false ∧ bitOf v 31 = true ∧
      s.m.regionOk 1 (s.m.wr R.FEED_CORR_BASE_HI (v % 256)).corrBase corrSize = true) :=
  ⟨⟨(st u), by decide⟩,
   ⟨(st (u.sf F.FEED_HWMUTE_CFG_EN 0)), by decide⟩,
   ⟨(st (((u.sf F.FEED_HWMUTE_CFG_EN 1).sf F.FEED_HWMUTE_STAT_PIN 1).sf F.FEED_HWMUTE_CFG_LATCH 1)), by decide⟩,
   ⟨(st (((u.sf F.FEED_HWMUTE_CFG_EN 1).sf F.FEED_HWMUTE_STAT_PIN 1).sf F.FEED_HWMUTE_CFG_LATCH 0)), by decide⟩,
   ⟨(st (u.sf F.FEED_HWMUTE_STAT_LATCHED 1)), 1, by decide⟩,
   ⟨(st u), 0x203E8, by decide⟩,
   ⟨(st (u.sf F.FEED_HWMUTE_CFG_EN 1)), 1000, by decide⟩,
   ⟨(st u), 639, 0, by decide⟩,
   ⟨(st u), 639, 0x0FFFF, by decide⟩,
   ⟨(st u), 2623, 0, by decide⟩,
   ⟨(st u), 2623, 0x0FFFF, by decide⟩,
   ⟨(st u), 1, by decide⟩,
   ⟨(st u), 2, by decide⟩,
   ⟨(st u), 0, by decide⟩,
   ⟨(st u), 63, 1, by decide⟩,
   ⟨(st u), 63, 64, by decide⟩,
   ⟨(st u), 63, 1, by decide⟩,
   ⟨(st (u.sf F.RENDER_BULK_BASE_HI_EN 1)), 0, by decide⟩,
   ⟨(st ((u.setDdr 1).sf F.DDRC_STAT_SIZE 8192)), 0x80000010, by decide⟩,
   ⟨(st (u.sf F.FEED_CORR_BASE_HI_EN 1)), 0, by decide⟩,
   ⟨(st ((u.setDdr 1).sf F.DDRC_STAT_SIZE 8192)), 0x80000010, by decide⟩⟩

/-- The commands of NetworkFrames have well-formed operands on a part with its rails. -/
theorem wit_NetworkFrames :
    (∃ (s : State) (port : Nat) (f : RxFrame), s.live ∧ (Instr.netRxFrame port f).wellFormed = true)
    ∧ (∃ (s : State) (port : Nat), s.live ∧ (Instr.netRxOverflow port).wellFormed = true)
    ∧ (∃ (s : State) (port : Nat), s.live ∧ (Instr.pauseEnd port).wellFormed = true)
    ∧ (∃ (s : State) (port : Nat), s.live ∧ (Instr.pauseWatchdog port).wellFormed = true)
    ∧ (∃ (s : State) (port : Nat), s.live ∧ (Instr.pauseIgnoreEnd port).wellFormed = true)
    ∧ (∃ (s : State) (port : Nat), s.live ∧ (Instr.netTxFrameStart port).wellFormed = true)
    ∧ (∃ (s : State) (port : Nat) (t : Nat) (underrun : Bool), s.live ∧ (Instr.netTxFrameDone port t underrun).wellFormed = true)
    ∧ (∃ (s : State) (port : Nat) (ring : Nat), s.live ∧ (Instr.launchTimeReached port ring).wellFormed = true)
    ∧ (∃ (s : State) (stream : Nat), s.live ∧ (Instr.mediaPacketLaunch stream).wellFormed = true)
    ∧ (∃ (s : State) (port : Nat), s.live ∧ (Instr.mediaLateDrop port).wellFormed = true)
    ∧ (∃ (s : State) (port : Nat) (speed : Nat) (half : Bool), s.live ∧ (Instr.netLinkUp port speed half).wellFormed = true)
    ∧ (∃ (s : State) (port : Nat) (cut : Bool), s.live ∧ (Instr.netLinkDown port cut).wellFormed = true)
    ∧ (∃ (s : State) (port : Nat), s.live ∧ (Instr.lpiEnter port).wellFormed = true)
    ∧ (∃ (s : State) (port : Nat), s.live ∧ (Instr.lpiWake port).wellFormed = true)
    ∧ (∃ (s : State) (port : Nat), s.live ∧ (Instr.downshift port).wellFormed = true)
    ∧ (∃ (s : State) (port : Nat) (ring : Nat) (v : Nat), s.live ∧ (Instr.netRxTailWrite port ring v).wellFormed = true)
    ∧ (∃ (s : State) (port : Nat) (ring : Nat) (v : Nat), s.live ∧ (Instr.netPoolTailWrite port ring v).wellFormed = true)
    ∧ (∃ (s : State) (port : Nat) (ring : Nat) (v : Nat), s.live ∧ (Instr.netTxTailWrite port ring v).wellFormed = true)
    ∧ (∃ (s : State) (port : Nat) (tx : Bool) (ring : Nat) (v : Nat), s.live ∧ (Instr.netRingCtrlWrite port tx ring v).wellFormed = true)
    ∧ (∃ (s : State) (port : Nat) (v : Nat), s.live ∧ (Instr.netCntClr port v).wellFormed = true)
    ∧ (∃ (s : State) (stream : Nat) (seq : Nat), s.live ∧ (Instr.mergeWindowExpire stream seq).wellFormed = true)
    ∧ (∃ (s : State) (stream : Nat), s.live ∧ (Instr.streamLost stream).wellFormed = true)
    ∧ (∃ (s : State) (v : Nat), s.live ∧ (Instr.strmRegionWrite v).wellFormed = true)
    ∧ (∃ (s : State) (v : Nat), s.live ∧ (Instr.strmCntClr v).wellFormed = true)
    ∧ (∃ (s : State) (a : Announcement), s.live ∧ (Instr.discoveryAnnouncement a).wellFormed = true)
    ∧ (∃ (s : State) (sid : Nat), s.live ∧ (Instr.discoveryExpire sid).wellFormed = true)
    ∧ (∃ (s : State) (stream : Nat), s.live ∧ (Instr.streamAnnounce stream).wellFormed = true)
    ∧ (∃ (s : State) (port : Nat), s.live ∧ (Instr.firmwareProtocolReply port).wellFormed = true)
    ∧ (∃ (s : State) (p : Nat), s.live ∧ (Instr.downshiftRenegotiationTimeout p).wellFormed = true) :=
  ⟨⟨st u, 0, ⟨64, true, [], 0⟩, by decide⟩,
   ⟨st u, 0, by decide⟩,
   ⟨st u, 0, by decide⟩,
   ⟨st u, 0, by decide⟩,
   ⟨st u, 0, by decide⟩,
   ⟨st u, 0, by decide⟩,
   ⟨st u, 0, 0, false, by decide⟩,
   ⟨st u, 0, 0, by decide⟩,
   ⟨st u, 0, by decide⟩,
   ⟨st u, 0, by decide⟩,
   ⟨st u, 0, 0, false, by decide⟩,
   ⟨st u, 0, false, by decide⟩,
   ⟨st u, 0, by decide⟩,
   ⟨st u, 0, by decide⟩,
   ⟨st u, 0, by decide⟩,
   ⟨st u, 0, 0, 0, by decide⟩,
   ⟨st u, 0, 0, 0, by decide⟩,
   ⟨st u, 0, 0, 0, by decide⟩,
   ⟨st u, 0, false, 0, 0, by decide⟩,
   ⟨st u, 0, 0, by decide⟩,
   ⟨st u, 0, 0, by decide⟩,
   ⟨st u, 0, by decide⟩,
   ⟨st u, 0, by decide⟩,
   ⟨st u, 0, by decide⟩,
   ⟨st u, ⟨0, [], 0, 0, 5004, 2, 2, 96, 1, true, true, true, 0⟩, by decide⟩,
   ⟨st u, 0, by decide⟩,
   ⟨st u, 0, by decide⟩,
   ⟨st u, 0, by decide⟩,
   ⟨st u, 0, by decide⟩⟩

/-- Every clause of NetworkPortOpcodes that has hypotheses has operands that meet them. -/
theorem wit_NetworkPortOpcodes :
    (∃ (s : State) (o : Sys2Proof.Origin) (p : List Byte), s.takes o ∧ lenOf p = 32 ∧ pf p 16 1 ≤ 1 ∧ 1 ≤ pf p 17 1 ∧ pf p 17 1 ≤ 4 ∧ pf p 18 2 ≤ 31 ∧
      1 ≤ pf p 20 2 ∧ pf p 20 2 ≤ 1000 ∧ 1 ≤ pf p 22 2 ∧ pf p 22 2 ≤ 5000 ∧ 256 ≤ pf p 24 2 ∧ pf p 24 2 ≤ 9216 ∧ pf p 26 2 = 0 ∧
      s.m.speedHeld (pf p 16 1) (pf p 17 1) = false)
    ∧ (∃ (s : State) (o : Sys2Proof.Origin) (p : List Byte), s.takes o ∧ lenOf p = 36 ∧ pf p 16 1 ≤ 1 ∧ 8 ≤ pf p 17 1 ∧ pf p 17 1 ≤ 30 ∧
      pf p 18 2 ≤ 4094 ∧ pf p 31 1 ≤ 7)
    ∧ (∃ (s : State) (o : Sys2Proof.Origin) (p : List Byte) (lg : Nat), s.takes o ∧ lenOf p = 36 ∧ pf p 16 1 ≤ 1 ∧ pf p 17 1 ≤ 7 ∧
      (pf p 18 2 = 2 ∨ pf p 18 2 = 3) ∧ pf p 20 8 % 64 = 0 ∧ pf p 20 8 < 2 ^ 40 ∧ 4 ≤ lg ∧ lg ≤ 12 ∧ pf p 28 2 = 2 ^ lg ∧ 256 ≤ pf p 30 2 ∧
      pf p 30 2 ≤ 9216 ∧ pf p 30 2 % 64 = 0 ∧ s.m.on F.NET_RX_CTRL_EN (pf p 16 1) (pf p 17 1) = false)
    ∧ (∃ (s : State) (o : Sys2Proof.Origin) (p : List Byte), s.takes o ∧ lenOf p = 24 ∧ pf p 16 1 ≤ 1 ∧ pf p 17 1 ≤ 1 ∧ pf p 18 2 = 0)
    ∧ (∃ (s : State) (o : Sys2Proof.Origin) (p : List Byte), s.takes o ∧ lenOf p = 28 ∧ pf p 16 1 ≤ 1 ∧ pf p 17 1 ≤ 3 ∧ pf p 18 1 ≤ 31 ∧
      pf p 19 1 ≤ 31)
    ∧ (∃ (s : State) (o : Sys2Proof.Origin) (p : List Byte), s.takes o ∧ lenOf p = 24 ∧ 1 ≤ pf p 16 1 ∧ pf p 16 1 ≤ 16 ∧ pf p 17 1 ≤ 3 ∧
      pf p 18 2 = 0) :=
  ⟨⟨(st u), org, pk [(1, 1), (1, 4), (2, 31), (2, 1000), (2, 5000), (2, 9216), (2, 0)], by decide⟩,
   ⟨(st u), org, pk [(1, 1), (1, 30), (2, 4094), (4, 1), (4, 2), (1, 3), (1, 4), (1, 5), (1, 7)], by decide⟩,
   ⟨(st u), org, pk [(1, 1), (1, 7), (2, 3), (8, 0xFFFFFFFFC0), (2, 4096), (2, 9216)], 12, by decide⟩,
   ⟨(st u), org, pk [(1, 1), (1, 1), (2, 0)], by decide⟩,
   ⟨(st u), org, pk [(1, 1), (1, 3), (1, 31), (1, 31), (2, 5), (2, 6)], by decide⟩,
   ⟨(st u), org, pk [(1, 16), (1, 3), (2, 0)], by decide⟩⟩

/-- The hypotheses of NowReadsAreOneInstant are met. -/
theorem wit_NowReadsAreOneInstant :
    (∃ (s : State), s.live) :=
  ⟨(st u), by decide⟩

/-- Every clause of ObjectAndGeometryOpcodes that has hypotheses has operands that meet them. -/
theorem wit_ObjectAndGeometryOpcodes :
    (∃ (s : State) (o : Sys2Proof.Origin) (p : List Byte) (x : Mach × Res), s.takes o ∧ listFits p 32 100 40 ∧ onceEach p 32 100 (fun e => fld e 0 2) ∧
      s.m.timingChk 14 p = none ∧ (∀ e ∈ entriesOf p 32 100, s.m.chanOk (fld e.2 0 2) = true ∧ allZero (slice e.2 2 2) = true ∧
      s.m.recBad K.CHAN (e.2.drop 4) = none) ∧ s.m.timeRoom p (countOf p 32) ∧
      x = s.m.putRecords o 0x0301 (s.m.effOf p) true ((entriesOf p 32 100).map (fun e => (K.CHAN, fld e.2 0 2, e.2.drop 4))))
    ∧ (∃ (s : State) (o : Sys2Proof.Origin) (p : List Byte) (w : List Byte → List Byte) (x : Mach × Res), s.takes o ∧ listFits p 32 8 500 ∧
      onceEach p 32 8 (fun e => fld e 0 2) ∧ s.m.timingChk 14 p = none ∧
      w = (fun e => (s.m.baseRec (s.m.effOf p) K.CHAN (fld e 0 2)).take 80 ++ slice e 4 4 ++ (s.m.baseRec (s.m.effOf p) K.CHAN (fld e 0 2)).drop 84) ∧
      (∀ e ∈ entriesOf p 32 8, s.m.chanOk (fld e.2 0 2) = true ∧ allZero (slice e.2 2 2) = true ∧ s.m.recBad K.CHAN (w e.2) = none) ∧
      s.m.timeRoom p (countOf p 32) ∧ x = s.m.putRecords o 0x0302 (s.m.effOf p) true ((entriesOf p 32 8).map (fun e => (K.CHAN, fld e.2 0 2, w e.2))))
    ∧ (∃ (s : State) (o : Sys2Proof.Origin) (p : List Byte), s.takes o ∧ lenOf p = 24 ∧ s.m.chanOk (pf p 16 2) = true ∧ pf p 18 1 ≤ 3 ∧ pf p 19 1 = 0)
    ∧ (∃ (s : State) (o : Sys2Proof.Origin) (p : List Byte), s.takes o ∧ lenOf p = 24 ∧ 1 ≤ pf p 18 2 ∧ pf p 18 2 ≤ 128 ∧
      s.m.chansOk (pf p 16 2) (pf p 18 2) = true)
    ∧ (∃ (s : State) (o : Sys2Proof.Origin) (p : List Byte) (obs : List Nat) (l : List Byte), s.takes o ∧ lenOf p = 36 ∧ s.m.bufChk p 16 = none ∧
      s.m.bufErr (bufOf p 16) false (obsOn obs 0) = false ∧ l = s.m.bufRead (bufOf p 16) ∧ 32 ≤ pf p 24 4 ∧ pf p 24 4 = tabLen l ∧
      tabBad 512 l = none ∧ fld l 4 2 ≤ s.m.variant.feeds)
    ∧ (∃ (s : State) (o : Sys2Proof.Origin) (p : List Byte), s.takes o ∧ lenOf p = 36 ∧ s.m.recBad K.ATMOS (p.take 16) = none)
    ∧ (∃ (s : State) (o : Sys2Proof.Origin) (p : List Byte) (x : Mach × Res), s.takes o ∧ listFits p 32 36 100 ∧
      onceEach p 32 36 (fun e => fld e 0 2) ∧ s.m.timingChk 14 p = none ∧ (∀ e ∈ entriesOf p 32 36, fld e.2 0 2 < s.m.variant.objects ∧
      allZero (slice e.2 2 2) = true ∧ s.m.recBad K.GEOREC (e.2.drop 4) = none) ∧ s.m.timeRoom p (countOf p 32) ∧
      x = s.m.putRecords o 0x0403 (s.m.effOf p) true ((entriesOf p 32 36).map (fun e => (K.GEOREC, fld e.2 0 2, e.2.drop 4))))
    ∧ (∃ (s : State) (o : Sys2Proof.Origin) (p : List Byte) (q : Sys2Proof.SMap (List Key)), s.takes o ∧ listFits p 16 36 112 ∧ s.m.gridFree = false ∧
      (∀ e ∈ entriesOf p 16 36, fld e.2 0 2 < s.m.variant.objects ∧ allZero (slice e.2 2 2) = true ∧ fld e.2 4 4 < 1000000000 ∧ fld e.2 14 2 ≤ 7 ∧
      allZero (slice e.2 34 2) = true) ∧ keysFit (fun o => (s.m.obj o).queue) 0 [] ((entriesOf p 16 36).map (fun e => (fld e.2 0 2,
      keyOf (e.2.drop 4)))) = .inr q)
    ∧ (∃ (s : State) (o : Sys2Proof.Origin) (p : List Byte), s.takes o ∧ listFits p 16 4 500 ∧ onceEach p 16 4 (fun e => fld e 0 2) ∧
      (∀ e ∈ entriesOf p 16 4, fld e.2 0 2 < s.m.variant.objects ∧ allZero (slice e.2 2 2) = true))
    ∧ (∃ (s : State) (o : Sys2Proof.Origin) (p : List Byte), s.takes o ∧ lenOf p = 24 ∧ pf p 16 2 < s.m.variant.objects ∧ pf p 18 2 = 0)
    ∧ (∃ (s : State) (o : Sys2Proof.Origin) (p : List Byte), s.takes o ∧ lenOf p = 24 ∧ pf p 16 2 < s.m.variant.objects ∧ pf p 18 2 = 0)
    ∧ (∃ (s : State) (o : Sys2Proof.Origin) (p : List Byte), s.takes o ∧ lenOf p = 32 ∧ pf p 16 8 % 0x100000 = 0 ∧ pf p 16 8 < 2 ^ 40 ∧ pf p 24 4 = 1 ∧
      s.m.regionOk 0 (pf p 16 8) bulkSize = true ∧ s.m.bulkOn = false)
    ∧ (∃ (s : State) (o : Sys2Proof.Origin) (p : List Byte), s.takes o ∧ lenOf p = 32 ∧ pf p 16 8 % 0x100000 = 0 ∧ pf p 16 8 < 2 ^ 40 ∧ pf p 24 4 = 0 ∧
      ((s.m.bulkOn = true → pf p 16 8 = s.m.bulkBase ∧ s.m.bulkFree = true))) :=
  ⟨⟨(st u), org, pk [(1, 1), (15, 0), (2, 1), (2, 0), (2, 639), (2, 0), (96, 0)], _, ⟨by decide, by decide +kernel, by decide +kernel,
      by decide +kernel, by decide +kernel, by decide +kernel, rfl⟩⟩,
   ⟨(st u), org, pk [(1, 1), (15, 0), (2, 1), (2, 0), (2, 639), (2, 0), (4, 5)], _, _, ⟨by decide, by decide +kernel, by decide +kernel,
      by decide +kernel, rfl, by decide +kernel, by decide +kernel, rfl⟩⟩,
   ⟨(st u), org, pk [(2, 639), (1, 3), (1, 0)], by decide⟩,
   ⟨(st u), org, pk [(2, 512), (2, 128)], by decide +kernel⟩,
   ⟨(st (u.mwr 0x1000000 tabImg)), org, pk [(8, 0x1000000), (4, 64), (4, 0)], [], _, ⟨by decide, by decide +kernel, by decide +kernel,
      by decide +kernel, rfl, by decide +kernel, by decide +kernel, by decide +kernel⟩⟩,
   ⟨(st u), org, pk [(4, 22478848), (2, 2000), (2, 5000), (2, 10000), (2, 6000), (2, 100), (2, 0)], by decide +kernel⟩,
   ⟨(st u), org, pk [(1, 1), (15, 0), (2, 1), (2, 0), (2, 511), (2, 0), (1, 0), (1, 0), (2, 0), (2, 8), (1, 0), (1, 0), (2, 1), (2, 1), (20, 0)], _,
      ⟨by decide, by decide +kernel, by decide +kernel, by decide +kernel, by decide +kernel, by decide +kernel, rfl⟩⟩,
   ⟨(st (u.sf F.TIME_GRID_STAT_STATE 2)), org, pk [(2, 1), (2, 0), (2, 511), (2, 0), (32, 0)], _, ⟨by decide, by decide, by decide, by decide +kernel,
      rfl⟩⟩,
   ⟨(st u), org, pk [(2, 1), (2, 0), (2, 511), (2, 0)], by decide⟩,
   ⟨(st u), org, pk [(2, 511), (2, 0)], by decide⟩,
   ⟨(st u), org, pk [(2, 511), (2, 0)], by decide⟩,
   ⟨(st ((u.setDdr 1).sf F.DDRC_STAT_SIZE 8192)), org, pk [(8, 0x1000000000), (4, 1)], by decide +kernel⟩,
   ⟨(st u), org, pk [(8, 0x1000000000), (4, 0)], by decide⟩⟩

/-- Every clause of OffsetsDriveTheServo that has hypotheses has operands that meet them. -/
theorem wit_OffsetsDriveTheServo :
    (∃ (s : State) (p : Nat) (q : Nat) (g : Nat), p < 2 ∧ q < 65536 ∧ s.live ∧ s.m.gmIdent p ≠ some g)
    ∧ (∃ (s : State) (p : Nat) (q : Nat) (g : Nat), p < 2 ∧ q < 65536 ∧ s.live ∧ s.m.gmIdent p = some g)
    ∧ (∃ (s : State) (p : Nat) (q : Nat) (g : Nat), p < 2 ∧ q < 65536 ∧ s.live ∧ s.m.gmIdent p = some g)
    ∧ (∃ (s : State) (p : Nat) (q : Nat) (g : Nat) (t2 : Nat) (z : Int), p < 2 ∧ q < 65536 ∧ s.live ∧ (s.m.tm.port p).sync = some (q, t2, z) ∧
      s.m.gmIdent p = some g)
    ∧ (∃ (s : State) (p : Nat) (q : Nat), p < 2 ∧ q < 65536 ∧ s.live ∧ (s.m.tm.port p).sync = none)
    ∧ (∃ (s : Mach) (p : Nat), s.p2p = false ∧ (s.tm.port p).exch = none)
    ∧ (∃ (s : Mach) (p : Nat), p = s.activePort ∧ p < 2 ∧ s.hostMode 1 = true)
    ∧ (∃ (s : Mach), s.tm.first = true)
    ∧ (∃ (s : Mach), s.tm.first = false ∧ s.tm.relock = false ∧ s.rd R.TIME_STEP_NS = 0)
    ∧ (∃ (s : State) (w : Snap), s.live ∧ s.m.tm.writing = some w)
    ∧ (∃ (s : State), s.live ∧ s.m.tm.writing = none) :=
  ⟨⟨(st u), 1, 65535, 9, by decide⟩,
   ⟨(st (u.onPort 1 (fun t => { t with gm := some ⟨128, 248, 254, 65535, 128, 9, 0⟩ }))), 1, 65535, 9, by decide⟩,
   ⟨(st (u.onPort 1 (fun t => { t with gm := some ⟨128, 248, 254, 65535, 128, 9, 0⟩ }))), 1, 65535, 9, by decide⟩,
   ⟨(st (u.onPort 1 (fun t => { t with gm := some ⟨128, 248, 254, 65535, 128, 9, 0⟩, sync := some (65535, 5, 6) }))), 1, 65535, 9, 5, 6, by decide⟩,
   ⟨(st u), 1, 65535, by decide⟩,
   ⟨u, 1, by decide⟩,
   ⟨(u.sf F.SYS_PLACE_STAT_HOST 2), 0, by decide⟩,
   ⟨u, by decide⟩,
   ⟨((u.wr R.TIME_STEP_NS 0).onTime (fun t => { t with first := false, relock := false })), by decide⟩,
   ⟨(st (u.onTime (fun t => { t with writing := some ⟨1, 2, 3, 4, 5, 6⟩ }))), ⟨1, 2, 3, 4, 5, 6⟩, by decide⟩,
   ⟨(st u), by decide⟩⟩

/-- Every clause of PlacementAndDiagnosticOpcodes that has hypotheses has operands that meet them. -/
theorem wit_PlacementAndDiagnosticOpcodes :
    (∃ (s : State) (o : Sys2Proof.Origin) (p : List Byte) (f : Nat) (h : Bool), s.takes o ∧ lenOf p = 40 ∧ pf p 16 4 = 0 ∧ pf p 28 4 = 0 ∧
      pf p 32 1 = f ∧ (f = 2 ∨ f = 3 ∨ f = 5) ∧ pf p 33 1 = b2n h ∧ pf p 34 2 = 0 ∧ s.m.hostMode f ≠ h ∧ s.m.immReady f = true)
    ∧ (∃ (s : State) (o : Sys2Proof.Origin) (p : List Byte) (f : Nat) (h : Bool), s.takes o ∧ lenOf p = 40 ∧ pf p 16 1 = 1 ∧ pf p 17 1 = 0 ∧
      pf p 28 4 = 0 ∧ pf p 32 1 = f ∧ (f = 0 ∨ f = 1 ∨ f = 4 ∨ f = 6 ∨ f = 7) ∧ pf p 33 1 = b2n h ∧ pf p 34 2 = 0 ∧ s.m.hostMode f ≠ h ∧
      mfind s.m.cmd.place f = none ∧ ((f = 0 → h = false → s.m.hostObjs = 0)))
    ∧ (∃ (s : State) (o : Sys2Proof.Origin) (p : List Byte), s.takes o ∧ lenOf p = 20)
    ∧ (∃ (s : State) (o : Sys2Proof.Origin) (p : List Byte) (a : Nat), s.takes o ∧ p = toLE 2 1 ++ [0, 0] ++ toLE 4 a ∧ a % 4 = 0 ∧ a < 0x1000000)
    ∧ (∃ (s : State) (o : Sys2Proof.Origin) (p : List Byte) (a : Nat) (v : Nat), s.takes o ∧ p = toLE 2 1 ++ [0, 0] ++ toLE 4 a ++ toLE 4 v ∧
      a % 4 = 0 ∧ a < 0x1000000 ∧ v < 2 ^ 32 ∧ ((∀ q, o.xport = .pcie q → qpReg q a = false)))
    ∧ (∃ (s : State) (o : Sys2Proof.Origin) (p : List Byte), s.takes o ∧ lenOf p = 32 ∧ pf p 16 2 < s.m.variant.objects ∧ pf p 18 2 = 0 ∧
      1 ≤ pf p 24 2 ∧ pf p 24 2 ≤ 1008 ∧ pf p 20 4 + pf p 24 2 ≤ 32768 ∧ pf p 26 2 = 0)
    ∧ (∃ (s : State) (o : Sys2Proof.Origin) (p : List Byte), s.takes o ∧ lenOf p = 24 ∧ pf p 16 4 = 0 ∧ s.m.power = 2)
    ∧ (∃ (s : State) (o : Sys2Proof.Origin) (p : List Byte), s.takes o ∧ lenOf p = 24 ∧ (pf p 16 1 = 1 ∨ pf p 16 1 = 2) ∧ pf p 17 3 = 0)
    ∧ (∃ (s : State) (o : Sys2Proof.Origin) (p : List Byte), s.takes o ∧ lenOf p = 24 ∧ (pf p 16 1 = 1 ∨ pf p 16 1 = 2) ∧ pf p 17 1 ≤ 1 ∧
      pf p 19 1 = 1 ∧ s.m.power = 2)
    ∧ (∃ (s : State) (o : Sys2Proof.Origin) (p : List Byte), s.takes o ∧ lenOf p = 28 ∧ pf p 16 1 = 0 ∧ pf p 17 1 = 0 ∧
      pf p 18 2 < s.m.variant.objects ∧ 1 ≤ pf p 20 2 ∧ pf p 20 2 ≤ 16 ∧ pf p 22 2 = 0)
    ∧ (∃ (s : State) (o : Sys2Proof.Origin) (p : List Byte), s.takes o ∧ lenOf p = 28 ∧ (pf p 16 1 = 1 ∨ pf p 16 1 = 2) ∧ pf p 17 1 = 0 ∧
      1 ≤ pf p 20 2 ∧ pf p 20 2 ≤ 16 ∧ pf p 22 2 = 0) :=
  ⟨⟨(st u), org, pk [(1, 0), (11, 0), (4, 0), (1, 5), (1, 1), (2, 0)], 5, true, by decide⟩,
   ⟨(st u), org, pk [(1, 1), (11, 0), (4, 0), (1, 7), (1, 1), (2, 0)], 7, true, by decide⟩,
   ⟨(st u), org, [], by decide⟩,
   ⟨(st u), org, (toLE 2 1 ++ [0, 0] ++ toLE 4 0xFFFFFC), 0xFFFFFC, by decide⟩,
   ⟨(st u), { org with xport := .spi }, (toLE 2 1 ++ [0, 0] ++ toLE 4 0xFFFFF0 ++ toLE 4 0xFFFFFFFF), 0xFFFFF0, 0xFFFFFFFF, ⟨by decide, rfl,
      by decide, by decide, by decide, fun q h => by cases h⟩⟩,
   ⟨(st u), org, pk [(2, 511), (2, 0), (4, 31760), (2, 1008), (2, 0)], by decide⟩,
   ⟨(st (u.sf F.SYS_PWR_STAT_STATE 2)), org, pk [(4, 0)], by decide⟩,
   ⟨(st u), org, pk [(1, 2), (3, 0)], by decide⟩,
   ⟨(st (u.sf F.SYS_PWR_STAT_STATE 2)), org, pk [(1, 2), (1, 1), (1, 0), (1, 1)], by decide⟩,
   ⟨(st u), org, pk [(2, 0), (2, 511), (2, 16), (2, 0)], by decide⟩,
   ⟨(st u), org, pk [(1, 2), (3, 0), (2, 16), (2, 0)], by decide⟩⟩

/-- Every clause of PowerAndResetOpcodes that has hypotheses has operands that meet them. -/
theorem wit_PowerAndResetOpcodes :
    (∃ (s : State) (o : Sys2Proof.Origin) (p : List Byte), s.takes o ∧ lenOf p = 28 ∧ pf p 16 1 ≤ 4 ∧ pf p 16 1 ≠ 3 ∧ pf p 17 1 ≤ 3 ∧
      s.m.sys.move = none ∧ s.m.longRuns o.id = false ∧ pf p 16 1 ≠ s.m.power)
    ∧ (∃ (s : State) (o : Sys2Proof.Origin) (p : List Byte), s.takes o ∧ lenOf p = 28 ∧ pf p 16 1 = 3 ∧ pf p 17 1 ≤ 3 ∧ s.m.sys.move = none ∧
      s.m.longRuns o.id = false ∧ s.m.power ≠ 3 ∧ ((bitOf (pf p 17 1) 1 = true → s.m.rtcNow < pf p 18 6)))
    ∧ (∃ (s : State) (o : Sys2Proof.Origin) (p : List Byte), s.takes o ∧ lenOf p = 28 ∧ pf p 16 1 = s.m.power ∧ pf p 16 1 ≠ 3 ∧ pf p 16 1 ≤ 4 ∧
      pf p 17 1 ≤ 3 ∧ s.m.sys.move = none ∧ s.m.longRuns o.id = false)
    ∧ (∃ (s : State) (o : Sys2Proof.Origin) (p : List Byte), s.takes o ∧ lenOf p = 24 ∧ pf p 16 2 = 0x5253 ∧ pf p 18 1 = 0 ∧ s.m.sys.ordered = none)
    ∧ (∃ (s : State) (o : Sys2Proof.Origin) (p : List Byte), s.takes o ∧ lenOf p = 24 ∧ pf p 16 2 = 0x5253 ∧ pf p 18 1 = 1 ∧ pf p 19 1 ≤ 9 ∧
      s.m.ownBlock o.xport (pf p 19 1) = false)
    ∧ (∃ (s : State) (o : Sys2Proof.Origin) (p : List Byte), s.takes o ∧ lenOf p = 24 ∧ pf p 16 2 ≤ 60000 ∧ 1 ≤ pf p 16 2 ∧ pf p 18 2 = 0)
    ∧ (∃ (s : State) (o : Sys2Proof.Origin) (p : List Byte), s.takes o ∧ lenOf p = 24 ∧ pf p 16 2 = 0 ∧ pf p 18 2 = 0 ∧ s.m.err.deferred = false)
    ∧ (∃ (s : State) (o : Sys2Proof.Origin) (p : List Byte) (t : Mach) (n v i : Nat), s.takes o ∧ lenOf p = 36 ∧ s.m.bufChk p 16 = none ∧
      s.m.bufErr (bufOf p 16) false false = false ∧ v < 2 ^ 32 ∧ i < 2 ^ 64 ∧ t = s.m.bufTouch (bufOf p 16) ∧
      n = 1 - fld (s.m.mrd 0x100003001 1) 0 1 % 2) :=
  ⟨⟨(st u), org, pk [(1, 4), (7, 0)], by decide⟩,
   ⟨(st u), org, pk [(1, 3), (1, 3), (6, 1)], by decide⟩,
   ⟨(st (u.sf F.SYS_PWR_STAT_STATE 2)), org, pk [(1, 2), (7, 0)], by decide⟩,
   ⟨(st u), org, pk [(2, 0x5253), (2, 0)], by decide⟩,
   ⟨(st u), org, pk [(2, 0x5253), (1, 1), (1, 9)], by decide⟩,
   ⟨(st u), org, pk [(2, 60000), (2, 0)], by decide⟩,
   ⟨(st u), org, pk [(4, 0)], by decide⟩,
   ⟨(st u), org, pk [(8, 0x1000000), (4, 64), (4, 0)], _, _, 5, 7, ⟨by decide, by decide, by decide, by decide, by decide, by decide, rfl, rfl⟩⟩⟩

/-- Every clause of ReceivedFrames that has hypotheses has operands that meet them. -/
theorem wit_ReceivedFrames :
    (∃ (s : State) (p : Nat), p < 2 ∧ s.live ∧ (s.m.linkUp p = false ∨ s.m.macLooped p = true))
    ∧ (∃ (s : State) (p : Nat) (f : RxFrame), p < 2 ∧ s.live ∧ s.m.linkUp p = true ∧ s.m.macLooped p = false ∧ f.len < 64 ∧
      s.m.on F.NET_CFG_RUNT_SILENT p = true)
    ∧ (∃ (s : State) (p : Nat) (f : RxFrame), p < 2 ∧ s.live ∧ s.m.linkUp p = true ∧ s.m.macLooped p = false ∧ f.len < 64 ∧
      s.m.on F.NET_CFG_RUNT_SILENT p = false)
    ∧ (∃ (s : State) (p : Nat) (f : RxFrame), p < 2 ∧ s.live ∧ s.m.linkUp p = true ∧ s.m.macLooped p = false ∧ 9216 < f.len)
    ∧ (∃ (s : State) (p : Nat) (f : RxFrame), p < 2 ∧ s.live ∧ s.m.linkUp p = true ∧ s.m.macLooped p = false ∧ 64 ≤ f.len ∧ f.len ≤ 9216 ∧
      f.fcsOk = false)
    ∧ (∃ (s : State) (p : Nat) (f : RxFrame) (h : Parsed) (t : Mach), p < 2 ∧ s.live ∧ s.m.linkUp p = true ∧ s.m.macLooped p = false ∧ 64 ≤ f.len ∧
      f.len ≤ 9216 ∧ f.fcsOk = true ∧ h = parseFrame f.data ∧ t = s.m.bump R.NET_RX_FRAMES p)
    ∧ (∃ (s : State) (p : Nat), p < 2 ∧ s.live)
    ∧ (∃ (s : State) (p : Nat), p < 2 ∧ s.live)
    ∧ (∃ (s : State) (p : Nat), p < 2 ∧ s.live ∧ s.m.on F.NET_STAT_PAUSED p = true)
    ∧ (∃ (s : State) (p : Nat), p < 2 ∧ s.live ∧ s.m.on F.NET_STAT_PAUSED p = false)
    ∧ (∃ (s : State) (p : Nat), p < 2 ∧ s.live)
    ∧ (∃ (s : State) (p : Nat), p < 2 ∧ s.live ∧ (s.m.netPort p).fwIn = [])
    ∧ (∃ (s : State) (p : Nat) (k : Nat) (d : List Byte) (r : List (Nat × List Byte)), p < 2 ∧ s.live ∧ (s.m.netPort p).fwIn = (k, d) :: r ∧ k ≠ 3)
    ∧ (∃ (s : State) (p : Nat) (f : RxFrame), p < 2 ∧ s.live ∧ s.m.linkUp p = true ∧ s.m.macLooped p = false ∧ 64 ≤ f.len ∧ f.len ≤ 9216 ∧
      f.fcsOk = true ∧ (parseFrame f.data).ety = 0x8808 ∧ beAt f.data (parseFrame f.data).l3 2 = 1)
    ∧ (∃ (s : State) (p : Nat) (f : RxFrame), p < 2 ∧ s.live ∧ s.m.linkUp p = true ∧ s.m.macLooped p = false ∧ 64 ≤ f.len ∧ f.len ≤ 9216 ∧
      f.fcsOk = true ∧ (parseFrame f.data).ety = 0x88F7)
    ∧ (∃ (s : State) (p : Nat) (f : RxFrame), p < 2 ∧ s.live ∧ s.m.linkUp p = true ∧ s.m.macLooped p = false ∧ 64 ≤ f.len ∧ f.len ≤ 9216 ∧
      f.fcsOk = true ∧ (parseFrame f.data).ety ≠ 0x8808 ∧ (parseFrame f.data).udp = true ∧ (parseFrame f.data).dport = 320)
    ∧ (∃ (s : State) (p : Nat) (f : RxFrame), p < 2 ∧ s.live ∧ s.m.linkUp p = true ∧ s.m.macLooped p = false ∧ 64 ≤ f.len ∧ f.len ≤ 9216 ∧
      f.fcsOk = true ∧ (parseFrame f.data).ety ≠ 0x8808 ∧ (parseFrame f.data).ety ≠ 0x88F7 ∧ (parseFrame f.data).udp = true ∧
      (parseFrame f.data).dport ≠ 319 ∧ (parseFrame f.data).dport ≠ 320 ∧
      ((s.m.bump R.NET_RX_FRAMES p).sin.find? (fun e => e.2.en && e.2.group == (parseFrame f.data).dst && e.2.port == (parseFrame f.data).dport && (e.2.source == 0 || e.2.source == (parseFrame f.data).src))).isSome)
    ∧ (∃ (s : State) (p : Nat) (f : RxFrame), p < 2 ∧ s.live ∧ s.m.linkUp p = true ∧ s.m.macLooped p = false ∧ 64 ≤ f.len ∧ f.len ≤ 9216 ∧
      f.fcsOk = true ∧ (parseFrame f.data).ety ≠ 0x8808 ∧ (parseFrame f.data).ety ≠ 0x88F7 ∧ (parseFrame f.data).udp = false ∧
      (s.m.bump R.NET_RX_FRAMES p).fwProto p f.data (parseFrame f.data) = none ∧
      (s.m.bump R.NET_RX_FRAMES p).classify p (parseFrame f.data) = some 15)
    ∧ (∃ (s : State) (p : Nat) (f : RxFrame), p < 2 ∧ s.live ∧ s.m.linkUp p = true ∧ s.m.macLooped p = false ∧ 64 ≤ f.len ∧ f.len ≤ 9216 ∧
      f.fcsOk = true ∧ (parseFrame f.data).ety ≠ 0x8808 ∧ (parseFrame f.data).ety ≠ 0x88F7 ∧ (parseFrame f.data).udp = false ∧
      (s.m.bump R.NET_RX_FRAMES p).fwProto p f.data (parseFrame f.data) = none ∧ (s.m.bump R.NET_RX_FRAMES p).classify p (parseFrame f.data) = none)
    ∧ (∃ (s : State) (p : Nat) (d : List Byte) (r : List (Nat × List Byte)), p < 2 ∧ s.live ∧ (s.m.netPort p).fwIn = (3, d) :: r) :=
  ⟨⟨(st u), 1, by decide⟩,
   ⟨(st ((u.sf F.NET_STAT_LINK 1 1).sf F.NET_CFG_RUNT_SILENT 1 1)), 1, ⟨63, true, [], 5⟩, by decide⟩,
   ⟨(st ((u.sf F.NET_STAT_LINK 1 1).sf F.NET_CFG_RUNT_SILENT 0 1)), 1, ⟨63, true, [], 5⟩, by decide⟩,
   ⟨(st (u.sf F.NET_STAT_LINK 1 1)), 1, ⟨9217, true, [], 5⟩, by decide⟩,
   ⟨(st (u.sf F.NET_STAT_LINK 1 1)), 1, ⟨9216, false, [], 5⟩, by decide⟩,
   ⟨(st (u.sf F.NET_STAT_LINK 1 1)), 1, ⟨64, true, [], 5⟩, (parseFrame []), ((u.sf F.NET_STAT_LINK 1 1).bump R.NET_RX_FRAMES 1), ⟨by decide,
      by decide, by decide, by decide, by decide, by decide, by decide, rfl, rfl⟩⟩,
   ⟨(st u), 1, by decide⟩,
   ⟨(st u), 1, by decide⟩,
   ⟨(st (u.sf F.NET_STAT_PAUSED 1 1)), 1, by decide⟩,
   ⟨(st u), 1, by decide⟩,
   ⟨(st u), 1, by decide⟩,
   ⟨(st u), 1, by decide⟩,
   ⟨(st ((u.sf F.NET_STAT_LINK 1 1).onNet 1 (fun n => { n with fwIn := [(0, [1])] }))), 1, 0, [1], [], by decide⟩,
   ⟨st ((u.sf F.NET_STAT_LINK 1 1)), 1, ⟨64, true, List.replicate 12 0 ++ pk [(1, 136), (1, 8)] ++ pk [(1, 0), (1, 1)], 5⟩, by decide +kernel⟩,
   ⟨st ((u.sf F.NET_STAT_LINK 1 1)), 1, ⟨64, true, List.replicate 12 0 ++ pk [(1, 136), (1, 247)] ++ [], 5⟩, by decide +kernel⟩,
   ⟨st ((u.sf F.NET_STAT_LINK 1 1)), 1, ⟨64, true, List.replicate 12 0 ++ pk [(1, 8), (1, 0)] ++ pk [(1, 0x45), (7, 0), (1, 64), (1, 17), (2, 0), (4,
      0), (1, 0xEF), (1, 1), (1, 1), (1, 1), (2, 0), (1, 1), (1, 64), (4, 0)], 5⟩, by decide +kernel⟩,
   ⟨st ({ (u.sf F.NET_STAT_LINK 1 1) with sin := [(3, { StrIn.off with en := true, group := 0xEF010101, port := 5004 })] }), 1, ⟨64, true,
      List.replicate 12 0 ++ pk [(1, 8), (1, 0)] ++ pk [(1, 0x45), (7, 0), (1, 64), (1, 17), (2, 0), (4, 0), (1, 0xEF), (1, 1), (1, 1), (1, 1), (2,
      0), (1, 19), (1, 140), (4, 0)], 5⟩, by decide +kernel⟩,
   ⟨st (((u.sf F.NET_STAT_LINK 1 1).sf F.NET_CLASS_KIND 1 1 15).sf F.NET_CLASS_VALUE 0x1234 1 15), 1, ⟨64, true, List.replicate 12 0 ++ pk [(1, 18),
      (1, 52)] ++ [], 5⟩, by decide +kernel⟩,
   ⟨st ((u.sf F.NET_STAT_LINK 1 1)), 1, ⟨64, true, List.replicate 12 0 ++ pk [(1, 18), (1, 52)] ++ [], 5⟩, by decide +kernel⟩,
   ⟨(st ((u.sf F.NET_STAT_LINK 1 1).onNet 1 (fun n => { n with fwIn := [(3, [1])] }))), 1, [1], [], by decide⟩⟩

/-- Every clause of RegisterAccesses that has hypotheses has operands that meet them. -/
theorem wit_RegisterAccesses :
    (∃ (s : State) (a : Nat) (w : RegRow) (i : Nat) (j : Nat), s.live ∧ regAt a = some (w, i, j) ∧ w.rc ≠ 0 ∧ s.m.instOk w.reg i = true ∧
      (∀ p ∈ pairs64, p.1 ≠ w.reg ∧ p.2 ≠ w.reg) ∧ w.reg ≠ R.TIME_NOW_NS)
    ∧ (∃ (s : State) (a : Nat) (w : RegRow) (i : Nat) (j : Nat) (p : Reg × Reg), s.live ∧ regAt a = some (w, i, j) ∧ s.m.instOk w.reg i = true ∧
      w.rc = 0 ∧ w.reg ≠ R.TIME_NOW_NS ∧ p ∈ pairs64 ∧ p.1 = w.reg)
    ∧ (∃ (s : State) (a : Nat) (v : Nat) (pcie : Bool), s.live ∧ v < 2 ^ 32 ∧ a < 0x1000000 ∧ (pcie = true → s.m.d3hot = false) ∧
      s.m.matrixCode (if pcie then 6 else 0) 0 a 4 true = 0)
    ∧ (∃ (s : State) (a : Nat) (v : Nat) (w : RegRow) (i : Nat) (j : Nat), s.live ∧ v < 2 ^ 32 ∧ a < 0x1000000 ∧ regAt a = some (w, i, j) ∧
      s.m.instOk w.reg i = true ∧ 0x500000 ≤ w.reg.base ∧ w.reg.base < 0x600000 ∧ w.reg ≠ R.MATRIX_ERR_CLR ∧ s.m.matrixCode 0 0 a 4 true = 0 ∧
      w.w1c = 0)
    ∧ (∃ (w : RegRow) (v : Nat) (k : Nat), k < 32 ∧ v < 2 ^ 32 ∧ w.rw < 2 ^ 32 ∧ w.rwc < 2 ^ 32) :=
  ⟨⟨(st u), 0x500018, ⟨R.MATRIX_ERRORS, 0x0, 0x0, 0x0, 0x0, 0x0, 0xFFFFFFFF, 0x0⟩, 0, 0, by decide⟩,
   ⟨(st u), 0x380800, ⟨R.TIME_TICK_LO, 0x0, 0xFFFFFFFF, 0x0, 0x0, 0x0, 0x0, 0x0⟩, 0, 0, (R.TIME_TICK_LO, R.TIME_TICK_HI), by decide⟩,
   ⟨(st u), 0xFFFFFC, 0, true, by decide⟩,
   ⟨(st u), 0x500100, 0, ⟨R.MATRIX_MPRI, 0x3, 0x0, 0x0, 0x0, 0x0, 0x0, 0x0⟩, 0, 0, by decide⟩,
   ⟨⟨R.DMA_DONE, 0, 0, 1, 2, 4, 0, 8⟩, 0, 31, by decide⟩⟩

/-- Every clause of RegisterRegionAccesses that has hypotheses has operands that meet them. -/
theorem wit_RegisterRegionAccesses :
    (∃ (a : Nat) (n : Nat), a < 0x1000000 ∧ (n ≠ 4 ∨ a % 4 ≠ 0) ∧ ¬ (0xE01000 ≤ a ∧ a < 0xE02008 ∧ n = 8 ∧ a % 8 = 0))
    ∧ (∃ (s : State) (x : BusTx), s.live ∧ x.ok = true ∧ x.addr < 0x1000000 ∧ 1 ≤ x.len ∧ x.len ≤ 256 ∧ (x.len ≠ 4 ∨ x.addr % 4 ≠ 0) ∧
      ¬ (0xE01000 ≤ x.addr ∧ x.addr < 0xE02008 ∧ x.len = 8 ∧ x.addr % 8 = 0) ∧ (x.master = 6 → s.m.d3hot = false) ∧ s.m.bus.waiting = [] ∧
      s.m.bus.out = [] ∧ s.m.bus.locks = [])
    ∧ (∃ (s : Mach) (a : Nat), s.phase = 6 ∧ s.isolated a = false ∧ 0xE01000 ≤ a ∧ a < 0xE02008 ∧ a % 8 = 0)
    ∧ (∃ (a : Nat), regAt a = none)
    ∧ (∃ (s : State) (a : Nat) (v : Nat) (pcie : Bool), s.live ∧ v < 2 ^ 32 ∧ a < 0x1000000 ∧ regAt a = none ∧
      s.m.matrixCode (if pcie then 6 else 0) 0 a 4 true = 0)
    ∧ (∃ (a : Nat), 0xF00000 ≤ a) :=
  ⟨⟨0xE01004, 8, by decide⟩,
   ⟨(st u), (⟨6, 0, 4, false, 8, [], false, false⟩ : BusTx), by decide⟩,
   ⟨u, 0xE02000, by decide⟩,
   ⟨0xF00000, by decide +kernel⟩,
   ⟨(st u), 0xF00000, 0, false, ⟨by decide, by decide, by decide, by decide +kernel, by decide⟩⟩,
   ⟨0xF00000, by decide⟩⟩

/-- Every clause of RepliesLeaveThePart that has hypotheses has operands that meet them. -/
theorem wit_RepliesLeaveThePart :
    (∃ (s : Mach) (o : Sys2Proof.Origin) (op : Nat) (q : Nat), s.cmd.rel = [] ∧ o.flow = 0 ∧ (o.sess = 255 ∨ (mfind s.cmd.sess o.sess).isSome = true) ∧
      s.tm.ticking = true ∧ answered o op ST.OK = true ∧ o.xport = .pcie q)
    ∧ (∃ (s : Mach) (o : Sys2Proof.Origin) (op : Nat) (ip : Nat) (port : Nat), s.cmd.rel = [] ∧ o.flow = 0 ∧
      (o.sess = 255 ∨ (mfind s.cmd.sess o.sess).isSome = true) ∧ s.tm.ticking = true ∧ answered o op ST.OK = true ∧ o.xport = .udp ip port)
    ∧ (∃ (s : Mach) (o : Sys2Proof.Origin) (st : Nat) (det : Nat) (q : Nat), s.cmd.rel = [] ∧ o.flow = 0 ∧
      (o.sess = 255 ∨ (mfind s.cmd.sess o.sess).isSome = true) ∧ st ≠ ST.OK ∧ st ≠ ST.ACCEPTED ∧ det ≠ openDet ∧ o.xport = .pcie q)
    ∧ (∃ (s : Mach) (o : Sys2Proof.Origin) (op : Nat), s.cmd.rel = [] ∧ o.flow = 0 ∧ (o.sess = 255 ∨ (mfind s.cmd.sess o.sess).isSome = true) ∧
      answered o op ST.OK = false)
    ∧ (∃ (s : Mach) (o : Sys2Proof.Origin), o.sess ≠ 255 ∧ mfind s.cmd.sess o.sess = none)
    ∧ (∃ (sess : Nat) (flow : Nat) (seq : Nat) (op : Nat) (tag : Nat) (last : Bool) (st : Nat) (det : Nat) (tick : Nat) (data : List Byte) (p : List Byte), sess < 256 ∧ flow < 256 ∧ seq < 65536 ∧ op < 65536 ∧ tag < 2 ^ 32 ∧ st < 65536 ∧ det < 65536 ∧ tick < 2 ^ 64 ∧ p = replyPkt sess flow seq op tag last st det tick data ∧ data.length ≤ 4064) :=
  ⟨⟨(u.onTime (fun t => { t with ticking := true })), org, 0, 0, by decide⟩,
   ⟨(u.onTime (fun t => { t with ticking := true })), { org with xport := .udp 1 2 }, 0, 1, 2, by decide⟩,
   ⟨u, org, 5, 0, 0, by decide⟩,
   ⟨u, { org with ack := false }, 0x0102, by decide⟩,
   ⟨u, { org with sess := 3 }, by decide⟩,
   ⟨255, 255, 65535, 65535, 65535, false, 65535, 65535, 0, [], (replyPkt 255 255 65535 65535 65535 false 65535 65535 0 []), ⟨by decide, by decide,
      by decide, by decide, by decide, by decide, by decide, by decide, rfl, by decide⟩⟩⟩

/-- Clauses of ResetSourcesAndBootPhases with hypotheses have operands that meet them. -/
theorem wit_ResetSourcesAndBootPhases_1 :
    (∃ (s : State) (w : Nat), s.m.calmStarts w ∧ s.m.sys.pwrReq = true)
    ∧ (∃ (s : State) (w : Nat) (ns : Nat) (taken : Bool), s.m.calmStarts w ∧ s.live ∧ ((1000 ≤ ns ∨ 200 ≤ ns ∧ taken = true)))
    ∧ (∃ (s : State) (w : Nat), s.m.calmStarts w ∧ s.live ∧ bitOf (s.m.optWord 1024) 4 = false)
    ∧ (∃ (s : State) (w : Nat), s.m.calmStarts w ∧ s.live ∧ bitOf (s.m.optWord 1024) 5 = false)
    ∧ (∃ (s : State) (w : Nat), s.m.calmStarts w ∧ s.live)
    ∧ (∃ (s : State) (w : Nat), s.m.calmStarts w ∧ s.live)
    ∧ (∃ (s : State) (w : Nat), s.m.calmStarts w ∧ s.live ∧ s.m.err.countdown.isSome = true ∧ s.m.sys.hold = none)
    ∧ (∃ (s : State) (w : Nat) (c : Nat) (r : Nat), s.m.calmStarts w ∧ s.live ∧ s.m.sys.ordered = some (c, r) ∧ (c = 4 ∨ c = 5))
    ∧ (∃ (s : State) (w : Nat), s.m.calmStarts w ∧ s.live ∧ s.m.err.deferred = true) :=
  ⟨⟨(st u), 0, by decide⟩,
   ⟨(st u), 0, 200, true, by decide⟩,
   ⟨(st u), 0, by decide⟩,
   ⟨(st u), 0, by decide⟩,
   ⟨(st u), 0, by decide⟩,
   ⟨(st u), 0, by decide⟩,
   ⟨(st { u with err := { ErrSt.init with countdown := some 5 } }), 0, by decide⟩,
   ⟨(st { u with sys := { SysSt.init with ordered := some (5, 0) } }), 0, 5, 0, by decide⟩,
   ⟨(st { u with err := { ErrSt.init with deferred := true } }), 0, by decide⟩⟩

/-- Clauses of ResetSourcesAndBootPhases with hypotheses have operands that meet them. -/
theorem wit_ResetSourcesAndBootPhases_2 :
    (∃ (s : State) (tj : Nat), s.live ∧ s.m.phase < 2 ∧ s.m.on F.SYS_STORM_HOLD = false ∧ s.m.sys.pwrReq = true ∧ s.m.sys.xinLost = false ∧
      ((s.m.sys.tripHold = true → tj ≤ 100)))
    ∧ (∃ (s : State), s.live ∧ s.m.phase = 3)
    ∧ (∃ (s : State), s.live ∧ s.m.phase = 4)
    ∧ (∃ (s : State) (ok0 : Bool) (ok1 : Bool), s.live ∧ s.m.phase = 5 ∧ bits (s.m.optWord 1024) 0 2 ≠ 1 ∧
      (if fld (s.m.mrd (mramBase + 0x3000) 1) 0 1 % 2 = 0 then ok0 else ok1) = true)
    ∧ (∃ (s : State) (v : Nat), s.live ∧ v < 2 ^ 32 ∧ bitOf v 0 = true ∧ s.m.phase = 5 ∧ bits (s.m.optWord 1024) 0 2 ≠ 0) :=
  ⟨⟨(st Mach.reset), 100, by decide⟩,
   ⟨(st (Mach.reset.setPhase 3)), by decide⟩,
   ⟨(st (Mach.reset.setPhase 4)), by decide⟩,
   ⟨(st (Mach.reset.setPhase 5)), true, false, by decide⟩,
   ⟨(st ((Mach.reset.setPhase 5).wr R.SYS_OPT 2 256)), 1, by decide⟩⟩

/-- Every clause of RoutingOpcodes that has hypotheses has operands that meet them. -/
theorem wit_RoutingOpcodes :
    (∃ (s : State) (o : Sys2Proof.Origin) (p : List Byte) (x : Mach × Res), s.takes o ∧ listFits p 32 8 500 ∧ onceEach p 32 8 (fun e => fld e 0 2) ∧
      s.m.timingChk 14 p = none ∧ (∀ e ∈ entriesOf p 32 8, s.m.chanOk (fld e.2 0 2) = true ∧ s.m.selBad 0 (fld e.2 2 2) = none ∧ fld e.2 4 4 ≤ 1) ∧
      s.m.timeRoom p (countOf p 32) ∧ x = s.m.putPlain o 0x0801 (s.m.effOf p) ((entriesOf p 32 8).map (fun e => (K.INSEL, fld e.2 0 2,
      toLE 4 (fld e.2 2 2 + 65536 * fld e.2 4 4)))))
    ∧ (∃ (s : State) (o : Sys2Proof.Origin) (p : List Byte) (x : Mach × Res), s.takes o ∧ listFits p 32 4 1000 ∧ onceEach p 32 4 (fun e => fld e 0 2) ∧
      s.m.timingChk 14 p = none ∧ (∀ e ∈ entriesOf p 32 4, fld e.2 0 2 < 2624 ∧ s.m.selBad 1 (fld e.2 2 2) = none) ∧ s.m.timeRoom p (countOf p 32) ∧
      x = s.m.putPlain o 0x0802 (s.m.effOf p) ((entriesOf p 32 4).map (fun e => (K.OUTSEL, fld e.2 0 2, toLE 4 (fld e.2 2 2)))))
    ∧ (∃ (s : State) (o : Sys2Proof.Origin) (p : List Byte) (x : Mach × Res), s.takes o ∧ listFits p 32 20 16 ∧ onceEach p 32 20 (fun e => fld e 0 2) ∧
      s.m.timingChk 10 p = none ∧ ((∀ e ∈ entriesOf p 32 20, fld e.2 0 2 < 16 ∧ 1 ≤ fld e.2 2 2 ∧ fld e.2 2 2 ≤ 15 ∧
      (bitOf (fld e.2 2 2) 0 = true → fld e.2 4 4 &&& 0xFFFFE0F8 = 0 ∧ genCtrlOk (fld e.2 4 4) = true) ∧
      (bitOf (fld e.2 2 2) 1 = true → fld e.2 8 4 ≤ 0x7FFFFFFF) ∧ (bitOf (fld e.2 2 2) 2 = true → fld e.2 12 4 ≤ 0x100000))) ∧
      s.m.timeRoom p (countOf p 32) ∧ x = s.m.putPlain o 0x0804 (s.m.effOf p) ((entriesOf p 32 20).map (fun e => (K.GEN, fld e.2 0 2, e.2))))
    ∧ (∃ (s : State) (o : Sys2Proof.Origin) (p : List Byte), s.takes o ∧ lenOf p = 36 ∧ pf p 16 1 = 0 ∧ pf p 17 1 ≤ 63 ∧
      ringChk p 64 (ringSizeOk (pf p 28 4)) (s.m.on F.RENDER_PLAY_CTRL_EN (pf p 17 1)) = none)
    ∧ (∃ (s : State) (o : Sys2Proof.Origin) (p : List Byte), s.takes o ∧ lenOf p = 36 ∧ pf p 16 1 = 1 ∧ pf p 17 1 ≤ 63 ∧
      ringChk p 64 (ringSizeOk (pf p 28 4)) (s.m.on F.FEED_CAP_CTRL_EN (pf p 17 1)) = none)
    ∧ (∃ (s : State) (o : Sys2Proof.Origin) (p : List Byte) (b : Bool), s.takes o ∧ lenOf p = 28 ∧ pf p 16 1 = b2n b ∧ pf p 17 1 = 0 ∧ 1 ≤ pf p 20 2 ∧
      pf p 20 2 ≤ 256 ∧ (b = true → pf p 18 2 + pf p 20 2 ≤ 2624) ∧ (b = false → s.m.chansOk (pf p 18 2) (pf p 20 2) = true) ∧ pf p 22 2 = 0)
    ∧ (∃ (s : State) (o : Sys2Proof.Origin) (p : List Byte) (b : Bool), s.takes o ∧ lenOf p = 28 ∧ pf p 16 1 = b2n b ∧ pf p 17 1 = 0 ∧ 1 ≤ pf p 20 2 ∧
      pf p 20 2 ≤ 256 ∧ (b = true → pf p 18 2 + pf p 20 2 ≤ 2624) ∧ (b = false → s.m.chansOk (pf p 18 2) (pf p 20 2) = true) ∧ pf p 22 2 = 0) :=
  ⟨⟨(st u), org, pk [(1, 1), (15, 0), (2, 1), (2, 0), (2, 639), (2, 0), (4, 1)], _, ⟨by decide, by decide, by decide, by decide, by decide, by decide,
      rfl⟩⟩,
   ⟨(st u), org, pk [(1, 1), (15, 0), (2, 1), (2, 0), (2, 2623), (2, 0)], _, ⟨by decide, by decide, by decide, by decide, by decide, by decide, rfl⟩⟩,
   ⟨(st u), org, pk [(1, 1), (15, 0), (2, 1), (2, 0), (2, 15), (2, 7), (4, 0xA00), (4, 0x7FFFFFFF), (4, 0x100000), (4, 0)], _, ⟨by decide, by decide,
      by decide, by decide, by decide, by decide, rfl⟩⟩,
   ⟨(st u), org, pk [(1, 0), (1, 63), (2, 3), (8, 0x1000000), (4, 0x1000)], by decide⟩,
   ⟨(st u), org, pk [(1, 1), (1, 63), (2, 3), (8, 0x1000000), (4, 0x1000)], by decide⟩,
   ⟨(st u), org, pk [(1, 1), (1, 0), (2, 2368), (2, 256), (2, 0)], true, by decide⟩,
   ⟨(st u), org, pk [(1, 0), (1, 0), (2, 512), (2, 128), (2, 0)], false, by decide +kernel⟩⟩

/-- Every clause of SceneOpcodes that has hypotheses has operands that meet them. -/
theorem wit_SceneOpcodes :
    (∃ (s : State) (o : Sys2Proof.Origin) (p : List Byte) (x : Mach × Res), s.takes o ∧ lenOf p = 36 ∧ s.m.timingChk 10 p = none ∧ s.m.timeRoom p 1 ∧
      (((∃ late, s.m.effOf p = .next late ∧ x = s.m.latchPuts o 0x0201 late [⟨rkey K.COMMIT 0, []⟩]) ∨ (∃ t, s.m.effOf p = .time t ∧
      x = s.m.timePuts o 0x0201 t false [⟨rkey K.COMMIT 0, []⟩]))))
    ∧ (∃ (s : State) (o : Sys2Proof.Origin) (p : List Byte) (obs : List Nat) (t : Mach) (img : List Byte), s.takes o ∧ lenOf p = 36 ∧
      s.m.bufChk p 16 = none ∧ pf p 24 4 ≤ maxImage ∧ s.m.bufErr (bufOf p 16) false (obsOn obs 0) = false ∧ t = s.m.bufTouch (bufOf p 16) ∧
      img = s.m.bufRead (bufOf p 16) ∧ fld img 8 4 = pf p 24 4 ∧ t.imageChk true img = none)
    ∧ (∃ (s : State) (o : Sys2Proof.Origin) (p : List Byte), s.takes o ∧ lenOf p = 20)
    ∧ (∃ (s : State) (o : Sys2Proof.Origin) (p : List Byte) (obs : List Nat) (b : Bool) (w : Mach), s.takes o ∧ lenOf p = 40 ∧ pf p 16 1 = b2n b ∧
      pf p 17 1 = 0 ∧ pf p 18 2 < 2048 ∧ s.m.bufChk p 20 = none ∧ imageSize (pf p 18 2) ≤ pf p 28 4 ∧
      s.m.bufErr (bufOf p 20) true (obsOn obs 0) = false ∧ s.m.store (pf p 20 8) (s.m.makeImage (!b) (pf p 18 2)) = (0, w))
    ∧ (∃ (s : State) (o : Sys2Proof.Origin) (p : List Byte), s.takes o ∧ lenOf p = 20)
    ∧ (∃ (s : State) (o : Sys2Proof.Origin) (p : List Byte), s.takes o ∧ lenOf p = 24 ∧ pf p 16 1 ≤ 7 ∧ pf p 17 3 = 0)
    ∧ (∃ (s : State) (o : Sys2Proof.Origin) (p : List Byte), s.takes o ∧ lenOf p = 20) :=
  ⟨⟨(st u), org, pk [(1, 1), (15, 0)], _, ⟨by decide, by decide, by decide, by decide, .inl ⟨false, by decide, rfl⟩⟩⟩,
   ⟨(st (u.mwr 0x1000000 sceneImg)), org, pk [(8, 0x1000000), (4, 64), (4, 0)], [], _, _, ⟨by decide, by decide +kernel, by decide +kernel,
      by decide +kernel, by decide +kernel, rfl, rfl, by decide +kernel, by decide +kernel⟩⟩,
   ⟨(st u), org, [], by decide⟩,
   ⟨(st u), org, pk [(1, 1), (1, 0), (2, 8), (8, 0x1000000), (4, 80), (4, 0)], [], true, _, ⟨by decide, by decide, by decide, by decide, by decide,
      by decide, by decide +kernel, by decide, rfl⟩⟩,
   ⟨(st u), org, [], by decide⟩,
   ⟨(st u), org, pk [(1, 7), (3, 0)], by decide⟩,
   ⟨(st u), org, [], by decide⟩⟩

/-- Every clause of SerialPortConfiguration that has hypotheses has operands that meet them. -/
theorem wit_SerialPortConfiguration :
    (∃ (s : State) (n : Nat) (v : Nat), n < 64 ∧ v < 0x100000000 ∧ s.live ∧ bitOf v 0 = true ∧
      s.m.aspRefuse n (s.m.rd R.ASP_CFG n) (s.m.on F.ASP_CTRL_EN n) = 0)
    ∧ (∃ (s : State) (n : Nat) (v : Nat), n < 64 ∧ v < 0x100000000 ∧ s.live ∧ bitOf v 0 = true ∧
      s.m.aspRefuse n (s.m.rd R.ASP_CFG n) (s.m.on F.ASP_CTRL_EN n) ≠ 0)
    ∧ (∃ (s : State) (n : Nat) (v : Nat), n < 64 ∧ v < 0x100000000 ∧ s.live ∧ bitOf v 0 = false)
    ∧ (∃ (s : State) (n : Nat) (v : Nat), n < 64 ∧ v < 0x100000000 ∧ s.live ∧ bitOf v 0 = true ∧ s.m.on F.ASP_CTRL_EN n = false ∧
      2048 < s.m.aspLoad n + aspWeight (s.m.lv R.ASP_CFG n))
    ∧ (∃ (s : State) (n : Nat) (v : Nat), n < 64 ∧ v < 0x100000000 ∧ s.live ∧ bitOf v 0 = true ∧ s.m.power < 2 ∧ s.m.on F.ASP_STAT_EN n = false ∧
      (s.m.on F.ASP_CTRL_EN n = true ∨ s.m.aspLoad n + aspWeight (s.m.lv R.ASP_CFG n) ≤ 2048))
    ∧ (∃ (s : State) (n : Nat) (v : Nat), n < 64 ∧ v < 0x100000000 ∧ s.live ∧ bitOf v 0 = false ∧ s.m.on F.ASP_STAT_EN n = true)
    ∧ (∃ (s : State) (n : Nat) (v : Nat), n < 64 ∧ v < 0x100000000 ∧ s.live ∧ v < 2 ^ s.m.aspSlots n)
    ∧ (∃ (s : State) (n : Nat) (v : Nat), n < 64 ∧ v < 0x100000000 ∧ s.live ∧ 2 ^ s.m.aspSlots n ≤ v)
    ∧ (∃ (s : State) (b : Nat) (v : Nat), b < 8 ∧ v < 0x100000000 ∧ s.live ∧ bits v 2 2 ≠ 3 ∧ s.m.rd R.ASP_BANK_CFG b = v % 16)
    ∧ (∃ (s : State) (b : Nat) (v : Nat), b < 8 ∧ v < 0x100000000 ∧ s.live ∧ bits v 2 2 ≠ 3 ∧ s.m.rd R.ASP_BANK_CFG b ≠ v % 16)
    ∧ (∃ (s : State) (b : Nat) (v : Nat), b < 8 ∧ v < 0x100000000 ∧ s.live ∧ bits v 2 2 = 3)
    ∧ (∃ (s : State) (n : Nat) (v : Nat), n < 64 ∧ v < 0x100000000 ∧ s.live ∧ bitOf v 0 = true) :=
  ⟨⟨(st ((u.wr R.ASP_CFG 0x21883 63))), 63, 1, by decide⟩,
   ⟨(st (u.wr R.ASP_CFG 0 63)), 63, 1, by decide⟩,
   ⟨(st u), 63, 0, by decide⟩,
   ⟨(st ((List.range 32).foldl (fun s n => (s.setLv R.ASP_CFG 0x40200 n).sf F.ASP_CTRL_EN 1 n) (u.setLv R.ASP_CFG 0x40200 63))), 63, 1,
      by decide +kernel⟩,
   ⟨(st act), 63, 1, by decide⟩,
   ⟨(st ((((u.setLv R.ASP_CFG 0x21883 63).sf F.ASP_STAT_EN 1 63).sf F.ASP_STAT_STATE 2 63).sf F.ASP_STAT_RATE 2 63)), 63, 0, by decide⟩,
   ⟨(st u), 63, 3, by decide⟩,
   ⟨(st u), 63, 4, by decide⟩,
   ⟨(st (u.wr R.ASP_BANK_CFG 5 7)), 7, 5, by decide⟩,
   ⟨(st (u.wr R.ASP_BANK_CFG 5 7)), 7, 1, by decide⟩,
   ⟨(st u), 7, 12, by decide⟩,
   ⟨(st u), 63, 1, by decide⟩⟩

/-- Every clause of SerialPortFramesAndLosses that has hypotheses has operands that meet them. -/
theorem wit_SerialPortFramesAndLosses :
    (∃ (s : State) (n : Nat) (l : List Nat), n < 64 ∧ s.live ∧ l.all (fun w => decide (w < 0x100000000)) = true ∧
      (s.m.aspState n = 0 ∨ s.m.aspState n = 3))
    ∧ (∃ (s : State) (n : Nat) (k : Nat) (l : List Nat), n < 64 ∧ s.live ∧ l.all (fun w => decide (w < 0x100000000)) = true ∧ s.m.aspState n = 1 ∧
      s.m.aspMaster n = false ∧ k ≠ s.m.aspSlots n * bitsOf (s.m.glv F.ASP_CFG_WIDTH n))
    ∧ (∃ (s : State) (n : Nat) (k : Nat) (p : Nat) (l : List Nat), n < 64 ∧ s.live ∧ l.all (fun w => decide (w < 0x100000000)) = true ∧
      s.m.aspState n = 1 ∧ s.m.aspMaster n = false ∧ k = s.m.aspSlots n * bitsOf (s.m.glv F.ASP_CFG_WIDTH n) ∧ s.m.glv F.ASP_CFG_RATE n ≠ 0 ∧
      periodOk p (rateHz (s.m.glv F.ASP_CFG_RATE n)) = true ∧ s.m.on F.ASP_STAT_EN n = true ∧ (s.m.aspSt n).maskWait = none)
    ∧ (∃ (s : State) (n : Nat) (k : Nat) (p : Nat) (l : List Nat), n < 64 ∧ s.live ∧ l.all (fun w => decide (w < 0x100000000)) = true ∧
      s.m.aspState n = 1 ∧ s.m.aspMaster n = false ∧ k = s.m.aspSlots n * bitsOf (s.m.glv F.ASP_CFG_WIDTH n) ∧ s.m.glv F.ASP_CFG_RATE n ≠ 0 ∧
      periodOk p (rateHz (s.m.glv F.ASP_CFG_RATE n)) = false)
    ∧ (∃ (s : State) (n : Nat) (p : Nat) (l : List Nat), n < 64 ∧ s.live ∧ l.all (fun w => decide (w < 0x100000000)) = true ∧ s.m.aspState n = 2 ∧
      periodOk p (rateHz (s.m.gf F.ASP_STAT_RATE n)) = false ∧ 1 ≤ (s.m.aspSt n).badRate)
    ∧ (∃ (s : State) (n : Nat) (k : Nat) (p : Nat) (l : List Nat), n < 64 ∧ s.live ∧ l.all (fun w => decide (w < 0x100000000)) = true ∧
      s.m.aspState n = 2 ∧ s.m.aspMaster n = false ∧ periodOk p (rateHz (s.m.gf F.ASP_STAT_RATE n)) = true ∧
      k ≠ s.m.aspSlots n * bitsOf (s.m.glv F.ASP_CFG_WIDTH n) ∧ 7 ≤ ((s.m.aspSt n).hist.take 63 |>.filter id).length)
    ∧ (∃ (s : State) (n : Nat) (k : Nat) (p : Nat) (l : List Nat) (h : Nat), n < 64 ∧ s.live ∧ l.all (fun w => decide (w < 0x100000000)) = true ∧
      s.m.aspState n = 2 ∧ s.m.aspOut n = false ∧ periodOk p (rateHz (s.m.gf F.ASP_STAT_RATE n)) = true ∧
      k = s.m.aspSlots n * bitsOf (s.m.glv F.ASP_CFG_WIDTH n) ∧ h < 4 ∧ (∀ l ∈ s.m.sys.loops, l.1 ≠ 0 ∨ l.2.2 ≠ n) ∧
      ((s.m.aspSt n).hist.take 63 |>.filter id).length < 8)
    ∧ (∃ (s : State) (n : Nat) (k : Nat) (p : Nat) (l : List Nat) (h : Nat), n < 64 ∧ s.live ∧ l.all (fun w => decide (w < 0x100000000)) = true ∧
      s.m.aspState n = 2 ∧ s.m.aspOut n = false ∧ periodOk p (rateHz (s.m.gf F.ASP_STAT_RATE n)) = true ∧
      k = s.m.aspSlots n * bitsOf (s.m.glv F.ASP_CFG_WIDTH n) ∧ 4 ≤ h ∧ ((s.m.aspSt n).hist.take 63 |>.filter id).length < 8)
    ∧ (∃ (s : Mach) (n : Nat) (c : Nat), n < 64 ∧ c < 8 ∧ s.aspRun n = true ∧ s.on F.ASP_STAT_EN n = true)
    ∧ (∃ (s : State) (n : Nat), n < 64 ∧ s.live ∧ (s.m.aspMaster n = true ∨ s.m.on F.ASP_CTRL_BCW n = true))
    ∧ (∃ (s : State) (n : Nat), n < 64 ∧ s.live ∧ s.m.aspMaster n = false)
    ∧ (∃ (s : State) (n : Nat), n < 64 ∧ s.live)
    ∧ (∃ (s : State) (n : Nat), n < 64 ∧ s.live ∧ s.m.aspState n = 3)
    ∧ (∃ (s : State) (n : Nat), n < 64 ∧ s.live ∧ s.m.aspState n ≠ 3)
    ∧ (∃ (s : State) (n : Nat) (k : Nat), n < 64 ∧ s.live ∧ s.m.aspRun n = true ∧ 0 < k ∧ (s.m.aspSt n).rates = [] ∧ 6400000000000 / k < 2 ^ 32)
    ∧ (∃ (s : State) (b : Nat), b < 8 ∧ s.live ∧ s.m.gf F.ASP_BANK_CFG_SRC b ≠ 3)
    ∧ (∃ (s : State) (b : Nat), b < 8 ∧ s.live ∧ s.m.gf F.ASP_BANK_CFG_SRC b = 3)
    ∧ (∃ (s : State) (b : Nat), b < 8 ∧ s.live)
    ∧ (∃ (s : State) (b : Nat), b < 8 ∧ s.live)
    ∧ (∃ (s : State) (n : Nat) (k : Nat) (p : Nat) (l : List Nat), n < 64 ∧ s.live ∧ l.all (fun w => decide (w < 0x100000000)) = true ∧
      s.m.aspState n = 2 ∧ s.m.aspMaster n = false ∧ periodOk p (rateHz (s.m.gf F.ASP_STAT_RATE n)) = true ∧
      k ≠ s.m.aspSlots n * bitsOf (s.m.glv F.ASP_CFG_WIDTH n) ∧ ((s.m.aspSt n).hist.take 63 |>.filter id).length < 7)
    ∧ (∃ (s : State) (n : Nat) (k : Nat) (p : Nat) (l : List Nat), n < 64 ∧ s.live ∧ l.all (fun w => decide (w < 0x100000000)) = true ∧
      s.m.aspState n = 2 ∧ s.m.aspOut n = true ∧ periodOk p (rateHz (s.m.gf F.ASP_STAT_RATE n)) = true ∧
      k = s.m.aspSlots n * bitsOf (s.m.glv F.ASP_CFG_WIDTH n) ∧ ((s.m.aspSt n).hist.take 63 |>.filter id).length < 8)
    ∧ (∃ (s : State) (n : Nat), n < 64 ∧ s.live ∧ s.m.aspMaster n = false ∧ s.m.on F.ASP_CTRL_BCW n = false)
    ∧ (∃ (s : State) (n : Nat), n < 64 ∧ s.live ∧ s.m.aspMaster n = true)
    ∧ (∃ (s : State) (n : Nat), n < 64 ∧ s.live ∧ s.m.gf F.ASP_BANK_CFG_SRC (n / 8) ≠ 3)
    ∧ (∃ (s : State) (n : Nat), n < 64 ∧ s.live ∧ s.m.gf F.ASP_BANK_CFG_SRC (n / 8) = 3)
    ∧ (∃ (s : State) (n : Nat) (k : Nat), n < 64 ∧ s.live ∧ (s.m.aspRun n = false ∨ k = 0)) :=
  ⟨⟨(st ((((u.setLv R.ASP_CFG 0x21883 63).sf F.ASP_STAT_EN 1 63).sf F.ASP_STAT_STATE 3 63).sf F.ASP_STAT_RATE 2 63)), 63, [1, 2], by decide⟩,
   ⟨(st ((((u.setLv R.ASP_CFG 0x21883 63).sf F.ASP_STAT_EN 1 63).sf F.ASP_STAT_STATE 1 63).sf F.ASP_STAT_RATE 2 63)), 63, 128, [1, 2], by decide⟩,
   ⟨(st ((((u.setLv R.ASP_CFG 0x21883 63).sf F.ASP_STAT_EN 1 63).sf F.ASP_STAT_STATE 1 63).sf F.ASP_STAT_RATE 2 63)), 63, 256, 20833333, [1, 2],
      by decide⟩,
   ⟨(st ((((u.setLv R.ASP_CFG 0x21883 63).sf F.ASP_STAT_EN 1 63).sf F.ASP_STAT_STATE 1 63).sf F.ASP_STAT_RATE 2 63)), 63, 256, 22675736, [1, 2],
      by decide⟩,
   ⟨(st (((((u.setLv R.ASP_CFG 0x21883 63).sf F.ASP_STAT_EN 1 63).sf F.ASP_STAT_STATE 2 63).sf F.ASP_STAT_RATE 2 63).onAsp 63 (fun a => { a with badRate := 1 }))), 63, 22675736, [1, 2], by decide⟩,
   ⟨(st (((((u.setLv R.ASP_CFG 0x21883 63).sf F.ASP_STAT_EN 1 63).sf F.ASP_STAT_STATE 2 63).sf F.ASP_STAT_RATE 2 63).onAsp 63 (fun a => { a with hist := List.replicate 7 true }))), 63, 255, 20833333, [1, 2], by decide⟩,
   ⟨(st (((((u.setLv R.ASP_CFG 0x21883 63).sf F.ASP_STAT_EN 1 63).sf F.ASP_STAT_STATE 2 63).sf F.ASP_STAT_RATE 2 63).onAsp 63 (fun a => { a with hist := List.replicate 7 true }))), 63, 256, 20833333, [1, 2], 0, by decide⟩,
   ⟨(st ((((u.setLv R.ASP_CFG 0x21883 63).sf F.ASP_STAT_EN 1 63).sf F.ASP_STAT_STATE 2 63).sf F.ASP_STAT_RATE 2 63)), 63, 256, 20833333, [1, 2], 4,
      by decide⟩,
   ⟨((((u.setLv R.ASP_CFG 0x21883 63).sf F.ASP_STAT_EN 1 63).sf F.ASP_STAT_STATE 2 63).sf F.ASP_STAT_RATE 2 63), 63, 7, by decide⟩,
   ⟨(st ((((u.setLv R.ASP_CFG 0x2188B 63).sf F.ASP_STAT_EN 1 63).sf F.ASP_STAT_STATE 2 63).sf F.ASP_STAT_RATE 2 63)), 63, by decide⟩,
   ⟨(st u), 63, by decide⟩,
   ⟨(st u), 63, by decide⟩,
   ⟨(st ((((u.setLv R.ASP_CFG 0x21883 63).sf F.ASP_STAT_EN 1 63).sf F.ASP_STAT_STATE 3 63).sf F.ASP_STAT_RATE 2 63)), 63, by decide⟩,
   ⟨(st u), 63, by decide⟩,
   ⟨(st ((((u.setLv R.ASP_CFG 0x21883 63).sf F.ASP_STAT_EN 1 63).sf F.ASP_STAT_STATE 2 63).sf F.ASP_STAT_RATE 2 63)), 63, 133333333, by decide⟩,
   ⟨(st u), 7, by decide⟩,
   ⟨(st (u.sf F.ASP_BANK_CFG_SRC 3 7)), 7, by decide⟩,
   ⟨(st u), 7, by decide⟩,
   ⟨(st u), 7, by decide⟩,
   ⟨(st ((((u.setLv R.ASP_CFG 0x21883 63).sf F.ASP_STAT_EN 1 63).sf F.ASP_STAT_STATE 2 63).sf F.ASP_STAT_RATE 2 63)), 63, 255, 20833333, [1, 2],
      by decide⟩,
   ⟨(st ((((u.setLv R.ASP_CFG 0x21887 63).sf F.ASP_STAT_EN 1 63).sf F.ASP_STAT_STATE 2 63).sf F.ASP_STAT_RATE 2 63)), 63, 256, 20833333, [1, 2],
      by decide⟩,
   ⟨(st u), 63, by decide⟩,
   ⟨(st ((((u.setLv R.ASP_CFG 0x2188B 63).sf F.ASP_STAT_EN 1 63).sf F.ASP_STAT_STATE 2 63).sf F.ASP_STAT_RATE 2 63)), 63, by decide⟩,
   ⟨(st u), 63, by decide⟩,
   ⟨(st (u.sf F.ASP_BANK_CFG_SRC 3 7)), 63, by decide⟩,
   ⟨(st u), 63, 5, by decide⟩⟩

/-- Every clause of SerialPortOpcodes that has hypotheses has operands that meet them. -/
theorem wit_SerialPortOpcodes :
    (∃ (s : State) (o : Sys2Proof.Origin) (p : List Byte), s.takes o ∧ listFits p 16 12 64 ∧ onceEach p 16 12 (fun e => fld e 0 1) ∧
      (∀ x ∈ entriesOf p 16 12, fld x.2 0 1 < 64 ∧ s.m.aspEntryChk x.1 x.2 = none) ∧
      s.m.loadChk (s.m.each (entriesOf p 16 12) (fun t x => t.setLv R.ASP_CFG (aspEntry x.2) (fld x.2 0 1))) = none)
    ∧ (∃ (s : State) (o : Sys2Proof.Origin) (p : List Byte), s.takes o ∧ listFits p 16 8 64 ∧ onceEach p 16 8 (fun e => fld e 0 1) ∧
      (∀ x ∈ entriesOf p 16 8, fld x.2 0 1 < 64 ∧ allZero (slice x.2 1 3) = true ∧ fld x.2 4 4 < 2 ^ s.m.aspSlots (fld x.2 0 1)))
    ∧ (∃ (s : State) (o : Sys2Proof.Origin) (p : List Byte) (t : Mach), s.takes o ∧ listFits p 16 4 64 ∧ onceEach p 16 4 (fun e => fld e 0 1) ∧
      (∀ x ∈ entriesOf p 16 4, fld x.2 0 1 < 64 ∧ fld x.2 1 1 ≤ 1 ∧ allZero (slice x.2 2 2) = true) ∧
      t = s.m.each (entriesOf p 16 4) (fun t x => t.sf F.ASP_CTRL_EN (fld x.2 1 1 % 2) (fld x.2 0 1)) ∧ s.m.loadChk t = none)
    ∧ (∃ (s : State) (o : Sys2Proof.Origin) (p : List Byte), s.takes o ∧ listFits p 16 8 8 ∧ onceEach p 16 8 (fun e => fld e 0 1) ∧
      (∀ x ∈ entriesOf p 16 8, fld x.2 0 1 < 8 ∧ fld x.2 1 1 ≤ 3 ∧ fld x.2 2 2 ∈ [128, 256, 512] ∧ allZero (slice x.2 4 4) = true))
    ∧ (∃ (s : State) (o : Sys2Proof.Origin) (p : List Byte), s.takes o ∧ lenOf p = 24 ∧ pf p 16 1 < 64 ∧ 1 ≤ pf p 17 1 ∧ pf p 16 1 + pf p 17 1 ≤ 64 ∧
      pf p 18 2 = 0) :=
  ⟨⟨(st u), org, pk [(2, 1), (2, 0), (1, 63), (1, 0), (1, 3), (1, 0), (1, 32), (1, 32), (1, 24), (1, 2), (1, 0), (3, 0)], by decide +kernel⟩,
   ⟨(st u), org, pk [(2, 1), (2, 0), (1, 63), (3, 0), (4, 1)], by decide⟩,
   ⟨(st u), org, pk [(2, 1), (2, 0), (1, 63), (1, 1), (2, 0)], _, ⟨by decide, by decide, by decide, by decide, rfl, by decide⟩⟩,
   ⟨(st u), org, pk [(2, 1), (2, 0), (1, 7), (1, 3), (2, 512), (4, 0)], by decide⟩,
   ⟨(st u), org, pk [(1, 63), (1, 1), (2, 0)], by decide⟩⟩

/-- Clauses of SessionAndSystemOpcodes with hypotheses have operands that meet them. -/
theorem wit_SessionAndSystemOpcodes_1 :
    (∃ (s : State) (o : Sys2Proof.Origin) (p : List Byte) (n : Nat), s.takes o ∧ o.sess = 255 ∧ lenOf p = 28 ∧ 256 ≤ pf p 16 2 ∧ pf p 16 2 ≤ 4096 ∧
      pf p 18 2 ≤ 3600 ∧ pf p 20 4 = 0 ∧ (upto 16).find? (fun k => (mfind s.m.cmd.sess k).isNone) = some n)
    ∧ (∃ (s : State) (o : Sys2Proof.Origin) (p : List Byte), s.takes o ∧ lenOf p = 20)
    ∧ (∃ (s : State) (o : Sys2Proof.Origin) (p : List Byte) (i : Nat), s.takes o ∧ o.flow = 0 ∧ lenOf p = 24 ∧ 1 ≤ pf p 16 1 ∧ pf p 17 1 ≤ 7 ∧
      s.m.flowOf o.sess (pf p 16 1) = none ∧ (upto 64).find? (fun k => (mfind s.m.cmd.flows k).isNone) = some i)
    ∧ (∃ (s : State) (o : Sys2Proof.Origin) (p : List Byte) (i : Nat) (f : Flow), s.takes o ∧ o.flow = 0 ∧ lenOf p = 24 ∧ pf p 17 3 = 0 ∧
      s.m.flowOf o.sess (pf p 16 1) = some (i, f)) :=
  ⟨⟨(st u), org, pk [(2, 4096), (2, 3600), (4, 0)], 0, by decide⟩,
   ⟨(st u), org, [], by decide⟩,
   ⟨(st u), org, pk [(1, 255), (1, 7), (2, 9)], 0, by decide⟩,
   ⟨(st { u with cmd := { CmdSt.init with flows := [(5, ⟨255, 9, 0, 0, [], false⟩)] } }), org, pk [(1, 9), (3, 0)], 5, ⟨255, 9, 0, 0, [], false⟩,
      by decide⟩⟩

/-- Clauses of SessionAndSystemOpcodes with hypotheses have operands that meet them. -/
theorem wit_SessionAndSystemOpcodes_2 :
    (∃ (s : State) (o : Sys2Proof.Origin) (p : List Byte), s.takes o ∧ p.length ≤ 4052 ∧ ((o.sess = 255 → p.length ≤ 212)))
    ∧ (∃ (s : State) (o : Sys2Proof.Origin) (p : List Byte), s.takes o ∧ lenOf p = 20)
    ∧ (∃ (s : State) (o : Sys2Proof.Origin) (p : List Byte), s.takes o ∧ lenOf p = 28 ∧ 1 ≤ pf p 20 2 ∧ pf p 20 2 ≤ 64 ∧ pf p 22 2 = 0)
    ∧ (∃ (s : State) (o : Sys2Proof.Origin) (p : List Byte), s.takes o ∧ lenOf p = 24)
    ∧ (∃ (s : State) (o : Sys2Proof.Origin) (p : List Byte), s.takes o ∧ lenOf p = 32 ∧ pf p 16 1 = 0 ∧ pf p 17 3 = 0 ∧ pf p 26 2 = 0)
    ∧ (∃ (s : State) (o : Sys2Proof.Origin) (p : List Byte), s.takes o ∧ lenOf p = 32 ∧ pf p 16 1 = 1 ∧ pf p 17 3 = 0 ∧ pf p 26 2 = 0)
    ∧ (∃ (s : State) (o : Sys2Proof.Origin) (p : List Byte), s.takes o ∧ lenOf p = 28 ∧ pf p 16 1 ≤ 1 ∧ pf p 17 1 = 0 ∧ pf p 22 2 = 0 ∧ 4 ≤ pf p 20 2 ∧
      pf p 20 2 ≤ 4064 ∧ pf p 20 2 % 4 = 0 ∧ pf p 18 2 + pf p 20 2 ≤ 4096) :=
  ⟨⟨(st u), org, List.replicate 212 7, by decide +kernel⟩,
   ⟨(st u), org, [], by decide⟩,
   ⟨(st u), org, pk [(4, 5), (2, 64), (2, 0)], by decide⟩,
   ⟨(st u), org, pk [(4, 5)], by decide⟩,
   ⟨(st u), org, pk [(12, 0)], by decide⟩,
   ⟨(st u), org, pk [(1, 1), (11, 0)], by decide⟩,
   ⟨(st u), org, pk [(1, 1), (1, 0), (2, 4092), (2, 4), (2, 0)], by decide⟩⟩

/-- Every clause of SourcesFailOverAndMove that has hypotheses has operands that meet them. -/
theorem wit_SourcesFailOverAndMove :
    (∃ (s : State) (p : Nat), p < 2 ∧ s.live ∧ (s.m.tm.port p).gm = none)
    ∧ (∃ (s : State) (p : Nat), p < 2 ∧ s.live ∧ (s.m.tm.port p).gm ≠ none ∧ p ≠ s.m.activePort)
    ∧ (∃ (s : State) (p : Nat), p < 2 ∧ s.live ∧ (s.m.tm.port p).gm ≠ none ∧ p = s.m.activePort ∧ s.m.on F.TIME_STAT_FAILING = false ∧
      s.m.hostMode 6 = false ∧ s.m.standbyReady = true)
    ∧ (∃ (s : State) (p : Nat), p < 2 ∧ s.live ∧ (s.m.tm.port p).gm ≠ none ∧ p = s.m.activePort ∧ s.m.on F.TIME_STAT_FAILING = false ∧
      s.m.hostMode 6 = false ∧ s.m.standbyReady = false ∧ (s.m.timeState = 1 ∨ s.m.timeState = 2))
    ∧ (∃ (s : State), s.live ∧ s.m.on F.TIME_STAT_FAILING = true)
    ∧ (∃ (s : State), s.live ∧ s.m.on F.TIME_STAT_FAILING = false)
    ∧ (∃ (s : State), s.live ∧ s.m.activePort < 2 ∧ (s.m.tm.port (1 - s.m.activePort)).gm = none ∧ (s.m.tm.port s.m.activePort).gm.isSome)
    ∧ (∃ (s : Mach) (c : Nat), c < 4 ∧ s.on F.TIME_STAT_STANDBY_SUSPECT = false)
    ∧ (∃ (s : State), s.live ∧ s.m.linkUp 0 = true ∧ s.m.tm.ctrlWait = true ∧ s.m.gf F.TIME_STAT_CTRL_PORT ≠ 0)
    ∧ (∃ (s : State), s.live ∧ (s.m.linkUp 0 = false ∨ s.m.tm.ctrlWait = false))
    ∧ (∃ (s : State) (v : Nat), v < 0x100000000 ∧ s.live ∧ bitOf v 0 = true ∧ s.m.hostMode 6 = true ∧ s.m.on F.TIME_STAT_FAILING = false ∧
      s.m.standbyReady = true)
    ∧ (∃ (s : State) (v : Nat), v < 0x100000000 ∧ s.live ∧ bitOf v 0 = true ∧
      (s.m.hostMode 6 = false ∨ s.m.on F.TIME_STAT_FAILING = true ∨ s.m.standbyReady = false)) :=
  ⟨⟨(st u), 1, by decide⟩,
   ⟨(st (u.onPort 1 (fun t => { t with gm := some ⟨128, 248, 254, 65535, 128, 9, 0⟩ }))), 1, by decide⟩,
   ⟨(st ((((u.onPort 1 (fun t => { t with gm := some ⟨128, 248, 254, 65535, 128, 9, 0⟩, samples := 8 })).onPort 0 (fun t => { t with gm := some ⟨128, 248, 254, 65535, 128, 9, 0⟩ })).wr R.TIME_GM_LO 9).sf F.NET_STAT_LINK 1 1)), 0, by decide⟩,
   ⟨(st ((u.onPort 0 (fun t => { t with gm := some ⟨128, 248, 254, 65535, 128, 9, 0⟩ })).sf F.TIME_STAT_STATE 2)), 0, by decide⟩,
   ⟨(st (u.sf F.TIME_STAT_FAILING 1)), by decide⟩,
   ⟨(st u), by decide⟩,
   ⟨(st (u.onPort 0 (fun t => { t with gm := some ⟨128, 248, 254, 65535, 128, 9, 0⟩ }))), by decide⟩,
   ⟨u, 3, by decide⟩,
   ⟨(st (((u.sf F.NET_STAT_LINK 1 0).sf F.TIME_STAT_CTRL_PORT 2).onTime (fun t => { t with ctrlWait := true }))), by decide⟩,
   ⟨(st u), by decide⟩,
   ⟨(st (((((u.onPort 1 (fun t => { t with gm := some ⟨128, 248, 254, 65535, 128, 9, 0⟩, samples := 8 })).onPort 0 (fun t => { t with gm := some ⟨128, 248, 254, 65535, 128, 9, 0⟩ })).wr R.TIME_GM_LO 9).sf F.NET_STAT_LINK 1 1).sf F.SYS_PLACE_STAT_HOST 64)), 1, by decide⟩,
   ⟨(st u), 1, by decide⟩⟩

/-- The hypotheses of StepTakesTheFrontCommand are met. -/
theorem wit_StepTakesTheFrontCommand :
    (∃ (s : State), s.pending = []) :=
  ⟨(st u), by decide⟩

/-- The state after reset meets both invariants and has a step. -/
theorem wit_StepsKeepTheInvariants : ∃ s t : State, s.queueFits ∧ s.interruptsFormed ∧ step s = .next t :=
  ⟨State.reset, State.reset, by intro c h; exact absurd h (List.not_mem_nil), ⟨by intro k hk; interval_cases k <;> decide, by decide⟩, rfl⟩
/-- So does a state with a command waiting, whose step changes the part. -/
theorem wit_StepsKeepTheInvariants_command : ∃ s t : State, s.queueFits ∧ s.interruptsFormed ∧ step s = .next t ∧ s.pending ≠ [] :=
  ⟨⟨[.tjRead 40], Mach.reset⟩, _, by intro c h; rw [List.mem_singleton.mp h]; rfl, ⟨by intro k hk; interval_cases k <;> decide, by decide⟩, rfl,
      List.cons_ne_nil _ _⟩

/-- Every clause of StreamOpcodes that has hypotheses has operands that meet them. -/
theorem wit_StreamOpcodes :
    (∃ (s : State) (o : Sys2Proof.Origin) (p : List Byte), s.takes o ∧ lenOf p = 44 ∧ s.m.modeAt 2 .imm = true ∧ s.m.strmOn = true ∧ pf p 17 1 ≤ 3 ∧
      1 ≤ pf p 18 1 ∧ pf p 18 1 ≤ 64 ∧ (pf p 19 1 = 2 ∨ pf p 19 1 = 4) ∧ 96 ≤ pf p 30 1 ∧ pf p 30 1 ≤ 127 ∧ pf p 31 1 ≤ 3 ∧
      jitterBad (pf p 31 1) (pf p 32 2) = false ∧ poolChk s.m.inPools (pf p 16 1) (pf p 34 2) (pf p 18 1) 34 = none)
    ∧ (∃ (s : State) (o : Sys2Proof.Origin) (p : List Byte), s.takes o ∧ lenOf p = 76 ∧ ((bitOf (pf p 17 1) 2 = true → s.m.modeAt 2 .imm = false)) ∧
      pf p 17 1 ≤ 7 ∧ 1 ≤ pf p 18 1 ∧ pf p 18 1 ≤ 64 ∧ (pf p 19 1 = 2 ∨ pf p 19 1 = 4) ∧ pf p 28 1 ≤ 3 ∧ pf p 29 3 = 0 ∧ pf p 34 2 = 0 ∧ ((∀ q,
      q < 2 → pf p 18 1 * ptimeSamples (pf p 19 1) (pf p 28 1) * 4 + 40 ≤ s.m.gf F.NET_MTU_BYTES q)) ∧
      poolChk s.m.outPools (pf p 16 1) (pf p 32 2) (pf p 18 1) 32 = none)
    ∧ (∃ (s : State) (o : Sys2Proof.Origin) (p : List Byte), s.takes o ∧ listFits p 16 4 512 ∧ onceEach p 16 4 (fun e => fld e 0 2) ∧
      (∀ x ∈ entriesOf p 16 4, fld x.2 0 1 ≤ 1 ∧ allZero (slice x.2 2 2) = true))
    ∧ (∃ (s : State) (o : Sys2Proof.Origin) (p : List Byte), s.takes o ∧ lenOf p = 24 ∧ 1 ≤ pf p 18 2 ∧ pf p 18 2 ≤ 60 ∧ s.m.hostMode 2 = false)
    ∧ (∃ (s : State) (o : Sys2Proof.Origin) (p : List Byte) (d : DiscSess), s.takes o ∧ lenOf p = 36 ∧ s.m.modeAt 2 .imm = false ∧ s.m.strmOn = true ∧
      pf p 17 1 = 0 ∧ s.m.disc.find? (fun d => d.a.sid == pf p 20 8 && d.sup) = some d ∧
      poolChk s.m.inPools (pf p 16 1) (pf p 18 2) d.a.chans 18 = none ∧ jitterBad d.a.ptime (pf p 28 2) = false ∧ pf p 30 2 = 0)
    ∧ (∃ (s : State) (o : Sys2Proof.Origin) (p : List Byte), s.takes o ∧ lenOf p = 24 ∧ pf p 16 1 = 1 ∧ 1 ≤ pf p 18 2 ∧ pf p 17 1 + pf p 18 2 ≤ 256)
    ∧ (∃ (s : State) (o : Sys2Proof.Origin) (p : List Byte), s.takes o ∧ lenOf p = 24 ∧ pf p 16 1 = 0 ∧ 1 ≤ pf p 18 2 ∧
      pf p 17 1 + pf p 18 2 ≤ 256) :=
  ⟨⟨(st ((u.sf F.STRM_REGION_HI_EN 1).sf F.SYS_PLACE_STAT_HOST 4)), org, pk [(1, 255), (1, 3), (1, 64), (1, 4), (4, 0xEF010101), (4, 0), (2, 5004),
      (1, 127), (1, 3), (2, 2000), (2, 0), (4, 5)], by decide⟩,
   ⟨(st u), org, pk [(1, 255), (1, 7), (1, 8), (1, 2), (4, 0xEF010101), (1, 9), (1, 96), (2, 5004), (1, 0), (3, 0), (2, 0), (2, 0), (4, 5), (32, 7)],
      by decide⟩,
   ⟨(st u), org, pk [(2, 2), (2, 0), (1, 1), (1, 255), (2, 0), (1, 0), (1, 255), (2, 0)], by decide⟩,
   ⟨(st u), org, pk [(2, 0), (2, 60)], by decide⟩,
   ⟨(st { (u.sf F.STRM_REGION_HI_EN 1) with disc := [⟨⟨9, [1], 0xEF010101, 0, 5004, 2, 2, 96, 0, false, true, true, 0⟩, true, 0⟩] }), org, pk [(1,
      255), (1, 0), (2, 510), (8, 9), (2, 250), (2, 0)], ⟨⟨9, [1], 0xEF010101, 0, 5004, 2, 2, 96, 0, false, true, true, 0⟩, true, 0⟩, by decide⟩,
   ⟨(st u), org, pk [(1, 1), (1, 255), (2, 1)], by decide⟩,
   ⟨(st u), org, pk [(1, 0), (1, 255), (2, 1)], by decide⟩⟩

/-- Every clause of StreamsAndDiscovery that has hypotheses has operands that meet them. -/
theorem wit_StreamsAndDiscovery :
    (∃ (s : State) (k : Nat) (q : Nat) (e : Nat), k < 256 ∧ q < 65536 ∧ s.live ∧
      (s.m.strIn k).missing.find? (fun z => z % 65536 == q % 65536) = some e)
    ∧ (∃ (s : State) (k : Nat) (q : Nat), k < 256 ∧ q < 65536 ∧ s.live ∧ (s.m.strIn k).missing.find? (fun z => z % 65536 == q % 65536) = none)
    ∧ (∃ (s : State) (k : Nat), k < 256 ∧ s.live ∧ s.m.gf F.STRM_IN_STAT_STATE k = 2)
    ∧ (∃ (s : State) (k : Nat), k < 256 ∧ s.live ∧ s.m.gf F.STRM_IN_STAT_STATE k ≠ 2)
    ∧ (∃ (s : State) (v : Nat), v < 0x100000000 ∧ s.live ∧ s.m.strmOn = false ∧ bitOf v 31 = true ∧
      s.m.regionOk 2 (s.m.sf F.STRM_REGION_HI_ADDR v).strmBase strmSize = true)
    ∧ (∃ (s : State) (v : Nat), v < 0x100000000 ∧ s.live ∧ s.m.strmOn = true ∧ bitOf v 31 = false ∧ (∀ e ∈ s.m.sin, e.2.en = false))
    ∧ (∃ (s : State) (v : Nat), v < 0x100000000 ∧ s.live ∧ bitOf v 0 = true)
    ∧ (∃ (s : State) (a : Announcement), s.live ∧ s.m.hostMode 2 = false ∧ s.m.disc.find? (fun d => d.a.sid == a.sid) = none)
    ∧ (∃ (s : State) (a : Announcement) (d : DiscSess), s.live ∧ s.m.hostMode 2 = false ∧ s.m.disc.find? (fun d => d.a.sid == a.sid) = some d ∧
      d.a ≠ a)
    ∧ (∃ (s : State), s.live)
    ∧ (∃ (s : State) (k : Nat), k < 256 ∧ s.live ∧ s.m.hostMode 2 = false ∧ (s.m.strOut k).en = true ∧ (s.m.strOut k).announce = true)
    ∧ (∃ (s : State) (k : Nat), k < 256 ∧ s.live ∧ (s.m.hostMode 2 = true ∨ (s.m.strOut k).en = false ∨ (s.m.strOut k).announce = false)) :=
  ⟨⟨(st { u with sin := [(255, { StrIn.off with missing := [131071] })] }), 255, 65535, 131071, by decide⟩,
   ⟨(st u), 255, 65535, by decide⟩,
   ⟨(st (u.sf F.STRM_IN_STAT_STATE 2 255)), 255, by decide⟩,
   ⟨(st u), 255, by decide⟩,
   ⟨(st ((u.setDdr 1).sf F.DDRC_STAT_SIZE 8192)), 0x80000010, by decide⟩,
   ⟨(st (u.sf F.STRM_REGION_HI_EN 1)), 0, by decide⟩,
   ⟨(st u), 1, by decide⟩,
   ⟨(st u), ⟨9, [1], 0xEF010101, 0, 5004, 2, 2, 96, 0, false, true, true, 0⟩, by decide⟩,
   ⟨(st { u with disc := [⟨⟨9, [2], 0xEF010101, 0, 5004, 2, 2, 96, 0, false, true, true, 0⟩, true, 0⟩] }), ⟨9, [1], 0xEF010101, 0, 5004, 2, 2, 96, 0,
      false, true, true, 0⟩, ⟨⟨9, [2], 0xEF010101, 0, 5004, 2, 2, 96, 0, false, true, true, 0⟩, true, 0⟩, by decide⟩,
   ⟨(st u), by decide⟩,
   ⟨(st { u with sout := [(255, { StrOut.off with en := true, announce := true, name := [7] })] }), 255, by decide⟩,
   ⟨(st u), 255, by decide⟩⟩

/-- Clauses of SupplyAgeingAndPlanning with hypotheses have operands that meet them. -/
theorem wit_SupplyAgeingAndPlanning_1 :
    (∃ (s : State), s.live)
    ∧ (∃ (s : State), s.live ∧ s.m.power ≤ 1)
    ∧ (∃ (s : State), s.live ∧ s.m.rend.ibex.busy = true)
    ∧ (∃ (s : State), s.live ∧ s.m.rend.ibex.busy = true ∧ s.m.rend.ibex.avsFail = false ∧ s.m.rend.ibex.fails < 2)
    ∧ (∃ (s : State), s.live ∧ s.m.rend.ibex.busy = true ∧ s.m.rend.ibex.avsFail = false ∧ s.m.rend.ibex.fails = 2)
    ∧ (∃ (s : State) (a : Nat), s.live ∧ s.m.rend.ibex.enterM3 = some a ∧ s.m.rend.ibex.stuck = false ∧ a + 6000 ≤ s.m.tm.tick)
    ∧ (∃ (s : State), s.live ∧ s.m.phase = 6 ∧ s.m.rend.log.day < s.m.rtcNow / 86400)
    ∧ (∃ (s : State), s.live ∧ 1 < s.m.power)
    ∧ (∃ (s : State), s.live ∧ s.m.rend.ibex.busy = true ∧ s.m.rend.ibex.avsFail = true)
    ∧ (∃ (s : State), s.live ∧ s.m.rend.ibex.busy = false)
    ∧ (∃ (s : State), s.live ∧ (s.m.rend.ibex.enterM3 = none ∨ s.m.rend.ibex.stuck = true))
    ∧ (∃ (s : State) (a : Nat), s.live ∧ s.m.rend.ibex.enterM3 = some a ∧ s.m.tm.tick < a + 6000)
    ∧ (∃ (s : State), s.live ∧ (s.m.phase ≠ 6 ∨ s.m.rtcNow / 86400 ≤ s.m.rend.log.day))
    ∧ (∃ (s : State) (v : Nat), v < 0x100000000 ∧ s.live ∧ bitOf v 0 = false) :=
  ⟨⟨(st u), by decide⟩,
   ⟨(st act), by decide⟩,
   ⟨(st { u with rend := { Rend.init with ibex := { IbexSt.init with busy := true } } }), by decide⟩,
   ⟨(st { u with rend := { Rend.init with ibex := { IbexSt.init with busy := true, fails := 1 } } }), by decide⟩,
   ⟨(st { u with rend := { Rend.init with ibex := { IbexSt.init with busy := true, fails := 2 } } }), by decide⟩,
   ⟨(st { { u with tm := { TimeSt.init with tick := 6007 } } with rend := { Rend.init with ibex := { IbexSt.init with enterM3 := some 7 } } }), 7,
      by decide⟩,
   ⟨(st { u with sys := { SysSt.init with rtc := 86400 } }), by decide⟩,
   ⟨(st (u.sf F.SYS_PWR_STAT_STATE 2)), by decide⟩,
   ⟨(st { u with rend := { Rend.init with ibex := { IbexSt.init with busy := true, avsFail := true } } }), by decide⟩,
   ⟨(st u), by decide⟩,
   ⟨(st u), by decide⟩,
   ⟨(st { u with rend := { Rend.init with ibex := { IbexSt.init with enterM3 := some 7 } } }), 7, by decide⟩,
   ⟨(st u), by decide⟩,
   ⟨(st u), 2, by decide⟩⟩

/-- Clauses of SupplyAgeingAndPlanning with hypotheses have operands that meet them. -/
theorem wit_SupplyAgeingAndPlanning_2 :
    (∃ (s : State) (v : Nat), v < 0x100000000 ∧ s.live ∧ bitOf v 0 = true)
    ∧ (∃ (s : State) (v : Nat), v < 0x100000000 ∧ s.live ∧ s.m.rend.ibex.req = none ∧ bitOf v 16 = false)
    ∧ (∃ (s : State) (v : Nat), v < 0x100000000 ∧ s.live ∧ bitOf v 16 = true)
    ∧ (∃ (s : State) (v : Nat) (t : Nat) (e : Bool), v < 0x100000000 ∧ s.live ∧ s.m.rend.ibex.req = some (t, e) ∧ (t = 2 ∨ t = 3) ∧
      bitOf v 16 = false ∧ (bitOf v (t - 2) = true ∨ bitOf v (t + 6) = true))
    ∧ (∃ (s : State), s.live ∧ (s.m.power ≠ 0 ∨ s.m.tm.ticking = false ∨ s.m.phase ≠ 6))
    ∧ (∃ (s : State) (x : Int), s.live ∧ s.m.power = 0 ∧ s.m.tm.ticking = true ∧ s.m.phase = 6 ∧ s.m.rend.ibex.avsFail = false ∧
      s.m.rend.ibex.birthBad = false ∧ s.m.rend.ibex.emerg = false ∧ s.m.on F.FAB_IBEX_CFG_HOLD = false ∧ s.m.rend.ibex.degraded = false ∧
      s.m.rend.ibex.ret = false ∧ s.m.rend.ibex.meas = some x ∧ x < s.m.gf F.FAB_IBEX_CFG_TARGET ∧ s.m.rend.ibex.vdd < 800 ∧ s.m.tierNow < 2) :=
  ⟨⟨(st u), 1, by decide⟩,
   ⟨(st u), 0x303, by decide⟩,
   ⟨(st u), 0x10000, by decide⟩,
   ⟨(st { u with rend := { Rend.init with ibex := { IbexSt.init with req := some (3, true) } } }), 0x200, 3, true, by decide⟩,
   ⟨(st u), by decide⟩,
   ⟨(st { { act with tm := { TimeSt.init with ticking := true } } with rend := { Rend.init with ibex := { IbexSt.init with meas := some (-5), vdd := 799 } } }), -5, by decide⟩⟩

/-- Every clause of ThreadsAndCores that has hypotheses has operands that meet them. -/
theorem wit_ThreadsAndCores :
    (∃ (s : State) (i : Nat) (c : InCmd), s.live ∧ s.m.cmd.pool.find? (fun c => c.o.id == i && c.phase == 1) = some c)
    ∧ (∃ (s : State) (i : Nat), s.live ∧ s.m.cmd.pool.find? (fun c => c.o.id == i && c.phase == 1) = none)
    ∧ (∃ (s : Mach) (g : Nat), s.on F.SCHED_STAT_BACKUP = false ∧ g < 8)
    ∧ (∃ (s : State) (t : Nat), t < 32 ∧ s.live ∧ (s.m.sch.thread t).state ≠ 1 ∧ (s.m.sch.thread t).state ≠ 2)
    ∧ (∃ (s : State) (t : Nat), t < 256 ∧ s.live ∧ ((s.m.sch.thread t).state = 1 ∨ (s.m.sch.thread t).state = 2))
    ∧ (∃ (s : State) (k : Nat) (t : Nat), k < 6 ∧ s.live ∧ mfind s.m.sch.cores k = some t ∧ t < 32 ∧ s.m.sch.ready = [])
    ∧ (∃ (s : State) (k : Nat) (t : Nat), k < 6 ∧ s.live ∧ mfind s.m.sch.cores k = some t ∧ t < 32)
    ∧ (∃ (s : State) (k : Nat) (t : Nat), k < 6 ∧ s.live ∧ mfind s.m.sch.cores k = some t ∧ t < 32 ∧
      s.m.sch.ready.any (fun u => (s.m.sch.thread u).level == (s.m.sch.thread t).level) = true)
    ∧ (∃ (s : State) (k : Nat), k < 6 ∧ s.live ∧ bitOf (s.m.gf F.SCHED_STAT_CORES) k = true ∧ mfind s.m.sch.cores k = none)
    ∧ (∃ (s : State) (k : Nat), k < 6 ∧ s.live ∧ bitOf (s.m.gf F.SCHED_STAT_CORES) k = false) :=
  ⟨⟨(st { u with cmd := { CmdSt.init with pool := [⟨{ org with id := 7, sess := 3, flow := 2, seq := 9 }, 0x0102, [], 0, 0, 1, 4, 20, true, none⟩], flows := [(5, ⟨3, 2, 0, 9, [], false⟩)] } }), 7, ⟨{ org with id := 7, sess := 3, flow := 2, seq := 9 }, 0x0102, [], 0, 0, 1, 4, 20, true, none⟩, by decide⟩,
   ⟨(st u), 0, by decide⟩,
   ⟨u, 7, by decide⟩,
   ⟨(st u), 31, by decide⟩,
   ⟨(st { u with sch := { SchedSt.init with threads := [(255, ⟨2, 20, 0, 1⟩)] } }), 255, by decide⟩,
   ⟨(st { u with sch := { SchedSt.init with threads := [(31, ⟨2, 20, 0, 5⟩)], cores := [(5, 31)] } }), 5, 31, by decide⟩,
   ⟨(st { u with sch := { SchedSt.init with threads := [(31, ⟨2, 20, 0, 5⟩)], cores := [(5, 31)] } }), 5, 31, by decide⟩,
   ⟨(st { u with sch := { SchedSt.init with threads := [(30, ⟨1, 20, 0, 7⟩), (31, ⟨2, 20, 0, 5⟩)], ready := [30], cores := [(5, 31)] } }), 5, 31,
      by decide⟩,
   ⟨(st (u.sf F.SCHED_STAT_CORES 63)), 5, by decide⟩,
   ⟨(st (u.sf F.SCHED_STAT_CORES 0)), 5, by decide⟩⟩

/-- The commands of TimeAndSerialPortFrames have well-formed operands on a part with its rails. -/
theorem wit_TimeAndSerialPortFrames :
    (∃ (s : State) (port : Nat) (seq : Nat) (gm : Nat) (twoStep : Bool) (t1 : Nat) (corr : Int) (t2 : Nat), s.live ∧
      (Instr.ptpSyncReceive port seq gm twoStep t1 corr t2).wellFormed = true)
    ∧ (∃ (s : State) (port : Nat) (seq : Nat) (gm : Nat) (t1 : Nat) (corr : Int), s.live ∧
      (Instr.ptpFollowUpReceive port seq gm t1 corr).wellFormed = true)
    ∧ (∃ (s : State), s.live ∧ (Instr.servoSnapshot).wellFormed = true)
    ∧ (∃ (s : State), s.live ∧ (Instr.standbySilent).wellFormed = true)
    ∧ (∃ (s : State) (port : Nat) (d : GmData), s.live ∧ (Instr.ptpAnnounceReceive port d).wellFormed = true)
    ∧ (∃ (s : State) (port : Nat) (seq : Nat) (t4 : Nat) (t2p : Nat) (t3p : Nat), s.live ∧
      (Instr.ptpDelayRespReceive port seq t4 t2p t3p).wellFormed = true)
    ∧ (∃ (s : State) (port : Nat) (seq : Nat), s.live ∧ (Instr.ptpPdelayReqReceive port seq).wellFormed = true)
    ∧ (∃ (s : State) (port : Nat) (seq : Nat) (t3 : Nat), s.live ∧ (Instr.ptpDelayReqSend port seq t3).wellFormed = true)
    ∧ (∃ (s : State) (port : Nat) (cause : Nat), s.live ∧ (Instr.timeSourceLost port cause).wellFormed = true)
    ∧ (∃ (s : State), s.live ∧ (Instr.failoverTimeout).wellFormed = true)
    ∧ (∃ (s : State), s.live ∧ (Instr.phaseSlewEnd).wellFormed = true)
    ∧ (∃ (s : State), s.live ∧ (Instr.ctrlPortReturn).wellFormed = true)
    ∧ (∃ (s : State), s.live ∧ (Instr.ppsPulse).wellFormed = true)
    ∧ (∃ (s : State) (rising : Bool) (t : Nat), s.live ∧ (Instr.ptpEvtInEdge rising t).wellFormed = true)
    ∧ (∃ (s : State) (v : Nat), s.live ∧ (Instr.timeCommit v).wellFormed = true)
    ∧ (∃ (s : State) (v : Nat), s.live ∧ (Instr.timeAdjGo v).wellFormed = true)
    ∧ (∃ (s : State) (v : Nat), s.live ∧ (Instr.timeFailoverGo v).wellFormed = true)
    ∧ (∃ (s : State) (port : Nat) (v : Nat), s.live ∧ (Instr.txtsPop port v).wellFormed = true)
    ∧ (∃ (s : State) (v : Nat), s.live ∧ (Instr.evtqPop v).wellFormed = true)
    ∧ (∃ (s : State), s.live ∧ (Instr.timeNowNsRead).wellFormed = true)
    ∧ (∃ (s : State), s.live ∧ (Instr.gridLock).wellFormed = true)
    ∧ (∃ (s : State), s.live ∧ (Instr.gridSlewLong).wellFormed = true)
    ∧ (∃ (s : State) (m : Nat) (x : LatStamps), s.live ∧ (Instr.latencyRefresh m x).wellFormed = true)
    ∧ (∃ (s : State) (bank : Nat) (bad : Bool), s.live ∧ (Instr.ioaspBrownOut bank bad).wellFormed = true)
    ∧ (∃ (s : State) (port : Nat) (bitCount : Nat) (ps : Nat) (slots : List Nat) (ph : Int) (held : Nat), s.live ∧
      (Instr.aspFrame port bitCount ps slots ph held).wellFormed = true)
    ∧ (∃ (s : State) (port : Nat) (cause : Nat), s.live ∧ (Instr.aspClockTimeout port cause).wellFormed = true)
    ∧ (∃ (s : State) (port : Nat), s.live ∧ (Instr.aspClockReturn port).wellFormed = true)
    ∧ (∃ (s : State) (port : Nat) (count : Nat), s.live ∧ (Instr.aspRateMeasure port count).wellFormed = true)
    ∧ (∃ (s : State) (bank : Nat) (hz : Nat), s.live ∧ (Instr.aspMclkMeasure bank hz).wellFormed = true)
    ∧ (∃ (s : State) (port : Nat) (v : Nat), s.live ∧ (Instr.aspCommit port v).wellFormed = true)
    ∧ (∃ (s : State) (port : Nat) (v : Nat), s.live ∧ (Instr.aspCtrlWrite port v).wellFormed = true)
    ∧ (∃ (s : State) (port : Nat) (v : Nat) (late : Bool), s.live ∧ (Instr.aspMaskWrite port v late).wellFormed = true)
    ∧ (∃ (s : State) (bank : Nat) (v : Nat), s.live ∧ (Instr.aspBankCfgWrite bank v).wellFormed = true)
    ∧ (∃ (s : State) (port : Nat) (v : Nat), s.live ∧ (Instr.aspCntClr port v).wellFormed = true) :=
  ⟨⟨st u, 0, 0, 0, false, 0, 0, 0, by decide⟩,
   ⟨st u, 0, 0, 0, 0, 0, by decide⟩,
   ⟨st u, by decide⟩,
   ⟨st u, by decide⟩,
   ⟨st u, 0, ⟨0, 0, 0, 0, 0, 0, 0⟩, by decide⟩,
   ⟨st u, 0, 0, 0, 0, 0, by decide⟩,
   ⟨st u, 0, 0, by decide⟩,
   ⟨st u, 0, 0, 0, by decide⟩,
   ⟨st u, 0, 0, by decide⟩,
   ⟨st u, by decide⟩,
   ⟨st u, by decide⟩,
   ⟨st u, by decide⟩,
   ⟨st u, by decide⟩,
   ⟨st u, false, 0, by decide⟩,
   ⟨st u, 0, by decide⟩,
   ⟨st u, 0, by decide⟩,
   ⟨st u, 0, by decide⟩,
   ⟨st u, 0, 0, by decide⟩,
   ⟨st u, 0, by decide⟩,
   ⟨st u, by decide⟩,
   ⟨st u, by decide⟩,
   ⟨st u, by decide⟩,
   ⟨st u, 0, ⟨0, 0, 0⟩, by decide⟩,
   ⟨st u, 0, false, by decide⟩,
   ⟨st u, 0, 0, 0, [], 0, 0, by decide⟩,
   ⟨st u, 0, 0, by decide⟩,
   ⟨st u, 0, by decide⟩,
   ⟨st u, 0, 0, by decide⟩,
   ⟨st u, 0, 0, by decide⟩,
   ⟨st u, 0, 0, by decide⟩,
   ⟨st u, 0, 0, by decide⟩,
   ⟨st u, 0, 0, false, by decide⟩,
   ⟨st u, 0, 0, by decide⟩,
   ⟨st u, 0, 0, by decide⟩⟩

/-- Every clause of TimeOpcodes that has hypotheses has operands that meet them. -/
theorem wit_TimeOpcodes :
    (∃ (s : State) (o : Sys2Proof.Origin) (p : List Byte), s.takes o ∧ lenOf p = 28 ∧ pf p 16 1 ≤ 3 ∧ pf p 17 1 ≤ 127 ∧ pf p 18 1 ≤ 3 ∧
      ((pf p 16 1 = 3 → 2 ≤ pf p 18 1)) ∧ ((∀ k, k < 3 → ((profileLogs (pf p 16 1)).getD k (0, 0)).1 ≤ psf p (19 + k) 1 ∧
      psf p (19 + k) 1 ≤ ((profileLogs (pf p 16 1)).getD k (0, 0)).2)) ∧ pf p 22 2 = 0)
    ∧ (∃ (s : State) (o : Sys2Proof.Origin) (p : List Byte), s.takes o ∧ lenOf p = 20)
    ∧ (∃ (s : State) (o : Sys2Proof.Origin) (p : List Byte), s.takes o ∧ lenOf p = 32 ∧ s.m.modeAt 1 .imm = true ∧ (psf p 16 4).natAbs ≤ 128000000 ∧
      pf p 24 1 ≤ 2 ∧ ((pf p 24 1 = 1 → (psf p 20 4).natAbs ≤ 500000)) ∧ pf p 25 3 = 0)
    ∧ (∃ (s : State) (o : Sys2Proof.Origin) (p : List Byte), s.takes o ∧ lenOf p = 32 ∧ pf p 16 4 ≤ 0x40000 ∧ pf p 20 4 ≤ 0x40000)
    ∧ (∃ (s : State) (o : Sys2Proof.Origin) (p : List Byte), s.takes o ∧ lenOf p = 28 ∧ 40 ≤ pf p 16 2 ∧ pf p 16 2 ≤ 800 ∧ pf p 18 1 ≤ 1 ∧
      pf p 19 1 = 0 ∧ 1 ≤ pf p 20 4 ∧ pf p 20 4 ≤ 1000000)
    ∧ (∃ (s : State) (o : Sys2Proof.Origin) (p : List Byte), s.takes o ∧ listFits p 16 12 4 ∧ onceEach p 16 12 (fun e => fld e 0 1) ∧
      (∀ x ∈ entriesOf p 16 12, fld x.2 0 1 < 4 ∧ fld x.2 1 1 ≤ 1 ∧ allZero (slice x.2 6 2) = true ∧ fld x.2 8 4 &&& 0xFE007C00 = 0 ∧
      (bitOf (fld x.2 8 4) 15 = true → fld x.2 8 4 % 1024 < 128) ∧ (bitOf (fld x.2 8 4) 15 = false → fld x.2 8 4 % 1024 < s.m.variant.objects) ∧
      bits (fld x.2 8 4) 16 9 < s.m.variant.feeds))
    ∧ (∃ (s : State) (o : Sys2Proof.Origin) (p : List Byte), s.takes o ∧ lenOf p = 20)
    ∧ (∃ (s : State) (o : Sys2Proof.Origin) (p : List Byte), s.takes o ∧ lenOf p = 28 ∧ pf p 16 1 ≤ 7 ∧ pf p 17 1 = 0 ∧ 1 ≤ pf p 18 2 ∧
      -500000000 ≤ psf p 20 4 ∧ psf p 20 4 ≤ 499999999)
    ∧ (∃ (s : State) (o : Sys2Proof.Origin) (p : List Byte), s.takes o ∧ lenOf p = 24 ∧ 1 ≤ pf p 16 1 ∧ pf p 16 1 ≤ 16 ∧ pf p 17 3 = 0)
    ∧ (∃ (s : State) (o : Sys2Proof.Origin) (p : List Byte), s.takes o ∧ lenOf p = 20 ∧ s.m.modeAt 6 .imm = true ∧ s.m.on F.TIME_STAT_FAILING = false ∧
      s.m.standbyReady = true) :=
  ⟨⟨(st u), org, pk [(1, 0), (1, 127), (1, 0), (1, 253), (1, 1), (1, 0), (2, 0)], by decide⟩,
   ⟨(st u), org, [], by decide⟩,
   ⟨(st (u.sf F.SYS_PLACE_STAT_HOST 2)), org, pk [(4, 128000000), (4, 500000), (1, 1), (3, 0)], by decide⟩,
   ⟨(st u), org, pk [(4, 0x40000), (4, 0x40000), (4, 7)], by decide⟩,
   ⟨(st u), org, pk [(2, 800), (1, 1), (1, 0), (4, 1000000)], by decide⟩,
   ⟨(st u), org, pk [(2, 1), (2, 0), (1, 3), (1, 1), (2, 0), (2, 0), (2, 0), (4, 0x8000)], by decide⟩,
   ⟨(st u), org, [], by decide⟩,
   ⟨(st u), org, pk [(1, 7), (1, 0), (2, 65535), (4, 499999999)], by decide⟩,
   ⟨(st u), org, pk [(1, 16), (3, 0)], by decide⟩,
   ⟨(st (((((u.onPort 1 (fun t => { t with gm := some ⟨128, 248, 254, 65535, 128, 9, 0⟩, samples := 8 })).sf F.SYS_PLACE_STAT_HOST 64)).wr R.TIME_GM_LO 9).sf F.NET_STAT_LINK 1 1)), org, [], by decide⟩⟩

/-- Every clause of TimeRegisterWritesAndStamps that has hypotheses has operands that meet them. -/
theorem wit_TimeRegisterWritesAndStamps :
    (∃ (s : State) (v : Nat), v < 0x100000000 ∧ s.live ∧ bitOf v 0 = true ∧ profileOk (s.m.rd R.TIME_CFG) (s.m.rd R.TIME_MSG) = true)
    ∧ (∃ (s : State) (v : Nat), v < 0x100000000 ∧ s.live ∧ bitOf v 0 = true ∧ profileOk (s.m.rd R.TIME_CFG) (s.m.rd R.TIME_MSG) = false)
    ∧ (∃ (s : State) (v : Nat), v < 0x100000000 ∧ s.live ∧ bitOf v 31 = true ∧ s.m.hostMode 1 = true ∧
      adjustOk (v % 4) (sext 32 (s.m.rd R.TIME_ADJ_FREQ)) (sext 32 (s.m.rd R.TIME_ADJ_PHASE)) = true)
    ∧ (∃ (s : State) (v : Nat), v < 0x100000000 ∧ s.live ∧ bitOf v 31 = true ∧
      (s.m.hostMode 1 = false ∨ adjustOk (v % 4) (sext 32 (s.m.rd R.TIME_ADJ_FREQ)) (sext 32 (s.m.rd R.TIME_ADJ_PHASE)) = false))
    ∧ (∃ (s : State), s.live)
    ∧ (∃ (s : State), s.live ∧ s.m.on F.TIME_PPS_CFG_PPS_EN = true ∧ s.m.timeState = 2)
    ∧ (∃ (s : State), s.live ∧ (s.m.on F.TIME_PPS_CFG_PPS_EN = false ∨ s.m.timeState ≠ 2))
    ∧ (∃ (s : State) (b : Bool), s.live ∧ s.m.on F.TIME_PPS_CFG_EVT_EN = true ∧ b = !s.m.on F.TIME_PPS_CFG_EVT_FALL ∧ s.m.tm.evtq.length < 16)
    ∧ (∃ (s : State) (b : Bool), s.live ∧ s.m.on F.TIME_PPS_CFG_EVT_EN = true ∧ b = !s.m.on F.TIME_PPS_CFG_EVT_FALL ∧ 16 ≤ s.m.tm.evtq.length)
    ∧ (∃ (s : State) (b : Bool), s.live ∧ (s.m.on F.TIME_PPS_CFG_EVT_EN = false ∨ b = s.m.on F.TIME_PPS_CFG_EVT_FALL))
    ∧ (∃ (s : State) (p : Nat) (v : Nat), p < 2 ∧ v < 0x100000000 ∧ s.live ∧ bitOf v 0 = true)
    ∧ (∃ (s : State) (v : Nat), v < 0x100000000 ∧ s.live ∧ bitOf v 0 = true)
    ∧ (∃ (s : State), s.live) :=
  ⟨⟨(st u), 1, by decide⟩,
   ⟨(st (u.wr R.TIME_CFG 0xFF00)), 1, by decide⟩,
   ⟨(st (u.sf F.SYS_PLACE_STAT_HOST 2)), 0x80000001, by decide⟩,
   ⟨(st (u.sf F.SYS_PLACE_STAT_HOST 2)), 0x80000003, by decide⟩,
   ⟨(st u), by decide⟩,
   ⟨(st ((u.sf F.TIME_PPS_CFG_PPS_EN 1).sf F.TIME_STAT_STATE 2)), by decide⟩,
   ⟨(st u), by decide⟩,
   ⟨(st (u.sf F.TIME_PPS_CFG_EVT_EN 1)), true, by decide⟩,
   ⟨(st ((u.sf F.TIME_PPS_CFG_EVT_EN 1).onTime (fun t => { t with evtq := List.replicate 16 3 }))), true, by decide⟩,
   ⟨(st u), true, by decide⟩,
   ⟨(st u), 1, 1, by decide⟩,
   ⟨(st u), 1, by decide⟩,
   ⟨(st u), by decide⟩⟩

/-- Every clause of TokenAndGridRows that has hypotheses has operands that meet them. -/
theorem wit_TokenAndGridRows :
    (∃ (s : State) (x : TokenObs), s.live ∧ (s.m.advance x.dt).tokensRun = false)
    ∧ (∃ (s : State) (x : TokenObs) (t : Mach), s.live ∧ (s.m.advance x.dt).tokensRun = true ∧ t = (s.m.advance x.dt).endTick ∧ t.tm.gstep = .stopped)
    ∧ (∃ (s : State) (x : TokenObs) (t : Mach), s.live ∧ (s.m.advance x.dt).tokensRun = true ∧ t = (s.m.advance x.dt).endTick ∧ t.tm.gstep = .down)
    ∧ (∃ (s : State) (x : TokenObs) (t : Mach) (u : Mach), s.live ∧ (s.m.advance x.dt).tokensRun = true ∧ t = (s.m.advance x.dt).endTick ∧
      t.tm.gstep ≠ .stopped ∧ t.tm.gstep ≠ .down ∧ u = ((gridSlewLong (gridLock t)).onTime (fun z => { z with gstep := t.tm.gstep.next })).powerToken)
    ∧ (∃ (s : State), s.live ∧ s.m.gf F.TIME_GRID_STAT_STATE = 1 ∧ 64 ≤ s.m.gf F.TIME_GRID_STAT_LOCKRUN)
    ∧ (∃ (s : State), s.live ∧ (s.m.gf F.TIME_GRID_STAT_STATE ≠ 1 ∨ s.m.gf F.TIME_GRID_STAT_LOCKRUN < 64))
    ∧ (∃ (s : State), s.live ∧ 60000 ≤ s.m.tm.overRun ∧ s.m.tm.overSaid = false)
    ∧ (∃ (s : State), s.live ∧ (s.m.tm.overRun < 60000 ∨ s.m.tm.overSaid = true))
    ∧ (∃ (s : State) (x : TokenObs) (t : Mach) (n : Nat), s.live ∧ t = s.m.advance x.dt ∧ n = tickAt t.tm.net ∧ t.tm.gstep = .stopped ∧
      t.tokensRun = true ∧ t.tm.stopAt < n ∧ 65536 * 1000000 ≤ 3 * (t.tm.net - t.tm.stopNet + 1))
    ∧ (∃ (s : State) (x : TokenObs) (t : Mach), s.live ∧ t = s.m.advance x.dt ∧
      (t.tm.gstep ≠ .stopped ∨ t.tokensRun = false ∨ tickAt t.tm.net ≤ t.tm.stopAt ∨ 3 * (t.tm.net - t.tm.stopNet + 1) < 65536 * 1000000)) :=
  ⟨⟨(st u), ⟨100, true, [], []⟩, by decide⟩,
   ⟨(st ((u.setPll 1 3).onTime (fun t => { t with gstep := .stopped }))), ⟨100, true, [], []⟩,
      ((((u.setPll 1 3).onTime (fun t => { t with gstep := .stopped })).advance 100).endTick), ⟨by decide, by decide +kernel, rfl,
      by decide +kernel⟩⟩,
   ⟨(st ((u.setPll 1 3).onTime (fun t => { t with gstep := .down }))), ⟨100, true, [], []⟩,
      ((((u.setPll 1 3).onTime (fun t => { t with gstep := .down })).advance 100).endTick), ⟨by decide, by decide +kernel, rfl, by decide +kernel⟩⟩,
   ⟨(st (u.setPll 1 3)), ⟨100, true, [], []⟩, (((u.setPll 1 3).advance 100).endTick),
      ((gridSlewLong (gridLock (((u.setPll 1 3).advance 100).endTick))).onTime (fun z => { z with gstep := (((u.setPll 1 3).advance 100).endTick).tm.gstep.next })).powerToken, ⟨by decide, by decide +kernel, rfl, by decide +kernel, by decide +kernel, rfl⟩⟩,
   ⟨(st ((u.sf F.TIME_GRID_STAT_STATE 1).sf F.TIME_GRID_STAT_LOCKRUN 64)), by decide⟩,
   ⟨(st u), by decide⟩,
   ⟨(st (u.onTime (fun t => { t with overRun := 60000 }))), by decide⟩,
   ⟨(st u), by decide⟩,
   ⟨(st ((u.setPll 1 3).onTime (fun t => { t with net := 65536 * 1000000, gstep := .stopped, stopAt := 2, stopNet := 0 }))), ⟨100, true, [], []⟩,
      (((u.setPll 1 3).onTime (fun t => { t with net := 65536 * 1000000, gstep := .stopped, stopAt := 2, stopNet := 0 })).advance 100), 6, ⟨by decide,
      rfl, by decide +kernel⟩⟩,
   ⟨(st u), ⟨100, true, [], []⟩, (u.advance 100), ⟨by decide, rfl, by decide +kernel⟩⟩⟩

/-- Every clause of TransmittedFrames that has hypotheses has operands that meet them. -/
theorem wit_TransmittedFrames :
    (∃ (s : State) (p : Nat), p < 2 ∧ s.live ∧ (s.m.linkUp p = false ∨ s.m.on F.NET_STAT_PAUSED p = true ∨ (s.m.netPort p).inflight.isSome))
    ∧ (∃ (s : State) (p : Nat) (q : MediaPkt) (r : List MediaPkt), p < 2 ∧ s.live ∧ s.m.linkUp p = true ∧ s.m.on F.NET_STAT_PAUSED p = false ∧
      (s.m.netPort p).inflight = none ∧ s.m.ptpWait p = 0 ∧ (s.m.netPort p).mediaQ = q :: r ∧ (∀ x ∈ (s.m.netPort p).mediaQ,
      s.m.tm.net < x.launch + s.m.gf F.NET_MEDIA_BUDGET_US p * 1000 * 65536))
    ∧ (∃ (s : State) (p : Nat) (i : Nat) (a : Nat) (k : List Byte) (r : List (Nat × Nat × List Byte)), p < 2 ∧ s.live ∧ s.m.linkUp p = true ∧
      s.m.on F.NET_STAT_PAUSED p = false ∧ (s.m.netPort p).inflight = none ∧ s.m.ptpWait p = 0 ∧ (s.m.netPort p).mediaQ = [] ∧
      s.m.gf F.TIME_STAT_CTRL_PORT = p ∧ s.m.cmd.udpOut = (i, a, k) :: r ∧ s.m.nextLaunch = none)
    ∧ (∃ (s : State) (p : Nat), p < 2 ∧ s.live ∧ (s.m.netPort p).inflight = none)
    ∧ (∃ (s : State) (p : Nat) (f : TxFrame) (u : Bool), p < 2 ∧ s.live ∧ (s.m.netPort p).inflight = some f ∧ f.cls ≠ 3 ∧
      (s.m.macLooped p = false ∨ u = true))
    ∧ (∃ (s : State) (p : Nat) (f : TxFrame), p < 2 ∧ s.live ∧ (s.m.netPort p).inflight = some f ∧ f.cls = 3 ∧ f.tsReq = false ∧ f.ring < 4 ∧
      s.m.macLooped p = false)
    ∧ (∃ (p : Nat) (t : Nat), p < 2 ∧ t < 4)
    ∧ (∃ (s : State) (p : Nat) (t : Nat) (ds : List (Nat × List Byte)) (l : Nat), p < 2 ∧ t < 4 ∧ s.live ∧ s.m.linkUp p = false ∧
      s.m.headFrame p t = some ds ∧ launchOf ds = some l ∧ l ≤ s.m.tm.net)
    ∧ (∃ (s : State) (p : Nat) (t : Nat), p < 2 ∧ t < 4 ∧ s.live ∧ s.m.linkUp p = true ∧ s.m.on F.NET_STAT_PAUSED p = false ∧
      (s.m.netPort p).inflight = none ∧ s.m.ptpWait p = 0 ∧ (s.m.netPort p).mediaQ = [] ∧ s.m.repliesOf p = [] ∧ (s.m.netPort p).fwQ = [] ∧ (∀ u,
      u < t → s.m.headFrame p u = none))
    ∧ (∃ (s : Mach) (p : Nat) (t : Nat) (l : Nat) (ds : List (Nat × List Byte)), s.headFrame p t = some ds ∧ badFrame ds = false ∧
      launchOf ds = some l)
    ∧ (∃ (s : State) (k : Nat), k < 256 ∧ s.live ∧ (s.m.strOut k).en = true ∧
      ptimeSamples (s.m.strOut k).rate (s.m.strOut k).ptime ≤ (s.m.strOut k).buf.length ∧ s.m.on F.TIME_REDUND_DUP_EGRESS = false ∧
      s.m.linkUp 0 = true ∧ s.m.on F.NET_STAT_PAUSED 0 = false ∧ s.m.net0.inflight = none ∧ s.m.net0.mediaQ = [] ∧ s.m.ptpWait 0 = 0)
    ∧ (∃ (s : State) (k : Nat), k < 256 ∧ s.live ∧ (s.m.strOut k).en = true ∧
      ptimeSamples (s.m.strOut k).rate (s.m.strOut k).ptime ≤ (s.m.strOut k).buf.length ∧ s.m.on F.TIME_REDUND_DUP_EGRESS = true ∧
      s.m.linkUp 0 = true ∧ s.m.linkUp 1 = true ∧ s.m.on F.NET_STAT_PAUSED 0 = false ∧ s.m.on F.NET_STAT_PAUSED 1 = true ∧ s.m.net0.inflight = none ∧
      s.m.net0.mediaQ = [] ∧ s.m.ptpWait 0 = 0)
    ∧ (∃ (s : State) (k : Nat), k < 256 ∧ s.live ∧ (s.m.strOut k).en = true ∧
      ptimeSamples (s.m.strOut k).rate (s.m.strOut k).ptime ≤ (s.m.strOut k).buf.length ∧ s.m.on F.TIME_REDUND_DUP_EGRESS = false ∧
      s.m.linkUp 0 = false)
    ∧ (∃ (s : State) (k : Nat), k < 256 ∧ s.live ∧ ((s.m.strOut k).en = false ∨ (s.m.strOut k).buf.length < ptimeSamples (s.m.strOut k).rate (s.m.strOut k).ptime))
    ∧ (∃ (s : State) (p : Nat), p < 2 ∧ s.live)
    ∧ (∃ (s : Mach) (l : Nat) (ds : List (Nat × List Byte)), s.headFrame 1 3 = some ds ∧ badFrame ds = false ∧ launchOf ds = some l ∧ s.tm.net < l ∧
      l ≤ s.tm.net + s.gf F.TIME_LAUNCH_CFG_AHEAD_S * 1000000000 * 65536)
    ∧ (∃ (s : State) (p : Nat) (i : Nat) (d : List Byte) (r : List (Nat × List Byte)), p < 2 ∧ s.live ∧ s.m.linkUp p = true ∧
      s.m.on F.NET_STAT_PAUSED p = false ∧ (s.m.netPort p).inflight = none ∧ s.m.ptpWait p = 0 ∧ (s.m.netPort p).mediaQ = [] ∧ s.m.repliesOf p = [] ∧
      (s.m.netPort p).fwQ = (i, d) :: r ∧ s.m.nextLaunch = none)
    ∧ (∃ (s : State) (p : Nat) (f : TxFrame) (n : Mach), p < 2 ∧ s.live ∧ (s.m.netPort p).inflight = some f ∧ f.cls ≠ 3 ∧ s.m.macLooped p = true ∧
      n = s.m.onNet p (fun n => { n with inflight := none, sent := some f }))
    ∧ (∃ (s : State) (p : Nat) (t : Nat), p < 2 ∧ t < 4 ∧ s.live ∧ s.m.linkUp p = true ∧
      (s.m.on F.NET_STAT_PAUSED p = true ∨ (s.m.netPort p).inflight.isSome ∨ 0 < s.m.ptpWait p ∨ (s.m.netPort p).mediaQ ≠ [] ∨ s.m.repliesOf p ≠ [] ∨ (s.m.netPort p).fwQ ≠ []))
    ∧ (∃ (s : State) (p : Nat), p < 2 ∧ s.live ∧ s.m.linkUp p = true ∧ s.m.on F.NET_STAT_PAUSED p = false ∧ (s.m.netPort p).inflight = none ∧
      (s.m.netPort p).mediaQ = [] ∧ 0 < s.m.ptpWait p) :=
  ⟨⟨(st u), 1, by decide⟩,
   ⟨(st ((u.sf F.NET_STAT_LINK 1 1).onNet 1 (fun n => { n with mediaQ := [⟨4, 9, [1, 2]⟩] }))), 1, ⟨4, 9, [1, 2]⟩, [], by decide⟩,
   ⟨(st { ((u.sf F.NET_STAT_LINK 1 1).sf F.TIME_STAT_CTRL_PORT 1) with cmd := { CmdSt.init with udpOut := [(1, 2, [3])] } }), 1, 1, 2, [3], [],
      by decide⟩,
   ⟨(st u), 1, by decide⟩,
   ⟨(st ((u.sf F.NET_STAT_LINK 1 1).onNet 1 (fun n => { n with inflight := some ⟨1, 0, 0, false, 0, [], 4, none, 0⟩ }))), 1, ⟨1, 0, 0, false, 0, [],
      4, none, 0⟩, false, by decide⟩,
   ⟨(st ((u.sf F.NET_STAT_LINK 1 1).onNet 1 (fun n => { n with inflight := some ⟨3, 3, 1, false, 0, [], 0, none, 0⟩ }))), 1, ⟨3, 3, 1, false, 0, [],
      0, none, 0⟩, by decide⟩,
   ⟨1, 3, by decide⟩,
   ⟨(st ((((((u.sf F.NET_TX_CTRL_EN 1 1 3).sf F.NET_TX_CTRL_SIZE 4 1 3).sf F.NET_TX_BASE_LO_ADDR 0x40000 1 3).wr R.NET_TX_TAIL 1 1 3)).mwr 0x1000000 (pk [(8, 0x2000000), (2, 64), (2, 22), (2, 7), (2, 0), (6, 0), (2, 0), (4, 0), (4, 0)]))), 1, 3, [(0, (pk [(8, 0x2000000), (2, 64), (2, 22), (2, 7), (2, 0), (6, 0), (2, 0), (4, 0), (4, 0)]))], 0, by decide +kernel⟩,
   ⟨(st (u.sf F.NET_STAT_LINK 1 1)), 1, 3, by decide⟩,
   ⟨(((((((u.sf F.NET_STAT_LINK 1 1).sf F.NET_TX_CTRL_EN 1 1 3).sf F.NET_TX_CTRL_SIZE 4 1 3).sf F.NET_TX_BASE_LO_ADDR 0x40000 1 3).wr R.NET_TX_TAIL 1 1 3)).mwr 0x1000000 (pk [(8, 0x2000000), (2, 64), (2, 22), (2, 7), (2, 0), (6, 0), (2, 0), (4, 0), (4, 0)])), 1, 3, 0, [(0, (pk [(8, 0x2000000), (2, 64), (2, 22), (2, 7), (2, 0), (6, 0), (2, 0), (4, 0), (4, 0)]))], by decide +kernel⟩,
   ⟨(st { (((u.sf F.NET_STAT_LINK 1 0).sf F.TIME_REDUND_DUP_EGRESS 0).sf F.NET_STAT_PAUSED 0 1) with sout := [(255, { StrOut.off with en := true, buf := List.replicate 12 [5] })] }), 255, by decide⟩,
   ⟨(st { ((((u.sf F.NET_STAT_LINK 1 0).sf F.NET_STAT_LINK 1 1).sf F.TIME_REDUND_DUP_EGRESS 1).sf F.NET_STAT_PAUSED 1 1) with sout := [(255, { StrOut.off with en := true, buf := List.replicate 12 [5] })] }), 255, by decide⟩,
   ⟨(st { (((u).sf F.TIME_REDUND_DUP_EGRESS 0).sf F.NET_STAT_PAUSED 0 1) with sout := [(255, { StrOut.off with en := true, buf := List.replicate 12 [5] })] }), 255, by decide⟩,
   ⟨(st u), 255, by decide⟩,
   ⟨(st u), 1, by decide⟩,
   ⟨((((((((u.sf F.NET_STAT_LINK 1 1).sf F.NET_TX_CTRL_EN 1 1 3).sf F.NET_TX_CTRL_SIZE 4 1 3).sf F.NET_TX_BASE_LO_ADDR 0x40000 1 3).wr R.NET_TX_TAIL 1 1 3)).mwr 0x1000000 (pk [(8, 0x2000000), (2, 64), (2, 22), (2, 7), (2, 0), (6, 5), (2, 0), (4, 0), (4, 0)])).sf F.TIME_LAUNCH_CFG_AHEAD_S 5), 5 * 1000000000 * 65536, [(0, (pk [(8, 0x2000000), (2, 64), (2, 22), (2, 7), (2, 0), (6, 5), (2, 0), (4, 0), (4, 0)]))], by decide +kernel⟩,
   ⟨(st ((u.sf F.NET_STAT_LINK 1 1).onNet 1 (fun n => { n with fwQ := [(1, [2])] }))), 1, 1, [2], [], by decide⟩,
   ⟨(st { ((u.sf F.NET_STAT_LINK 1 1).onNet 1 (fun n => { n with inflight := some ⟨1, 0, 0, false, 0, [], 4, none, 0⟩ })) with sys := { SysSt.init with loops := [(1, 1, 1)] } }), 1, ⟨1, 0, 0, false, 0, [], 4, none, 0⟩, _, ⟨by decide, by decide, by decide, by decide, by decide, rfl⟩⟩,
   ⟨(st ((u.sf F.NET_STAT_LINK 1 1).sf F.NET_STAT_PAUSED 1 1)), 1, 3, by decide⟩,
   ⟨(st ((u.sf F.NET_STAT_LINK 1 1).onTime (fun t => { t with ptpQ := [(1, 2)] }))), 1, by decide⟩⟩

/-- The commands of TransportAndInterconnectFrames have well-formed operands on a part with its rails. -/
theorem wit_TransportAndInterconnectFrames :
    (∃ (s : State) (tx : BusTx), s.live ∧ (Instr.busRequest tx).wellFormed = true)
    ∧ (∃ (s : State) (target : Nat), s.live ∧ (Instr.busTimeout target).wellFormed = true)
    ∧ (∃ (s : State) (target : Nat), s.live ∧ (Instr.lockBreak target).wellFormed = true)
    ∧ (∃ (s : State) (v : Nat), s.live ∧ (Instr.matrixErrClr v).wellFormed = true)
    ∧ (∃ (s : State), s.live ∧ (Instr.hostCompletionTimeout).wellFormed = true)
    ∧ (∃ (s : State) (chan : Nat) (v : Nat) (pcie : Bool), s.live ∧ (Instr.dmaGo chan v pcie).wellFormed = true)
    ∧ (∃ (s : State) (chan : Nat) (pcie : Bool), s.live ∧ (Instr.dmaCtrlStop chan pcie).wellFormed = true)
    ∧ (∃ (s : State) (chan : Nat) (code : Nat), s.live ∧ (Instr.dmaBurstDone chan code).wellFormed = true)
    ∧ (∃ (s : State) (chan : Nat) (code : Nat), s.live ∧ (Instr.dmaDescFetch chan code).wellFormed = true)
    ∧ (∃ (s : State), s.live ∧ (Instr.dramHoldTimeout).wellFormed = true)
    ∧ (∃ (s : State) (ok : Bool), s.live ∧ (Instr.dramAlert ok).wellFormed = true)
    ∧ (∃ (s : State) (bank : Option Nat), s.live ∧ (Instr.dramRefresh bank).wellFormed = true)
    ∧ (∃ (s : State), s.live ∧ (Instr.dramZqCal).wellFormed = true)
    ∧ (∃ (s : State), s.live ∧ (Instr.dramDqsTrack).wellFormed = true)
    ∧ (∃ (s : State) (hottest : Nat), s.live ∧ (Instr.dramTempRead hottest).wellFormed = true)
    ∧ (∃ (s : State), s.live ∧ (Instr.dramWriteDrain).wellFormed = true)
    ∧ (∃ (s : State) (addr : Nat) (reader : Nat), s.live ∧ (Instr.dramReadComplete addr reader).wellFormed = true)
    ∧ (∃ (s : State), s.live ∧ (Instr.scrubRead).wellFormed = true)
    ∧ (∃ (s : State) (v : Nat), s.live ∧ (Instr.ddrcEccClr v).wellFormed = true)
    ∧ (∃ (s : State) (v : Nat), s.live ∧ (Instr.ddrcCntClr v).wellFormed = true)
    ∧ (∃ (s : State) (v : Nat), s.live ∧ (Instr.ddrcFreqGo v).wellFormed = true)
    ∧ (∃ (s : State) (core : Nat), s.live ∧ (Instr.coreFault core).wellFormed = true)
    ∧ (∃ (s : State) (core : Nat) (cycles : Nat) (stop : Bool), s.live ∧ (Instr.sliceExpire core cycles stop).wellFormed = true)
    ∧ (∃ (s : State) (thread : Nat) (level : Nat), s.live ∧ (Instr.threadReady thread level).wellFormed = true)
    ∧ (∃ (s : State) (q : Nat) (v : Nat), s.live ∧ (Instr.pcieCqTailWrite q v).wellFormed = true)
    ∧ (∃ (s : State) (q : Nat) (err : Bool), s.live ∧ (Instr.pcieDescriptorFetch q err).wellFormed = true)
    ∧ (∃ (s : State) (q : Nat), s.live ∧ (Instr.pcieReplyWrite q).wellFormed = true)
    ∧ (∃ (s : State) (q : Nat) (v : Nat), s.live ∧ (Instr.pcieRqHeadWrite q v).wellFormed = true)
    ∧ (∃ (s : State) (q : Nat) (v : Nat), s.live ∧ (Instr.qpCtrlWrite q v).wellFormed = true)
    ∧ (∃ (s : State) (pkt : List Byte), s.live ∧ (Instr.spiWrite pkt).wellFormed = true)
    ∧ (∃ (s : State) (n : Nat), s.live ∧ (Instr.spiRead n).wellFormed = true)
    ∧ (∃ (s : State), s.live ∧ (Instr.spiStatus).wellFormed = true)
    ∧ (∃ (s : State) (flow : Nat), s.live ∧ (Instr.gapTimeout flow).wellFormed = true)
    ∧ (∃ (s : State) (sess : Nat), s.live ∧ (Instr.sessionIdleTimeout sess).wellFormed = true)
    ∧ (∃ (s : State) (id : Nat) (cycles : Nat), s.live ∧ (Instr.commandProcessingEnd id cycles).wellFormed = true) :=
  ⟨⟨st u, ⟨6, 0, 0x1000000, false, 4, [], false, false⟩, by decide⟩,
   ⟨st u, 0, by decide⟩,
   ⟨st u, 0, by decide⟩,
   ⟨st u, 0, by decide⟩,
   ⟨st u, by decide⟩,
   ⟨st u, 0, 0, false, by decide⟩,
   ⟨st u, 0, false, by decide⟩,
   ⟨st u, 0, 0, by decide⟩,
   ⟨st u, 0, 0, by decide⟩,
   ⟨st u, by decide⟩,
   ⟨st u, false, by decide⟩,
   ⟨st u, none, by decide⟩,
   ⟨st u, by decide⟩,
   ⟨st u, by decide⟩,
   ⟨st u, 0, by decide⟩,
   ⟨st u, by decide⟩,
   ⟨st u, 0, 0, by decide⟩,
   ⟨st u, by decide⟩,
   ⟨st u, 0, by decide⟩,
   ⟨st u, 0, by decide⟩,
   ⟨st u, 0, by decide⟩,
   ⟨st u, 0, by decide⟩,
   ⟨st u, 0, 0, false, by decide⟩,
   ⟨st u, 0, 0, by decide⟩,
   ⟨st u, 0, 0, by decide⟩,
   ⟨st u, 0, false, by decide⟩,
   ⟨st u, 0, by decide⟩,
   ⟨st u, 0, 0, by decide⟩,
   ⟨st u, 0, 0, by decide⟩,
   ⟨st u, [], by decide⟩,
   ⟨st u, 0, by decide⟩,
   ⟨st u, by decide⟩,
   ⟨st u, 0, by decide⟩,
   ⟨st u, 0, by decide⟩,
   ⟨st u, 0, 0, by decide⟩⟩

/-- Every clause of WakeResetsAndTestPort that has hypotheses has operands that meet them. -/
theorem wit_WakeResetsAndTestPort :
    (∃ (s : State), s.m.sys.armWake = true ∧ s.m.power = 3 ∧ s.m.sys.pwrReq = false)
    ∧ (∃ (s : State), s.m.sys.alarm.isSome = true ∧ s.m.power = 3 ∧ s.m.sys.pwrReq = false)
    ∧ (∃ (s : State), s.m.sys.armWake = true ∧ s.m.power = 3 ∧ s.m.sys.pwrReq = false)
    ∧ (∃ (s : State) (b : Nat), s.m.sys.heldWake = some b ∧ b < 2)
    ∧ (∃ (s : State) (v : Nat), s.live ∧ v < 2 ^ 32 ∧ bitOf v 31 = true ∧ v % 16 ≤ 9)
    ∧ (∃ (s : State) (v : Nat) (p : Bool), s.live ∧ v < 2 ^ 32 ∧ bitOf v 31 = true ∧ ((9 < v % 16 ∨ p = true ∧ v % 16 = 8)))
    ∧ (∃ (s : State) (b : Nat), s.live ∧ b < 10 ∧ s.m.inReset b = true)
    ∧ (∃ (s : State) (g : Nat) (w : Nat), s.live ∧ 2 ≤ s.m.phase ∧ s.m.linkPcie = false ∧ 1 ≤ g ∧ g ≤ 4 ∧ (w = 1 ∨ w = 2 ∨ w = 4))
    ∧ (∃ (s : State), s.live ∧ s.m.linkPcie = true)
    ∧ (∃ (s : State), s.live ∧ s.m.linkPcie = true)
    ∧ (∃ (c : Nat), c < 256 ∧ (c = 1 ∨ c = 2 ∨ c = 0x30))
    ∧ (∃ (c : Nat), c < 256 ∧ (c = 0 ∨ c = 3 ∨ c = 4))
    ∧ (∃ (s : State) (a : Nat) (w : Bool), a < 2 ^ 21 ∧ s.m.sys.jtag.ir = 0x30 ∧ s.m.sys.jtag.busy = false ∧
      ((s.m.sys.resetLow = true ∨ s.m.phase = 1)) ∧ jtagOk w (4 * a) = true)
    ∧ (∃ (s : State) (d : Word) (a : Nat), s.m.sys.jtag.op = some (true, a, d))
    ∧ (∃ (s : State) (d : Word) (a : Nat), s.m.sys.jtag.op = some (false, a, d))
    ∧ (∃ (s : State) (a : Nat) (w : Bool), a < 2 ^ 21 ∧ s.m.sys.jtag.ir = 0x30 ∧ (s.m.sys.jtag.busy = true ∨ (s.m.sys.resetLow = false ∧
      s.m.phase ≠ 1) ∨ jtagOk w (4 * a) = false))
    ∧ (∃ (c : Nat), c < 256 ∧ c ∉ [0, 1, 2, 3, 4, 0x30]) :=
  ⟨⟨(st { (u.sf F.SYS_PWR_STAT_STATE 3) with sys := { SysSt.init with armWake := true, pwrReq := false } }), by decide⟩,
   ⟨(st { (u.sf F.SYS_PWR_STAT_STATE 3) with sys := { SysSt.init with alarm := some 5, pwrReq := false } }), by decide⟩,
   ⟨(st { (u.sf F.SYS_PWR_STAT_STATE 3) with sys := { SysSt.init with armWake := true, pwrReq := false } }), by decide⟩,
   ⟨(st { u with sys := { SysSt.init with heldWake := some 1 } }), 1, by decide⟩,
   ⟨(st u), 0x80000009, by decide⟩,
   ⟨(st u), 0x80000008, true, by decide⟩,
   ⟨(st (u.sf F.SYS_BLK_RST_STAT_BLOCKS 0x200)), 9, by decide⟩,
   ⟨(st u), 4, 4, by decide⟩,
   ⟨(st (u.sf F.PCIE_STAT_LINK_UP 1)), by decide⟩,
   ⟨(st (u.sf F.PCIE_STAT_LINK_UP 1)), by decide⟩,
   ⟨0x30, by decide⟩,
   ⟨4, by decide⟩,
   ⟨(st { u with sys := { SysSt.init with resetLow := true, jtag := { JtagSt.init with ir := 0x30 } } }), 0x7FF, true, by decide⟩,
   ⟨(st { u with sys := { SysSt.init with jtag := { JtagSt.init with op := some (true, 4, 7) } } }), (7 : Word), 4, by decide⟩,
   ⟨(st { u with sys := { SysSt.init with jtag := { JtagSt.init with op := some (false, 4, 7) } } }), (7 : Word), 4, by decide⟩,
   ⟨(st { u with sys := { SysSt.init with resetLow := true, jtag := { JtagSt.init with ir := 0x30 } } }), 0x1FFFFF, true, by decide⟩,
   ⟨5, by decide⟩⟩

/-- Every clause of WellFormedCommandsComplete that has hypotheses has operands that meet them. -/
theorem wit_WellFormedCommandsComplete :
    (∃ c : Instr, c.wellFormed = true)
    ∧ (∃ c : Instr, c.wellFormed = false) :=
  ⟨⟨.routeXfadeEnd 3263, by decide⟩,
   ⟨.routeXfadeEnd 3264, by decide⟩⟩

end Sys2Proof.Tests
end

section
/-! SUPPORT. What a breach of a latency monitor leaves behind: the record of an occurrence on an empty ring (R536, R537), and the
registers a refresh writes (R48, R49). -/
namespace Sys2Proof.Machine

/-! ## Updates of registers alone -/

/-- Two register families of equal strides and different bases never share an address at equal indices. -/
theorem Reg.at_ne_of_base_ne {r q : Reg} (i j : Nat) (h1 : r.s1 = q.s1) (h2 : r.s2 = q.s2) (h : r.base ≠ q.base) :
    r.at_ i j ≠ q.at_ i j := by
  simp only [Reg.at_, h1, h2]
  omega

theorem Mach.rd_wr_of_base_ne (s : Mach) {r q : Reg} (v i j : Nat) (h1 : r.s1 = q.s1) (h2 : r.s2 = q.s2) (h : r.base ≠ q.base) :
    (s.wr r v i j).rd q i j = s.rd q i j := Mach.rd_wr_ne s v (Reg.at_ne_of_base_ne i j h1 h2 h)

theorem Mach.rd_sf_of_base_ne (s : Mach) {f : Fld} {q : Reg} (v i j : Nat) (h1 : f.reg.s1 = q.s1) (h2 : f.reg.s2 = q.s2)
    (h : f.reg.base ≠ q.base) : (s.sf f v i j).rd q i j = s.rd q i j := Mach.rd_sf_ne s v (Reg.at_ne_of_base_ne i j h1 h2 h)

/-- A one-bit field set to a truth value reads as that value. -/
theorem Mach.on_sf_b2n_self (s : Mach) (f : Fld) (b : Bool) (i j : Nat) (hlen : f.len = 1) (h : f.lo + f.len ≤ 32) :
    (s.sf f (b2n b) i j).on f i j = b := by
  rw [Mach.on, Mach.gf_sf_self _ _ _ _ _ h, hlen]
  cases b <;> rfl

theorem Mach.errorsOnly_live {s t : Mach} (h : s.errorsOnly t) : t.live = s.live := by
  obtain ⟨-, hlive, -⟩ := h
  exact hlive

theorem Mach.errorsOnly_rend {s t : Mach} (h : s.errorsOnly t) : t.rend = s.rend := by
  obtain ⟨-, -, -, -, -, -, -, -, -, -, -, -, -, -, -, -, -, -, -, hrend, -⟩ := h
  exact hrend

theorem Mach.registersOnly_refl (s : Mach) : s.registersOnly s := ⟨Mach.errorsOnly_refl s, rfl⟩

/-- The same change of the time base on both sides leaves the difference one of registers. -/
theorem Mach.registersOnly_onTime {s t : Mach} (f : TimeSt → TimeSt) (h : s.registersOnly t) :
    (s.onTime f).registersOnly (t.onTime f) := by
  simp only [Mach.registersOnly, Mach.errorsOnly] at h ⊢
  simp [h]

/-! ## An occurrence on an empty ring (R537) -/

@[simp] theorem Mach.recEvt_err (s : Mach) (n : Nat) : (s.recEvt n).err = s.err :=
  Mach.when_keeps (fun t => t.err = s.err) _ _ s id rfl

@[simp] theorem Mach.when_evt_err (s : Mach) (c : Bool) (f : Fld) : (s.when c (·.evt f)).err = s.err :=
  Mach.when_keeps (fun t => t.err = s.err) c _ s id rfl

@[simp] theorem Mach.enterSafe_slots (s : Mach) : s.enterSafe.err.slots = s.err.slots := by
  unfold Mach.enterSafe
  split <;> rfl

/-- Handling starts from the queues, and the ring stands. -/
@[simp] theorem ErrSt.start_slots (e : ErrSt) : e.start.slots = e.slots := by
  unfold ErrSt.start
  split <;> dsimp only <;> split <;> rfl

theorem mergeSlot_of_empty (s : Mach) (code sev src : Nat) (h : s.err.slots = []) : mergeSlot s code sev src = none := by
  simp [mergeSlot, h]

/-- With the ring empty, an ERROR or FATAL record goes to the first reserved slot. -/
theorem placeSlot_nil (now : Nat) {sev : Nat} (h : 2 ≤ sev) : placeSlot now [] sev = some 48 := by
  simp [placeSlot, h, show emptySlot [] 48 16 = some 48 from rfl]

/-- Entering the safe state where a condition holds leaves the ring alone. -/
@[simp] theorem Mach.when_enterSafe_slots (s : Mach) (c : Bool) : (s.when c Mach.enterSafe).err.slots = s.err.slots :=
  Mach.when_keeps (fun t => t.err.slots = s.err.slots) c _ s (fun _ => s.enterSafe_slots) rfl

/-- An occurrence that merges with no record and finds slot k puts a record of its own there. -/
theorem Mach.raise_slots_of_new (s : Mach) (c : ECode) (inst arg k : Nat)
    (hmerge : mergeSlot (s.step32 R.ERR_SEQ) c.code c.sev (srcOf c.blk inst) = none)
    (hplace : placeSlot (s.rd R.ERR_SEQ) s.err.slots c.sev = some k) :
    ∃ r : ErrRec, (s.raise c inst arg).err.slots = mput s.err.slots k r ∧ r.code = c.code ∧ r.sev = c.sev
      ∧ r.src = srcOf c.blk inst := by
  unfold Mach.raise
  simp only [hmerge, hplace, Mach.step32_err, Mach.when_enterSafe_slots, ErrSt.start_slots, apply_ite ErrSt.slots, ite_self,
    Mach.when_evt_err, Mach.recEvt_err]
  exact ⟨_, rfl, rfl, rfl, rfl⟩

/-- An ERROR or FATAL occurrence on an empty ring is the ring's one record, with its code, severity and source. -/
theorem Mach.raise_slots_of_empty (s : Mach) (c : ECode) (inst arg : Nat) (h : s.err.slots = []) (hsev : 2 ≤ c.sev) :
    ∃ r : ErrRec, (s.raise c inst arg).err.slots = [(48, r)] ∧ r.code = c.code ∧ r.sev = c.sev ∧ r.src = srcOf c.blk inst := by
  have hnew := s.raise_slots_of_new c inst arg 48 (mergeSlot_of_empty _ _ _ _ h) (by rw [h, placeSlot_nil _ hsev])
  rwa [h] at hnew

/-! ## A refresh of a latency monitor (R48, R49) -/

/-- The kept sample of monitor k is used up. -/
def Mach.unmark (t : Mach) (k : Nat) : Mach := t.onTime (fun z => { z with marks := mdel z.marks k })

@[simp] theorem Mach.unmark_rd (t : Mach) (k : Nat) (r : Reg) (i j : Nat) : (t.unmark k).rd r i j = t.rd r i j := rfl

/-- RATIO of a pass-through over the floor in force, in units of 1/1024. -/
def Mach.latRatio (t : Mach) (k pass : Nat) : Nat := Nat.min 65535 (pass * 1024 / Nat.max 1 (t.rd R.TIME_LAT_FLOOR k))

/-- Is a pass-through above 1.25 times the floor in force, of a chain whose ratio counts (R49)? -/
def Mach.latBreach (t : Mach) (k pass : Nat) : Bool :=
  !t.on F.TIME_LAT_STAT_BELOW_MIN k && decide (5 * t.rd R.TIME_LAT_FLOOR k < 4 * pass)

/-- What a refresh makes of monitor k: its sample with programmed delay p is used up, and PASS, PROG, RATIO, VALID and BREACH
are written. -/
def Mach.measured (t : Mach) (k pass : Nat) (p : Rat) : Mach :=
  (((((t.unmark k).wr R.TIME_LAT_PASS (pass % 2 ^ 32) k).wr R.TIME_LAT_PROG (samplesNs p % 2 ^ 32) k).sf
    F.TIME_LAT_RATIO_Q10 (t.latRatio k pass) k).sf F.TIME_LAT_STAT_VALID 1 k).sf F.TIME_LAT_STAT_BREACH (b2n (t.latBreach k pass)) k

/-- FLOOR and the flags are registers. -/
theorem Mach.latFloor_registersOnly (s : Mach) (k : Nat) : s.registersOnly (s.latFloor k) := by
  unfold Mach.latFloor
  split
  · exact s.registersOnly_refl
  · simp only []
    split <;> exact s.registersOnly_refl

@[simp] theorem Mach.latFloor_glv (s : Mach) (k : Nat) (f : Fld) (i j : Nat) : (s.latFloor k).glv f i j = s.glv f i j := by
  simp only [Mach.glv, Mach.lv, Mach.errorsOnly_live (s.latFloor_registersOnly k).1]

theorem Mach.measured_registersOnly {s t : Mach} (k pass : Nat) (p : Rat) (h : s.registersOnly t) :
    (s.unmark k).registersOnly (t.measured k pass p) := Mach.registersOnly_onTime _ h

@[simp] theorem Mach.measured_breach (t : Mach) (k pass : Nat) (p : Rat) :
    (t.measured k pass p).on F.TIME_LAT_STAT_BREACH k = t.latBreach k pass :=
  Mach.on_sf_b2n_self _ F.TIME_LAT_STAT_BREACH _ k 0 rfl (by decide)

@[simp] theorem Mach.measured_floor (t : Mach) (k pass : Nat) (p : Rat) :
    (t.measured k pass p).rd R.TIME_LAT_FLOOR k = t.rd R.TIME_LAT_FLOOR k := by
  simp (disch := decide) only [Mach.measured, Mach.rd_sf_of_base_ne, Mach.rd_wr_of_base_ne, Mach.unmark_rd]

@[simp] theorem Mach.measured_pass (t : Mach) (k pass : Nat) (p : Rat) :
    (t.measured k pass p).rd R.TIME_LAT_PASS k = pass % 2 ^ 32 := by
  simp (disch := decide) only [Mach.measured, Mach.rd_sf_of_base_ne, Mach.rd_wr_of_base_ne, Mach.rd_wr_self, Nat.mod_mod]

/-- The registers of a latency monitor lie below the error block. -/
theorem latReg_below (r : Reg) {k : Nat} (hk : k < 4) (h1 : r.s1 = 0x40) (hb : r.base < 0x400000) : r.at_ k 0 < 0xD00000 := by
  simp only [Reg.at_, h1]
  omega

/-- A refresh of an enabled monitor with a supported chain and a kept sample: the measured registers, and LATENCY_BREACH on a
breach. -/
theorem latencyRefresh_of_measured {s t : Mach} {k inp out q : Nat} {p : Rat} (hk : k < 4) (ht : t = s.latFloor k)
    (hen : s.glv F.TIME_LAT_SINK_EN k = 1) (hpath : t.on F.TIME_LAT_STAT_NO_PATH k = false)
    (habs : t.on F.TIME_LAT_STAT_ABSENT k = false) (hsup : t.on F.TIME_LAT_STAT_UNSUPPORTED k = false)
    (hmark : t.markOf k = some p) :
    latencyRefresh k inp out q s =
      if t.latBreach k (t.passOf k inp out q p) then
        (t.measured k (t.passOf k inp out q p) p).raise E.LATENCY_BREACH k (t.latRatio k (t.passOf k inp out q p))
      else t.measured k (t.passOf k inp out q p) p := by
  have hen' : t.glv F.TIME_LAT_SINK_EN k = 1 := by rw [ht, Mach.latFloor_glv, hen]
  unfold latencyRefresh
  rw [if_neg (by omega), ← ht]
  simp only [hen', hpath, habs, hsup, hmark]
  rfl

/-- The part's step is the refresh itself, for each of the four monitors. -/
theorem exec_latencyRefresh {s : State} {k : Nat} (x : LatStamps) (hk : k < 4) (hlive : s.live) :
    exec (.latencyRefresh k x) s = .next (s.gives (latencyRefresh k x.inp x.out x.q s.m)) := by
  show take (decide (k < 4)) _ s = _
  rw [decide_eq_true hk]
  exact take_live _ s hlive

/-- Settles O25: a refresh with a breach writes the monitor's registers and then raises the record, and a record raised on an empty
ring is the ring's only one. -/
theorem latencyBreachIsRaised : Obligations.LatencyBreachIsRaised := by
  unfold Obligations.LatencyBreachIsRaised
  refine ⟨?_, ⟨rfl, rfl⟩, ?_⟩
  · intro s k inp out q p t hk hlive ht hen hpath habs hsup hmark hmin hpass hover
    have hreg : s.m.registersOnly t := ht ▸ s.m.latFloor_registersOnly k
    have hbreach : t.latBreach k (t.passOf k inp out q p) = true := by simp [Mach.latBreach, hmin, hover]
    have hwrites := Mach.measured_registersOnly k (t.passOf k inp out q p) p hreg
    have hframe := Mach.raise_frame E.LATENCY_BREACH k (t.latRatio k (t.passOf k inp out q p)) hwrites.1
    refine ⟨_, t.measured k (t.passOf k inp out q p) p, t.latRatio k (t.passOf k inp out q p), ?_, rfl, hwrites,
      ?_, ?_, ?_, ?_, ?_⟩
    · rw [exec_latencyRefresh _ hk hlive, latencyRefresh_of_measured hk ht hen hpath habs hsup hmark, if_pos hbreach]
    · rw [Mach.on, Mach.raise_gf _ _ _ _ _ _ _ (latReg_below _ hk rfl (by decide)), ← Mach.on, Mach.measured_breach, hbreach]
    · rw [Mach.raise_rd _ _ _ _ _ _ _ (latReg_below _ hk rfl (by decide)), Mach.measured_floor]
    · rw [Mach.raise_rd _ _ _ _ _ _ _ (latReg_below _ hk rfl (by decide)), Mach.measured_pass, Nat.mod_eq_of_lt hpass]
    · exact (Mach.errorsOnly_rend hframe).trans (s.m.onTime_rend _)
    · exact (Mach.errorsOnly_live hframe).trans (s.m.onTime_live _)
  · intro s k arg hempty
    obtain ⟨r, hslots, hcode, hsev, hsrc⟩ := s.raise_slots_of_empty E.LATENCY_BREACH k arg hempty (by decide)
    exact ⟨r, by rw [hslots]; rfl, hcode, hsev, hsrc⟩

end Sys2Proof.Machine
end

section
/-! SUPPORT. The dirty marks of the scene stage: what clearing them leaves, and what a scene commit does without them (R301,
R303). -/
namespace Sys2Proof.Machine

/-- A packet of another length is refused, with the length asked for as DETAIL (R262, R266). -/
theorem lenIs_bad {p : List Byte} {n : Nat} (h : lenOf p ≠ n) : lenIs p n = some (Res.fail ST.BAD_LENGTH n) := by
  simp [lenIs, failIf, h]

/-! ## Clearing the marks -/

/-- Every record of the stage with its dirty mark cleared, and nothing else changed (R303). -/
def Mach.clearMarks (s : Mach) : Mach :=
  s.onRend (fun q => { q with recs := q.recs.map (fun e => (e.1, { e.2 with dirty := false })) })

theorem Mach.clearMarks_clean (s : Mach) : ∀ e ∈ s.clearMarks.rend.recs, e.2.dirty = false := by
  intro e he
  obtain ⟨_, _, rfl⟩ := List.mem_map.mp he
  rfl

/-- Clearing the marks of records that carry none leaves them as they are. -/
theorem map_unmarked_of_clean {l : SMap Rec} (h : ∀ e ∈ l, e.2.dirty = false) :
    l.map (fun e => (e.1, { e.2 with dirty := false })) = l :=
  (List.map_congr_left fun e he => by rw [← h e he]; rfl).trans (List.map_id l)

theorem filter_dirty_of_clean {l : SMap Rec} (h : ∀ e ∈ l, e.2.dirty = false) : l.filter (fun e => e.2.dirty) = [] :=
  List.filter_eq_nil_iff.mpr fun e he => by simp [h e he]

/-! ## SCN_DISCARD and the commit after it -/

/-- SCN_DISCARD of the right length clears the marks and answers how many there were (R303). -/
theorem opScnDiscard_of_length (o : Origin) {p : List Byte} (obs : List Nat) (s : Mach) (h : lenOf p = 20) :
    opScnDiscard o p obs s = (s.clearMarks, Res.ok (toLE 4 (s.rend.recs.filter (fun e => e.2.dirty)).length)) := by
  rw [opScnDiscard, lenIs_ok h, guard_none]
  rfl

theorem opScnDiscard_of_bad_length (o : Origin) {p : List Byte} (obs : List Nat) (s : Mach) (h : lenOf p ≠ 20) :
    opScnDiscard o p obs s = (s, Res.fail ST.BAD_LENGTH 20) := by
  rw [opScnDiscard, lenIs_bad h, guard_some]

/-- A scene commit on a stage without marks records its tick and does nothing else (R301, R303). -/
theorem Mach.sceneCommit_of_clean {s : Mach} (t : Nat) (h : ∀ e ∈ s.rend.recs, e.2.dirty = false) :
    (s.sceneCommit t).2 = s.onRend (fun q => { q with commitTick := some t }) := by
  simp only [Mach.sceneCommit, filter_dirty_of_clean h, Mach.each_nil, Mach.onRend, map_unmarked_of_clean h]

/-- Settles O26: the discard's own equation by length, and a commit that finds no mark changes only its tick. -/
theorem discardClearsTheDirtyMarks : Obligations.DiscardClearsTheDirtyMarks := by
  unfold Obligations.DiscardClearsTheDirtyMarks
  refine ⟨?_, ?_, ?_⟩
  · intro s o p obs htakes hlen
    have hbody := opScnDiscard_of_length o obs s.m hlen
    exact ⟨s.m.clearMarks, issue_takes htakes (by decide) hbody, rfl, s.m.clearMarks_clean⟩
  · intro s o p obs htakes hlen
    exact issue_takes htakes (by decide) (opScnDiscard_of_bad_length o obs s.m hlen)
  · intro s t hclean
    rw [Mach.sceneCommit_of_clean t hclean]
    exact ⟨rfl, rfl⟩

end Sys2Proof.Machine
end

section
/-! SUPPORT. A read of a register without effects of its own, and the latch of the seconds by a read of TIME.NOW_NS (R10, R11,
R436). -/
namespace Sys2Proof.Machine

/-! ## Reads of registers outside the 64-bit pairs (R10, R11) -/

theorem Mach.word_lt (s : Mach) (r : Reg) (i j : Nat) : s.word r i j < 2 ^ 32 := Nat.mod_lt _ (by decide)

/-- Every instance of a register below the fabric exists on every variant: the registers a variant may lack lie in the fabric,
the renderer and the feeds (R5). -/
theorem Mach.instOk_of_below_fabric (s : Mach) {r : Reg} (i : Nat) (h : r.base < 0x700000) : s.instOk r i = true := by
  have absent (q : Reg) (hq : 0x700000 ≤ q.base) : r ≠ q := fun e => absurd h (by rw [e]; omega)
  simp (disch := decide) [Mach.instOk, absent]

/-- A register that is no word of a 64-bit pair, with no write-only bit and no bit that a read clears, answers its word; only
NOW_NS latches. -/
theorem Mach.regRead_of_plain (s : Mach) {a i j : Nat} {w : RegRow} (hrow : regAt a = some (w, i, j))
    (hinst : s.instOk w.reg i = true) (hhi : pairs64.find? (fun p => p.2 == w.reg) = none)
    (hlo : pairs64.find? (fun p => p.1 == w.reg) = none) (hrc : w.rc = 0) (hwo : w.wo = 0) :
    s.regRead a = (s.word w.reg i j, if w.reg = R.TIME_NOW_NS then timeNowNsRead s else s) := by
  have hall : s.word w.reg i j &&& 0xFFFFFFFF = s.word w.reg i j := by
    rw [show (0xFFFFFFFF : Nat) = 2 ^ 32 - 1 from rfl, Nat.and_two_pow_sub_one_eq_mod, Nat.mod_eq_of_lt (s.word_lt ..)]
  simp [Mach.regRead, hrow, hinst, hhi, hlo, hrc, hwo, hall]

/-! ## The three words of network time (R436) -/

/-- NOW_NS shows the nanoseconds of network time as they run. -/
theorem Mach.word_nowNs (s : Mach) : s.word R.TIME_NOW_NS = s.tm.netNs % 1000000000 := by
  have h : s.tm.netNs % 1000000000 < 1000000000 := Nat.mod_lt _ (by decide)
  exact Nat.mod_eq_of_lt (by omega : s.tm.netNs % 1000000000 < 2 ^ 32)

/-- The two words of the seconds show what was latched. -/
theorem Mach.word_nowSecLo (s : Mach) : s.word R.TIME_NOW_SEC_LO = s.rd R.TIME_NOW_SEC_LO := Nat.mod_eq_of_lt (s.rd_lt ..)

theorem Mach.word_nowSecHi (s : Mach) : s.word R.TIME_NOW_SEC_HI = s.rd R.TIME_NOW_SEC_HI := Nat.mod_eq_of_lt (s.rd_lt ..)

theorem Mach.regRead_nowNs (s : Mach) : s.regRead 0x380018 = (s.tm.netNs % 1000000000, timeNowNsRead s) := by
  have hrow : regAt 0x380018 = some (⟨R.TIME_NOW_NS, 0x0, 0x3FFFFFFF, 0x0, 0x0, 0x0, 0x0, 0x0⟩, 0, 0) := by decide +kernel
  rw [s.regRead_of_plain hrow (s.instOk_of_below_fabric _ (by decide)) (by decide) (by decide) rfl rfl, if_pos rfl,
    Mach.word_nowNs]

theorem Mach.regRead_nowSecLo (s : Mach) : s.regRead 0x38001C = (s.rd R.TIME_NOW_SEC_LO, s) := by
  have hrow : regAt 0x38001C = some (⟨R.TIME_NOW_SEC_LO, 0x0, 0xFFFFFFFF, 0x0, 0x0, 0x0, 0x0, 0x0⟩, 0, 0) := by decide +kernel
  rw [s.regRead_of_plain hrow (s.instOk_of_below_fabric _ (by decide)) (by decide) (by decide) rfl rfl, if_neg (by decide),
    Mach.word_nowSecLo]

theorem Mach.regRead_nowSecHi (s : Mach) : s.regRead 0x380020 = (s.rd R.TIME_NOW_SEC_HI, s) := by
  have hrow : regAt 0x380020 = some (⟨R.TIME_NOW_SEC_HI, 0x0, 0xFFFF, 0x0, 0x0, 0x0, 0x0, 0x0⟩, 0, 0) := by decide +kernel
  rw [s.regRead_of_plain hrow (s.instOk_of_below_fabric _ (by decide)) (by decide) (by decide) rfl rfl, if_neg (by decide),
    Mach.word_nowSecHi]

/-! ## The latch (R436) -/

theorem timeNowNsRead_secLo (s : Mach) : (timeNowNsRead s).rd R.TIME_NOW_SEC_LO = s.tm.netNs / 1000000000 % 2 ^ 32 := by
  rw [timeNowNsRead, Mach.rd_wr_ne _ _ (by decide), Mach.rd_wr_self, Nat.mod_mod]

theorem timeNowNsRead_secHi (s : Mach) :
    (timeNowNsRead s).rd R.TIME_NOW_SEC_HI = s.tm.netNs / 1000000000 / 2 ^ 32 % 2 ^ 16 := by
  rw [timeNowNsRead, Mach.rd_wr_self, Nat.mod_mod_of_dvd' (Nat.pow_dvd_pow 2 (by decide))]

/-- The part's step is the latch itself. -/
theorem exec_timeNowNsRead {s : State} (hlive : s.live) : exec .timeNowNsRead s = .next (s.gives (timeNowNsRead s.m)) :=
  take_live timeNowNsRead s hlive

/-- Settles O13: the read answers the running nanoseconds and latches the seconds; the two words of the seconds are registers,
which a later time state does not reach. -/
theorem nowReadsAreOneInstant : Obligations.NowReadsAreOneInstant := by
  unfold Obligations.NowReadsAreOneInstant
  refine ⟨?_, ?_, fun _ => rfl, ?_⟩
  · intro s
    rw [Mach.regRead_nowNs]
  · intro s later
    simp only [Mach.regRead_nowNs, Mach.regRead_nowSecLo, Mach.regRead_nowSecHi]
    exact ⟨timeNowNsRead_secLo s, timeNowNsRead_secHi s⟩
  · intro s hlive
    rw [Mach.regRead_nowNs, exec_timeNowNsRead hlive]

end Sys2Proof.Machine
end

section
/-! SUPPORT. The step and the invariants: what a command of either form answers, and the interrupts it leaves formed (R544 to R546). -/
namespace Sys2Proof.Machine

/-! ## Commands that are taken -/

/-- A well-formed command on a part with its rails gives what its function makes of the part. -/
theorem take_gives {ok : Bool} {f : Mach → Mach} {s : State} {m : Mach} (hlive : s.live) (hok : ok = true) (hf : f s.m = m) :
    take ok f s = .next (s.gives m) := by
  subst hok hf
  exact take_live f s hlive

/-- A well-formed command that needs no rails gives what its function makes of the part. -/
theorem takeAlways_gives {ok : Bool} {f : Mach → Mach} {s : State} {m : Mach} (hok : ok = true) (hf : f s.m = m) :
    takeAlways ok f s = .next (s.gives m) := by
  subst hok hf
  rfl

/-- What a command answers: the queue as it was, and a part that is the one it was given or has its interrupts formed anew. -/
theorem exec_next (c : Instr) (s : State) :
    ∃ t, exec c s = .next t ∧ t.pending = s.pending ∧ (t.m = s.m ∨ c.wellFormed = true ∧ ∃ m : Mach, t.m = m.fin) := by
  obtain ⟨f, hf | hf⟩ := exec_form c s
  · refine ⟨_, hf, ?_⟩
    obtain ⟨hq, hm⟩ := take_next (t := if !c.wellFormed || s.m.sys.railsOff then s else { s with m := (f s.m).fin }) rfl
    refine ⟨hq, ?_⟩
    by_cases hno : c.wellFormed = false ∨ s.m.sys.railsOff = true
    · exact .inl (by rw [hm, if_pos hno])
    · refine .inr ⟨by simpa using (not_or.mp hno).1, f s.m, ?_⟩
      rw [hm, if_neg hno]
  · refine ⟨_, hf, ?_⟩
    obtain ⟨hq, hm⟩ := takeAlways_next (t := if c.wellFormed then { s with m := (f s.m).fin } else s) rfl
    refine ⟨hq, ?_⟩
    by_cases hok : c.wellFormed = true
    · exact .inr ⟨hok, f s.m, by rw [hm, if_pos hok]⟩
    · exact .inl (by rw [hm, if_neg hok])

/-- A command that names no unit of the part changes nothing. -/
theorem exec_of_not_wellFormed {c : Instr} (s : State) (h : c.wellFormed = false) : exec c s = .next s := by
  obtain ⟨f, hf | hf⟩ := exec_form c s <;> rw [hf, h] <;> rfl

/-- Settles O1: both clauses are the step's own equations. -/
theorem stepTakesTheFrontCommand : Obligations.StepTakesTheFrontCommand := by
  unfold Obligations.StepTakesTheFrontCommand
  refine ⟨fun c s => step_cons c s.pending s.m, fun s hempty => ?_⟩
  obtain ⟨q, m⟩ := s
  cases (show q = [] from hempty)
  exact step_nil m

/-- Settles O4, by the two forms in which a command is taken. -/
theorem wellFormedCommandsComplete : Obligations.WellFormedCommandsComplete := by
  unfold Obligations.WellFormedCommandsComplete
  refine fun s c => ⟨fun _ => ?_, exec_of_not_wellFormed s⟩
  obtain ⟨t, ht, hq, -⟩ := exec_next c s
  exact ⟨t, ht, hq⟩

/-! ## The interrupts -/

/-- IRQ_N is the pin's alone: no source of interrupts reads it. -/
theorem Mach.settle_srcPend (s : Mach) (k : Nat) (hk : k < 50) : s.settle.srcPend k = s.srcPend k :=
  srcPend_settled s.settle_frame k hk

/-- Whatever a command made of the part, its end forms the interrupts. -/
theorem interruptsFormed_of_fin {t : State} {m : Mach} (h : t.m = m.fin) : t.interruptsFormed := by
  have hfin : m.fin = m.loadsRun.lockWatch.powerCheck.closeDone.settle := rfl
  rw [State.interruptsFormed, h, hfin]
  exact ⟨fun k hk => by rw [Mach.settle_was _ k hk, Mach.settle_srcPend _ k hk], Mach.settle_irq _⟩

/-- A command keeps the interrupts formed: it changes nothing, or ends by forming them anew. -/
theorem exec_keeps_interruptsFormed {c : Instr} {s t : State} (hs : s.interruptsFormed) (h : exec c s = .next t) :
    t.interruptsFormed := by
  obtain ⟨u, hu, -, hm⟩ := exec_next c s
  obtain rfl : u = t := by
    rw [hu] at h
    injection h
  rcases hm with hsame | ⟨-, m, hfin⟩
  · rwa [State.interruptsFormed, hsame]
  · exact interruptsFormed_of_fin hfin

/-- Settles O3: the queue only loses its front, and every command that changes the part ends by forming the interrupts. -/
theorem stepsKeepTheInvariants : Obligations.StepsKeepTheInvariants := by
  unfold Obligations.StepsKeepTheInvariants
  rintro ⟨q, m⟩ t hqueue hirq hstep
  cases q with
  | nil =>
    rw [step_nil] at hstep
    injection hstep with hstep
    subst hstep
    exact ⟨hqueue, hirq⟩
  | cons c rest =>
    rw [step_cons] at hstep
    obtain ⟨u, hu, hq, -⟩ := exec_next c ⟨rest, m⟩
    obtain rfl : u = t := by
      rw [hu] at hstep
      injection hstep
    refine ⟨?_, exec_keeps_interruptsFormed (s := ⟨rest, m⟩) hirq hstep⟩
    intro d hd
    rw [hq] at hd
    exact hqueue d (List.mem_cons_of_mem c hd)

/-! ## The reset state -/

/-- Right after reset no source is pending and none was. -/
theorem reset_pend (k : Nat) (hk : k < 50) : Mach.reset.wasPend k = Mach.reset.srcPend k := by
  revert k
  decide +kernel

/-- Settles O2: every component of the reset state is given by its definition. -/
theorem resetState : Obligations.ResetState := by
  unfold Obligations.ResetState
  refine ⟨fun r i j => ?_, rfl, rfl, rfl, rfl, rfl, by decide, by decide, rfl, rfl, rfl, rfl, rfl, rfl, ?_, memory_wf_reset,
    reset_pend, by decide +kernel⟩
  · simp [Mach.rd, Mach.reset]
  · intro c hc
    exact absurd hc List.not_mem_nil

end Sys2Proof.Machine
end

section
/-! SUPPORT. The boot phase under updates of other registers (R520), and the sources of a whole reset (R510 to R516). -/
namespace Sys2Proof.Machine

/-! ## The boot phase -/

/-- A write above SYS.BOOT_STAT leaves the phase alone. -/
theorem Mach.phase_wr (s : Mach) {r : Reg} (v i j : Nat) (h : R.SYS_BOOT_STAT.at_ 0 0 < r.base) : (s.wr r v i j).phase = s.phase :=
  Mach.gf_wr_below s v i j 0 0 h

theorem Mach.phase_wr_ne (s : Mach) {r : Reg} (v : Nat) {i j : Nat} (h : r.at_ i j ≠ R.SYS_BOOT_STAT.at_ 0 0) :
    (s.wr r v i j).phase = s.phase := Mach.gf_wr_ne (g := F.SYS_BOOT_STAT_PHASE) s v h

theorem Mach.phase_sf (s : Mach) {f : Fld} (v i j : Nat) (h : R.SYS_BOOT_STAT.at_ 0 0 < f.reg.base) :
    (s.sf f v i j).phase = s.phase := Mach.phase_wr s _ i j h

theorem Mach.phase_raise (s : Mach) (c : ECode) (i a : Nat) : (s.raise c i a).phase = s.phase :=
  s.raise_gf c i a F.SYS_BOOT_STAT_PHASE 0 0 (by decide)

/-- What is read of the registers stands while they stand. -/
theorem Mach.rd_of_regs {s t : Mach} (h : t.regs = s.regs) (r : Reg) (i j : Nat) : t.rd r i j = s.rd r i j := by
  simp only [Mach.rd, h]

theorem Mach.gf_of_regs {s t : Mach} (h : t.regs = s.regs) (f : Fld) (i j : Nat) : t.gf f i j = s.gf f i j := by
  simp only [Mach.gf, Mach.rd_of_regs h]

theorem Mach.phase_of_regs {s t : Mach} (h : t.regs = s.regs) : t.phase = s.phase := Mach.gf_of_regs h _ 0 0

theorem Mach.phase_free (s : Mach) (n : Nat) : Mach.phase { s with free := n } = s.phase := rfl

theorem Mach.setPhase_phase (s : Mach) {n : Nat} (h : n < 8) : (s.setPhase n).phase = n := by
  rw [Mach.phase, Mach.setPhase, Mach.gf_sf_self _ _ _ _ _ (by decide)]
  exact Nat.mod_eq_of_lt h

/-! ## Loading an option page (R519, R520) -/

theorem Mach.setPll_phase (s : Mach) (p st : Nat) : (s.setPll p st).phase = s.phase := by
  unfold Mach.setPll
  simp only []
  split <;> simp (disch := decide) only [Mach.phase_sf]

theorem Mach.relock_phase (s : Mach) (p : Nat) : (s.relock p).phase = s.phase := by
  unfold Mach.relock Mach.tryBand
  split
  · rw [Mach.bandFail, Mach.phase_of_regs (Mach.onPll_regs ..), Mach.phase_raise, Mach.evt, Mach.phase_sf _ _ _ _ (by decide),
      Mach.setPll_phase]
  · rw [Mach.phase_of_regs (Mach.onPll_regs ..), Mach.phase_sf _ _ _ _ (by decide), Mach.setPll_phase]

/-- Loading a PLL's section writes registers of the clock block, which lie above the boot status. -/
theorem Mach.loadPll_phase (s : Mach) (l : List Byte) (p : Nat) : (s.loadPll l p).phase = s.phase := by
  unfold Mach.loadPll
  simp only []
  rw [Mach.relock_phase]
  refine Mach.each_keeps (fun t => t.phase = s.phase) _ ?_ _ _ (Mach.each_keeps (fun t => t.phase = s.phase) _ ?_ _ _ ?_)
  · intro t e ht
    simp (disch := decide) only [Mach.phase_wr, ht]
  · intro t e ht
    simp (disch := decide) only [Mach.phase_wr, Mach.phase_of_regs (Mach.setLv_regs ..), ht]
  · simp (disch := decide) only [Mach.phase_wr, Mach.phase_of_regs (Mach.setLv_regs ..)]

/-- The page that P1 picked is the loaded one, and the part is in P2: what P1 still loads lies at other registers. -/
theorem Mach.loadPage_phase (s : Mach) (k : Nat) (l : List Byte) (v : Nat) : (s.loadPage k l v).phase = 2 := by
  unfold Mach.loadPage
  extract_lets _ _ _ _ picked start plls banks ids pcie
  have hstart : start.phase = 2 := Mach.setPhase_phase picked (by decide)
  have hplls : plls.phase = 2 :=
    Mach.each_keeps (fun t => t.phase = 2) _ (fun t p ht => (t.loadPll_phase l p).trans ht) _ _ hstart
  have hbanks : banks.phase = 2 :=
    Mach.each_keeps (fun t => t.phase = 2) _ (fun t b ht => (t.phase_sf _ _ _ (by decide)).trans ht) _ _ hplls
  have hids : ids.phase = 2 :=
    (Mach.phase_wr_ne _ _ (by decide)).trans ((Mach.phase_wr_ne _ _ (by decide)).trans
      ((Mach.phase_wr_ne _ _ (by decide)).trans hbanks))
  refine (pcie.phase_free _).trans ?_
  exact (Mach.phase_wr_ne _ _ (by decide)).trans ((Mach.phase_wr_ne _ _ (by decide)).trans hids)

theorem Mach.onSys_mrd (s : Mach) (f : SysSt → SysSt) (a n : Nat) : (s.onSys f).mrd a n = s.mrd a n := rfl

/-- OPTION_LOAD of a part that may start: P1 looks at both pages and loads the one it picks. -/
theorem optionLoad_of_ready {s : Mach} {tj v : Nat} (hphase : s.phase < 2) (hstorm : s.on F.SYS_STORM_HOLD = false)
    (hreq : s.sys.pwrReq = true) (hxin : s.sys.xinLost = false) (htrip : s.sys.tripHold = true → tj ≤ 100) :
    ∃ t : Mach, t.mem = s.mem ∧ optionLoad tj v s =
      match pickPage (s.mrd mramBase 4096) (s.mrd (mramBase + 4096) 4096) with
      | none => t.setPhase 1
      | some k => t.loadPage k (if k = 0 then s.mrd mramBase 4096 else s.mrd (mramBase + 4096) 4096) v := by
  have hcool : (s.sys.tripHold && decide (100 < tj)) = false := by
    cases h : s.sys.tripHold
    · rfl
    · simpa using htrip h
  unfold optionLoad
  rw [if_neg (by simp [hstorm, hreq, hxin, hcool]; omega)]
  extract_lets start a b checked
  have ha : a = s.mrd mramBase 4096 := s.onSys_mrd ..
  have hb : b = s.mrd (mramBase + 4096) 4096 := s.onSys_mrd ..
  have hmem : checked.mem = s.mem := rfl
  clear_value checked a b
  rw [← ha, ← hb]
  refine ⟨checked, hmem, ?_⟩
  generalize pickPage _ _ = page
  cases page <;> rfl

/-! ## The end of the boot (R521) -/

/-- P6 with an image: READY, and where the image came from. -/
theorem Mach.toP6_spec (s : Mach) (push : Bool) {bank : Nat} (h : bank < 2) :
    (s.toP6 push bank).phase = 6 ∧ (s.toP6 push bank).gf F.CMD_STAT_READY = 1
      ∧ (s.toP6 push bank).gf F.SYS_BOOT_STAT_FWSRC = b2n push ∧ (s.toP6 push bank).gf F.SYS_BOOT_STAT_FWBANK = bank := by
  have hregs : (s.toP6 push bank).regs
      = ((((s.setPhase 6).sf F.CMD_STAT_READY 1).sf F.SYS_BOOT_STAT_FWSRC (b2n push)).sf F.SYS_BOOT_STAT_FWBANK bank).regs := by
    cases push <;> rfl
  have hbank : bank % 2 ^ 1 = bank := Nat.mod_eq_of_lt h
  have hpush : b2n push % 2 ^ 1 = b2n push := by cases push <;> rfl
  rw [Mach.phase_of_regs hregs, Mach.gf_of_regs hregs, Mach.gf_of_regs hregs, Mach.gf_of_regs hregs]
  refine ⟨?_, ?_, ?_, ?_⟩
  · simp (disch := decide) only [Mach.phase, Mach.setPhase, Mach.gf_sf_disjoint, Mach.gf_sf_ne, Mach.gf_sf_self]
    rfl
  · simp (disch := decide) only [Mach.setPhase, Mach.gf_sf_ne, Mach.gf_sf_self]
    rfl
  · simp (disch := decide) only [Mach.gf_sf_disjoint, Mach.gf_sf_self]
    exact hpush
  · simp (disch := decide) only [Mach.gf_sf_self]
    exact hbank

/-! ## Sources of a whole reset (R510, R542) -/

theorem powerOn_of_asked {s : Mach} (w : Nat) (h : s.sys.pwrReq = true) : powerOn w false s = s.wholeReset 0 w true := by
  simp [powerOn, h]

theorem resetNAssert_of_taken {s : Mach} {w ns : Nat} {taken held : Bool} (hrails : s.sys.railsOff = false)
    (h : 1000 ≤ ns ∨ 200 ≤ ns ∧ taken = true) :
    resetNAssert w ns taken held s = (s.wholeReset 1 w false).onSys (fun y => { y with resetLow := held }) := by
  have hpulse : (decide (ns < 200) || decide (ns < 1000) && !taken) = false := by
    rcases h with h | ⟨h, rfl⟩
    · rw [decide_eq_false (show ¬ ns < 200 by omega), decide_eq_false (show ¬ ns < 1000 by omega)]
      rfl
    · rw [decide_eq_false (show ¬ ns < 200 by omega), Bool.not_true, Bool.and_false]
      rfl
  simp [resetNAssert, hpulse, hrails]

/-- Past P1, with its scope bit clear, a PCIe reset resets the whole part. -/
theorem Mach.scopeReset_of_whole {s : Mach} {bit : Nat} (cause w : Nat) (h : bitOf (s.optWord 1024) bit = false) :
    s.scopeReset bit cause w = s.wholeReset cause w false := by
  simp [Mach.scopeReset, h]

/-- A source that makes of the part its whole reset leaves it reset, with its cause. -/
theorem reset_by {s m : Mach} {c w : Nat} (out : Bool) (h : s.calmStarts w) (hc : c < 9) (hm : m = s.wholeReset c w out) :
    s.afterReset m c := hm ▸ (s.wholeReset_spec c w out h hc).1

/-- What a reset leaves does not speak of the power and reset state. -/
theorem Mach.afterReset_onSys {s m : Mach} {c : Nat} (f : SysSt → SysSt) (h : s.afterReset m c) : s.afterReset (m.onSys f) c := h

/-- Settles O6: the reset sources by the whole reset's own specification, the boot rows by the phase their last write sets. -/
theorem resetSourcesAndBootPhases : Obligations.ResetSourcesAndBootPhases := by
  unfold Obligations.ResetSourcesAndBootPhases
  refine ⟨?_, ?_, ?_, ?_, ?_, ?_, ?_, ?_, ?_, ?_, ?_, ?_, ?_, ?_⟩
  · intro s w hcalm hreq
    exact ⟨_, takeAlways_gives rfl (powerOn_of_asked w hreq), reset_by true hcalm (by decide) rfl⟩
  · intro s w ns taken held hcalm hlive hpulse
    exact ⟨_, takeAlways_gives rfl (resetNAssert_of_taken hlive hpulse), Mach.afterReset_onSys _ (reset_by false hcalm (by decide) rfl), rfl⟩
  · intro s w hcalm hlive hscope
    exact ⟨_, take_gives hlive rfl (Mach.scopeReset_of_whole 2 w hscope), reset_by false hcalm (by decide) rfl⟩
  · intro s w hcalm hlive hscope
    exact ⟨_, take_gives hlive rfl (Mach.scopeReset_of_whole 3 w hscope), reset_by false hcalm (by decide) rfl⟩
  · intro s w hcalm hlive
    exact ⟨_, take_gives hlive rfl rfl, Mach.afterReset_onSys _ (reset_by false hcalm (by decide) rfl), rfl⟩
  · intro s w hcalm hlive
    refine ⟨_, takeAlways_gives rfl ?_, reset_by true hcalm (by decide) rfl⟩
    simp [brownOut, show s.m.sys.railsOff = false from hlive]
  · intro s w hcalm hlive hcount hhold
    refine ⟨_, take_gives hlive rfl ?_, reset_by false hcalm (by decide) rfl⟩
    simp [escalationReset, hhold, Option.ne_none_iff_isSome.mpr hcount]
  · intro s w c r hcalm hlive hord hc
    refine ⟨_, take_gives hlive rfl ?_, reset_by false hcalm (by omega) rfl⟩
    rw [orderedResetStart, hord]
  · intro s w hcalm hlive hdef
    refine ⟨_, take_gives hlive rfl ?_,
      reset_by (s := s.m.onSys fun y => { y with hold := none }) (w := w) false hcalm (by decide) rfl⟩
    exact if_pos hdef
  · intro s tj v hlive hphase hstorm hreq hxin htrip
    obtain ⟨t, hmem, heq⟩ := optionLoad_of_ready (v := v) hphase hstorm hreq hxin htrip
    refine ⟨_, take_gives hlive rfl heq, ?_, ?_⟩
    · intro hnone
      rw [hnone]
      exact ⟨t.setPhase_phase (by decide), hmem⟩
    · intro k hk
      rw [hk]
      exact t.loadPage_phase ..
  · intro s good ok1 cause hlive hphase
    refine ⟨_, take_gives hlive rfl rfl, ?_⟩
    rw [dramTraining, if_neg (by simp [hphase])]
    exact Mach.setPhase_phase _ (by decide)
  · intro s bad rates tj hlive hphase
    refine ⟨_, take_gives hlive rfl rfl, ?_⟩
    rw [fabricSelftest, if_neg (by simp [hphase])]
    exact Mach.setPhase_phase _ (by decide)
  · intro s ok0 ok1 hlive hphase hsrc hok
    obtain ⟨hp6, hready, -, hbank⟩ := s.m.toP6_spec false (Nat.mod_lt (fld (s.m.mrd (mramBase + 0x3000) 1) 0 1) (by decide : 0 < 2))
    refine ⟨_, take_gives hlive rfl ?_, hp6, hready, hbank⟩
    rw [firmwareBoot, if_neg (by simp [hphase])]
    simp only [if_neg hsrc]
    rw [if_pos hok]
  · intro s v hlive hv hgo hphase hsrc
    obtain ⟨hp6, hready, hpush, -⟩ := s.m.toP6_spec true (by decide : 0 < 2)
    refine ⟨_, take_gives hlive (decide_eq_true hv) ?_, hp6, hready, hpush⟩
    simp [fwPushGo, hgo, hphase, hsrc]

end Sys2Proof.Machine
end

section
/-! SUPPORT. Single bits of a word, and fields read after other fields were set. -/
namespace Sys2Proof.Machine

/-! ## Single bits -/

theorem bitOf_eq_bits (v i : Nat) : bitOf v i = (bits v i 1 == 1) := rfl

theorem bits_one_b2n (b : Bool) : (b2n b % 2 ^ 1 == 1) = b := by cases b <;> rfl

theorem bitOf_putBits_self (v i : Nat) (b : Bool) : bitOf (putBits v i 1 (b2n b)) i = b := by
  rw [bitOf_eq_bits, bits_putBits_self, bits_one_b2n]

theorem bitOf_putBits_ne (v x : Nat) {i k : Nat} (h : k ≠ i) : bitOf (putBits v i 1 x) k = bitOf v k := by
  rw [bitOf_eq_bits, bitOf_eq_bits]
  rcases Nat.lt_or_gt_of_ne h with h | h
  · rw [bits_putBits_below _ _ _ _ _ _ h]
  · rw [bits_putBits_above _ _ _ _ _ _ h]

/-- A bit as the library tests it. -/
theorem bitOf_eq_testBit (v i : Nat) : bitOf v i = v.testBit i := by
  rw [Nat.testBit_eq_decide_div_mod_eq, bitOf, Nat.shiftRight_eq_div_pow]
  rfl

theorem bitOf_or (v w i : Nat) : bitOf (v ||| w) i = (bitOf v i || bitOf w i) := by
  simp only [bitOf_eq_testBit, Nat.testBit_or]

theorem bitOf_two_pow_self (i : Nat) : bitOf (2 ^ i) i = true := by
  rw [bitOf_eq_testBit, Nat.testBit_two_pow_self]

/-- Bits below the cut of a modulus stand. -/
theorem bitOf_mod_two_pow (v : Nat) {n i : Nat} (h : i < n) : bitOf (v % 2 ^ n) i = bitOf v i := by
  simp only [bitOf_eq_testBit, Nat.testBit_mod_two_pow, decide_eq_true h, Bool.true_and]

/-! ## Fields after fields -/

theorem Mach.gf_lt (s : Mach) (f : Fld) (i j : Nat) : s.gf f i j < 2 ^ f.len := bits_lt ..

/-- A field reads as the value set, if it fits. -/
theorem Mach.gf_sf_of_lt (s : Mach) {f : Fld} {v : Nat} (i j : Nat) (h : f.lo + f.len ≤ 32) (hv : v < 2 ^ f.len) :
    (s.sf f v i j).gf f i j = v := by
  rw [Mach.gf_sf_self _ _ _ _ _ h, Nat.mod_eq_of_lt hv]

theorem b2n_lt_two (b : Bool) : b2n b < 2 := by cases b <;> decide

theorem Mach.on_sf_ne (s : Mach) {f g : Fld} (v : Nat) {i j a b : Nat} (h : f.reg.at_ i j ≠ g.reg.at_ a b) :
    (s.sf f v i j).on g a b = s.on g a b := by
  rw [Mach.on, Mach.gf_sf_ne _ _ h, Mach.on]

theorem Mach.on_wr_ne (s : Mach) {r : Reg} {g : Fld} (v : Nat) {i j a b : Nat} (h : r.at_ i j ≠ g.reg.at_ a b) :
    (s.wr r v i j).on g a b = s.on g a b := by
  rw [Mach.on, Mach.gf_wr_ne _ _ h, Mach.on]

theorem Mach.on_sf_disjoint (s : Mach) {f g : Fld} (v i j : Nat) (hr : g.reg = f.reg) (hf : f.lo + f.len ≤ 32)
    (h : f.lo + f.len ≤ g.lo ∨ g.lo + g.len ≤ f.lo) : (s.sf f v i j).on g i j = s.on g i j := by
  rw [Mach.on, Mach.gf_sf_disjoint _ _ _ _ hr hf h, Mach.on]

/-- Writing registers keeps everything but registers. -/
theorem Mach.registersOnly_wr {s t : Mach} (r : Reg) (v i j : Nat) (h : s.registersOnly t) : s.registersOnly (t.wr r v i j) := h

theorem Mach.registersOnly_sf {s t : Mach} (f : Fld) (v i j : Nat) (h : s.registersOnly t) : s.registersOnly (t.sf f v i j) := h

end Sys2Proof.Machine
end

section
/-! SUPPORT. Wakes, block resets, the PCIe link and the test port (R524, R525, R530, R531, R553, R569, R570). -/
namespace Sys2Proof.Machine

/-! ## Wakes -/

theorem Mach.wakeAsk_of_standby {s : Mach} (bit : Nat) (early : Bool) (hpower : s.power = 3) (hreq : s.sys.pwrReq = false) :
    s.wakeAsk bit early = if early then s.onSys (fun y => { y with heldWake := some bit }) else s.wake bit := by
  simp [Mach.wakeAsk, hpower, hreq]

theorem Mach.wake_wakeStat (s : Mach) {bit : Nat} (h : bit < 2) : (s.wake bit).rd R.SYS_WAKE_STAT = 2 ^ bit := by
  rw [Mach.wake, Mach.rd_wr_self]
  exact Nat.mod_eq_of_lt (Nat.pow_lt_pow_right (by decide) (by omega))

/-! ## Block resets -/

theorem Mach.markBlk_inReset_self (s : Mach) {b : Nat} (on_ : Bool) (h : b < 10) : (s.markBlk b on_).inReset b = on_ := by
  rw [Mach.inReset, Mach.markBlk, Mach.gf_sf_self _ _ _ _ _ (by decide)]
  exact (bitOf_mod_two_pow _ h).trans (bitOf_putBits_self ..)

theorem Mach.markBlk_inReset_ne (s : Mach) {b c : Nat} (on_ : Bool) (h : c < 10) (hne : c ≠ b) :
    (s.markBlk b on_).inReset c = s.inReset c := by
  rw [Mach.inReset, Mach.markBlk, Mach.gf_sf_self _ _ _ _ _ (by decide)]
  exact (bitOf_mod_two_pow _ h).trans (bitOf_putBits_ne _ _ hne)

theorem Mach.inReset_sf_ne (s : Mach) {f : Fld} (v : Nat) {i j : Nat} (c : Nat)
    (h : f.reg.at_ i j ≠ F.SYS_BLK_RST_STAT_BLOCKS.reg.at_ 0 0) : (s.sf f v i j).inReset c = s.inReset c := by
  rw [Mach.inReset, Mach.gf_sf_ne _ _ h, Mach.inReset]

/-! ## The PCIe link -/

/-- A link that comes up shows its generation and width. -/
theorem pcieLinkUp_of_down {s : Mach} {g w : Nat} (hphase : 2 ≤ s.phase) (hdown : s.linkPcie = false) (hg : 1 ≤ g ∧ g ≤ 4)
    (hw : w = 1 ∨ w = 2 ∨ w = 4) :
    pcieLinkUp g w s = ((s.sf F.PCIE_STAT_LINK_UP 1).sf F.PCIE_STAT_GEN g).sf F.PCIE_STAT_WIDTH w := by
  obtain ⟨hg1, hg4⟩ := hg
  have hwidth : (decide (w = 1) || decide (w = 2) || decide (w = 4)) = true := by simpa [or_assoc] using hw
  simp [pcieLinkUp, hdown, hwidth, not_lt.mpr hphase, not_lt.mpr hg4, show g ≠ 0 by omega]

theorem pcieLinkDown_of_up {s : Mach} (h : s.linkPcie = true) :
    pcieLinkDown s = (((s.sf F.PCIE_STAT_LINK_UP 0).sf F.PCIE_STAT_GEN 0).sf F.PCIE_STAT_WIDTH 0).bump R.PCIE_LINK_DOWN := by
  simp [pcieLinkDown, h]

/-- What a configuration write sets before it delivers what it unmasks. -/
def Mach.pcieConfigured (s : Mach) (d3 bme msix fmask : Bool) : Mach :=
  (((s.sf F.PCIE_STAT_DSTATE (if d3 then 3 else 0)).sf F.PCIE_STAT_BME (b2n bme)).sf F.PCIE_STAT_MSIX_EN (b2n msix)).sf
    F.PCIE_STAT_FMASK (b2n fmask)

theorem pcieConfigWrite_of_up {s : Mach} (d3 bme msix fmask : Bool) (h : s.linkPcie = true) :
    pcieConfigWrite d3 bme msix fmask s = (s.pcieConfigured d3 bme msix fmask).unmask := by
  simp [pcieConfigWrite, h, Mach.pcieConfigured]

/-! ## The test port -/

/-- An MRAM access that may not act leaves its error. -/
theorem mramAccGo_of_refused {s : Mach} (d : Word) {a : Nat} {w : Bool} (hir : s.sys.jtag.ir = 0x30)
    (h : s.sys.jtag.busy = true ∨ (s.sys.resetLow = false ∧ s.phase ≠ 1) ∨ jtagOk w (4 * a) = false) :
    mramAccGo d a w true s = s.onJtag (fun j => { j with err := true }) := by
  have hbad : (s.sys.jtag.busy || !(s.sys.resetLow || s.phase == 1) || !jtagOk w (4 * a)) = true := by
    rcases h with h | ⟨h1, h2⟩ | h
    · simp [h]
    · simp [h1, h2]
    · simp [h]
  rw [mramAccGo]
  simp only [hir, hbad]
  rfl

theorem mramAccGo_of_taken {s : Mach} (d : Word) {a : Nat} {w : Bool} (hir : s.sys.jtag.ir = 0x30)
    (hidle : s.sys.jtag.busy = false) (hport : s.sys.resetLow = true ∨ s.phase = 1) (hok : jtagOk w (4 * a) = true) :
    mramAccGo d a w true s = s.onJtag (fun j => { j with busy := true, done := false, err := false, op := some (w, a, d) }) := by
  have hgood : (s.sys.jtag.busy || !(s.sys.resetLow || s.phase == 1) || !jtagOk w (4 * a)) = false := by
    rcases hport with h | h <;> simp [hidle, hok, h]
  rw [mramAccGo]
  simp only [hir, hgood]
  rfl

/-- Settles O7, from what each row's function makes of the part where its conditions hold. -/
theorem wakeResetsAndTestPort : Obligations.WakeResetsAndTestPort := by
  unfold Obligations.WakeResetsAndTestPort
  refine ⟨?_, ?_, ?_, ?_, ?_, ?_, ?_, ?_, ?_, ?_, ?_, ?_, ?_, ?_, ?_, ?_, ?_⟩
  · intro s harm hpower hreq
    refine ⟨s.m.wake 0, takeAlways_gives rfl ?_, rfl, s.m.wake_wakeStat (by decide), rfl⟩
    rw [wakeNWake, if_pos harm, Mach.wakeAsk_of_standby 0 false hpower hreq]
    rfl
  · intro s halarm hpower hreq
    refine ⟨s.m.wake 1, takeAlways_gives rfl ?_, rfl, s.m.wake_wakeStat (by decide), rfl⟩
    rw [rtcAlarm, if_pos halarm, Mach.wakeAsk_of_standby 1 false hpower hreq]
    rfl
  · intro s harm hpower hreq
    refine takeAlways_gives rfl ?_
    rw [wakeNWake, if_pos harm, Mach.wakeAsk_of_standby 0 true hpower hreq]
    rfl
  · intro s b hheld hb
    refine ⟨s.m.wake b, takeAlways_gives rfl ?_, rfl, s.m.wake_wakeStat hb⟩
    rw [heldWakeRelease, hheld]
  · intro s v hlive hv hgo hblk
    refine take_gives hlive (decide_eq_true hv) ?_
    simp [blkRstWrite, hgo, not_lt.mpr hblk]
  · intro s v p hlive hv hgo hbad
    refine take_gives hlive (decide_eq_true hv) ?_
    simp [blkRstWrite, hgo, hbad]
  · intro s b hlive hb hin
    refine ⟨(s.m.markBlk b false).evt F.SYS_EVT_BLK_DONE, take_gives hlive (decide_eq_true hb) ?_, s.m.registersOnly_refl,
      ?_, ?_, ?_⟩
    · simp [blockResetEnd, hin, not_lt.mpr (Nat.le_of_lt_succ hb)]
    · rw [Mach.evt, Mach.inReset_sf_ne _ _ _ (by decide), Mach.markBlk_inReset_self _ _ hb]
    · intro c hc hne
      rw [Mach.evt, Mach.inReset_sf_ne _ _ _ (by decide), Mach.markBlk_inReset_ne _ _ hc hne]
    · exact Mach.gf_sf_of_lt _ _ _ (by decide) (by decide)
  · intro s g w hlive hphase hdown hg1 hg4 hw
    refine ⟨_, take_gives hlive rfl (pcieLinkUp_of_down hphase hdown ⟨hg1, hg4⟩ hw), s.m.registersOnly_refl, ?_, ?_, ?_⟩
    · simp (disch := decide) only [Mach.linkPcie, Mach.on_sf_disjoint]
      rw [Mach.on, Mach.gf_sf_self _ _ _ _ _ (by decide)]
      rfl
    · simp (disch := decide) only [Mach.gf_sf_disjoint]
      exact Mach.gf_sf_of_lt _ _ _ (by decide) (show g < 2 ^ 3 by omega)
    · exact Mach.gf_sf_of_lt _ _ _ (by decide) (show w < 2 ^ 3 by omega)
  · intro s hlive hup
    refine ⟨_, take_gives hlive rfl (pcieLinkDown_of_up hup), s.m.registersOnly_refl, ?_, ?_⟩
    · rw [Mach.linkPcie, Mach.bump, Mach.on_wr_ne _ _ (by decide)]
      simp (disch := decide) only [Mach.on_sf_disjoint]
      rw [Mach.on, Mach.gf_sf_self _ _ _ _ _ (by decide)]
      rfl
    · rw [Mach.bump, Mach.rd_wr_self]
      simp (disch := decide) only [Mach.rd_sf_ne]
      exact Nat.mod_eq_of_lt (lt_of_le_of_lt (Nat.min_le_left ..) (by decide))
  · intro s d b x f hlive hup
    refine ⟨s.m.pcieConfigured d b x f, take_gives hlive rfl (pcieConfigWrite_of_up d b x f hup), s.m.registersOnly_refl,
      ?_, ?_, ?_, ?_⟩ <;> simp (disch := decide) only [Mach.pcieConfigured, Mach.gf_sf_disjoint]
    · exact Mach.gf_sf_of_lt _ _ _ (by decide) (by cases d <;> decide)
    · exact Mach.gf_sf_of_lt _ _ _ (by decide) (b2n_lt_two b)
    · exact Mach.gf_sf_of_lt _ _ _ (by decide) (b2n_lt_two x)
    · exact Mach.gf_sf_of_lt _ _ _ (by decide) (b2n_lt_two f)
  · intro s c hc hcode
    refine takeAlways_gives (decide_eq_true hc) ?_
    rcases hcode with rfl | rfl | rfl <;> rfl
  · intro s c hc hcode
    refine takeAlways_gives (decide_eq_true hc) ?_
    rcases hcode with rfl | rfl | rfl <;> rfl
  · intro s d a w ha hir hidle hport hok
    exact takeAlways_gives (decide_eq_true ha) (mramAccGo_of_taken d hir hidle hport hok)
  · intro s d a hop
    refine ⟨_, takeAlways_gives rfl rfl, ?_, ?_⟩ <;> simp only [mramAccDone, hop] <;> rfl
  · intro s d a hop
    refine ⟨_, takeAlways_gives rfl rfl, ?_, ?_⟩ <;> simp only [mramAccDone, hop] <;> rfl
  · intro s d a w ha hir hbad
    exact takeAlways_gives (decide_eq_true ha) (mramAccGo_of_refused d hir hbad)
  · intro s c hc hcode
    refine takeAlways_gives (decide_eq_true hc) ?_
    simp only [List.mem_cons, List.not_mem_nil, or_false, not_or] at hcode
    obtain ⟨h0, h1, h2, h3, h4, h5⟩ := hcode
    simp [jtagUpdateIr, h0, h1, h2, h3, h4, h5, Mach.onJtag, Mach.onSys]

end Sys2Proof.Machine
end

section
/-! SUPPORT. Error handling, acknowledgement, the watchdog and the storm release (R515, R538, R540, R541). -/
namespace Sys2Proof.Machine

/-- The safe state is entered once: SAFE, its event and the countdown of 100 ms (R541, R542). -/
theorem Mach.enterSafe_of_not_safe {s : Mach} (h : s.safe = false) :
    s.enterSafe = { (s.sf F.ERR_STAT_SAFE 1).evt F.ERR_EVT_SAFE with
      err := { s.err with countdown := some (s.tm.up + 100000000) } } := by
  rw [Mach.enterSafe, if_neg (by simp [h])]
  rfl

/-- Whether an acknowledgement up to n reaches a record of the ring. -/
def ackHits (n : Nat) (e : Nat × ErrRec) : Bool := decide (2 ≤ e.2.sev) && seqLe e.2.seq n && !e.2.acked

theorem Mach.ackErr_slots (s : Mach) (n : Nat) :
    (s.ackErr n).2.err.slots = (s.err.slots.filter (fun e => !(ackHits n e && decide (48 ≤ e.1)))).map
      (fun e => if ackHits n e then (e.1, { e.2 with acked := true }) else e) := rfl

/-- After an acknowledgement every ERROR or FATAL record up to its number is acknowledged. -/
theorem Mach.ackErr_acked (s : Mach) (n : Nat) {e : Nat × ErrRec} (he : e ∈ (s.ackErr n).2.err.slots) (hsev : 2 ≤ e.2.sev)
    (hseq : seqLe e.2.seq n = true) : e.2.acked = true := by
  rw [Mach.ackErr_slots] at he
  obtain ⟨r, -, rfl⟩ := List.mem_map.mp he
  by_cases hhit : ackHits n r = true
  · rw [if_pos hhit]
  · rw [if_neg hhit] at hsev hseq ⊢
    simpa [ackHits, hsev, hseq] using hhit

/-- A record below ERROR is left as it is. -/
theorem Mach.ackErr_keeps_low (s : Mach) (n : Nat) {e : Nat × ErrRec} (he : e ∈ s.err.slots) (hsev : e.2.sev < 2) :
    e ∈ (s.ackErr n).2.err.slots := by
  have hmiss : ackHits n e = false := by simp [ackHits, not_le.mpr hsev]
  rw [Mach.ackErr_slots]
  refine List.mem_map.mpr ⟨e, List.mem_filter.mpr ⟨he, by simp [hmiss]⟩, ?_⟩
  simp [hmiss]

/-- Settles O8, from what each row's function makes of the part where its conditions hold. -/
theorem errorHandlingMovesOn : Obligations.ErrorHandlingMovesOn := by
  unfold Obligations.ErrorHandlingMovesOn
  refine ⟨?_, ?_, ?_, ?_, ?_, ?_⟩
  · intro s i hlive hF
    refine take_gives hlive rfl ?_
    rw [errorHandled, hF]
  · intro s i hlive hF hE
    refine take_gives hlive rfl ?_
    rw [errorHandled, hF, hE]
  · intro s hlive hF hsafe
    refine ⟨s.m.enterSafe, take_gives hlive rfl (if_pos hF), ?_⟩
    rw [Mach.enterSafe_of_not_safe hsafe]
    refine ⟨?_, Mach.gf_sf_of_lt _ _ _ (by decide) (by decide), rfl, s.m.errorsOnly_refl⟩
    show ((s.m.sf F.ERR_STAT_SAFE 1).sf F.ERR_EVT_SAFE 1).on F.ERR_STAT_SAFE = true
    rw [Mach.on_sf_ne _ _ (by decide), Mach.on, Mach.gf_sf_self _ _ _ _ _ (by decide)]
    rfl
  · intro s n hlive hn
    refine ⟨(s.m.ackErr n).2, take_gives hlive (decide_eq_true hn) ?_, rfl, ?_, ?_⟩
    · rw [errAckWrite, Nat.mod_eq_of_lt hn]
    · exact fun e he => s.m.ackErr_acked n he
    · exact fun e he => s.m.ackErr_keeps_low n he
  · intro s k hlive hk hcore hord
    refine take_gives hlive (decide_eq_true hk) ?_
    simp [watchdogExpire, hcore, not_le.mpr hk, Mach.orderReset, hord, Mach.onSys]
  · intro s hlive hhold
    exact take_gives hlive rfl (if_pos hhold)

end Sys2Proof.Machine
end

section
/-! SUPPORT. Footprints: the parts of the machine and the register windows that an operation may touch. One lemma per operation of
the state says which footprint takes it, so that a row's frame follows by going through its operations. -/
namespace Sys2Proof.Machine

/-- The parts of the machine other than its registers. -/
inductive Part where
  | variant | live | hold | mem | free | err | tm | pll | bus | dma | ddr | sys | asp | cmd | sch | net | strm | rend | irqN
  deriving DecidableEq

/-- A part is the same in both machines. -/
def Mach.samePart (s t : Mach) : Part → Prop
  | .variant => t.variant = s.variant
  | .live => t.live = s.live
  | .hold => t.hold = s.hold
  | .mem => t.mem = s.mem
  | .free => t.free = s.free
  | .err => t.err = s.err
  | .tm => t.tm = s.tm
  | .pll => t.pll = s.pll
  | .bus => t.bus = s.bus
  | .dma => t.dma = s.dma
  | .ddr => t.ddr = s.ddr
  | .sys => t.sys = s.sys
  | .asp => t.asp = s.asp
  | .cmd => t.cmd = s.cmd
  | .sch => t.sch = s.sch
  | .net => t.net0 = s.net0 ∧ t.net1 = s.net1
  | .strm => t.sin = s.sin ∧ t.sout = s.sout ∧ t.disc = s.disc
  | .rend => t.rend = s.rend
  | .irqN => t.irqN = s.irqN

/-- What an operation may touch: parts of the machine, and register windows from a first address up to below a last one, if any. -/
structure Footprint where
  parts : List Part
  windows : List (Nat × Option Nat)

/-- Does the footprint cover a register address? -/
def Footprint.covers (F : Footprint) (a : Nat) : Bool := F.windows.any (fun w => decide (w.1 ≤ a) && w.2.all (fun hi => decide (a < hi)))

/-- Does the footprint cover every member of a register family? -/
def Footprint.family (F : Footprint) (r : Reg) : Bool :=
  F.windows.any (fun w => decide (w.1 ≤ r.base) &&
    w.2.all (fun hi => decide (r.base + (r.n1 - 1) * r.s1 + (r.n2 - 1) * r.s2 < hi)))

/-- Does the footprint reach from a register family upwards without end? -/
def Footprint.open_ (F : Footprint) (r : Reg) : Bool := F.windows.any (fun w => decide (w.1 ≤ r.base) && w.2.isNone)

theorem Footprint.covers_of_family {F : Footprint} {r : Reg} {i j : Nat} (h : F.family r = true) (hi : i < r.n1) (hj : j < r.n2) :
    F.covers (r.at_ i j) = true := by
  obtain ⟨⟨lo, hi'⟩, hw, hx⟩ := List.any_eq_true.mp h
  have hlow : i * r.s1 ≤ (r.n1 - 1) * r.s1 := Nat.mul_le_mul_right _ (by omega)
  have hhigh : j * r.s2 ≤ (r.n2 - 1) * r.s2 := Nat.mul_le_mul_right _ (by omega)
  refine List.any_eq_true.mpr ⟨(lo, hi'), hw, ?_⟩
  cases hi' <;> simp at hx ⊢ <;> unfold Reg.at_ <;> omega

theorem Footprint.covers_of_open {F : Footprint} {r : Reg} (i j : Nat) (h : F.open_ r = true) : F.covers (r.at_ i j) = true := by
  obtain ⟨⟨lo, hi'⟩, hw, hx⟩ := List.any_eq_true.mp h
  refine List.any_eq_true.mpr ⟨(lo, hi'), hw, ?_⟩
  cases hi' with
  | none =>
    simp at hx ⊢
    unfold Reg.at_
    omega
  | some hi => simp at hx

/-- `t` differs from `s` in nothing but what the footprint names. -/
def Mach.onlyIn (s : Mach) (F : Footprint) (t : Mach) : Prop :=
  (∀ p, p ∉ F.parts → s.samePart t p) ∧ ∀ a, F.covers a = false → ∀ d, mget d t.regs a = mget d s.regs a

theorem Mach.samePart_refl (s : Mach) (p : Part) : s.samePart s p := by
  cases p <;> simp [Mach.samePart]

@[simp] theorem Mach.onlyIn_refl (s : Mach) (F : Footprint) : s.onlyIn F s := ⟨fun p _ => s.samePart_refl p, fun _ _ _ => rfl⟩

theorem Mach.samePart_trans {s t u : Mach} {p : Part} (h : s.samePart t p) (h' : t.samePart u p) : s.samePart u p := by
  cases p <;> simp only [Mach.samePart] at h h' ⊢ <;> simp [h, h']

theorem Mach.samePart_symm {s t : Mach} {p : Part} (h : s.samePart t p) : t.samePart s p := by
  cases p <;> simp only [Mach.samePart] at h ⊢ <;> simp [h]

theorem Mach.onlyIn_trans {s t u : Mach} {F : Footprint} (h : s.onlyIn F t) (h' : t.onlyIn F u) : s.onlyIn F u :=
  ⟨fun p hp => Mach.samePart_trans (h.1 p hp) (h'.1 p hp), fun a ha d => (h'.2 a ha d).trans (h.2 a ha d)⟩

theorem Mach.onlyIn_symm {s t : Mach} {F : Footprint} (h : s.onlyIn F t) : t.onlyIn F s :=
  ⟨fun p hp => Mach.samePart_symm (h.1 p hp), fun a ha d => (h.2 a ha d).symm⟩

/-- An operation within the footprint changes nothing about what lies outside. -/
theorem Mach.onlyIn_iff {s t u : Mach} {F : Footprint} (h : t.onlyIn F u) : s.onlyIn F u ↔ s.onlyIn F t :=
  ⟨fun hu => Mach.onlyIn_trans hu (Mach.onlyIn_symm h), fun ht => Mach.onlyIn_trans ht h⟩

/-- A wider footprint takes what a narrower one takes. -/
theorem Mach.onlyIn_mono {s t : Mach} {F G : Footprint} (h : s.onlyIn F t) (hp : ∀ p ∈ F.parts, p ∈ G.parts)
    (hw : ∀ a, G.covers a = false → F.covers a = false) : s.onlyIn G t :=
  ⟨fun p hn => h.1 p fun hm => hn (hp p hm), fun a ha d => h.2 a (hw a ha) d⟩

/-! ## What stands outside a footprint -/

theorem Mach.onlyIn_part {s t : Mach} {F : Footprint} (h : s.onlyIn F t) (p : Part) (hp : p ∉ F.parts) : s.samePart t p := h.1 p hp

theorem Mach.onlyIn_rd {s t : Mach} {F : Footprint} (h : s.onlyIn F t) (r : Reg) (i j : Nat) (hr : F.covers (r.at_ i j) = false) :
    t.rd r i j = s.rd r i j := by
  rw [Mach.rd, h.2 _ hr, Mach.rd]

theorem Mach.onlyIn_gf {s t : Mach} {F : Footprint} (h : s.onlyIn F t) (f : Fld) (i j : Nat)
    (hr : F.covers (f.reg.at_ i j) = false) : t.gf f i j = s.gf f i j := by
  rw [Mach.gf, Mach.onlyIn_rd h _ _ _ hr, Mach.gf]

/-- Below its lowest window a footprint covers nothing. -/
theorem Footprint.covers_below {F : Footprint} {a : Nat} (b : Nat) (h : ∀ w ∈ F.windows, b ≤ w.1) (ha : a < b) :
    F.covers a = false := by
  rw [Footprint.covers, List.any_eq_false]
  intro w hw
  have hle := h w hw
  simp only [Bool.and_eq_true, decide_eq_true_eq, not_and]
  omega

/-! ## The operations of the state -/

section
variable {s t : Mach} {F : Footprint}

/-- The machine with one part taken from another. -/
def Mach.putPart (t u : Mach) : Part → Mach
  | .variant => { t with variant := u.variant }
  | .live => { t with live := u.live }
  | .hold => { t with hold := u.hold }
  | .mem => { t with mem := u.mem }
  | .free => { t with free := u.free }
  | .err => { t with err := u.err }
  | .tm => { t with tm := u.tm }
  | .pll => { t with pll := u.pll }
  | .bus => { t with bus := u.bus }
  | .dma => { t with dma := u.dma }
  | .ddr => { t with ddr := u.ddr }
  | .sys => { t with sys := u.sys }
  | .asp => { t with asp := u.asp }
  | .cmd => { t with cmd := u.cmd }
  | .sch => { t with sch := u.sch }
  | .net => { t with net0 := u.net0, net1 := u.net1 }
  | .strm => { t with sin := u.sin, sout := u.sout, disc := u.disc }
  | .rend => { t with rend := u.rend }
  | .irqN => { t with irqN := u.irqN }

theorem Mach.samePart_putPart (t u : Mach) {p q : Part} (h : q ≠ p) : t.samePart (t.putPart u p) q := by
  cases p <;> cases q <;> simp_all [Mach.samePart, Mach.putPart]

theorem Mach.putPart_regs (t u : Mach) (p : Part) : (t.putPart u p).regs = t.regs := by cases p <;> rfl

/-- An update of one part alone. -/
theorem Mach.onlyIn_of_part {u : Mach} (p : Part) (hp : p ∈ F.parts) (hu : u = t.putPart u p) : s.onlyIn F u ↔ s.onlyIn F t := by
  refine Mach.onlyIn_iff ⟨fun q hq => ?_, fun _ _ _ => ?_⟩
  · rw [hu]
    exact t.samePart_putPart u fun e => hq (e ▸ hp)
  · rw [hu, Mach.putPart_regs]

/-- A write to a register that the footprint covers. -/
theorem Mach.onlyIn_wr (r : Reg) (v i j : Nat) (h : F.covers (r.at_ i j) = true) : s.onlyIn F (t.wr r v i j) ↔ s.onlyIn F t := by
  refine Mach.onlyIn_iff ⟨fun p _ => by cases p <;> simp [Mach.samePart], fun a ha d => ?_⟩
  rw [Mach.wr_regs, mget_mput_ne]
  intro e
  rw [← e, h] at ha
  cases ha

@[simp] theorem Mach.onlyIn_wr_family (r : Reg) (v i j : Nat) (h : F.family r = true) (hi : i < r.n1) (hj : j < r.n2) :
    s.onlyIn F (t.wr r v i j) ↔ s.onlyIn F t := Mach.onlyIn_wr r v i j (Footprint.covers_of_family h hi hj)

@[simp] theorem Mach.onlyIn_wr_open (r : Reg) (v i j : Nat) (h : F.open_ r = true) :
    s.onlyIn F (t.wr r v i j) ↔ s.onlyIn F t := Mach.onlyIn_wr r v i j (Footprint.covers_of_open i j h)

@[simp] theorem Mach.onlyIn_sf (f : Fld) (v i j : Nat) (h : F.family f.reg = true) (hi : i < f.reg.n1) (hj : j < f.reg.n2) :
    s.onlyIn F (t.sf f v i j) ↔ s.onlyIn F t := Mach.onlyIn_wr_family _ _ i j h hi hj

@[simp] theorem Mach.onlyIn_orf (f : Fld) (v i j : Nat) (h : F.family f.reg = true) (hi : i < f.reg.n1) (hj : j < f.reg.n2) :
    s.onlyIn F (t.orf f v i j) ↔ s.onlyIn F t := Mach.onlyIn_wr_family _ _ i j h hi hj

@[simp] theorem Mach.onlyIn_evt (f : Fld) (i : Nat) (h : F.family f.reg = true) (hi : i < f.reg.n1) (hj : 0 < f.reg.n2) :
    s.onlyIn F (t.evt f i) ↔ s.onlyIn F t := Mach.onlyIn_wr_family _ _ i 0 h hi hj

@[simp] theorem Mach.onlyIn_setBit (r : Reg) (k i : Nat) (h : F.family r = true) (hi : i < r.n1) (hj : 0 < r.n2) :
    s.onlyIn F (t.setBit r k i) ↔ s.onlyIn F t := Mach.onlyIn_wr_family _ _ i 0 h hi hj

@[simp] theorem Mach.onlyIn_clrBit (r : Reg) (k i : Nat) (h : F.family r = true) (hi : i < r.n1) (hj : 0 < r.n2) :
    s.onlyIn F (t.clrBit r k i) ↔ s.onlyIn F t := Mach.onlyIn_wr_family _ _ i 0 h hi hj

@[simp] theorem Mach.onlyIn_bump (r : Reg) (i n : Nat) (h : F.family r = true) (hi : i < r.n1) (hj : 0 < r.n2) :
    s.onlyIn F (t.bump r i n) ↔ s.onlyIn F t := Mach.onlyIn_wr_family _ _ i 0 h hi hj

@[simp] theorem Mach.onlyIn_step32 (r : Reg) (i : Nat) (h : F.family r = true) (hi : i < r.n1) (hj : 0 < r.n2) :
    s.onlyIn F (t.step32 r i) ↔ s.onlyIn F t := Mach.onlyIn_wr_family _ _ i 0 h hi hj

@[simp] theorem Mach.onlyIn_wr64 (lo hi : Reg) (v i : Nat) (hl : F.family lo = true) (hh : F.family hi = true) (hil : i < lo.n1)
    (hih : i < hi.n1) (hjl : 0 < lo.n2) (hjh : 0 < hi.n2) : s.onlyIn F (t.wr64 lo hi v i) ↔ s.onlyIn F t :=
  (Mach.onlyIn_wr_family _ _ i 0 hh hih hjh).trans (Mach.onlyIn_wr_family _ _ i 0 hl hil hjl)

@[simp] theorem Mach.onlyIn_setLv (r : Reg) (v i j : Nat) (h : .live ∈ F.parts) : s.onlyIn F (t.setLv r v i j) ↔ s.onlyIn F t :=
  Mach.onlyIn_of_part .live h rfl

@[simp] theorem Mach.onlyIn_mwr (a : Nat) (l : List Byte) (h : .mem ∈ F.parts) : s.onlyIn F (t.mwr a l) ↔ s.onlyIn F t :=
  Mach.onlyIn_of_part .mem h rfl

@[simp] theorem Mach.onlyIn_err (e : ErrSt) (h : .err ∈ F.parts) : s.onlyIn F { t with err := e } ↔ s.onlyIn F t :=
  Mach.onlyIn_of_part .err h rfl

@[simp] theorem Mach.onlyIn_free (n : Nat) (h : .free ∈ F.parts) : s.onlyIn F { t with free := n } ↔ s.onlyIn F t :=
  Mach.onlyIn_of_part .free h rfl

@[simp] theorem Mach.onlyIn_onTime (f : TimeSt → TimeSt) (h : .tm ∈ F.parts) : s.onlyIn F (t.onTime f) ↔ s.onlyIn F t :=
  Mach.onlyIn_of_part .tm h rfl

@[simp] theorem Mach.onlyIn_onPort (p : Nat) (f : PortTime → PortTime) (h : .tm ∈ F.parts) : s.onlyIn F (t.onPort p f) ↔ s.onlyIn F t :=
  Mach.onlyIn_onTime _ h

@[simp] theorem Mach.onlyIn_onAsp (n : Nat) (f : AspSt → AspSt) (h : .asp ∈ F.parts) : s.onlyIn F (t.onAsp n f) ↔ s.onlyIn F t :=
  Mach.onlyIn_of_part .asp h rfl

@[simp] theorem Mach.onlyIn_onSys (f : SysSt → SysSt) (h : .sys ∈ F.parts) : s.onlyIn F (t.onSys f) ↔ s.onlyIn F t :=
  Mach.onlyIn_of_part .sys h rfl

@[simp] theorem Mach.onlyIn_onPll (p : Nat) (f : PllSt → PllSt) (h : .pll ∈ F.parts) : s.onlyIn F (t.onPll p f) ↔ s.onlyIn F t :=
  Mach.onlyIn_of_part .pll h rfl

@[simp] theorem Mach.onlyIn_onCmd (f : CmdSt → CmdSt) (h : .cmd ∈ F.parts) : s.onlyIn F (t.onCmd f) ↔ s.onlyIn F t :=
  Mach.onlyIn_of_part .cmd h rfl

@[simp] theorem Mach.onlyIn_onSch (f : SchedSt → SchedSt) (h : .sch ∈ F.parts) : s.onlyIn F (t.onSch f) ↔ s.onlyIn F t :=
  Mach.onlyIn_of_part .sch h rfl

@[simp] theorem Mach.onlyIn_onDdr (f : DdrSt → DdrSt) (h : .ddr ∈ F.parts) : s.onlyIn F (t.onDdr f) ↔ s.onlyIn F t :=
  Mach.onlyIn_of_part .ddr h rfl

@[simp] theorem Mach.onlyIn_onBus (f : BusSt → BusSt) (h : .bus ∈ F.parts) : s.onlyIn F (t.onBus f) ↔ s.onlyIn F t :=
  Mach.onlyIn_of_part .bus h rfl

@[simp] theorem Mach.onlyIn_onDma (c : Nat) (f : DmaSt → DmaSt) (h : .dma ∈ F.parts) : s.onlyIn F (t.onDma c f) ↔ s.onlyIn F t :=
  Mach.onlyIn_of_part .dma h rfl

@[simp] theorem Mach.onlyIn_onIn (k : Nat) (f : StrIn → StrIn) (h : .strm ∈ F.parts) : s.onlyIn F (t.onIn k f) ↔ s.onlyIn F t :=
  Mach.onlyIn_of_part .strm h rfl

@[simp] theorem Mach.onlyIn_onOut (k : Nat) (f : StrOut → StrOut) (h : .strm ∈ F.parts) : s.onlyIn F (t.onOut k f) ↔ s.onlyIn F t :=
  Mach.onlyIn_of_part .strm h rfl

@[simp] theorem Mach.onlyIn_onNet (p : Nat) (f : NetPort → NetPort) (h : .net ∈ F.parts) : s.onlyIn F (t.onNet p f) ↔ s.onlyIn F t :=
  Mach.onlyIn_of_part .net h (by unfold Mach.onNet; split <;> rfl)

@[simp] theorem Mach.onlyIn_onRend (f : Rend → Rend) (h : .rend ∈ F.parts) : s.onlyIn F (t.onRend f) ↔ s.onlyIn F t :=
  Mach.onlyIn_of_part .rend h rfl

/-- An operation that is done or not. -/
theorem Mach.onlyIn_when (c : Bool) (f : Mach → Mach) (h : s.onlyIn F (f t) ↔ s.onlyIn F t) :
    s.onlyIn F (t.when c f) ↔ s.onlyIn F t := by
  unfold Mach.when
  split
  · exact h
  · exact Iff.rfl

@[simp] theorem Mach.onlyIn_when_iff (c : Bool) (f : Mach → Mach) :
    s.onlyIn F (t.when c f) ↔ if c then s.onlyIn F (f t) else s.onlyIn F t := by
  unfold Mach.when
  split <;> exact Iff.rfl

@[simp] theorem Mach.onlyIn_ite_iff (c : Prop) [Decidable c] (u : Mach) :
    s.onlyIn F (if c then t else u) ↔ if c then s.onlyIn F t else s.onlyIn F u := by
  split <;> exact Iff.rfl

/-- One of two operations. -/
theorem Mach.onlyIn_ite (c : Prop) [Decidable c] (u : Mach) (ht : s.onlyIn F t) (hu : s.onlyIn F u) :
    s.onlyIn F (if c then t else u) := by
  split
  · exact ht
  · exact hu

/-- A fold of operations within the footprint. -/
theorem Mach.onlyIn_each {α : Type} (l : List α) (f : Mach → α → Mach) (h : ∀ u : Mach, ∀ a ∈ l, u.onlyIn F (f u a)) :
    s.onlyIn F (t.each l f) ↔ s.onlyIn F t := by
  induction l generalizing t with
  | nil => exact Iff.rfl
  | cons a r ih =>
    rw [Mach.each_cons, ih fun u b hb => h u b (List.mem_cons_of_mem a hb)]
    exact Mach.onlyIn_iff (h t a (List.mem_cons_self ..))

/-! ## Error records (R536 to R541) -/

/-- The footprint of an occurrence: the error state and the registers of the ring. -/
def Footprint.errors (F : Footprint) : Bool :=
  F.parts.contains .err && [R.ERR_SEQ, R.ERR_EVT, R.ERR_STAT, R.ERR_DROPPED].all F.family

theorem Footprint.errors_spec (h : F.errors = true) :
    .err ∈ F.parts ∧ F.family R.ERR_SEQ = true ∧ F.family R.ERR_EVT = true ∧ F.family R.ERR_STAT = true
      ∧ F.family R.ERR_DROPPED = true := by
  simpa [Footprint.errors] using h

theorem Mach.onlyIn_errEvt (h : F.errors = true) (f : Fld) (hf : f.reg = R.ERR_EVT) : s.onlyIn F (t.evt f) ↔ s.onlyIn F t := by
  obtain ⟨-, -, hevt, -, -⟩ := Footprint.errors_spec h
  rw [← hf] at hevt
  exact Mach.onlyIn_evt f 0 hevt (by rw [hf]; decide) (by rw [hf]; decide)

@[simp] theorem Mach.onlyIn_enterSafe (h : F.errors = true) : s.onlyIn F t.enterSafe ↔ s.onlyIn F t := by
  obtain ⟨herr, -, -, hstat, -⟩ := Footprint.errors_spec h
  unfold Mach.enterSafe
  split
  · exact Iff.rfl
  · exact (Mach.onlyIn_err _ herr).trans ((Mach.onlyIn_errEvt h _ rfl).trans (Mach.onlyIn_sf _ _ 0 0 hstat (by decide) (by decide)))

@[simp] theorem Mach.onlyIn_recEvt (h : F.errors = true) (n : Nat) : s.onlyIn F (t.recEvt n) ↔ s.onlyIn F t :=
  Mach.onlyIn_when _ _ (Mach.onlyIn_errEvt h _ rfl)

theorem Mach.onlyIn_raised (c : ECode) (i a : Nat) (h : F.errors = true) (ht : s.onlyIn F t) : s.onlyIn F (t.raise c i a) := by
  obtain ⟨herr, hseq, -, -, hdrop⟩ := Footprint.errors_spec h
  unfold Mach.raise
  extract_lets src q counted errs slot r dropped placed recorded item second told e0 e queued
  have hcounted : s.onlyIn F counted := (Mach.onlyIn_step32 _ 0 hseq (by decide) (by decide)).mpr ht
  split
  · extract_lets r' merged noted
    have hnoted : s.onlyIn F noted := (Mach.onlyIn_recEvt h _).mpr ((Mach.onlyIn_err _ herr).mpr hcounted)
    exact Mach.onlyIn_ite _ _ ((Mach.onlyIn_enterSafe h).mpr hnoted) hnoted
  · have hplaced : s.onlyIn F placed := by
      unfold placed
      cases slot
      case some k => exact (Mach.onlyIn_when _ _ (Mach.onlyIn_errEvt h _ rfl)).mpr ((Mach.onlyIn_err _ herr).mpr hcounted)
      case none => exact (Mach.onlyIn_errEvt h _ rfl).mpr ((Mach.onlyIn_bump _ 0 1 hdrop (by decide) (by decide)).mpr
          ((Mach.onlyIn_err _ herr).mpr hcounted))
    refine (Mach.onlyIn_when _ _ (Mach.onlyIn_enterSafe h)).mpr ((Mach.onlyIn_err _ herr).mpr ?_)
    exact (Mach.onlyIn_when _ _ (Mach.onlyIn_errEvt h _ rfl)).mpr ((Mach.onlyIn_recEvt h _).mpr hplaced)

/-- An occurrence touches the error state and the registers of the ring. -/
@[simp] theorem Mach.onlyIn_raise (c : ECode) (i a : Nat) (h : F.errors = true) : s.onlyIn F (t.raise c i a) ↔ s.onlyIn F t :=
  Mach.onlyIn_iff (Mach.onlyIn_raised c i a h (t.onlyIn_refl F))

end

end Sys2Proof.Machine
end

section
/-! SUPPORT. Frames of the time rows (R433 to R457) and of the serial-port rows (R384 to R402), from their footprints. -/
namespace Sys2Proof.Machine

/-- An index below the size of a part of the machine is one of a register that has that many. -/
theorem Reg.lt_n1 {n k : Nat} (h : n < k) (r : Reg) (hr : k ≤ r.n1) : n < r.n1 := h.trans_le hr

/-- A row that reaches a live part keeps what its function keeps. -/
theorem keeps_of_take {P : Mach → Mach → Prop} {c : Instr} {f : Mach → Mach} (hc : ∀ s, exec c s = take c.wellFormed f s)
    (hP : ∀ m, P m (f m)) : keeps P c :=
  fun s hlive hok => ⟨f s.m, (hc s).trans (take_gives hlive hok rfl), hP s.m⟩

theorem keeps_of_takeAlways {P : Mach → Mach → Prop} {c : Instr} {f : Mach → Mach}
    (hc : ∀ s, exec c s = takeAlways c.wellFormed f s) (hP : ∀ m, P m (f m)) : keeps P c :=
  fun s _ hok => ⟨f s.m, (hc s).trans (takeAlways_gives hok rfl), hP s.m⟩

/-! ## The time unit -/

/-- What a time row may touch. -/
def timeTouch : Footprint := ⟨[.live, .err, .tm, .irqN], [(0x380000, some 0x400000), (0xD00000, some 0xE00000)]⟩

theorem timeFrame_of_onlyIn {s t : Mach} (h : s.onlyIn timeTouch t) : timeFrame s t := by
  have part : ∀ p, p ∉ timeTouch.parts → s.samePart t p := h.1
  refine ⟨⟨part .variant (by decide), part .hold (by decide), part .pll (by decide), part .sys (by decide)⟩,
    ⟨part .bus (by decide), part .dma (by decide), part .ddr (by decide)⟩, ⟨part .cmd (by decide), part .sch (by decide)⟩,
    ?_, part .rend (by decide), part .asp (by decide), part .mem (by decide), part .free (by decide), ?_⟩
  · obtain ⟨hA, hB⟩ := part .net (by decide)
    obtain ⟨hin, hout, hdisc⟩ := part .strm (by decide)
    exact ⟨hA, hB, hin, hout, hdisc⟩
  · intro r i j hout
    refine Mach.onlyIn_rd h r i j ?_
    simpa [timeTouch, Footprint.covers] using hout

section
variable {s t : Mach}

@[simp] theorem Mach.timeTouch_gridHoldover : s.onlyIn timeTouch (t.gridHoldover) ↔ s.onlyIn timeTouch t := by
  simp (disch := decide) [Mach.gridHoldover]

@[simp] theorem Mach.timeTouch_setTimeState (st : Nat) : s.onlyIn timeTouch (t.setTimeState st) ↔ s.onlyIn timeTouch t := by
  simp (disch := decide) [Mach.setTimeState]

@[simp] theorem Mach.timeTouch_setFreq (q : Rat) : s.onlyIn timeTouch (t.setFreq q) ↔ s.onlyIn timeTouch t := by
  simp (disch := decide) [Mach.setFreq]

@[simp] theorem Mach.timeTouch_stepClock (q : Rat) : s.onlyIn timeTouch (t.stepClock q) ↔ s.onlyIn timeTouch t := by
  simp (disch := decide) [Mach.stepClock]

@[simp] theorem Mach.timeTouch_suspect (c : Nat) : s.onlyIn timeTouch (t.suspect c) ↔ s.onlyIn timeTouch t := by
  simp (disch := decide) [Mach.suspect]

@[simp] theorem Mach.timeTouch_unsuspect (c : Nat) : s.onlyIn timeTouch (t.unsuspect c) ↔ s.onlyIn timeTouch t := by
  simp (disch := decide) [Mach.unsuspect]

@[simp] theorem Mach.timeTouch_checkGm : s.onlyIn timeTouch (t.checkGm) ↔ s.onlyIn timeTouch t := by
  unfold Mach.checkGm
  extract_lets a
  split
  · rfl
  · split <;> simp (disch := decide)

@[simp] theorem Mach.timeTouch_checkDiverge : s.onlyIn timeTouch (t.checkDiverge) ↔ s.onlyIn timeTouch t := by
  unfold Mach.checkDiverge
  extract_lets a
  split
  · extract_lets d counted cleared
    have hcounted : s.onlyIn timeTouch counted ↔ s.onlyIn timeTouch t := by simp (disch := decide) [counted]
    have hcleared : s.onlyIn timeTouch cleared ↔ s.onlyIn timeTouch t := by simp (disch := decide) [cleared, hcounted]
    simp [hcleared]
  · rfl

@[simp] theorem Mach.timeTouch_failover : s.onlyIn timeTouch (t.failover) ↔ s.onlyIn timeTouch t := by
  unfold Mach.failover
  extract_lets old new used snap failing marked restored stopped reset trusted
  have hmarked : s.onlyIn timeTouch marked ↔ s.onlyIn timeTouch t := by simp (disch := decide) [marked, failing]
  have hrestored : s.onlyIn timeTouch restored ↔ s.onlyIn timeTouch t := by
    unfold restored
    cases snap <;> simp (disch := decide) [hmarked]
  simp (disch := decide) [trusted, reset, stopped, hrestored]

@[simp] theorem Mach.timeTouch_servo (o : Rat) : s.onlyIn timeTouch (t.servo o) ↔ s.onlyIn timeTouch t := by
  unfold Mach.servo
  extract_lets kp ki relocked lim i f
  split <;> simp (disch := decide) [relocked]

@[simp] theorem Mach.timeTouch_timeTrack (o : Rat) : s.onlyIn timeTouch (t.timeTrack o) ↔ s.onlyIn timeTouch t := by
  simp (disch := decide) [Mach.timeTrack]

@[simp] theorem Mach.timeTouch_adopt (p : Nat) : s.onlyIn timeTouch (t.adopt p) ↔ s.onlyIn timeTouch t := by
  unfold Mach.adopt
  extract_lets a free taken
  split
  · split <;> simp (disch := decide) [taken]
  · rfl

@[simp] theorem Mach.timeTouch_accept (p seq : Nat) (o mpd : Rat) : s.onlyIn timeTouch (t.accept p seq o mpd) ↔ s.onlyIn timeTouch t := by
  unfold Mach.accept
  extract_lets sampled adopted offset stepped told held servoed tracked copied shadowed
  have hadopted : s.onlyIn timeTouch adopted ↔ s.onlyIn timeTouch t := by simp (disch := decide) [adopted, sampled]
  have htold : s.onlyIn timeTouch told ↔ s.onlyIn timeTouch t := by simp (disch := decide) [told, stepped, offset, hadopted]
  have hservoed : s.onlyIn timeTouch servoed ↔ s.onlyIn timeTouch t := by simp (disch := decide) [servoed, held, htold]
  have hcopied : s.onlyIn timeTouch copied ↔ s.onlyIn timeTouch t := by simp (disch := decide) [copied, tracked, hservoed]
  simp (disch := decide) [hcopied, shadowed, hadopted]

@[simp] theorem Mach.timeTouch_offset (p seq : Nat) (t1 : Int) (t2 : Nat) :
    s.onlyIn timeTouch (t.offset p seq t1 t2) ↔ s.onlyIn timeTouch t := by
  unfold Mach.offset
  extract_lets pt ns delay
  clear_value delay
  split
  · rfl
  · extract_lets d mpd taken asym o
    have htaken : s.onlyIn timeTouch taken ↔ s.onlyIn timeTouch t := by simp (disch := decide) [taken]
    cases pt.lastO <;> simp (disch := decide) [htaken]

@[simp] theorem Mach.timeTouch_timeRestart : s.onlyIn timeTouch (t.timeRestart) ↔ s.onlyIn timeTouch t := by
  simp (disch := decide) [Mach.timeRestart]

@[simp] theorem Mach.timeTouch_timeApply (a b : Nat) : s.onlyIn timeTouch (t.timeApply a b) ↔ s.onlyIn timeTouch t := by
  simp (disch := decide) [Mach.timeApply]

@[simp] theorem Mach.timeTouch_adjust (a : Nat) (b c : Int) : s.onlyIn timeTouch (t.adjust a b c) ↔ s.onlyIn timeTouch t := by
  unfold Mach.adjust
  extract_lets put
  split <;> simp (disch := decide) [put]

@[simp] theorem Mach.timeTouch_ctrlMove (p : Nat) : s.onlyIn timeTouch (t.ctrlMove p) ↔ s.onlyIn timeTouch t := by
  simp (disch := decide) [Mach.ctrlMove]

@[simp] theorem Mach.timeTouch_ctrlLink : s.onlyIn timeTouch (t.ctrlLink) ↔ s.onlyIn timeTouch t := by
  unfold Mach.ctrlLink
  split <;> simp (disch := decide)


@[simp] theorem timeTouch_timeSourceLost (p cause : Nat) : s.onlyIn timeTouch (timeSourceLost p cause t) ↔ s.onlyIn timeTouch t := by
  unfold timeSourceLost
  extract_lets ready counted dropped both told lost
  have hdropped : s.onlyIn timeTouch dropped ↔ s.onlyIn timeTouch t := by simp (disch := decide) [dropped, counted]
  have hlost : s.onlyIn timeTouch lost ↔ s.onlyIn timeTouch t := by simp (disch := decide) [lost, told, hdropped]
  simp (disch := decide) [hdropped, hlost]

end

section
variable {s : Mach}

theorem ptpSyncReceive_onlyIn (p seq gm : Nat) (two : Bool) (t1 : Nat) (corr : Int) (t2 : Nat) : s.onlyIn timeTouch (ptpSyncReceive p seq gm two t1 corr t2 s) := by
  simp (disch := decide) [ptpSyncReceive]

theorem ptpFollowUpReceive_onlyIn (p seq gm t1 : Nat) (corr : Int) : s.onlyIn timeTouch (ptpFollowUpReceive p seq gm t1 corr s) := by
  unfold ptpFollowUpReceive
  split <;> simp (disch := decide)

theorem servoSnapshot_onlyIn : s.onlyIn timeTouch (servoSnapshot s) := by
  unfold servoSnapshot
  split <;> simp (disch := decide)

theorem standbySilent_onlyIn : s.onlyIn timeTouch (standbySilent s) := by
  simp (disch := decide) [standbySilent]

theorem ptpAnnounceReceive_onlyIn (p : Nat) (d : GmData) : s.onlyIn timeTouch (ptpAnnounceReceive p d s) := by
  unfold ptpAnnounceReceive
  extract_lets old taken changed stored told selected
  have hstored : s.onlyIn timeTouch stored := by simp (disch := decide) [stored]
  have hselected : s.onlyIn timeTouch selected := by simp (disch := decide) [selected, told, hstored]
  simp [hselected]

theorem ptpDelayRespReceive_onlyIn (p seq t4 t2p t3p : Nat) : s.onlyIn timeTouch (ptpDelayRespReceive p seq t4 t2p t3p s) := by
  unfold ptpDelayRespReceive
  split <;> simp (disch := decide)

theorem ptpPdelayReqReceive_onlyIn (p seq : Nat) : s.onlyIn timeTouch (ptpPdelayReqReceive p seq s) := by
  simp (disch := decide) [ptpPdelayReqReceive]

theorem ptpDelayReqSend_onlyIn (p seq t3 : Nat) : s.onlyIn timeTouch (ptpDelayReqSend p seq t3 s) := by
  simp (disch := decide) [ptpDelayReqSend]

theorem failoverTimeout_onlyIn : s.onlyIn timeTouch (failoverTimeout s) := by
  simp (disch := decide) [failoverTimeout]

theorem phaseSlewEnd_onlyIn : s.onlyIn timeTouch (phaseSlewEnd s) := by
  simp (disch := decide) [phaseSlewEnd]

theorem ctrlPortReturn_onlyIn : s.onlyIn timeTouch (ctrlPortReturn s) := by
  simp (disch := decide) [ctrlPortReturn]

theorem ppsPulse_onlyIn : s.onlyIn timeTouch (ppsPulse s) := by
  simp (disch := decide) [ppsPulse]

theorem ptpEvtInEdge_onlyIn (rising : Bool) (t : Nat) : s.onlyIn timeTouch (ptpEvtInEdge rising t s) := by
  simp (disch := decide) [ptpEvtInEdge]

theorem timeCommit_onlyIn (v : Nat) : s.onlyIn timeTouch (timeCommit v s) := by
  simp (disch := decide) [timeCommit]

theorem timeAdjGo_onlyIn (v : Nat) : s.onlyIn timeTouch (timeAdjGo v s) := by
  simp (disch := decide) [timeAdjGo]

theorem timeFailoverGo_onlyIn (v : Nat) : s.onlyIn timeTouch (timeFailoverGo v s) := by
  simp (disch := decide) [timeFailoverGo]

theorem txtsPop_onlyIn (p v : Nat) : s.onlyIn timeTouch (txtsPop p v s) := by
  simp (disch := decide) [txtsPop]

theorem evtqPop_onlyIn (v : Nat) : s.onlyIn timeTouch (evtqPop v s) := by
  simp (disch := decide) [evtqPop]

theorem timeNowNsRead_onlyIn : s.onlyIn timeTouch (timeNowNsRead s) := by
  simp (disch := decide) [timeNowNsRead]

theorem gridLock_onlyIn : s.onlyIn timeTouch (gridLock s) := by
  simp (disch := decide) [gridLock]

theorem gridSlewLong_onlyIn : s.onlyIn timeTouch (gridSlewLong s) := by
  simp (disch := decide) [gridSlewLong]

theorem Mach.latFloor_onlyIn {k : Nat} (hk : k < 4) : s.onlyIn timeTouch (s.latFloor k) := by
  unfold Mach.latFloor
  extract_lets c f unsup noPath absent slave term put flagged lost done
  have hdone : s.onlyIn timeTouch done := by simp (disch := simp +decide [Reg.lt_n1 hk, hk]) [done, lost, flagged, put]
  simp (disch := simp +decide [Reg.lt_n1 hk, hk]) [hdone]

theorem latencyRefresh_onlyIn (k inp out q : Nat) : s.onlyIn timeTouch (latencyRefresh k inp out q s) := by
  unfold latencyRefresh
  split
  · simp
  · have hk : k < 4 := by omega
    extract_lets floored bad used floor
    have hfloored : s.onlyIn timeTouch floored := Mach.latFloor_onlyIn hk
    split
    · exact hfloored
    · split
      · exact hfloored
      · extract_lets prog pass ratio breach put flagged
        have hput : s.onlyIn timeTouch put := by simp (disch := simp +decide [Reg.lt_n1 hk, hk]) [put, used, hfloored]
        have hflagged : s.onlyIn timeTouch flagged := by simp (disch := simp +decide [Reg.lt_n1 hk, hk]) [flagged, hput]
        simp (disch := simp +decide [Reg.lt_n1 hk, hk]) [hflagged]

end
/-! ## The serial ports -/

/-- What a serial-port row may touch. -/
def aspTouch : Footprint := ⟨[.live, .err, .asp, .irqN], [(0x200000, some 0x300000), (0xD00000, some 0xE00000)]⟩

theorem aspFrame_of_onlyIn {s t : Mach} (h : s.onlyIn aspTouch t) : aspFrameOf s t := by
  have part : ∀ p, p ∉ aspTouch.parts → s.samePart t p := h.1
  refine ⟨⟨part .variant (by decide), part .hold (by decide), part .pll (by decide), part .sys (by decide)⟩,
    ⟨part .bus (by decide), part .dma (by decide), part .ddr (by decide)⟩, ⟨part .cmd (by decide), part .sch (by decide)⟩,
    ?_, part .rend (by decide), part .tm (by decide), part .mem (by decide), part .free (by decide), ?_⟩
  · obtain ⟨hA, hB⟩ := part .net (by decide)
    obtain ⟨hin, hout, hdisc⟩ := part .strm (by decide)
    exact ⟨hA, hB, hin, hout, hdisc⟩
  · intro r i j hout
    refine Mach.onlyIn_rd h r i j ?_
    simpa [aspTouch, Footprint.covers] using hout

/-- The bank of a port exists. -/
theorem bank_lt {n : Nat} (h : n < 64) : n / 8 < 8 := by omega

section
variable {s t : Mach} {n : Nat}

@[simp] theorem Mach.aspTouch_aspSet (hn : n < 64) (st : Nat) : s.onlyIn aspTouch (t.aspSet n st) ↔ s.onlyIn aspTouch t := by
  simp (disch := simp +decide [Reg.lt_n1 hn, hn]) [Mach.aspSet]

@[simp] theorem Mach.aspTouch_aspReload : s.onlyIn aspTouch (t.aspReload) ↔ s.onlyIn aspTouch t := by
  simp (disch := decide) [Mach.aspReload]

@[simp] theorem Mach.aspTouch_aspQuit (hn : n < 64) : s.onlyIn aspTouch (t.aspQuit n) ↔ s.onlyIn aspTouch t := by
  simp (disch := simp +decide [Reg.lt_n1 hn, hn]) [Mach.aspQuit]

@[simp] theorem Mach.aspTouch_aspReacquire (hn : n < 64) (c : Nat) : s.onlyIn aspTouch (t.aspReacquire n c) ↔ s.onlyIn aspTouch t := by
  simp (disch := simp +decide [Reg.lt_n1 hn, hn]) [Mach.aspReacquire]

@[simp] theorem Mach.aspTouch_aspApply (hn : n < 64) (cfg : Nat) : s.onlyIn aspTouch (t.aspApply n cfg) ↔ s.onlyIn aspTouch t := by
  unfold Mach.aspApply
  extract_lets changed put shown keep masked live acquired
  have hshown : s.onlyIn aspTouch shown ↔ s.onlyIn aspTouch t := by simp (disch := simp +decide [Reg.lt_n1 hn, hn]) [shown, put]
  have hlive : s.onlyIn aspTouch live ↔ s.onlyIn aspTouch t := by simp (disch := simp +decide [Reg.lt_n1 hn, hn]) [live, masked, hshown]
  have hacquired : s.onlyIn aspTouch acquired ↔ s.onlyIn aspTouch t := by simp (disch := simp +decide [Reg.lt_n1 hn, hn]) [acquired, hlive]
  simp [hacquired]

@[simp] theorem Mach.aspTouch_aspEnable (hn : n < 64) : s.onlyIn aspTouch (t.aspEnable n) ↔ s.onlyIn aspTouch t := by
  simp (disch := simp +decide [Reg.lt_n1 hn, hn]) [Mach.aspEnable]

@[simp] theorem Mach.aspTouch_aspMask (hn : n < 64) (v : Nat) (late : Bool) : s.onlyIn aspTouch (t.aspMask n v late) ↔ s.onlyIn aspTouch t := by
  simp (disch := simp +decide [Reg.lt_n1 hn, hn]) [Mach.aspMask]

@[simp] theorem Mach.aspTouch_aspEdge (hn : n < 64) : s.onlyIn aspTouch (t.aspEdge n) ↔ s.onlyIn aspTouch t := by
  unfold Mach.aspEdge
  split <;> simp (disch := simp +decide [Reg.lt_n1 hn, hn])

@[simp] theorem Mach.aspTouch_aspLoss (hn : n < 64) (c : Nat) (p : Bool) : s.onlyIn aspTouch (t.aspLoss n c p) ↔ s.onlyIn aspTouch t := by
  unfold Mach.aspLoss
  split
  · rfl
  · simp (disch := simp +decide [Reg.lt_n1 hn, hn])

@[simp] theorem Mach.aspTouch_aspEnter (hn : n < 64) (c : Nat) : s.onlyIn aspTouch (t.aspEnter n c) ↔ s.onlyIn aspTouch t := by
  unfold Mach.aspEnter
  extract_lets rated told cleared edged
  have hedged : s.onlyIn aspTouch edged ↔ s.onlyIn aspTouch t := by simp (disch := simp +decide [Reg.lt_n1 hn, hn]) [edged, cleared, told, rated]
  simp (disch := simp +decide [Reg.lt_n1 hn, hn]) [hedged]

@[simp] theorem Mach.aspTouch_aspWrong (hn : n < 64) : s.onlyIn aspTouch (t.aspWrong n) ↔ s.onlyIn aspTouch t := by
  simp (disch := simp +decide [Reg.lt_n1 hn, hn]) [Mach.aspWrong]

@[simp] theorem Mach.aspTouch_aspAcquire (hn : n < 64) (bits ps : Nat) : s.onlyIn aspTouch (t.aspAcquire n bits ps) ↔ s.onlyIn aspTouch t := by
  unfold Mach.aspAcquire
  extract_lets rate
  split
  · simp (disch := simp +decide [Reg.lt_n1 hn, hn])
  · split
    · rfl
    · split
      · split <;> simp (disch := simp +decide [Reg.lt_n1 hn, hn])
      · simp (disch := simp +decide [Reg.lt_n1 hn, hn])

@[simp] theorem Mach.aspTouch_aspPhase (hn : n < 64) (ph : Int) : s.onlyIn aspTouch (t.aspPhase n ph) ↔ s.onlyIn aspTouch t := by
  unfold Mach.aspPhase
  extract_lets put ok run counted synced hz f
  have hput : s.onlyIn aspTouch put ↔ s.onlyIn aspTouch t := by simp (disch := simp +decide [Reg.lt_n1 hn, hn]) [put]
  have hsynced : s.onlyIn aspTouch synced ↔ s.onlyIn aspTouch t := by simp (disch := simp +decide [Reg.lt_n1 hn, hn]) [synced, counted, hput]
  simp (disch := simp +decide [Reg.lt_n1 hn, hn]) [hput, hsynced]

@[simp] theorem Mach.aspTouch_aspKeep (slots : List Nat) (g l : Bool) : s.onlyIn aspTouch (t.aspKeep n slots g l) ↔ s.onlyIn aspTouch t := by
  simp (disch := decide) [Mach.aspKeep]

@[simp] theorem Mach.aspTouch_aspRunFrame (hn : n < 64) (b ps : Nat) (slots : List Nat) (ph : Int) (held : Nat) : s.onlyIn aspTouch (t.aspRunFrame n b ps slots ph held) ↔ s.onlyIn aspTouch t := by
  unfold Mach.aspRunFrame
  extract_lets a hz bad glitch hist slip counted fill taken
  have hcounted : s.onlyIn aspTouch counted ↔ s.onlyIn aspTouch t := by simp (disch := simp +decide [Reg.lt_n1 hn, hn]) [counted]
  have htaken : s.onlyIn aspTouch taken ↔ s.onlyIn aspTouch t := by simp (disch := simp +decide [Reg.lt_n1 hn, hn]) [taken, hcounted]
  simp (disch := simp +decide [Reg.lt_n1 hn, hn]) [htaken]

@[simp] theorem Mach.aspTouch_aspMeasure (hn : n < 64) (c : Nat) : s.onlyIn aspTouch (t.aspMeasure n c) ↔ s.onlyIn aspTouch t := by
  unfold Mach.aspMeasure
  extract_lets mhz a first rates sum tight rated stable st off told
  have hstable : s.onlyIn aspTouch stable ↔ s.onlyIn aspTouch t := by simp (disch := simp +decide [Reg.lt_n1 hn, hn]) [stable, rated]
  have htold : s.onlyIn aspTouch told ↔ s.onlyIn aspTouch t := by simp (disch := simp +decide [Reg.lt_n1 hn, hn]) [told, hstable]
  simp (disch := simp +decide [Reg.lt_n1 hn, hn]) [htold]

end

section
variable {s : Mach}

/-- Ports of a bank, one after another. -/
theorem Mach.aspTouch_eachPort {b : Nat} (hb : b < 8) (f : Mach → Nat → Mach) (h : ∀ u : Mach, ∀ n < 64, u.onlyIn aspTouch (f u n)) :
    s.onlyIn aspTouch (s.each (upto 8) (fun u k => f u (8 * b + k))) := by
  rw [Mach.onlyIn_each]
  · simp
  · intro u k hk
    exact h u _ (by have := mem_upto _ _ hk; omega)

theorem aspCommit_onlyIn (n v : Nat) : s.onlyIn aspTouch (aspCommit n v s) := by
  unfold aspCommit
  by_cases hn : n < 64
  · simp (disch := simp +decide [Reg.lt_n1 hn, hn]) [not_le.mpr hn]
  · simp [not_lt.mp hn]

theorem aspCtrlWrite_onlyIn (n v : Nat) : s.onlyIn aspTouch (aspCtrlWrite n v s) := by
  unfold aspCtrlWrite Mach.aspCtrl
  split
  · simp
  · have hn : n < 64 := by omega
    split <;> rename_i heq <;> split at heq <;> cases heq <;> simp (disch := simp +decide [Reg.lt_n1 hn, hn])

theorem aspMaskWrite_onlyIn (n v : Nat) (late : Bool) : s.onlyIn aspTouch (aspMaskWrite n v late s) := by
  unfold aspMaskWrite
  by_cases hn : n < 64
  · simp (disch := simp +decide [Reg.lt_n1 hn, hn]) [not_le.mpr hn]
  · simp [not_lt.mp hn]

theorem aspFrame_onlyIn (n b ps : Nat) (slots : List Nat) (ph : Int) (held : Nat) : s.onlyIn aspTouch (aspFrame n b ps slots ph held s) := by
  unfold aspFrame
  split
  · simp
  · have hn : n < 64 := by omega
    split <;> simp (disch := simp +decide [Reg.lt_n1 hn, hn])

theorem aspClockTimeout_onlyIn (n cause : Nat) : s.onlyIn aspTouch (aspClockTimeout n cause s) := by
  unfold aspClockTimeout
  split
  · simp
  · have hn : n < 64 := by omega
    have hb := bank_lt hn
    split
    · split
      · simp
      · refine Mach.onlyIn_trans (t := s.sf F.ASP_BANK_STAT_PRESENT 0 (n / 8)) (by simp (disch := simp +decide [Reg.lt_n1 hn, hn, Reg.lt_n1 hb, hb])) ?_
        exact Mach.aspTouch_eachPort hb (fun u p => if u.aspMaster p then u.aspLoss p 5 false else u) fun u p hp => by simp (disch := simp +decide [Reg.lt_n1 hn, hn, Reg.lt_n1 hb, hb, Reg.lt_n1 hp, hp])
    · simp (disch := simp +decide [Reg.lt_n1 hn, hn, Reg.lt_n1 hb, hb])

theorem aspClockReturn_onlyIn (n : Nat) : s.onlyIn aspTouch (aspClockReturn n s) := by
  unfold aspClockReturn
  by_cases hn : n < 64
  · simp (disch := simp +decide [Reg.lt_n1 hn, hn]) [not_le.mpr hn]
  · simp [not_lt.mp hn]

theorem aspMclkMeasure_onlyIn (b hz : Nat) : s.onlyIn aspTouch (aspMclkMeasure b hz s) := by
  unfold aspMclkMeasure
  split
  · simp
  · rename_i hb
    have hb : b < 8 := by simp at hb; omega
    extract_lets k near fam shown
    have hshown : s.onlyIn aspTouch shown := by simp (disch := simp +decide [Reg.lt_n1 hb, hb]) [shown]
    clear_value fam
    cases fam <;> simp (disch := simp +decide [Reg.lt_n1 hb, hb]) [hshown]

theorem aspBankCfgWrite_onlyIn (b v : Nat) : s.onlyIn aspTouch (aspBankCfgWrite b v s) := by
  unfold aspBankCfgWrite
  split
  · simp
  · rename_i hb
    have hb : b < 8 := by simp at hb; omega
    unfold Mach.aspBank
    extract_lets same put src present shown
    have hput : s.onlyIn aspTouch put := by simp (disch := simp +decide [Reg.lt_n1 hb, hb]) [put]
    have hshown : s.onlyIn aspTouch shown := by simp (disch := simp +decide [Reg.lt_n1 hb, hb]) [shown, present, hput]
    refine Mach.onlyIn_ite _ _ hput (Mach.onlyIn_trans hshown ?_)
    exact Mach.aspTouch_eachPort hb (fun u p => if u.aspMaster p then u.aspReacquire p 6 else u) fun u p hp => by simp (disch := simp +decide [Reg.lt_n1 hb, hb, Reg.lt_n1 hp, hp])

theorem aspCntClr_onlyIn (n v : Nat) : s.onlyIn aspTouch (aspCntClr n v s) := by
  unfold aspCntClr
  by_cases hn : n < 64
  · simp (disch := simp +decide [Reg.lt_n1 hn, hn]) [not_le.mpr hn, Mach.aspClear]
  · simp [not_lt.mp hn]

theorem ioaspBrownOut_onlyIn (b : Nat) (bad : Bool) : s.onlyIn aspTouch (ioaspBrownOut b bad s) := by
  unfold ioaspBrownOut
  split
  · simp
  · exact Mach.aspTouch_eachPort (by omega)
      (fun u p => if bad then u.aspLoss p 5 false else if u.aspState p = 3 then u.aspSet p 1 else u) fun u p hp => by simp (disch := simp +decide [Reg.lt_n1 hp, hp])

end

/-! ## Rate measurements (R58, R394) -/

/-- What a rate measurement may touch: a serial port, and the converters of the rendering. -/
def rateTouch : Footprint :=
  ⟨[.err, .asp, .rend, .irqN], [(0x200000, some 0x300000), (0x800000, some 0x900000), (0xD00000, some 0xE00000)]⟩

theorem rateFrame_of_onlyIn {s t : Mach} (h : s.onlyIn rateTouch t) : rateFrame s t := by
  have part : ∀ p, p ∉ rateTouch.parts → s.samePart t p := h.1
  refine ⟨⟨part .variant (by decide), part .hold (by decide), part .pll (by decide), part .sys (by decide)⟩,
    ⟨part .bus (by decide), part .dma (by decide), part .ddr (by decide)⟩, ⟨part .cmd (by decide), part .sch (by decide)⟩,
    ?_, part .live (by decide), part .tm (by decide), part .mem (by decide), part .free (by decide), ?_⟩
  · obtain ⟨hA, hB⟩ := part .net (by decide)
    obtain ⟨hin, hout, hdisc⟩ := part .strm (by decide)
    exact ⟨hA, hB, hin, hout, hdisc⟩
  · intro r i j hout
    refine Mach.onlyIn_rd h r i j ?_
    simpa [rateTouch, Footprint.covers] using hout

section
variable {s t : Mach} {n : Nat}

@[simp] theorem Mach.rateTouch_aspMeasure (hn : n < 64) (c : Nat) : s.onlyIn rateTouch (t.aspMeasure n c) ↔ s.onlyIn rateTouch t := by
  unfold Mach.aspMeasure
  extract_lets mhz a first rates sum tight rated stable st off told
  have hstable : s.onlyIn rateTouch stable ↔ s.onlyIn rateTouch t := by simp (disch := simp +decide [Reg.lt_n1 hn, hn]) [stable, rated]
  have htold : s.onlyIn rateTouch told ↔ s.onlyIn rateTouch t := by simp (disch := simp +decide [Reg.lt_n1 hn, hn]) [told, hstable]
  simp (disch := simp +decide [Reg.lt_n1 hn, hn]) [htold]

/-- Converters that lose lock are the rendering's. -/
@[simp] theorem Mach.rateTouch_asrcDrop (p : Nat → Bool) : s.onlyIn rateTouch (t.asrcDrop p) ↔ s.onlyIn rateTouch t := by
  unfold Mach.asrcDrop
  extract_lets held hit told drop
  have hdropped : s.onlyIn rateTouch (t.each hit fun u e => u.onChan e.1 fun c =>
      { c with route := { c.route with cur := drop c.route.cur, old := c.route.old.map drop } }) ↔ s.onlyIn rateTouch t := by
    refine Mach.onlyIn_each _ _ fun u e _ => ?_
    simp (disch := decide) [Mach.onChan]
  simp (disch := decide) [hdropped]

theorem aspRateMeasure_onlyIn (n count : Nat) : s.onlyIn rateTouch (aspRateMeasure n count s) := by
  unfold aspRateMeasure
  by_cases hn : n < 64
  · simp (disch := simp +decide [Reg.lt_n1 hn, hn]) [not_le.mpr hn]
  · simp [not_lt.mp hn]

end

/-! ## The frames -/

theorem keeps_timeFrame {c : Instr} {f : Mach → Mach} (hc : ∀ s, exec c s = take c.wellFormed f s)
    (hf : ∀ m : Mach, m.onlyIn timeTouch (f m)) : keeps timeFrame c := keeps_of_take hc fun m => timeFrame_of_onlyIn (hf m)

theorem keeps_aspFrame {c : Instr} {f : Mach → Mach} (hc : ∀ s, exec c s = take c.wellFormed f s)
    (hf : ∀ m : Mach, m.onlyIn aspTouch (f m)) : keeps aspFrameOf c := keeps_of_take hc fun m => aspFrame_of_onlyIn (hf m)

/-- Settles O42: each row stays within the footprint of its chapter. -/
theorem timeAndSerialPortFrames : Obligations.TimeAndSerialPortFrames := by
  unfold Obligations.TimeAndSerialPortFrames
  refine ⟨?_, ?_, ?_, ?_, ?_, ?_, ?_, ?_, ?_, ?_, ?_, ?_, ?_, ?_, ?_, ?_, ?_, ?_, ?_, ?_, ?_, ?_, ?_, ?_, ?_, ?_, ?_, ?_, ?_, ?_, ?_, ?_, ?_, ?_⟩
  · exact fun _ _ _ _ _ _ _ => keeps_timeFrame (fun _ => rfl) fun _ => ptpSyncReceive_onlyIn ..
  · exact fun _ _ _ _ _ => keeps_timeFrame (fun _ => rfl) fun _ => ptpFollowUpReceive_onlyIn ..
  · exact keeps_timeFrame (fun _ => rfl) fun _ => servoSnapshot_onlyIn
  · exact keeps_timeFrame (fun _ => rfl) fun _ => standbySilent_onlyIn
  · exact fun _ _ => keeps_timeFrame (fun _ => rfl) fun _ => ptpAnnounceReceive_onlyIn ..
  · exact fun _ _ _ _ _ => keeps_timeFrame (fun _ => rfl) fun _ => ptpDelayRespReceive_onlyIn ..
  · exact fun _ _ => keeps_timeFrame (fun _ => rfl) fun _ => ptpPdelayReqReceive_onlyIn ..
  · exact fun _ _ _ => keeps_timeFrame (fun _ => rfl) fun _ => ptpDelayReqSend_onlyIn ..
  · exact fun _ _ => keeps_timeFrame (fun _ => rfl) fun m => (timeTouch_timeSourceLost ..).mpr (m.onlyIn_refl _)
  · exact keeps_timeFrame (fun _ => rfl) fun _ => failoverTimeout_onlyIn
  · exact keeps_timeFrame (fun _ => rfl) fun _ => phaseSlewEnd_onlyIn
  · exact keeps_timeFrame (fun _ => rfl) fun _ => ctrlPortReturn_onlyIn
  · exact keeps_timeFrame (fun _ => rfl) fun _ => ppsPulse_onlyIn
  · exact fun _ _ => keeps_timeFrame (fun _ => rfl) fun _ => ptpEvtInEdge_onlyIn ..
  · exact fun _ => keeps_timeFrame (fun _ => rfl) fun _ => timeCommit_onlyIn ..
  · exact fun _ => keeps_timeFrame (fun _ => rfl) fun _ => timeAdjGo_onlyIn ..
  · exact fun _ => keeps_timeFrame (fun _ => rfl) fun _ => timeFailoverGo_onlyIn ..
  · exact fun _ _ => keeps_timeFrame (fun _ => rfl) fun _ => txtsPop_onlyIn ..
  · exact fun _ => keeps_timeFrame (fun _ => rfl) fun _ => evtqPop_onlyIn ..
  · exact keeps_timeFrame (fun _ => rfl) fun _ => timeNowNsRead_onlyIn
  · exact keeps_timeFrame (fun _ => rfl) fun _ => gridLock_onlyIn
  · exact keeps_timeFrame (fun _ => rfl) fun _ => gridSlewLong_onlyIn
  · exact fun _ _ => keeps_timeFrame (fun _ => rfl) fun _ => latencyRefresh_onlyIn ..
  · exact fun _ _ => keeps_aspFrame (fun _ => rfl) fun _ => ioaspBrownOut_onlyIn ..
  · exact fun _ _ _ _ _ _ => keeps_aspFrame (fun _ => rfl) fun _ => aspFrame_onlyIn ..
  · exact fun _ _ => keeps_aspFrame (fun _ => rfl) fun _ => aspClockTimeout_onlyIn ..
  · exact fun _ => keeps_aspFrame (fun _ => rfl) fun _ => aspClockReturn_onlyIn ..
  · exact fun _ _ => keeps_of_take (fun _ => rfl) fun _ => rateFrame_of_onlyIn (aspRateMeasure_onlyIn ..)
  · exact fun _ _ => keeps_aspFrame (fun _ => rfl) fun _ => aspMclkMeasure_onlyIn ..
  · exact fun _ _ => keeps_aspFrame (fun _ => rfl) fun _ => aspCommit_onlyIn ..
  · exact fun _ _ => keeps_aspFrame (fun _ => rfl) fun _ => aspCtrlWrite_onlyIn ..
  · exact fun _ _ _ => keeps_aspFrame (fun _ => rfl) fun _ => aspMaskWrite_onlyIn ..
  · exact fun _ _ => keeps_aspFrame (fun _ => rfl) fun _ => aspBankCfgWrite_onlyIn ..
  · exact fun _ _ => keeps_aspFrame (fun _ => rfl) fun _ => aspCntClr_onlyIn ..

end Sys2Proof.Machine
end

section
/-! SUPPORT. Checks of a packet in order, as conditions, and commands of opcodes that answer at once (R262 to R264). -/
namespace Sys2Proof.Machine

@[simp] theorem firstOf_nil : firstOf [] = none := rfl

/-- A list of checks passes when its first check and the rest pass. -/
@[simp] theorem firstOf_cons_eq_none {a : Option Res} {l : List (Option Res)} :
    firstOf (a :: l) = none ↔ a = none ∧ firstOf l = none := by cases a <;> simp [firstOf]

@[simp] theorem failIf_eq_none {c : Bool} {st det : Nat} {d : List Byte} : failIf c st det d = none ↔ c = false := by
  cases c <;> simp [failIf]

@[simp] theorem failOpen_eq_none {c : Bool} {st : Nat} : failOpen c st = none ↔ c = false := failIf_eq_none

@[simp] theorem lenIs_eq_none {p : List Byte} {n : Nat} : lenIs p n = none ↔ lenOf p = n := by simp [lenIs]

@[simp] theorem within_eq_none {p : List Byte} {o n lo hi : Nat} :
    within p o n lo hi = none ↔ lo ≤ pf p o n ∧ pf p o n ≤ hi := by simp [within, inRange]

@[simp] theorem codeTo_eq_none {p : List Byte} {o n hi : Nat} : codeTo p o n hi = none ↔ pf p o n ≤ hi := by simp [codeTo]

/-- A list operand that fits passes the checks of its length and its head. -/
theorem listChecks_ok {p : List Byte} {l size top : Nat} (h : listFits p l size top) {r : List (Option Res)}
    (hr : firstOf r = none) : firstOf (listLen p l size :: listHead p l top :: r) = none := by
  simp [listLen_ok h, listHead_ok h, hr]

/-- Checks that pass lead to the work. -/
theorem Mach.guard_of_none {s : Mach} {c : Option Res} {f : Mach → Mach × Res} {x : Mach × Res} (hc : c = none) (hf : f s = x) :
    s.guard c f = x := by rw [hc]; exact hf

/-- An opcode that answers at once. -/
theorem issue_replies {op : Nat} {f : OpBody} {o : Origin} {p : List Byte} {obs : List Nat} {s : State} {m : Mach}
    {data : List Byte} (h : s.takes o) (hop : op ≠ 0x0803) (hf : f o p obs s.m = (m, Res.ok data)) :
    issue op f o p obs s = .next (s.gives (m.replies o op data)) :=
  issue_takes h hop hf

/-- Folding two changes that agree on the members of a list. -/
theorem Mach.each_congr {α : Type} {f g : Mach → α → Mach} : ∀ {l : List α} {s : Mach}, (∀ t, ∀ x ∈ l, f t x = g t x) →
    s.each l f = s.each l g
  | [], _, _ => rfl
  | x :: l, s, h => by
    rw [Mach.each_cons, Mach.each_cons, h s x (by simp)]
    exact Mach.each_congr fun t y hy => h t y (by simp [hy])

/-- A part of a run of bytes that are zero is zero. -/
theorem pf_eq_zero_of_cover {p : List Byte} {o n : Nat} (h : pf p o n = 0) (o' k : Nat) (h16 : 16 ≤ o) (ho : o ≤ o') (hk : o' + k ≤ o + n) :
    pf p o' k = 0 := by
  have hz := allZero_of_leNat _ h
  have hs : slice p (o' - 16) k = slice (slice p (o - 16) n) (o' - o) k := by
    unfold slice
    rw [List.drop_take, List.take_take, List.drop_drop, Nat.min_eq_left (by omega)]
    congr 2; omega
  have hall : ∀ b ∈ slice p (o' - 16) k, b = 0 := by
    rw [hs]
    intro b hb
    have hm := List.mem_of_mem_drop (List.mem_of_mem_take hb)
    simpa using List.all_eq_true.1 hz b hm
  unfold pf fld
  rw [List.eq_replicate_of_mem hall]
  exact Sys2Proof.Tests.leNat_zeros _

end Sys2Proof.Machine
end

section
/-! PROOF. Serial-port opcodes (R349, R350). -/
namespace Sys2Proof.Machine

theorem below_eq_none {n off : Nat} {e : List Byte} : below n off e = none ↔ fld e 0 1 < n := by
  simp [below]

/-- The code of an accepted master-clock ratio. -/
theorem findPos_ratio {r : Nat} (h : r ∈ [128, 256, 512]) :
    (findPos (fun x => x == r) [128, 256, 512]) = some (if r = 128 then 0 else if r = 256 then 1 else 2) := by
  simp only [List.mem_cons, List.not_mem_nil, or_false] at h
  obtain rfl | rfl | rfl := h <;> decide

/-- Settles O52: every list passes its checks, and the opcode's work is the one the clause states. -/
theorem serialPortOpcodes : Obligations.SerialPortOpcodes := by
  unfold Obligations.SerialPortOpcodes
  refine ⟨?_, ?_, ?_, ?_, ?_⟩
  · intro s o p obs h hl h1 he hload
    refine issue_replies h (by decide) ?_
    unfold opAspConfig
    refine Mach.guard_of_none ?_ rfl
    refine listChecks_ok hl ?_
    simp only [firstOf_cons_eq_none, firstOf_nil, and_true]
    exact ⟨scan_ok (fun x hx => ⟨below_eq_none.2 (he x hx).1, (he x hx).2⟩) h1, hload⟩
  · intro s o p obs h hl h1 he
    refine issue_replies h (by decide) ?_
    unfold opAspSlotmask
    refine Mach.guard_of_none ?_ rfl
    refine listChecks_ok hl ?_
    simp only [firstOf_cons_eq_none, firstOf_nil, and_true]
    refine scan_ok (fun x hx => ?_) h1
    obtain ⟨hn, hz, hm⟩ := he x hx
    exact ⟨below_eq_none.2 hn, by simp [hz, hm]⟩
  · intro s o p obs t h hl h1 he ht hload
    subst ht
    refine issue_replies h (by decide) ?_
    unfold opAspEnable
    refine Mach.guard_of_none ?_ rfl
    refine listChecks_ok hl ?_
    simp only [firstOf_cons_eq_none, firstOf_nil, and_true]
    refine ⟨scan_ok (fun x hx => ?_) h1, hload⟩
    obtain ⟨hn, hc, hz⟩ := he x hx
    exact ⟨below_eq_none.2 hn, by simp [hz, hc]⟩
  · intro s o p obs h hl h1 he
    refine issue_replies h (by decide) ?_
    unfold opAspMclk
    refine Mach.guard_of_none ?_ ?_
    · refine listChecks_ok hl ?_
      simp only [firstOf_cons_eq_none, firstOf_nil, and_true]
      refine scan_ok (fun x hx => ?_) h1
      obtain ⟨hn, hc, hr, hz⟩ := he x hx
      exact ⟨below_eq_none.2 hn, by simp [hz, hc, findPos_ratio hr]⟩
    · refine Prod.ext (Mach.each_congr fun t x hx => ?_) rfl
      simp only [findPos_ratio (he x hx).2.2.1, Option.getD_some]
  · intro s o p obs h hl hn h1 h2 hz
    refine issue_replies h (by decide) ?_
    unfold opAspStatus
    refine Mach.guard_of_none ?_ ?_
    · have h18 := pf_eq_zero_of_cover hz 18 1
      have h19 := pf_eq_zero_of_cover hz 19 1
      simp [firstN, resv_ok, *]
      omega
    · have h18 := pf_eq_zero_of_cover hz 18 1
      simp [h18]

end Sys2Proof.Machine
end

section
/-! SUPPORT. Fields of a packet by their parts, and the checks and reads that opcodes share (R290 to R297). -/
namespace Sys2Proof.Machine

/-- A field is its low bytes and, above them, the bytes that follow. -/
theorem fld_add (l : List Byte) (o a b : Nat) : fld l o (a + b) = fld l o a + 256 ^ a * fld l (o + a) b := by
  unfold fld slice
  rw [List.take_add, List.drop_drop]
  generalize hx : List.drop o l = x
  have hy : List.drop (o + a) l = x.drop a := by rw [← hx, List.drop_drop]
  rw [hy]
  clear hx hy
  induction a generalizing x with
  | zero => simp [leNat]
  | succ a ih =>
    cases x with
    | nil => simp [leNat]
    | cons c r =>
      have h := ih r
      simp only [List.take_succ_cons, List.cons_append, leNat, List.drop_succ_cons, h]
      ring

/-- A field is its low bytes and, above them, the bytes that follow. -/
theorem pf_add (p : List Byte) (o a b : Nat) (h : 16 ≤ o) : pf p o (a + b) = pf p o a + 256 ^ a * pf p (o + a) b := by
  unfold pf
  rw [fld_add, show o - 16 + a = o + a - 16 by omega]

@[simp] theorem Mach.selChk_eq_none {s : Mach} {mux v off : Nat} : s.selChk mux v off = none ↔ s.selBad mux v = none := by
  simp [Mach.selChk]

@[simp] theorem Mach.recChk_eq_none {s : Mach} {kind : Nat} {l : List Byte} {f : Nat → Nat} :
    s.recChk kind l f = none ↔ s.recBad kind l = none := by simp [Mach.recChk]

/-- The checks of a buffer reference, with the opcode's own check of its LEN among them. -/
theorem Mach.bufChk_with {s : Mach} {p : List Byte} {o : Nat} {c : Option Res} :
    s.bufChk p o c = none ↔ s.bufChk p o = none ∧ c = none := by
  simp only [Mach.bufChk, firstOf_cons_eq_none, firstOf_nil]
  tauto

@[simp] theorem entriesOf_length (p : List Byte) (l size : Nat) : (entriesOf p l size).length = countOf p l := by
  simp [entriesOf, upto]

/-- A source buffer that can be read hands over its bytes. -/
theorem Mach.source_ok {s : Mach} {b : Buf} {err : Bool} {f : List Byte → Mach → Mach × Res} (h : s.bufErr b false err = false) :
    s.source b err f = f (s.bufRead b) (s.bufTouch b) := by simp [Mach.source, h]

/-- Items that keep no record for themselves find room, or need none: the command is accepted or waits for its token. -/
theorem Mach.putPlain_st {s : Mach} {p : List Byte} {n : Nat} (h : s.timeRoom p n) (o : Origin) (op : Nat)
    {l : List (Nat × Nat × List Byte)} (hn : l.length = n) : (s.putPlain o op (s.effOf p) l).2.st ≤ 1 := by
  unfold Mach.timeRoom at h
  unfold Mach.putPlain
  cases he : s.effOf p with
  | imm => simp [Mach.latchPuts, Res.nextTick, ST.OK]
  | next late => simp [Mach.latchPuts, Res.nextTick, ST.OK]
  | scene => simp [Res.accepted, ST.ACCEPTED]
  | time t =>
    have hroom : s.timedCount + l.length ≤ 4096 := by simpa [he, hn] using h
    simp [Mach.timePuts, Res.accepted, ST.ACCEPTED, Nat.not_lt.mpr hroom]

/-- An opcode that answers by its own result. -/
theorem issue_leaves {op : Nat} {f : OpBody} {o : Origin} {p : List Byte} {obs : List Nat} {s : State} {x : Mach × Res}
    (h : s.takes o) (hop : op ≠ 0x0803) (hf : f o p obs s.m = x) :
    issue op f o p obs s = .next (s.gives (Mach.leaves x o op)) :=
  issue_takes h hop hf

end Sys2Proof.Machine
end

section
/-! PROOF. Routing opcodes (R334 to R338). -/
namespace Sys2Proof.Machine

/-- ROUTE_MATRIX_SET is always answered when it names a buffer (R293): the command that runs asks for its reply. -/
theorem issue_matrix {f : OpBody} {o : Origin} {p : List Byte} {obs : List Nat} {s : State} (h : s.takes o) (hmode : pf p 32 1 = 1) :
    issue 0x0803 f o p obs s
      = .next (s.gives (Mach.leaves (f { o with ack := true } p obs s.m) { o with ack := true } 0x0803)) := by
  obtain ⟨hlive, hok, hready, _⟩ := h
  rw [issue_live _ f o p obs s hok hlive]
  unfold runOp
  have hp : fld p 16 1 = 1 := hmode
  simp only [hready, hp, Bool.not_true, Bool.false_eq_true, if_false, decide_true, Bool.true_and, beq_self_eq_true, if_true]
  rfl

/-- Rows of a buffer that pass their checks are placed, under the origin of the command that runs (R335). -/
theorem opRouteMatrixSet_rows {s : Mach} {o : Origin} {p : List Byte} {obs : List Nat} (hl : lenOf p = 56) (ht : s.timingChk 14 p = none)
    (hm : pf p 32 4 = 1) (hbuf : s.bufChk p 36 = none) (h1 : 1 ≤ pf p 44 4) (hdiv : pf p 44 4 % 2052 = 0) (htop : pf p 44 4 ≤ 128 * 2052)
    (herr : s.bufErr (bufOf p 36) false (obsOn obs 0) = false)
    (hrows : rowsBad (s.bufTouch (bufOf p 36)) (chunks 2052 128 (s.bufRead (bufOf p 36))) = none) :
    opRouteMatrixSet o p obs s = (s.bufTouch (bufOf p 36)).putPlain o 0x0803 ((s.bufTouch (bufOf p 36)).effOf p)
      ((chunks 2052 128 (s.bufRead (bufOf p 36))).map (fun e => (K.MATRIX, fld e 0 4, e.drop 4))) := by
  have hsum : pf p 32 4 = pf p 32 1 + 256 * pf p 33 3 := pf_add p 32 1 3 (by decide)
  rw [hm] at hsum
  have hmode : pf p 32 1 = 1 := by omega
  have hhigh : pf p 33 3 = 0 := by omega
  have hz : pf p 33 1 = 0 := pf_eq_zero_of_cover hhigh 33 1 (by decide) (by decide) (by decide)
  have hz2 : pf p 34 2 = 0 := pf_eq_zero_of_cover hhigh 34 2 (by decide) (by decide) (by decide)
  have hlen : (bufOf p 36).len = pf p 44 4 := rfl
  have hpos : pf p 44 4 ≠ 0 := by omega
  unfold opRouteMatrixSet
  refine Mach.guard_of_none (by simp [hmode, hl, ht, resv_ok hz, resv_ok hz2]) ?_
  simp only [hmode, Nat.one_ne_zero, if_false]
  refine Mach.guard_of_none ?_ ?_
  · simp only [firstOf_cons_eq_none, firstOf_nil, and_true]
    exact Mach.bufChk_with.2 ⟨hbuf, by simp [hlen, hdiv, htop, hpos]⟩
  · rw [Mach.source_ok herr]
    simp only [hrows]

/-- Do the commands waiting for the next token ask for a reply? -/
def latchedAcks (x : Host.Outcome State Fault Refusal) : List Bool :=
  match x with
  | .next t => t.m.cmd.latch.map (·.o.ack)
  | _ => []

/-- A command that asks for no reply. -/
def quietOrigin : Origin := { Tests.org with ack := false }

/-- One row of zeros placed by ROUTE_MATRIX_SET under an origin, on a part that takes commands. -/
def rowsUnder (o : Origin) : Mach × Res :=
  Tests.u.putPlain o 0x0803 (Tests.u.effOf Tests.pRows) ([Tests.zer 2052].map (fun e => (K.MATRIX, fld e 0 4, e.drop 4)))

/-- The part after the row has been placed and the command has been answered. -/
def answeredRows (o : Origin) : Host.Outcome State Fault Refusal :=
  .next ((Tests.st Tests.u).gives (Mach.leaves (rowsUnder o) { quietOrigin with ack := true } 0x0803))

theorem zeroRow_read : chunks 2052 128 (Tests.u.bufRead (bufOf Tests.pRows 36)) = [Tests.zer 2052] := by decide +kernel

theorem exec_quietRows : exec (.routeMatrixSet quietOrigin Tests.pRows []) (Tests.st Tests.u) = answeredRows { quietOrigin with ack := true } := by
  refine (issue_matrix (by decide) (by decide)).trans ?_
  have hwork := opRouteMatrixSet_rows (s := Tests.u) (o := { quietOrigin with ack := true }) (p := Tests.pRows) (obs := []) (by decide)
    (by decide) (by decide) (by decide) (by decide) (by decide) (by decide) (by decide +kernel)
    (by rw [zeroRow_read]; exact Tests.rowsBad_zeros _)
  rw [zeroRow_read] at hwork
  exact congrArg (fun x => Host.Outcome.next ((Tests.st Tests.u).gives (Mach.leaves x { quietOrigin with ack := true } 0x0803))) hwork

theorem latchedAcks_real : latchedAcks (answeredRows { quietOrigin with ack := true }) = [true] := by decide +kernel

theorem latchedAcks_claimed : latchedAcks (answeredRows quietOrigin) = [false] := by decide +kernel

/-- Refutes O55: a ROUTE_MATRIX_SET with a buffer is always answered (R293), so the rows it latches carry the asked-for reply too,
where the clause latches them under the origin as the packet gave it, without one. -/
theorem not_routingOpcodes : ¬ Obligations.RoutingOpcodes := by
  unfold Obligations.RoutingOpcodes
  rintro ⟨_, _, _, hrows, _⟩
  have hclaim : exec (.routeMatrixSet quietOrigin Tests.pRows []) (Tests.st Tests.u) = answeredRows quietOrigin :=
    (hrows (Tests.st Tests.u) quietOrigin Tests.pRows [] Tests.u [Tests.zer 2052] (rowsUnder quietOrigin) (by decide) (by decide)
      (by decide) (by decide) (by decide) (by decide) (by decide) (by decide) (by decide +kernel) rfl zeroRow_read.symm
      (Tests.rowsBad_zeros Tests.u) (by decide) rfl).1
  have hacks := congrArg latchedAcks (exec_quietRows.symm.trans hclaim)
  rw [latchedAcks_real, latchedAcks_claimed] at hacks
  exact absurd hacks (by decide)

end Sys2Proof.Machine
end

section
/-! PROOF. Network port opcodes (R351, R353). -/
namespace Sys2Proof.Machine

/-- The logarithm of a ring's size. -/
theorem sizeLog_two_pow {k : Nat} (h4 : 4 ≤ k) (h12 : k ≤ 12) : sizeLog (2 ^ k) = some k := by
  interval_cases k <;> decide

/-- The settings of a port that NET_PORT_CFG writes before the port takes its speed: pause watchdog, downshift rate and
cut-through threshold. -/
def Mach.netPortSet (s : Mach) (n wd ds ct : Nat) : Mach :=
  (((s.sf F.NET_PAUSE_CFG_PAUSE_WD wd n).sf F.NET_DS_CFG_DS_MBPS ds n).sf F.NET_CT_CFG_CT_BYTES ct n).sf F.NET_CT_LIVE_BYTES ct n

theorem Mach.netPortSet_fields (s : Mach) {n wd ds ct : Nat} (hn : n ≤ 1) (hwd : wd ≤ 1000) (hds : ds ≤ 5000) (hct : ct ≤ 9216) :
    (s.netPortSet n wd ds ct).gf F.NET_PAUSE_CFG_PAUSE_WD n = wd ∧ (s.netPortSet n wd ds ct).gf F.NET_DS_CFG_DS_MBPS n = ds
      ∧ (s.netPortSet n wd ds ct).gf F.NET_CT_LIVE_BYTES n = ct := by
  unfold Mach.netPortSet
  refine ⟨?_, ?_, Mach.gf_sf_of_lt _ _ _ (by decide) (hct.trans_lt (by decide))⟩
  · obtain rfl | rfl := Nat.le_one_iff_eq_zero_or_eq_one.1 hn <;> simp (disch := decide) only [Mach.gf_sf_ne]
    all_goals exact Mach.gf_sf_of_lt _ _ _ (by decide) (hwd.trans_lt (by decide))
  · obtain rfl | rfl := Nat.le_one_iff_eq_zero_or_eq_one.1 hn <;> simp (disch := decide) only [Mach.gf_sf_ne]
    all_goals exact Mach.gf_sf_of_lt _ _ _ (by decide) (hds.trans_lt (by decide))

/-- An opcode that answers at once with data of a stated form. -/
theorem issue_replies_with {op : Nat} {f : OpBody} {o : Origin} {p : List Byte} {obs : List Nat} {s : State} {m : Mach}
    {P : List Byte → Prop} (h : s.takes o) (hop : op ≠ 0x0803) (hf : ∃ data, f o p obs s.m = (m, Res.ok data) ∧ P data) :
    ∃ data, issue op f o p obs s = .next (s.gives (m.replies o op data)) ∧ P data :=
  hf.imp fun _ ⟨hd, hP⟩ => ⟨issue_replies h hop hd, hP⟩

/-- A whole register of a status record reads back. -/
theorem leNat_toLE_rd (s : Mach) (r : Reg) (i j : Nat) : leNat (toLE 4 (s.rd r i j)) = s.rd r i j := by
  rw [leNat_toLE]
  exact Nat.mod_eq_of_lt (s.rd_lt r i j)

/-- Settles O53: every form passes its checks, and its work is the one the clause states. -/
theorem networkPortOpcodes : Obligations.NetworkPortOpcodes := by
  unfold Obligations.NetworkPortOpcodes
  refine ⟨?_, ?_, ?_, ?_, ?_, ?_⟩
  · intro s o p obs h hl hn h17 h17' h18 h20 h20' h22 h22' h24 h24' h26 hheld
    obtain ⟨hwd, hds, hct⟩ := s.m.netPortSet_fields hn h20' h22' h24'
    refine ⟨s.m.netPortSet _ _ _ _, s.m.registersOnly_refl, hwd, hds, hct, issue_replies h (by decide) ?_⟩
    unfold opNetPortCfg
    exact Mach.guard_of_none (by simp [resv_ok, *]) rfl
  · intro s o p obs h hl hn h17 h17' h18 h31
    refine issue_replies h (by decide) ?_
    unfold opNetIpCfg
    exact Mach.guard_of_none (by simp [*]) rfl
  · intro s o p obs lg h hl hn h17 h18 hal hb h4 h12 hs h30 h30' hal2 hen
    have hset : bitOf (pf p 18 2) 1 = true := by obtain e | e := h18 <;> rw [e] <;> decide
    have hhi : pf p 20 8 / 2 ^ 32 % 2 ^ 32 = pf p 20 8 / 2 ^ 32 := Nat.mod_eq_of_lt (by omega)
    refine issue_replies h (by decide) ?_
    unfold opNetRingCfg
    refine Mach.guard_of_none ?_ ?_
    · simp [hl, hn, h17, hset, hal, hs, sizeLog_two_pow h4 h12, inRange, h30, h30', hal2, hen]
      omega
    · simp only [hset, hs, sizeLog_two_pow h4 h12, if_true, Option.getD_some, hhi]
  · intro s o p obs h hl hn h17 h18
    refine issue_replies_with h (by decide) ?_
    unfold opNetStatus
    refine ⟨_, Mach.guard_of_none (by simp [resv_ok, *]) rfl, ?_, ?_, ?_, ?_⟩
    · simp
    · have hlink : s.m.gf F.NET_STAT_LINK (pf p 16 1) < 2 := s.m.gf_lt F.NET_STAT_LINK _ _
      simp [fld, slice, toLE, leNat]
      omega
    · have hx := leNat_toLE_rd s.m R.NET_RX_FRAMES (pf p 16 1) 0
      simpa [fld, slice, toLE] using hx
    · have hx := leNat_toLE_rd s.m R.NET_TX_FRAMES (pf p 16 1) 0
      simpa [fld, slice, toLE] using hx
  · intro s o p w h hl hn h17 h18 h19
    refine issue_replies h (by decide) ?_
    unfold opNetMdio
    exact Mach.guard_of_none (by simp [obsOn, *]) rfl
  · intro s o p obs h hl h16 h16' h17 h18
    refine ⟨((s.m.sf F.TIME_REDUND_MERGE_MS (pf p 16 1)).sf F.TIME_REDUND_DUP_EGRESS (pf p 17 1 % 2)).sf F.TIME_REDUND_TIME_PREF_B
      (pf p 17 1 / 2 % 2), issue_replies h (by decide) ?_, s.m.registersOnly_refl, ?_, ?_, ?_⟩
    · unfold opNetRedundCfg
      exact Mach.guard_of_none (by simp [resv_ok, *]) rfl
    · simp (disch := decide) only [Mach.gf_sf_disjoint]
      exact Mach.gf_sf_of_lt _ _ _ (by decide) (h16'.trans_lt (by decide))
    · simp (disch := decide) only [Mach.gf_sf_disjoint]
      exact Mach.gf_sf_of_lt _ _ _ (by decide) (Nat.mod_lt _ (by decide))
    · refine (Mach.gf_sf_self _ _ _ _ _ (by decide)).trans ?_
      simp only [F.TIME_REDUND_TIME_PREF_B]
      omega

end Sys2Proof.Machine
end

section
/-! PROOF. Stream and discovery opcodes (R351, R352). -/
namespace Sys2Proof.Machine

@[simp] theorem Mach.needs_eq_none {s : Mach} {f : Nat} {host : Bool} {e : Eff} :
    s.needs f host e = none ↔ s.modeAt f e = host := by simp [Mach.needs]

/-- A stream whose packets fit with 4 bytes to a sample fits with its own word. -/
theorem packet_fits {n k m : Nat} (b : Bool) (h : n * k * 4 + 40 ≤ m) : n * k * (if b then 4 else 3) + 40 ≤ m := by
  have hle : n * k * (if b then 4 else 3) ≤ n * k * 4 := Nat.mul_le_mul_left _ (by split <;> decide)
  omega

/-- The length of a record made of runs of one length. -/
theorem length_flatMap_const {α : Type} {l : List α} {f : α → List Byte} {k : Nat} (h : ∀ x ∈ l, (f x).length = k) :
    (l.flatMap f).length = k * l.length := by
  rw [List.length_flatMap, List.map_congr_left h, List.map_const', List.sum_replicate, smul_eq_mul, Nat.mul_comm]

/-- An opcode whose work rests on something of a stated form. -/
theorem issue_replies_some {α : Type} {op : Nat} {f : OpBody} {o : Origin} {p : List Byte} {obs : List Nat} {s : State} {m : α → Mach}
    {data : α → List Byte} {P : α → Prop} (h : s.takes o) (hop : op ≠ 0x0803) (hf : ∃ x, f o p obs s.m = (m x, Res.ok (data x)) ∧ P x) : ∃ x, issue op f o p obs s = .next (s.gives ((m x).replies o op (data x))) ∧ P x :=
  hf.imp fun _ ⟨hd, hP⟩ => ⟨issue_replies h hop hd, hP⟩

/-- Settles O54: every form passes its checks, and its work is the one the clause states. -/
theorem streamOpcodes : Obligations.StreamOpcodes := by
  unfold Obligations.StreamOpcodes
  refine ⟨?_, ?_, ?_, ?_, ?_, ?_, ?_⟩
  · intro s o p obs h hl hmode hon h17 h18 h18' hrate h30 h30' h31 hjit hpool
    refine issue_replies_some h (by decide) ?_
    unfold opNetStreamIn
    refine ⟨_, Mach.guard_of_none ?_ rfl, rfl, rfl, rfl, rfl, rfl, rfl, rfl, rfl, rfl, rfl, rfl, rfl, rfl, rfl⟩
    simp [hl, hmode, hon, h17, h18, h18', h30, h30', h31, hjit, hpool]
    tauto
  · intro s o p obs h hl hmode h17 h18 h18' hrate h28 h29 h34 hmtu hpool
    refine issue_replies_some h (by decide) ?_
    unfold opNetStreamOut
    refine ⟨_, Mach.guard_of_none ?_ rfl, rfl, rfl, rfl, rfl, rfl, rfl, rfl, rfl, rfl, rfl, rfl, rfl, rfl, rfl⟩
    have h0 := packet_fits (bitOf (pf p 17 1) 1) (hmtu 0 (by decide))
    have h1 := packet_fits (bitOf (pf p 17 1) 1) (hmtu 1 (by decide))
    simp [hl, h17, h18, h18', h28, resv_ok h29, resv_ok h34, hpool, h0, h1, -mul_ite]
    tauto
  · intro s o p obs h hl h1 he
    refine issue_replies h (by decide) ?_
    unfold opNetStreamStop
    refine Mach.guard_of_none (listChecks_ok hl ?_) rfl
    simp only [firstOf_cons_eq_none, firstOf_nil, and_true]
    refine scan_ok (fun x hx => ?_) h1
    obtain ⟨hk, hz⟩ := he x hx
    exact ⟨by simp [hk], by simp [hz]⟩
  · intro s o p obs h hl h18 h18' hmode
    refine issue_replies h (by decide) ?_
    unfold opNetDiscovered
    exact Mach.guard_of_none (by simp [*]) (by simp only [hmode]; rfl)
  · intro s o p obs d h hl hmode hon h17 hd hpool hjit h30
    refine issue_replies_some h (by decide) ?_
    unfold opNetSubscribe
    simp only [hd]
    exact ⟨_, Mach.guard_of_none (by simp [resv_ok, *]) rfl, rfl, rfl, rfl, rfl, rfl, rfl, rfl, rfl, rfl, rfl, rfl, rfl⟩
  · intro s o p obs h hl h16 h18 hsum
    refine issue_replies h (by decide) ?_
    unfold opNetStreamStatus
    refine Mach.guard_of_none ?_ (by simp only [h16]; rfl)
    simp [hl, h16, firstN, h18]
    omega
  · intro s o p obs h hl h16 h18 hsum
    refine issue_replies_with h (by decide) ?_
    unfold opNetStreamStatus
    refine ⟨_, Mach.guard_of_none ?_ rfl, ?_⟩
    · simp [hl, h16, firstN, h18]
      omega
    · rw [length_flatMap_const (k := 20) (fun i _ => by simp [h16])]
      simp [upto]

end Sys2Proof.Machine
end

section
/-! PROOF. Time opcodes (R354, R355). -/
namespace Sys2Proof.Machine

/-- A read of STEPS answers the count and clears it (R10). -/
theorem Mach.regRead_steps (s : Mach) : s.regRead (R.TIME_STEPS.at_ 0 0) = (s.rd R.TIME_STEPS, s.wr R.TIME_STEPS 0) := by
  have hrow : regAt (R.TIME_STEPS.at_ 0 0) = some (⟨R.TIME_STEPS, 0x0, 0x0, 0x0, 0x0, 0x0, 0xFFFFFFFF, 0x0⟩, 0, 0) := by decide +kernel
  have hlo : pairs64.find? (fun p => p.1 == R.TIME_STEPS) = none := by decide
  have hhi : pairs64.find? (fun p => p.2 == R.TIME_STEPS) = none := by decide
  have hne : R.TIME_STEPS ≠ R.TIME_NOW_NS := by decide
  have hword : s.word R.TIME_STEPS = s.rd R.TIME_STEPS := Nat.mod_eq_of_lt (s.rd_lt ..)
  have hall : s.rd R.TIME_STEPS &&& 0xFFFFFFFF = s.rd R.TIME_STEPS := by
    rw [show (0xFFFFFFFF : Nat) = 2 ^ 32 - 1 from rfl, Nat.and_two_pow_sub_one_eq_mod, Nat.mod_eq_of_lt (s.rd_lt ..)]
  simp [Mach.regRead, hrow, hlo, hhi, hne, hword, hall, s.instOk_of_below_fabric (r := R.TIME_STEPS) 0 (by decide)]

/-- The path of an accepted monitor passes its checks. -/
theorem Mach.viaChk_ok {s : Mach} {off v : Nat} (h0 : v &&& 0xFE007C00 = 0) (h1 : bitOf v 15 = true → v % 1024 < 128)
    (h2 : bitOf v 15 = false → v % 1024 < s.variant.objects) (h3 : bits v 16 9 < s.variant.feeds) : s.viaChk off v = none := by
  cases hb : bitOf v 15 <;> simp_all [Mach.viaChk]

/-- A field of a register just written. -/
theorem Mach.gf_wr_self (s : Mach) {f : Fld} {v i j : Nat} (hv : v < 2 ^ 32) : (s.wr f.reg v i j).gf f i j = v / 2 ^ f.lo % 2 ^ f.len := by
  simp only [Mach.gf, Mach.rd_wr_self, bits_eq, Nat.mod_eq_of_lt hv]

/-- Settles O51: every form passes its checks, and its work is the one the clause states. -/
theorem timeOpcodes : Obligations.TimeOpcodes := by
  unfold Obligations.TimeOpcodes
  refine ⟨?_, ?_, ?_, ?_, ?_, ?_, ?_, ?_, ?_, ?_⟩
  · intro s o p obs h hl hpr h17 h18 hp2p hlog h22
    refine ⟨_, _, rfl, rfl, issue_replies h (by decide) ?_⟩
    unfold opTimeCfg
    refine Mach.guard_of_none ?_ rfl
    have h2step : pf p 16 1 = 3 → bitOf (pf p 18 1) 1 = true := by
      intro h3
      have : pf p 18 1 = 2 ∨ pf p 18 1 = 3 := by have := hp2p h3; omega
      obtain e | e := this <;> rw [e] <;> decide
    simp only [firstOf_cons_eq_none, failIf_eq_none, Bool.or_eq_false_iff, decide_eq_false_iff_not, not_lt]
    simp [hl, hpr, h17, h18, resv_ok h22]
    exact ⟨h2step, hlog 0 (by decide), hlog 1 (by decide), hlog 2 (by decide)⟩
  · intro s o p obs h hl
    have hgrid : s.m.gf F.TIME_GRID_STAT_STATE < 8 := (s.m.gf_lt F.TIME_GRID_STAT_STATE 0 0).trans_le (by decide)
    have hact : s.m.activePort < 4 := s.m.gf_lt F.TIME_STAT_ACTIVE 0 0
    have hgrid' : (s.m.wr R.TIME_STEPS 0).gf F.TIME_GRID_STAT_STATE = s.m.gf F.TIME_GRID_STAT_STATE := Mach.gf_wr_ne _ _ (by decide)
    have hact' : (s.m.wr R.TIME_STEPS 0).activePort = s.m.activePort := Mach.gf_wr_ne _ _ (by decide)
    have hreg (r : Reg) (hr : R.TIME_STEPS.at_ 0 0 ≠ r.at_ 0 0) : (s.m.wr R.TIME_STEPS 0).rd r = s.m.rd r := Mach.rd_wr_ne _ _ hr
    obtain ⟨l, hwork, hfields⟩ : ∃ l, opTimeStatus o p obs s.m = (s.m.wr R.TIME_STEPS 0, Res.ok l) ∧ l.length = 44 ∧
        fld l 0 1 = s.m.gf F.TIME_GRID_STAT_STATE ∧ fld l 1 1 = s.m.activePort ∧ fld l 20 4 = s.m.rd R.TIME_MPD ∧
        fld l 24 4 = s.m.rd R.TIME_FREQ ∧ fld l 36 2 = Nat.min 65535 (s.m.rd R.TIME_STEPS) ∧ fld l 40 4 = s.m.rd R.TIME_GRID_ERR := by
      unfold opTimeStatus
      refine ⟨_, Mach.guard_of_none (by simp [hl]) (by simp only [Mach.regRead_steps]; rfl), ?_, ?_, ?_, ?_, ?_, ?_, ?_⟩
      · simp
      · rw [← hgrid']
        simp [fld, slice, toLE, leNat]
        omega
      · rw [← hact']
        simp [fld, slice, toLE, leNat]
        omega
      · rw [← hreg R.TIME_MPD (by decide)]
        simpa [fld, slice, toLE] using leNat_toLE_rd (s.m.wr R.TIME_STEPS 0) R.TIME_MPD 0 0
      · rw [← hreg R.TIME_FREQ (by decide)]
        simpa [fld, slice, toLE] using leNat_toLE_rd (s.m.wr R.TIME_STEPS 0) R.TIME_FREQ 0 0
      · have hmin : Nat.min 65535 (s.m.rd R.TIME_STEPS) < 65536 := (Nat.min_le_left ..).trans_lt (by decide)
        refine Eq.trans ?_ (Nat.mod_eq_of_lt hmin)
        simpa [fld, slice, toLE] using leNat_toLE 2 (Nat.min 65535 (s.m.rd R.TIME_STEPS))
      · rw [← hreg R.TIME_GRID_ERR (by decide)]
        simpa [fld, slice, toLE] using leNat_toLE_rd (s.m.wr R.TIME_STEPS 0) R.TIME_GRID_ERR 0 0
    exact ⟨l, _, congrArg Prod.snd s.m.regRead_steps, issue_replies h (by decide) hwork, hfields⟩
  · intro s o p obs h hl hmode hf h24 hph h25
    refine issue_replies h (by decide) ?_
    unfold opTimeAdjust
    refine Mach.guard_of_none ?_ rfl
    simp [resv_ok, *]
    exact hph
  · intro s o p obs h hl h16 h20
    refine issue_replies h (by decide) ?_
    unfold opTimeServoCfg
    exact Mach.guard_of_none (by simp [*]) rfl
  · intro s o p obs h hl h16 h16' h18 h19 h20 h20'
    refine issue_replies_some h (by decide) ?_
    unfold opTimeGridCfg
    refine ⟨_, Mach.guard_of_none (by simp [resv_ok, *]) rfl, s.m.registersOnly_refl, ?_, ?_, ?_⟩
    all_goals
      refine (Mach.gf_wr_self (f := _) _ (by omega)).trans ?_
      simp only [F.TIME_GRID_CTRL_SLEW_PPM, F.TIME_GRID_CTRL_STEP_US, F.TIME_GRID_CTRL_STEP_ACTIVE]
      omega
  · intro s o p obs h hl h1 he
    refine ⟨_, issue_takes h (by decide) ?_, rfl⟩
    unfold opTimeLatSet
    refine Mach.guard_of_none (listChecks_ok hl ?_) rfl
    simp only [firstOf_cons_eq_none, firstOf_nil, and_true]
    refine scan_ok (fun x hx => ?_) h1
    obtain ⟨hk, h1, hz, hr, hd, ho, hf⟩ := he x hx
    exact ⟨below_eq_none.2 hk, by simp [h1, hz, Mach.viaChk_ok hr hd ho hf]⟩
  · intro s o p obs h hl
    refine issue_replies h (by decide) ?_
    unfold opTimeLatRead
    refine Mach.guard_of_none (by simp [hl]) ?_
    simp [toLE]
  · intro s o p obs h hl h16 h17 h18 h20 h20'
    refine issue_replies h (by decide) ?_
    unfold opTimePpsCfg
    have h18' : pf p 18 2 ≤ 65535 := Nat.le_of_lt_succ (pf_lt p 18 2)
    exact Mach.guard_of_none (by simp [resv_ok, *]) rfl
  · intro s o p obs h hl h16 h16' h17
    obtain ⟨l, hwork, hlen⟩ : ∃ l, opTimeEvtRead o p obs s.m =
        ((s.m.sf F.TIME_EVTQ_STAT_LOST 0).onTime (fun q => { q with evtq := q.evtq.drop (s.m.tm.evtq.take (pf p 16 1)).length }), Res.ok l)
          ∧ l.length = 4 + 12 * Nat.min (pf p 16 1) s.m.tm.evtq.length := by
      unfold opTimeEvtRead
      refine ⟨_, Mach.guard_of_none (by simp [resv_ok, *]) rfl, ?_⟩
      simp [length_flatMap_const (k := 12), Nat.min_def, Nat.min]
      split <;> omega
    refine ⟨l, _, issue_replies h (by decide) hwork, ?_, Mach.gf_sf_of_lt _ _ _ (by decide) (by decide), hlen⟩
    simp [Mach.onTime]
  · intro s o p obs h hl hmode hf hs
    refine issue_replies h (by decide) ?_
    unfold opTimeFailover
    exact Mach.guard_of_none (by simp [*]) rfl

end Sys2Proof.Machine
end

section
/-! SUPPORT. Where addresses lie, and what an access by an opcode finds there (R469, R293). -/
namespace Sys2Proof.Machine

/-- Installed DRAM lies below the host's addresses. -/
theorem Mach.dramSize_le (s : Mach) : dramBase + s.dramSize ≤ hostBit := by
  have h : s.gf F.DDRC_STAT_SIZE < 2 ^ 16 := s.gf_lt F.DDRC_STAT_SIZE 0 0
  simp only [dramBase, hostBit, Mach.dramSize]
  omega

theorem Mach.target_of_dram {s : Mach} {a n : Nat} (hn : 0 < n) (h : s.inDram a n = true) : s.target a = 5 := by
  have hle := s.dramSize_le
  simp only [Mach.inDram, Bool.and_eq_true, decide_eq_true_eq] at h
  obtain ⟨hlo, hhi⟩ := h
  have h1 : ¬ hostBit ≤ a := by omega
  have h2 : dramBase ≤ a ∧ a < dramBase + s.dramSize := ⟨hlo, by omega⟩
  have h3 : ¬ a < 0x02000000 := by simp only [dramBase] at hlo; omega
  have h4 : ¬ (mramBase ≤ a ∧ a < mramBase + mramSize) := by simp only [dramBase, mramBase, mramSize] at hlo ⊢; omega
  simp only [Mach.target, h1, if_false, show ¬ a < 0x700000 by omega, show ¬ a < 0xB00000 by omega, show ¬ a < 0x1000000 by omega, h3,
    Bool.and_eq_true, decide_eq_true_eq, h4, h2, and_self, if_true]

theorem Mach.target_of_low {s : Mach} {a n : Nat} (hn : 0 < n) (h : (inSram a n || inMram a n) = true) : s.target a ≠ 5 := by
  simp only [inSram, inMram, Bool.or_eq_true, Bool.and_eq_true, decide_eq_true_eq] at h
  simp only [gsramBase, gsramSize, mramBase, mramSize] at h
  have h1 : ¬ (dramBase ≤ a ∧ a < dramBase + s.dramSize) := by simp only [dramBase]; omega
  unfold Mach.target
  simp only [Bool.and_eq_true, decide_eq_true_eq, h1, if_false]
  repeat' split
  all_goals decide

/-- The matrix passes a control core's read of DRAM that DRAM serves. -/
theorem Mach.matrixCode_dram {s : Mach} {a n : Nat} (ht : s.target a = 5) (h : s.dramCode = 0) : s.matrixCode 0 0 a n false = 0 := by
  have hiso : s.inReset 6 = false := by
    cases hr : s.inReset 6
    · rfl
    · simp [Mach.dramCode, hr] at h
  have hstate : s.gf F.DDRC_STAT_STATE ≠ 5 := by
    intro hs
    simp [Mach.dramCode, hiso, hs] at h
  simp [Mach.matrixCode, ht, Mach.isolated, hiso, hstate, reaches]

/-- A read of DRAM that finds its words good reads and checks the lines. -/
theorem Mach.busRead_dram {s : Mach} {a n : Nat} (ht : s.target a = 5) (h : s.dramCode = 0) (hb : s.badRange a n = false) :
    s.busRead 0 0 a n = s.readRange 0 a n := by
  simp [Mach.busRead, Mach.matrixCode_dram ht h, ht, hb]

/-- Registers read in order: four bytes each. -/
theorem Mach.readAll_length (s : Mach) (l : List Nat) : (s.readAll l).1.length = 4 * l.length := by
  have hfold (acc : List Byte × Mach) : (l.foldl (fun (acc : List Byte × Mach) a =>
      let (v, t) := acc.2.regRead a; (acc.1 ++ toLE 4 v, t)) acc).1.length = acc.1.length + 4 * l.length := by
    induction l generalizing acc with
    | nil => simp
    | cons a l ih =>
      rw [List.foldl_cons, ih]
      simp
      omega
  simpa [Mach.readAll] using hfold ([], s)

/-- A destination buffer that takes its bytes. -/
theorem Mach.dest_ok {s t : Mach} {b : Buf} {err : Bool} {l : List Byte} {r : Res} (h : s.bufErr b true err = false)
    (hs : s.store b.addr l = (0, t)) : s.dest b err l r = (t, r) := by simp [Mach.dest, h, hs]

/-- A destination buffer that passes its check leaves the birth record alone. -/
theorem Mach.birthTry_none (s : Mach) (a n : Nat) : s.birthTry a n none = s := rfl

/-- A change that keeps the part. -/
theorem Mach.when_self (s : Mach) (c : Bool) : s.when c (fun t => t) = s := by cases c <;> rfl

/-- An uncorrectable word in reach of a read from DRAM makes it fail. -/
theorem Mach.badRange_of_bufErr {s : Mach} {b : Buf} {err : Bool} (h : s.bufErr b false err = false) (ht : s.target b.addr = 5) :
    s.badRange b.addr b.len = false := by
  have hlow : ¬ hostBit ≤ b.addr := by
    intro hh
    simp [Mach.target, hh] at ht
  simp only [Mach.bufErr, hlow, if_false, ht, if_true, Bool.or_eq_false_iff, Bool.not_false, Bool.true_and] at h
  exact h.2

end Sys2Proof.Machine
end

section
/-! PROOF. Memory and DMA opcodes (R360 to R362). -/
namespace Sys2Proof.Machine

/-- Settles O48: every form passes its checks, and its work is the one the clause states. -/
theorem memoryAndDmaOpcodes : Obligations.MemoryAndDmaOpcodes := by
  unfold Obligations.MemoryAndDmaOpcodes
  refine ⟨?_, ?_, ?_, ?_, ?_, ?_, ?_, ?_, ?_, ?_⟩
  · intro s o p obs h hl hn hn' hn4 ha
    have ht := Mach.target_of_low (s := s.m) (by omega) ha
    refine issue_replies h (by decide) ?_
    unfold opMemRead
    refine Mach.guard_of_none ?_ (by rw [if_neg ht]; rfl)
    simp only [firstOf_cons_eq_none, failIf_eq_none, ha, Bool.true_or]
    simp [hl, inRange, hn, hn', hn4]
  · intro s o p obs h hl hn hn' hn4 hd hcode hbad
    have ht := Mach.target_of_dram (by omega) hd
    refine issue_replies h (by decide) ?_
    unfold opMemRead
    refine Mach.guard_of_none (by simp [hl, inRange, hn, hn', hn4, hd]) ?_
    simp only [ht, if_true, hcode, hbad, bne_self_eq_false, Bool.false_eq_true, if_false, Mach.busRead_dram ht hcode hbad]
    rfl
  · intro s o p obs h hn hn' hn4 ha hreg hcode hst
    have hdrop : (p.drop 8).length = p.length - 8 := by simp
    have hrange : failIf (!(inSram (pf p 16 8) (p.length - 8) || s.m.inDram (pf p 16 8) (p.length - 8))) ST.OUT_OF_RANGE 16 = none := by
      rw [failIf_eq_none, ha, Bool.not_true]
    have hlen : failIf (!inRange 4 4064 (p.length - 8) || (p.length - 8) % 4 != 0) ST.BAD_LENGTH 0 = none := by
      simp [inRange]
      omega
    refine issue_replies h (by decide) ?_
    unfold opMemWrite
    simp only [hdrop, hlen, hrange, Mach.birthTry_none, Mach.when_self, hreg]
    refine Mach.guard_of_none rfl ?_
    have hserve : (s.m.target (pf p 16 8) = 5 && s.m.dramCode != 0) = false := by simpa using hcode
    simp [hserve, hst]
  · intro s o p e1 e2 t w h hl hb1 hb2 hlen hreg he1 ht he2 hst
    subst ht
    refine issue_replies h (by decide) ?_
    unfold opMemCopy
    have hpre : firstOf [lenIs p 52, s.m.bufChk p 16] = none := by simp [hl, hb1]
    have hwhole : ¬ (s.m.target (bufOf p 16).addr = 5 && s.m.dramCode = 0 && s.m.badRange (bufOf p 16).addr (bufOf p 16).len) = true := by
      simp only [Bool.and_eq_true, decide_eq_true_eq, not_and]
      intro h5 hbad
      exact Bool.false_ne_true ((Mach.badRange_of_bufErr he1 h5.1).symm.trans hbad)
    simp only [hb2, hpre, Mach.birthTry_none, Mach.when_self]
    refine Mach.guard_of_none ?_ ?_
    · have hfit : s.m.bufChk p 32 (failIf (decide ((bufOf p 32).len < (bufOf p 16).len)) ST.OUT_OF_RANGE 40) = none :=
        Mach.bufChk_with.2 ⟨hb2, failIf_eq_none.2 (decide_eq_false (Nat.not_lt.2 hlen))⟩
      have hfree : (if hostBit ≤ (bufOf p 32).addr then none else s.m.regionBusy (bufOf p 32).addr (bufOf p 16).len) = none := by
        split
        · rfl
        · exact hreg.resolve_left ‹_›
      simp only [firstOf_cons_eq_none, firstOf_nil, hfit, hfree, and_self]
    · rw [if_neg hwhole]
      exact (Mach.source_ok he1).trans (Mach.dest_ok he2 hst)
  · intro s o p obs h hl
    refine issue_replies_with h (by decide) ?_
    unfold opMemDramInfo
    have hsize : s.m.gf F.DDRC_STAT_SIZE < 2 ^ 16 := s.m.gf_lt F.DDRC_STAT_SIZE 0 0
    refine ⟨_, Mach.guard_of_none (by simp [hl]) rfl, by simp, ?_, ?_, ?_, ?_, ?_⟩
    · refine Eq.trans ?_ (Nat.mod_eq_of_lt (hsize.trans_le (by decide : 2 ^ 16 ≤ 256 ^ 4)))
      simpa [fld, slice, toLE] using leNat_toLE 4 (s.m.gf F.DDRC_STAT_SIZE)
    · simpa [fld, slice, toLE] using leNat_toLE_rd s.m R.DDRC_ECC_CORR 0 0
    · simpa [fld, slice, toLE] using leNat_toLE_rd s.m R.DDRC_ECC_UNCORR 0 0
    · simpa [fld, slice, toLE] using leNat_toLE_rd s.m R.DDRC_REPLAY 0 0
    · simpa [fld, slice, toLE] using leNat_toLE_rd s.m R.DDRC_FREQ_CHG 0 0
  · intro s o p obs h hl h16 h17 hno hne
    refine issue_takes h (by decide) ?_
    unfold opMemDramFreq
    exact Mach.guard_of_none (by simp [resv_ok, *]) (if_neg hne)
  · intro s o p obs h hl h16 h17 hno heq
    refine issue_replies h (by decide) ?_
    unfold opMemDramFreq
    exact Mach.guard_of_none (by simp [resv_ok, *]) (if_pos heq)
  · intro s o p obs h hl h16 h17 h20 h44 hbusy
    refine issue_replies h (by decide) ?_
    unfold opDmaStart
    exact Mach.guard_of_none (by simp [resv_ok, *]) rfl
  · intro s o p obs c h hc hp
    subst hp
    refine issue_replies h (by decide) ?_
    unfold opDmaStop
    have he : entriesOf (toLE 2 1 ++ [0, 0] ++ toLE 4 c) 16 4 = [(20, toLE 4 c)] := by
      simp [entriesOf, countOf, pf, fld, slice, toLE, leNat, upto]
    simp only [he]
    have hkey : fld (toLE 4 c) 0 1 = c := by interval_cases c <;> decide
    have hz : allZero (slice (toLE 4 c) 1 3) = true := by interval_cases c <;> decide
    refine Mach.guard_of_none (listChecks_ok ?_ ?_) ?_
    · refine ⟨?_, ?_, ?_, ?_⟩ <;> simp [lenOf, countOf, pf, fld, slice, toLE, leNat]
    · simp [scanEntries, hkey, hz, Nat.not_lt.2 (Nat.le_of_lt_succ hc)]
      rfl
    · simp [hkey]
  · intro s o p obs l h hl h16 h17 hsum h18 hlist
    refine ⟨issue_replies h (by decide) ?_, ?_⟩
    · subst hlist
      unfold opDmaStatus
      refine Mach.guard_of_none ?_ rfl
      simp [hl, firstN, resv_ok h18, h17]
      omega
    · rw [Mach.readAll_length, hlist]
      simp [upto]
      omega

end Sys2Proof.Machine
end

section
/-! PROOF. Placement and diagnostic opcodes (R289, R363 to R366). -/
namespace Sys2Proof.Machine

/-- A timing block of class NEXT_TICK or IMMEDIATE whose reserved bytes are zero passes where its class is permitted. -/
theorem Mach.timingChk_ok {s : Mach} {classes : Nat} {p : List Byte} (hc : pf p 16 1 < 3) (hb : bitOf classes (pf p 16 1) = true)
    (h17 : pf p 17 1 = 0) (h28 : pf p 28 4 = 0) : s.timingChk classes p = none := by
  have h3 : (pf p 16 1 == 3) = false := by simp; omega
  have hle : ¬ 3 < pf p 16 1 := by omega
  simp [Mach.timingChk, h3, hb, hle, resv_ok h17, resv_ok h28]

theorem b2n_beq_one (b : Bool) : (b2n b == 1) = b := by cases b <;> rfl

/-- A word of four bytes reads back. -/
theorem fld_toLE4 {v : Nat} (h : v < 2 ^ 32) (r : List Byte) : fld (toLE 4 v ++ r) 0 4 = v := by
  have hr : slice (toLE 4 v ++ r) 0 4 = toLE 4 v := by simp [slice, toLE]
  rw [fld, hr, leNat_toLE]
  exact Nat.mod_eq_of_lt h

/-- A list of one entry of one word. -/
theorem entriesOf_one_word (a : Nat) : entriesOf (toLE 2 1 ++ [0, 0] ++ toLE 4 a) 16 4 = [(20, toLE 4 a)] := by
  simp [entriesOf, countOf, pf, fld, slice, toLE, leNat, upto]

/-- A list of one entry of two words. -/
theorem entriesOf_two_words (a v : Nat) :
    entriesOf (toLE 2 1 ++ [0, 0] ++ toLE 4 a ++ toLE 4 v) 16 8 = [(20, toLE 4 a ++ toLE 4 v)] := by
  simp [entriesOf, countOf, pf, fld, slice, toLE, leNat, upto]

/-- Settles O49: every form passes its checks, and its work is the one the clause states. -/
theorem placementAndDiagnosticOpcodes : Obligations.PlacementAndDiagnosticOpcodes := by
  unfold Obligations.PlacementAndDiagnosticOpcodes
  refine ⟨?_, ?_, ?_, ?_, ?_, ?_, ?_, ?_, ?_, ?_, ?_⟩
  · intro s o p obs f h ht hl h16 h28 hf himm hh h34 hne hready
    have hc : pf p 16 1 = 0 := pf_eq_zero_of_cover h16 16 1 (by decide) (by decide) (by decide)
    have h17 : pf p 17 1 = 0 := pf_eq_zero_of_cover h16 17 1 (by decide) (by decide) (by decide)
    have htime : s.m.timingChk 11 p = none := Mach.timingChk_ok (by omega) (by rw [hc]; decide) h17 h28
    have hfun : immFunc f = true := by obtain rfl | rfl | rfl := himm <;> decide
    have hf7 : f ≤ 7 := by omega
    have hhost : b2n h ≤ 1 := Nat.le_of_lt_succ (b2n_lt_two h)
    refine issue_replies ht (by decide) ?_
    unfold opPlaceSet
    refine Mach.guard_of_none (by simp [hl, htime, hf, hf7, hh, hhost, resv_ok h34, hc, hfun]) ?_
    simp [hc, hf, hh, b2n_beq_one, hne, hready]
  · intro s o p obs f h ht hl hc h17 h28 hf hnext hh h34 hne hnone hobjs
    have htime : s.m.timingChk 11 p = none := Mach.timingChk_ok (by omega) (by rw [hc]; decide) h17 h28
    have hfun : immFunc f = false := by obtain rfl | rfl | rfl | rfl | rfl := hnext <;> decide
    have hf7 : f ≤ 7 := by omega
    have hhost : b2n h ≤ 1 := Nat.le_of_lt_succ (b2n_lt_two h)
    have heff : s.m.effOf p = .next false := by simp [Mach.effOf, hc]
    have hkeepObjs : ¬ ((f = 0 ∧ h = false) ∧ ¬ s.m.hostObjs = 0) := fun ⟨⟨h0, hfalse⟩, hno⟩ => hno (hobjs h0 hfalse)
    have hout : s.m.placeOut f = s.m := by simp [Mach.placeOut, hnone]
    obtain ⟨m, hwork, hitem⟩ : ∃ m, opPlaceSet o p obs s.m = (m, Res.nextTick 0) ∧
        ∃ it : Item, mfind m.cmd.place f = some (h, it) ∧ it.t = 0 ∧ it.reply = true ∧ it.o = o := by
      unfold opPlaceSet
      refine ⟨((s.m.onCmd (fun c => { c with ord := c.ord + 1 })).placeKeep f h
        ⟨o, 0x0F01, toLE 1 0, 0, s.m.cmd.ord, rkey K.PLACE f, true, false⟩), Mach.guard_of_none ?_ ?_, _, mfind_mput_self .., rfl, rfl, rfl⟩
      · simp [hl, htime, hf, hf7, hh, hhost, resv_ok h34, hc, hfun]
      · simp [hc, hf, hh, b2n_beq_one, hne, heff, hnone, hkeepObjs, hout, show b2n false = 0 from rfl]
    exact ⟨m, issue_takes ht (by decide) hwork, hitem⟩
  · intro s o p obs h hl
    refine issue_replies h (by decide) ?_
    unfold opPlaceGet
    exact Mach.guard_of_none (by simp [hl]) rfl
  · intro s o p obs a h hp ha4 ha
    subst hp
    have haddr : fld (toLE 4 a) 0 4 = a := by simpa using fld_toLE4 (ha.trans (by decide)) []
    refine ⟨(s.m.readAll [a]).1, (s.m.readAll [a]).2, rfl, issue_replies h (by decide) ?_⟩
    unfold opDiagRegRead
    simp only [entriesOf_one_word, List.map_cons, List.map_nil, haddr]
    refine Mach.guard_of_none (listChecks_ok ?_ ?_) rfl
    · refine ⟨?_, ?_, ?_, ?_⟩ <;> simp [lenOf, countOf, pf, fld, slice, toLE, leNat]
    · simp [addrChk, eachEntry, haddr, ha4, failIf, Nat.not_le.2 ha]
  · intro s o p obs a v h hp ha4 ha hv hown
    subst hp
    have haddr : fld (toLE 4 a ++ toLE 4 v) 0 4 = a := fld_toLE4 (ha.trans (by decide)) _
    have hval : fld (toLE 4 a ++ toLE 4 v) 4 4 = v := by
      have hv4 : fld (toLE 4 v) 0 4 = v := by simpa using fld_toLE4 hv []
      simpa [fld, slice, toLE] using hv4
    refine issue_replies h (by decide) ?_
    unfold opDiagRegWrite
    simp only [entriesOf_two_words]
    refine Mach.guard_of_none (listChecks_ok ?_ ?_) ?_
    · refine ⟨?_, ?_, ?_, ?_⟩ <;> simp [lenOf, countOf, pf, fld, slice, toLE, leNat]
    · cases hx : o.xport with
      | pcie q => simp [addrChk, eachEntry, haddr, ha4, failIf, Nat.not_le.2 ha, hown q hx]
      | _ => simp [addrChk, eachEntry, haddr, ha4, failIf, Nat.not_le.2 ha]
    · simp only [Mach.each_cons, Mach.each_nil, haddr, hval]
  · intro s o p obs h hl h16 h18 hn hn' hsum h26
    refine issue_replies h (by decide) ?_
    unfold opDiagSwardRead
    refine Mach.guard_of_none ?_ rfl
    simp [hl, h16, hn, hn', resv_ok h18, resv_ok h26]
    omega
  · intro s o p h hl h16 hpower
    have ht : pf p 16 1 = 0 := pf_eq_zero_of_cover h16 16 1 (by decide) (by decide) (by decide)
    have hz : pf p 17 3 = 0 := pf_eq_zero_of_cover h16 17 3 (by decide) (by decide) (by decide)
    refine issue_replies h (by decide) ?_
    unfold opDiagSelftest
    refine Mach.guard_of_none (by simp [hl, ht, resv_ok hz, hpower]) ?_
    simp [ht]
    decide
  · intro s o p h hl ht hz
    have hne : pf p 16 1 ≠ 0 := by omega
    have hle : pf p 16 1 ≤ 2 := by omega
    refine issue_replies h (by decide) ?_
    unfold opDiagSelftest
    refine Mach.guard_of_none (by simp [hl, hne, hle, resv_ok hz]) ?_
    simp [hne]
    decide
  · intro s o p obs h hl hk ha hen hpower
    have hne : pf p 16 1 ≠ 0 := by omega
    have hle : pf p 16 1 ≤ 2 := by omega
    refine issue_replies_some h (by decide) ?_
    unfold opDiagLoopback
    refine ⟨_, Mach.guard_of_none (by simp [hl, hne, hle, ha, hen, hpower]) rfl, ?_⟩
    simp [hne, hen, Mach.onSys]
  · intro s o p obs h hl h16 h17 h18 hn hn' h22
    refine issue_replies h (by decide) ?_
    unfold opDiagErrInject
    exact Mach.guard_of_none (by simp [hl, h16, resv_ok h17, h18, hn, hn', resv_ok h22]) (by simp only [h16]; rfl)
  · intro s o p obs h hl h16 h17 hn hn' h22
    refine issue_replies h (by decide) ?_
    unfold opDiagErrInject
    obtain e | e := h16
    · exact Mach.guard_of_none (by simp [hl, e, resv_ok h17, hn, hn', resv_ok h22]) (by simp only [e]; rfl)
    · exact Mach.guard_of_none (by simp [hl, e, resv_ok h17, hn, hn', resv_ok h22]) (by simp only [e]; rfl)

end Sys2Proof.Machine
end

section
/-! SUPPORT. A sorted list holds what it was made of, and what a read of DRAM may touch (R501). -/
namespace Sys2Proof.Machine

theorem mem_insertBy {α : Type} {key : α → Nat} {a x : α} {l : List α} : x ∈ insertBy key a l ↔ x = a ∨ x ∈ l := by
  induction l with
  | nil => simp [insertBy]
  | cons b r ih =>
    unfold insertBy
    split
    · simp
    · simp only [List.mem_cons, ih]
      tauto

theorem mem_sortBy {α : Type} {key : α → Nat} {x : α} {l : List α} : x ∈ sortBy key l ↔ x ∈ l := by
  have hfold (acc : List α) : x ∈ l.foldl (fun acc a => insertBy key a acc) acc ↔ x ∈ acc ∨ x ∈ l := by
    induction l generalizing acc with
    | nil => simp
    | cons a r ih =>
      rw [List.foldl_cons, ih, mem_insertBy, List.mem_cons]
      tauto
  simpa [sortBy] using hfold []

/-- What a read of DRAM touches: its registers and error records, and what the controller keeps. -/
def readTouch : Footprint := ⟨[.err, .ddr], [(0, none)]⟩

theorem Mach.checkWord_onlyIn (s : Mach) (reader w : Nat) : s.onlyIn readTouch (s.checkWord reader w) := by
  unfold Mach.checkWord
  split
  · extract_lets t u sec
    have ht : s.onlyIn readTouch t := by simp (disch := decide) [t]
    have hu : s.onlyIn readTouch u := by
      simp only [u]
      split <;> simp (disch := decide) [ht]
    split <;> simp (disch := decide) [hu]
  · split <;> simp (disch := decide)

theorem Mach.readLine_onlyIn (s : Mach) (reader a : Nat) : s.onlyIn readTouch (s.readLine reader a) := by
  unfold Mach.readLine
  extract_lets l t
  have ht : s.onlyIn readTouch t := by
    simp only [t]
    split
    · exact s.onlyIn_refl _
    · simp (disch := decide) [Mach.bankAccess]
  exact (Mach.onlyIn_each _ _ fun u i _ => u.checkWord_onlyIn reader (l + 8 * i)).2 ht

theorem Mach.readRange_onlyIn (s : Mach) (reader a n : Nat) : s.onlyIn readTouch (s.readRange reader a n) :=
  (Mach.onlyIn_each _ _ fun u l _ => u.readLine_onlyIn reader l).2 (s.onlyIn_refl _)

theorem Mach.bufTouch_onlyIn (s : Mach) (b : Buf) : s.onlyIn readTouch (s.bufTouch b) := by
  unfold Mach.bufTouch
  split
  · exact s.readRange_onlyIn ..
  · exact s.onlyIn_refl _

theorem Mach.bufTouch_mem (s : Mach) (b : Buf) : (s.bufTouch b).mem = s.mem := (s.bufTouch_onlyIn b).1 .mem (by decide)

theorem Mach.bufTouch_sys (s : Mach) (b : Buf) : (s.bufTouch b).sys = s.sys := (s.bufTouch_onlyIn b).1 .sys (by decide)

end Sys2Proof.Machine
end

section
/-! PROOF. Session, system, power and reset opcodes (R271, R341 to R348). -/
namespace Sys2Proof.Machine

/-- Settles O46: every form passes its checks, and its work is the one the clause states. -/
theorem sessionAndSystemOpcodes : Obligations.SessionAndSystemOpcodes := by
  unfold Obligations.SessionAndSystemOpcodes
  refine ⟨?_, ?_, ?_, ?_, ?_, ?_, ?_, ?_, ?_, ?_, ?_⟩
  · intro s o p obs n h hsess hl h16 h16' h18 h20 hfree
    refine issue_replies h (by decide) ?_
    unfold opSysSessionOpen
    refine Mach.guard_of_none (by simp [hl, hsess, h16, h16', h18, resv_ok h20]) ?_
    simp only [hfree]
    rfl
  · intro s o p obs h hl
    refine issue_replies h (by decide) ?_
    unfold opSysSessionClose
    exact Mach.guard_of_none (by simp [hl]) rfl
  · intro s o p obs i h hflow hl h16 h17 hno hfree
    have hopen : o.sess ≠ shutSess := by
      obtain ⟨-, hok, -⟩ := h
      simp only [Origin.ok, Bool.and_eq_true, decide_eq_true_eq] at hok
      simp only [shutSess]
      omega
    have h255 : pf p 16 1 ≤ 255 := Nat.le_of_lt_succ (pf_lt p 16 1)
    refine issue_replies h (by decide) ?_
    unfold opSysFlowOpen
    refine Mach.guard_of_none (by simp [hl, hflow, h16, h255, h17, hno]) ?_
    simp only [hopen, if_false, hfree]
    rfl
  · intro s o p obs i f h hflow hl h17 hfind
    obtain ⟨t, hwork, hgone⟩ : ∃ t, opSysFlowClose o p obs s.m = (t, Res.ok) ∧ t.flowOf o.sess (pf p 16 1) = none := by
      unfold opSysFlowClose
      refine ⟨_, Mach.guard_of_none (by simp [hl, hflow, resv_ok h17, hfind]) rfl, ?_⟩
      simp [Mach.flowOf, Mach.onCmd]
      tauto
    exact ⟨t, issue_replies h (by decide) hwork, hgone⟩
  · intro s o p obs h hl hping
    refine issue_replies h (by decide) ?_
    unfold opSysPing
    refine Mach.guard_of_none ?_ rfl
    simp [hl]
    exact hping
  · intro s o p obs h hl
    refine issue_replies h (by decide) ?_
    unfold opSysInfo
    exact Mach.guard_of_none (by simp [hl]) rfl
  · intro s o p obs h hl h20 h20' h22
    obtain ⟨l, hwork, hfacts⟩ : ∃ l : List ErrRec, opSysErrRead o p obs s.m = (s.m, Res.ok
        (toLE 2 l.length ++ toLE 2 (Nat.min 65535 (s.m.err.gone.filter (fun q => seqLe (pf p 16 4) q)).length)
          ++ (l.map ErrRec.bytes).flatten)) ∧
        l.length ≤ pf p 20 2 ∧ ∀ r ∈ l, r ∈ s.m.err.slots.map (·.2) ∧ seqLe (pf p 16 4) r.seq = true := by
      unfold opSysErrRead
      refine ⟨_, Mach.guard_of_none (by simp [hl, h20, h20', resv_ok h22]) rfl, List.length_take_le .., fun r hr => ?_⟩
      have hsorted := mem_sortBy.1 (List.mem_of_mem_take hr)
      exact List.mem_filter.1 hsorted
    exact ⟨l, issue_replies h (by decide) hwork, hfacts⟩
  · intro s o p obs h hl
    refine issue_replies h (by decide) ?_
    unfold opSysErrAck
    exact Mach.guard_of_none (by simp [hl]) rfl
  · intro s o p obs h hl h16 h17 h26
    refine issue_replies h (by decide) ?_
    unfold opSysRtc
    exact Mach.guard_of_none (by simp [hl, h16, resv_ok h17, resv_ok h26]) (by simp only [h16]; rfl)
  · intro s o p obs h hl h16 h17 h26
    refine issue_replies h (by decide) ?_
    unfold opSysRtc
    refine Mach.guard_of_none (by simp [hl, h16, resv_ok h17, resv_ok h26]) ?_
    simp [h16, Mach.rtcNow, Mach.onSys]
  · intro s o p obs h hl h16 h17 h22 h20 h20' h4 hsum
    refine issue_replies h (by decide) ?_
    unfold opSysOptionRead
    exact Mach.guard_of_none (by simp [hl, h16, resv_ok h17, resv_ok h22, inRange, h20, h20', h4, hsum]) rfl

/-- Settles O47: every form passes its checks, and its work is the one the clause states. -/
theorem powerAndResetOpcodes : Obligations.PowerAndResetOpcodes := by
  unfold Obligations.PowerAndResetOpcodes
  refine ⟨?_, ?_, ?_, ?_, ?_, ?_, ?_, ?_⟩
  · intro s o p obs h hl h4 h3 h17 hmove hlong hne
    refine issue_takes h (by decide) ?_
    unfold opSysPower
    exact Mach.guard_of_none (by simp [*]) (by simp only [hne, h3, if_false])
  · intro s o p obs h hl h16 h17 hmove hlong hne halarm
    refine issue_takes h (by decide) ?_
    unfold opSysPower
    refine Mach.guard_of_none ?_ ?_
    · simp [hl, h16, h17, hmove, hlong]
      exact halarm
    · simp only [h16, hne.symm, if_false, if_true]
      rfl
  · intro s o p obs h hl h16 h3 h4 h17 hmove hlong
    refine issue_replies h (by decide) ?_
    unfold opSysPower
    exact Mach.guard_of_none (by simp [hl, h3, h4, h17, hmove, hlong]) (if_pos h16)
  · intro s o p obs h hl h16 h18 hno
    refine issue_replies h (by decide) ?_
    unfold opSysReset
    refine Mach.guard_of_none (by simp [*]) ?_
    simp [h18, Mach.orderReset, hno, Mach.onSys]
  · intro s o p obs h hl h16 h18 h19 hown
    refine issue_replies h (by decide) ?_
    unfold opSysReset
    refine Mach.guard_of_none (by simp [*]) ?_
    simp [h18]
  · intro s o p obs h hl h16 h16' h18
    have hne : pf p 16 2 ≠ 0 := by omega
    refine issue_replies h (by decide) ?_
    unfold opSysResetHold
    refine Mach.guard_of_none (by simp [resv_ok, *]) ?_
    simp [hne, Mach.onSys]
  · intro s o p obs h hl h16 h18 hdef
    refine issue_replies h (by decide) ?_
    unfold opSysResetHold
    refine Mach.guard_of_none (by simp [resv_ok, *]) ?_
    simp [h16, Mach.onSys, hdef]
    rfl
  · intro s o p t n v i h hl hbuf herr hv hi ht hn
    subst ht
    refine issue_replies h (by decide) ?_
    unfold opSysFwUpdate
    refine Mach.guard_of_none (by simp [hl, hbuf, obsOn]) ?_
    rw [Mach.source_ok (by simpa [obsOn] using herr)]
    have hbank : (s.m.bufTouch (bufOf p 16)).mrd (mramBase + 0x3001) 1 = s.m.mrd 0x100003001 1 :=
      congrArg (fun m => memGet m 0x100003001 1) (s.m.bufTouch_mem _)
    simp only [hbank, ← hn, Mach.onSys, Mach.mwr, Mach.bufTouch_mem, Mach.bufTouch_sys]
    simp [obsOn, Nat.mod_eq_of_lt (show v < 4294967296 from hv), Nat.mod_eq_of_lt (show i < 18446744073709551616 from hi), mramBase]

end Sys2Proof.Machine
end

section
/-! PROOF. Feed opcodes (R324 to R326). -/
namespace Sys2Proof.Machine

/-- Whole records find room, or need none: the command is accepted or waits for its token. -/
theorem Mach.putRecords_st {s : Mach} {p : List Byte} {n : Nat} (h : s.timeRoom p n) (o : Origin) (op : Nat) (one : Bool)
    {l : List (Nat × Nat × List Byte)} (hn : l.length = n) : (s.putRecords o op (s.effOf p) one l).2.st ≤ 1 := by
  unfold Mach.timeRoom at h
  unfold Mach.putRecords
  cases he : s.effOf p with
  | imm => simp [Mach.latchPuts, Res.nextTick, ST.OK]
  | next late => simp [Mach.latchPuts, Res.nextTick, ST.OK]
  | scene => simp [Res.accepted, ST.ACCEPTED]
  | time t =>
    have hroom : s.timedCount + l.length ≤ 4096 := by simpa [he, hn] using h
    simp only [Mach.timePuts, List.length_map]
    rw [if_neg (by omega)]
    exact Nat.le_refl 1

/-- Records of feeds find room, or need none. -/
theorem Mach.feedPut_st {s : Mach} {p : List Byte} (h : s.timeRoom p (countOf p 32)) (o : Origin) (op size kind : Nat)
    (f : List Byte → List Byte) : (s.feedPut o op p size kind f).2.st ≤ 1 :=
  Mach.putRecords_st h o op true (by simp)

/-- A list of feed records passes its checks. -/
theorem Mach.feedList_ok {s : Mach} {p : List Byte} {size top : Nat} {rest : Nat → List Byte → Option Res} (hl : listFits p 32 size top)
    (h1 : onceEach p 32 size (fun e => fld e 0 2)) (ht : s.timingChk 14 p = none)
    (he : ∀ x ∈ entriesOf p 32 size, fld x.2 0 2 < s.variant.feeds ∧ rest x.1 x.2 = none) : s.feedList p size top rest = none := by
  simp only [Mach.feedList, firstOf_cons_eq_none, firstOf_nil, and_true]
  refine ⟨ht, listHead_ok hl, scan_ok (fun x hx => ⟨?_, (he x hx).2⟩) h1⟩
  simp [Mach.feedChk, (he x hx).1]

@[simp] theorem Mach.onlyIn_hold {s t : Mach} {F : Footprint} (x : SMap Word) (h : .hold ∈ F.parts) :
    s.onlyIn F { t with hold := x } ↔ s.onlyIn F t := Mach.onlyIn_of_part .hold h rfl

/-- What a read of a register touches (R10). -/
def regReadTouch : Footprint := ⟨[.hold], [(0, none)]⟩

theorem Mach.regRead_onlyIn (s : Mach) (a : Nat) : s.onlyIn regReadTouch (s.regRead a).2 := by
  unfold Mach.regRead
  split
  · exact s.onlyIn_refl _
  · rename_i w i j _
    split
    · exact s.onlyIn_refl _
    · split
      · exact s.onlyIn_refl _
      · extract_lets v t u q
        have ht : s.onlyIn regReadTouch t := by
          simp only [t]
          split
          · exact (Mach.onlyIn_hold _ (by decide)).2 (s.onlyIn_refl _)
          · exact s.onlyIn_refl _
        have hu : s.onlyIn regReadTouch u := by
          simp only [u]
          split <;> simp (disch := decide) [timeNowNsRead, ht]
        simp only [q]
        split
        · exact hu
        · exact (Mach.onlyIn_wr w.reg _ i j (by simp [Footprint.covers, regReadTouch])).2 hu

/-- A fold that adds `k` bytes at each step and keeps to a footprint. -/
theorem foldl_reads {F : Footprint} {k : Nat} {g : List Byte × Mach → Nat → List Byte × Mach}
    (hg : ∀ a j, (g a j).1.length = a.1.length + k ∧ a.2.onlyIn F (g a j).2) :
    ∀ (l : List Nat) (a : List Byte × Mach), (l.foldl g a).1.length = a.1.length + k * l.length ∧ a.2.onlyIn F (l.foldl g a).2
  | [], a => ⟨rfl, a.2.onlyIn_refl F⟩
  | j :: l, a => by
    obtain ⟨hlen, honly⟩ := hg a j
    obtain ⟨hlen', honly'⟩ := foldl_reads hg l (g a j)
    refine ⟨?_, Mach.onlyIn_trans honly honly'⟩
    rw [List.foldl_cons, hlen', hlen, List.length_cons, Nat.mul_succ]
    omega

/-- Settles O56: every form passes its checks, and its work is the one the clause states. -/
theorem feedOpcodes : Obligations.FeedOpcodes := by
  unfold Obligations.FeedOpcodes
  refine ⟨?_, ?_, ?_, ?_, ?_, ?_, ?_, ?_, ?_⟩
  · rintro s o p obs x h hl h1 ht he hroom rfl
    refine ⟨issue_leaves h (by decide) ?_, Mach.feedPut_st hroom ..⟩
    unfold opFeedEqSet
    refine Mach.guard_of_none ?_ rfl
    simp only [firstOf_cons_eq_none, firstOf_nil, and_true]
    refine ⟨listLen_ok hl, Mach.feedList_ok hl h1 ht fun x hx => ?_⟩
    obtain ⟨hf, hz, hrec⟩ := he x hx
    exact ⟨hf, by simp [resvIn, hz, hrec]⟩
  · rintro s o p obs w x h hl h1 ht rfl he hroom rfl
    refine ⟨issue_leaves h (by decide) ?_, Mach.feedPut_st hroom ..⟩
    unfold opFeedTrimSet
    refine Mach.guard_of_none ?_ rfl
    simp only [firstOf_cons_eq_none, firstOf_nil, and_true]
    refine ⟨listLen_ok hl, Mach.feedList_ok hl h1 ht fun x hx => ?_⟩
    obtain ⟨hf, htrim, hrec⟩ := he x hx
    exact ⟨hf, by simpa [htrim] using hrec⟩
  · rintro s o p obs x h hl h1 ht he hroom rfl
    refine ⟨issue_leaves h (by decide) ?_, Mach.feedPut_st hroom ..⟩
    unfold opFeedOutSet
    refine Mach.guard_of_none ?_ rfl
    simp only [firstOf_cons_eq_none, firstOf_nil, and_true]
    refine ⟨listLen_ok hl, Mach.feedList_ok hl h1 ht fun x hx => ?_⟩
    obtain ⟨hf, hz, hrec⟩ := he x hx
    exact ⟨hf, by simp [resvIn, hz, hrec]⟩
  · rintro s o p obs w x h hl h1 ht rfl he hroom rfl
    refine ⟨issue_leaves h (by decide) ?_, Mach.feedPut_st hroom ..⟩
    unfold opFeedGainSet
    refine Mach.guard_of_none ?_ rfl
    simp only [firstOf_cons_eq_none, firstOf_nil, and_true]
    refine ⟨listLen_ok hl, Mach.feedList_ok hl h1 ht fun x hx => ?_⟩
    obtain ⟨hf, hsel, hsel', hmute, hrec⟩ := he x hx
    have hsel0 : fld x.2 2 1 ≠ 0 := by omega
    exact ⟨hf, by simpa [hsel0, hsel', hmute] using hrec⟩
  · rintro s o p obs w x h hl h1 ht hmode rfl he hroom rfl
    refine ⟨issue_leaves h (by decide) ?_, Mach.feedPut_st hroom ..⟩
    unfold opFeedLimitSet
    refine Mach.guard_of_none ?_ rfl
    simp only [firstOf_cons_eq_none, firstOf_nil, and_true]
    refine ⟨listLen_ok hl, Mach.needs_eq_none.2 hmode, Mach.feedList_ok hl h1 ht fun x hx => ?_⟩
    obtain ⟨hf, hlim, hrec⟩ := he x hx
    exact ⟨hf, by simpa [hlim] using hrec⟩
  · rintro s o p obs x h hl h1 ht he hroom rfl
    refine ⟨issue_leaves h (by decide) ?_, Mach.feedPut_st hroom ..⟩
    unfold opFeedRatingSet
    refine Mach.guard_of_none ?_ rfl
    simp only [firstOf_cons_eq_none, firstOf_nil, and_true]
    refine ⟨listLen_ok hl, Mach.feedList_ok hl h1 ht fun x hx => ?_⟩
    obtain ⟨hf, hz, hrec⟩ := he x hx
    exact ⟨hf, by simp [resvIn, hz, hrec]⟩
  · intro s o p obs h hl hf hk hk1 hw
    refine issue_replies h (by decide) ?_
    unfold opFeedGet
    refine Mach.guard_of_none ?_ ?_
    · simp [hl, Mach.feedChk, hk, hw]
      exact hf
    · have hk02 : pf p 18 1 = 0 ∨ pf p 18 1 = 2 := by omega
      obtain e | e := hk02 <;> simp [e, K.EQ, K.OUTSET, K.RATING]
  · intro s o p obs h hl hf hk hw
    refine issue_replies h (by decide) ?_
    unfold opFeedGet
    refine Mach.guard_of_none ?_ ?_
    · simp [hl, Mach.feedChk, hk, hw]
      exact hf
    · by_cases e : pf p 19 1 = 0 <;> simp [hk, e]
  · intro s o p obs h hl hn hn' hsum
    obtain ⟨l, m, hwork, hlen, honly⟩ : ∃ l m, opFeedStatus o p obs s.m = (m, Res.ok l) ∧ l.length = 24 * pf p 18 2 ∧
        s.m.onlyIn regReadTouch m := by
      unfold opFeedStatus
      refine ⟨_, _, Mach.guard_of_none ?_ rfl, ?_⟩
      · simp [hl, hn, hn', Mach.feedChk, hsum]
        have : pf p 16 2 = fld p 0 2 := rfl
        omega
      · refine (foldl_reads (fun a j => ⟨?_, ?_⟩) _ _).imp (fun hlen => by simpa [upto] using hlen) id
        · simp
        · exact Mach.onlyIn_trans (a.2.regRead_onlyIn _) (Mach.regRead_onlyIn _ _)
    exact ⟨l, m, issue_replies h (by decide) hwork, hlen, honly.1 .mem (by decide), honly.1 .rend (by decide)⟩

end Sys2Proof.Machine
end

section
/-! PROOF. Host-path opcodes (R320 to R323). -/
namespace Sys2Proof.Machine

/-- Items that keep one for each key find room. -/
theorem Mach.timePuts_st {s : Mach} {n : Nat} (h : s.timedCount + n ≤ 4096) (o : Origin) (op t : Nat) (one : Bool) {l : List Put}
    (hn : l.length = n) : (s.timePuts o op t one l).2.st ≤ 1 := by
  unfold Mach.timePuts
  rw [if_neg (by omega)]
  exact Nat.le_refl 1

/-- Updates of a buffer that are all good: none is refused. -/
theorem findSome_updBad_none {s : Mach} {l : List Byte} {offs : List Nat} (h : ∀ a ∈ offs, s.updBad (l.drop a) = none) :
    offs.zipIdx.findSome? (fun (a, i) => (s.updBad (l.drop a)).map (fun x => (x.1, i, a))) = none := by
  rw [List.findSome?_eq_none_iff]
  rintro ⟨a, i⟩ hx
  simp [h a (List.fst_mem_of_mem_zipIdx hx)]

/-- Settles O60: every form passes its checks, and its work is the one the clause states. -/
theorem hostPathOpcodes : Obligations.HostPathOpcodes := by
  unfold Obligations.HostPathOpcodes
  refine ⟨?_, ?_, ?_, ?_⟩
  · intro s o p obs q h hl hmode hbad hfit
    refine issue_replies h (by decide) ?_
    unfold opPathUpdate
    exact Mach.guard_of_none (by simp [hl, hmode, hbad]) (by simp only [hfit])
  · rintro s o p obs t l offs q h hl hmode hbuf hlen herr rfl rfl hwalk hgood hfit
    refine issue_replies h (by decide) ?_
    unfold opPathUpdateBuf
    refine Mach.guard_of_none ?_ ?_
    · simp only [firstOf_cons_eq_none, firstOf_nil, and_true, lenIs_eq_none, Mach.needs_eq_none]
      exact ⟨hl, hmode, Mach.bufChk_with.2 ⟨hbuf, failIf_eq_none.2 (decide_eq_false (Nat.not_lt.2 hlen))⟩⟩
    · rw [Mach.source_ok herr]
      simp only [hwalk, findSome_updBad_none hgood, hfit]
  · rintro s o p obs puts x h hl h1 hmode ht he hroom rfl hx
    have hwork : opPathMode o p obs s.m = x := by
      unfold opPathMode
      refine Mach.guard_of_none ?_ ?_
      · simp only [firstOf_cons_eq_none, firstOf_nil, and_true]
        refine ⟨listLen_ok hl, Mach.needs_eq_none.2 hmode, ht, listHead_ok hl, scan_ok (fun x hx => ?_) h1⟩
        obtain ⟨ho, hv, hlo, hhi⟩ := he x hx
        have hbits : bits (fld x.2 2 2) 1 13 = fld x.2 2 2 / 2 := by
          rw [bits_eq]
          omega
        exact ⟨by simp [Mach.objChk, ho], by simpa [hbits, inRange, hlo, hhi] using hv⟩
      · obtain ⟨late, heff, rfl⟩ | ⟨t, heff, rfl⟩ := hx <;> simp only [heff]
    refine ⟨issue_leaves h (by decide) hwork, ?_⟩
    obtain ⟨late, heff, rfl⟩ | ⟨t, heff, rfl⟩ := hx
    · exact Nat.zero_le 1
    · exact Mach.timePuts_st (by simpa [Mach.timeRoom, heff] using hroom) _ _ _ _ (by simp)
  · intro s o p obs h hl ho hz
    obtain ⟨l, hwork, hlen⟩ : ∃ l, opPathStatus o p obs s.m = (s.m, Res.ok (toLE 4 (s.m.hpObjstat (pf p 16 2)) ++ l)) ∧ l.length = 32 := by
      unfold opPathStatus
      refine ⟨_, Mach.guard_of_none ?_ rfl, by simp [upto]⟩
      simp [Mach.objQuery, hl, resv_ok hz, ho]
    exact ⟨l, issue_replies h (by decide) hwork, hlen⟩

end Sys2Proof.Machine
end

section
/-! PROOF. Room-correction opcodes (R155 to R166, R327 to R333). -/
namespace Sys2Proof.Machine

/-- A load that no slot is held for passes the check of its own. -/
theorem Mach.loads_of_none {s : Mach} {id : Nat} (h : ∀ e ∈ s.cmd.loads, e.1 ≠ id) (f k : Nat) : s.loads id f k = false := by
  rw [Mach.loads, List.contains_eq_any_beq, List.any_eq_false]
  rintro ⟨a, b⟩ he
  have hne := h _ he
  simp only [beq_iff_eq, Prod.mk.injEq, not_and]
  exact fun e => absurd e.symm hne

/-- A good image that can be read is put into its slots. -/
theorem Mach.loadGo_ok {s : Mach} {b : Buf} {err : Bool} (herr : s.bufErr b false err = false) (hbad : bankBad (s.bufRead b) = none)
    (held : Bool) (fs : List Nat) (k : Nat) (tail : List Byte) :
    s.loadGo held b err fs k tail
      = ((s.bufTouch b).each fs (fun t f => t.putBank f k (s.bufRead b)), Res.ok (bankReply (s.bufRead b) ++ tail)) := by
  simp only [Mach.loadGo, herr, Bool.false_eq_true, if_false, hbad]

/-- The cross-fade settings of a feed, as an entry of CORR_XFCFG names them. -/
def Mach.xfcfgEntry (s : Mach) (x : Nat × List Byte) : Mach :=
  (s.sf F.FEED_XFCFG_LENLOG (fld x.2 2 1) (fld x.2 0 2)).sf F.FEED_XFCFG_CURVE (fld x.2 3 1) (fld x.2 0 2)

theorem Mach.xfcfg_registersOnly (l : List (Nat × List Byte)) (s : Mach) : s.registersOnly (s.each l Mach.xfcfgEntry) := by
  refine Mach.each_keeps (fun t => s.registersOnly t) _ (fun t x ht => ?_) l s s.registersOnly_refl
  exact Mach.registersOnly_sf _ _ _ _ (Mach.registersOnly_sf _ _ _ _ ht)

theorem Mach.xfcfg_rd_ne {l : List (Nat × List Byte)} {s : Mach} {f : Nat} (h : f ∉ l.map (fun x => fld x.2 0 2)) :
    (s.each l Mach.xfcfgEntry).rd R.FEED_XFCFG f = s.rd R.FEED_XFCFG f := by
  induction l generalizing s with
  | nil => rfl
  | cons x l ih =>
    simp only [List.map_cons, List.mem_cons, not_or] at h
    have hat : R.FEED_XFCFG.at_ (fld x.2 0 2) 0 ≠ R.FEED_XFCFG.at_ f 0 := by
      simp only [Reg.at_, R.FEED_XFCFG]
      omega
    rw [Mach.each_cons, ih h.2, Mach.xfcfgEntry, Mach.rd_sf_ne _ _ hat, Mach.rd_sf_ne _ _ hat]

theorem Mach.gf_of_rd {s t : Mach} {f : Fld} {i j : Nat} (h : t.rd f.reg i j = s.rd f.reg i j) : t.gf f i j = s.gf f i j := by
  simp only [Mach.gf, h]

/-- After a list without a feed twice, each feed has the settings of its entry. -/
theorem Mach.xfcfg_fields {l : List (Nat × List Byte)} (s : Mach) (hn : (l.map (fun x => fld x.2 0 2)).Nodup) {e : Nat × List Byte}
    (he : e ∈ l) (hlen : fld e.2 2 1 < 16) (hcurve : fld e.2 3 1 < 2) :
    (s.each l Mach.xfcfgEntry).gf F.FEED_XFCFG_LENLOG (fld e.2 0 2) = fld e.2 2 1
      ∧ (s.each l Mach.xfcfgEntry).gf F.FEED_XFCFG_CURVE (fld e.2 0 2) = fld e.2 3 1 := by
  induction l generalizing s with
  | nil => cases he
  | cons x l ih =>
    obtain ⟨hx, hn'⟩ := List.nodup_cons.1 hn
    rw [Mach.each_cons]
    obtain rfl | he := List.mem_cons.1 he
    · have hrd := Mach.xfcfg_rd_ne (s := s.xfcfgEntry e) hx
      rw [Mach.gf_of_rd (f := F.FEED_XFCFG_LENLOG) hrd, Mach.gf_of_rd (f := F.FEED_XFCFG_CURVE) hrd]
      unfold Mach.xfcfgEntry
      rw [Mach.gf_sf_disjoint (f := F.FEED_XFCFG_CURVE) (g := F.FEED_XFCFG_LENLOG) _ _ _ _ rfl (by decide) (by decide)]
      exact ⟨Mach.gf_sf_of_lt _ _ _ (by decide) hlen, Mach.gf_sf_of_lt _ _ _ (by decide) hcurve⟩
    · exact ih _ hn' he

/-- Settles O57: every form passes its checks, and its work is the one the clause states. -/
theorem correctionOpcodes : Obligations.CorrectionOpcodes := by
  unfold Obligations.CorrectionOpcodes
  refine ⟨?_, ?_, ?_, ?_, ?_, ?_, ?_, ?_, ?_⟩
  · intro s o p obs h hl hf hk h19 hloads hbuf hlen hon hbusy herr hbad
    refine issue_replies h (by decide) ?_
    unfold opCorrLoad
    simp only [Mach.loads_of_none hloads, Bool.false_eq_true, if_false]
    refine Mach.guard_of_none ?_ ?_
    · simp only [Mach.corrLoadChk, firstOf_cons_eq_none, firstOf_nil, and_true, hbusy, Option.map_none]
      refine ⟨lenIs_eq_none.2 hl, failIf_eq_none.2 (decide_eq_false (Nat.not_le.2 hf)), codeTo_eq_none.2 hk, resv_ok h19,
        Mach.bufChk_with.2 ⟨hbuf, failOpen_eq_none.2 (decide_eq_false (Nat.not_lt.2 hlen))⟩, by simp [hon]⟩
    · exact (Mach.loadGo_ok herr hbad _ _ _ _).trans (by simp)
  · intro s o p obs fs h hl hk h17 hmask hne hfs hloads hbuf hlen hon herr hbad
    refine issue_replies h (by decide) ?_
    unfold opCorrLoadMulti
    have hmask' : maskFeeds p = fs := hmask.symm
    simp only [hmask', Mach.loads_of_none hloads, Bool.false_eq_true, if_false]
    refine Mach.guard_of_none ?_ (Mach.loadGo_ok herr hbad _ _ _ _)
    simp only [Mach.corrMultiChk, hmask', firstOf_cons_eq_none, firstOf_nil, and_true]
    refine ⟨lenIs_eq_none.2 hl, codeTo_eq_none.2 hk, resv_ok h17, by simpa using hne, ?_,
      Mach.bufChk_with.2 ⟨hbuf, failOpen_eq_none.2 (decide_eq_false (Nat.not_lt.2 hlen))⟩, by simp [hon], ?_⟩
    · rw [failIf_eq_none, List.any_eq_false]
      intro f hf
      simpa using (hfs f hf).1
    · rw [List.findSome?_eq_none_iff]
      intro f hf
      simp [(hfs f hf).2]
  · rintro s o p obs t h hl h1 ht he heff rfl
    refine issue_takes h (by decide) ?_
    unfold opCorrSwap
    refine Mach.guard_of_none ?_ (by simp only [heff])
    simp only [firstOf_cons_eq_none, firstOf_nil, and_true]
    refine ⟨listLen_ok hl, ht, listHead_ok hl, scan_ok (fun x hx => ?_) h1⟩
    obtain ⟨hf, hword⟩ := he x hx
    exact ⟨by simpa [hf] using hword, by simp [heff]⟩
  · rintro s o p obs puts x h hl h1 ht he hroom rfl hx
    have hwork : opCorrSwap o p obs s.m = x := by
      unfold opCorrSwap
      refine Mach.guard_of_none ?_ ?_
      · simp only [firstOf_cons_eq_none, firstOf_nil, and_true]
        refine ⟨listLen_ok hl, ht, listHead_ok hl, scan_ok (fun x hx => ?_) h1⟩
        obtain ⟨hf, hword, h0, h1⟩ := he x hx
        exact ⟨by simpa [hf] using hword, by simp [h0, h1]⟩
      · obtain ⟨late, heff, rfl⟩ | ⟨t, heff, rfl⟩ := hx <;> simp only [heff]
    refine ⟨issue_leaves h (by decide) hwork, ?_⟩
    obtain ⟨late, heff, rfl⟩ | ⟨t, heff, rfl⟩ := hx
    · exact Nat.zero_le 1
    · exact Mach.timePuts_st (by simpa [Mach.timeRoom, heff] using hroom) _ _ _ _ (by simp)
  · intro s o p obs h hl h1 he
    refine issue_replies_some h (by decide) ?_
    unfold opCorrXfcfg
    refine ⟨s.m.each (entriesOf p 16 4) Mach.xfcfgEntry, Mach.guard_of_none (listChecks_ok hl ?_) rfl, Mach.xfcfg_registersOnly .., fun e hx => ?_⟩
    · simp only [firstOf_cons_eq_none, firstOf_nil, and_true]
      refine scan_ok (fun x hx => ?_) h1
      obtain ⟨hf, hlo, hhi, hc⟩ := he x hx
      exact ⟨by simp [Mach.feedChk, hf], by simp [inRange, hlo, hhi, hc]⟩
    · obtain ⟨-, -, hhi, hc⟩ := he e hx
      exact Mach.xfcfg_fields _ h1 hx (by omega) (by omega)
  · intro s o p obs h hl hf hz
    obtain ⟨l, hwork, hfacts⟩ : ∃ l, opCorrStatus o p obs s.m = (s.m, Res.ok l) ∧ l.length = 36 ∧
        l.take 8 = toLE 4 (s.m.bankStat (pf p 16 2)) ++ toLE 4 (s.m.xfPos (pf p 16 2)) ∧
        slice l 8 16 = toLE 8 (s.m.feed (pf p 16 2)).a.id ++ toLE 8 (s.m.feed (pf p 16 2)).b.id := by
      unfold opCorrStatus
      have hf' : fld p 0 2 < s.m.variant.feeds := hf
      refine ⟨_, Mach.guard_of_none ?_ rfl, ?_, ?_, ?_⟩
      · simp [hl, resv_ok hz, Mach.feedChk, hf']
      · simp
      · simp [toLE]
      · simp [toLE, slice]
    exact ⟨l, issue_replies h (by decide) hwork, hfacts⟩
  · intro s o p obs h hl ha hb hen hok hon
    have hb' : pf p 16 8 < 1099511627776 := hb
    refine issue_replies h (by decide) ?_
    unfold opCorrRegion
    refine Mach.guard_of_none (by simp [hl, regionChk, ha, hb', hen, hok, hon]) ?_
    simp only [hen, hon, show bitOf 1 0 = true from rfl, Bool.false_and, Bool.false_eq_true, if_false]
  · intro s o p obs h hl ha hb hen hon
    have hb' : pf p 16 8 < 1099511627776 := hb
    refine issue_replies h (by decide) ?_
    unfold opCorrRegion
    refine Mach.guard_of_none ?_ ?_
    · have hoff : bitOf 0 0 = false := by decide
      cases hc : s.m.corrOn
      · simp [hl, regionChk, ha, hb', hen, hoff]
      · obtain ⟨hbase, hfree⟩ := hon hc
        simp [hl, regionChk, ← hbase, ha, hb', hen, hoff, hfree]
    · simp only [hen, show bitOf 0 0 = false from rfl, Bool.and_false]
      rfl
  · intro s o p obs h hl h1 he
    refine issue_replies h (by decide) ?_
    unfold opCorrResetSlot
    refine Mach.guard_of_none (listChecks_ok hl ?_) rfl
    simp only [firstOf_cons_eq_none, firstOf_nil, and_true]
    refine scan_ok (fun x hx => ?_) h1
    obtain ⟨hf, hk, hb, hbusy⟩ := he x hx
    exact ⟨by simp [Mach.feedChk, hf], by simp [hk, hb, hbusy]⟩

end Sys2Proof.Machine
end

section
/-! SUPPORT. Reads of memory after writes elsewhere, and the frames of the scene store (R305). -/
namespace Sys2Proof.Machine

theorem Mach.mrd_mwr_self (s : Mach) (a : Nat) (l : List Byte) : (s.mwr a l).mrd a l.length = l := memGet_memPut_self ..

theorem Mach.mrd_mwr_apart (s : Mach) {a b n : Nat} {l : List Byte} (h : b + n ≤ a ∨ a + l.length ≤ b) :
    (s.mwr a l).mrd b n = s.mrd b n := by
  obtain h | h := h
  · exact memGet_memPut_below _ _ _ _ _ h
  · exact memGet_memPut_above _ _ _ _ _ h

@[simp] theorem memGet_length (m : List Host.Cell) (a n : Nat) : (memGet m a n).length = n := by simp [memGet, upto]

@[simp] theorem Mach.mrd_length (s : Mach) (a n : Nat) : (s.mrd a n).length = n := memGet_length ..

/-- The first bytes of a write read back. -/
theorem Mach.mrd_mwr_front (s : Mach) (a : Nat) (l r : List Byte) : (s.mwr a (l ++ r)).mrd a l.length = l := by
  have htake : (s.mwr a (l ++ r)).mrd a l.length = ((s.mwr a (l ++ r)).mrd a (l ++ r).length).take l.length := by
    simp only [Mach.mrd, memGet, upto, ← List.map_take, List.take_range, List.length_append]
    rw [Nat.min_eq_left (by omega)]
  rw [htake, Mach.mrd_mwr_self, List.take_left]

/-- The frame that a store write takes is one of the ten. -/
theorem Mach.freeFrame_lt (s : Mach) : s.freeFrame < 10 := by
  have hfold (l : List Nat) (hl : ∀ k ∈ l, k < 10) (b : Option (Nat × Nat)) (hb : b.elim 0 (·.2) < 10) :
      (l.foldl (fun (b : Option (Nat × Nat)) k => match b with
        | none => some (s.frameWrites k, k)
        | some (w, _) => if s.frameWrites k < w then some (s.frameWrites k, k) else b) b).elim 0 (·.2) < 10 := by
    induction l generalizing b with
    | nil => exact hb
    | cons k l ih =>
      rw [List.foldl_cons]
      refine ih (fun j hj => hl j (List.mem_cons_of_mem _ hj)) _ ?_
      have hk : k < 10 := hl k (by simp)
      cases b with
      | none => exact hk
      | some x =>
        dsimp only
        split
        · exact hk
        · exact hb
  refine hfold _ (fun k hk => ?_) none (by decide)
  simpa [upto] using (List.mem_filter.1 hk).1

theorem Mach.frameWrites_of_mem {s t : Mach} (h : t.mem = s.mem) (k : Nat) : t.frameWrites k = s.frameWrites k := by
  simp only [Mach.frameWrites, Mach.mrd, h]

/-- A part with the same memory finds the same free frame. -/
theorem Mach.freeFrame_of_mem {s t : Mach} (h : t.mem = s.mem) : t.freeFrame = s.freeFrame := by
  have hslot : t.slotFrame = s.slotFrame := funext fun n => by simp only [Mach.slotFrame, Mach.mrd, h]
  simp only [Mach.freeFrame, hslot, Mach.frameWrites_of_mem h]

/-- The part after an image has been written to frame k and slot n points there. -/
def Mach.storePut (s : Mach) (n k : Nat) (img : List Byte) : Mach :=
  ((s.mwr (storeFrame k) img).mwr (storeDir + 0x100 + 4 * k) (toLE 4 (s.frameWrites k + 1))).mwr (storeDir + 16 * n)
    (toLE 4 (k + 1) ++ toLE 4 (s.rtcNow / 86400))

theorem Mach.storePut_frame (s : Mach) (n k : Nat) (img : List Byte) :
    s.storePut n k img = { s with mem := (s.storePut n k img).mem } := by
  unfold Mach.storePut Mach.mwr
  rfl

/-- The frame reads back after the count of its writes. -/
theorem Mach.mrd_frame_after_count (s : Mach) {k w : Nat} (hk : k < 10) (img : List Byte) :
    ((s.mwr (storeFrame k) img).mwr (storeDir + 0x100 + 4 * k) (toLE 4 w)).mrd (storeFrame k) img.length = img := by
  have hapart : storeDir + 0x100 + 4 * k + (toLE 4 w).length ≤ storeFrame k := by
    rw [toLE_length]
    unfold storeDir storeFrame
    omega
  rw [Mach.mrd_mwr_apart _ (.inr hapart), Mach.mrd_mwr_self]

theorem Mach.slotImage_length (s : Mach) {n : Nat} {img : List Byte} (h : s.slotImage n = some img) : img.length = maxImage := by
  unfold Mach.slotImage at h
  dsimp only at h
  split at h
  · cases h
  · rw [← Option.some.inj h]
    exact Mach.mrd_length ..

/-- A slot holds the image that was put there. -/
theorem Mach.storePut_slotImage (s : Mach) {n k : Nat} {img : List Byte} (hn : n ≤ 7) (hk : k < 10) (hl : img.length = maxImage) :
    (s.storePut n k img).slotImage n = some img := by
  have hframe : (s.storePut n k img).slotFrame n = k + 1 := by
    unfold Mach.slotFrame Mach.storePut
    have hfront := Mach.mrd_mwr_front ((s.mwr (storeFrame k) img).mwr (storeDir + 0x100 + 4 * k) (toLE 4 (s.frameWrites k + 1)))
      (storeDir + 16 * n) (toLE 4 (k + 1)) (toLE 4 (s.rtcNow / 86400))
    rw [toLE_length] at hfront
    rw [hfront, leNat_toLE]
    omega
  have himg : (s.storePut n k img).mrd (storeFrame k) maxImage = img := by
    have hapart : storeDir + 16 * n + (toLE 4 (k + 1) ++ toLE 4 (s.rtcNow / 86400)).length ≤ storeFrame k := by
      rw [List.length_append, toLE_length, toLE_length]
      unfold storeDir storeFrame
      omega
    unfold Mach.storePut
    rw [Mach.mrd_mwr_apart _ (.inr hapart), ← hl, Mach.mrd_frame_after_count _ hk]
  have hin : ¬ (k + 1 = 0 ∨ 10 < k + 1) := by omega
  simp [Mach.slotImage, hframe, himg]
  omega

end Sys2Proof.Machine
end

section
/-! PROOF. Scene opcodes (R299 to R307). -/
namespace Sys2Proof.Machine

theorem mget_map {α : Type} {f : α → α} {d : α} (l : SMap α) (k : Nat) : mget (f d) (l.map (fun e => (e.1, f e.2))) k = f (mget d l k) := by
  induction l with
  | nil => rfl
  | cons e l ih =>
    simp only [List.map_cons, mget]
    split
    · rfl
    · exact ih

/-- Clearing the marks keeps what is staged. -/
theorem Mach.clearMarks_stage (s : Mach) (k i : Nat) : (s.clearMarks.recd k i).stage = (s.recd k i).stage := by
  have h := mget_map (f := fun r : Rec => { r with dirty := false }) (d := ⟨recReset k, recReset k, recReset k, false⟩) s.rend.recs (rkey k i)
  have hrec : s.clearMarks.recd k i = { s.recd k i with dirty := false } := h
  rw [hrec]

/-- A full image that is written to the store goes to the free frame, and its slot points there. -/
theorem opScnStoreWrite_ok {o : Origin} {p : List Byte} {obs : List Nat} {s : Mach} (hl : lenOf p = 40) (hn : pf p 16 1 ≤ 7)
    (hz : pf p 17 3 = 0) (hbuf : s.bufChk p 20 = none) (herr : s.bufErr (bufOf p 20) false (obsOn obs 0) = false)
    (hgood : obsOn obs 1 = false) (hchk : (s.bufTouch (bufOf p 20)).imageChk false (s.bufRead (bufOf p 20)) = none)
    (hall : fld (s.bufRead (bufOf p 20)) 4 2 = 0x7FF) (hlen : pf p 28 4 = maxImage) :
    opScnStoreWrite o p obs s = ((s.bufTouch (bufOf p 20)).storePut (pf p 16 1) s.freeFrame (s.bufRead (bufOf p 20)),
      Res.ok (toLE 4 (s.frameWrites s.freeFrame + 1))) := by
  have hmem : (s.bufTouch (bufOf p 20)).mem = s.mem := s.bufTouch_mem _
  have hfree : (s.bufTouch (bufOf p 20)).freeFrame = s.freeFrame := Mach.freeFrame_of_mem hmem
  have hwrites := Mach.frameWrites_of_mem hmem s.freeFrame
  have hblen : (bufOf p 20).len = maxImage := hlen
  unfold opScnStoreWrite
  refine Mach.guard_of_none (by simp [hl, hn, resv_ok hz, hbuf]) ?_
  rw [Mach.source_ok herr]
  refine Mach.guard_of_none (by simp [hchk, hall, hblen]) ?_
  simp only [hgood, Bool.false_eq_true, if_false, hfree, hwrites, Mach.when, Mach.mrd_frame_after_count _ s.freeFrame_lt, bne_self_eq_false]
  rw [Mach.storePut, hwrites]
  rfl

theorem opScnStoreInfo_ok (o : Origin) {p : List Byte} (obs : List Nat) (s : Mach) (hl : lenOf p = 20) :
    ∃ data, opScnStoreInfo o p obs s = (s, Res.ok data) ∧ data.length = 128 := by
  unfold opScnStoreInfo
  refine ⟨_, Mach.guard_of_none (by simp [hl]) rfl, ?_⟩
  rw [length_flatMap_const (k := 16)]
  · simp [upto]
  · intro n _
    cases himg : s.slotImage n with
    | none => exact List.length_replicate
    | some img =>
      have hslice : (slice img 16 8).length = 8 := by
        rw [slice, List.length_take, List.length_drop, s.slotImage_length himg]
        rfl
      simp only [List.length_append, toLE_length, hslice]

theorem opScnStatus_ok (o : Origin) {p : List Byte} (obs : List Nat) (s : Mach) (hl : lenOf p = 20) :
    ∃ data, opScnStatus o p obs s = (s, Res.ok data) ∧ data.length = 32
      ∧ fld data 24 8 = (s.rend.commitTick.getD noTick) % 2 ^ 64 := by
  unfold opScnStatus
  refine ⟨_, Mach.guard_of_none (by simp [hl]) rfl, ?_, ?_⟩
  · rw [List.length_append, List.length_append, length_flatMap_const (k := 2) (fun _ _ => toLE_length ..)]
    simp [upto]
  · have hmarks (f : Nat → Nat) (n : Nat) : ((upto 11).flatMap (fun k => toLE 2 (f k)) ++ toLE 2 n).length = 24 := by
      rw [List.length_append, length_flatMap_const (k := 2) (fun _ _ => toLE_length ..)]
      simp [upto]
    have hdrop (f : Nat → Nat) (n v : Nat) :
        slice ((upto 11).flatMap (fun k => toLE 2 (f k)) ++ toLE 2 n ++ toLE 8 v) 24 8 = toLE 8 v := by
      rw [slice, List.drop_left' (hmarks f n), List.take_of_length_le (by rw [toLE_length])]
    rw [fld, hdrop, leNat_toLE]
    rfl

/-- An erased slot holds no image. -/
theorem Mach.erased_slotImage (s : Mach) (n : Nat) : (s.mwr (storeDir + 16 * n) (toLE 8 0)).slotImage n = none := by
  have hfront := Mach.mrd_mwr_front s (storeDir + 16 * n) (toLE 4 0) (toLE 4 0)
  have hzero : (s.mwr (storeDir + 16 * n) (toLE 8 0)).slotFrame n = 0 := congrArg leNat hfront
  rw [Mach.slotImage, hzero]
  rfl

/-- Erasing a slot leaves the others. -/
theorem Mach.erased_slotFrame (s : Mach) {n k : Nat} (h : k ≠ n) : (s.mwr (storeDir + 16 * n) (toLE 8 0)).slotFrame k = s.slotFrame k := by
  have hapart : storeDir + 16 * k + 4 ≤ storeDir + 16 * n ∨ storeDir + 16 * n + (toLE 8 0).length ≤ storeDir + 16 * k := by
    rw [toLE_length]
    omega
  exact congrArg leNat (Mach.mrd_mwr_apart _ hapart)

/-- Settles O58: every form passes its checks, and its work is the one the clause states. -/
theorem sceneOpcodes : Obligations.SceneOpcodes := by
  unfold Obligations.SceneOpcodes
  refine ⟨?_, ?_, ?_, ?_, ?_, ?_, ?_, ?_, ?_⟩
  · intro s o p obs x h hl ht hroom hx
    have hwork : opScnCommit o p obs s.m = x := by
      unfold opScnCommit
      refine Mach.guard_of_none (by simp [hl, ht]) ?_
      obtain ⟨late, heff, rfl⟩ | ⟨t, heff, rfl⟩ := hx <;> simp only [heff]
    refine ⟨issue_leaves h (by decide) hwork, ?_⟩
    obtain ⟨late, heff, rfl⟩ | ⟨t, heff, rfl⟩ := hx
    · exact Nat.zero_le 1
    · exact Mach.timePuts_st (by simpa [Mach.timeRoom, heff] using hroom) _ _ _ _ rfl
  · intro s o p obs t img h hl hbuf hlen herr ht himg hsize hchk
    subst ht himg
    refine issue_replies h (by decide) ?_
    unfold opScnLoad
    refine Mach.guard_of_none ?_ ?_
    · simp only [firstOf_cons_eq_none, firstOf_nil, and_true]
      exact ⟨lenIs_eq_none.2 hl, Mach.bufChk_with.2 ⟨hbuf, failOpen_eq_none.2 (decide_eq_false (Nat.not_lt.2 hlen))⟩⟩
    · rw [Mach.source_ok herr]
      have hblen : (bufOf p 16).len = pf p 24 4 := rfl
      exact Mach.guard_of_none (by simp [hchk, hsize, hblen]) rfl
  · intro s o p obs h hl
    exact ⟨s.m.clearMarks, issue_replies h (by decide) (opScnDiscard_of_length o obs s.m hl), s.m.clearMarks_clean, s.m.clearMarks_stage, rfl, rfl⟩
  · intro s o p obs b w h hl hb hz hmask hbuf hlen herr hst
    have hcode : pf p 16 1 ≤ 1 := by rw [hb]; exact Nat.le_of_lt_succ (b2n_lt_two b)
    have hlive : (pf p 16 1 == 0) = !b := by rw [hb]; cases b <;> rfl
    have hpre : firstOf [lenIs p 40, codeTo p 16 1 1, resv p 17 1, failIf (pf p 18 2 / 2048 != 0) ST.BAD_PARAM 18] = none := by
      simp [hl, hcode, resv_ok hz, hmask]
    refine issue_replies h (by decide) ?_
    unfold opScnRead
    simp only [hbuf, hpre, Mach.birthTry_none, Mach.when_self]
    refine Mach.guard_of_none ?_ ?_
    · simp only [firstOf_cons_eq_none, firstOf_nil, and_true, true_and]
      exact Mach.bufChk_with.2 ⟨hbuf, failIf_eq_none.2 (decide_eq_false (Nat.not_lt.2 hlen))⟩
    · rw [hlive]
      exact Mach.dest_ok herr hst
  · intro s o p obs t img h hl hn hz hbuf herr hgood ht himg hchk hall hlen
    subst ht himg
    have himgLen : (s.m.bufRead (bufOf p 20)).length = maxImage := (Mach.mrd_length ..).trans hlen
    refine ⟨_, issue_replies h (by decide) (opScnStoreWrite_ok hl hn hz hbuf herr hgood hchk hall hlen), Mach.storePut_frame .., ?_⟩
    exact Mach.storePut_slotImage _ hn s.m.freeFrame_lt himgLen
  · intro s o p obs img h hl hn hz hslot hcrc hchk
    refine issue_replies h (by decide) ?_
    unfold opScnStoreRecall
    refine Mach.guard_of_none (by simp [hl, hn, resv_ok hz]) ?_
    simp only [hslot]
    exact Mach.guard_of_none (by simp [hcrc, hchk]) rfl
  · intro s o p obs h hl
    exact issue_replies_with h (by decide) (opScnStoreInfo_ok o obs s.m hl)
  · intro s o p obs h hl hn hz
    refine ⟨_, issue_replies h (by decide) ?_, s.m.erased_slotImage _, fun k _ hne => s.m.erased_slotFrame hne⟩
    unfold opScnStoreErase
    exact Mach.guard_of_none (by simp [hl, hn, resv_ok hz]) rfl
  · intro s o p obs h hl
    exact issue_replies_with h (by decide) (opScnStatus_ok o obs s.m hl)

end Sys2Proof.Machine
end

section
/-! PROOF. Object and geometry opcodes (R308 to R319). -/
namespace Sys2Proof.Machine

theorem insertBy_length {α : Type} (key : α → Nat) (a : α) (l : List α) : (insertBy key a l).length = l.length + 1 := by
  induction l with
  | nil => rfl
  | cons b r ih =>
    unfold insertBy
    split
    · rfl
    · simp [ih]

theorem sortBy_length {α : Type} (key : α → Nat) (l : List α) : (sortBy key l).length = l.length := by
  have hfold (acc : List α) : (l.foldl (fun acc a => insertBy key a acc) acc).length = acc.length + l.length := by
    induction l generalizing acc with
    | nil => rfl
    | cons a r ih =>
      rw [List.foldl_cons, ih, insertBy_length, List.length_cons]
      omega
  simpa [sortBy] using hfold []

theorem Mach.onObj_obj_self (s : Mach) (o : Nat) (f : ObjGeo → ObjGeo) : (s.onObj o f).obj o = f (s.obj o) := mget_mput_self ..

theorem Mach.onObj_obj_ne (s : Mach) {o k : Nat} (f : ObjGeo → ObjGeo) (h : o ≠ k) : (s.onObj o f).obj k = s.obj k :=
  mget_mput_ne _ _ _ h

/-- The queue and the segment of an object are emptied, as an entry of GEO_KEY_FLUSH names it. -/
def Mach.flushEntry (s : Mach) (e : Nat × List Byte) : Mach :=
  s.onObj (fld e.2 0 2) (fun g => { g with queue := [], traj := { g.traj with seg := none } })

theorem Mach.flush_obj_ne {l : List (Nat × List Byte)} {s : Mach} {k : Nat} (h : ∀ e ∈ l, fld e.2 0 2 ≠ k) :
    (s.each l Mach.flushEntry).obj k = s.obj k := by
  induction l generalizing s with
  | nil => rfl
  | cons e l ih =>
    rw [Mach.each_cons, ih fun x hx => h x (List.mem_cons_of_mem _ hx), Mach.flushEntry, Mach.onObj_obj_ne _ _ (h e List.mem_cons_self)]

/-- After a list of flushes each object it names is flushed. -/
theorem Mach.flush_obj {l : List (Nat × List Byte)} {s : Mach} {k : Nat} (h : ∃ e ∈ l, fld e.2 0 2 = k) :
    ((s.each l Mach.flushEntry).obj k).queue = [] ∧ ((s.each l Mach.flushEntry).obj k).traj.seg = none := by
  induction l generalizing s with
  | nil => simp at h
  | cons e l ih =>
    rw [Mach.each_cons]
    by_cases hl : ∃ x ∈ l, fld x.2 0 2 = k
    · exact ih hl
    · have he : fld e.2 0 2 = k := by
        obtain ⟨x, hx, hk⟩ := h
        obtain rfl | hx := List.mem_cons.1 hx
        · exact hk
        · exact absurd ⟨x, hx, hk⟩ hl
      rw [Mach.flush_obj_ne fun x hx hk => hl ⟨x, hx, hk⟩, Mach.flushEntry, he, Mach.onObj_obj_self]
      exact ⟨rfl, rfl⟩

/-- The first of a run of channels that exist exists. -/
theorem Mach.chanOk_of_chansOk {s : Mach} {f n : Nat} (h : s.chansOk f n = true) (hn : 1 ≤ n) : s.chanOk f = true := by
  have hj := List.all_eq_true.1 h 0 (by simp [upto]; omega)
  simpa using hj

/-- Settles O59: every form passes its checks, and its work is the one the clause states. -/
theorem objectAndGeometryOpcodes : Obligations.ObjectAndGeometryOpcodes := by
  unfold Obligations.ObjectAndGeometryOpcodes
  refine ⟨?_, ?_, ?_, ?_, ?_, ?_, ?_, ?_, ?_, ?_, ?_, ?_, ?_⟩
  · rintro s o p obs x h hl h1 ht he hroom rfl
    refine ⟨issue_leaves h (by decide) ?_, Mach.putRecords_st hroom _ _ _ (by simp)⟩
    unfold opObjSetParams
    refine Mach.guard_of_none ?_ rfl
    simp only [firstOf_cons_eq_none, firstOf_nil, and_true]
    refine ⟨listLen_ok hl, ht, listHead_ok hl, scan_ok (fun x hx => ?_) h1⟩
    obtain ⟨hc, hz, hrec⟩ := he x hx
    exact ⟨by simp [Mach.chanChk, hc], by simp [resvIn, hz, hrec]⟩
  · rintro s o p obs w x h hl h1 ht rfl he hroom rfl
    refine ⟨issue_leaves h (by decide) ?_, Mach.putRecords_st hroom _ _ _ (by simp)⟩
    unfold opObjSetGain
    refine Mach.guard_of_none ?_ rfl
    simp only [firstOf_cons_eq_none, firstOf_nil, and_true]
    refine ⟨listLen_ok hl, ht, listHead_ok hl, scan_ok (fun x hx => ?_) h1⟩
    obtain ⟨hc, hz, hrec⟩ := he x hx
    refine ⟨by simp [Mach.chanChk, hc], ?_⟩
    rw [Mach.recChk_eq_none.2 hrec]
    simp [resvIn, hz]
  · intro s o p obs h hl hc hk hz
    refine issue_replies h (by decide) ?_
    unfold opObjGetParams
    exact Mach.guard_of_none (by simp [hl, hc, hk, resv_ok hz]) rfl
  · intro s o p obs h hl hn hn' hc
    refine issue_replies_with h (by decide) ?_
    unfold opObjStatus
    refine ⟨_, Mach.guard_of_none ?_ rfl, ?_⟩
    · simp [hl, hn, hn', hc, Mach.chanOk_of_chansOk hc hn]
    · rw [length_flatMap_const (k := 16) (by simp)]
      simp [upto]
  · rintro s o p obs l h hl hbuf herr rfl hlo hlen htab hfeeds
    refine issue_takes h (by decide) ?_
    unfold opGeoSpkLoad
    refine Mach.guard_of_none (by simp [hl, hbuf]) ((Mach.source_ok herr).trans ?_)
    refine Mach.guard_of_none ?_ rfl
    have hvar : (s.m.bufTouch (bufOf p 16)).variant = s.m.variant := (s.m.bufTouch_onlyIn _).1 .variant (by decide)
    have hlo' : 32 ≤ (bufOf p 16).len := hlo
    have hlen' : (bufOf p 16).len = tabLen (s.m.bufRead (bufOf p 16)) := hlen
    simp only [firstOf_cons_eq_none, firstOf_nil, and_true, failOpen_eq_none, htab, Option.map_none, true_and, hvar]
    rw [← hlen']
    simp [hlo', hfeeds]
  · intro s o p obs h hl hrec
    refine issue_takes h (by decide) ?_
    unfold opGeoAtmosSet
    exact Mach.guard_of_none (by simp [hl, slice, hrec]) rfl
  · rintro s o p obs x h hl h1 ht he hroom rfl
    refine ⟨issue_leaves h (by decide) ?_, Mach.putRecords_st hroom _ _ _ (by simp)⟩
    unfold opGeoObjSet
    refine Mach.guard_of_none ?_ rfl
    simp only [firstOf_cons_eq_none, firstOf_nil, and_true]
    refine ⟨listLen_ok hl, ht, listHead_ok hl, scan_ok (fun x hx => ?_) h1⟩
    obtain ⟨ho, hz, hrec⟩ := he x hx
    exact ⟨by simp [Mach.objChk, ho], by simp [resvIn, hz, hrec]⟩
  · intro s o p obs q h hl hfree he hfit
    refine issue_replies h (by decide) ?_
    unfold opGeoKey
    refine Mach.guard_of_none ?_ (by simp only [hfit])
    simp only [firstOf_cons_eq_none, firstOf_nil, and_true]
    refine ⟨listLen_ok hl, by simp [hfree], listHead_ok hl, eachEntry_none _ fun x hx => ?_⟩
    obtain ⟨ho, hz, hns, hfl, hz'⟩ := he x hx
    simp [Mach.objChk, ho, resvIn, hz, hns, hfl, hz']
  · intro s o p obs h hl h1 he
    refine issue_replies_some h (by decide) ?_
    unfold opGeoKeyFlush
    refine ⟨s.m.each (entriesOf p 16 4) Mach.flushEntry, Mach.guard_of_none (listChecks_ok hl ?_) rfl,
      fun e hx => Mach.flush_obj ⟨e, hx, rfl⟩, fun k hk => Mach.flush_obj_ne hk⟩
    simp only [firstOf_cons_eq_none, firstOf_nil, and_true]
    refine scan_ok (fun x hx => ?_) h1
    obtain ⟨ho, hz⟩ := he x hx
    exact ⟨by simp [Mach.objChk, ho], by simp [resvIn, hz]⟩
  · intro s o p obs h hl ho hz
    obtain ⟨l, hwork⟩ : ∃ l, opGeoGetObj o p obs s.m = (s.m, Res.ok (s.m.liveRec K.GEOREC (pf p 16 2) ++ l)) := by
      unfold opGeoGetObj
      refine ⟨?_, (Mach.guard_of_none (by simp [Mach.objQuery, hl, ho, resv_ok hz]) rfl).trans ?_⟩
      rotate_left
      · simp only [List.append_assoc]
        rfl
    exact ⟨l, issue_replies h (by decide) hwork⟩
  · intro s o p obs h hl ho hz
    obtain ⟨l, hwork, hlen⟩ : ∃ l, opGeoGetPaths o p obs s.m = (s.m, Res.ok (toLE 2 (s.m.pathsOf (pf p 16 2)).length ++ [0, 0] ++
        toLE 8 s.m.tm.tick ++ l)) ∧ l.length = 16 * (s.m.pathsOf (pf p 16 2)).length := by
      unfold opGeoGetPaths
      refine ⟨?_, (Mach.guard_of_none (by simp [Mach.objQuery, hl, ho, resv_ok hz]) rfl).trans ?_, ?_⟩
      rotate_left
      · simp only [sortBy_length, List.length_map, show toLE 2 0 = [0, 0] from rfl]
        rfl
      · rw [length_flatMap_const (k := 16) (by simp), sortBy_length, List.length_map]
    exact ⟨l, issue_replies h (by decide) hwork, hlen⟩
  · intro s o p obs h hl ha hb hen hok hon
    have hb' : pf p 16 8 < 1099511627776 := hb
    refine issue_replies h (by decide) ?_
    unfold opGeoBulkRegion
    refine Mach.guard_of_none (by simp [hl, regionChk, ha, hb', hen, hok, hon]) ?_
    simp only [hen, hon, show bitOf 1 0 = true from rfl, Bool.false_and, Bool.false_eq_true, if_false]
  · intro s o p obs h hl ha hb hen hon
    have hb' : pf p 16 8 < 1099511627776 := hb
    refine issue_replies h (by decide) ?_
    unfold opGeoBulkRegion
    refine Mach.guard_of_none ?_ ?_
    · have hoff : bitOf 0 0 = false := by decide
      cases hc : s.m.bulkOn
      · simp [hl, regionChk, ha, hb', hen, hoff]
      · obtain ⟨hbase, hfree⟩ := hon hc
        simp [hl, regionChk, ← hbase, ha, hb', hen, hoff, hfree]
    · simp only [hen, show bitOf 0 0 = false from rfl, Bool.and_false]
      rfl

end Sys2Proof.Machine
end

section
/-! PROOF. Reads and writes as they reach the register region (R8 to R11, R553). -/
namespace Sys2Proof.Machine

/-- The bits of a 32-bit mask turned over. -/
theorem bitOf_compl {x k : Nat} (hx : x < 2 ^ 32) (hk : k < 32) : bitOf (0xFFFFFFFF - x) k = !bitOf x k := by
  have hsub : 0xFFFFFFFF - x = 2 ^ 32 - (x + 1) := by omega
  simp only [bitOf_eq_testBit, hsub, Nat.testBit_two_pow_sub_succ hx, decide_eq_true hk, Bool.true_and]

theorem bitOf_and (v w i : Nat) : bitOf (v &&& w) i = (bitOf v i && bitOf w i) := by
  simp only [bitOf_eq_testBit, Nat.testBit_and]

/-- One bit of what a write leaves, by the access codes of that bit. -/
theorem bitOf_merge (w : RegRow) (o : Nat) {v k : Nat} (hk : k < 32) (hv : v < 2 ^ 32) (hrw : w.rw < 2 ^ 32) (hrwc : w.rwc < 2 ^ 32) :
    bitOf (w.merge o v) k = (((bitOf o k && !(bitOf w.rw k || bitOf w.rwc k)) || (bitOf v k && (bitOf w.rw k || bitOf w.rwc k)))
      && !(bitOf v k && bitOf w.w1c k) || (bitOf v k && bitOf w.w1s k)) := by
  have hset : w.rw ||| w.rwc < 2 ^ 32 := Nat.or_lt_two_pow hrw hrwc
  have hclr : v &&& w.w1c < 2 ^ 32 := Nat.lt_of_le_of_lt Nat.and_le_left hv
  simp only [RegRow.merge, bitOf_or, bitOf_and, bitOf_compl hset hk, bitOf_compl hclr hk]

/-- The bits that no field takes do not matter to what a write leaves. -/
theorem RegRow.merge_takes (w : RegRow) (o v : Nat) : w.merge o (v &&& w.takes) = w.merge o v := by
  have hmask {x : Nat} (h : ∀ i, x.testBit i = true → w.takes.testBit i = true) : v &&& w.takes &&& x = v &&& x := by
    refine Nat.eq_of_testBit_eq fun i => ?_
    have hi := h i
    cases hx : x.testBit i <;> simp_all
  have hset : v &&& w.takes &&& (w.rw ||| w.rwc) = v &&& (w.rw ||| w.rwc) := hmask fun i => by
    simp only [RegRow.takes, Nat.testBit_or, Bool.or_eq_true]
    tauto
  have hw1c : v &&& w.takes &&& w.w1c = v &&& w.w1c := hmask fun i => by
    simp only [RegRow.takes, Nat.testBit_or, Bool.or_eq_true]
    tauto
  have hw1s : v &&& w.takes &&& w.w1s = v &&& w.w1s := hmask fun i => by
    simp only [RegRow.takes, Nat.testBit_or, Bool.or_eq_true]
    tauto
  simp only [RegRow.merge, hset, hw1c, hw1s]

/-- The low word of a pair names its pair and is no high word. -/
theorem pairs64_low : ∀ p ∈ pairs64, pairs64.find? (fun q => q.1 == p.1) = some p ∧ pairs64.find? (fun q => q.2 == p.1) = none := by
  decide

/-- Settles O12. -/
theorem registerAccesses : Obligations.RegisterAccesses := by
  unfold Obligations.RegisterAccesses
  refine ⟨?_, ?_, ?_, ?_, ?_⟩
  · intro s a w i j h hat hrc hok hno hnow
    have hlow : pairs64.find? (fun p => p.1 == w.reg) = none := by simpa using fun a b hp => (hno (a, b) hp).1
    have hhigh : pairs64.find? (fun p => p.2 == w.reg) = none := by simpa using fun a b hp => (hno (a, b) hp).2
    refine take_gives h rfl ?_
    simp only [rcFieldRead, hat, hrc, if_false, Mach.regRead, hok, Bool.not_true, Bool.false_eq_true, hhigh, hlow, hnow]
  · intro s a w i j p h hat hok hrc hnow hp hw
    obtain ⟨hlow, hhigh⟩ := pairs64_low p hp
    rw [hw] at hlow hhigh
    have hany : pairs64.any (fun p => p.1 == w.reg) = true := List.any_eq_true.2 ⟨p, hp, by simpa using hw⟩
    refine take_gives h rfl ?_
    simp only [counterLowRead, hat, hany, if_true, Mach.regRead, hok, Bool.not_true, Bool.false_eq_true, if_false, hhigh, hlow, hnow, hrc]
  · intro s a v pcie valid h hv ha hd3 hcode
    refine take_gives h (by simpa using hv) ?_
    have hd : (pcie && s.m.d3hot) = false := by
      cases pcie
      · rfl
      · exact hd3 rfl
    simp only [registerWrite, decide_eq_false (Nat.not_le.2 ha), hd, Bool.or_false, Bool.false_eq_true, if_false, hcode, if_true]
  · intro s a v valid w i j h hv ha hat hok hlo hhi hclr hcode hw1c
    refine take_gives h (by simpa using hv) ?_
    have hweight : w.reg ≠ R.SCHED_GRP_WEIGHT := fun e => absurd (e ▸ hhi) (by decide)
    simp only [registerWrite, decide_eq_false (Nat.not_le.2 ha), Bool.false_and, Bool.or_false, Bool.false_eq_true, if_false, hcode, if_true,
      Mach.regWrite, hat, hweight, hok, Bool.not_true, if_neg (show ¬ w.reg.base < 0x100000 by omega),
      if_neg (show ¬ w.reg.base < 0x200000 by omega), if_neg (show ¬ w.reg.base < 0x300000 by omega),
      if_neg (show ¬ w.reg.base < 0x380000 by omega), if_neg (show ¬ w.reg.base < 0x400000 by omega),
      if_neg (show ¬ w.reg.base < 0x500000 by omega), if_pos hhi, hclr, Mach.plainWrite, hw1c, Bool.true_or,
      RegRow.merge_takes, Nat.mod_eq_of_lt hv, decide_true]
  · intro w o v k hk hv hrw hrwc
    rw [bitOf_merge w o hk hv hrw hrwc]
    refine ⟨fun h1s h1 h2 h3 => ?_, fun h1s h3 h12 => ?_, fun h1s h1 h2 h3 => ?_⟩
    · simp [h1s, h1, h2, h3]
    · obtain h | h := h12 <;> simp [h1s, h3, h]
    · simp [h1s, h1, h2, h3]

end Sys2Proof.Machine
end

section
/-! PROOF. Transactions on the matrix (R469 to R476). -/
namespace Sys2Proof.Machine

/-! ## Error responses (R475) -/

/-- Addresses decode alike where the size of DRAM is the same. -/
theorem Mach.target_of_size {s t : Mach} (h : t.gf F.DDRC_STAT_SIZE = s.gf F.DDRC_STAT_SIZE) (a : Nat) : t.target a = s.target a := by
  unfold Mach.target Mach.dramSize
  rw [h]

/-- What an error response touches beside its count: the error records, MATRIX.EVT, ERR_ADDR, ERR_INFO, PROT_ERR and PCIE.CPL_ABORT. -/
def latchTouch : Footprint :=
  ⟨[.err], [(0x500000, some 0x500004), (0x500008, some 0x500014), (0x500020, some 0x500024), (0xD00000, some 0xE00000), (0xE00018, some 0xE0001C)]⟩

/-- What an error record touches. -/
def recordTouch : Footprint := ⟨[.err], [(0xD00000, some 0xE00000)]⟩

theorem Mach.busErr_onlyIn (s : Mach) (m id t a n code : Nat) (wr : Bool) :
    (s.bump R.MATRIX_ERRORS).onlyIn latchTouch (s.busErr m id t a n code wr) := by
  unfold Mach.busErr
  extract_lets counted guarded told aborted latched info
  have hguarded : counted.onlyIn latchTouch guarded := by
    simp only [guarded]
    split <;> simp (disch := decide)
  have htold : counted.onlyIn latchTouch told := by
    simp only [told]
    exact (Mach.onlyIn_when _ _ (by simp (disch := decide) [Mach.birthWrite])).2 hguarded
  have haborted : counted.onlyIn latchTouch aborted := by
    simp only [aborted]
    split <;> simp (disch := decide) [htold]
  split
  · exact haborted
  · simp (disch := decide) [latched]
    exact haborted

section
variable (s : Mach) (m id t a n code : Nat) (wr : Bool)

@[simp] theorem Mach.busErr_mem : (s.busErr m id t a n code wr).mem = s.mem := (s.busErr_onlyIn m id t a n code wr).1 .mem (by decide)
@[simp] theorem Mach.busErr_bus : (s.busErr m id t a n code wr).bus = s.bus := (s.busErr_onlyIn m id t a n code wr).1 .bus (by decide)

theorem Mach.busErr_rd_errors : (s.busErr m id t a n code wr).rd R.MATRIX_ERRORS = (s.bump R.MATRIX_ERRORS).rd R.MATRIX_ERRORS :=
  Mach.onlyIn_rd (s.busErr_onlyIn m id t a n code wr) _ _ _ (by decide)

/-- Registers that an error response does not touch. -/
theorem Mach.busErr_rd {r : Reg} {i j : Nat} (he : R.MATRIX_ERRORS.at_ 0 0 ≠ r.at_ i j) (h : latchTouch.covers (r.at_ i j) = false) :
    (s.busErr m id t a n code wr).rd r i j = s.rd r i j :=
  (Mach.onlyIn_rd (s.busErr_onlyIn m id t a n code wr) _ _ _ h).trans (Mach.rd_wr_ne _ _ he)

@[simp] theorem Mach.busErr_target (x : Nat) : (s.busErr m id t a n code wr).target x = s.target x :=
  Mach.target_of_size (congrArg (fun v => bits v F.DDRC_STAT_SIZE.lo F.DDRC_STAT_SIZE.len)
    (Mach.busErr_rd (r := F.DDRC_STAT_SIZE.reg) (i := 0) (j := 0) s m id t a n code wr (by decide) (by decide))) x

/-- An error response sets its own events and keeps that of a time-out. -/
theorem Mach.busErr_evtTimeout : (s.busErr m id t a n code wr).gf F.MATRIX_EVT_TIMEOUT = s.gf F.MATRIX_EVT_TIMEOUT := by
  have hbump (u : Mach) (r : Reg) (k : Nat) (h : r.at_ 0 0 ≠ R.MATRIX_EVT.at_ 0 0) :
      (u.bump r 0 k).gf F.MATRIX_EVT_TIMEOUT = u.gf F.MATRIX_EVT_TIMEOUT := Mach.gf_wr_ne _ _ h
  have hevt (u : Mach) (f : Fld) (hf : F.MATRIX_EVT_TIMEOUT.reg = f.reg) (h32 : f.lo + f.len ≤ 32) (h : f.lo + f.len ≤ 1 ∨ 2 ≤ f.lo) :
      (u.evt f).gf F.MATRIX_EVT_TIMEOUT = u.gf F.MATRIX_EVT_TIMEOUT := Mach.gf_sf_disjoint _ _ _ _ hf h32 h
  have hbirth (u : Mach) : (u.birthWrite m a n).gf F.MATRIX_EVT_TIMEOUT = u.gf F.MATRIX_EVT_TIMEOUT := by
    refine Mach.onlyIn_gf (F := recordTouch) ?_ _ _ _ (by decide)
    exact (Mach.onlyIn_when _ _ (by simp (disch := decide))).2 (u.onlyIn_refl _)
  unfold Mach.busErr
  extract_lets counted guarded told aborted latched info
  have hcounted : counted.gf F.MATRIX_EVT_TIMEOUT = s.gf F.MATRIX_EVT_TIMEOUT := hbump _ _ _ (by decide)
  have hguarded : guarded.gf F.MATRIX_EVT_TIMEOUT = s.gf F.MATRIX_EVT_TIMEOUT := by
    simp only [guarded]
    split
    · rw [hevt _ F.MATRIX_EVT_PROT rfl (by decide) (by decide), hbump _ _ _ (by decide), hcounted]
    · exact hcounted
  have htold : told.gf F.MATRIX_EVT_TIMEOUT = s.gf F.MATRIX_EVT_TIMEOUT := by
    simp only [told, Mach.when]
    split
    · rw [hbirth, hguarded]
    · exact hguarded
  have haborted : aborted.gf F.MATRIX_EVT_TIMEOUT = s.gf F.MATRIX_EVT_TIMEOUT := by
    simp only [aborted]
    split
    · rw [hbump _ _ _ (by decide), htold]
    · exact htold
  split
  · exact haborted
  · rw [hevt _ F.MATRIX_EVT_ERROR rfl (by decide) (by decide), Mach.gf_wr_ne _ _ (by decide)]
    simp only [latched, Mach.wr64]
    rw [Mach.gf_wr_ne _ _ (by decide), Mach.gf_wr_ne _ _ (by decide), haborted]

end

/-! ## Responses, and a matrix in which nothing waits -/

/-- With no request waiting there is nothing to grant. -/
theorem Mach.arbitrate_of_idle {s : Mach} (h : s.bus.waiting = []) : s.arbitrate = s := by
  simp only [Mach.arbitrate, arbGo, Mach.nextGrant, h, List.foldl_nil]

section
variable (s : Mach) (x : BusTx)

@[simp] theorem Mach.finish_mem : (s.finish x).mem = s.mem := by unfold Mach.finish; split <;> rfl
@[simp] theorem Mach.finish_regs : (s.finish x).regs = s.regs := by unfold Mach.finish; split <;> rfl
@[simp] theorem Mach.finish_waiting : (s.finish x).bus.waiting = s.bus.waiting := by unfold Mach.finish; split <;> rfl
@[simp] theorem Mach.finish_out : (s.finish x).bus.out = dropOne x s.bus.out := by unfold Mach.finish; split <;> rfl
@[simp] theorem Mach.finish_rd (r : Reg) (i j : Nat) : (s.finish x).rd r i j = s.rd r i j := by rw [Mach.rd, Mach.finish_regs, Mach.rd]
@[simp] theorem Mach.finish_target (a : Nat) : (s.finish x).target a = s.target a :=
  Mach.target_of_size (congrArg (fun v => bits v F.DDRC_STAT_SIZE.lo F.DDRC_STAT_SIZE.len) (s.finish_rd x _ _ _)) a

theorem Mach.deliver_ok (data : List Byte) : s.deliver x 0 data = s.onBus (fun b => { b with
    resp := some ⟨x.master, x.id, s.target x.addr, 0, if x.wr then [] else data⟩ }) := rfl

theorem Mach.deliver_err {code : Nat} (h : code ≠ 0) (data : List Byte) : s.deliver x code data
    = (s.onBus (fun b => { b with resp := some ⟨x.master, x.id, s.target x.addr, code, if x.wr then [] else List.replicate x.len 0⟩ })).busErr
        x.master x.id (s.target x.addr) x.addr x.len code x.wr := by
  simp only [Mach.deliver, h, if_false]

end

/-- The oldest transaction of a kind is of that kind. -/
theorem Mach.oldestOut_spec {s : Mach} {i d t : Nat} {w : Bool} {x : BusTx} (h : s.oldestOut i d t w = some x) :
    s.target x.addr = t ∧ x.wr = w := by
  have hx := List.find?_some h
  simp only [Bool.and_eq_true, beq_iff_eq] at hx
  exact ⟨hx.1.2, hx.2⟩

/-- An error response to a transaction that has ended, while no request waits. -/
theorem Mach.finish_deliver_err {s : Mach} (x : BusTx) {code : Nat} (h : code ≠ 0) :
    ((s.finish x).deliver x code []).mem = s.mem ∧ ((s.finish x).deliver x code []).bus.out = dropOne x s.bus.out
      ∧ ((s.finish x).deliver x code []).bus.waiting = s.bus.waiting
      ∧ ((s.finish x).deliver x code []).bus.resp
          = some ⟨x.master, x.id, s.target x.addr, code, if x.wr then [] else List.replicate x.len 0⟩
      ∧ ∀ a, ((s.finish x).deliver x code []).target a = s.target a := by
  rw [Mach.deliver_err _ _ h]
  refine ⟨?_, ?_, ?_, ?_, fun a => ?_⟩
  · exact (Mach.busErr_mem ..).trans (s.finish_mem x)
  · exact (congrArg BusSt.out (Mach.busErr_bus ..)).trans (s.finish_out x)
  · exact (congrArg BusSt.waiting (Mach.busErr_bus ..)).trans (s.finish_waiting x)
  · exact (congrArg BusSt.resp (Mach.busErr_bus ..)).trans (by simp [Mach.onBus])
  · exact (Mach.busErr_target ..).trans (s.finish_target x a)

/-- Dropping each element of a kind once leaves those of other kinds. -/
theorem foldl_dropOne_filter {α : Type} [DecidableEq α] (p : α → Bool) (l : List α) :
    (l.filter p).foldl (fun m y => dropOne y m) l = l.filter (fun x => !p x) := by
  induction l with
  | nil => rfl
  | cons a l ih =>
    by_cases ha : p a = true
    · simp [ha, dropOne, ih]
    · have hskip (ys : List α) (hys : ∀ y ∈ ys, p y = true) (m : List α) :
          ys.foldl (fun m y => dropOne y m) (a :: m) = a :: ys.foldl (fun m y => dropOne y m) m := by
        induction ys generalizing m with
        | nil => rfl
        | cons y ys ihy =>
          have hya : y ≠ a := fun e => ha (e ▸ hys y List.mem_cons_self)
          simp only [List.foldl_cons, dropOne, hya, if_false]
          exact ihy (fun z hz => hys z (List.mem_cons_of_mem _ hz)) _
      rw [List.filter_cons_of_neg ha, hskip _ (fun y hy => (List.mem_filter.1 hy).2), ih, List.filter_cons_of_pos (by simpa using ha)]

/-- A target's transactions end one by one with a time-out. -/
def Mach.timeOut (s : Mach) (y : BusTx) : Mach := (s.finish y).deliver y 3 []

theorem Mach.timeOut_each (l : List BusTx) (s : Mach) :
    (s.each l Mach.timeOut).mem = s.mem ∧ (s.each l Mach.timeOut).bus.waiting = s.bus.waiting
      ∧ (s.each l Mach.timeOut).bus.out = l.foldl (fun m y => dropOne y m) s.bus.out
      ∧ (s.each l Mach.timeOut).gf F.MATRIX_EVT_TIMEOUT = s.gf F.MATRIX_EVT_TIMEOUT
      ∧ ∀ t, t < 8 → (s.each l Mach.timeOut).rd R.MATRIX_TIMEOUT t = s.rd R.MATRIX_TIMEOUT t := by
  induction l generalizing s with
  | nil => exact ⟨rfl, rfl, rfl, rfl, fun _ _ => rfl⟩
  | cons y l ih =>
    obtain ⟨hmem, hout, hwait, -, -⟩ := Mach.finish_deliver_err (s := s) y (code := 3) (by decide)
    obtain ⟨imem, iwait, iout, ievt, itime⟩ := ih (s.timeOut y)
    rw [Mach.each_cons]
    refine ⟨imem.trans hmem, iwait.trans hwait, iout.trans ?_, ievt.trans ?_, fun t ht => (itime t ht).trans ?_⟩
    · rw [List.foldl_cons, ← hout]
      rfl
    · rw [Mach.timeOut, Mach.deliver_err _ _ (by decide), Mach.busErr_evtTimeout]
      exact congrArg (fun v => bits v 1 1) (s.finish_rd y R.MATRIX_EVT 0 0)
    · rw [Mach.timeOut, Mach.deliver_err _ _ (by decide), Mach.busErr_rd]
      · exact s.finish_rd y _ _ _
      · simp only [Reg.at_, R.MATRIX_ERRORS, R.MATRIX_TIMEOUT]
        omega
      · simp [Footprint.covers, latchTouch, Reg.at_, R.MATRIX_TIMEOUT]
        omega

/-! ## The rows -/

theorem Mach.rd_bump_self (s : Mach) (r : Reg) (i n : Nat) : (s.bump r i n).rd r i = Nat.min 0xFFFFFFFF (s.rd r i + n) := by
  rw [Mach.bump, Mach.rd_wr_self, Nat.mod_eq_of_lt]
  exact Nat.lt_of_le_of_lt (Nat.min_le_left ..) (by decide)

/-- A request alone on the matrix, of a master without a lock, is granted. -/
theorem busRequest_alone {s : Mach} {x : BusTx} (hm : x.master < 10) (hd3 : x.master = 6 → s.d3hot = false) (hlo : 1 ≤ x.len) (hhi : x.len ≤ 256)
    (hlock : x.lock = false) (hunlock : x.unlock = false) (hwait : s.bus.waiting = []) (hout : s.bus.out = [])
    (hlocks : s.bus.locks = []) (hcode : s.matrixCode x.master x.id x.addr x.len x.wr = 0) :
    busRequest x s = (s.sf F.MATRIX_TSTAT_PARK x.master (s.target x.addr)).onBus (fun b => { b with out := [x] }) := by
  have hgo : (decide (10 ≤ x.master) || decide (x.len = 0) || decide (256 < x.len) || (x.master == 6 && s.d3hot)) = false := by
    have h6 : (x.master == 6 && s.d3hot) = false := by
      cases h : x.master == 6
      · rfl
      · exact hd3 (by simpa using h)
    simp only [h6, Bool.or_false, Bool.or_eq_false_iff, decide_eq_false_iff_not]
    omega
  obtain ⟨t, ht⟩ : ∃ t, t = s.onBus (fun b => { b with waiting := b.waiting ++ [x] }) := ⟨_, rfl⟩
  have htwait : t.bus.waiting = [x] := by simp [ht, Mach.onBus, hwait]
  have hnext : t.nextGrant = some x := by
    have hgrant : t.grantable x = true := by simp [Mach.grantable, Mach.outOf, ht, Mach.onBus, hout, hlocks]
    simp [Mach.nextGrant, htwait, hgrant]
  have hcode' : (t.onBus (fun b => { b with waiting := dropOne x b.waiting })).matrixCode x.master x.id x.addr x.len x.wr = 0 := by
    rw [ht]
    exact hcode
  have hgrant : t.grant x = (s.sf F.MATRIX_TSTAT_PARK x.master (s.target x.addr)).onBus (fun b => { b with out := [x] }) := by
    have htgt : t.target x.addr = s.target x.addr := by rw [ht]; exact Mach.target_of_size rfl _
    simp only [Mach.grant, hcode', hlock, hunlock, Bool.or_self, Bool.and_false, Bool.false_and, Bool.false_eq_true, if_false, bne_self_eq_false,
      htgt]
    simp only [ht, Mach.onBus, Mach.sf, Mach.wr, Mach.rd, hwait, hout, dropOne, List.nil_append, if_true]
  have harb : t.arbitrate = t.grant x := by
    rw [Mach.arbitrate, htwait, List.length_singleton, arbGo, hnext]
    have hidle : (t.grant x).bus.waiting = [] := by rw [hgrant]; exact hwait
    simp only [arbGo, Mach.nextGrant, hidle, List.foldl_nil]
  rw [busRequest, hgo, if_neg (by decide), ← ht, harb, hgrant]

/-- Settles O10. -/
theorem busTransactions : Obligations.BusTransactions := by
  unfold Obligations.BusTransactions
  refine ⟨?_, ?_, ?_, ?_, ?_, ?_, ?_, ?_⟩
  · intro s x h hok hd3 hlo hhi hlock hunlock hwait hout hlocks hcode
    have hm : x.master < 10 := by
      simp only [BusTx.ok, Bool.and_eq_true, decide_eq_true_eq] at hok
      exact hok.1.1
    refine ⟨_, take_gives h hok (busRequest_alone hm hd3 hlo hhi hlock hunlock hwait hout hlocks hcode), rfl, rfl, ?_⟩
    exact Mach.gf_sf_of_lt _ _ _ (by decide) (Nat.lt_trans hm (by decide))
  · intro s i d t x h hi hd ht hwait hold
    obtain ⟨htgt, hwr⟩ := Mach.oldestOut_spec hold
    have hrow : busResponse i d t true 0 s.m = ((s.m.finish x).mwr x.addr x.data).deliver x 0 [] := by
      have ht2 : ¬ t ≤ 2 := by omega
      have ht5 : t ≠ 5 := by omega
      simp only [busResponse, hold, ht2, ht5, decide_false, Bool.false_eq_true, if_false, if_true, show ¬ 7 ≤ 0 by decide, bne_self_eq_false]
      exact Mach.arbitrate_of_idle ((s.m.finish_waiting x).trans hwait)
    refine ⟨_, take_gives h (by simp [hi, hd]; omega) hrow, ?_, ?_, ?_⟩
    · exact congrArg (fun m => memPut m x.addr x.data) (s.m.finish_mem x)
    · exact s.m.finish_out x
    · have htgt' : ((s.m.finish x).mwr x.addr x.data).target x.addr = t := (s.m.finish_target x x.addr).trans htgt
      rw [Mach.deliver_ok, htgt', hwr]
      rfl
  · intro s i d t x h hi hd ht hwait hold
    obtain ⟨htgt, hwr⟩ := Mach.oldestOut_spec hold
    have hrow : busResponse i d t false 0 s.m = (s.m.finish x).deliver x 0 ((s.m.finish x).mrd x.addr x.len) := by
      have ht2 : ¬ t ≤ 2 := by omega
      have ht5 : t ≠ 5 := by omega
      simp only [busResponse, hold, ht2, ht5, decide_false, Bool.false_eq_true, Bool.false_and, if_false, show ¬ 7 ≤ 0 by decide,
        bne_self_eq_false]
      exact Mach.arbitrate_of_idle ((s.m.finish_waiting x).trans hwait)
    refine ⟨_, take_gives h (by simp [hi, hd]; omega) hrow, s.m.finish_mem x, s.m.finish_out x, ?_⟩
    rw [Mach.deliver_ok, s.m.finish_target, htgt, hwr, Mach.mrd, s.m.finish_mem]
    rfl
  · intro s i d t x w c h hi hd ht hlo hhi hwait hold
    obtain ⟨htgt, hwr⟩ := Mach.oldestOut_spec hold
    have hc : c ≠ 0 := by omega
    obtain ⟨hmem, hout, hidle, hresp, -⟩ := Mach.finish_deliver_err (s := s.m) x hc
    have hrow : busResponse i d t w c s.m = (s.m.finish x).deliver x c [] := by
      simp only [busResponse, hold, show ¬ 7 ≤ c by omega, if_false, bne_iff_ne, ne_eq, hc, not_false_eq_true, if_true]
      exact Mach.arbitrate_of_idle (hidle.trans hwait)
    refine ⟨_, take_gives h (by simp [hi, hd, ht]) hrow, hmem, hout, ?_, ?_⟩
    · rw [hresp, htgt, hwr]
    · rw [Mach.deliver_err _ _ hc, Mach.busErr_rd_errors, Mach.rd_bump_self]
      exact congrArg (fun v => Nat.min 0xFFFFFFFF (v + 1)) (s.m.finish_rd x _ _ _)
  · intro s t x h ht hx htgt hwait
    obtain ⟨y, r, hlist⟩ : ∃ y r, s.m.bus.out.filter (fun x => s.m.target x.addr == t) = y :: r :=
      List.exists_cons_of_ne_nil (List.ne_nil_of_mem (List.mem_filter.2 ⟨hx, by simpa using htgt⟩))
    obtain ⟨told, htold⟩ : ∃ u, u = (s.m.bump R.MATRIX_TIMEOUT t).evt F.MATRIX_EVT_TIMEOUT := ⟨_, rfl⟩
    obtain ⟨u, hu⟩ : ∃ u, u = told.raise E.BUS_TIMEOUT t (y.addr % 2 ^ 32) := ⟨_, rfl⟩
    have honly : told.onlyIn recordTouch u := hu ▸ (Mach.onlyIn_raise _ _ _ (by decide)).2 (told.onlyIn_refl _)
    have hbus : u.bus = s.m.bus := (honly.1 .bus (by decide)).trans (by rw [htold]; rfl)
    obtain ⟨hmem, hidle, hout, hevt, htime⟩ := Mach.timeOut_each (y :: r) u
    have hrow : busTimeout t s.m = u.each (y :: r) Mach.timeOut := by
      simp only [busTimeout, hlist]
      rw [← htold, ← hu]
      exact Mach.arbitrate_of_idle (hidle.trans (by rw [hbus, hwait]))
    refine ⟨_, take_gives h (by simp [ht]) hrow, ?_, ?_, ?_, ?_⟩
    · rw [hevt, Mach.onlyIn_gf honly _ _ _ (by decide), htold]
      exact Mach.gf_sf_of_lt _ _ _ (by decide) (by decide)
    · rw [hmem]
      exact (honly.1 .mem (by decide)).trans (by rw [htold]; rfl)
    · rw [hout, hbus, ← hlist, foldl_dropOne_filter]
      intro z hz
      simpa using (List.mem_filter.1 hz).2
    · rw [htime t ht, Mach.onlyIn_rd honly, htold, Mach.evt, Mach.rd_sf_ne, Mach.rd_bump_self]
      · simp only [Reg.at_, F.MATRIX_EVT_TIMEOUT, R.MATRIX_EVT, R.MATRIX_TIMEOUT]
        omega
      · simp [Footprint.covers, recordTouch, Reg.at_, R.MATRIX_TIMEOUT]
        omega
  · intro s t l h ht hl hwait
    obtain ⟨told, htold⟩ : ∃ u, u = (s.m.bump R.MATRIX_LOCK_BREAK).evt F.MATRIX_EVT_LOCK_BREAK := ⟨_, rfl⟩
    obtain ⟨u, hu⟩ : ∃ u, u = told.raise E.LOCK_BREAK l.master t := ⟨_, rfl⟩
    have honly : told.onlyIn recordTouch u := hu ▸ (Mach.onlyIn_raise _ _ _ (by decide)).2 (told.onlyIn_refl _)
    have hbus : u.bus = s.m.bus := (honly.1 .bus (by decide)).trans (by rw [htold]; rfl)
    have hrow : lockBreak t s.m = u.onBus (fun b => { b with locks := mdel b.locks t, told := b.told ++ [(l.master, l.id)] }) := by
      simp only [lockBreak, hl]
      rw [← htold, ← hu]
      exact Mach.arbitrate_of_idle (show u.bus.waiting = [] by rw [hbus, hwait])
    refine ⟨_, take_gives h (by simp [ht]) hrow, ?_, ?_, ?_, ?_⟩
    · refine (Mach.onlyIn_gf honly F.MATRIX_EVT_LOCK_BREAK 0 0 (by decide)).trans ?_
      rw [htold]
      exact Mach.gf_sf_of_lt _ _ _ (by decide) (by decide)
    · refine (Mach.onlyIn_rd honly R.MATRIX_LOCK_BREAK 0 0 (by decide)).trans ?_
      rw [htold, Mach.evt, Mach.rd_sf_ne _ _ (by decide), Mach.rd_bump_self]
    · exact congrArg (fun b : BusSt => { b with locks := mdel b.locks t, told := b.told ++ [(l.master, l.id)] }) hbus
    · exact (honly.1 .mem (by decide)).trans (by rw [htold]; rfl)
  · intro s v h hv hbit
    exact take_gives h (by simpa using hv) (by rw [matrixErrClr, if_pos hbit])
  · intro s x h hwait hold
    have hx := List.find?_some hold
    simp only [Bool.and_eq_true, beq_iff_eq, Bool.not_eq_true'] at hx
    obtain ⟨htgt, hrd⟩ := hx
    obtain ⟨u, hu⟩ : ∃ u, u = (s.m.finish x).bump R.PCIE_CPL_TIMEOUT := ⟨_, rfl⟩
    have htgt' : u.target x.addr = 6 := by
      have hsize : u.gf F.DDRC_STAT_SIZE = (s.m.finish x).gf F.DDRC_STAT_SIZE := by
        rw [hu]
        exact Mach.gf_wr_ne _ _ (by decide)
      rw [Mach.target_of_size hsize, s.m.finish_target, htgt]
    have hrow : hostCompletionTimeout s.m = u.deliver x 3 [] := by
      simp only [hostCompletionTimeout, hold]
      rw [← hu]
      refine Mach.arbitrate_of_idle ?_
      rw [Mach.deliver_err _ _ (by decide), Mach.busErr_bus, hu]
      exact (s.m.finish_waiting x).trans hwait
    refine ⟨_, take_gives h rfl hrow, ?_⟩
    rw [Mach.deliver_err _ _ (by decide), Mach.busErr_bus, Mach.busErr_mem, Mach.busErr_rd _ _ _ _ _ _ _ _ (by decide) (by decide), htgt', hrd]
    refine ⟨rfl, ?_, ?_, ?_⟩
    · rw [hu]
      exact s.m.finish_out x
    · refine (congrArg (fun m => Mach.rd m R.PCIE_CPL_TIMEOUT) hu).trans ((Mach.rd_bump_self _ _ _ _).trans ?_)
      rw [s.m.finish_rd]
    · rw [hu]
      exact s.m.finish_mem x

end Sys2Proof.Machine
end

section
/-! PROOF. DMA channels: start, refusal, stop, the last write of a run and the descriptor (R481 to R488). -/
namespace Sys2Proof.Machine

/-! ## Registers at one index -/

theorem Reg.at_ne_of_base {r q : Reg} (hs : r.s1 = q.s1) (hb : r.base ≠ q.base) (i : Nat) : r.at_ i 0 ≠ q.at_ i 0 := by
  simp only [Reg.at_, hs]
  omega

/-- Another register at the same index stands. -/
theorem Mach.rd_wr_inst (s : Mach) {r q : Reg} (v i : Nat) (hs : r.s1 = q.s1) (hb : r.base ≠ q.base) :
    (s.wr r v i 0).rd q i 0 = s.rd q i 0 := Mach.rd_wr_ne _ _ (Reg.at_ne_of_base hs hb i)

theorem Mach.rd_sf_inst (s : Mach) {f : Fld} {q : Reg} (v i : Nat) (hs : f.reg.s1 = q.s1) (hb : f.reg.base ≠ q.base) :
    (s.sf f v i 0).rd q i 0 = s.rd q i 0 := Mach.rd_wr_inst _ _ _ hs hb

theorem Mach.gf_wr_inst (s : Mach) {r : Reg} {g : Fld} (v i : Nat) (hs : r.s1 = g.reg.s1) (hb : r.base ≠ g.reg.base) :
    (s.wr r v i 0).gf g i 0 = s.gf g i 0 := Mach.gf_wr_ne _ _ (Reg.at_ne_of_base hs hb i)

/-- Another 64-bit value at the same index stands. -/
theorem Mach.rd64_wr_inst (s : Mach) {r lo hi : Reg} (v i : Nat) (hl : r.s1 = lo.s1) (hbl : r.base ≠ lo.base) (hh : r.s1 = hi.s1)
    (hbh : r.base ≠ hi.base) : (s.wr r v i 0).rd64 lo hi i = s.rd64 lo hi i := by
  simp only [Mach.rd64, Mach.rd_wr_inst s v i hl hbl, Mach.rd_wr_inst s v i hh hbh]

theorem Mach.rd64_sf_inst (s : Mach) {f : Fld} {lo hi : Reg} (v i : Nat) (hl : f.reg.s1 = lo.s1) (hbl : f.reg.base ≠ lo.base)
    (hh : f.reg.s1 = hi.s1) (hbh : f.reg.base ≠ hi.base) : (s.sf f v i 0).rd64 lo hi i = s.rd64 lo hi i :=
  Mach.rd64_wr_inst _ _ _ hl hbl hh hbh

/-- Both words of a value that fits 64 bits are read back. -/
theorem Mach.rd64_wr64_self (s : Mach) {lo hi : Reg} {v : Nat} (i : Nat) (hv : v < 2 ^ 64) (hs : hi.s1 = lo.s1) (hb : hi.base ≠ lo.base) :
    (s.wr64 lo hi v i).rd64 lo hi i = v := by
  simp only [Mach.rd64, Mach.wr64, Mach.rd_wr_inst _ _ _ hs hb, Mach.rd_wr_self]
  omega

theorem Mach.rd64_wr64_inst (s : Mach) {a b lo hi : Reg} (v i : Nat) (hs : a.s1 = lo.s1 ∧ a.s1 = hi.s1 ∧ b.s1 = lo.s1 ∧ b.s1 = hi.s1)
    (hb : a.base ≠ lo.base ∧ a.base ≠ hi.base ∧ b.base ≠ lo.base ∧ b.base ≠ hi.base) :
    (s.wr64 a b v i).rd64 lo hi i = s.rd64 lo hi i := by
  obtain ⟨h1, h2, h3, h4⟩ := hs
  obtain ⟨b1, b2, b3, b4⟩ := hb
  rw [Mach.wr64, Mach.rd64_wr_inst _ _ _ h3 b3 h4 b4, Mach.rd64_wr_inst _ _ _ h1 b1 h2 b2]

theorem fld_lt (l : List Byte) (o n : Nat) : fld l o n < 256 ^ n := by
  refine Nat.lt_of_lt_of_le (leNat_lt _) (Nat.pow_le_pow_right (by decide) ?_)
  simp only [slice, List.length_take]
  omega

/-! ## The channel's state -/

theorem Mach.dmaSt_onDma (s : Mach) (c : Nat) (f : DmaSt → DmaSt) : (s.onDma c f).dmaSt c = f (s.dmaSt c) := mget_mput_self ..

/-- A burst ends beyond its start and not beyond the end of the run. -/
theorem burstEnd_bounds {a top : Nat} (h : a < top) : a < burstEnd a top ∧ burstEnd a top ≤ top := by
  unfold burstEnd
  exact ⟨Nat.lt_min.2 ⟨h, Nat.lt_min.2 ⟨by omega, by omega⟩⟩, Nat.min_le_left ..⟩

/-- A run that has moved nothing and has bytes to move begins with a read. -/
theorem Mach.dmaNext_fresh {s : Mach} {c : Nat} (hbuf : (s.dmaSt c).buf = []) (hrem : (s.dmaSt c).rem = []) (hdone : (s.dmaSt c).doneB = 0)
    (hn : (s.dmaSt c).total ≠ 0) :
    ∃ n, n ≤ (s.dmaSt c).total ∧ s.dmaNext c = s.onDma c (fun d => { d with phase := .read 0 n, tries := 0 }) := by
  obtain ⟨d, hd⟩ : ∃ d, d = s.dmaSt c := ⟨_, rfl⟩
  rw [← hd] at hbuf hrem hdone hn ⊢
  have hread : ¬ (if d.dst < Nat.max d.dst ((d.dst + d.total - 1) / 16 * 16) then
      burstEnd d.dst (Nat.max d.dst ((d.dst + d.total - 1) / 16 * 16)) else d.dst + d.total) - d.dst ≤ 0 := by
    split
    · rename_i h
      have := (burstEnd_bounds h).1
      omega
    · omega
  refine ⟨burstEnd d.src (d.src + d.total) - d.src, ?_, ?_⟩
  · have := (burstEnd_bounds (a := d.src) (top := d.src + d.total) (by omega)).2
    omega
  · simp only [Mach.dmaNext, ← hd, hbuf, hrem, hdone, Nat.add_zero, List.length_nil, hread, if_false]
    simp only [Mach.onDma, mmod, hd, Mach.dmaSt]

/-- Settles O14. -/
theorem dmaTransfers : Obligations.DmaTransfers := by
  unfold Obligations.DmaTransfers
  refine ⟨?_, ?_, ?_, ?_, ?_⟩
  · intro s c v h hc hv hbusy hn hswap
    obtain ⟨t, ht⟩ : ∃ t, t = ((s.m.wr R.DMA_CTRL (v &&& 0x3FC) c).wr R.DMA_STAT 1 c).wr R.DMA_HOPS 0 c := ⟨_, rfl⟩
    have hcnt : t.rd R.DMA_CNT c = s.m.rd R.DMA_CNT c := by
      simp (disch := decide) only [ht, Mach.rd_wr_inst]
    obtain ⟨u, hu⟩ : ∃ u, u = (t.onDma c (fun _ => DmaSt.init)).onDma c (fun d => { d with
        src := t.dmaAddr R.DMA_SRC_LO R.DMA_SRC_HI c, dst := t.dmaAddr R.DMA_DST_LO R.DMA_DST_HI c, total := t.rd R.DMA_CNT c,
        buf := [], rem := [], doneB := 0, tries := 0 }) := ⟨_, rfl⟩
    have hdma : u.dmaSt c = { DmaSt.init with
        src := t.dmaAddr R.DMA_SRC_LO R.DMA_SRC_HI c, dst := t.dmaAddr R.DMA_DST_LO R.DMA_DST_HI c, total := t.rd R.DMA_CNT c,
        buf := [], rem := [], doneB := 0, tries := 0 } := by
      rw [hu, Mach.dmaSt_onDma, Mach.dmaSt_onDma]
    obtain ⟨n, hle, hnext⟩ := Mach.dmaNext_fresh (s := u) (c := c) (by rw [hdma]) (by rw [hdma]) (by rw [hdma]) (by rw [hdma, hcnt]; exact hn)
    have hrow : dmaGo c v true s.m = u.onDma c (fun d => { d with phase := .read 0 n, tries := 0 }) := by
      rw [← hnext, hu, ht]
      simp only [dmaGo, if_neg (show ¬ 32 ≤ c by omega), decide_eq_false (show ¬ 28 ≤ c by omega), hbusy, hswap, Bool.and_false,
        Bool.false_eq_true, if_false, bne_self_eq_false, Mach.dmaRun]
      rw [← ht]
      exact if_neg (by rw [show (t.onDma c fun _ => DmaSt.init).rd R.DMA_CNT c = t.rd R.DMA_CNT c from rfl, hcnt]; exact hn)
    have hregs : u.regs = t.regs := by rw [hu]; rfl
    have hrd (r : Reg) : (u.onDma c (fun d => { d with phase := .read 0 n, tries := 0 })).rd r c = t.rd r c :=
      congrArg (fun m => (mget (BitVec.ofNat 32 (r.rst c)) m (r.at_ c 0)).toNat) hregs
    refine ⟨_, take_gives h (by simp; omega) hrow, ?_, ?_, ?_, ?_, n, ?_, ?_⟩
    · refine (congrArg (fun v => bits v 0 1) (hrd R.DMA_STAT)).trans ?_
      simp (disch := decide) only [ht, Mach.rd_wr_inst, Mach.rd_wr_self]
      decide
    · rw [hrd]
      simp (disch := decide) only [ht, Mach.rd_wr_inst, Mach.rd_wr_self]
      exact Nat.mod_eq_of_lt (Nat.lt_of_le_of_lt Nat.and_le_left hv)
    · rw [hrd, ht, Mach.rd_wr_self]
      rfl
    · rw [hu, ht]
      rfl
    · rw [Mach.dmaSt_onDma]
    · rw [← hcnt]
      exact hle.trans_eq (by rw [hdma])
  · intro s c v h hc hv hbusy
    refine take_gives h (by simp; omega) ?_
    simp only [dmaGo, if_neg (show ¬ 32 ≤ c by omega), Bool.false_and, Bool.false_eq_true, if_false, hbusy, if_true]
  · intro s c h hc hbusy htries
    refine take_gives h (by simp; omega) ?_
    have hfirst : ((s.m.dmaSt c).tries != 0) = false := by rw [htries]; rfl
    simp only [dmaCtrlStop, if_neg (show ¬ 32 ≤ c by omega), decide_eq_false (show ¬ 28 ≤ c by omega), Bool.and_false, Bool.false_eq_true,
      if_false, Mach.dmaStop, hbusy, Bool.not_true, hfirst]
    rfl
  · intro s c off n h hc hphase hoff hend hchain hctrl hcode htgt
    obtain ⟨t, ht⟩ : ∃ t, t = (s.m.mwr ((s.m.dmaSt c).dst + off) ((s.m.dmaSt c).buf.take n)).onDma c
        (fun d => { d with buf := d.buf.drop n, doneB := d.doneB + n }) := ⟨_, rfl⟩
    have hdma : t.dmaSt c = { s.m.dmaSt c with buf := (s.m.dmaSt c).buf.drop n, doneB := (s.m.dmaSt c).doneB + n } := by
      rw [ht, Mach.dmaSt_onDma]
      rfl
    have htotal : (t.dmaSt c).doneB = (t.dmaSt c).total := by
      rw [hdma]
      exact hoff ▸ hend
    have hchain' : (t.dmaSt c).inChain = false := by rw [hdma]; exact hchain
    have hchains : t.dmaChains c = false := by
      have hon : t.on F.DMA_CTRL_CHAIN c = s.m.on F.DMA_CTRL_CHAIN c := by rw [ht]; rfl
      simp only [Mach.dmaChains, hchain', Bool.false_eq_true, if_false, hon, hctrl]
    have hrow : dmaBurstDone c 0 s.m = ((t.sf F.DMA_STAT_DONE 1 c).setBit R.DMA_DONE c).dmaHalt c := by
      simp only [dmaBurstDone, hphase, hcode, bne_self_eq_false, Nat.zero_mod, Mach.store, htgt, if_true, if_false, Bool.false_eq_true]
      rw [← ht]
      simp only [htotal, hchains, Bool.and_false, Bool.false_eq_true, bne_self_eq_false, if_false, if_true, Mach.dmaRunEnd, hchain',
        Bool.false_and, Mach.when]
    refine ⟨_, take_gives h (by simp [hc]) hrow, ?_, ?_, ?_, ?_⟩
    · have hat : R.DMA_DONE.at_ 0 0 ≠ R.DMA_STAT.at_ c 0 := by
        simp only [Reg.at_, R.DMA_DONE, R.DMA_STAT]
        omega
      have hdone : ((t.sf F.DMA_STAT_DONE 1 c).setBit R.DMA_DONE c).gf F.DMA_STAT_DONE c = 1 := by
        rw [Mach.setBit, Mach.gf_wr_ne _ _ hat]
        exact Mach.gf_sf_of_lt _ _ _ (by decide) (by decide)
      exact (Mach.gf_sf_disjoint (f := F.DMA_STAT_BUSY) (g := F.DMA_STAT_DONE) _ _ _ _ rfl (by decide) (by decide)).trans hdone
    · exact Mach.gf_sf_of_lt (f := F.DMA_STAT_BUSY) _ _ _ (by decide) (by decide)
    · have hat : R.DMA_STAT.at_ c 0 ≠ R.DMA_DONE.at_ 0 0 := by
        simp only [Reg.at_, R.DMA_DONE, R.DMA_STAT]
        omega
      have hrd : (((t.sf F.DMA_STAT_DONE 1 c).setBit R.DMA_DONE c).dmaHalt c).rd R.DMA_DONE
          = ((t.sf F.DMA_STAT_DONE 1 c).rd R.DMA_DONE ||| 2 ^ c) % 2 ^ 32 :=
        (Mach.rd_sf_ne (f := F.DMA_STAT_BUSY) _ _ hat).trans (Mach.rd_wr_self ..)
      rw [hrd, bitOf_mod_two_pow _ hc, bitOf_or, bitOf_two_pow_self, Bool.or_true]
    · rw [ht]
      rfl
  · intro s c a h hc hphase hstop ha hcode htgt hflags hcnt hnext
    obtain ⟨w, hw⟩ : ∃ w, w = memGet s.m.mem a 32 := ⟨_, rfl⟩
    rw [← hw] at hflags hcnt hnext ⊢
    obtain ⟨t, ht⟩ : ∃ t, t = ((((s.m.wr64 R.DMA_SRC_LO R.DMA_SRC_HI (fld w 0 8) c).wr64 R.DMA_DST_LO R.DMA_DST_HI (fld w 8 8) c).wr64
        R.DMA_NEXT_LO R.DMA_NEXT_HI (fld w 16 8) c).wr R.DMA_CNT (fld w 24 4) c).sf F.DMA_CTRL_SWAP (bits (fld w 28 4) 2 2) c := ⟨_, rfl⟩
    have hloop : ¬ (fld w 16 8 = a ∧ bitOf (fld w 28 4) 0 = false) := by
      rintro ⟨he, hbit⟩
      obtain hne | hodd := hnext
      · exact hne he
      · simp [bitOf, hodd] at hbit
    have hrow : dmaDescFetch c 0 s.m = (t.onDma c (fun d => { d with dEnd := bitOf (fld w 28 4) 0, dIrq := bitOf (fld w 28 4) 1 })).dmaRun c := by
      have hstop' : (s.m.dmaSt c).stopReq = false := hstop
      simp only [dmaDescFetch, hphase, bne_self_eq_false, Bool.false_eq_true, if_false, ← ha, hcode, Nat.zero_mod, htgt, decide_true,
        decide_false, Bool.and_false, Mach.mrd, ← hw]
      rw [← ht, if_neg (by simp only [hcnt, bne_self_eq_false, Bool.or_false, decide_eq_true_eq]; omega), if_neg (by simpa using hloop)]
      simp only [hstop', Bool.false_eq_true, if_false]
    refine ⟨_, take_gives h (by simp [hc]) hrow, ?_, ?_, ?_, ?_, ?_⟩
    · refine Eq.trans (b := t.rd64 R.DMA_SRC_LO R.DMA_SRC_HI c) rfl ?_
      simp (disch := decide) only [ht, Mach.rd64_sf_inst, Mach.rd64_wr_inst, Mach.rd64_wr64_inst]
      exact Mach.rd64_wr64_self _ _ (fld_lt w 0 8) rfl (by decide)
    · refine Eq.trans (b := t.rd64 R.DMA_DST_LO R.DMA_DST_HI c) rfl ?_
      simp (disch := decide) only [ht, Mach.rd64_sf_inst, Mach.rd64_wr_inst, Mach.rd64_wr64_inst]
      exact Mach.rd64_wr64_self _ _ (fld_lt w 8 8) rfl (by decide)
    · refine Eq.trans (b := t.rd64 R.DMA_NEXT_LO R.DMA_NEXT_HI c) rfl ?_
      simp (disch := decide) only [ht, Mach.rd64_sf_inst, Mach.rd64_wr_inst]
      exact Mach.rd64_wr64_self _ _ (fld_lt w 16 8) rfl (by decide)
    · refine Eq.trans (b := t.rd R.DMA_CNT c) rfl ?_
      simp (disch := decide) only [ht, Mach.rd_sf_inst, Mach.rd_wr_self]
      exact Nat.mod_eq_of_lt (fld_lt w 24 4)
    · rw [ht]
      rfl

end Sys2Proof.Machine
end

section
/-! PROOF. The DRAM controller: background work, ECC, replay and frequency changes (R491 to R509). -/
namespace Sys2Proof.Machine

theorem Mach.raise_onlyIn (s : Mach) (c : ECode) (i a : Nat) : s.onlyIn recordTouch (s.raise c i a) :=
  (Mach.onlyIn_raise c i a (by decide)).2 (s.onlyIn_refl _)

/-! ## Lines -/

/-- Accesses to banks change the banks alone. -/
theorem Mach.bankAccess_eq (s : Mach) (a : Nat) : ∃ b, s.bankAccess a = s.onDdr (fun d => { d with banks := b }) := ⟨_, rfl⟩

theorem Mach.bankAccesses_eq (l : List QWrite) (s : Mach) :
    ∃ b, s.each l (fun s q => s.bankAccess q.line) = s.onDdr (fun d => { d with banks := b }) := by
  induction l generalizing s with
  | nil => exact ⟨s.ddr.banks, rfl⟩
  | cons q l ih =>
    obtain ⟨b, hb⟩ := s.bankAccess_eq q.line
    obtain ⟨b', hb'⟩ := ih (s.bankAccess q.line)
    exact ⟨b', by rw [Mach.each_cons, hb', hb]; rfl⟩

theorem Mach.checkWord_scrub (s : Mach) (reader w : Nat) : (s.checkWord reader w).ddr.scrub = s.ddr.scrub := by
  unfold Mach.checkWord
  split
  · extract_lets t u sec
    have hu : u.ddr = s.ddr := by
      simp only [u]
      split <;> rfl
    split
    · rw [hu]
    · rw [((Mach.raise_onlyIn ..).1 .ddr (by decide) : _ = _)]
      exact (show u.ddr.scrub = s.ddr.scrub by rw [hu])
  · split <;> rfl

theorem Mach.readLine_scrub (s : Mach) (reader a : Nat) : (s.readLine reader a).ddr.scrub = s.ddr.scrub := by
  unfold Mach.readLine
  extract_lets l t
  have ht : t.ddr.scrub = s.ddr.scrub := by
    simp only [t]
    split <;> rfl
  exact Mach.each_keeps (fun u => u.ddr.scrub = s.ddr.scrub) _ (fun u i hu => (u.checkWord_scrub ..).trans hu) _ _ ht

theorem Mach.readLine_mem (s : Mach) (reader a : Nat) : (s.readLine reader a).mem = s.mem := (s.readLine_onlyIn reader a).1 .mem (by decide)

/-! ## PLL_DDR -/

/-- What the programming of a PLL touches: clock registers and the values live in the PLL. -/
def tuneTouch : Footprint := ⟨[.live], [(0x100000, some 0x200000)]⟩

theorem Mach.ddrTune_onlyIn (s : Mach) (rate : Nat) : s.onlyIn tuneTouch (s.ddrTune rate) := by
  simp (disch := decide) [Mach.ddrTune]

/-- The set asked for is no part of what a change is refused for. -/
theorem Mach.freqRefuse_ctrlSet (s : Mach) {k : Nat} : (s.sf F.DDRC_FREQ_CTRL_SET k).freqRefuse k = s.freqRefuse k := by
  have hat : R.DDRC_FREQ_CTRL.at_ 0 0 ≠ R.DDRC_SET.at_ k 0 := by
    simp only [Reg.at_, R.DDRC_FREQ_CTRL, R.DDRC_SET]
    omega
  have hon : (s.sf F.DDRC_FREQ_CTRL_SET k).on F.DDRC_SET_TRAINED k = s.on F.DDRC_SET_TRAINED k := Mach.on_sf_ne _ _ hat
  have hstate : (s.sf F.DDRC_FREQ_CTRL_SET k).ddrState = s.ddrState := Mach.gf_sf_ne _ _ (by decide)
  simp only [Mach.freqRefuse, hon, hstate, Mach.sf_ddr]

/-- A replay attempt does not move the controller's state by itself. -/
theorem Mach.replay_ddrState (s : Mach) : (((s.bump R.DDRC_REPLAY).evt F.DDRC_EVT_REPLAY)).ddrState = s.ddrState := by
  rw [Mach.ddrState, Mach.evt, Mach.gf_sf_ne _ _ (by decide), Mach.bump, Mach.gf_wr_ne _ _ (by decide), Mach.ddrState]

/-- Settles O15. -/
theorem dramMaintenanceAndEcc : Obligations.DramMaintenanceAndEcc := by
  unfold Obligations.DramMaintenanceAndEcc
  refine ⟨?_, ?_, ?_, ?_, ?_, ?_, ?_, ?_, ?_, ?_, ?_, ?_, ?_, ?_, ?_, ?_, ?_, ?_, ?_⟩
  · intro s h
    refine ⟨_, take_gives h rfl rfl, rfl, fun e he => ?_⟩
    obtain ⟨x, -, rfl⟩ := List.mem_map.1 he
    rfl
  · intro s b h
    refine ⟨_, take_gives h rfl rfl, rfl, fun e he hb => ?_, fun e he hb => ?_⟩
    · obtain ⟨x, -, rfl⟩ := List.mem_map.1 he
      by_cases hx : x.1 = b
      · simp [hx]
      · simp [hx] at hb
    · exact List.mem_map.2 ⟨e, he, by simp [hb]⟩
  · exact fun s h => take_gives h rfl rfl
  · exact fun s h => take_gives h rfl rfl
  · exact fun s t h ht => take_gives h rfl (by rw [dramTempRead, if_pos ht]; rfl)
  · exact fun s t h ht => take_gives h rfl (by rw [dramTempRead, if_neg (by omega), if_pos ht]; rfl)
  · intro s h hup hhi hlo
    obtain ⟨b, hb⟩ := Mach.bankAccesses_eq (s.m.ddr.wq.take (s.m.ddr.wq.length - s.m.gf F.DDRC_CFG_WR_LO)) s.m
    have hrow : dramWriteDrain s.m = (s.m.onDdr (fun d => { d with banks := b })).onDdr (fun d => { d with
        wq := d.wq.drop (s.m.ddr.wq.length - s.m.gf F.DDRC_CFG_WR_LO) }) := by
      simp only [dramWriteDrain, hup, decide_eq_true hhi, decide_eq_false (Nat.not_le.2 hlo), Bool.true_or, Bool.not_true, Bool.or_self,
        Bool.false_eq_true, if_false, Mach.issueWrites, hb]
    refine ⟨_, take_gives h rfl hrow, ?_, rfl, rfl, rfl⟩
    simp only [Mach.onDdr, List.length_drop]
    omega
  · exact fun s v h hv hbit => take_gives h (by simpa using hv) (by rw [ddrcEccClr, if_pos hbit])
  · intro s v h hv hbit
    refine ⟨_, take_gives h (by simpa using hv) (by rw [ddrcCntClr, if_neg (by simp [hbit])]), ?_, fun r hr => ?_⟩
    · exact Mach.each_keeps (fun t => s.m.registersOnly t) _ (fun t r ht => Mach.registersOnly_wr _ _ _ _ ht) _ _ s.m.registersOnly_refl
    · simp only [List.mem_cons, List.not_mem_nil, or_false] at hr
      obtain rfl | rfl | rfl | rfl | rfl | rfl | rfl := hr <;>
        (simp (disch := decide) only [Mach.each_cons, Mach.each_nil, Mach.rd_wr_ne, Mach.rd_wr_self]; rfl)
  · intro s f n h hf hn
    have hrow : dramWriteComplete 1 f n s.m = s.m.onFeed f (fun d => { d with todo := d.todo.filter (fun b => b != n) }) := by
      simp only [dramWriteComplete]
      rw [if_pos (by simpa using hn)]
    refine ⟨_, take_gives h (by simpa using hf) hrow, ?_, rfl, rfl, fun g hg => mget_mput_ne _ _ _ (Ne.symm hg)⟩
    have hfeed : (s.m.onFeed f (fun d => { d with todo := d.todo.filter (fun b => b != n) })).feed f
        = { s.m.feed f with todo := (s.m.feed f).todo.filter (fun b => b != n) } := mget_mput_self ..
    simp [hfeed]
  · exact fun s h hheld => take_gives h rfl (by rw [dramHoldTimeout, if_pos hheld])
  · intro s c h hchg hsw
    obtain ⟨t, ht⟩ : ∃ t, t = s.m.closeRows.onDdr (fun d => { d with wq := [], chg := some { c with switched := true } }) := ⟨_, rfl⟩
    obtain ⟨u, hu⟩ : ∃ u, u = t.ddrTune (t.gf F.DDRC_SET_RATE c.set) := ⟨_, rfl⟩
    have honly : t.onlyIn tuneTouch u := hu ▸ t.ddrTune_onlyIn _
    have hddr : u.ddr = t.ddr := honly.1 .ddr (by decide)
    have hrow : dramFreqSwitch s.m
        = (u.sf F.CLK_PLL_STAT_STATE 2 3).sf F.CLK_STAT_LOCKED (putBits ((u.sf F.CLK_PLL_STAT_STATE 2 3).gf F.CLK_STAT_LOCKED) 3 1 0) := by
      simp only [dramFreqSwitch, hchg, hsw, Bool.false_eq_true, if_false]
      rw [← ht, ← hu]
      rw [Mach.gf_sf_ne _ _ (by decide)]
    refine ⟨_, take_gives h rfl hrow, ?_, ?_, ?_, ?_, ?_, ?_⟩
    · exact (congrArg DdrSt.wq hddr).trans (by rw [ht]; rfl)
    · exact (congrArg DdrSt.chg hddr).trans (by rw [ht]; rfl)
    · intro e he
      have hbanks : u.ddr.banks = s.m.closeRows.ddr.banks := (congrArg DdrSt.banks hddr).trans (by rw [ht]; rfl)
      have he' : e ∈ s.m.closeRows.ddr.banks := hbanks ▸ he
      obtain ⟨x, -, rfl⟩ := List.mem_map.1 he'
      rfl
    · rw [Mach.gf_sf_ne _ _ (by decide)]
      exact Mach.gf_sf_of_lt _ _ _ (by decide) (by decide)
    · rw [Mach.gf_sf_self _ _ _ _ _ (by decide), bitOf_mod_two_pow _ (by decide)]
      exact bitOf_putBits_self _ 3 false
    · exact (honly.1 .mem (by decide) : u.mem = t.mem).trans (by rw [ht]; rfl)
  · intro s c h hchg hsw hab hset
    obtain ⟨u, hu⟩ : ∃ u, u = s.m.ddrTune (s.m.gf F.DDRC_SET_RATE (s.m.gf F.DDRC_STAT_SET)) := ⟨_, rfl⟩
    have honly : s.m.onlyIn tuneTouch u := hu ▸ s.m.ddrTune_onlyIn _
    have hddr : u.ddr = s.m.ddr := honly.1 .ddr (by decide)
    refine ⟨(((u.sf F.DDRC_SET_TRAINED 0 c.set).bump R.DDRC_FREQ_FAIL).evt F.DDRC_EVT_FREQ_FAIL).onDdr (fun d => { d with
        chg := some { c with abandoned := true, origin := none } }), take_gives h rfl ?_, ?_, ?_, ?_, ?_⟩
    · simp only [dramFreqAbandon, hchg, hsw, hab, Bool.not_true, Bool.or_self, Bool.false_eq_true, if_false]
      rw [← hu]
    · have hat (r : Reg) (hr : r.at_ 0 0 ≠ R.DDRC_SET.at_ 0 0) (hr' : r.at_ 0 0 ≠ R.DDRC_SET.at_ 1 0) : r.at_ 0 0 ≠ R.DDRC_SET.at_ c.set 0 := by
        obtain e | e : c.set = 0 ∨ c.set = 1 := by omega
        · rwa [e]
        · rwa [e]
      refine (Mach.gf_sf_ne (f := F.DDRC_EVT_FREQ_FAIL) _ _ (hat _ (by decide) (by decide))).trans ?_
      exact (Mach.gf_wr_ne _ _ (hat _ (by decide) (by decide))).trans (Mach.gf_sf_of_lt _ _ _ (by decide) (by decide))
    · have hat : R.DDRC_SET.at_ c.set 0 ≠ R.DDRC_FREQ_FAIL.at_ 0 0 := by
        simp only [Reg.at_, R.DDRC_SET, R.DDRC_FREQ_FAIL]
        omega
      refine (Mach.rd_sf_ne (f := F.DDRC_EVT_FREQ_FAIL) _ _ (by decide)).trans ?_
      rw [Mach.rd_bump_self, Mach.rd_sf_ne _ _ hat, Mach.onlyIn_rd honly _ _ _ (by decide)]
    · exact Mach.gf_sf_of_lt _ _ _ (by decide) (by decide)
    · exact congrArg (fun d : DdrSt => { d with chg := some { c with abandoned := true, origin := none } }) hddr
  · intro s v h hv hgo hok hother
    refine take_gives h (by simpa using hv) ?_
    have hok' : ((s.m.sf F.DDRC_FREQ_CTRL_SET (v % 2)).freqRefuse (v % 2) != 0) = false := by
      rw [Mach.freqRefuse_ctrlSet, hok]
      rfl
    have hother' : (s.m.sf F.DDRC_FREQ_CTRL_SET (v % 2)).gf F.DDRC_STAT_SET ≠ v % 2 := by
      rwa [Mach.gf_sf_ne _ _ (by decide)]
    simp only [ddrcFreqGo, hgo, Bool.not_true, Bool.false_eq_true, if_false, hok', hother']
  · intro s v h hv hgo hbad
    refine take_gives h (by simpa using hv) ?_
    have hbad' : ((s.m.sf F.DDRC_FREQ_CTRL_SET (v % 2)).freqRefuse (v % 2) != 0) = true := by
      rw [Mach.freqRefuse_ctrlSet]
      simpa using hbad
    simp only [ddrcFreqGo, hgo, Bool.not_true, Bool.false_eq_true, if_false, hbad', if_true]
  · intro s h hst
    obtain ⟨t, ht⟩ : ∃ t, t = (((s.m.bump R.DDRC_REPLAY).evt F.DDRC_EVT_REPLAY).closeRows).onDdr (fun d => { d with fails := 0 }) := ⟨_, rfl⟩
    have hstate : t.ddrState = s.m.ddrState := by rw [ht]; exact s.m.replay_ddrState
    have hrow : dramAlert true s.m = if t.ddrState = 4 then t.setDdr 1 else t := by
      rw [ht]
      simp only [dramAlert, if_true]
      rw [if_neg (by simp only [Bool.or_eq_true, decide_eq_true_eq]; omega)]
    refine ⟨_, take_gives h rfl hrow, ?_, ?_, ?_, ?_, ?_⟩
    · split
      · exact Mach.gf_sf_of_lt _ _ _ (by decide) (by decide)
      · omega
    · split <;> rw [ht] <;> rfl
    · have hevt : t.gf F.DDRC_EVT_REPLAY = 1 := by
        rw [ht]
        exact Mach.gf_sf_of_lt (f := F.DDRC_EVT_REPLAY) _ _ _ (by decide) (by decide)
      split
      · exact (Mach.gf_sf_ne _ _ (by decide)).trans hevt
      · exact hevt
    · have hcount : t.rd R.DDRC_REPLAY = Nat.min 0xFFFFFFFF (s.m.rd R.DDRC_REPLAY + 1) := by
        rw [ht]
        exact (Mach.rd_sf_ne (f := F.DDRC_EVT_REPLAY) _ _ (by decide)).trans (Mach.rd_bump_self ..)
      split
      · exact (Mach.rd_sf_ne _ _ (by decide)).trans hcount
      · exact hcount
    · split <;> rw [ht] <;> rfl
  · intro s h hst hf
    obtain ⟨t, ht⟩ : ∃ t, t = (((s.m.bump R.DDRC_REPLAY).evt F.DDRC_EVT_REPLAY).closeRows).onDdr (fun d => { d with fails := d.fails + 1 }) :=
      ⟨_, rfl⟩
    have hstate : t.ddrState = 1 := by rw [ht]; exact s.m.replay_ddrState.trans hst
    have hrow : dramAlert false s.m = t.setDdr 4 := by
      have hfails : (((s.m.bump R.DDRC_REPLAY).evt F.DDRC_EVT_REPLAY).closeRows).ddr.fails + 1 < 3 := by
        have : (((s.m.bump R.DDRC_REPLAY).evt F.DDRC_EVT_REPLAY).closeRows).ddr.fails = s.m.ddr.fails := rfl
        omega
      simp only [dramAlert, Bool.false_eq_true, if_false]
      rw [if_neg (by simp [hst]), if_pos hfails, ← ht, if_pos hstate]
    refine ⟨_, take_gives h rfl hrow, Mach.gf_sf_of_lt _ _ _ (by decide) (by decide), ?_, ?_⟩
    · rw [Mach.setDdr, Mach.sf_ddr, ht]
      rfl
    · rw [Mach.setDdr, Mach.sf_mem, ht]
      rfl
  · intro s a r h hr htgt
    refine ⟨take_gives h (by simpa using hr) ?_, s.m.readLine_mem r a⟩
    simp only [dramReadComplete, htgt, bne_self_eq_false, Bool.false_eq_true, if_false, Nat.mod_eq_of_lt hr]
  · intro s h hen hsize hup
    obtain ⟨t, ht⟩ : ∃ t, t = s.m.readLine 5 (dramBase + s.m.ddr.scrub) := ⟨_, rfl⟩
    have hscrub : t.ddr.scrub = s.m.ddr.scrub := ht ▸ s.m.readLine_scrub _ _
    have hrow : scrubRead s.m = t.onDdr (fun d => { d with scrub := (d.scrub + 64) % s.m.dramSize }) := by
      simp only [scrubRead, hen, hsize, hup, Bool.not_true, decide_false, Bool.or_self, Bool.false_eq_true, if_false, ht]
    exact ⟨_, take_gives h rfl hrow, by simp only [Mach.onDdr, hscrub], by rw [Mach.onDdr, ht, s.m.readLine_mem]⟩

end Sys2Proof.Machine
end

section
/-! PROOF. Engines of the fabric, gating and herd release (R225 to R242, R257). -/
namespace Sys2Proof.Machine

/-- An event that was set is set. -/
theorem Mach.on_evt_self (s : Mach) {f : Fld} (i : Nat) (hlen : f.len = 1) (h : f.lo + f.len ≤ 32) : (s.evt f i).on f i = true := by
  rw [Mach.on, Mach.evt, Mach.gf_sf_self _ _ _ _ _ h, hlen]
  rfl

theorem mem_of_mfind {α : Type} {m : SMap α} {k : Nat} {v : α} (h : mfind m k = some v) : (k, v) ∈ m := by
  induction m with
  | nil => simp at h
  | cons e m ih =>
    obtain ⟨j, w⟩ := e
    unfold mfind at h
    split at h
    · rename_i hj
      obtain rfl := hj
      obtain rfl := Option.some.inj h
      exact List.mem_cons_self
    · exact List.mem_cons_of_mem _ (ih h)

/-! ## Engines -/

/-- An open engine has neither been abandoned nor acknowledged. -/
theorem Mach.of_mem_engOpen {s : Mach} {e : Nat} (h : e ∈ s.engOpen) :
    s.rend.fab.aband.contains e = false ∧ s.rend.fab.acked.contains e = false := by
  simp only [Mach.engOpen, List.mem_filter, Bool.and_eq_true, Bool.not_eq_true'] at h
  exact ⟨h.2.1.2, h.2.2⟩

/-- A late limit is no earlier than the deadline of its class. -/
theorem deadline_le_lateLimit : ∀ c, deadline c ≤ lateLimit c
  | 0 | 1 | 2 | 3 => by decide
  | c + 4 => by simp [deadline, lateLimit]

/-- A completion before the late limit is stamped, and counted when it is late. -/
theorem engineComplete_open {s : Mach} {e n : Nat} (hruns : s.engRuns e = true) (hnew : mfind s.rend.fab.stamps e = none) (hopen : e ∈ s.engOpen)
    (hlim : s.timerCycles n ≤ lateLimit (engClass e)) :
    engineComplete e n s = if deadline (engClass e) < s.timerCycles n then
        ((s.onFab (fun q => { q with stamps := mput q.stamps e (s.timerCycles n) })).bump R.FAB_ENG_LATE e).evt F.FAB_EVT_LATE
      else s.onFab (fun q => { q with stamps := mput q.stamps e (s.timerCycles n) }) := by
  obtain ⟨haband, hacked⟩ := Mach.of_mem_engOpen hopen
  simp only [engineComplete, hruns, hnew, haband, hacked, decide_eq_false (Nat.not_lt.2 hlim), Option.isSome_none, Bool.not_true, Bool.or_self,
    Bool.false_eq_true, if_false]

/-- An engine that does not acknowledge joins the hung ones, and is no longer abandoned or acknowledged. -/
theorem Mach.isolateEngine_fab (s : Mach) (e : Nat) : (s.isolateEngine e).rend.fab = { s.rend.fab with
    hung := s.rend.fab.hung ++ [e], aband := s.rend.fab.aband.filter (fun x => x != e), acked := s.rend.fab.acked.filter (fun x => x != e) } := by
  unfold Mach.isolateEngine
  extract_lets u
  split <;> rfl

theorem Mach.isolateEngine_valid (s : Mach) (e : Nat) : (s.isolateEngine e).on F.FAB_HANG_ENG_VALID = true := by
  unfold Mach.isolateEngine
  extract_lets u
  split
  · assumption
  · exact Mach.on_evt_self _ 0 rfl (by decide)

/-- The first engine isolated is the one HANG_ENG names. -/
theorem Mach.isolateEngine_eng (s : Mach) {e : Nat} (he : e < 128) :
    (s.isolateEngine e).gf F.FAB_HANG_ENG_ENG = if s.on F.FAB_HANG_ENG_VALID then s.gf F.FAB_HANG_ENG_ENG else e := by
  have hon (f : FabSt → FabSt) : (s.onFab f).on F.FAB_HANG_ENG_VALID = s.on F.FAB_HANG_ENG_VALID := rfl
  simp only [Mach.isolateEngine, hon]
  split
  · rfl
  · rw [Mach.gf_sf_disjoint (f := F.FAB_HANG_ENG_VALID) (g := F.FAB_HANG_ENG_ENG) _ _ _ _ rfl (by decide) (by decide)]
    exact Mach.gf_sf_of_lt _ _ _ (by decide) he

/-- What the end of a tick leaves of its work, its taps and its completions. -/
def Rend.tickOver (q : Rend) (m : Nat) (hand : SMap (List Int)) (taps : SMap (List (Int × Bool))) (pre : SMap (List Int)) : Rend :=
  { q with work := none, hand := some (m, hand), tapIn := taps, tapPre := pre, was := [], genWas := [], fc := q.fcNext,
           fab := { q.fab with stamps := [], aband := [], acked := [] } }

/-- The end of a tick takes its work away, hands its number on and forgets its stamps. -/
theorem Mach.finishTick_ends {s : Mach} {w : Work} (h : s.rend.work = some w) :
    ∃ (t : Mach) (hand : SMap (List Int)) (taps : SMap (List (Int × Bool))) (pre : SMap (List Int)),
      s.finishTick = t.onRend (fun q => q.tickOver w.tick hand taps pre) := by
  unfold Mach.finishTick
  split
  · rename_i hnone
    exact absurd (h.symm.trans hnone) (by simp)
  · rename_i v hv
    obtain rfl : w = v := Option.some.inj (h.symm.trans hv)
    extract_lets m missedL missed miss
    split
    rename_i fo fronts hfronts
    extract_lets filled parity
    split
    rename_i acc paths hpaths
    extract_lets sums
    split
    rename_i hand pre feeds hfeeds
    extract_lets stored geo
    split
    rename_i slack accounted hslack
    exact ⟨_, hand, fo.taps, pre, rfl⟩

/-- Settles O16. -/
theorem fabricEngines : Obligations.FabricEngines := by
  unfold Obligations.FabricEngines
  refine ⟨?_, ?_, ?_, ?_, ?_, ?_, ?_⟩
  · intro s e n he h hruns hnew hopen hle
    refine take_gives h (by simpa using he) ?_
    rw [engineComplete_open hruns hnew hopen (hle.trans (deadline_le_lateLimit _)), if_neg (Nat.not_lt.2 hle)]
  · intro s e n he h hruns hnew hopen hclk hlt hle
    have hcyc : s.m.timerCycles n = n := by simp [Mach.timerCycles, hclk]
    have hrow := engineComplete_open hruns hnew hopen (n := n) (by rwa [hcyc])
    rw [hcyc, if_pos hlt] at hrow
    refine ⟨_, take_gives h (by simpa using he) hrow, rfl, ?_, Mach.on_evt_self _ _ rfl (by decide)⟩
    have hat : R.FAB_EVT.at_ 0 0 ≠ R.FAB_ENG_LATE.at_ e 0 := by
      simp only [Reg.at_, R.FAB_EVT, R.FAB_ENG_LATE]
      omega
    exact (Mach.rd_sf_ne (f := F.FAB_EVT_LATE) _ _ hat).trans (Mach.rd_bump_self ..)
  · exact fun s c hc h => take_gives h (by simpa using hc) rfl
  · intro s e he h hmem
    exact take_gives h (by simpa using he) (by rw [engineAbandonAck, if_pos (by simpa using hmem)])
  · intro s e w he h hmem hwork
    refine ⟨(s.m.isolateEngine e).evt F.FAB_EVT_HANG, take_gives h (by simpa using he) ?_, ?_, ?_, ?_, Mach.on_evt_self _ _ rfl (by decide), ?_, ?_⟩
    · have hc : s.m.rend.fab.aband.contains e = true := by simpa using hmem
      simp only [fabricHang, hc, Bool.not_true, Bool.false_eq_true, if_false, hwork, Option.map_some, Option.getD_some]
    · have hf : ((s.m.isolateEngine e).evt F.FAB_EVT_HANG).rend.fab = _ := s.m.isolateEngine_fab e
      rw [hf]
      exact List.mem_append_right _ List.mem_cons_self
    · have hf : ((s.m.isolateEngine e).evt F.FAB_EVT_HANG).rend.fab = _ := s.m.isolateEngine_fab e
      rw [hf]
      simp
    · have hf : ((s.m.isolateEngine e).evt F.FAB_EVT_HANG).rend.fab = _ := s.m.isolateEngine_fab e
      rw [hf]
      simp
    · rw [Mach.evt, Mach.on_sf_ne _ _ (by decide)]
      exact s.m.isolateEngine_valid e
    · rw [Mach.evt, Mach.gf_sf_ne _ _ (by decide)]
      exact s.m.isolateEngine_eng (he.trans (by decide))
  · intro s w h hwork hopen haband
    obtain ⟨t, hand, taps, pre, ht⟩ := Mach.finishTick_ends hwork
    have hrow : fabricDone s.m = t.onRend (fun q => q.tickOver w.tick hand taps pre) := by
      rw [fabricDone, hwork, hopen, haband]
      exact ht
    exact ⟨_, take_gives h rfl hrow, rfl, rfl, rfl, rfl⟩
  · intro s h hwork hbusy
    refine take_gives h rfl ?_
    have hno : (s.m.engOpen.isEmpty && s.m.rend.fab.aband.isEmpty) = false := by
      obtain hne | hne := hbusy <;> simp [hne]
    rw [fabricDone, Bool.and_assoc, hno, Bool.and_false, if_neg (by decide)]

/-! ## Gating and herd release -/

/-- The groups of a window fit its current step, and come from the head of the order. -/
theorem herdFit_fits (room : Nat) (l : List Nat) : ((herdFit room l).map stepOf).sum ≤ room ∧ herdFit room l <+: l := by
  induction l generalizing room with
  | nil => exact ⟨Nat.zero_le _, List.prefix_refl _⟩
  | cons k r ih =>
    unfold herdFit
    split
    · obtain ⟨hsum, hpre⟩ := ih (room - stepOf k)
      refine ⟨?_, List.cons_prefix_cons.2 ⟨rfl, hpre⟩⟩
      rw [List.map_cons, List.sum_cons]
      omega
    · exact ⟨Nat.zero_le _, List.nil_prefix⟩

/-- Gating group k marks it gated and no other group. -/
theorem Mach.setGate_gated (s : Mach) {k j : Nat} (hk : k < 20) (hj : j < 20) : (s.setGate k true).gated j = if j = k then true else s.gated j := by
  have hput (v n i : Nat) (hi : i < n) (l : Nat) : bitOf (putBits v l 1 (b2n true) % 2 ^ n) i = if i = l then true else bitOf v i := by
    rw [bitOf_mod_two_pow _ hi]
    split
    · rename_i h
      rw [h, bitOf_putBits_self]
    · rename_i h
      exact bitOf_putBits_ne _ _ h
  unfold Mach.setGate Mach.gated
  by_cases hk16 : k < 16 <;> by_cases hj16 : j < 16 <;> simp only [hk16, hj16, if_true, if_false]
  · rw [Mach.gf_sf_self _ _ _ _ _ (by decide)]
    exact hput _ _ _ hj16 _
  · rw [Mach.gf_sf_disjoint (f := F.FAB_GATE_STAT_PG) (g := F.FAB_GATE_STAT_FG) _ _ _ _ rfl (by decide) (by decide), if_neg (by omega)]
  · rw [Mach.gf_sf_disjoint (f := F.FAB_GATE_STAT_FG) (g := F.FAB_GATE_STAT_PG) _ _ _ _ rfl (by decide) (by decide), if_neg (by omega)]
  · rw [Mach.gf_sf_self _ _ _ _ _ (by decide)]
    refine (hput _ 4 _ (by omega) _).trans ?_
    simp only [show j - 16 = k - 16 ↔ j = k by omega]

/-- A group is gated after the gating of a group when it is that one, or was gated before. -/
theorem Mach.gateGroup_gated (s : Mach) {k j : Nat} (hk : k < 20) (hj : j < 20) : (s.gateGroup k).gated j = if j = k then true else s.gated j := by
  have hregs : (s.gateGroup k).regs = ((s.setGate k true).evt F.FAB_EVT_GATE).regs := by
    unfold Mach.gateGroup
    split <;> rfl
  have hstat : (s.gateGroup k).rd R.FAB_GATE_STAT = (s.setGate k true).rd R.FAB_GATE_STAT := by
    rw [Mach.rd, hregs]
    exact Mach.rd_sf_ne (f := F.FAB_EVT_GATE) _ _ (by decide)
  rw [← s.setGate_gated hk hj]
  simp only [Mach.gated, Mach.gf_of_rd (f := F.FAB_GATE_STAT_PG) hstat, Mach.gf_of_rd (f := F.FAB_GATE_STAT_FG) hstat]

/-- Settles O17. -/
theorem gatingAndHerdRelease : Obligations.GatingAndHerdRelease := by
  unfold Obligations.GatingAndHerdRelease
  refine ⟨?_, ?_, ?_, ?_, herdFit_fits, ?_⟩
  · intro s k hk h hgated hmay hidle hticks
    have hrow : engineGroupGate k s.m = s.m.gateGroup k := by
      simp only [engineGroupGate, hgated, hmay, hidle, decide_eq_false (Nat.not_le.2 hk), decide_eq_false (Nat.not_lt.2 hticks), Bool.not_true,
        Bool.or_self, Bool.false_eq_true, if_false]
    refine ⟨_, take_gives h (by simpa using hk) hrow, ?_, ?_, ?_, ?_⟩
    · rw [s.m.gateGroup_gated hk hk, if_pos rfl]
    · have hon : (s.m.gateGroup k).on F.FAB_EVT_GATE = ((s.m.setGate k true).evt F.FAB_EVT_GATE).on F.FAB_EVT_GATE := by
        unfold Mach.gateGroup
        split <;> rfl
      rw [hon]
      exact Mach.on_evt_self _ 0 rfl (by decide)
    · exact fun j hj hne => by rw [s.m.gateGroup_gated hk hj, if_neg hne]
    · intro h16 o q hq ho
      have hmem := mem_of_mfind hq
      simp only [Mach.gateGroup, if_neg (Nat.not_lt.2 h16), Mach.onRend] at hmem
      obtain ⟨⟨o', q'⟩, -, he⟩ := List.mem_map.1 hmem
      by_cases ho' : o' / 128 = k - 16
      · simp only [ho', if_true, Prod.mk.injEq] at he
        rw [← he.2]
      · simp only [ho', if_false, Prod.mk.injEq] at he
        exact absurd (he.1 ▸ ho) ho'
  · intro s k hk h hstay
    refine take_gives h (by simpa using hk) ?_
    rw [engineGroupGate, if_pos]
    obtain e | e | e | e := hstay <;> simp [e]
  · intro s h hne
    refine take_gives h rfl ?_
    have hempty : s.m.herdOrder.isEmpty = false := by simpa using hne
    simp only [herdWindow, hempty, Bool.false_eq_true, if_false]
  · intro s h hne
    refine take_gives h rfl ?_
    have hempty : s.m.herdOrder.isEmpty = false := by simpa using hne
    simp only [herdWindow, hempty, Bool.false_eq_true, if_false, if_true, List.contains_nil, List.map_id']
  · intro s k hk h
    refine take_gives h (by simpa using hk) ?_
    simp only [groupAwake, Bool.and_eq_true, decide_eq_true_eq]

end Sys2Proof.Machine
end

section
/-! PROOF. Sensor reads, supply writes, the ageing log, tier approvals and the planner's steps (R237, R243 to R256). -/
namespace Sys2Proof.Machine

/-! ## A register written index by index -/

/-- Each index named holds its own value, and the others stand. -/
theorem Mach.rd_each_wr (r : Reg) (v : Nat → Nat) (hs : 0 < r.s1) (l : List Nat) (s : Mach) (k : Nat) :
    (s.each l (fun s k => s.wr r (v k) k)).rd r k = if k ∈ l then v k % 2 ^ 32 else s.rd r k := by
  have hat {i j : Nat} (h : i ≠ j) : r.at_ i 0 ≠ r.at_ j 0 := by
    simp only [Reg.at_]
    intro e
    exact h (Nat.eq_of_mul_eq_mul_right hs (by omega))
  induction l generalizing s with
  | nil => simp
  | cons i l ih =>
    rw [Mach.each_cons, ih]
    by_cases hk : k ∈ l
    · simp [hk]
    · by_cases hi : k = i
      · simp [hi, Mach.rd_wr_self]
      · simp [hk, hi, Mach.rd_wr_ne _ _ (hat (Ne.symm hi))]

/-- Each index named has the field set, and the others stand. -/
theorem Mach.gf_each_sf (f : Fld) {v : Nat} (h32 : f.lo + f.len ≤ 32) (hv : v < 2 ^ f.len) (hs : 0 < f.reg.s1) (l : List Nat) (s : Mach)
    (k : Nat) : (s.each l (fun s k => s.sf f v k)).gf f k = if k ∈ l then v else s.gf f k := by
  have hat {i j : Nat} (h : i ≠ j) : f.reg.at_ i 0 ≠ f.reg.at_ j 0 := by
    simp only [Reg.at_]
    intro e
    exact h (Nat.eq_of_mul_eq_mul_right hs (by omega))
  induction l generalizing s with
  | nil => simp
  | cons i l ih =>
    rw [Mach.each_cons, ih]
    by_cases hk : k ∈ l
    · simp [hk]
    · by_cases hi : k = i
      · simp [hi, Mach.gf_sf_of_lt _ _ _ h32 hv]
      · simp [hk, hi, Mach.gf_sf_ne _ _ (hat (Ne.symm hi))]

/-! ## Fawn reads (R243 to R246) -/

theorem Mach.floorNow_le (s : Mach) : s.floorNow ≤ 800 := by
  unfold Mach.floorNow
  split
  · rename_i k hk
    have hlt : k < 51 := by simpa [upto] using List.mem_of_find?_eq_some hk
    omega
  · exact Nat.le_refl _

/-- What the judgement of a read touches beside the planner and VFLOOR: event, ages, tier changes and error records. -/
def judgeTouch : Footprint := ⟨[.err, .rend], [(0x701008, some 0x70100C), (0x701020, some 0x701024), (0x701038, some 0x70103C),
  (0x701200, some 0x7012C0), (0xD00000, some 0xE00000)]⟩

@[simp] theorem Mach.onlyIn_onIbex {s t : Mach} {F : Footprint} (f : IbexSt → IbexSt) (h : .rend ∈ F.parts) :
    s.onlyIn F (t.onIbex f) ↔ s.onlyIn F t := Mach.onlyIn_onRend _ h

theorem Mach.raise_rend (s : Mach) (c : ECode) (i a : Nat) : (s.raise c i a).rend = s.rend := (s.raise_onlyIn c i a).1 .rend (by decide)

theorem Mach.tierSaid_rend (s : Mach) (n : Nat) : (s.tierSaid n).rend = s.rend := by
  unfold Mach.tierSaid
  extract_lets old t
  split
  · rfl
  · exact t.raise_rend ..

theorem Mach.tierSaid_onlyIn (s : Mach) (n : Nat) : s.onlyIn judgeTouch (s.tierSaid n) := by
  unfold Mach.tierSaid
  extract_lets old t
  have ht : s.onlyIn judgeTouch t := by simp (disch := decide) [t]
  split
  · exact ht
  · exact (Mach.onlyIn_raise _ _ _ (by decide)).2 ht

theorem Mach.moveTier_onlyIn (s : Mach) (n : Nat) (b : Bool) : s.onlyIn judgeTouch (s.moveTier n b) := by
  unfold Mach.moveTier
  exact (Mach.onlyIn_onIbex _ (by decide)).2 (s.tierSaid_onlyIn n)

/-- What a read is judged at. -/
def Mach.readAt (s : Mach) (v : Nat) (tj : Int) : Prop := s.rend.ibex.vRead = v ∧ s.rend.ibex.tjRead = tj

theorem Mach.moveTier_readAt {s : Mach} {v : Nat} {tj : Int} (h : s.readAt v tj) (n : Nat) (b : Bool) : (s.moveTier n b).readAt v tj := by
  have hrend : (s.tierSaid n).rend = s.rend := s.tierSaid_rend n
  obtain ⟨hv, ht⟩ := h
  refine ⟨?_, ?_⟩
  · exact (congrArg (fun r : Rend => r.ibex.vRead) hrend).trans hv
  · exact (congrArg (fun r : Rend => r.ibex.tjRead) hrend).trans ht

/-- A later read is judged at the voltage and the temperature of its time, and never lowers the floor. -/
theorem Mach.fawnJudge_spec (s : Mach) (rates : List Nat) : (s.fawnJudge rates false).readAt s.vddNow s.rend.ibex.tj
    ∧ s.gf F.FAB_VFLOOR_NOW ≤ (s.fawnJudge rates false).gf F.FAB_VFLOOR_NOW
    ∧ ∀ k, k < 48 → (s.fawnJudge rates false).gf F.FAB_FAWN_RATE_RATE k = s.gf F.FAB_FAWN_RATE_RATE k := by
  unfold Mach.fawnJudge
  extract_lets v raw counts med bad aged good best
  split
  rename_i w a hbest
  extract_lets totalled read logged judged now was
  have hraw : ∀ p ∈ raw, p.1 < 48 := by
    intro p hp
    obtain ⟨k, hk, rfl⟩ := List.mem_map.1 hp
    simpa [upto] using hk
  have honly : s.onlyIn judgeTouch aged := by
    refine (Mach.onlyIn_each _ _ fun u p hp => ?_).2 (s.onlyIn_refl _)
    have hp48 := hraw p hp
    have hwr (x : Nat) : u.onlyIn judgeTouch (u.wr R.FAB_FAWN_AGE x p.1) :=
      (Mach.onlyIn_wr_family _ _ _ _ (by decide) hp48 (by decide)).2 (u.onlyIn_refl _)
    dsimp only
    split
    · simp (disch := decide) [hwr]
    · exact hwr _
  have hkeeps : aged.rend.ibex.vdd = s.rend.ibex.vdd ∧ aged.rend.ibex.vGood = s.rend.ibex.vGood ∧ aged.rend.ibex.tj = s.rend.ibex.tj := by
    refine Mach.each_keeps (fun u => u.rend.ibex.vdd = s.rend.ibex.vdd ∧ u.rend.ibex.vGood = s.rend.ibex.vGood ∧ u.rend.ibex.tj = s.rend.ibex.tj) _
      (fun u p hu => ?_) _ _ ⟨rfl, rfl, rfl⟩
    obtain ⟨hvdd, hgood, htj⟩ := hu
    dsimp only
    split
    · have hrend := Mach.raise_rend ((u.wr R.FAB_FAWN_AGE (toU 16 (clampS 16 p.2) + 65536 * b2n (bad p)) p.1).onIbex
        (fun q => { q with faulty := p.1 :: q.faulty })) E.FAWN_FAULT p.1 (rates.getD p.1 0)
      exact ⟨(congrArg (fun r : Rend => r.ibex.vdd) hrend).trans hvdd, (congrArg (fun r : Rend => r.ibex.vGood) hrend).trans hgood,
        (congrArg (fun r : Rend => r.ibex.tj) hrend).trans htj⟩
    · exact ⟨hvdd, hgood, htj⟩
  obtain ⟨hvdd, hvgood, htj⟩ := hkeeps
  have hvnow : totalled.vddNow = s.vddNow := by
    show (if aged.rend.ibex.vGood = 0 then aged.rend.ibex.vdd else aged.rend.ibex.vGood) = s.vddNow
    rw [hvdd, hvgood]
    rfl
  have hlogged : s.onlyIn judgeTouch logged := by simp (disch := decide) [logged, read, totalled, honly]
  have hloggedAt : logged.readAt s.vddNow s.rend.ibex.tj := ⟨hvnow, htj⟩
  have hjudged : s.onlyIn judgeTouch judged ∧ judged.readAt s.vddNow s.rend.ibex.tj := by
    simp only [judged]
    split
    · refine ⟨?_, ?_⟩
      · simp (disch := decide) [Mach.writeAvs, hlogged]
      · have hrend := Mach.raise_rend ((logged.onIbex (fun q => { q with degraded := true, ret := false, upRun := 0 })).writeAvs 800)
          E.FAWN_DEGRADED 0 good.length
        exact ⟨(congrArg (fun r : Rend => r.ibex.vRead) hrend).trans hloggedAt.1, (congrArg (fun r : Rend => r.ibex.tjRead) hrend).trans hloggedAt.2⟩
    · exact ⟨hlogged, hloggedAt⟩
  obtain ⟨hjonly, hjat⟩ := hjudged
  have hwas : was = s.gf F.FAB_VFLOOR_NOW := Mach.onlyIn_gf hjonly _ _ _ (by decide)
  have hnow : now < 2 ^ 10 := Nat.lt_of_le_of_lt judged.floorNow_le (by decide)
  have hrate (t : Mach) (h : s.onlyIn judgeTouch t) (k : Nat) (hk : k < 48) : t.gf F.FAB_FAWN_RATE_RATE k = s.gf F.FAB_FAWN_RATE_RATE k := by
    refine Mach.onlyIn_gf h _ _ _ ?_
    simp [Footprint.covers, judgeTouch, Reg.at_, F.FAB_FAWN_RATE_RATE, R.FAB_FAWN_RATE]
    omega
  simp only [Bool.false_eq_true, if_false]
  split
  · obtain ⟨u, hu⟩ : ∃ u, u = (judged.sf F.FAB_VFLOOR_NOW now).evt F.FAB_IBEX_EVT_FLOOR := ⟨_, rfl⟩
    have huat : u.readAt s.vddNow s.rend.ibex.tj := hu ▸ hjat
    have hufloor : u.gf F.FAB_VFLOOR_NOW = now := by
      rw [hu, Mach.evt, Mach.gf_sf_ne _ _ (by decide)]
      exact Mach.gf_sf_of_lt _ _ _ (by decide) hnow
    have hurate (k : Nat) (hk : k < 48) : u.gf F.FAB_FAWN_RATE_RATE k = s.gf F.FAB_FAWN_RATE_RATE k := by
      have hat : R.FAB_IBEX_EVT.at_ 0 0 ≠ R.FAB_FAWN_RATE.at_ k 0 ∧ R.FAB_VFLOOR.at_ 0 0 ≠ R.FAB_FAWN_RATE.at_ k 0 := by
        simp only [Reg.at_, R.FAB_IBEX_EVT, R.FAB_FAWN_RATE, R.FAB_VFLOOR]
        omega
      rw [hu, Mach.evt, Mach.gf_sf_ne _ _ hat.1, Mach.gf_sf_ne _ _ hat.2]
      exact hrate judged hjonly k hk
    rw [← hu]
    have hfollow : u.onlyIn judgeTouch u.lowTierFollow ∧ u.lowTierFollow.readAt s.vddNow s.rend.ibex.tj := by
      unfold Mach.lowTierFollow
      split
      · exact ⟨u.moveTier_onlyIn _ _, Mach.moveTier_readAt huat _ _⟩
      · exact ⟨u.onlyIn_refl _, huat⟩
    refine ⟨hfollow.2, ?_, fun k hk => ?_⟩
    · rw [Mach.onlyIn_gf hfollow.1 _ _ _ (by decide), hufloor]
      omega
    · refine (Mach.onlyIn_gf hfollow.1 _ _ _ ?_).trans (hurate k hk)
      simp [Footprint.covers, judgeTouch, Reg.at_, F.FAB_FAWN_RATE_RATE, R.FAB_FAWN_RATE]
      omega
  · exact ⟨hjat, le_of_eq hwas.symm, hrate judged hjonly⟩

/-- The rates of a read put into their registers. -/
def Mach.putRates (s : Mach) (r : List Nat) : Mach := s.each (upto 48) (fun s k => s.wr R.FAB_FAWN_RATE (r.getD k 0 % 2 ^ 24) k)

theorem Mach.putRates_rend (s : Mach) (r : List Nat) : (s.putRates r).rend = s.rend := by
  unfold Mach.putRates
  refine Mach.each_keeps (fun t => t.rend = s.rend) _ (fun t k ht => ?_) _ _ rfl
  exact ht

theorem Mach.putRates_floor (s : Mach) (r : List Nat) : (s.putRates r).gf F.FAB_VFLOOR_NOW = s.gf F.FAB_VFLOOR_NOW := by
  unfold Mach.putRates
  refine Mach.each_keeps (fun t => t.gf F.FAB_VFLOOR_NOW = s.gf F.FAB_VFLOOR_NOW) _ (fun t k ht => (Mach.gf_wr_ne _ _ ?_).trans ht) _ _ rfl
  simp only [Reg.at_, F.FAB_VFLOOR_NOW, R.FAB_VFLOOR, R.FAB_FAWN_RATE]
  omega

theorem Mach.putRates_rate (s : Mach) (r : List Nat) {k : Nat} (hk : k < 48) :
    (s.putRates r).gf F.FAB_FAWN_RATE_RATE k = r.getD k 0 % 2 ^ 24 := by
  have hrd : (s.putRates r).rd R.FAB_FAWN_RATE k = r.getD k 0 % 2 ^ 24 % 2 ^ 32 := by
    rw [Mach.putRates, Mach.rd_each_wr _ _ (by decide), if_pos (by simpa [upto] using hk)]
  show bits ((s.putRates r).rd R.FAB_FAWN_RATE k) 0 24 = _
  rw [hrd, bits_eq]
  omega

/-- A read of ACTIVE or IDLE stores its rates, and is judged where the birth record is good. -/
theorem fawnRead_spec {s : Mach} (r : List Nat) (hpow : s.power ≤ 1) :
    (∀ k, k < 48 → (fawnRead r s).gf F.FAB_FAWN_RATE_RATE k = r.getD k 0 % 2 ^ 24)
    ∧ (s.rend.ibex.birthBad = false → (fawnRead r s).rend.ibex.vRead = s.vddNow ∧ (fawnRead r s).rend.ibex.tjRead = s.rend.ibex.tj
        ∧ s.gf F.FAB_VFLOOR_NOW ≤ (fawnRead r s).gf F.FAB_VFLOOR_NOW) := by
  have hrow : fawnRead r s = if (s.putRates r).rend.ibex.birthBad then s.putRates r else (s.putRates r).fawnJudge r false := by
    rw [fawnRead, if_neg (Nat.not_lt.2 hpow)]
    rfl
  obtain ⟨u, hu⟩ : ∃ u, u = s.putRates r := ⟨_, rfl⟩
  have hrend : u.rend = s.rend := hu ▸ s.putRates_rend r
  have hfloor : u.gf F.FAB_VFLOOR_NOW = s.gf F.FAB_VFLOOR_NOW := hu ▸ s.putRates_floor r
  have hvdd : u.vddNow = s.vddNow := by rw [Mach.vddNow, Mach.vddNow, hrend]
  obtain ⟨⟨hv, htj⟩, hle, hkeep⟩ := u.fawnJudge_spec r
  rw [hrow, ← hu]
  refine ⟨fun k hk => ?_, fun hgood => ?_⟩
  · have hrate : u.gf F.FAB_FAWN_RATE_RATE k = r.getD k 0 % 2 ^ 24 := hu ▸ s.putRates_rate r hk
    split
    · exact hrate
    · rw [hkeep k hk, hrate]
  · rw [hrend, hgood, if_neg (by decide)]
    exact ⟨hv.trans hvdd, htj.trans (by rw [hrend]), hfloor ▸ hle⟩

/-! ## The ageing log, approvals and steps -/

theorem Mach.gf_onRend (s : Mach) (f : Rend → Rend) (x : Fld) (i j : Nat) : (s.onRend f).gf x i j = s.gf x i j := rfl

/-- The day's record goes to its slot with its CRC, and the next day starts with totals of zero. -/
theorem Mach.logWrite_spec (s : Mach) (next : Nat) : ∃ b : List Byte, b.length = 28
    ∧ (s.logWrite next).mem = memPut s.mem (logAddr s.rend.log.count) (b ++ toLE 4 (crc32c b))
    ∧ (s.logWrite next).gf F.FAB_LOG_STAT_COUNT = Nat.min 4096 (s.gf F.FAB_LOG_STAT_COUNT + 1)
    ∧ (s.logWrite next).rend.log.day = next ∧ (s.logWrite next).rend.log.count = (s.rend.log.count + 1) % 4096
    ∧ (s.logWrite next).rend.log.actTicks = 0 := by
  unfold Mach.logWrite
  extract_lets g min_ deg age n emerg body stored counted
  have hlen : body.length = 28 := by simp [body, deg]
  clear_value body
  refine ⟨body, hlen, ?_, ?_, ?_, ?_, ?_⟩
  · simp only [Mach.onRend, counted, Mach.sf_mem, stored, Mach.mwr, g]
  · rw [Mach.gf_onRend]
    simp only [counted]
    rw [Mach.gf_sf_disjoint (f := F.FAB_LOG_STAT_NEWEST) (g := F.FAB_LOG_STAT_COUNT) _ _ _ _ rfl (by decide) (by decide),
      Mach.gf_sf_of_lt _ _ _ (by decide) (Nat.lt_of_le_of_lt (Nat.min_le_left ..) (by decide))]
    rfl
  · simp only [Mach.onRend]
  · simp only [Mach.onRend, g]
  · simp only [Mach.onRend]
    rfl

/-- A move to a tier above M1 takes the request with it. -/
theorem Mach.moveTier_ibex {s : Mach} {n : Nat} (h : 2 ≤ n) (b : Bool) :
    (s.moveTier n b).rend.ibex.moveTo = some (n, b) ∧ (s.moveTier n b).rend.ibex.req = none := by
  unfold Mach.moveTier
  rw [decide_eq_false (Nat.not_lt.2 h)]
  exact ⟨rfl, rfl⟩

/-- The word that APPROVE holds after a write that grants nothing. -/
def approveWord (old v : Nat) : Nat := ((old ||| v) &&& 3) ||| (v &&& 0x300)

/-- A pending request with an approval, standing or once, is granted. -/
theorem Mach.tryGrant_granted {s : Mach} {t : Nat} {e : Bool} (hreq : s.rend.ibex.req = some (t, e)) (ht : t = 2 ∨ t = 3)
    (happ : bitOf (s.rd R.FAB_IBEX_APPROVE) (t - 2) = true ∨ bitOf (s.rd R.FAB_IBEX_APPROVE) (t + 6) = true) :
    s.tryGrant.rend.ibex.moveTo = some (t, e) ∧ s.tryGrant.rend.ibex.req = none := by
  have hon (lo : Nat) : s.on ⟨R.FAB_IBEX_APPROVE, lo, 1⟩ = bitOf (s.rd R.FAB_IBEX_APPROVE) lo := by
    have hlt : bits (s.rd R.FAB_IBEX_APPROVE) lo 1 < 2 := bits_lt ..
    simp only [Mach.on, Mach.gf, bitOf_eq_bits]
    obtain h | h : bits (s.rd R.FAB_IBEX_APPROVE) lo 1 = 0 ∨ bits (s.rd R.FAB_IBEX_APPROVE) lo 1 = 1 := by omega
    · rw [h]; rfl
    · rw [h]; rfl
  have hmove (u : Mach) : (u.moveTier t e).rend.ibex.moveTo = some (t, e) ∧ (u.moveTier t e).rend.ibex.req = none :=
    Mach.moveTier_ibex (by omega) e
  unfold Mach.tryGrant
  rw [hreq]
  obtain rfl | rfl := ht
  · simp only [F.FAB_IBEX_APPROVE_STANDING_M2, F.FAB_IBEX_APPROVE_ONCE_M2, hon, if_true]
    split
    · exact hmove _
    · rename_i hno
      simp only [Bool.or_eq_true, not_or] at hno
      rw [if_pos (happ.resolve_right hno.2)]
      exact hmove _
  · simp only [F.FAB_IBEX_APPROVE_STANDING_M3, F.FAB_IBEX_APPROVE_ONCE_M3, hon, if_false, show ¬ (3 = 2) by decide]
    split
    · exact hmove _
    · rename_i hno
      simp only [Bool.or_eq_true, not_or] at hno
      rw [if_pos (happ.resolve_right hno.2)]
      exact hmove _

/-- An approval written is in the word APPROVE holds. -/
theorem bitOf_approveWord (old : Nat) {v t : Nat} (ht : t = 2 ∨ t = 3) (h : bitOf v (t - 2) = true ∨ bitOf v (t + 6) = true) :
    bitOf (approveWord old v % 2 ^ 32) (t - 2) = true ∨ bitOf (approveWord old v % 2 ^ 32) (t + 6) = true := by
  rw [bitOf_mod_two_pow _ (by omega), bitOf_mod_two_pow _ (by omega)]
  simp only [approveWord, bitOf_or, bitOf_and]
  obtain rfl | rfl := ht
  · have h0 : bitOf 3 0 = true ∧ bitOf 0x300 8 = true := by decide
    obtain h | h : bitOf v 0 = true ∨ bitOf v 8 = true := h <;> simp [h, h0]
  · have h1 : bitOf 3 1 = true ∧ bitOf 0x300 9 = true := by decide
    obtain h | h : bitOf v 1 = true ∨ bitOf v 9 = true := h <;> simp [h, h1]

theorem Mach.gf_slackLast_of_min (s : Mach) (v k e : Nat) :
    (s.sf F.FAB_ENG_SLACK_MIN v k).gf F.FAB_ENG_SLACK_LAST e = s.gf F.FAB_ENG_SLACK_LAST e := by
  by_cases hk : k = e
  · rw [hk]
    exact Mach.gf_sf_disjoint _ _ _ _ rfl (by decide) (by decide)
  · refine Mach.gf_sf_ne _ _ ?_
    simp only [Reg.at_, F.FAB_ENG_SLACK_MIN, F.FAB_ENG_SLACK_LAST, R.FAB_ENG_SLACK]
    omega

theorem Mach.higherTier_low {s : Mach} (h : s.tierNow < 2) : s.higherTier = s := by
  obtain h0 | h1 : s.tierNow = 0 ∨ s.tierNow = 1 := by omega
  · simp only [Mach.higherTier, h0, ite_self]
  · simp only [Mach.higherTier, h1, ite_self]

/-- Settles O18. -/
theorem supplyAgeingAndPlanning : Obligations.SupplyAgeingAndPlanning := by
  unfold Obligations.SupplyAgeingAndPlanning
  refine ⟨?_, ?_, ?_, ?_, ?_, ?_, ?_, ?_, ?_, ?_, ?_, ?_, ?_, ?_, ?_, ?_, ?_, ?_, ?_, ?_⟩
  · intro s t h
    have hmax (a : Int) : (if a < t then t else a) = max a t := by
      rw [max_def]
      split <;> split <;> omega
    exact ⟨_, take_gives h rfl rfl, rfl, hmax _, hmax _, rfl⟩
  · intro s r h hpow
    obtain ⟨hrate, hjudged⟩ := fawnRead_spec r hpow
    exact ⟨_, take_gives h rfl rfl, hrate, hjudged⟩
  · exact fun s r h hp => take_gives h rfl (by rw [fawnRead, if_pos hp])
  · exact fun s h hbusy => take_gives h rfl (by simp only [avsWrite, hbusy, Bool.not_true, Bool.false_eq_true, if_false, if_true])
  · intro s h hbusy hfail hfew
    have hfew' : s.m.rend.ibex.fails + 1 < 3 := by omega
    exact take_gives h rfl (by simp only [avsWrite, hbusy, hfail, hfew', Bool.not_true, Bool.false_eq_true, if_false, if_true, Mach.evt_tm, Mach.bump_tm])
  · intro s h hbusy hfail hthird
    exact take_gives h rfl (by simp only [avsWrite, hbusy, hfail, hthird, Bool.not_true, Bool.false_eq_true, if_false,
      show ¬ 2 + 1 < 3 by decide])
  · intro s h hbusy hfail
    exact take_gives h rfl (by simp only [avsWrite, hbusy, hfail, Bool.not_true, Bool.false_eq_true, if_false, if_true])
  · exact fun s b h hbusy => take_gives h rfl (by simp only [avsWrite, hbusy, Bool.not_false, if_true])
  · intro s h hno
    refine take_gives h rfl ?_
    unfold ibexStuck
    split
    · rename_i a ha
      obtain hnone | hstuck := hno
      · exact absurd (ha.symm.trans hnone) (by simp)
      · rw [if_pos (by simp [hstuck])]
    · rfl
  · exact fun s a h ha hlt => take_gives h rfl (by simp only [ibexStuck, ha, decide_eq_true hlt, Bool.or_true, if_true])
  · exact fun s a h ha hstuck hle => take_gives h rfl (by
      simp only [ibexStuck, ha, hstuck, decide_eq_false (Nat.not_lt.2 hle), Bool.or_self, Bool.false_eq_true, if_false])
  · intro s h hphase hday
    obtain ⟨b, hlen, hmem, hcount, hday', hslot, hticks⟩ := s.m.logWrite_spec (s.m.rtcNow / 86400)
    refine ⟨s.m.logWrite (s.m.rtcNow / 86400), b, hlen, take_gives h rfl ?_, hmem, hcount, hday', hslot, hticks⟩
    simp only [ageingLogWrite, hphase, decide_eq_true hday, decide_true, Bool.and_self, if_true]
  · intro s h hno
    refine take_gives h rfl ?_
    rw [ageingLogWrite, if_neg]
    simp only [Bool.and_eq_true, decide_eq_true_eq]
    omega
  · exact fun s v hv h hbit => take_gives h (by simpa using hv) (by simp only [fabMinClr, hbit, Bool.not_false, if_true])
  · intro s v hv h hbit
    obtain ⟨u, hu⟩ : ∃ u, u = s.m.each (upto engines) (fun s e => s.sf F.FAB_ENG_SLACK_MIN 0x7FFF e) := ⟨_, rfl⟩
    have hregs : s.m.registersOnly u := by
      rw [hu]
      exact Mach.each_keeps (fun t => s.m.registersOnly t) _ (fun t k ht => Mach.registersOnly_sf _ _ _ _ ht) _ _ s.m.registersOnly_refl
    have hrow : fabMinClr v s.m = u.wr R.FAB_SLACK_MIN 0x7FFF := by
      rw [hu, fabMinClr, hbit]
      rfl
    have hat (e : Nat) : R.FAB_SLACK_MIN.at_ 0 0 ≠ R.FAB_ENG_SLACK.at_ e 0 := by
      simp only [Reg.at_, R.FAB_SLACK_MIN, R.FAB_ENG_SLACK]
      omega
    refine ⟨_, take_gives h (by simpa using hv) hrow, fun e he => ?_, Mach.rd_wr_self .., fun e he => ?_, Mach.registersOnly_wr _ _ _ _ hregs⟩
    · rw [Mach.gf_wr_ne _ _ (hat e), hu, Mach.gf_each_sf _ (by decide) (by decide) (by decide), if_pos (by simpa [upto, engines] using he)]
    · rw [Mach.gf_wr_ne _ _ (hat e), hu]
      exact Mach.each_keeps (fun t => t.gf F.FAB_ENG_SLACK_LAST e = s.m.gf F.FAB_ENG_SLACK_LAST e) _
        (fun t k ht => (Mach.gf_slackLast_of_min t _ k e).trans ht) _ _ rfl
  · intro s v hv h hreq hbit
    refine take_gives h (by simpa using hv) ?_
    simp only [ibexApproveWrite, hbit, Bool.false_eq_true, if_false, Mach.tryGrant, Mach.wr_rend, hreq]
  · intro s v hv h hbit
    have hrow : ibexApproveWrite v s.m = (s.m.wr R.FAB_IBEX_APPROVE (approveWord (s.m.rd R.FAB_IBEX_APPROVE) v)).dropReq := by
      simp only [ibexApproveWrite, hbit, if_true]
      rfl
    exact ⟨_, take_gives h (by simpa using hv) hrow, rfl, Mach.rd_wr_self ..⟩
  · intro s v t e hv h hreq ht hbit happ
    obtain ⟨u, hu⟩ : ∃ u, u = s.m.wr R.FAB_IBEX_APPROVE (approveWord (s.m.rd R.FAB_IBEX_APPROVE) v) := ⟨_, rfl⟩
    have hrow : ibexApproveWrite v s.m = u.tryGrant := by
      rw [hu]
      simp only [ibexApproveWrite, hbit, Bool.false_eq_true, if_false, approveWord]
    refine ⟨_, take_gives h (by simpa using hv) hrow, Mach.tryGrant_granted (by rw [hu]; exact hreq) ht ?_⟩
    rw [hu, Mach.rd_wr_self]
    exact bitOf_approveWord _ ht happ
  · intro s h hno
    refine take_gives h rfl ?_
    rw [ibexEvaluate, if_pos]
    obtain hp | ht | hp := hno
    · simp [hp]
    · simp [ht]
    · simp [hp]
  · intro s x h hpow htick hphase hfail hbirth hemerg hhold hdeg hret hmeas hx hv htier
    obtain ⟨u, hu⟩ : ∃ u, u = s.m.onIbex (fun q => { q with meas := none }) := ⟨_, rfl⟩
    have hlow : u.stepUp.tierNow < 2 := by
      rw [Mach.tierNow, Mach.stepUp, Mach.evt, Mach.gf_sf_ne _ _ (by decide), Mach.bump, Mach.gf_wr_ne _ _ (by decide), hu]
      exact htier
    have hrow : ibexEvaluate s.m = u.stepUp := by
      rw [← Mach.higherTier_low hlow, hu]
      have hgo : (s.m.power != 0 || !s.m.tm.ticking || s.m.phase != 6) = false := by simp [hpow, htick, hphase]
      simp only [ibexEvaluate, hgo, hfail, hbirth, hemerg, hhold, hdeg, hret, hmeas, Bool.or_self, Bool.false_eq_true, if_false]
      cases hp : s.m.pred s.m.tierNow s.m.vddNow s.m.tjNow with
      | none => simp only [hx, hv, if_true]
      | some y => simp only [lt_of_le_of_lt (min_le_right y x) hx, hv, if_true]
    refine ⟨_, take_gives h rfl hrow, ?_, ?_, ?_, ?_, Mach.on_evt_self _ 0 rfl (by decide)⟩
    · rw [hu]; rfl
    · rfl
    · rw [hu]; rfl
    · refine (Mach.rd_sf_ne (f := F.FAB_IBEX_EVT_STEP) _ _ (by decide)).trans ((Mach.rd_bump_self ..).trans ?_)
      rw [hu]
      rfl

end Sys2Proof.Machine
end

section
/-! PROOF. Ends of fades and of waits (R20, R21, R168, R178, R184 to R186, R190). -/
namespace Sys2Proof.Machine

/-- Two changes of a feed that agree on it are one. -/
theorem Mach.onFeed_congr {s : Mach} {f : Nat} {g h : Feed → Feed} (e : g (s.feed f) = h (s.feed f)) : s.onFeed f g = s.onFeed f h := by
  have e' : g (mget Feed.init s.rend.feeds f) = h (mget Feed.init s.rend.feeds f) := e
  simp only [Mach.onFeed, Mach.onRend, mmod, e']

theorem Route.boundary_of_done {r : Route} (hold : r.old.isSome) (hpos : 64 ≤ r.pos) : r.boundary = ({ r with old := none, pos := 0 } : Route).begin := by
  rw [Route.boundary, Route.finish, if_pos ⟨hold, hpos⟩]

/-- Settles O19. -/
theorem fadesAndWaitsEnd : Obligations.FadesAndWaitsEnd := by
  unfold Obligations.FadesAndWaitsEnd
  refine ⟨?_, ?_, ?_, ?_, ?_, ?_, ?_, ?_, ?_, ?_, ?_, ?_, ?_, ?_, ?_⟩
  · exact fun s i hi h => take_gives h (by simp; omega) (by rw [routeXfadeEnd, if_pos hi])
  · intro s i hi h
    refine ⟨_, take_gives h (by simp; omega) (by rw [routeXfadeEnd, if_neg (by omega), if_pos (by omega), Nat.add_sub_cancel_left]), ?_, fun j hj => ?_⟩
    · exact mget_mput_self ..
    · exact mget_mput_ne _ _ _ (Ne.symm hj)
  · intro r hold hpos hpend
    rw [Route.boundary_of_done hold hpos]
    simp only [Route.begin, hpend]
  · intro r v b hold hpos hpend
    rw [Route.boundary_of_done hold hpos]
    refine ⟨?_, ?_, ?_, ?_⟩ <;> simp only [Route.begin, hpend, Side.start]
  · intro s f c hf h hxf hpos
    exact take_gives h (by simpa using hf) (by simp only [bankXfadeEnd, hxf, if_neg (Nat.not_lt.2 hpos)])
  · intro s f o p hf h hxf hp hpend
    refine take_gives h (by simpa using hf) ?_
    rw [trimXfadeEnd, if_pos hf]
    refine Mach.onFeed_congr ?_
    simp only [Feed.trimEnd, hxf, hpend, if_neg (Nat.not_lt.2 hp)]
  · intro s f o p t hf h hxf hp hpend ht
    refine take_gives h (by simpa using hf) ?_
    rw [trimXfadeEnd, if_pos hf]
    refine Mach.onFeed_congr ?_
    simp only [Feed.trimEnd, hxf, hpend, if_neg (Nat.not_lt.2 hp), Feed.setTrim, ht, if_false]
  · intro s f n i z hf h hramp hwait hlt
    refine take_gives h (by simpa using hf) ?_
    rw [zeroCrossing, if_pos hf]
    refine Mach.onFeed_congr ?_
    simp only [Bool.false_eq_true, if_false, hramp, hwait, hlt, if_true]
  · intro s f n i z hf h hramp hwait hlt
    refine take_gives h (by simpa using hf) ?_
    rw [zeroCrossing, if_pos hf]
    refine Mach.onFeed_congr ?_
    simp only [if_true, hramp, hwait, hlt]
  · intro s f n i z hf h hramp hwait hle
    refine take_gives h (by simpa using hf) ?_
    simp only [zcTimeout, Bool.false_eq_true, if_false, hramp, hwait, hle, if_true]
    refine congrArg (fun m : Mach => (m.bump R.FEED_ZC_TIMEOUT).evt F.FEED_OUT_EVT_ZC_TIMEOUT) (Mach.onFeed_congr ?_)
    rfl
  · intro s f n i z hf h hramp hwait hle
    refine take_gives h (by simpa using hf) ?_
    simp only [zcTimeout, if_true, hramp, hwait, hle]
    refine congrArg (fun m : Mach => (m.bump R.FEED_ZC_TIMEOUT).evt F.FEED_OUT_EVT_ZC_TIMEOUT) (Mach.onFeed_congr ?_)
    rfl
  · intro s f o n i hf h hramp hle hpend
    refine take_gives h (by simpa using hf) ?_
    rw [gainRampEnd, if_pos hf]
    refine Mach.onFeed_congr ?_
    simp only [Bool.false_eq_true, if_false, hramp, hle, if_true, hpend, Option.bind_none]
  · intro s f o n i v z hf h hramp hle hpend hne
    refine take_gives h (by simpa using hf) ?_
    rw [gainRampEnd, if_pos hf]
    refine Mach.onFeed_congr ?_
    simp only [Bool.false_eq_true, if_false, hramp, hle, if_true, hpend, Option.bind_some, hne]
  · intro s f o n i v z hf h hramp hle hpend hne
    refine take_gives h (by simpa using hf) ?_
    rw [gainRampEnd, if_pos hf]
    refine Mach.onFeed_congr ?_
    simp only [if_true, hramp, hle, hpend, Option.bind_some, hne, if_false]
  · intro s f a b c i hf h hxf hle
    refine take_gives h (by simpa using hf) ?_
    rw [laXfadeEnd, if_pos hf]
    refine Mach.onFeed_congr ?_
    simp only [Lim.boundary, hxf, hle, if_true]

end Sys2Proof.Machine
end

section
/-! PROOF. Converters, writes behind, prefetch and host-object time-outs (R24, R61, R118, R146, R172, R203). -/
namespace Sys2Proof.Machine

theorem Mach.chan_onChan_self (s : Mach) (i : Nat) (f : Chan → Chan) : (s.onChan i f).chan i = f (s.chan i) := mget_mput_self ..

theorem Mach.chan_onChan_ne (s : Mach) {i j : Nat} (f : Chan → Chan) (h : j ≠ i) : (s.onChan i f).chan j = s.chan j :=
  mget_mput_ne _ _ _ (Ne.symm h)

/-- A change that does nothing to a channel does nothing to any. -/
theorem Mach.chan_onChan_same {s : Mach} {i : Nat} {f : Chan → Chan} (h : f (s.chan i) = s.chan i) (j : Nat) :
    (s.onChan i f).chan j = s.chan j := by
  by_cases hj : j = i
  · rw [hj, s.chan_onChan_self, h]
  · exact s.chan_onChan_ne _ hj

/-- A channel that exists has a number of the part's. -/
theorem Mach.lt_of_chanOk {s : Mach} {i : Nat} (h : s.chanOk i = true) : i < 640 := by
  have hobj : s.variant.objects ≤ 512 := by cases s.variant <;> decide
  simp only [Mach.chanOk, Bool.or_eq_true, Bool.and_eq_true, decide_eq_true_eq] at h
  omega

/-- Settles O20. -/
theorem convertersAndWriteBehind : Obligations.ConvertersAndWriteBehind := by
  unfold Obligations.ConvertersAndWriteBehind
  refine ⟨?_, ?_, ?_, ?_, ?_, ?_, ?_, ?_, ?_, ?_, ?_, ?_, ?_, ?_, ?_, ?_, ?_, ?_, ?_⟩
  · intro s i hok h hst hbyp
    refine ⟨_, take_gives h (by simpa using Mach.lt_of_chanOk hok) (by rw [asrcSettling, if_pos hok]), ?_, fun j hj => s.m.chan_onChan_ne _ hj⟩
    rw [s.m.chan_onChan_self]
    simp [hst, hbyp]
  · intro s i d hok h hold hst hbyp
    refine ⟨_, take_gives h (by simpa using Mach.lt_of_chanOk hok) (by rw [asrcSettling, if_pos hok]), ?_, fun j hj => s.m.chan_onChan_ne _ hj⟩
    rw [s.m.chan_onChan_self]
    simp [hold, hst, hbyp]
  · intro s i hok h hst
    refine ⟨_, take_gives h (by simpa using Mach.lt_of_chanOk hok) (by rw [asrcLocked, if_pos hok]), ?_, fun j hj => s.m.chan_onChan_ne _ hj⟩
    rw [s.m.chan_onChan_self]
    simp [hst]
  · intro s i d hok h hold hst
    refine ⟨_, take_gives h (by simpa using Mach.lt_of_chanOk hok) (by rw [asrcLocked, if_pos hok]), ?_, fun j hj => s.m.chan_onChan_ne _ hj⟩
    rw [s.m.chan_onChan_self]
    simp [hold, hst]
  · intro s i b hi h hno
    exact ⟨take_gives h (by simpa using hi) (by rw [asrcSettling, hno, if_neg (by decide)]),
      take_gives h (by simpa using hi) (by rw [asrcLocked, hno, if_neg (by decide)])⟩
  · intro s i hok h hst
    refine ⟨_, take_gives h (by simpa using Mach.lt_of_chanOk hok) (by rw [asrcSettling, if_pos hok]), Mach.chan_onChan_same ?_⟩
    obtain hst | hbyp := hst
    · simp [hst]
    · simp [hbyp]
  · intro s i hok h hst
    refine ⟨_, take_gives h (by simpa using Mach.lt_of_chanOk hok) (by rw [asrcLocked, if_pos hok]), Mach.chan_onChan_same ?_⟩
    simp [hst]
  · intro s i hok h hold
    refine ⟨_, take_gives h (by simpa using Mach.lt_of_chanOk hok) (by rw [asrcSettling, if_pos hok]), Mach.chan_onChan_same ?_⟩
    simp only [if_true, hold, Option.map_none]
    rw [← hold]
  · intro s i hok h hold
    refine ⟨_, take_gives h (by simpa using Mach.lt_of_chanOk hok) (by rw [asrcLocked, if_pos hok]), Mach.chan_onChan_same ?_⟩
    simp only [if_true, hold, Option.map_none]
    rw [← hold]
  · intro s i hi h hconv
    refine take_gives h (by simp; omega) ?_
    rw [convLocked, if_neg (by omega)]
    exact if_pos (by simpa using hconv)
  · intro s i hi h hno
    refine take_gives h (by simp; omega) ?_
    unfold convLocked
    split
    · rfl
    · rename_i hlt
      exact if_neg (by simpa using hno.resolve_left hlt)
  · intro s o t ho h hmem
    exact take_gives h (by simpa using ho) (by rw [bulkWriteLost, if_pos (by simpa using hmem)])
  · intro s o t ho h hmem
    exact take_gives h (by simpa using ho) (by rw [bulkWriteLost, if_neg (by simpa using hmem)])
  · intro s f b hf h hmem
    exact take_gives h (by simpa using hf) (by rw [spectrumWriteLost, if_pos (by simpa using hmem)])
  · intro s f b hf h hmem
    exact take_gives h (by simpa using hf) (by rw [spectrumWriteLost, if_neg (by simpa using hmem)])
  · intro s o hv ho h hhost htimed hpend hhold
    refine take_gives h (by simpa using ho) ?_
    rw [hpTimeout, if_neg]
    simp [hv, hhost, htimed, hpend, hhold]
  · intro s o ho h hno
    refine take_gives h (by simpa using ho) ?_
    rw [hpTimeout, if_pos]
    obtain e | e | e | e | e := hno <;> simp [e]
  · intro s p hp h hen hlen hfetch
    refine take_gives h (by simpa using hp) ?_
    rw [playPrefetch, if_neg (by simp [hen, hp])]
    exact if_neg (by simp [hlen, hfetch])
  · intro s p hp h hno
    refine take_gives h (by simpa using hp) ?_
    unfold playPrefetch
    split
    · rfl
    · rename_i hgo
      simp only [Bool.or_eq_true, not_or, decide_eq_true_eq, Bool.not_eq_true', Bool.not_eq_false] at hgo
      refine if_pos ?_
      obtain e | e | e := hno
      · exact absurd hgo.2 (by simp [e])
      · simp [e]
      · simp [e]

end Sys2Proof.Machine
end

section
/-! PROOF. MUTE_N, selectors, ring controls, commits and the regions of DRAM (R24, R53 to R57, R116, R149, R159, R197, R200 to R203). -/
namespace Sys2Proof.Machine

/-! ## The mute -/

theorem Mach.on_sf_zero (s : Mach) {f : Fld} (i j : Nat) (h : f.lo + f.len ≤ 32) : (s.sf f 0 i j).on f i j = false := by
  rw [Mach.on, Mach.gf_sf_self _ _ _ _ _ h, Nat.zero_mod]
  rfl

theorem Mach.on_sf_one (s : Mach) {f : Fld} (i j : Nat) (hlen : f.len = 1) (h : f.lo + f.len ≤ 32) : (s.sf f 1 i j).on f i j = true := by
  rw [Mach.on, Mach.gf_sf_self _ _ _ _ _ h, hlen]
  rfl

section
variable (s : Mach)

theorem Mach.muteFree_active : s.muteFree.on F.FEED_HWMUTE_STAT_ACTIVE = false := by
  rw [Mach.muteFree, Mach.evt, Mach.on_sf_ne _ _ (by decide),
    Mach.on_sf_disjoint (f := F.FEED_HWMUTE_STAT_LATCHED) (g := F.FEED_HWMUTE_STAT_ACTIVE) _ _ _ _ rfl (by decide) (by decide)]
  exact Mach.on_sf_zero _ 0 0 (by decide)

theorem Mach.muteFree_latched : s.muteFree.on F.FEED_HWMUTE_STAT_LATCHED = false := by
  rw [Mach.muteFree, Mach.evt, Mach.on_sf_ne _ _ (by decide)]
  exact Mach.on_sf_zero _ 0 0 (by decide)

theorem Mach.muteFree_pin : s.muteFree.on F.FEED_HWMUTE_STAT_PIN = s.on F.FEED_HWMUTE_STAT_PIN := by
  rw [Mach.muteFree, Mach.evt, Mach.on_sf_ne _ _ (by decide),
    Mach.on_sf_disjoint (f := F.FEED_HWMUTE_STAT_LATCHED) (g := F.FEED_HWMUTE_STAT_PIN) _ _ _ _ rfl (by decide) (by decide),
    Mach.on_sf_disjoint (f := F.FEED_HWMUTE_STAT_ACTIVE) (g := F.FEED_HWMUTE_STAT_PIN) _ _ _ _ rfl (by decide) (by decide)]

theorem Mach.muteFree_evt : s.muteFree.on F.FEED_OUT_EVT_MUTE_REL = true := Mach.on_evt_self _ 0 rfl (by decide)

theorem Mach.muteFree_cfg : s.muteFree.rd R.FEED_HWMUTE_CFG = s.rd R.FEED_HWMUTE_CFG := by
  rw [Mach.muteFree, Mach.evt, Mach.rd_sf_ne _ _ (by decide), Mach.rd_sf_ne _ _ (by decide), Mach.rd_sf_ne _ _ (by decide)]

theorem Mach.muteFree_registersOnly {t : Mach} (h : t.registersOnly s) : t.registersOnly s.muteFree :=
  Mach.registersOnly_sf _ _ _ _ (Mach.registersOnly_sf _ _ _ _ (Mach.registersOnly_sf _ _ _ _ h))

end

/-! ## Regions of DRAM -/

/-- A region is measured against DRAM and the other regions, not against its own base. -/
theorem Mach.regionOk_of_bulkBase (s : Mach) (v a n : Nat) : (s.wr R.RENDER_BULK_BASE_HI v).regionOk 0 a n = s.regionOk 0 a n := by
  simp (disch := decide) only [Mach.regionOk, Mach.inDram, Mach.dramSize, Mach.corrOn, Mach.corrBase, Mach.strmOn, Mach.strmBase, Mach.gf_wr_ne,
    Mach.on_wr_ne, beq_self_eq_true, Bool.true_or]
  rfl

theorem Mach.regionOk_of_corrBase (s : Mach) (v a n : Nat) : (s.wr R.FEED_CORR_BASE_HI v).regionOk 1 a n = s.regionOk 1 a n := by
  simp (disch := decide) only [Mach.regionOk, Mach.inDram, Mach.dramSize, Mach.bulkOn, Mach.bulkBase, Mach.strmOn, Mach.strmBase, Mach.gf_wr_ne,
    Mach.on_wr_ne, beq_self_eq_true, Bool.true_or]
  rfl

/-- Settles O21. -/
theorem muteRingAndCommitWrites : Obligations.MuteRingAndCommitWrites := by
  unfold Obligations.MuteRingAndCommitWrites
  refine ⟨?_, ?_, ?_, ?_, ?_, ?_, ?_, ?_, ?_, ?_, ?_, ?_, ?_, ?_, ?_, ?_, ?_, ?_, ?_, ?_, ?_⟩
  · intro s h hen hpin
    have hrow : muteNLow s.m = (((s.m.onRend (fun q => { q with pinLow := true })).sf F.FEED_HWMUTE_STAT_PIN 1).sf F.FEED_HWMUTE_STAT_ACTIVE 1).evt
        F.FEED_OUT_EVT_MUTE_IN := if_neg (by rw [show (s.m.onRend _).on F.FEED_HWMUTE_CFG_EN = _ from hen, show (s.m.onRend _).on F.FEED_HWMUTE_STAT_PIN = _ from hpin]; decide)
    refine ⟨_, take_gives h rfl hrow, rfl, ?_, ?_, Mach.on_evt_self _ 0 rfl (by decide)⟩
    · rw [Mach.evt, Mach.on_sf_ne _ _ (by decide),
        Mach.on_sf_disjoint (f := F.FEED_HWMUTE_STAT_ACTIVE) (g := F.FEED_HWMUTE_STAT_PIN) _ _ _ _ rfl (by decide) (by decide)]
      exact Mach.on_sf_one _ 0 0 rfl (by decide)
    · rw [Mach.evt, Mach.on_sf_ne _ _ (by decide)]
      exact Mach.on_sf_one _ 0 0 rfl (by decide)
  · intro s h hno
    refine take_gives h rfl (if_pos ?_)
    rw [Bool.or_eq_true, Bool.not_eq_true']
    exact hno
  · intro s h hsafe hen hpin hlatch
    obtain ⟨t, ht⟩ : ∃ t, t = s.m.onRend (fun q => { q with pinLow := false }) := ⟨_, rfl⟩
    have hsafe' : t.safe = false := ht ▸ hsafe
    have hen' : t.on F.FEED_HWMUTE_CFG_EN = true := ht ▸ hen
    have hpin' : t.on F.FEED_HWMUTE_STAT_PIN = true := ht ▸ hpin
    have hlatch' : (t.sf F.FEED_HWMUTE_STAT_PIN 0).on F.FEED_HWMUTE_CFG_LATCH = true := by
      rw [Mach.on_sf_ne _ _ (by decide)]
      exact ht ▸ hlatch
    have hrow : muteNRelease s.m = (t.sf F.FEED_HWMUTE_STAT_PIN 0).sf F.FEED_HWMUTE_STAT_LATCHED 1 := by
      unfold muteNRelease
      rw [← ht]
      simp only [hsafe', hen', hpin', Bool.not_true, Bool.or_self, Bool.false_eq_true, if_false, hlatch', if_true]
    refine ⟨_, take_gives h rfl hrow, by rw [ht]; rfl, ?_, Mach.on_sf_one _ 0 0 rfl (by decide), ?_⟩
    · rw [Mach.on_sf_disjoint (f := F.FEED_HWMUTE_STAT_LATCHED) (g := F.FEED_HWMUTE_STAT_PIN) _ _ _ _ rfl (by decide) (by decide)]
      exact Mach.on_sf_zero _ 0 0 (by decide)
    · rw [Mach.gf_sf_disjoint (f := F.FEED_HWMUTE_STAT_LATCHED) (g := F.FEED_HWMUTE_STAT_ACTIVE) _ _ _ _ rfl (by decide) (by decide),
        Mach.gf_sf_disjoint (f := F.FEED_HWMUTE_STAT_PIN) (g := F.FEED_HWMUTE_STAT_ACTIVE) _ _ _ _ rfl (by decide) (by decide), ht]
      rfl
  · intro s h hsafe hen hpin hlatch
    obtain ⟨t, ht⟩ : ∃ t, t = s.m.onRend (fun q => { q with pinLow := false }) := ⟨_, rfl⟩
    have hsafe' : t.safe = false := ht ▸ hsafe
    have hen' : t.on F.FEED_HWMUTE_CFG_EN = true := ht ▸ hen
    have hpin' : t.on F.FEED_HWMUTE_STAT_PIN = true := ht ▸ hpin
    have hlatch' : (t.sf F.FEED_HWMUTE_STAT_PIN 0).on F.FEED_HWMUTE_CFG_LATCH = false := by
      rw [Mach.on_sf_ne _ _ (by decide)]
      exact ht ▸ hlatch
    have hrow : muteNRelease s.m = (t.sf F.FEED_HWMUTE_STAT_PIN 0).muteFree := by
      unfold muteNRelease
      rw [← ht]
      simp only [hsafe', hen', hpin', Bool.not_true, Bool.or_self, Bool.false_eq_true, if_false, hlatch']
    refine ⟨_, take_gives h rfl hrow, by rw [ht]; rfl, ?_, Mach.muteFree_active _, Mach.muteFree_evt _⟩
    rw [Mach.muteFree_pin]
    exact Mach.on_sf_zero _ 0 0 (by decide)
  · intro s v hv h hbit hlatched hpin hsafe
    have hrow : hwmuteClrWrite v s.m = s.m.muteFree := by
      simp only [hwmuteClrWrite, hbit, hlatched, hpin, hsafe, Bool.not_false, Bool.and_self, if_true]
    exact ⟨_, take_gives h (by simpa using hv) hrow, Mach.muteFree_active _, Mach.muteFree_latched _, Mach.muteFree_evt _⟩
  · intro s v hv h hms hkeep
    refine take_gives h (by simpa using hv) ?_
    have hbit : bitOf (v &&& 0x303FF) 17 = bitOf v 17 := by rw [bitOf_and, show bitOf 0x303FF 17 = true by decide, Bool.and_true]
    have hoff : (s.m.on F.FEED_HWMUTE_CFG_EN && !bitOf v 17) = false := by
      obtain e | e := hkeep <;> simp [e]
    simp only [hwmuteCfgWrite, if_neg (Nat.not_lt.2 hms), hbit, hoff, Bool.false_eq_true, if_false]
  · intro s v hv h hms hoff hen
    have hbit : bitOf (v &&& 0x303FF) 17 = false := by rw [bitOf_and, hoff, Bool.false_and]
    obtain ⟨t, ht⟩ : ∃ t, t = (s.m.wr R.FEED_HWMUTE_CFG (v &&& 0x303FF)).sf F.FEED_HWMUTE_STAT_PIN 0 := ⟨_, rfl⟩
    have hrow : hwmuteCfgWrite v s.m = if s.m.on F.FEED_HWMUTE_STAT_ACTIVE then t.muteFree else t := by
      simp only [hwmuteCfgWrite, if_neg (Nat.not_lt.2 hms), hbit, hen, Bool.not_false, Bool.and_self, if_true, ht]
    have hcfg : t.rd R.FEED_HWMUTE_CFG = v &&& 0x303FF := by
      rw [ht, Mach.rd_sf_ne _ _ (by decide), Mach.rd_wr_self]
      exact Nat.mod_eq_of_lt (Nat.lt_of_le_of_lt Nat.and_le_right (by decide))
    have hpin : t.on F.FEED_HWMUTE_STAT_PIN = false := ht ▸ Mach.on_sf_zero _ 0 0 (by decide)
    have hregs : s.m.registersOnly t := ht ▸ Mach.registersOnly_sf _ _ _ _ (Mach.registersOnly_wr _ _ _ _ s.m.registersOnly_refl)
    refine ⟨_, take_gives h (by simpa using hv) hrow, ?_⟩
    split
    · exact ⟨t.muteFree_cfg.trans hcfg, t.muteFree_pin.trans hpin, t.muteFree_active, t.muteFree_registersOnly hregs⟩
    · rename_i hact
      refine ⟨hcfg, hpin, ?_, hregs⟩
      rw [ht, Mach.on_sf_disjoint (f := F.FEED_HWMUTE_STAT_PIN) (g := F.FEED_HWMUTE_STAT_ACTIVE) _ _ _ _ rfl (by decide) (by decide),
        Mach.on_wr_ne _ _ (by decide)]
      simpa using hact
  · intro s i v hi hok hv h hsel
    refine take_gives h (by simp [hi]; omega) ?_
    simp only [inselWrite, hok, hsel, Bool.not_true, Option.isSome_none, Bool.false_eq_true, if_false]
  · intro s i v hi hok hv h hsel
    refine take_gives h (by simp [hi]; omega) ?_
    simp only [inselWrite, hok, Option.isSome_iff_ne_none.2 hsel, Bool.not_true, Bool.false_eq_true, if_false, if_true]
  · intro s i v hi hv h hsel
    refine take_gives h (by simp [hi]; omega) ?_
    simp only [outselWrite, if_neg (Nat.not_le.2 hi), hsel, Option.isSome_none, Bool.false_eq_true, if_false]
  · intro s i v hi hv h hsel
    refine take_gives h (by simp [hi]; omega) ?_
    simp only [outselWrite, if_neg (Nat.not_le.2 hi), Option.isSome_iff_ne_none.2 hsel, if_true]
  · intro s v hv h hbit
    have hwhen (k : Nat) : s.m.when (bitOf v 0) (·.askCommit k) = s.m.askCommit k := by rw [hbit]; rfl
    exact ⟨take_gives h (by simpa using hv) (hwhen 0), take_gives h (by simpa using hv) (hwhen 2), take_gives h (by simpa using hv) (hwhen 3),
      take_gives h (by simpa using hv) (hwhen 4), take_gives h (by simpa using hv) (hwhen 5)⟩
  · exact fun s v hv h hbit => take_gives h (by simpa using hv) (by rw [renderCommitGen, hbit]; rfl)
  · intro s v hv h hbit
    have hwhen (k : Nat) : s.m.when (bitOf v 0) (·.askCommit k) = s.m := by rw [hbit]; rfl
    exact ⟨take_gives h (by simpa using hv) (hwhen 0), take_gives h (by simpa using hv) (hwhen 2), take_gives h (by simpa using hv) (hwhen 3),
      take_gives h (by simpa using hv) (hwhen 4)⟩
  · intro s p v hp hv h hbit hoff
    refine take_gives h (by simp [hp]; omega) ?_
    have hodd : v % 2 = 1 := by simpa [bitOf] using hbit
    have hwr : (s.m.wr R.RENDER_PLAY_CTRL 1 p).rd R.RENDER_PLAY_WR p = s.m.rd R.RENDER_PLAY_WR p := Mach.rd_wr_inst _ _ _ rfl (by decide)
    simp only [playCtrlWrite, if_neg (Nat.not_le.2 hp), hbit, hoff, Bool.not_false, Bool.and_self, if_true, hodd, hwr]
  · intro s p v hp hv h h64 hlt
    refine take_gives h (by simp [hp]; omega) ?_
    have h64' : v % 2 ^ 24 % 64 = 0 := by omega
    simp only [playWrWrite, decide_eq_false (Nat.not_le.2 hp), h64', bne_self_eq_false, decide_eq_false (Nat.not_le.2 hlt), Bool.or_self,
      Bool.false_eq_true, if_false]
  · intro s c v hc hv h hbit hoff
    refine take_gives h (by simp [hc]; omega) ?_
    have hodd : v % 2 = 1 := by simpa [bitOf] using hbit
    have hrd : (s.m.wr R.FEED_CAP_CTRL 1 c).rd R.FEED_CAP_RD c = s.m.rd R.FEED_CAP_RD c := Mach.rd_wr_inst _ _ _ rfl (by decide)
    simp only [capCtrlWrite, if_neg (Nat.not_le.2 hc), hbit, hoff, Bool.not_false, Bool.and_self, if_true, hodd, hrd]
  · intro s v hv h hon hbit hfree
    refine take_gives h (by simpa using hv) ?_
    simp only [bulkBaseWrite, hon, hbit, hfree, Bool.not_true, Bool.or_self, Bool.false_eq_true, if_false, if_true]
  · intro s v hv h hoff hbit hok
    have hrow : bulkBaseWrite v s.m = ((s.m.wr R.RENDER_BULK_BASE_HI (v % 256)).sf F.RENDER_BULK_BASE_HI_EN 1).bulkEnable := by
      simp only [bulkBaseWrite, hoff, hbit, Mach.regionOk_of_bulkBase, hok, Bool.false_eq_true, if_false, Bool.and_self, if_true]
    refine ⟨_, take_gives h (by simpa using hv) hrow, Mach.on_sf_one _ 0 0 rfl (by decide), ?_⟩
    refine (Mach.gf_onRend ..).trans ?_
    rw [Mach.gf_sf_disjoint (f := F.RENDER_BULK_BASE_HI_EN) (g := F.RENDER_BULK_BASE_HI_ADDR) _ _ _ _ rfl (by decide) (by decide)]
    simp only [Mach.gf, F.RENDER_BULK_BASE_HI_ADDR, Mach.rd_wr_self, bits_eq]
    omega
  · intro s v hv h hon hbit hfree
    refine take_gives h (by simpa using hv) ?_
    simp only [corrBaseWrite, hon, hbit, hfree, Bool.not_true, Bool.or_self, Bool.false_eq_true, if_false, if_true]
  · intro s v hv h hoff hbit hok
    have hrow : corrBaseWrite v s.m = ((s.m.wr R.FEED_CORR_BASE_HI (v % 256)).sf F.FEED_CORR_BASE_HI_EN 1).corrEnable := by
      simp only [corrBaseWrite, hoff, hbit, Mach.regionOk_of_corrBase, hok, Bool.false_eq_true, if_false, Bool.and_self, if_true]
    refine ⟨_, take_gives h (by simpa using hv) hrow, Mach.on_sf_one _ 0 0 rfl (by decide), ?_⟩
    refine (Mach.gf_onRend ..).trans ?_
    rw [Mach.gf_sf_disjoint (f := F.FEED_CORR_BASE_HI_EN) (g := F.FEED_CORR_BASE_HI_ADDR) _ _ _ _ rfl (by decide) (by decide)]
    simp only [Mach.gf, F.FEED_CORR_BASE_HI_ADDR, Mach.rd_wr_self, bits_eq]
    omega

end Sys2Proof.Machine
end

section
/-! PROOF. The grid and network time: tick numbers, the error, the grid's states and PLL_MEDIA's control word (R33 to R38, R459). -/
namespace Sys2Proof.Machine

/-! ## The control word of PLL_MEDIA (R459, R462) -/

theorem toU_lt (w : Nat) (v : Int) : toU w v < 2 ^ w := by
  unfold toU
  have hpos : (0 : Int) < Int.ofNat (2 ^ w) := Int.natCast_pos.2 (Nat.two_pow_pos w)
  have h := Int.emod_lt_of_pos v hpos
  have h0 := Int.emod_nonneg v (Int.ne_of_gt hpos)
  simp only [Int.ofNat_eq_natCast] at h h0 ⊢
  omega

/-- A slew of the control word: free choices and the word itself. -/
def slewTouch : Footprint := ⟨[.free], [(0x10011C, some 0x100420)]⟩

theorem Mach.mediaSlew_onlyIn (s : Mach) (e : Rat) : s.onlyIn slewTouch (s.mediaSlew e) := by
  unfold Mach.mediaSlew
  extract_lets st
  split
  · exact s.onlyIn_refl _
  · simp only [Mach.fresh]
    simp (disch := decide) [slewTouch]

theorem Mach.mediaSlew_held {s : Mach} (e : Rat)
    (h : s.gf F.TIME_GRID_STAT_STATE = 3 ∨ s.glv F.CLK_PLL_CTRL_REFSEL 1 ≠ 0 ∨ s.pllLocked 1 = false) : s.mediaSlew e = s := by
  rw [Mach.mediaSlew]
  exact if_pos (by rcases h with h | h | h <;> simp [h])

theorem clamp_natAbs_le (lim : Nat) (g : Int) : (max (-(lim : Int)) (min (lim : Int) g)).natAbs ≤ lim := by omega

theorem Mach.mediaSlew_moves {s : Mach} (e : Rat) (hst : s.gf F.TIME_GRID_STAT_STATE ≠ 3) (href : s.glv F.CLK_PLL_CTRL_REFSEL 1 = 0)
    (hlock : s.pllLocked 1 = true) :
    ∃ d : Int, 4000000 * d.natAbs ≤ s.pllTarget 1 * s.gf F.TIME_GRID_CTRL_SLEW_PPM
      ∧ (s.mediaSlew e).rd R.CLK_PLL_DCO 1 = toU 32 ((s.rd R.CLK_PLL_DCO 1 : Int) + d) := by
  unfold Mach.mediaSlew
  extract_lets st
  rw [if_neg (by simp [st, hst, href, hlock])]
  simp -zeta only [Mach.fresh]
  extract_lets w lim k off follow dco gap
  refine ⟨max (-(lim : Int)) (min (lim : Int) gap), ?_, ?_⟩
  · calc 4000000 * (max (-(lim : Int)) (min (lim : Int) gap)).natAbs ≤ 4000000 * lim := Nat.mul_le_mul_left _ (clamp_natAbs_le lim gap)
      _ ≤ _ := Nat.mul_div_le _ _
  · rw [Mach.rd_wr_self, Nat.mod_eq_of_lt (toU_lt 32 _)]
    rfl

/-! ## A token of the grid in its three parts (R35 to R38) -/

/-- Network time that is locked takes the grid out of FREE and HOLDOVER. -/
def Mach.gridSeen (s : Mach) : Mach :=
  if s.timeState = 2 && (s.gf F.TIME_GRID_STAT_STATE = 0 || s.gf F.TIME_GRID_STAT_STATE = 3) then s.sf F.TIME_GRID_STAT_STATE 1 else s

/-- The error is stored, LOCKRUN counts and LOCKED falls back. -/
def Mach.gridJudged (s : Mach) (e : Rat) : Mach :=
  let s := s.wr R.TIME_GRID_ERR (toU 32 (clampS 32 (rhaQ (e * 5 / 4))))
  let st := s.gf F.TIME_GRID_STAT_STATE
  let near := absQ e ≤ 8
  let s := s.sf F.TIME_GRID_STAT_LOCKRUN (if near && (st = 1 || st = 2) then Nat.min 255 (s.gf F.TIME_GRID_STAT_LOCKRUN + 1) else 0)
  if st = 2 && 50 < absQ e then s.sf F.TIME_GRID_STAT_STATE 1 else s

/-- The error is slewed away, or a step is decided. -/
def Mach.gridActs (s : Mach) (e : Rat) : Mach :=
  if s.gf F.TIME_GRID_STAT_STATE != 1 then (s.onTime (fun t => { t with overRun := 0, overSaid := false })).mediaSlew e
  else
    let above : Bool := decide ((1000 * s.gf F.TIME_GRID_CTRL_STEP_US : Nat) < absQ e)
    let follows := s.glv F.CLK_PLL_CTRL_REFSEL 1 == 0
    let may := follows && (s.power != 0 || s.on F.TIME_GRID_CTRL_STEP_ACTIVE)
    if above && may && s.tm.gstep == .none then
      (s.onTime (fun t => { t with gstep := .down, overRun := 0, overSaid := false })).evt F.TIME_GRID_EVT_STEPPED
    else (s.onTime (fun t => { t with overRun := if above && follows then t.overRun + 1 else 0, overSaid := t.overSaid && above })).mediaSlew e

theorem Mach.gridToken_eq (s : Mach) (m : Nat) : s.gridToken m = if !s.gridSeen.tm.aligned then s.gridSeen.mediaSlew 0
    else (s.gridSeen.gridJudged (gridErrNs s.gridSeen.tm.net m)).gridActs (gridErrNs s.gridSeen.tm.net m) := rfl

theorem Mach.gridSeen_tm (s : Mach) : s.gridSeen.tm = s.tm := by
  unfold Mach.gridSeen
  split <;> rfl

theorem Mach.gridToken_of_aligned {s : Mach} (m : Nat) (h : s.tm.aligned = true) :
    s.gridToken m = (s.gridSeen.gridJudged (gridErrNs s.tm.net m)).gridActs (gridErrNs s.tm.net m) := by
  rw [Mach.gridToken_eq, Mach.gridSeen_tm, if_neg (by simp [h])]

theorem Mach.gridToken_of_not_aligned {s : Mach} (m : Nat) (h : s.tm.aligned = false) : s.gridToken m = s.gridSeen.mediaSlew 0 := by
  rw [Mach.gridToken_eq, Mach.gridSeen_tm, if_pos (by simp [h])]

/-- What seeing and judging an error may touch: GRID_STAT and GRID_ERR. -/
def judgedTouch : Footprint := ⟨[], [(0x380808, some 0x380810)]⟩

/-- What acting on an error may touch: the control word, the step state and GRID_EVT. -/
def actsTouch : Footprint := ⟨[.free, .tm], [(0x10011C, some 0x100420), (0x380814, some 0x380818)]⟩

theorem Mach.gridSeen_onlyIn (s : Mach) : s.onlyIn judgedTouch s.gridSeen := by
  unfold Mach.gridSeen
  split <;> simp (disch := decide) [judgedTouch]

theorem Mach.gridJudged_onlyIn (s : Mach) (e : Rat) : s.onlyIn judgedTouch (s.gridJudged e) := by
  unfold Mach.gridJudged
  extract_lets t st near u
  have hu : s.onlyIn judgedTouch u := by simp (disch := decide) [u, t, judgedTouch]
  split
  · exact (Mach.onlyIn_sf _ _ 0 0 (by decide) (by decide) (by decide)).2 hu
  · exact hu

theorem Mach.slewed_onlyIn_actsTouch {s t : Mach} (e : Rat) (h : s.onlyIn actsTouch t) : s.onlyIn actsTouch (t.mediaSlew e) :=
  Mach.onlyIn_trans h (Mach.onlyIn_mono (t.mediaSlew_onlyIn e) (by decide) fun a ha => by
    simp only [slewTouch, actsTouch, Footprint.covers, List.any_cons, List.any_nil, Bool.or_eq_false_iff] at ha ⊢
    exact ⟨ha.1, trivial⟩)

theorem Mach.gridActs_onlyIn (s : Mach) (e : Rat) : s.onlyIn actsTouch (s.gridActs e) := by
  unfold Mach.gridActs
  split
  · exact Mach.slewed_onlyIn_actsTouch e (by simp (disch := decide) [actsTouch])
  · extract_lets above follows may
    split
    · simp (disch := decide) [actsTouch]
    · exact Mach.slewed_onlyIn_actsTouch e (by simp (disch := decide) [actsTouch])

theorem Mach.gridActs_stat (s : Mach) (e : Rat) : (s.gridActs e).rd R.TIME_GRID_STAT = s.rd R.TIME_GRID_STAT :=
  Mach.onlyIn_rd (s.gridActs_onlyIn e) _ 0 0 (by decide)

theorem Mach.gridActs_state (s : Mach) (e : Rat) : (s.gridActs e).gf F.TIME_GRID_STAT_STATE = s.gf F.TIME_GRID_STAT_STATE :=
  Mach.gf_of_rd (s.gridActs_stat e)

theorem Mach.gridActs_lockrun (s : Mach) (e : Rat) : (s.gridActs e).gf F.TIME_GRID_STAT_LOCKRUN = s.gf F.TIME_GRID_STAT_LOCKRUN :=
  Mach.gf_of_rd (s.gridActs_stat e)

/-- A step is decided only for an error above STEP_US, in a state or by a setting that allows it. -/
theorem Mach.gridActs_gstep (s : Mach) (e : Rat) (h : s.tm.gstep = .none) :
    (s.gridActs e).tm.gstep = .none ∨ ((s.gridActs e).tm.gstep = .down ∧ s.gf F.TIME_GRID_STAT_STATE = 1
      ∧ ((1000 * s.gf F.TIME_GRID_CTRL_STEP_US : Nat) : Rat) < absQ e ∧ (s.power ≠ 0 ∨ s.on F.TIME_GRID_CTRL_STEP_ACTIVE = true)
      ∧ s.glv F.CLK_PLL_CTRL_REFSEL 1 = 0) := by
  have slew : ∀ t : Mach, (t.mediaSlew e).tm = t.tm := fun t => (t.mediaSlew_onlyIn e).1 .tm (by decide)
  unfold Mach.gridActs
  split
  case isTrue => exact .inl (by rw [slew]; exact h)
  case isFalse hst =>
    extract_lets above follows may
    split
    case isTrue hgo =>
      simp only [above, may, follows, Bool.and_eq_true, Bool.or_eq_true, decide_eq_true_eq, beq_iff_eq, bne_iff_ne] at hgo
      obtain ⟨⟨habove, hfollows, hmay⟩, -⟩ := hgo
      exact .inr ⟨rfl, by simpa using hst, habove, hmay, hfollows⟩
    case isFalse => exact .inl (by rw [slew]; exact h)

theorem Mach.gridSeen_state_of_followed {s : Mach} (h : s.gf F.TIME_GRID_STAT_STATE = 1 ∨ s.gf F.TIME_GRID_STAT_STATE = 2) : s.gridSeen = s := by
  unfold Mach.gridSeen
  exact if_neg (by rcases h with h | h <;> simp [h])

theorem Mach.gridSeen_state_of_locked {s : Mach} (ht : s.timeState = 2)
    (h : s.gf F.TIME_GRID_STAT_STATE = 0 ∨ s.gf F.TIME_GRID_STAT_STATE = 3) : s.gridSeen.gf F.TIME_GRID_STAT_STATE = 1 := by
  unfold Mach.gridSeen
  rw [if_pos (by rcases h with h | h <;> simp [ht, h])]
  exact Mach.gf_sf_of_lt _ 0 0 (by decide) (by decide)

/-- LOCKRUN after a token: counted while the error is near, else zero. -/
theorem Mach.gridJudged_lockrun (s : Mach) (e : Rat) : (s.gridJudged e).gf F.TIME_GRID_STAT_LOCKRUN =
    if absQ e ≤ 8 ∧ (s.gf F.TIME_GRID_STAT_STATE = 1 ∨ s.gf F.TIME_GRID_STAT_STATE = 2) then
      Nat.min 255 (s.gf F.TIME_GRID_STAT_LOCKRUN + 1) else 0 := by
  unfold Mach.gridJudged
  extract_lets t st near u
  have hst : st = s.gf F.TIME_GRID_STAT_STATE := Mach.gf_wr_ne _ _ (by decide)
  have hrun : t.gf F.TIME_GRID_STAT_LOCKRUN = s.gf F.TIME_GRID_STAT_LOCKRUN := Mach.gf_wr_ne _ _ (by decide)
  have hu : u.gf F.TIME_GRID_STAT_LOCKRUN = if absQ e ≤ 8 ∧ (s.gf F.TIME_GRID_STAT_STATE = 1 ∨ s.gf F.TIME_GRID_STAT_STATE = 2) then
      Nat.min 255 (s.gf F.TIME_GRID_STAT_LOCKRUN + 1) else 0 := by
    refine (Mach.gf_sf_of_lt _ 0 0 (by decide) ?_).trans ?_
    · split
      · exact Nat.lt_of_le_of_lt (Nat.min_le_left ..) (by decide)
      · decide
    · rw [hst, hrun]
      simp [near]
  split
  · exact (Mach.gf_sf_disjoint (f := F.TIME_GRID_STAT_STATE) (g := F.TIME_GRID_STAT_LOCKRUN) _ _ 0 0 rfl (by decide) (by decide)).trans hu
  · exact hu

theorem Mach.gridJudged_state (s : Mach) (e : Rat) : (s.gridJudged e).gf F.TIME_GRID_STAT_STATE =
    if s.gf F.TIME_GRID_STAT_STATE = 2 ∧ 50 < absQ e then 1 else s.gf F.TIME_GRID_STAT_STATE := by
  unfold Mach.gridJudged
  extract_lets t st near u
  have hst : st = s.gf F.TIME_GRID_STAT_STATE := Mach.gf_wr_ne _ _ (by decide)
  have hu : u.gf F.TIME_GRID_STAT_STATE = s.gf F.TIME_GRID_STAT_STATE := (Mach.gf_sf_disjoint (f := F.TIME_GRID_STAT_LOCKRUN) (g := F.TIME_GRID_STAT_STATE) _ _ 0 0 rfl (by decide) (by decide)).trans hst
  rw [hst]
  split
  case isTrue h =>
    rw [if_pos (by simpa using h)]
    exact Mach.gf_sf_of_lt _ 0 0 (by decide) (by decide)
  case isFalse h => rw [if_neg (by simpa using h), hu]

theorem Mach.gridJudged_err (s : Mach) (e : Rat) :
    (s.gridJudged e).rd R.TIME_GRID_ERR = toU 32 (clampS 32 (rhaQ (e * 5 / 4))) % 2 ^ 32 := by
  unfold Mach.gridJudged
  extract_lets t st near u
  have hu : u.rd R.TIME_GRID_ERR = toU 32 (clampS 32 (rhaQ (e * 5 / 4))) % 2 ^ 32 :=
    (Mach.rd_sf_ne _ _ (by decide)).trans (Mach.rd_wr_self _ _ _ 0 0)
  split
  · exact (Mach.rd_sf_ne _ _ (by decide)).trans hu
  · exact hu

/-- An error is above −2⁻¹⁶ ns and below a tick, for the tick that holds the time. -/
theorem gridErrNs_of_tickAt {net m : Nat} (h : tickAt net = m) : -(1 / 65536 : Rat) < gridErrNs net m ∧ gridErrNs net m < 1000000 / 6 := by
  unfold tickAt at h
  have hlow : (m : Rat) * 65536000000 < net * 6 + 6 := by
    have h' : m * 65536000000 < net * 6 + 6 := by omega
    exact_mod_cast h'
  have hhigh : (net : Rat) * 6 + 5 < (m + 1) * 65536000000 := by
    have h' : net * 6 + 5 < (m + 1) * 65536000000 := by omega
    exact_mod_cast h'
  unfold gridErrNs
  constructor <;> linarith

/-- The token that takes the numbering puts the grid in ACQUIRE with LOCKRUN 0 (R35). -/
theorem Mach.align_takes {s : Mach} (hst : s.timeState = 2) (hal : s.tm.aligned = false) : s.align.tm.aligned = true
    ∧ s.align.gf F.TIME_GRID_STAT_STATE = 1 ∧ s.align.gf F.TIME_GRID_STAT_LOCKRUN = 0 := by
  have hnext : s.nextTick.2 = true := by simp [Mach.nextTick, hst, hal]
  rw [Mach.align, if_pos (by simp [hnext, hal])]
  obtain ⟨t, ht⟩ : ∃ t, t = s.onTime (fun t => { t with aligned := true }) := ⟨_, rfl⟩
  have htm : t.tm.aligned = true := by rw [ht]; rfl
  rw [← ht]
  refine ⟨htm, ?_, ?_⟩
  · exact (Mach.gf_sf_disjoint (f := F.TIME_GRID_STAT_LOCKRUN) (g := F.TIME_GRID_STAT_STATE) _ _ 0 0 rfl (by decide) (by decide)).trans
      (Mach.gf_sf_of_lt _ 0 0 (by decide) (by decide))
  · exact Mach.gf_sf_of_lt _ 0 0 (by decide) (by decide)

/-- A token decides a step only for an error above STEP_US, and where a step is allowed (R36 to R38). -/
theorem Mach.gridToken_gstep {s : Mach} (m : Nat) (hnone : s.tm.gstep = .none) : (s.gridToken m).tm.gstep = .none
    ∨ ((s.gridToken m).tm.gstep = .down ∧ (s.gridToken m).gf F.TIME_GRID_STAT_STATE = 1
      ∧ ((1000 * s.gf F.TIME_GRID_CTRL_STEP_US : Nat) : Rat) < absQ (gridErrNs s.tm.net m)
      ∧ (s.power ≠ 0 ∨ s.on F.TIME_GRID_CTRL_STEP_ACTIVE = true) ∧ s.glv F.CLK_PLL_CTRL_REFSEL 1 = 0) := by
  have htm : s.gridSeen.tm = s.tm := s.gridSeen_tm
  cases hal : s.tm.aligned
  · rw [Mach.gridToken_of_not_aligned m hal]
    refine .inl ?_
    rw [show (s.gridSeen.mediaSlew 0).tm = s.gridSeen.tm from (Mach.mediaSlew_onlyIn _ _).1 .tm (by decide), htm, hnone]
  · rw [Mach.gridToken_of_aligned m hal]
    obtain ⟨e, he⟩ : ∃ e, e = gridErrNs s.tm.net m := ⟨_, rfl⟩
    rw [← he]
    have hjudged : s.onlyIn judgedTouch (s.gridSeen.gridJudged e) := Mach.onlyIn_trans s.gridSeen_onlyIn (Mach.gridJudged_onlyIn _ e)
    have hg : (s.gridSeen.gridJudged e).tm.gstep = .none := by
      rw [show (s.gridSeen.gridJudged e).tm = s.tm from hjudged.1 .tm (by decide), hnone]
    refine (Mach.gridActs_gstep _ e hg).imp id ?_
    rintro ⟨hdown, hst, habove, hmay, hfollows⟩
    refine ⟨hdown, (Mach.gridActs_state _ e).trans hst, ?_, ?_, ?_⟩
    · rwa [← Mach.onlyIn_gf hjudged F.TIME_GRID_CTRL_STEP_US 0 0 (by decide)]
    · rw [Mach.power, ← Mach.onlyIn_gf hjudged F.SYS_PWR_STAT_STATE 0 0 (by decide), Mach.on,
        ← Mach.onlyIn_gf hjudged F.TIME_GRID_CTRL_STEP_ACTIVE 0 0 (by decide)]
      exact hmay
    · have hlive : (s.gridSeen.gridJudged e).live = s.live := hjudged.1 .live (by decide)
      simpa only [Mach.glv, Mach.lv, hlive] using hfollows

/-- Settles O23. -/
theorem gridFollowsNetworkTime : Obligations.GridFollowsNetworkTime := by
  unfold Obligations.GridFollowsNetworkTime
  refine ⟨fun net m => gridErrNs_of_tickAt, ?_, ?_, ?_, ?_, ?_, ?_, ?_, ?_, ?_, ?_, ?_, ?_, ?_⟩
  · intro m
    unfold tickAt
    omega
  · intro s htick hnot
    rw [Mach.nextTick, if_pos htick]
    exact if_neg (by simpa using fun h => hnot.resolve_left fun n => n h)
  · intro s hst hal
    rw [Mach.nextTick]
    refine ⟨?_, ?_, fun htick => ?_⟩ <;> simp only [hst, hal, decide_true, Bool.not_false, Bool.and_self, if_true]
    · exact Nat.le_max_right ..
    · rw [if_pos htick]
      exact Nat.lt_of_lt_of_le (Nat.lt_succ_self _) (Nat.le_max_left ..)
  · exact fun s => Mach.align_takes
  · intro s h
    rw [Mach.align]
    refine if_neg ?_
    cases hal : s.tm.aligned
    · have hst : s.timeState ≠ 2 := h.resolve_right (by simp [hal])
      simp [Mach.nextTick, hst, hal]
    · simp
  · intro s m hal
    rw [Mach.gridToken_of_aligned m hal]
    exact (Mach.onlyIn_rd (Mach.gridActs_onlyIn _ _) _ 0 0 (by decide)).trans (Mach.gridJudged_err _ _)
  · intro s m hal hst hnear
    have hfar : ¬ 50 < absQ (gridErrNs s.tm.net m) := by linarith
    rw [Mach.gridToken_of_aligned m hal, Mach.gridSeen_state_of_followed hst, Mach.gridActs_lockrun, Mach.gridActs_state,
      Mach.gridJudged_lockrun, Mach.gridJudged_state, if_pos ⟨hnear, hst⟩, if_neg fun h => hfar h.2]
    exact ⟨rfl, rfl⟩
  · intro s m hal hfar
    rw [Mach.gridToken_of_aligned m hal, Mach.gridActs_lockrun, Mach.gridJudged_lockrun, if_neg fun h => absurd h.1 (not_le.2 hfar)]
  · intro s m hal hst hfar
    rw [Mach.gridToken_of_aligned m hal, Mach.gridSeen_state_of_followed (.inr hst), Mach.gridActs_state, Mach.gridJudged_state,
      if_pos ⟨hst, hfar⟩]
  · intro s m ht hst
    have hseen := Mach.gridSeen_state_of_locked ht hst
    cases hal : s.tm.aligned
    · rw [Mach.gridToken_of_not_aligned m hal]
      exact (Mach.onlyIn_gf (Mach.mediaSlew_onlyIn _ _) _ 0 0 (by decide)).trans hseen
    · rw [Mach.gridToken_of_aligned m hal, Mach.gridActs_state, Mach.gridJudged_state, hseen]
      rfl
  · exact fun s => Mach.gridToken_gstep
  · exact fun s e => Mach.mediaSlew_moves e
  · exact fun s e => Mach.mediaSlew_held e

end Sys2Proof.Machine
end

section
/-! PROOF. Tick tokens and the steps of the grid (R24, R35, R37, R38, R174, R397). -/
namespace Sys2Proof.Machine

/-- Every entry of a mapped list is the image of one. -/
theorem mfind_map_image {α β : Type} {l : List (Nat × α)} {g : Nat × α → β} {k : Nat} {v : β}
    (h : mfind (l.map (fun e => (e.1, g e))) k = some v) : ∃ e, v = g e := by
  obtain ⟨e, -, he⟩ := List.mem_map.1 (mem_of_mfind h)
  exact ⟨e, (Prod.mk.inj he).2.symm⟩

theorem Mach.clearHistories_feed {s : Mach} {f : Nat} {q : Feed} (h : mfind s.clearHistories.rend.feeds f = some q) :
    q.lim.ys = [] ∧ q.hist = [] ∧ q.line = [] := by
  obtain ⟨e, rfl⟩ := mfind_map_image h
  exact ⟨rfl, rfl, rfl⟩

theorem Mach.clearHistories_omem {s : Mach} {o : Nat} {q : ObjMem} (h : mfind s.clearHistories.rend.omem o = some q) :
    q.ring = [] ∧ q.stage = [] := by
  obtain ⟨e, rfl⟩ := mfind_map_image h
  exact ⟨rfl, rfl⟩

/-- At the stop of a grid step tokens stop and every history is clear. -/
theorem Mach.gridStop_stops (s : Mach) : s.gridStop.tm.gstep = .stopped ∧ s.gridStop.rend.hand = none
    ∧ (∀ f q, mfind s.gridStop.rend.feeds f = some q → q.lim.ys = [] ∧ q.hist = [] ∧ q.line = [])
    ∧ (∀ o q, mfind s.gridStop.rend.omem o = some q → q.ring = [] ∧ q.stage = []) := by
  unfold Mach.gridStop
  extract_lets k sunk cleared
  clear_value sunk
  exact ⟨rfl, rfl, fun f q h => Mach.clearHistories_feed (s := sunk) h, fun o q h => Mach.clearHistories_omem (s := sunk) h⟩

/-- Settles O22. -/
theorem tokenAndGridRows : Obligations.TokenAndGridRows := by
  unfold Obligations.TokenAndGridRows
  refine ⟨?_, ?_, ?_, ?_, ?_, ?_, ?_, ?_, ?_, ?_⟩
  · intro s x h hrun
    refine take_gives h rfl ?_
    simp only [tickToken, hrun, Bool.not_false, if_true]
  · intro s x t h hrun ht hst
    refine take_gives h rfl ?_
    simp only [tickToken, hrun, Bool.not_true, Bool.false_eq_true, if_false, ← ht, hst]
  · intro s x t h hrun ht hst
    refine ⟨t.gridStop, take_gives h rfl ?_, t.gridStop_stops⟩
    simp only [tickToken, hrun, Bool.not_true, Bool.false_eq_true, if_false, ← ht, hst]
  · intro s x t u h hrun ht hstop hdown hu
    refine take_gives h rfl ?_
    rw [hu]
    simp only [tickToken, hrun, Bool.not_true, Bool.false_eq_true, if_false, ← ht]
  · intro s h hst hrun
    refine ⟨_, take_gives h rfl (by rw [gridLock, if_pos (by simp [hst, hrun])]), ?_, ?_, ?_⟩
    · exact (Mach.gf_sf_ne (f := F.TIME_GRID_EVT_LOCKED) (g := F.TIME_GRID_STAT_STATE) _ 1 (by decide)).trans
        (Mach.gf_sf_of_lt _ 0 0 (by decide) (by decide))
    · exact Mach.on_evt_self _ 0 rfl (by decide)
    · exact Mach.registersOnly_sf _ _ _ _ (Mach.registersOnly_sf _ _ _ _ (Mach.registersOnly_refl _))
  · intro s h hno
    refine take_gives h rfl ?_
    rw [gridLock, if_neg (by simpa [imp_iff_not_or] using hno)]
  · intro s h hover hsaid
    refine take_gives h rfl ?_
    rw [gridSlewLong, if_pos (by simp [hover, hsaid])]
  · intro s h hno
    refine take_gives h rfl ?_
    rw [gridSlewLong, if_neg (by simpa [imp_iff_not_or] using hno)]
  · intro s x t n h ht hn hst hrun hlate hlong
    refine take_gives h rfl ?_
    have hgo : ¬ ((t.tm.gstep != .stopped || !t.tokensRun || decide (tickAt t.tm.net ≤ t.tm.stopAt)
        || decide (3 * (t.tm.net - t.tm.stopNet + 1) < 65536 * 1000000)) = true) := by
      simp [hst, hrun, ← hn, hlate, hlong]
    rw [gridStepResume, ← ht, hn]
    exact if_neg hgo
  · intro s x t h ht hno
    refine take_gives h rfl ?_
    have hstay : (t.tm.gstep != .stopped || !t.tokensRun || decide (tickAt t.tm.net ≤ t.tm.stopAt)
        || decide (3 * (t.tm.net - t.tm.stopNet + 1) < 65536 * 1000000)) = true := by
      simp only [Bool.or_eq_true, bne_iff_ne, Bool.not_eq_true', decide_eq_true_eq]
      rcases hno with hno | hno | hno | hno <;> simp only [hno, true_or, or_true, ne_eq, not_false_eq_true]
    rw [gridStepResume, ← ht]
    exact if_pos hstay

end Sys2Proof.Machine
end

section
/-! PROOF. Results and streams of the measurement chain (R213, R221) and the refresh of a latency monitor (R43, R44, R48, R49). -/
namespace Sys2Proof.Machine

theorem mfind_mdel_self {α : Type} (m : SMap α) (k : Nat) : mfind (mdel m k) k = none := by
  cases h : mfind (mdel m k) k with
  | none => rfl
  | some v =>
    obtain ⟨-, hne⟩ := List.mem_filter.1 (mem_of_mfind h)
    simp at hne

theorem Mach.meas_onMeas (s : Mach) (c : Nat) (f : MeasCh → MeasCh) : (s.onMeas c f).meas c = f (s.meas c) := mget_mput_self ..

theorem Mach.on_sf_b2n (s : Mach) {f : Fld} (b : Bool) (i j : Nat) (hlen : f.len = 1) (h : f.lo + f.len ≤ 32) :
    (s.sf f (b2n b) i j).on f i j = b := by
  cases b
  · exact Mach.on_sf_zero s i j h
  · exact Mach.on_sf_one s i j hlen h

/-- Another field of the same register keeps its bit. -/
theorem Mach.on_sf_bit (s : Mach) {f g : Fld} (v i : Nat) (hr : g.reg = f.reg) (hf : f.lo + f.len ≤ 32)
    (h : f.lo + f.len ≤ g.lo ∨ g.lo + g.len ≤ f.lo) : (s.sf f v i).on g i = s.on g i := by
  rw [Mach.on, Mach.gf_sf_disjoint s v i 0 hr hf h, Mach.on]

/-- An error record leaves the registers of the blocks below alone. -/
theorem Mach.raise_rd_below (s : Mach) (c : ECode) (x a : Nat) {r : Reg} {i : Nat} (h : r.at_ i 0 < 0xD00000) :
    (s.raise c x a).rd r i = s.rd r i :=
  Mach.onlyIn_rd (s.raise_onlyIn c x a) r i 0 (Footprint.covers_below 0xD00000 (by decide) h)

/-- What a mark that came out writes: the two delays, their ratio and the flags. -/
def Mach.latShow (s : Mach) (k pass prog ratio : Nat) (breach : Bool) : Mach :=
  ((((s.wr R.TIME_LAT_PASS pass k).wr R.TIME_LAT_PROG prog k).sf F.TIME_LAT_RATIO_Q10 ratio k).sf F.TIME_LAT_STAT_VALID 1 k).sf
    F.TIME_LAT_STAT_BREACH (b2n breach) k

section
variable (s : Mach) (k pass prog ratio : Nat) (breach : Bool)

theorem Mach.latShow_pass : (s.latShow k pass prog ratio breach).rd R.TIME_LAT_PASS k = pass % 2 ^ 32 := by
  simp (disch := decide) only [Mach.latShow, Mach.rd_sf_inst, Mach.rd_wr_inst, Mach.rd_wr_self]

theorem Mach.latShow_prog : (s.latShow k pass prog ratio breach).rd R.TIME_LAT_PROG k = prog % 2 ^ 32 := by
  simp (disch := decide) only [Mach.latShow, Mach.rd_sf_inst, Mach.rd_wr_self]

theorem Mach.latShow_floor : (s.latShow k pass prog ratio breach).rd R.TIME_LAT_FLOOR k = s.rd R.TIME_LAT_FLOOR k := by
  simp (disch := decide) only [Mach.latShow, Mach.rd_sf_inst, Mach.rd_wr_inst]

theorem Mach.latShow_valid : (s.latShow k pass prog ratio breach).on F.TIME_LAT_STAT_VALID k = true :=
  (Mach.on_sf_bit (f := F.TIME_LAT_STAT_BREACH) (g := F.TIME_LAT_STAT_VALID) _ _ k rfl (by decide) (by decide)).trans
    (Mach.on_sf_one _ k 0 rfl (by decide))

theorem Mach.latShow_breach : (s.latShow k pass prog ratio breach).on F.TIME_LAT_STAT_BREACH k = breach :=
  Mach.on_sf_b2n _ _ k 0 rfl (by decide)

theorem Mach.latShow_tm : (s.latShow k pass prog ratio breach).tm = s.tm := rfl

end

/-- A mark that came out of a good chain is shown, and a breach is told. -/
theorem latencyRefresh_shows {s : Mach} {k inp out q : Nat} {p : Rat} (hk : k < 4) (hen : s.glv F.TIME_LAT_SINK_EN k = 1)
    (hpath : (s.latFloor k).on F.TIME_LAT_STAT_NO_PATH k = false) (habs : (s.latFloor k).on F.TIME_LAT_STAT_ABSENT k = false)
    (hsup : (s.latFloor k).on F.TIME_LAT_STAT_UNSUPPORTED k = false) (hmark : (s.latFloor k).markOf k = some p) :
    ∃ ratio breach, (breach = true ↔ (s.latFloor k).on F.TIME_LAT_STAT_BELOW_MIN k = false
        ∧ 5 * (s.latFloor k).rd R.TIME_LAT_FLOOR k < 4 * (s.latFloor k).passOf k inp out q p)
      ∧ latencyRefresh k inp out q s =
        (let t := ((s.latFloor k).onTime (fun z => { z with marks := mdel z.marks k })).latShow k
          ((s.latFloor k).passOf k inp out q p % 2 ^ 32) (samplesNs p % 2 ^ 32) ratio breach
         if breach then t.raise E.LATENCY_BREACH k ratio else t) := by
  have hlive : (s.latFloor k).glv F.TIME_LAT_SINK_EN k = 1 := by
    unfold Mach.latFloor
    rw [if_neg (by omega)]
    extract_lets
    split <;> exact hen
  refine ⟨Nat.min 65535 ((s.latFloor k).passOf k inp out q p * 1024 / Nat.max 1 ((s.latFloor k).rd R.TIME_LAT_FLOOR k)), !(s.latFloor k).on F.TIME_LAT_STAT_BELOW_MIN k && decide (5 * (s.latFloor k).rd R.TIME_LAT_FLOOR k
    < 4 * (s.latFloor k).passOf k inp out q p), by simp, ?_⟩
  unfold latencyRefresh
  rw [if_neg (by omega)]
  extract_lets t bad
  rw [if_neg (by simp [bad, t, hlive, hpath, habs, hsup])]
  simp only [t, hmark]
  rfl

/-- The registers of monitor k after a mark that came out (R44, R48, R49). -/
theorem latencyRefresh_measures {s : Mach} {k inp out q : Nat} {p : Rat} (hk : k < 4) (hen : s.glv F.TIME_LAT_SINK_EN k = 1)
    (hpath : (s.latFloor k).on F.TIME_LAT_STAT_NO_PATH k = false) (habs : (s.latFloor k).on F.TIME_LAT_STAT_ABSENT k = false)
    (hsup : (s.latFloor k).on F.TIME_LAT_STAT_UNSUPPORTED k = false) (hmark : (s.latFloor k).markOf k = some p)
    (hpass : (s.latFloor k).passOf k inp out q p < 2 ^ 32) :
    ∃ m, latencyRefresh k inp out q s = m ∧ m.rd R.TIME_LAT_PASS k = (s.latFloor k).passOf k inp out q p
      ∧ m.on F.TIME_LAT_STAT_VALID k = true ∧ m.rd R.TIME_LAT_FLOOR k = (s.latFloor k).rd R.TIME_LAT_FLOOR k
      ∧ m.rd R.TIME_LAT_PROG k = samplesNs p % 2 ^ 32 ∧ m.markOf k = none
      ∧ (m.on F.TIME_LAT_STAT_BREACH k = true ↔ (s.latFloor k).on F.TIME_LAT_STAT_BELOW_MIN k = false ∧
          5 * (s.latFloor k).rd R.TIME_LAT_FLOOR k < 4 * ((s.latFloor k).passOf k inp out q p)) := by
  obtain ⟨ratio, breach, hbreach, hrow⟩ := latencyRefresh_shows hk hen hpath habs hsup hmark (inp := inp) (out := out) (q := q)
  obtain ⟨t, ht⟩ : ∃ t, t = s.latFloor k := ⟨_, rfl⟩
  rw [← ht] at hbreach hrow hpass ⊢
  obtain ⟨c, hc⟩ : ∃ c, c = t.onTime (fun z => { z with marks := mdel z.marks k }) := ⟨_, rfl⟩
  obtain ⟨u, hu⟩ : ∃ u, u = c.latShow k (t.passOf k inp out q p % 2 ^ 32) (samplesNs p % 2 ^ 32) ratio breach := ⟨_, rfl⟩
  obtain ⟨m, hm⟩ : ∃ m, m = if breach then u.raise E.LATENCY_BREACH k ratio else u := ⟨_, rfl⟩
  have hrd : ∀ {r : Reg}, r.s1 = 0x40 → r.base < 0x380940 → m.rd r k = u.rd r k := fun hs hb => by
    rw [hm]
    split
    · exact Mach.raise_rd_below u _ _ _ (by simp only [Reg.at_, hs]; omega)
    · rfl
  have hon : ∀ {f : Fld}, f.reg.s1 = 0x40 → f.reg.base < 0x380940 → m.on f k = u.on f k := fun hs hb => by
    rw [Mach.on, Mach.gf_of_rd (hrd hs hb), Mach.on]
  have htm : m.tm = u.tm := by
    rw [hm]
    split
    · exact (u.raise_onlyIn _ _ _).1 .tm (by decide)
    · rfl
  refine ⟨m, hrow.trans (by rw [hm, hu, hc]), ?_, ?_, ?_, ?_, ?_, ?_⟩
  · rw [hrd (r := R.TIME_LAT_PASS) rfl (by decide), hu, Mach.latShow_pass, Nat.mod_mod, Nat.mod_eq_of_lt hpass]
  · rw [hon (f := F.TIME_LAT_STAT_VALID) rfl (by decide), hu, Mach.latShow_valid]
  · rw [hrd (r := R.TIME_LAT_FLOOR) rfl (by decide), hu, Mach.latShow_floor, hc]
    rfl
  · rw [hrd (r := R.TIME_LAT_PROG) rfl (by decide), hu, Mach.latShow_prog, Nat.mod_mod]
  · rw [Mach.markOf, htm, hu, Mach.latShow_tm, hc]
    exact mfind_mdel_self ..
  · rw [hon (f := F.TIME_LAT_STAT_BREACH) rfl (by decide), hu, Mach.latShow_breach, hbreach]

/-- Settles O24. -/
theorem measurementAndLatencyRows : Obligations.MeasurementAndLatencyRows := by
  unfold Obligations.MeasurementAndLatencyRows
  refine ⟨?_, ?_, ?_, ?_, ?_, ?_, ?_⟩
  · intro s c b n hc h hpend
    obtain ⟨t, ht⟩ : ∃ t, t = (s.m.partStore (s.m.resBase c + (s.m.meas c).results % 2 * 0x8100) b).partStore
      (s.m.resBase c + (s.m.meas c).results % 2 * 0x8100 + 32) (toLE 4 (s.m.meas c).results) := ⟨_, rfl⟩
    have hrow : measResultWrite c s.m = ((t.onMeas c (fun q => { q with pend := none, results := (s.m.meas c).results + 1 })).wr
        R.MEAS_CH_RES_SEQ (Nat.min (2 ^ 32 - 1) ((s.m.meas c).results + 1)) c).evt F.MEAS_EVT_RESULT := by
      simp only [measResultWrite, if_neg (Nat.not_le.2 hc), hpend, ht]
    rw [← ht]
    refine ⟨_, take_gives h (by simpa using hc) hrow, ?_, ?_, ?_, Mach.on_evt_self _ 0 rfl (by decide), ?_⟩
    · exact congrArg MeasCh.pend (Mach.meas_onMeas t c _)
    · exact congrArg MeasCh.results (Mach.meas_onMeas t c _)
    · rw [Mach.evt, Mach.rd_sf_ne (f := F.MEAS_EVT_RESULT) (q := R.MEAS_CH_RES_SEQ) _ _
        (by simp only [Reg.at_, R.MEAS_CH_RES_SEQ, F.MEAS_EVT_RESULT, R.MEAS_EVT]; omega), Mach.rd_wr_self]
      exact Nat.mod_eq_of_lt (Nat.lt_of_le_of_lt (Nat.min_le_left ..) (by decide))
    · simp only [Mach.evt_mem, Mach.wr_mem, Mach.onMeas_mem]
  · intro s c hc h hpend
    exact take_gives h (by simpa using hc) (by simp only [measResultWrite, if_neg (Nat.not_le.2 hc), hpend])
  · intro s c v hc hv h hbit hhost
    exact take_gives h (by simp; omega) (by simp [measStrCtrlWrite, Nat.not_le.2 hc, hbit, hhost])
  · intro s c v hc hv h hbit hhost hoff
    have hodd : v % 2 = 1 := by simpa [bitOf_eq_testBit, Nat.testBit_zero] using hbit
    obtain ⟨t, ht⟩ : ∃ t, t = s.m.wr R.MEAS_CH_STR_CTRL 1 c := ⟨_, rfl⟩
    have hrow : measStrCtrlWrite c v s.m = (t.wr R.MEAS_CH_STR_WR (t.rd R.MEAS_CH_STR_RD c) c).onMeas c
        (fun q => { q with segFlag := true, gapFlag := false, unit := [] }) := by
      simp [measStrCtrlWrite, Nat.not_le.2 hc, hbit, hhost, hoff, hodd, ht]
    have hrd : t.rd R.MEAS_CH_STR_RD c = s.m.rd R.MEAS_CH_STR_RD c := by
      simp (disch := decide) only [ht, Mach.rd_wr_inst]
    refine ⟨_, take_gives h (by simp; omega) hrow, ?_, ?_, ?_, ?_⟩
    · change (t.wr R.MEAS_CH_STR_WR _ c).on F.MEAS_CH_STR_CTRL_EN c = true
      simp (disch := decide) only [Mach.on, Mach.gf_wr_inst]
      simp only [ht, Mach.gf, F.MEAS_CH_STR_CTRL_EN, Mach.rd_wr_self]
      decide
    · change (t.wr R.MEAS_CH_STR_WR _ c).rd R.MEAS_CH_STR_WR c = _
      rw [Mach.rd_wr_self, Nat.mod_eq_of_lt (Mach.rd_lt ..), hrd]
    · change (t.wr R.MEAS_CH_STR_WR _ c).rd R.MEAS_CH_STR_RD c = _
      simp (disch := decide) only [Mach.rd_wr_inst, hrd]
    · exact congrArg MeasCh.segFlag (Mach.meas_onMeas _ c _)
  · intro s c v hc hv h hbit
    have heven : v % 2 = 0 := by simpa [bitOf_eq_testBit, Nat.testBit_zero] using hbit
    have hrow : measStrCtrlWrite c v s.m = (s.m.wr R.MEAS_CH_STR_CTRL 0 c).onMeas c (fun q => { q with unit := [] }) := by
      simp [measStrCtrlWrite, Nat.not_le.2 hc, hbit, heven]
    refine ⟨_, take_gives h (by simp; omega) hrow, ?_, congrArg MeasCh.unit (Mach.meas_onMeas _ c _)⟩
    change (s.m.wr R.MEAS_CH_STR_CTRL 0 c).on F.MEAS_CH_STR_CTRL_EN c = false
    simp only [Mach.on, Mach.gf, F.MEAS_CH_STR_CTRL_EN, Mach.rd_wr_self]
    decide
  · intro s k inp out q p t hk h ht hen hpath habs hsup hmark hpass
    subst ht
    obtain ⟨m, hrow, hm⟩ := latencyRefresh_measures hk hen hpath habs hsup hmark (inp := inp) (out := out) (q := q) hpass
    exact ⟨m, take_gives h (by simpa using hk) hrow, hm⟩
  · intro s k inp out q hk h hen
    refine take_gives h (by simpa using hk) ?_
    have hfloor : s.m.latFloor k = s.m.sf F.TIME_LAT_STAT_VALID 0 k := by rw [Mach.latFloor, if_pos hen]
    unfold latencyRefresh
    rw [if_neg (by omega), hfloor]
    extract_lets bad
    exact if_pos (Bool.or_eq_true_iff.2 (.inl (decide_eq_true hen)))

end Sys2Proof.Machine
end

section
/-! SUPPORT. Footprints of stores through the interconnect (R475, R496, R498), of replies (R276), and of links that drop (R439). -/
namespace Sys2Proof.Machine

/-- What a store may touch: memory, what the DRAM controller keeps, and the registers of the interconnect and above. -/
def storeTouch : Footprint := ⟨[.err, .mem, .ddr], [(0x500000, none)]⟩

section
variable (s : Mach)

theorem Mach.checkWord_storeTouch (reader w : Nat) : s.onlyIn storeTouch (s.checkWord reader w) := by
  unfold Mach.checkWord
  split
  · extract_lets t u sec
    have ht : s.onlyIn storeTouch t := by simp (disch := decide) [t]
    have hu : s.onlyIn storeTouch u := by
      simp only [u]
      split <;> simp (disch := decide) [ht]
    split <;> simp (disch := decide) [hu]
  · split <;> simp (disch := decide)

theorem Mach.wordWritten_onlyIn (w : Nat) : s.onlyIn storeTouch (s.wordWritten w) := by
  unfold Mach.wordWritten
  extract_lets t weak bad
  have ht : s.onlyIn storeTouch t := by simp (disch := decide) [t]
  refine (Mach.onlyIn_when _ _ ?_).2 ht
  simp (disch := decide)

theorem Mach.issueWrites_onlyIn (n : Nat) : s.onlyIn storeTouch (s.issueWrites n) := by
  refine (Mach.onlyIn_onDdr _ (by decide)).2 ((Mach.onlyIn_each _ _ fun u q _ => ?_).2 (s.onlyIn_refl _))
  obtain ⟨b, hb⟩ := u.bankAccess_eq q.line
  rw [hb]
  simp (disch := decide)

theorem Mach.queueLines_onlyIn (a n : Nat) : s.onlyIn storeTouch (s.queueLines a n) := by
  refine (Mach.onlyIn_each _ _ fun u l _ => ?_).2 (s.onlyIn_refl _)
  split
  · exact u.onlyIn_refl _
  · exact (Mach.onlyIn_onDdr _ (by decide)).2 (u.issueWrites_onlyIn _)

end

/-- A fold that carries a code beside the machine stays within the footprint of its steps. -/
theorem Mach.onlyIn_foldl {α β : Type} {F : Footprint} {f : β × Mach → α → β × Mach} (hf : ∀ (acc : β × Mach) (a : α), acc.2.onlyIn F (f acc a).2) (l : List α)
    {s : Mach} (acc : β × Mach) (h : s.onlyIn F acc.2) : s.onlyIn F (l.foldl f acc).2 := by
  induction l generalizing acc with
  | nil => exact h
  | cons a l ih => exact ih _ (Mach.onlyIn_trans h (hf acc a))

theorem Mach.dramWrite_onlyIn (s : Mach) (a : Nat) (l : List Byte) : s.onlyIn storeTouch (s.dramWrite a l).2 := by
  unfold Mach.dramWrite
  extract_lets n first words r
  have hr : s.onlyIn storeTouch r.2 := by
    refine Mach.onlyIn_foldl (fun acc w => ?_) _ _ (s.onlyIn_refl _)
    obtain ⟨code, u⟩ := acc
    dsimp -zeta only
    extract_lets lo hi part t
    have ht : u.onlyIn storeTouch t := by
      refine Mach.onlyIn_trans ?_ (Mach.checkWord_storeTouch _ 6 w)
      simp (disch := decide)
    split
    · exact Mach.onlyIn_trans ((Mach.onlyIn_mwr _ _ (by decide)).2 (u.onlyIn_refl _)) (Mach.wordWritten_onlyIn _ w)
    · split
      · exact ht
      · exact Mach.onlyIn_trans ((Mach.onlyIn_mwr _ _ (by decide)).2 ht) (Mach.wordWritten_onlyIn _ w)
  exact Mach.onlyIn_trans hr (Mach.queueLines_onlyIn _ a n)

theorem Mach.store_onlyIn (s : Mach) (a : Nat) (l : List Byte) : s.onlyIn storeTouch (s.store a l).2 := by
  unfold Mach.store
  split
  · exact s.dramWrite_onlyIn a l
  · exact (Mach.onlyIn_mwr _ _ (by decide)).2 (s.onlyIn_refl _)

theorem Mach.partStore_onlyIn (s : Mach) (a : Nat) (l : List Byte) : s.onlyIn storeTouch (s.partStore a l) := by
  unfold Mach.partStore
  split
  · exact (Mach.onlyIn_mwr _ _ (by decide)).2 (s.onlyIn_refl _)
  · exact s.dramWrite_onlyIn a l
  · exact s.onlyIn_refl _

theorem Mach.busErr_storeTouch (s : Mach) (m id t a n code : Nat) (wr : Bool) : s.onlyIn storeTouch (s.busErr m id t a n code wr) := by
  have hcounted : s.onlyIn storeTouch (s.bump R.MATRIX_ERRORS) := by simp (disch := decide)
  refine Mach.onlyIn_trans hcounted (Mach.onlyIn_mono (s.busErr_onlyIn m id t a n code wr) (by decide) fun a ha => ?_)
  exact Footprint.covers_below 0x500000 (by decide) (by simpa [storeTouch, Footprint.covers] using ha)

theorem Mach.busWrite_onlyIn (s : Mach) (m id a : Nat) (l : List Byte) : s.onlyIn storeTouch (s.busWrite m id a l) := by
  unfold Mach.busWrite
  extract_lets c
  split
  · exact s.busErr_storeTouch ..
  · generalize hr : s.store a l = r
    obtain ⟨code, t⟩ := r
    have ht : s.onlyIn storeTouch t := by
      have := s.store_onlyIn a l
      rwa [hr] at this
    simp only []
    split
    · exact ht
    · exact Mach.onlyIn_trans ht (t.busErr_storeTouch ..)

/-! ## Replies (R276, R278) -/

section
variable {s t : Mach} {F : Footprint}

theorem Mach.onlyIn_pushReply (x : Xport) (p : List Byte) (h : .cmd ∈ F.parts) : s.onlyIn F (t.pushReply x p) ↔ s.onlyIn F t := by
  unfold Mach.pushReply
  split <;> exact Mach.onlyIn_onCmd _ h

theorem Mach.onlyIn_pushReplies (x : Xport) (l : List (List Byte)) (h : .cmd ∈ F.parts) :
    s.onlyIn F (t.pushReplies x l) ↔ s.onlyIn F t :=
  Mach.onlyIn_each _ _ fun u p _ => (Mach.onlyIn_pushReply x p h).2 (u.onlyIn_refl F)

theorem Mach.onlyIn_flushGo (h : .cmd ∈ F.parts) (l kept : List Rel) (t : Mach) : t.onlyIn F (flushGo l kept t).2 := by
  induction l generalizing kept t with
  | nil => exact t.onlyIn_refl F
  | cons r rest ih =>
    unfold flushGo
    extract_lets blocked
    split
    · extract_lets pushed noted
      refine Mach.onlyIn_trans ((Mach.onlyIn_onCmd _ h).2 ?_) (ih kept noted)
      exact (Mach.onlyIn_each _ _ fun u _ _ => (Mach.onlyIn_pushReplies _ _ h).2 (u.onlyIn_refl F)).2 (t.onlyIn_refl F)
    · exact ih ..

/-- Answering a command touches the state of the commands. -/
theorem Mach.onlyIn_answer (id st det tick : Nat) (data : List Byte) (h : .cmd ∈ F.parts) :
    s.onlyIn F (t.answer id st det tick data) ↔ s.onlyIn F t :=
  Mach.onlyIn_iff ((Mach.onlyIn_onCmd _ h).2 (Mach.onlyIn_trans ((Mach.onlyIn_onCmd _ h).2 (t.onlyIn_refl F))
    (Mach.onlyIn_flushGo h _ _ _)))

end

/-! ## The registers of SYS and CLK (R465) -/

/-- Everything but the PLLs and the registers of SYS and CLK. -/
def clkAbove : Footprint := ⟨[.live, .mem, .free, .err, .tm, .ddr, .cmd, .net, .irqN], [(0x200000, none)]⟩

/-- A window from the CLK registers up takes every window that begins above them. -/
theorem Mach.clkAbove_of {s t : Mach} {F : Footprint} (h : s.onlyIn F t) (hp : ∀ p ∈ F.parts, p ∈ clkAbove.parts)
    (hw : ∀ w ∈ F.windows, 0x200000 ≤ w.1) : s.onlyIn clkAbove t := by
  refine Mach.onlyIn_mono h hp fun a ha => Footprint.covers_below 0x200000 hw ?_
  simpa [clkAbove, Footprint.covers] using ha

theorem Mach.clkAbove_endFrame (s : Mach) (p t n x : Nat) : s.onlyIn clkAbove (s.endFrame p t n x) := by
  unfold Mach.endFrame
  extract_lets size head eof f told
  have htold : s.onlyIn clkAbove told := Mach.clkAbove_of (s.busWrite_onlyIn ..) (by decide) (by decide)
  exact (Mach.onlyIn_wr_open _ _ _ _ (by decide)).2 htold

theorem Mach.onlyIn_evt_open {s t : Mach} {F : Footprint} (f : Fld) (i : Nat) (h : F.open_ f.reg = true) : s.onlyIn F (t.evt f i) ↔ s.onlyIn F t :=
  Mach.onlyIn_wr_open _ _ _ _ h

theorem Mach.onlyIn_bump_open {s t : Mach} {F : Footprint} (r : Reg) (i n : Nat) (h : F.open_ r = true) :
    s.onlyIn F (t.bump r i n) ↔ s.onlyIn F t := Mach.onlyIn_wr_open _ _ _ _ h

theorem Mach.onlyIn_sf_open {s t : Mach} {F : Footprint} (f : Fld) (v i j : Nat) (h : F.open_ f.reg = true) :
    s.onlyIn F (t.sf f v i j) ↔ s.onlyIn F t := Mach.onlyIn_wr_open _ _ _ _ h

theorem Mach.clkAbove_time {s t : Mach} (h : s.onlyIn timeTouch t) : s.onlyIn clkAbove t := Mach.clkAbove_of h (by decide) (by decide)

theorem Mach.clkAbove_linkDrop (s : Mach) (p : Nat) : s.onlyIn clkAbove (s.linkDrop p) := by
  unfold Mach.linkDrop
  split
  · exact s.onlyIn_refl _
  · extract_lets n down told cut lost gone quiet
    have htold : s.onlyIn clkAbove told := by
      simp (disch := decide) only [told, down, Mach.onlyIn_evt_open, Mach.onlyIn_sf_open, Mach.onlyIn_refl]
    have hcut : s.onlyIn clkAbove cut := by
      simp only [cut]
      split
      · split
        · exact Mach.onlyIn_trans htold (told.clkAbove_endFrame ..)
        · split
          · simp (disch := decide) only [Mach.onlyIn_bump_open, htold]
          · exact htold
      · exact htold
    have hlost : s.onlyIn clkAbove lost := by
      refine (Mach.onlyIn_each _ _ fun u m _ => ?_).2 hcut
      simp (disch := decide) only [Mach.onlyIn_bump_open, Mach.onlyIn_refl]
    have hquiet : s.onlyIn clkAbove quiet := by
      simp (disch := decide) only [quiet, gone, Mach.onlyIn_onTime, Mach.onlyIn_onNet, hlost]
    refine Mach.onlyIn_trans hquiet (Mach.clkAbove_time ?_)
    simp (disch := decide)

theorem Mach.clkAbove_dramLoseClock (s : Mach) : s.onlyIn clkAbove s.dramLoseClock := by
  unfold Mach.dramLoseClock
  split
  · exact s.onlyIn_refl _
  · extract_lets t
    have ht : s.onlyIn clkAbove t := by simp (disch := decide) [t, Mach.dramStop, Mach.closeRows]
    split
    · exact ht
    · exact (Mach.onlyIn_sf_open _ _ _ _ (by decide)).2 ht

theorem Mach.clkAbove_dramGo {s t : Mach} (h : s.onlyIn clkAbove t) : s.onlyIn clkAbove t.dramGo := by
  simp (disch := decide) [Mach.dramGo, Mach.setDdr, h]

theorem Mach.clkAbove_freqReply {s t : Mach} (c : FreqChg) (st det : Nat) (h : s.onlyIn clkAbove t) : s.onlyIn clkAbove (t.freqReply c st det) := by
  unfold Mach.freqReply
  split
  · exact (Mach.onlyIn_onCmd _ (by decide)).2 ((Mach.onlyIn_answer _ _ _ _ _ (by decide)).2 h)
  · exact h

theorem Mach.clkAbove_selfRefExit (s : Mach) : s.onlyIn clkAbove s.selfRefExit := by
  unfold Mach.selfRefExit
  split
  · split
    · extract_lets cleared go set
      have hgo : s.onlyIn clkAbove go := Mach.clkAbove_dramGo (by simp (disch := decide) [cleared])
      split
      · exact hgo
      · refine Mach.clkAbove_freqReply _ _ _ ?_
        have hset : s.onlyIn clkAbove set := by
          simp only [set]
          split
          · exact (Mach.onlyIn_sf_open _ _ _ _ (by decide)).2 hgo
          · exact hgo
        simp (disch := decide) only [Mach.onlyIn_evt_open, Mach.onlyIn_bump_open, hset]
    · exact Mach.clkAbove_dramGo (s.onlyIn_refl _)
  · exact s.onlyIn_refl _

end Sys2Proof.Machine
end

section
/-! PROOF. XIN, commits, locks and band tries of the PLLs (R459 to R466). -/
namespace Sys2Proof.Machine

/-! ## Registers of the clock block -/

/-- The state of a PLL lies in its own register: a write of any other leaves it. -/
theorem Mach.pllState_wr {s : Mach} {r : Reg} (v : Nat) {i j p : Nat} (h : r.at_ i j ≠ R.CLK_PLL_STAT.at_ p 0) :
    (s.wr r v i j).pllState p = s.pllState p := Mach.gf_wr_ne (g := F.CLK_PLL_STAT_STATE) s v h

/-- A register of the clock block whose instances are PLLs is no common one. -/
theorem clk_ne_of_common {r q : Reg} {i p : Nat} (hr : r.base < 0x100100) (hs : r.s1 = 0) (hq : 0x100100 ≤ q.base) : r.at_ i 0 ≠ q.at_ p 0 := by
  simp only [Reg.at_, hs]
  omega

theorem clkAbove_below {r : Reg} {p : Nat} (hp : p < 4) (hs : r.s1 ≤ 0x100) (hb : r.base < 0x101000) : clkAbove.covers (r.at_ p 0) = false := by
  refine Footprint.covers_below 0x200000 (by decide) ?_
  have : p * r.s1 ≤ 3 * 0x100 := Nat.mul_le_mul (by omega) hs
  simp only [Reg.at_]
  omega

section
variable (s : Mach) (p : Nat)

theorem Mach.pllState_common {s : Mach} {f : Fld} (v : Nat) {i p : Nat} (hb : f.reg.base < 0x100100) (hs : f.reg.s1 = 0) :
    (s.sf f v i 0).pllState p = s.pllState p := Mach.pllState_wr _ (clk_ne_of_common hb hs (by decide))

theorem Mach.setPll_pllState {st : Nat} (h : st < 8) : (s.setPll p st).pllState p = st := by
  unfold Mach.setPll
  extract_lets t u
  have ht : t.pllState p = st := Mach.gf_sf_of_lt _ p 0 (by decide) h
  have hu : u.pllState p = st := by
    simp only [u]
    split
    · exact ht
    · exact (Mach.gf_sf_disjoint (f := F.CLK_PLL_STAT_LOCKRUN) (g := F.CLK_PLL_STAT_STATE) _ _ p 0 rfl (by decide) (by decide)).trans ht
  exact (Mach.pllState_common _ (by decide) rfl).trans hu

/-- Setting a PLL's state leaves the other registers of the PLLs and of the blocks below alone. -/
theorem Mach.setPll_rd (st : Nat) {r : Reg} (hs : r.s1 = 0x100) (hb : 0x100100 ≤ r.base) (hne : r.base ≠ R.CLK_PLL_STAT.base) :
    (s.setPll p st).rd r p = s.rd r p := by
  unfold Mach.setPll
  extract_lets t u
  have ht : t.rd r p = s.rd r p := Mach.rd_sf_inst (f := F.CLK_PLL_STAT_STATE) s st p hs.symm (Ne.symm hne)
  have hu : u.rd r p = s.rd r p := by
    simp only [u]
    split
    · exact ht
    · exact (Mach.rd_sf_inst (f := F.CLK_PLL_STAT_LOCKRUN) t 0 p hs.symm (Ne.symm hne)).trans ht
  exact (Mach.rd_sf_ne (f := F.CLK_STAT_LOCKED) _ _ (clk_ne_of_common (by decide) rfl hb)).trans hu

theorem Mach.pllState_raise {s : Mach} (c : ECode) (i a : Nat) {p : Nat} (hp : p < 4) : (s.raise c i a).pllState p = s.pllState p :=
  Mach.gf_of_rd (Mach.raise_rd_below s c i a (by simp only [Reg.at_, R.CLK_PLL_STAT, F.CLK_PLL_STAT_STATE]; omega))

theorem Mach.bandFail_pllState {p : Nat} (hp : p < 4) : (s.bandFail p).pllState p = 5 := by
  unfold Mach.bandFail
  refine (Mach.pllState_raise (s := (s.setPll p 5).evt F.CLK_EVT_BAND_FAIL) _ _ _ hp).trans ?_
  exact (Mach.pllState_common _ (by decide) rfl).trans (s.setPll_pllState p (by decide))

theorem Mach.bandFail_rd {p : Nat} (hp : p < 4) {r : Reg} (hs : r.s1 = 0x100) (hb : 0x100100 ≤ r.base) (hb' : r.base < 0x101000)
    (hne : r.base ≠ R.CLK_PLL_STAT.base) : (s.bandFail p).rd r p = s.rd r p := by
  unfold Mach.bandFail
  refine (Mach.raise_rd_below ((s.setPll p 5).evt F.CLK_EVT_BAND_FAIL) _ _ _ (by simp only [Reg.at_, hs]; omega)).trans ?_
  exact (Mach.rd_sf_ne (f := F.CLK_EVT_BAND_FAIL) _ _ (clk_ne_of_common (by decide) rfl hb)).trans (s.setPll_rd p 5 hs hb hne)

/-- A band try leaves a PLL unlocked. -/
theorem Mach.tryBand_unlocked {p : Nat} (hp : p < 4) (l : List Nat) : (s.tryBand p l).pllLocked p = false := by
  have h : (s.tryBand p l).pllState p ≠ 3 := by
    cases l with
    | nil =>
      rw [Mach.tryBand, s.bandFail_pllState hp]
      decide
    | cons e r =>
      unfold Mach.tryBand
      refine ne_of_eq_of_ne ((Mach.gf_sf_disjoint (f := F.CLK_PLL_STAT_BAND) (g := F.CLK_PLL_STAT_STATE) _ _ p 0 rfl (by decide)
        (by decide)).trans (s.setPll_pllState p ?_)) ?_ <;> split <;> decide
  simpa [Mach.pllLocked] using h

theorem Mach.tryBand_rd {p : Nat} (hp : p < 4) (l : List Nat) {r : Reg} (hs : r.s1 = 0x100) (hb : 0x100100 ≤ r.base) (hb' : r.base < 0x101000)
    (hne : r.base ≠ R.CLK_PLL_STAT.base) : (s.tryBand p l).rd r p = s.rd r p := by
  cases l with
  | nil => exact s.bandFail_rd hp hs hb hb' hne
  | cons e l =>
    unfold Mach.tryBand
    exact (Mach.rd_sf_inst (f := F.CLK_PLL_STAT_BAND) _ _ p hs.symm (Ne.symm hne)).trans (s.setPll_rd p _ hs hb hne)

theorem Mach.pllSt_onPll (f : PllSt → PllSt) : (s.onPll p f).pllSt p = f (s.pllSt p) := mget_mput_self ..

/-- The first candidate of a list is the band that is tried. -/
theorem Mach.tryBand_takes {b : Nat} (r : List Nat) (hb : b < 16) :
    (s.tryBand p (b :: r)).gf F.CLK_PLL_STAT_BAND p = b ∧ ((s.tryBand p (b :: r)).pllSt p).cand = b :: r := by
  unfold Mach.tryBand
  exact ⟨Mach.gf_sf_of_lt (f := F.CLK_PLL_STAT_BAND) _ p 0 (by decide) hb, congrArg PllSt.cand (Mach.pllSt_onPll _ p _)⟩

end

/-! ## Loss of lock and lock (R461, R465) -/

/-- What a PLL's loss of lock does beyond its own registers (R465). -/
def Mach.pllLost (s : Mach) (p : Nat) : Mach :=
  match p with
  | 0 => s.toBackup
  | 1 => s.sf F.CLK_STAT_MEDIA_HOLD 1
  | 2 =>
    let a := if s.activePort = 1 then 1 else 0
    ((((s.linkDrop (1 - a)).linkDrop a).onTime (fun t => { t with bothLost := true })).setTimeState 3).gridHoldover
  | _ => s.dramLoseClock

theorem Mach.pllLost_lol (s : Mach) {p : Nat} (hp : p < 4) : (s.pllLost p).rd R.CLK_PLL_LOL p = s.rd R.CLK_PLL_LOL p := by
  unfold Mach.pllLost
  split
  · simp (disch := decide) only [Mach.toBackup, Mach.evt, Mach.rd_sf_ne]
  · exact Mach.rd_sf_ne _ _ (by decide)
  · extract_lets a
    refine Mach.onlyIn_rd (F := clkAbove) (Mach.clkAbove_time ?_ |> Mach.onlyIn_trans
      (Mach.onlyIn_trans (s.clkAbove_linkDrop (1 - a)) (Mach.clkAbove_linkDrop _ a))) _ _ _ (clkAbove_below hp (by decide) (by decide))
    simp (disch := decide)
  · exact Mach.onlyIn_rd s.clkAbove_dramLoseClock _ _ _ (clkAbove_below hp (by decide) (by decide))

theorem pllLossOfLock_of_locked {s : Mach} {p : Nat} (e : Int) (hp : p < 4) (h : s.pllLocked p = true) :
    pllLossOfLock p e s = (((((s.wr R.CLK_PLL_PHERR (toU 16 e) p).bump R.CLK_PLL_LOL p).orf F.CLK_EVT_LOL (2 ^ p)).raise E.PLL_LOL p
      (toU 32 e)).pllLost p).relock p := by
  unfold pllLossOfLock
  rw [if_neg (by simp [h, hp])]
  rfl

theorem pllLossOfLock_spec {s : Mach} {p : Nat} (e : Int) (hp : p < 4) (h : s.pllLocked p = true) :
    (pllLossOfLock p e s).pllLocked p = false
      ∧ (pllLossOfLock p e s).rd R.CLK_PLL_LOL p = Nat.min 0xFFFFFFFF (s.rd R.CLK_PLL_LOL p + 1) := by
  rw [pllLossOfLock_of_locked e hp h, Mach.relock]
  refine ⟨Mach.tryBand_unlocked _ hp _, ?_⟩
  rw [Mach.tryBand_rd _ hp _ rfl (by decide) (by decide) (by decide), Mach.pllLost_lol _ hp,
    Mach.raise_rd_below _ _ _ _ (by simp only [Reg.at_, R.CLK_PLL_LOL]; omega), Mach.orf,
    Mach.rd_sf_ne (f := F.CLK_EVT_LOL) _ _ (clk_ne_of_common (by decide) rfl (by decide)), Mach.rd_bump_self,
    Mach.rd_wr_inst (r := R.CLK_PLL_PHERR) (q := R.CLK_PLL_LOL) _ _ _ rfl (by decide)]

/-- A PLL that locks is in LOCKED, its event is set, and the boot phase stands. -/
theorem Mach.lockPll_spec {s : Mach} {p : Nat} (hp : p < 4) (hst : s.pllState p = 1) (hwait : (s.pllSt p).wait = none) :
    (s.lockPll p).pllState p = 3 ∧ bitOf ((s.lockPll p).gf F.CLK_EVT_LOCK) p = true ∧ (s.lockPll p).phase = s.phase := by
  unfold Mach.lockPll
  extract_lets st run told held exited
  rw [if_neg (by simp [st, hst, hp])]
  have hrun : run.pllState p = 3 := (Mach.gf_sf_disjoint (f := F.CLK_PLL_STAT_LOCKRUN) (g := F.CLK_PLL_STAT_STATE) _ _ p 0 rfl (by decide)
    (by decide)).trans (s.setPll_pllState p (by decide))
  have htold : told.pllState p = 3 ∧ bitOf (told.gf F.CLK_EVT_LOCK) p = true := by
    refine ⟨(Mach.pllState_common _ (by decide) rfl).trans hrun, ?_⟩
    have : told.gf F.CLK_EVT_LOCK = (run.gf F.CLK_EVT_LOCK ||| 2 ^ p) % 2 ^ 4 := Mach.gf_sf_self _ _ _ _ _ (by decide)
    rw [this, bitOf_mod_two_pow _ hp, bitOf_or, bitOf_two_pow_self, Bool.or_true]
  have hphase : told.phase = s.phase := by
    refine (Mach.phase_sf _ _ _ _ (by decide)).trans ((Mach.phase_sf _ _ _ _ (by decide)).trans (s.setPll_phase p 3))
  have hheld : held.pllState p = 3 ∧ bitOf (held.gf F.CLK_EVT_LOCK) p = true ∧ held.phase = s.phase ∧ held.pll = s.pll := by
    obtain ⟨h1, h2⟩ := htold
    simp only [held]
    split
    · exact ⟨(Mach.pllState_common _ (by decide) rfl).trans h1,
        (congrArg (bitOf · p) (Mach.gf_sf_ne (g := F.CLK_EVT_LOCK) _ _ (by decide))).trans h2,
        (Mach.phase_sf _ _ _ _ (by decide)).trans hphase, by unfold told run Mach.setPll; split <;> rfl⟩
    · exact ⟨h1, h2, hphase, by unfold told run Mach.setPll; split <;> rfl⟩
  have hexited : exited.pllState p = 3 ∧ bitOf (exited.gf F.CLK_EVT_LOCK) p = true ∧ exited.phase = s.phase ∧ exited.pll = s.pll := by
    obtain ⟨h1, h2, h3, h4⟩ := hheld
    simp only [exited]
    split
    · have only := held.clkAbove_selfRefExit
      exact ⟨(Mach.onlyIn_gf only _ _ _ (clkAbove_below hp (by decide) (by decide))).trans h1,
        (congrArg (bitOf · p) (Mach.onlyIn_gf only F.CLK_EVT_LOCK 0 0 (by decide))).trans h2,
        (Mach.onlyIn_gf only F.SYS_BOOT_STAT_PHASE 0 0 (by decide)).trans h3, (only.1 .pll (by decide)).trans h4⟩
    · exact ⟨h1, h2, h3, h4⟩
  obtain ⟨h1, h2, h3, h4⟩ := hexited
  have hpll : exited.pllSt p = s.pllSt p := by simp only [Mach.pllSt, h4]
  rw [hpll, hwait]
  exact ⟨h1, h2, h3⟩

/-! ## Commits (R459, R462) -/

theorem Mach.lv_setLv_self (s : Mach) (r : Reg) (v i j : Nat) : (s.setLv r v i j).lv r i j = v % 2 ^ 32 := by
  simp [Mach.lv, Mach.setLv, mget_mput_self]

theorem Mach.lv_setLv_ne (s : Mach) {r q : Reg} (v : Nat) {i j a b : Nat} (h : r.at_ i j ≠ q.at_ a b) :
    (s.setLv r v i j).lv q a b = s.lv q a b := by
  simp [Mach.lv, Mach.setLv, mget_mput_ne _ _ _ h]

/-- The staged words of a commit by place: CTRL, FRAC, and the divider of each output. -/
theorem Mach.pllStaged_ctrl (s : Mach) (p : Nat) : wordAt (s.pllStaged p) 0 = s.rd R.CLK_PLL_CTRL p :=
  (BitVec.toNat_ofNat ..).trans (Nat.mod_eq_of_lt (Mach.rd_lt ..))

theorem Mach.pllStaged_frac (s : Mach) (p : Nat) : wordAt (s.pllStaged p) 1 = s.rd R.CLK_PLL_FRAC p :=
  (BitVec.toNat_ofNat ..).trans (Nat.mod_eq_of_lt (Mach.rd_lt ..))

theorem Mach.pllStaged_div (s : Mach) (p : Nat) {o : Nat} (ho : o < 4) : wordAt (s.pllStaged p) (2 + 3 * o) = s.rd R.CLK_PLL_OUT_DIV p o := by
  have h : wordAt (s.pllStaged p) (2 + 3 * o) = (BitVec.ofNat 32 (s.rd R.CLK_PLL_OUT_DIV p o)).toNat := by
    interval_cases o <;> rfl
  rw [h, BitVec.toNat_ofNat, Nat.mod_eq_of_lt (Mach.rd_lt ..)]

/-- A commit puts the staged dividers in force. -/
theorem Mach.pllApply_div (s : Mach) (p : Nat) (l : List Word) {o : Nat} (ho : o < 4) :
    (s.pllApply p l).lv R.CLK_PLL_OUT_DIV p o = wordAt l (2 + 3 * o) := by
  have hlt : ∀ i, wordAt l i % 2 ^ 32 = wordAt l i := fun i => Nat.mod_eq_of_lt (BitVec.isLt _)
  have hup : upto 4 = [0, 1, 2, 3] := rfl
  simp only [Mach.pllApply, hup, Mach.each_cons, Mach.each_nil]
  interval_cases o <;>
    simp (disch := (simp only [Reg.at_, R.CLK_PLL_OUT_DIV, R.CLK_PLL_OUT_PHASE, R.CLK_PLL_OUT_CTL]; omega)) only [Mach.lv_setLv_ne,
      Mach.lv_setLv_self, hlt]

theorem Mach.pllState_dco (s : Mach) (v p : Nat) : (s.wr R.CLK_PLL_DCO v p).pllState p = s.pllState p :=
  Mach.pllState_wr (r := R.CLK_PLL_DCO) v (Reg.at_ne_of_base (r := R.CLK_PLL_DCO) (q := R.CLK_PLL_STAT) rfl (by decide) p)

theorem Mach.lv_wr (s : Mach) (r q : Reg) (v i j a b : Nat) : (s.wr r v i j).lv q a b = s.lv q a b := rfl

theorem Mach.pllState_setLv (s : Mach) (r : Reg) (v i j p : Nat) : (s.setLv r v i j).pllState p = s.pllState p := rfl

theorem Mach.pllApply_pllState (s : Mach) (p : Nat) (l : List Word) : (s.pllApply p l).pllState p = s.pllState p := by
  unfold Mach.pllApply
  refine Mach.each_keeps (fun t => t.pllState p = s.pllState p) _ (fun t o ht => ?_) _ _ ?_
  · simp only [Mach.pllState_setLv, ht]
  · simp only [Mach.pllState_dco, Mach.pllState_setLv]

/-- A commit of a locked PLL that stages its multiplier as it is hands its outputs over and keeps lock. -/
theorem pllCommit_outputs {s : Mach} {p v : Nat} (hp : p < 4) (hbit : bitOf v 0 = true) (href : s.pllRefuse p = false) (hst : s.pllState p = 3)
    (hctrl : s.rd R.CLK_PLL_CTRL p = s.lv R.CLK_PLL_CTRL p) (hfrac : s.rd R.CLK_PLL_FRAC p = s.lv R.CLK_PLL_FRAC p) :
    pllCommit p v s = (s.pllApply p (s.pllStaged p)).wr R.CLK_PLL_DCO (s.rd R.CLK_PLL_DCO p) p := by
  simp [pllCommit, hp, hbit, href, hst, Mach.pllTake, Mach.pllStaged_ctrl, Mach.pllStaged_frac, hctrl, hfrac]

/-- Settles O9. -/
theorem clockEvents : Obligations.ClockEvents := by
  unfold Obligations.ClockEvents
  refine ⟨fun s => takeAlways_gives rfl rfl, fun s => takeAlways_gives rfl rfl, ?_, ?_, ?_, ?_, ?_, ?_, ?_⟩
  · intro s h hback hlock
    refine ⟨_, take_gives h rfl (by rw [pllSysReturn, if_pos (by simp [hback, hlock])]), ?_, ?_, ?_, ?_, ?_⟩
    · exact Mach.registersOnly_sf _ _ _ _ (Mach.registersOnly_sf _ _ _ _ (Mach.registersOnly_sf _ _ _ _
        (Mach.registersOnly_sf _ _ _ _ (Mach.registersOnly_refl _))))
    all_goals
      simp (disch := decide) only [Mach.evt, Mach.gf_sf_ne, Mach.gf_sf_self]
      rfl
  · intro s p v h hp hv hbit href
    exact take_gives h (by simp; omega) (by simp [pllCommit, hp, hbit, href])
  · intro s p v h hp hv hbit href hlock hctrl hfrac
    have hst : s.m.pllState p = 3 := by simpa [Mach.pllLocked] using hlock
    refine ⟨_, take_gives h (by simp; omega) (pllCommit_outputs hp hbit href hst hctrl hfrac), ?_, fun o ho => ?_⟩
    · rw [Mach.pllLocked, Mach.pllState_dco, Mach.pllApply_pllState, hst]
      rfl
    · rw [Mach.lv_wr, Mach.pllApply_div _ _ _ ho, Mach.pllStaged_div _ _ ho]
  · exact fun s p e h hp hlock => ⟨_, take_gives h (by simpa using hp) rfl, pllLossOfLock_spec e hp hlock⟩
  · intro s p h hp hst hwait hphase
    obtain ⟨hlocked, hevt, hsame⟩ := Mach.lockPll_spec hp hst hwait
    have hrow : pllLock p s.m = s.m.lockPll p := by
      rw [pllLock]
      exact if_neg (by simp [hsame, hphase])
    exact ⟨_, take_gives h (by simpa using hp) hrow, hlocked, hevt⟩
  · intro s p a b r h hp hst hcand hb
    have hrow : bandTimeout p s.m = s.m.tryBand p (b :: r) := by
      simp [bandTimeout, hp, hst, hcand]
    exact ⟨_, take_gives h (by simpa using hp) hrow, s.m.tryBand_takes p r hb⟩
  · intro s p b r h hp hst hcand
    have hb : b < 16 := by
      have : b ∈ s.m.bandCands p := by rw [hcand]; exact List.mem_cons_self ..
      exact List.mem_range.1 (List.mem_filter.1 this).1
    have hrow : bandRetry p s.m = s.m.tryBand p (b :: r) := by
      simp [bandRetry, hp, hst, Mach.relock, hcand]
    exact ⟨_, take_gives h (by simpa using hp) hrow, s.m.tryBand_takes p r hb⟩

end Sys2Proof.Machine
end

section
/-! PROOF. Packets that arrive (R262, R271): the first check that fails answers. -/
namespace Sys2Proof.Machine

/-- The origin a packet of transport `x` with PCIe tag `tag` names in its header. -/
def headerOrigin (x : Xport) (tag : Nat) (raw : List Byte) : Origin :=
  ⟨0, x, fld raw 6 1, fld raw 7 1, fld raw 8 2, tag, bitOf (fld raw 3 1) 1, bitOf (fld raw 3 1) 3⟩

/-- Is a packet no command of its own length? -/
def malformed (raw : List Byte) : Bool :=
  fld raw 0 2 != 0x5643 || raw.length % 4 != 0 || raw.length < 20 || 4096 < raw.length || fld raw 4 2 != raw.length

theorem malformed_iff {raw : List Byte} : malformed raw = true ↔
    fld raw 0 2 ≠ 0x5643 ∨ raw.length % 4 ≠ 0 ∨ raw.length < 20 ∨ 4096 < raw.length ∨ fld raw 4 2 ≠ raw.length := by
  simp [malformed, or_assoc]

/-- A packet malformed is counted, and over PCIe answered. -/
theorem Mach.checkIn_of_malformed {s : Mach} {x : Xport} {tag : Nat} {raw : List Byte} (h : malformed raw = true) :
    s.checkIn x tag raw = match x with
      | .pcie _ => (s.bump R.CMD_RX_BAD).reject ⟨0, x, 0, 0, 0, tag, false, false⟩ 0 ST.BAD_LENGTH 0
      | _ => s.bump R.CMD_RX_BAD := by
  unfold Mach.checkIn
  extract_lets n o op
  exact if_pos h

section
variable {s : Mach} {x : Xport} {tag : Nat} {raw : List Byte} (hgood : malformed raw = false)
include hgood

theorem Mach.checkIn_bad_crc (hcrc : fld raw (raw.length - 4) 4 ≠ crc32c (raw.take (raw.length - 4))) :
    s.checkIn x tag raw = (s.bump R.CMD_CRC_ERR).reject (headerOrigin x tag raw) (fld raw 10 2) ST.BAD_CRC 0 := by
  unfold Mach.checkIn
  extract_lets n o op
  exact (if_neg (Bool.eq_false_iff.1 hgood)).trans (if_pos (by simpa using hcrc))

variable (hcrc : fld raw (raw.length - 4) 4 = crc32c (raw.take (raw.length - 4)))
include hcrc

theorem Mach.checkIn_bad_field {d : Nat} (hstep : step3 raw = some d) :
    s.checkIn x tag raw = s.reject (headerOrigin x tag raw) (fld raw 10 2) ST.BAD_PARAM d := by
  unfold Mach.checkIn
  extract_lets n o op
  refine (if_neg (Bool.eq_false_iff.1 hgood)).trans ?_
  rw [if_neg (by simpa using hcrc), hstep]
  rfl

variable (hstep : step3 raw = none)
include hstep

theorem Mach.checkIn_no_session (hsess : fld raw 6 1 ≠ 255) (hnone : mfind s.cmd.sess (fld raw 6 1) = none) :
    s.checkIn x tag raw = s.reject (headerOrigin x tag raw) (fld raw 10 2) ST.STATE 1 := by
  unfold Mach.checkIn
  extract_lets n o op
  refine (if_neg (Bool.eq_false_iff.1 hgood)).trans ?_
  rw [if_neg (by simpa using hcrc), hstep]
  simp only [o, if_neg hsess, hnone]
  rw [if_neg (by simp [hsess])]
  rfl

theorem Mach.checkIn_no_open (hsess : fld raw 6 1 = 255) (hopen : fld raw 10 2 ≠ 0x0101) (hping : fld raw 10 2 ≠ 0x0105) :
    s.checkIn x tag raw = s.reject (headerOrigin x tag raw) (fld raw 10 2) ST.STATE 1 := by
  unfold Mach.checkIn
  extract_lets n o op
  refine (if_neg (Bool.eq_false_iff.1 hgood)).trans ?_
  rw [if_neg (by simpa using hcrc), hstep]
  simp only [o, if_pos hsess]
  rw [if_neg (by simp [op, hopen, hping])]
  rfl

theorem Mach.checkIn_foreign {z : Sess} (hsess : fld raw 6 1 ≠ 255) (hz : mfind s.cmd.sess (fld raw 6 1) = some z) (hx : z.xport ≠ x) :
    s.checkIn x tag raw = s.reject (headerOrigin x tag raw) (fld raw 10 2) ST.STATE 1 := by
  unfold Mach.checkIn
  extract_lets n o op
  refine (if_neg (Bool.eq_false_iff.1 hgood)).trans ?_
  rw [if_neg (by simpa using hcrc), hstep]
  simp only [o, if_neg hsess, hz]
  rw [if_pos (by simpa using hx)]
  rfl

theorem Mach.checkIn_enters {z : Sess} (hsess : fld raw 6 1 ≠ 255) (hflow : fld raw 7 1 = 0) (hz : mfind s.cmd.sess (fld raw 6 1) = some z)
    (hx : z.xport = x) : s.checkIn x tag raw =
      (s.onCmd (fun c => { c with sess := mput c.sess (fld raw 6 1) { z with last := s.tm.up } })).enter (headerOrigin x tag raw) (fld raw 10 2)
        (groupOf (fld raw 10 2)) ((raw.drop 16).take (raw.length - 20)) := by
  unfold Mach.checkIn
  extract_lets n o op
  refine (if_neg (Bool.eq_false_iff.1 hgood)).trans ?_
  rw [if_neg (by simpa using hcrc), hstep]
  simp only [o, if_neg hsess, hz]
  rw [if_neg (by simpa using hx), if_pos hflow]
  rfl

end

/-- Settles O28. -/
theorem arrivingPacketsAreChecked : Obligations.ArrivingPacketsAreChecked := by
  unfold Obligations.ArrivingPacketsAreChecked
  refine ⟨fun s raw h => ⟨Mach.checkIn_of_malformed (malformed_iff.2 h), fun q tag => Mach.checkIn_of_malformed (malformed_iff.2 h)⟩, ?_⟩
  intro s x tag raw n o hn hmagic h4 h20 htop hlen ho
  subst hn
  have hgood : malformed raw = false := by
    rw [Bool.eq_false_iff, ne_eq, malformed_iff]
    omega
  subst ho
  refine ⟨Mach.checkIn_bad_crc hgood, ?_, ?_, ?_, ?_, ?_⟩
  · exact fun hcrc d => Mach.checkIn_bad_field hgood hcrc
  · exact fun hcrc hstep => Mach.checkIn_no_session hgood hcrc hstep
  · exact fun hcrc hstep hsess z => Mach.checkIn_foreign hgood hcrc hstep hsess
  · exact fun hcrc hstep => Mach.checkIn_no_open hgood hcrc hstep
  · exact fun hcrc hstep hsess hflow z => Mach.checkIn_enters hgood hcrc hstep hsess hflow

end Sys2Proof.Machine
end

section
/-! PROOF. Threads and cores: the charge of a command, ready and sliced threads, and a faulty core (R367 to R378). -/
namespace Sys2Proof.Machine

/-! ## The charge of a command's processing (R376) -/

section
variable {s : Mach} (l g k : Nat) (hback : s.on F.SCHED_STAT_BACKUP = false)
include hback

theorem Mach.charge_run : (s.charge l g k).rd64 R.SCHED_GRP_RUN_LO R.SCHED_GRP_RUN_HI g
    = (s.rd64 R.SCHED_GRP_RUN_LO R.SCHED_GRP_RUN_HI g + k) % 2 ^ 64 := by
  have h := Mach.rd64_wr64_self s (lo := R.SCHED_GRP_RUN_LO) (hi := R.SCHED_GRP_RUN_HI)
    (v := (s.rd64 R.SCHED_GRP_RUN_LO R.SCHED_GRP_RUN_HI g + k) % 2 ^ 64) g (Nat.mod_lt _ (by decide)) rfl (by decide)
  simp only [Mach.charge, hback, Bool.false_eq_true, if_false, Nat.one_mul]
  exact h

theorem Mach.charge_vt : (s.charge l g k).sch.vt =
    mput s.sch.vt g (s.sch.v g + ((k * 256 : Nat) : Rat) / Nat.max 1 (s.gf F.SCHED_GRP_WEIGHT_WEIGHT g)) := by
  have hw : (s.wr64 R.SCHED_GRP_RUN_LO R.SCHED_GRP_RUN_HI ((s.rd64 R.SCHED_GRP_RUN_LO R.SCHED_GRP_RUN_HI g + k) % 2 ^ 64) g).gf
      F.SCHED_GRP_WEIGHT_WEIGHT g = s.gf F.SCHED_GRP_WEIGHT_WEIGHT g := by
    simp (disch := decide) only [Mach.wr64, Mach.gf_wr_inst]
  simp only [Mach.charge, hback, Bool.false_eq_true, if_false, Nat.one_mul, hw]
  rfl

end

/-! ## A faulty core (R368) -/

/-- Taking core k out of service clears its bit and no other. -/
theorem Mach.coresLess_bit (s : Mach) {k j : Nat} (hj : j < 6) :
    bitOf ((s.sf F.SCHED_STAT_CORES (putBits (s.gf F.SCHED_STAT_CORES) k 1 0)).gf F.SCHED_STAT_CORES) j
      = if j = k then false else bitOf (s.gf F.SCHED_STAT_CORES) j := by
  rw [Mach.gf_sf_self _ _ _ _ _ (by decide)]
  refine (bitOf_mod_two_pow _ hj).trans ?_
  split
  · subst j
    exact bitOf_putBits_self _ k false
  · exact bitOf_putBits_ne _ _ (by assumption)

/-- A fault of a core that runs no thread: the core leaves service, and the fault is told. -/
theorem coreFault_idle {s : Mach} {k : Nat} (hk : k < 6) (hup : bitOf (s.gf F.SCHED_STAT_CORES) k = true) (hidle : mfind s.sch.cores k = none) :
    ∃ left : Nat, coreFault k s = (((s.sf F.SCHED_STAT_CORES (putBits (s.gf F.SCHED_STAT_CORES) k 1 0)).evt F.SCHED_EVT_CORE_FAULT).raise
      (E.CORE_FAULT (decide (left < 3))) k left).onSch (fun c => { c with cores := mdel c.cores k }) := by
  refine ⟨(s.sf F.SCHED_STAT_CORES (putBits (s.gf F.SCHED_STAT_CORES) k 1 0)).coresUp.length, ?_⟩
  unfold coreFault
  rw [if_neg (by simp [hk, hup])]
  simp only [hidle]

theorem coreFault_spec {s : Mach} {k : Nat} (hk : k < 6) (hup : bitOf (s.gf F.SCHED_STAT_CORES) k = true) (hidle : mfind s.sch.cores k = none) :
    (∀ j, j < 6 → bitOf ((coreFault k s).gf F.SCHED_STAT_CORES) j = if j = k then false else bitOf (s.gf F.SCHED_STAT_CORES) j)
      ∧ (coreFault k s).on F.SCHED_EVT_CORE_FAULT = true := by
  obtain ⟨left, hrow⟩ := coreFault_idle hk hup hidle
  obtain ⟨t, ht⟩ : ∃ t, t = s.sf F.SCHED_STAT_CORES (putBits (s.gf F.SCHED_STAT_CORES) k 1 0) := ⟨_, rfl⟩
  rw [← ht] at hrow
  have hgf : ∀ f : Fld, f.reg.at_ 0 0 < 0xD00000 → (coreFault k s).gf f = (t.evt F.SCHED_EVT_CORE_FAULT).gf f := fun f hf => by
    rw [hrow]
    exact Mach.gf_of_rd (Mach.raise_rd_below _ _ _ _ hf)
  refine ⟨fun j hj => ?_, ?_⟩
  · rw [hgf F.SCHED_STAT_CORES (by decide), Mach.evt, Mach.gf_sf_ne (f := F.SCHED_EVT_CORE_FAULT) _ _ (by decide), ht]
    exact s.coresLess_bit hj
  · rw [Mach.on, hgf F.SCHED_EVT_CORE_FAULT (by decide)]
    exact Mach.on_evt_self _ 0 rfl (by decide)

/-- Settles O30. -/
theorem threadsAndCores : Obligations.ThreadsAndCores := by
  unfold Obligations.ThreadsAndCores
  refine ⟨?_, ?_, ?_, ?_, ?_, ?_, ?_, ?_, ?_, ?_⟩
  · exact fun s i k c h hc => take_gives h rfl (by simp only [commandProcessingEnd, hc])
  · exact fun s i k h hc => take_gives h rfl (by simp only [commandProcessingEnd, hc])
  · intro s l g k hback _
    refine ⟨Mach.charge_run l g k hback, ?_, fun h hne => ?_⟩
    · rw [SchedSt.v, Mach.charge_vt l g k hback, mget_mput_self]
    · rw [SchedSt.v, Mach.charge_vt l g k hback, mget_mput_ne _ _ _ (Ne.symm hne), SchedSt.v]
  · intro s t l ht h h1 h2
    exact take_gives h (by simp; omega) (by simp [threadReady, ht, h1, h2, show ¬ 256 ≤ t by omega])
  · intro s t l ht h hst
    exact take_gives h (by simpa using ht) (by rcases hst with hst | hst <;> simp [threadReady, hst])
  · intro s k n t hk h ht hlow hready
    exact take_gives h (by simpa using hk) (by simp [sliceExpire, ht, Nat.not_le.2 hlow, hready])
  · intro s k n t hk h ht hlow
    exact take_gives h (by simpa using hk) (by simp [sliceExpire, ht, Nat.not_le.2 hlow, hlow])
  · intro s k n t hk h ht hlow hother
    refine take_gives h (by simpa using hk) ?_
    simp only [sliceExpire, ht, if_neg (Nat.not_le.2 hlow), hother, Bool.false_eq_true, if_false, if_true]
  · intro s k hk h hup hidle
    obtain ⟨hbits, hevt⟩ := coreFault_spec hk hup hidle
    refine ⟨_, take_gives h (by simpa using hk) rfl, ?_, fun j hj hne => ?_, hevt⟩
    · rw [hbits k hk, if_pos rfl]
    · rw [hbits j hj, if_neg hne]
  · exact fun s k hk h hdown => take_gives h (by simpa using hk) (by simp [coreFault, hdown])

end Sys2Proof.Machine
end

section
/-! PROOF. Release of commands in their flow's order, gaps and idle sessions (R272 to R278). -/
namespace Sys2Proof.Machine

/-! ## Dispatch leaves CMD.EVT alone

A thread's group, read as an index, is not bounded in every state, so the registers of a group are told apart from CMD.EVT by their
place within the group. -/

theorem Mach.cmdEvt_group {s : Mach} {r : Reg} (v g : Nat) (hs : r.s1 = 0x20) (hb : r.base % 0x20 ≠ 4) : (s.wr r v g).rd R.CMD_EVT = s.rd R.CMD_EVT :=
  Mach.rd_wr_ne _ _ (by simp only [Reg.at_, hs, R.CMD_EVT]; omega)

theorem Mach.cmdEvt_below {s : Mach} {r : Reg} (v : Nat) (h : r.at_ 0 0 ≠ R.CMD_EVT.at_ 0 0) : (s.wr r v).rd R.CMD_EVT = s.rd R.CMD_EVT :=
  Mach.rd_wr_ne _ _ h

theorem Mach.runOn_cmdEvt (s : Mach) (t k : Nat) : (s.runOn t k).rd R.CMD_EVT = s.rd R.CMD_EVT := by
  unfold Mach.runOn
  extract_lets th placed counted
  have hcounted : counted.rd R.CMD_EVT = s.rd R.CMD_EVT := by
    simp only [counted]
    split
    · exact Mach.cmdEvt_group _ _ rfl (by decide)
    · rfl
  split
  · rename_i c _
    split
    · exact hcounted
    · extract_lets w started late
      have hlate : late.rd R.CMD_EVT = s.rd R.CMD_EVT := by
        simp only [late]
        split
        · exact (Mach.cmdEvt_below _ (by decide)).trans ((Mach.cmdEvt_below _ (by decide)).trans hcounted)
        · exact hcounted
      exact (Mach.cmdEvt_group _ _ rfl (by decide)).trans hlate
  · exact hcounted

theorem dispatchGo_cmdEvt (n : Nat) (s : Mach) : (dispatchGo n s).rd R.CMD_EVT = s.rd R.CMD_EVT := by
  induction n generalizing s with
  | zero => rfl
  | succ n ih =>
    unfold dispatchGo
    split
    · rfl
    · rename_i t _
      split
      · exact (ih _).trans (s.runOn_cmdEvt t _)
      · extract_lets low
        clear_value low
        rcases low with _ | ⟨l, k⟩
        · rfl
        · dsimp -zeta only
          split
          · split
            · extract_lets placed
              refine (ih _).trans ((placed.runOn_cmdEvt t _).trans ?_)
              exact Mach.cmdEvt_below (r := R.SCHED_PREEMPT) _ (by decide)
            · rfl
          · rfl

theorem Mach.cmdLevel_cmdEvt (s : Mach) (u : Bool) : (s.cmdLevel u).2.rd R.CMD_EVT = s.rd R.CMD_EVT := by
  unfold Mach.cmdLevel
  split
  · rfl
  · extract_lets w used
    split
    · rfl
    · exact (Mach.cmdEvt_below _ (by decide)).trans (Mach.cmdEvt_below _ (by decide))

theorem handGo_cmdEvt (n : Nat) (s : Mach) : (handGo n s).rd R.CMD_EVT = s.rd R.CMD_EVT := by
  induction n generalizing s with
  | zero => rfl
  | succ n ih =>
    unfold handGo
    extract_lets cand cands best
    split
    · rename_i c t _ _
      have hlevel := s.cmdLevel_cmdEvt c.o.urgent
      generalize s.cmdLevel c.o.urgent = r at hlevel ⊢
      exact (ih _).trans hlevel
    · rfl

theorem Mach.handover_cmdEvt (s : Mach) : s.handover.rd R.CMD_EVT = s.rd R.CMD_EVT := by
  unfold Mach.handover
  extract_lets handed told
  refine (dispatchGo_cmdEvt 16 told).trans ?_
  refine Mach.when_keeps (fun t => t.rd R.CMD_EVT = s.rd R.CMD_EVT) _ _ _ (fun h => ?_) (handGo_cmdEvt ..)
  exact (Mach.cmdEvt_below _ (by decide)).trans h

theorem Mach.discard_cmdEvt (s : Mach) (p : InCmd → Bool) : (s.discard p none).rd R.CMD_EVT = s.rd R.CMD_EVT := by
  unfold Mach.discard
  extract_lets gone freed taken
  refine taken.handover_cmdEvt.trans ?_
  exact Mach.each_keeps (fun t => t.rd R.CMD_EVT = s.rd R.CMD_EVT) _ (fun t c h => Mach.when_keeps (fun t => t.rd R.CMD_EVT = s.rd R.CMD_EVT) (c.phase == 1) (fun t => t.freeThr c.thread) t (fun h => h) h) _ _ rfl

/-- A closed session is gone, with its flows and its replies. -/
theorem Mach.closeSess_spec {s : Mach} {n : Nat} {z : Sess} (h : mfind s.cmd.sess n = some z) :
    mfind (s.closeSess n).cmd.sess n = none ∧ (s.closeSess n).rd R.CMD_EVT = s.rd R.CMD_EVT
      ∧ (∀ e ∈ (s.closeSess n).cmd.flows, e.2.sess ≠ n) ∧ (∀ r ∈ (s.closeSess n).cmd.rel, r.o.sess ≠ n) := by
  unfold Mach.closeSess
  rw [if_neg (by simp [h])]
  extract_lets keep t
  have ht : t.rd R.CMD_EVT = s.rd R.CMD_EVT := s.discard_cmdEvt _
  clear_value t
  refine ⟨mfind_mdel_self _ n, ht, fun e he => ?_, fun r hr => ?_⟩
  · simpa using (List.mem_filter.1 he).2
  · simpa using (List.mem_filter.1 hr).2

/-! ## The order of a flow (R275 to R278) -/

theorem Mach.turnOf_in_flow {s : Mach} {c : InCmd} {k : Nat} {f : Flow} (hflow : c.o.flow ≠ 0) (hf : s.flowOf c.o.sess c.o.flow = some (k, f))
    (h : s.turnOf c = true) : c.phase = 2 ∧ f.next = c.o.seq := by
  simpa [Mach.turnOf, hflow, hf] using h

/-- A released command advances its flow and is the newest outcome. -/
theorem Mach.flowOn_advances {s : Mach} {c : InCmd} {k : Nat} {f : Flow} (hflow : c.o.flow ≠ 0) (hf : s.flowOf c.o.sess c.o.flow = some (k, f)) :
    ∃ g, mfind (s.flowOn c).cmd.flows k = some g ∧ g.next = (f.next + 1) % 65536 ∧ g.past.head? = some ⟨c.o.seq, c.o.id, none⟩ := by
  unfold Mach.flowOn
  rw [if_neg hflow, hf]
  dsimp -zeta only
  extract_lets g
  have hg : mfind (s.onCmd (fun d => { d with flows := mput d.flows k g })).cmd.flows k = some g := mfind_mput_self ..
  simp only [Mach.setGap, hg]
  exact ⟨_, mfind_mput_self .., rfl, rfl⟩

/-- Settles O29. -/
theorem flowsReleaseInOrder : Obligations.FlowsReleaseInOrder := by
  unfold Obligations.FlowsReleaseInOrder
  refine ⟨?_, ?_, ?_, ?_, ?_, ?_, ?_, ?_⟩
  · exact fun s i obs c h hc hturn => take_gives h rfl (by simp [commandRelease, hc, hturn])
  · exact fun s i obs c h hc hturn => take_gives h rfl (by simp [commandRelease, hc, hturn])
  · exact fun s c k f => Mach.turnOf_in_flow
  · exact fun s c k f => Mach.flowOn_advances
  · exact fun s i f hi h hf hgap => take_gives h (by simpa using hi) (by simp [gapTimeout, hf, hgap])
  · exact fun s i f hi h hf hgap => take_gives h (by simpa using hi) (by simp [gapTimeout, hf, hgap])
  · intro s n z hn h hz hidle
    obtain ⟨hgone, hevt, hflows, hrel⟩ := Mach.closeSess_spec (s := s.m.evt F.CMD_EVT_SESSION_TIMEOUT) hz
    have hrow : sessionIdleTimeout n s.m = (s.m.evt F.CMD_EVT_SESSION_TIMEOUT).closeSess n := by
      simp only [sessionIdleTimeout, hz, if_neg hidle]
    refine ⟨_, take_gives h (by simpa using hn) hrow, hgone, ?_, hflows, hrel⟩
    rw [Mach.on, Mach.gf_of_rd (f := F.CMD_EVT_SESSION_TIMEOUT) hevt]
    exact Mach.on_evt_self _ 0 rfl (by decide)
  · exact fun s n z hn h hz hidle => take_gives h (by simpa using hn) (by simp only [sessionIdleTimeout, hz, if_pos hidle])

end Sys2Proof.Machine
end

section
/-! PROOF. Replies: how they leave the part (R264, R276) and what their packets hold (R263). -/
namespace Sys2Proof.Machine

/-! ## Fields of a packet (R263) -/

theorem slice_skip (n v : Nat) (r : List Byte) {o k : Nat} (h : n ≤ o) : slice (toLE n v ++ r) o k = slice r (o - n) k := by
  rw [slice, slice, List.drop_append, toLE_length, List.drop_eq_nil_of_le (by simpa using h), List.nil_append]

theorem fld_skip (n v : Nat) (r : List Byte) {o k : Nat} (h : n ≤ o) : fld (toLE n v ++ r) o k = fld r (o - n) k := by
  rw [fld, fld, slice_skip n v r h]

theorem fld_head (n v : Nat) (r : List Byte) : fld (toLE n v ++ r) 0 n = v % 256 ^ n := by
  rw [fld, slice, List.drop_zero, List.take_append_of_le_length (by simp), List.take_of_length_le (by simp), leNat_toLE]

theorem slice_head (a r : List Byte) : slice (a ++ r) 0 a.length = a := by
  rw [slice, List.drop_zero, List.take_left]

/-- The bytes of a reply packet as one chain of fields, its data and its CRC. -/
theorem replyPkt_fields (sess flow seq op tag : Nat) (last : Bool) (st det tick : Nat) (data : List Byte) :
    ∃ crc : Nat, replyPkt sess flow seq op tag last st det tick data =
      toLE 2 0x5643 ++ (toLE 1 1 ++ (toLE 1 (1 + 4 * b2n last) ++ (toLE 2 (32 + data.length) ++ (toLE 1 sess ++ (toLE 1 flow ++ (toLE 2 seq
        ++ (toLE 2 op ++ (toLE 4 tag ++ (toLE 2 st ++ (toLE 2 det ++ (toLE 8 tick ++ (data ++ toLE 4 crc)))))))))))) := by
  unfold replyPkt
  extract_lets body
  exact ⟨crc32c body, by simp only [body, List.append_assoc]⟩

theorem replyPkt_reads {sess flow seq op tag st det tick : Nat} (last : Bool) {data : List Byte} (hsess : sess < 256) (hflow : flow < 256)
    (hseq : seq < 65536) (hop : op < 65536) (htag : tag < 2 ^ 32) (hst : st < 65536) (hdet : det < 65536) (htick : tick < 2 ^ 64)
    (hdata : data.length ≤ 4064) {p : List Byte} (hp : p = replyPkt sess flow seq op tag last st det tick data) :
    fld p 3 1 = 1 + 4 * b2n last ∧ fld p 4 2 = 32 + data.length ∧ p.length = 32 + data.length ∧ fld p 6 1 = sess ∧ fld p 7 1 = flow
      ∧ fld p 8 2 = seq ∧ fld p 10 2 = op ∧ fld p 12 4 = tag ∧ fld p 16 2 = st ∧ fld p 18 2 = det ∧ fld p 20 8 = tick
      ∧ slice p 28 data.length = data := by
  obtain ⟨crc, hcrc⟩ := replyPkt_fields sess flow seq op tag last st det tick data
  rw [hcrc] at hp
  subst hp
  have hlast : b2n last < 2 := b2n_lt_two last
  refine ⟨?_, ?_, ?_, ?_, ?_, ?_, ?_, ?_, ?_, ?_, ?_, ?_⟩
  case refine_3 =>
    simp only [List.length_append, toLE_length]
    omega
  case refine_12 =>
    simp (disch := decide) only [slice_skip]
    exact slice_head ..
  all_goals
    simp (disch := decide) only [fld_skip]
    refine (fld_head ..).trans (Nat.mod_eq_of_lt ?_)
    omega

/-! ## Packets go to the transport of the command -/

section
variable (s : Mach)

theorem Mach.pushReplies_nil (x : Xport) : s.pushReplies x [] = s := rfl

theorem Mach.pushReplies_cons (x : Xport) (p : List Byte) (l : List (List Byte)) :
    s.pushReplies x (p :: l) = (s.pushReply x p).pushReplies x l := rfl

/-- Queueing packets changes nothing but the state of the commands. -/
theorem Mach.pushReplies_cmd (x : Xport) (l : List (List Byte)) (s : Mach) : ∃ c, s.pushReplies x l = { s with cmd := c } := by
  induction l generalizing s with
  | nil => exact ⟨s.cmd, rfl⟩
  | cons p l ih =>
    obtain ⟨c, hc⟩ := ih (s.pushReply x p)
    refine ⟨c, ?_⟩
    rw [Mach.pushReplies_cons, hc]
    cases x <;> rfl

theorem Mach.pushReplies_pcie (q : Nat) (l : List (List Byte)) (s : Mach) :
    (s.pushReplies (.pcie q) l).cmd.wait0 = s.cmd.wait0 ++ (if q = 0 then l else [])
      ∧ (s.pushReplies (.pcie q) l).cmd.wait1 = s.cmd.wait1 ++ (if q = 0 then [] else l) := by
  induction l generalizing s with
  | nil => simp [Mach.pushReplies_nil]
  | cons p l ih =>
    obtain ⟨h0, h1⟩ := ih (s.pushReply (.pcie q) p)
    rw [Mach.pushReplies_cons, h0, h1]
    by_cases hq : q = 0 <;> simp [Mach.pushReply, Mach.onCmd, hq]

theorem Mach.pushReplies_udp (ip port : Nat) (l : List (List Byte)) (s : Mach) :
    (s.pushReplies (.udp ip port) l).cmd.udpOut = s.cmd.udpOut ++ l.map (fun x => (ip, port, x)) := by
  induction l generalizing s with
  | nil => simp [Mach.pushReplies_nil]
  | cons p l ih =>
    rw [Mach.pushReplies_cons, ih]
    simp [Mach.pushReply, Mach.onCmd]

end

/-! ## The reply of a lone command of flow 0 (R264, R276) -/

/-- The packets a command's reply has: none when it asks for none and succeeds. -/
def Mach.replyOf (s : Mach) (o : Origin) (op st det tick : Nat) (data : List Byte) : List (List Byte) :=
  if answered o op st then s.buildReply o op st det tick data else []

/-- A flow keeps the reply of its command among its outcomes (R278). -/
def heldReply (o : Origin) (pkts : List (List Byte)) (l : SMap Flow) : SMap Flow :=
  l.map (fun e => if e.2.sess == o.sess && e.2.num == o.flow then
    (e.1, { e.2 with past := e.2.past.map (fun (k : Outcome) => if k.id == o.id then { k with reply := some pkts } else k) }) else e)

theorem Mach.flush_lone {s : Mach} {o : Origin} {op : Nat} {pkts : List (List Byte)} (hrel : s.cmd.rel = [⟨o, op, some pkts, 0⟩]) :
    s.flush = (s.pushReplies o.xport pkts).onCmd (fun c => { c with flows := heldReply o pkts c.flows, rel := [] }) := by
  simp only [Mach.flush, hrel, flushGo, List.any_nil, Bool.and_false]
  rfl

/-- The reply of the only released command goes out at once. -/
theorem Mach.answer_lone {s : Mach} {o : Origin} {op : Nat} (st det tick : Nat) (data : List Byte)
    (hrel : s.cmd.rel = [⟨o, op, none, 0⟩]) :
    ∃ r : List Rel, s.answer o.id st det tick data =
      ((s.onCmd (fun c => { c with rel := r })).pushReplies o.xport (s.replyOf o op st det tick data)).onCmd
        (fun c => { c with flows := heldReply o (s.replyOf o op st det tick data) c.flows, rel := [] }) := by
  refine ⟨[⟨o, op, some (s.replyOf o op st det tick data), 0⟩], ?_⟩
  have hmap : s.cmd.rel.map (fun r => if r.o.id == o.id && r.reply.isNone then
      { r with reply := some (if answered r.o r.op st then s.buildReply r.o r.op st det tick data else []) } else r)
      = [⟨o, op, some (s.replyOf o op st det tick data), 0⟩] := by
    simp [hrel, Mach.replyOf]
  have hset : s.onCmd (fun c => { c with rel := c.rel.map (fun r => if r.o.id == o.id && r.reply.isNone then
      { r with reply := some (if answered r.o r.op st then s.buildReply r.o r.op st det tick data else []) } else r) })
      = s.onCmd (fun c => { c with rel := [⟨o, op, some (s.replyOf o op st det tick data), 0⟩] }) := by
    simp only [Mach.onCmd, hmap]
  rw [Mach.answer, hset, Mach.flush_lone rfl]

theorem Mach.answer_lone_pcie {s : Mach} {o : Origin} {op q : Nat} (st det tick : Nat) (data : List Byte)
    (hrel : s.cmd.rel = [⟨o, op, none, 0⟩]) (hx : o.xport = .pcie q) :
    (s.answer o.id st det tick data).cmd.wait0 = s.cmd.wait0 ++ (if q = 0 then s.replyOf o op st det tick data else [])
      ∧ (s.answer o.id st det tick data).cmd.wait1 = s.cmd.wait1 ++ (if q = 0 then [] else s.replyOf o op st det tick data)
      ∧ (s.answer o.id st det tick data).cmd.rel = [] := by
  obtain ⟨r, heq⟩ := Mach.answer_lone st det tick data hrel
  obtain ⟨h0, h1⟩ := Mach.pushReplies_pcie q (s.replyOf o op st det tick data) (s.onCmd (fun c => { c with rel := r }))
  rw [heq, hx]
  exact ⟨h0, h1, rfl⟩

theorem Mach.answer_lone_udp {s : Mach} {o : Origin} {op ip port : Nat} (st det tick : Nat) (data : List Byte)
    (hrel : s.cmd.rel = [⟨o, op, none, 0⟩]) (hx : o.xport = .udp ip port) :
    (s.answer o.id st det tick data).cmd.udpOut = s.cmd.udpOut ++ (s.replyOf o op st det tick data).map (fun x => (ip, port, x)) := by
  obtain ⟨r, heq⟩ := Mach.answer_lone st det tick data hrel
  rw [heq, hx]
  exact Mach.pushReplies_udp ip port _ (s.onCmd (fun c => { c with rel := r }))

theorem Mach.answer_lone_regs {s : Mach} {o : Origin} {op : Nat} (st det tick : Nat) (data : List Byte)
    (hrel : s.cmd.rel = [⟨o, op, none, 0⟩]) : ∃ c, s.answer o.id st det tick data = { s with cmd := c } := by
  obtain ⟨r, heq⟩ := Mach.answer_lone st det tick data hrel
  obtain ⟨c, hc⟩ := Mach.pushReplies_cmd o.xport (s.replyOf o op st det tick data) (s.onCmd (fun c => { c with rel := r }))
  rw [heq, hc]
  exact ⟨_, rfl⟩

/-- A command that asks for no reply leaves every transport as it was. -/
theorem Mach.answer_lone_silent {s : Mach} {o : Origin} {op : Nat} {st : Nat} (det tick : Nat) (data : List Byte)
    (hrel : s.cmd.rel = [⟨o, op, none, 0⟩]) (hno : answered o op st = false) :
    (s.answer o.id st det tick data).cmd.wait0 = s.cmd.wait0 ∧ (s.answer o.id st det tick data).cmd.wait1 = s.cmd.wait1
      ∧ (s.answer o.id st det tick data).cmd.spiQ = s.cmd.spiQ ∧ (s.answer o.id st det tick data).cmd.spiWait = s.cmd.spiWait
      ∧ (s.answer o.id st det tick data).cmd.udpOut = s.cmd.udpOut := by
  obtain ⟨r, heq⟩ := Mach.answer_lone st det tick data hrel
  rw [heq, Mach.replyOf, hno]
  exact ⟨rfl, rfl, rfl, rfl, rfl⟩

/-! ## Release with a result (R263, R268) -/

/-- The part with a command entered as released. -/
def Mach.entered (s : Mach) (o : Origin) (op : Nat) : Mach := s.onCmd (fun c => { c with rel := c.rel ++ [⟨o, op, none, 0⟩] })

theorem Mach.entered_rel {s : Mach} (o : Origin) (op : Nat) (h : s.cmd.rel = []) : (s.entered o op).cmd.rel = [⟨o, op, none, 0⟩] := by
  simp [Mach.entered, Mach.onCmd, h]

theorem Mach.session_stands {s : Mach} {o : Origin} (h : o.sess = 255 ∨ (mfind s.cmd.sess o.sess).isSome = true) :
    ¬ (o.sess != 255 && (mfind s.cmd.sess o.sess).isNone) = true := by
  rcases h with h | h
  · simp [h]
  · simp [Option.isNone_eq_false_iff.2 h]

/-- A command that succeeds is answered with the tick that runs; before the first token the tick is open. -/
theorem Mach.replies_eq {s : Mach} {o : Origin} (op : Nat) (data : List Byte) (h : o.sess = 255 ∨ (mfind s.cmd.sess o.sess).isSome = true) :
    s.replies o op data = (s.entered o op).tickNow.2.answer o.id ST.OK 0 (s.entered o op).tickNow.1 data := by
  rw [Mach.replies, Mach.releaseRes, if_neg (Mach.session_stands h)]
  rfl

theorem Mach.tickNow_cmd (s : Mach) : s.tickNow.2.cmd = s.cmd := by
  unfold Mach.tickNow
  split <;> rfl

theorem Mach.tickNow_of_ticking {s : Mach} (h : s.tm.ticking = true) : s.tickNow = (s.tm.tick, s) := by
  rw [Mach.tickNow, if_pos h]

theorem Mach.replies_of_ticking {s : Mach} {o : Origin} (op : Nat) (data : List Byte) (h : o.sess = 255 ∨ (mfind s.cmd.sess o.sess).isSome = true)
    (ht : s.tm.ticking = true) : s.replies o op data = (s.entered o op).answer o.id ST.OK 0 s.tm.tick data := by
  rw [Mach.replies_eq op data h, Mach.tickNow_of_ticking (s := s.entered o op) ht]
  rfl

/-- A command that fails is answered with its status, its detail and no tick. -/
theorem Mach.leaves_fail {s : Mach} {o : Origin} (op : Nat) {st det : Nat} (h : o.sess = 255 ∨ (mfind s.cmd.sess o.sess).isSome = true)
    (hst : st ≠ ST.OK) (hdet : det ≠ openDet) : Mach.leaves (s, Res.fail st det) o op = (s.entered o op).answer o.id st det noTick [] := by
  rw [Mach.leaves, Mach.releaseRes, if_neg (Mach.session_stands h)]
  simp [Res.fail, hdet, hst, Mach.entered]

theorem answered_fail (o : Origin) (op : Nat) {st : Nat} (h : st ≠ ST.OK) (h' : st ≠ ST.ACCEPTED) : answered o op st = true := by
  simp [answered, h, h']

/-- Settles O31. -/
theorem repliesLeaveThePart : Obligations.RepliesLeaveThePart := by
  unfold Obligations.RepliesLeaveThePart
  refine ⟨?_, ?_, ?_, ?_, ?_, ?_⟩
  · intro s o op data q hrel hflow hsess ht hans hx
    have hlone := Mach.answer_lone_pcie (s := s.entered o op) (op := op) ST.OK 0 s.tm.tick data (s.entered_rel o op hrel) hx
    obtain ⟨c, hc⟩ := Mach.answer_lone_regs (s := s.entered o op) (op := op) ST.OK 0 s.tm.tick data (s.entered_rel o op hrel)
    have hpkts : (s.entered o op).replyOf o op ST.OK 0 s.tm.tick data
        = replyPkts (s.maxpkt o.sess) o.sess 0 o.seq op o.tag ST.OK 0 s.tm.tick data := by
      rw [Mach.replyOf, hans, if_pos rfl, Mach.buildReply, hflow]
      rfl
    rw [Mach.replies_of_ticking op data hsess ht]
    rw [hpkts] at hlone
    obtain ⟨h0, h1, h2⟩ := hlone
    exact ⟨_, rfl, h0, h1, h2, by rw [hc]; rfl, by rw [hc]; rfl, by rw [hc]; rfl⟩
  · intro s o op data ip port hrel hflow hsess ht hans hx
    have hlone := Mach.answer_lone_udp (s := s.entered o op) (op := op) ST.OK 0 s.tm.tick data (s.entered_rel o op hrel) hx
    rw [Mach.replies_of_ticking op data hsess ht, hlone, Mach.replyOf, hans, if_pos rfl, Mach.buildReply, hflow]
    rfl
  · intro s o op st det q hrel hflow hsess hst hacc hdet hx
    obtain ⟨h0, h1, -⟩ := Mach.answer_lone_pcie (s := s.entered o op) (op := op) st det noTick [] (s.entered_rel o op hrel) hx
    have hpkts : (s.entered o op).replyOf o op st det noTick []
        = replyPkts (s.maxpkt o.sess) o.sess 0 o.seq op o.tag st det noTick [] := by
      rw [Mach.replyOf, answered_fail o op hst hacc, if_pos rfl, Mach.buildReply, hflow]
      rfl
    rw [Mach.leaves_fail op hsess hst hdet, h0, h1, hpkts]
    by_cases hq : q = 0
    · simp only [hq, if_true, List.append_nil]
      rfl
    · simp only [hq, if_false, List.append_nil]
      rfl
  · intro s o op data hrel hflow hsess hans
    have hcmd := (s.entered o op).tickNow_cmd
    have hlone := Mach.answer_lone_silent (s := (s.entered o op).tickNow.2) (op := op) (st := ST.OK) 0 (s.entered o op).tickNow.1 data
      (by rw [hcmd, s.entered_rel o op hrel]) hans
    rw [hcmd] at hlone
    rw [Mach.replies_eq op data hsess]
    exact hlone
  · intro s o op data hsess hnone
    rw [Mach.replies, Mach.releaseRes]
    exact if_pos (by simp [hsess, hnone])
  · exact fun sess flow seq op tag last st det tick data p h1 h2 h3 h4 h5 h6 h7 h8 hp hdata =>
      replyPkt_reads last h1 h2 h3 h4 h5 h6 h7 h8 hdata hp

end Sys2Proof.Machine
end

section
/-! PROOF. Frames of the fabric and ageing rows and of the rendering rows, from their footprints. -/
namespace Sys2Proof.Machine

/-! ## Footprints -/

/-- What a fabric row may touch. -/
def fabTouch : Footprint := ⟨[.rend, .err], [(0x700000, some 0x800000), (0xD00000, some 0xE00000)]⟩

/-- What the day's record may touch. -/
def logTouch : Footprint := ⟨[.mem, .rend, .err], [(0x700000, some 0x800000), (0xD00000, some 0xE00000)]⟩

/-- What the end of a tick's work may touch. -/
def tickTouch : Footprint := ⟨[.rend, .err, .ddr], [(0x600000, none)]⟩

/-- What a rendering row may touch between tokens. -/
def rendTouch : Footprint := ⟨[.rend], [(0x800000, some 0xA00000)]⟩

theorem tickFrame_of_parts {s t : Mach} {F : Footprint} (h : s.onlyIn F t) (hp : ∀ p ∈ F.parts, p ∈ [Part.rend, .err, .ddr, .mem])
    (hw : ∀ w ∈ F.windows, 0x600000 ≤ w.1) : tickFrame s t := by
  have part : ∀ p, p ∉ [Part.rend, .err, .ddr, .mem] → s.samePart t p := fun p hn => h.1 p fun hm => hn (hp p hm)
  obtain ⟨hA, hB⟩ := part .net (by decide)
  obtain ⟨hin, hout, hdisc⟩ := part .strm (by decide)
  exact ⟨⟨part .variant (by decide), part .hold (by decide), part .pll (by decide), part .sys (by decide)⟩, part .live (by decide),
    part .bus (by decide), part .dma (by decide), ⟨part .cmd (by decide), part .sch (by decide)⟩, ⟨hA, hB, hin, hout, hdisc⟩,
    part .asp (by decide), part .tm (by decide),
    fun r i j hlow => Mach.onlyIn_rd h r i j (Footprint.covers_below 0x600000 hw hlow)⟩

theorem fabFrame_of_onlyIn {s t : Mach} {F : Footprint} (h : s.onlyIn F t) (hp : ∀ p ∈ F.parts, p ∈ [Part.rend, .err, .mem])
    (hw : F.windows = fabTouch.windows) : fabFrame s t := by
  have part : ∀ p, p ∉ [Part.rend, .err, .mem] → s.samePart t p := fun p hn => h.1 p fun hm => hn (hp p hm)
  refine ⟨tickFrame_of_parts h (fun p hm => ?_) (by rw [hw]; decide), part .ddr (by decide), part .free (by decide), fun r i j hout => ?_⟩
  · have := hp p hm
    simp only [List.mem_cons, List.not_mem_nil, or_false] at this ⊢
    rcases this with h | h | h <;> simp [h]
  · refine Mach.onlyIn_rd h r i j ?_
    simpa [Footprint.covers, hw, fabTouch] using hout

/-- A row within the fabric's footprint has the fabric's frame and stores nothing. -/
theorem fabFrame_of_touch {s t : Mach} (h : s.onlyIn fabTouch t) : noStore fabFrame s t :=
  ⟨fabFrame_of_onlyIn h (by decide) rfl, h.1 .mem (by decide)⟩

theorem rendFrame_of_touch {s t : Mach} (h : s.onlyIn rendTouch t) : rendFrame s t := by
  have part : ∀ p, p ∉ rendTouch.parts → s.samePart t p := h.1
  obtain ⟨hA, hB⟩ := part .net (by decide)
  obtain ⟨hin, hout, hdisc⟩ := part .strm (by decide)
  refine ⟨⟨part .variant (by decide), part .hold (by decide), part .pll (by decide), part .sys (by decide)⟩, part .live (by decide),
    ⟨part .bus (by decide), part .dma (by decide), part .ddr (by decide)⟩, ⟨part .cmd (by decide), part .sch (by decide)⟩,
    ⟨hA, hB, hin, hout, hdisc⟩, part .asp (by decide), part .tm (by decide), part .err (by decide), part .mem (by decide),
    part .free (by decide), fun r i j hout => Mach.onlyIn_rd h r i j ?_⟩
  simpa [Footprint.covers, rendTouch] using hout

section
variable {s t : Mach} {F : Footprint}

@[simp] theorem Mach.onlyIn_onFab (f : FabSt → FabSt) (h : .rend ∈ F.parts) : s.onlyIn F (t.onFab f) ↔ s.onlyIn F t := Mach.onlyIn_onRend _ h
@[simp] theorem Mach.onlyIn_onFeed (k : Nat) (f : Feed → Feed) (h : .rend ∈ F.parts) : s.onlyIn F (t.onFeed k f) ↔ s.onlyIn F t :=
  Mach.onlyIn_onRend _ h
@[simp] theorem Mach.onlyIn_onChan (k : Nat) (f : Chan → Chan) (h : .rend ∈ F.parts) : s.onlyIn F (t.onChan k f) ↔ s.onlyIn F t :=
  Mach.onlyIn_onRend _ h
@[simp] theorem Mach.onlyIn_onMem (k : Nat) (f : ObjMem → ObjMem) (h : .rend ∈ F.parts) : s.onlyIn F (t.onMem k f) ↔ s.onlyIn F t :=
  Mach.onlyIn_onRend _ h
@[simp] theorem Mach.onlyIn_onHp (k : Nat) (f : HpObj → HpObj) (h : .rend ∈ F.parts) : s.onlyIn F (t.onHp k f) ↔ s.onlyIn F t :=
  Mach.onlyIn_onRend _ h
@[simp] theorem Mach.onlyIn_onPlay (k : Nat) (f : Play → Play) (h : .rend ∈ F.parts) : s.onlyIn F (t.onPlay k f) ↔ s.onlyIn F t :=
  Mach.onlyIn_onRend _ h
@[simp] theorem Mach.onlyIn_onSink (k : Nat) (f : Sink → Sink) (h : .rend ∈ F.parts) : s.onlyIn F (t.onSink k f) ↔ s.onlyIn F t :=
  Mach.onlyIn_onRend _ h
@[simp] theorem Mach.onlyIn_onObj (k : Nat) (f : ObjGeo → ObjGeo) (h : .rend ∈ F.parts) : s.onlyIn F (t.onObj k f) ↔ s.onlyIn F t :=
  Mach.onlyIn_onRend _ h
@[simp] theorem Mach.onlyIn_askCommit (k : Nat) (h : .rend ∈ F.parts) : s.onlyIn F (t.askCommit k) ↔ s.onlyIn F t := Mach.onlyIn_onRend _ h

end

/-! ## Engines, gating and herd windows -/

section
variable (s : Mach)

theorem Mach.engRuns_lt {s : Mach} {e : Nat} (h : s.engRuns e = true) (hw : ∀ e, s.engExists e = true → e < 106) : e < 106 :=
  hw e (by simp only [Mach.engRuns, Bool.and_eq_true] at h; exact h.1.1.2)

theorem engineComplete_onlyIn {e : Nat} (he : e < 106) (n : Nat) : s.onlyIn fabTouch (engineComplete e n s) := by
  unfold engineComplete
  extract_lets c t
  have ht : s.onlyIn fabTouch t := by simp (disch := decide) [t]
  split
  · exact s.onlyIn_refl _
  · split
    · exact (Mach.onlyIn_evt _ 0 (by decide) (by decide) (by decide)).2 ((Mach.onlyIn_bump _ e 1 (by decide) he (by decide)).2 ht)
    · exact ht

theorem isolateEngine_onlyIn (e : Nat) : s.onlyIn fabTouch (s.isolateEngine e) := by
  unfold Mach.isolateEngine
  extract_lets t
  have ht : s.onlyIn fabTouch t := by simp (disch := decide) [t]
  split
  · exact ht
  · simp (disch := decide) [ht]

theorem fabricHang_onlyIn (e : Nat) : s.onlyIn fabTouch (fabricHang e s) := by
  unfold fabricHang
  split
  · exact s.onlyIn_refl _
  · exact (Mach.onlyIn_raise _ _ _ (by decide)).2 ((Mach.onlyIn_evt _ 0 (by decide) (by decide) (by decide)).2 (isolateEngine_onlyIn s e))

theorem setGate_onlyIn (k : Nat) (b : Bool) : s.onlyIn fabTouch (s.setGate k b) := by
  unfold Mach.setGate
  split <;> simp (disch := decide)

theorem gateGroup_onlyIn (k : Nat) : s.onlyIn fabTouch (s.gateGroup k) := by
  unfold Mach.gateGroup
  extract_lets t
  have ht : s.onlyIn fabTouch t := by simp (disch := decide) [t, setGate_onlyIn]
  split
  · exact ht
  · exact (Mach.onlyIn_onRend _ (by decide)).2 ht

theorem engineGroupGate_onlyIn (k : Nat) : s.onlyIn fabTouch (engineGroupGate k s) := by
  unfold engineGroupGate
  split
  · exact s.onlyIn_refl _
  · exact gateGroup_onlyIn s k

theorem herdWindow_onlyIn (avs : Bool) : s.onlyIn fabTouch (herdWindow avs s) := by
  unfold herdWindow
  extract_lets order
  split
  · exact s.onlyIn_refl _
  · simp (disch := decide)

theorem fabMinClr_onlyIn (v : Nat) : s.onlyIn fabTouch (fabMinClr v s) := by
  unfold fabMinClr
  split
  · exact s.onlyIn_refl _
  · refine (Mach.onlyIn_wr_family _ _ 0 0 (by decide) (by decide) (by decide)).2 ((Mach.onlyIn_each _ _ fun u e he => ?_).2 (s.onlyIn_refl _))
    have he' : e < 106 := List.mem_range.1 he
    exact (Mach.onlyIn_sf _ _ e 0 (by decide) he' (by decide)).2 (u.onlyIn_refl _)

/-! ## The planner (R243 to R255) -/

theorem Mach.fabTouch_of_judge {s t : Mach} (h : s.onlyIn judgeTouch t) : s.onlyIn fabTouch t := by
  refine Mach.onlyIn_mono h (by decide) fun a ha => ?_
  simp [fabTouch, judgeTouch, Footprint.covers] at ha ⊢
  omega

theorem Mach.moveTier_fabTouch (n : Nat) (b : Bool) : s.onlyIn fabTouch (s.moveTier n b) := Mach.fabTouch_of_judge (s.moveTier_onlyIn n b)

theorem lowTierFollow_onlyIn : s.onlyIn fabTouch s.lowTierFollow := by
  unfold Mach.lowTierFollow
  split
  · exact s.moveTier_fabTouch ..
  · exact s.onlyIn_refl _

theorem Mach.fawnJudge_onlyIn (rates : List Nat) (first : Bool) : s.onlyIn fabTouch (s.fawnJudge rates first) := by
  unfold Mach.fawnJudge
  extract_lets v raw counts med bad aged good best
  split
  extract_lets totalled read logged judged now was
  have hraw : ∀ p ∈ raw, p.1 < 48 := by
    intro p hp
    obtain ⟨k, hk, rfl⟩ := List.mem_map.1 hp
    exact List.mem_range.1 hk
  have haged : s.onlyIn fabTouch aged := by
    refine (Mach.onlyIn_each _ _ fun u p hp => ?_).2 (s.onlyIn_refl _)
    have hwr (x : Nat) : u.onlyIn fabTouch (u.wr R.FAB_FAWN_AGE x p.1) :=
      (Mach.onlyIn_wr_family _ _ _ _ (by decide) (hraw p hp) (by decide)).2 (u.onlyIn_refl _)
    dsimp only
    split
    · simp (disch := decide) [hwr]
    · exact hwr _
  have hlogged : s.onlyIn fabTouch logged := by simp (disch := decide) [logged, read, totalled, haged]
  have hjudged : s.onlyIn fabTouch judged := by
    simp only [judged]
    split
    · simp (disch := decide) [Mach.writeAvs, hlogged]
    · exact hlogged
  split
  · simp (disch := decide) [hjudged]
  · split
    · refine Mach.onlyIn_trans ?_ (lowTierFollow_onlyIn _)
      simp (disch := decide) [hjudged]
    · exact hjudged

theorem fawnRead_onlyIn (rates : List Nat) : s.onlyIn fabTouch (fawnRead rates s) := by
  unfold fawnRead Mach.fawnRead
  split
  · exact s.onlyIn_refl _
  · extract_lets t
    have ht : s.onlyIn fabTouch t := by
      refine (Mach.onlyIn_each _ _ fun u k hk => ?_).2 (s.onlyIn_refl _)
      exact (Mach.onlyIn_wr_family _ _ _ _ (by decide) (List.mem_range.1 hk) (by decide)).2 (u.onlyIn_refl _)
    split
    · exact ht
    · exact Mach.onlyIn_trans ht (t.fawnJudge_onlyIn rates false)

theorem avsWrite_onlyIn (ok : Bool) : s.onlyIn fabTouch (avsWrite ok s) := by
  unfold avsWrite
  extract_lets q slew failed
  have hfailed : s.onlyIn fabTouch failed := by simp (disch := decide) [failed]
  split
  · exact s.onlyIn_refl _
  · split
    · simp (disch := decide)
    · split
      · simp (disch := decide) [hfailed]
      · split <;> simp (disch := decide) [hfailed]

theorem ibexStuck_onlyIn : s.onlyIn fabTouch (ibexStuck s) := by
  unfold ibexStuck
  split
  · split
    · exact s.onlyIn_refl _
    · simp (disch := decide)
  · exact s.onlyIn_refl _

theorem tryGrant_onlyIn : s.onlyIn fabTouch s.tryGrant := by
  unfold Mach.tryGrant
  split
  · exact s.onlyIn_refl _
  · extract_lets standing once spent
    have hspent : s.onlyIn fabTouch spent := by
      simp only [spent]
      split <;> simp (disch := decide)
    split
    · exact Mach.onlyIn_trans (by simp (disch := decide) [Mach.clearReq]) (Mach.moveTier_fabTouch _ _ _)
    · split
      · refine Mach.onlyIn_trans ?_ (Mach.moveTier_fabTouch _ _ _)
        simp (disch := decide) [Mach.clearReq, hspent]
      · exact s.onlyIn_refl _

theorem askTier_onlyIn (n : Nat) (b : Bool) : s.onlyIn fabTouch (s.askTier n b) := by
  unfold Mach.askTier
  extract_lets q waits asked told
  split
  · exact s.onlyIn_refl _
  · split
    · exact s.moveTier_fabTouch ..
    · split
      · exact tryGrant_onlyIn s
      · refine Mach.onlyIn_trans ?_ (tryGrant_onlyIn _)
        simp (disch := decide) [told, asked]

theorem lowerTier_onlyIn : s.onlyIn fabTouch s.lowerTier := by
  unfold Mach.lowerTier
  split
  · exact askTier_onlyIn ..
  · exact s.onlyIn_refl _
  · split <;> exact askTier_onlyIn ..

theorem ibexApproveWrite_onlyIn (v : Nat) : s.onlyIn fabTouch (ibexApproveWrite v s) := by
  unfold ibexApproveWrite
  extract_lets old stored denied
  have hdenied : s.onlyIn fabTouch denied := by
    simp only [denied]
    split <;> simp (disch := decide) [stored, Mach.dropReq, Mach.clearReq]
  exact Mach.onlyIn_trans hdenied (tryGrant_onlyIn _)

theorem stepUp_onlyIn : s.onlyIn fabTouch s.stepUp := by simp (disch := decide) [Mach.stepUp, Mach.writeAvs]

theorem stepDown_onlyIn : s.onlyIn fabTouch s.stepDown := by simp (disch := decide) [Mach.stepDown, Mach.writeAvs]

theorem higherTier_onlyIn : s.onlyIn fabTouch s.higherTier := by
  unfold Mach.higherTier
  extract_lets q lim meets ok3 t3 ok2 t2
  have ht3 : s.onlyIn fabTouch t3 := by simp (disch := decide) [t3]
  have ht2 : s.onlyIn fabTouch t2 := by simp (disch := decide) [t2]
  split
  · exact s.onlyIn_refl _
  · split
    · split
      · exact Mach.onlyIn_trans ht3 (Mach.moveTier_fabTouch _ _ _)
      · exact ht3
    · split
      · simp (disch := decide)
      · split
        · simp (disch := decide) [ht2]
        · exact ht2
    · exact s.onlyIn_refl _

theorem ibexEvaluate_onlyIn : s.onlyIn fabTouch (ibexEvaluate s) := by
  unfold ibexEvaluate
  extract_lets q tier p sl target hyst t lower u
  have ht : s.onlyIn fabTouch t := by simp (disch := decide) [t]
  have hu : s.onlyIn fabTouch u := by
    simp only [u]
    clear u
    clear_value sl lower
    rcases sl with _ | x
    · exact ht
    · dsimp only
      split
      · split
        · exact Mach.onlyIn_trans ht (stepUp_onlyIn _)
        · exact ht
      · split
        · split
          · exact Mach.onlyIn_trans ht (stepUp_onlyIn _)
          · split
            · exact ht
            · exact Mach.onlyIn_trans ht (lowerTier_onlyIn _)
        · split
          · exact Mach.onlyIn_trans ht (stepDown_onlyIn _)
          · exact ht
  split
  · exact s.onlyIn_refl _
  · split
    · split
      · exact s.onlyIn_refl _
      · simp (disch := decide)
    · split
      · exact s.onlyIn_refl _
      · exact Mach.onlyIn_trans hu (higherTier_onlyIn _)

/-- A day's record is the one store among these rows. -/
theorem ageingLogWrite_onlyIn : s.onlyIn logTouch (ageingLogWrite s) := by
  unfold ageingLogWrite Mach.logWrite
  extract_lets d g min_ deg age n emerg body stored counted
  have hcounted : s.onlyIn logTouch counted := by simp (disch := decide) [counted, stored]
  split
  · exact (Mach.onlyIn_onRend _ (by decide)).2 hcounted
  · exact s.onlyIn_refl _

end

end Sys2Proof.Machine
end

section
/-! PROOF. Frames of the end of a tick's work and of the rendering rows between tokens. -/
namespace Sys2Proof.Machine

/-! ## Reads of DRAM (R501) -/

section
variable (s : Mach)

theorem Mach.checkWord_tickTouch (reader w : Nat) : s.onlyIn tickTouch (s.checkWord reader w) := by
  unfold Mach.checkWord
  split
  · extract_lets t u sec
    have ht : s.onlyIn tickTouch t := by simp (disch := decide) [t]
    have hu : s.onlyIn tickTouch u := by
      simp only [u]
      split <;> simp (disch := decide) [ht]
    split <;> simp (disch := decide) [hu]
  · split <;> simp (disch := decide)

theorem Mach.checkHits_tickTouch (reader a n : Nat) : s.onlyIn tickTouch (s.checkHits reader a n) := by
  unfold Mach.checkHits
  split
  · exact s.onlyIn_refl _
  · exact (Mach.onlyIn_each _ _ fun u w _ => u.checkWord_tickTouch reader w).2 (s.onlyIn_refl _)

theorem Mach.entryEcc_tickTouch (o m : Nat) : s.onlyIn tickTouch (s.entryEcc o m) := by
  unfold Mach.entryEcc
  extract_lets b
  split
  · exact s.onlyIn_refl _
  · refine (Mach.onlyIn_each _ _ fun u j _ => ?_).2 (s.onlyIn_refl _)
    extract_lets n
    split
    · exact u.checkHits_tickTouch ..
    · exact u.onlyIn_refl _

theorem Mach.trimEcc_tickTouch (f m : Nat) : s.onlyIn tickTouch (s.trimEcc f m) := by
  unfold Mach.trimEcc
  extract_lets d
  split
  · exact s.onlyIn_refl _
  · refine (Mach.onlyIn_each _ _ fun u t _ => ?_).2 (s.onlyIn_refl _)
    split
    · exact u.onlyIn_refl _
    · refine (Mach.onlyIn_each _ _ fun v j _ => ?_).2 (u.onlyIn_refl _)
      split
      · exact v.onlyIn_refl _
      · exact v.checkHits_tickTouch ..

end

/-- A fold stays within the footprint of its steps, wherever it carries the machine. -/
theorem Mach.onlyIn_foldl_by {γ α : Type} {F : Footprint} (π : γ → Mach) {f : γ → α → γ} (hf : ∀ (c : γ) (a : α), (π c).onlyIn F (π (f c a)))
    (l : List α) {s : Mach} (c : γ) (h : s.onlyIn F (π c)) : s.onlyIn F (π (l.foldl f c)) := by
  induction l generalizing c with
  | nil => exact h
  | cons a l ih => exact ih _ (Mach.onlyIn_trans h (hf c a))

/-! ## The work of a tick -/

section
variable (s : Mach)

theorem Mach.runFronts_onlyIn (w : Work) (missed : Nat → Bool) : s.onlyIn tickTouch (s.runFronts w missed).2 := by
  unfold Mach.runFronts
  refine Mach.onlyIn_foldl_by Prod.snd (fun c e => ?_) _ _ (s.onlyIn_refl _)
  obtain ⟨acc, u⟩ := c
  dsimp only
  split <;> simp (disch := decide) [Mach.onlyIn_bump_open]

theorem Mach.fillEntries_onlyIn (m : Nat) (outs : SMap (List Int)) : s.onlyIn tickTouch (s.fillEntries m outs) :=
  (Mach.onlyIn_each _ _ fun u o _ => (Mach.onlyIn_onMem _ _ (by decide)).2 (u.entryEcc_tickTouch o m)).2 (s.onlyIn_refl _)

theorem Mach.parityErrs_onlyIn (m : Nat) (perr : List (Nat × Nat)) : s.onlyIn tickTouch (s.parityErrs m perr) := by
  refine (Mach.onlyIn_each _ _ fun u p _ => ?_).2 (s.onlyIn_refl _)
  extract_lets told sec pos
  have htold : u.onlyIn tickTouch told := by simp (disch := decide) [told]
  split
  · exact htold
  · simp (disch := decide) [htold]

theorem Mach.renderPaths_onlyIn (m : Nat) (perr : List (Nat × Nat)) (missed : Nat → Bool) :
    s.onlyIn tickTouch (s.renderPaths m perr missed).2 := by
  unfold Mach.renderPaths
  extract_lets kr
  split
  refine (Mach.onlyIn_onRend _ (by decide)).2 ?_
  split <;> simp (disch := decide)

/-- A counter of clamps and its event. -/
theorem Mach.counted_onlyIn {s t : Mach} (n i : Nat) (r : Reg) (f : Fld) (hr : tickTouch.open_ r = true) (hf : tickTouch.open_ f.reg = true)
    (h : s.onlyIn tickTouch t) : s.onlyIn tickTouch (if n = 0 then t else (t.bump r i n).evt f) := by
  split
  · exact h
  · exact (Mach.onlyIn_evt_open _ _ hf).2 ((Mach.onlyIn_bump_open _ _ _ hr).2 h)

theorem Mach.runFeeds_onlyIn (m : Nat) (acc : SMap (List Int)) (missed : Nat → Bool) : s.onlyIn tickTouch (s.runFeeds m acc missed).2.2 := by
  unfold Mach.runFeeds
  refine Mach.onlyIn_foldl_by (fun (c : SMap (List Int) × SMap (List Int) × Mach) => c.2.2) (fun c f => ?_) _ _ (s.onlyIn_refl _)
  obtain ⟨hand, pre, u⟩ := c
  dsimp -zeta only
  extract_lets x checked r fed add bq word sats times gr reduced
  have hfed : u.onlyIn tickTouch fed := (Mach.onlyIn_onFeed _ _ (by decide)).2 (u.trimEcc_tickTouch f m)
  have hbq : u.onlyIn tickTouch bq := Mach.counted_onlyIn _ _ _ _ (by decide) (by decide) hfed
  have hword : u.onlyIn tickTouch word := Mach.counted_onlyIn _ _ _ _ (by decide) (by decide) hbq
  have hsats : u.onlyIn tickTouch sats := Mach.counted_onlyIn _ _ _ _ (by decide) (by decide) hword
  have htimes : u.onlyIn tickTouch times := Mach.counted_onlyIn _ _ _ _ (by decide) (by decide) hsats
  simp only [reduced]
  split
  · exact (Mach.onlyIn_sf_open _ _ _ _ (by decide)).2 htimes
  · exact htimes

theorem Mach.commitEntries_onlyIn (m : Nat) (outs : SMap (List Int)) : s.onlyIn tickTouch (s.commitEntries m outs) := by
  refine (Mach.onlyIn_onRend _ (by decide)).2 ((Mach.onlyIn_each _ _ fun u o _ => ?_).2 (s.onlyIn_refl _))
  simp (disch := decide)

theorem Mach.geoLate_onlyIn : s.onlyIn tickTouch s.geoLate := by
  unfold Mach.geoLate
  split
  · exact s.onlyIn_refl _
  · refine (Mach.onlyIn_onRend _ (by decide)).2 ((Mach.onlyIn_each _ _ fun u e _ => ?_).2 ?_) <;> simp (disch := decide)

theorem Mach.count_onlyIn (t : Tally) : s.onlyIn tickTouch (s.count t) := by
  unfold Mach.count
  extract_lets one dop del gain late stale hlate hstale hhold
  have hdop : s.onlyIn tickTouch dop := Mach.counted_onlyIn _ _ _ _ (by decide) (by decide) (s.onlyIn_refl _)
  have hdel : s.onlyIn tickTouch del := Mach.counted_onlyIn _ _ _ _ (by decide) (by decide) hdop
  have hgain : s.onlyIn tickTouch gain := (Mach.onlyIn_when _ _ (Mach.onlyIn_evt_open _ _ (by decide))).2 hdel
  have hkey : s.onlyIn tickTouch late := Mach.counted_onlyIn _ _ _ _ (by decide) (by decide) hgain
  have hstaled : s.onlyIn tickTouch stale := Mach.counted_onlyIn _ _ _ _ (by decide) (by decide) hkey
  have hhl : s.onlyIn tickTouch hlate := Mach.counted_onlyIn _ _ _ _ (by decide) (by decide) hstaled
  have hhs : s.onlyIn tickTouch hstale := Mach.counted_onlyIn _ _ _ _ (by decide) (by decide) hhl
  have hhh : s.onlyIn tickTouch hhold := Mach.counted_onlyIn _ _ _ _ (by decide) (by decide) hhs
  exact Mach.counted_onlyIn _ _ _ _ (by decide) (by decide) hhh

theorem Mach.geoDone_onlyIn : s.onlyIn tickTouch s.geoDone := by
  unfold Mach.geoDone
  split
  · exact s.onlyIn_refl _
  · refine (Mach.onlyIn_onRend _ (by decide)).2 (Mach.onlyIn_trans ((Mach.onlyIn_each _ _ fun u e _ => ?_).2 (s.onlyIn_refl _)) (Mach.count_onlyIn _ _))
    dsimp only
    split <;> simp (disch := decide)

theorem Mach.fabAccount_onlyIn (m : Nat) (missed : List Nat) : s.onlyIn tickTouch (s.fabAccount m missed).2 := by
  unfold Mach.fabAccount
  extract_lets st seen idle slacked counted miss
  have hidle : s.onlyIn tickTouch idle := by
    refine (Mach.onlyIn_each _ _ fun u e _ => ?_).2 (s.onlyIn_refl _)
    split <;> simp (disch := decide) [Mach.onlyIn_sf_open]
  have hslacked : s.onlyIn tickTouch slacked := by
    refine (Mach.onlyIn_each _ _ fun u x _ => ?_).2 hidle
    dsimp only
    split <;> simp (disch := decide) [Mach.onlyIn_sf_open]
  have hcounted : s.onlyIn tickTouch counted := by
    refine (Mach.onlyIn_each _ _ fun u e _ => ?_).2 hslacked
    simp (disch := decide) [Mach.onlyIn_bump_open]
  split
  · exact hcounted
  · rename_i worst v _
    extract_lets tick least bin hist told ended
    have htick : s.onlyIn tickTouch tick := by simp (disch := decide) [tick, hcounted]
    have hleast : s.onlyIn tickTouch least := by
      simp only [least]
      split <;> simp (disch := decide) [htick]
    have hhist : s.onlyIn tickTouch hist := (Mach.onlyIn_bump_open _ _ _ (by decide)).2 hleast
    have htold : s.onlyIn tickTouch told := by simp (disch := decide) [told, hhist]
    simp only [ended]
    split
    · exact (Mach.onlyIn_raise _ _ _ (by decide)).2 htold
    · split
      · simp (disch := decide) [hhist]
      · exact hhist

theorem Mach.ibexTick_onlyIn (slack : Option Int) (miss : Bool) : s.onlyIn tickTouch (s.ibexTick slack miss) :=
  (Mach.onlyIn_onIbex _ (by decide)).2 ((Mach.onlyIn_when _ _ (Mach.onlyIn_evt_open _ _ (by decide))).2 (s.onlyIn_refl _))

theorem Mach.logTick_onlyIn (slack : Option Int) (miss : Bool) : s.onlyIn tickTouch (s.logTick slack miss) := by
  unfold Mach.logTick
  extract_lets
  split
  · exact s.onlyIn_refl _
  · exact (Mach.onlyIn_onRend _ (by decide)).2 (s.onlyIn_refl _)

theorem Mach.tickTouch_of_fab {s t : Mach} (h : s.onlyIn fabTouch t) : s.onlyIn tickTouch t := by
  refine Mach.onlyIn_mono h (by decide) fun a ha => Footprint.covers_below 0x600000 (by decide) ?_
  simpa [tickTouch, Footprint.covers] using ha

theorem Mach.gateTick_onlyIn : s.onlyIn tickTouch s.gateTick := by
  unfold Mach.gateTick
  split
  · exact s.onlyIn_refl _
  · refine (Mach.onlyIn_each _ _ fun u k _ => ?_).2 (s.onlyIn_refl _)
    split
    · exact u.onlyIn_refl _
    · extract_lets n
      refine Mach.onlyIn_trans ?_ (Mach.tickTouch_of_fab (engineGroupGate_onlyIn _ k))
      simp (disch := decide)

theorem Mach.finishTick_onlyIn : s.onlyIn tickTouch s.finishTick := by
  unfold Mach.finishTick
  split
  · exact s.onlyIn_refl _
  · rename_i w _
    extract_lets m missedL missed miss
    split
    rename_i fo fronts hfronts
    have h1 : s.onlyIn tickTouch fronts := by
      have h := s.runFronts_onlyIn w missed
      rwa [hfronts] at h
    extract_lets filled parity
    have h2 : s.onlyIn tickTouch parity := Mach.onlyIn_trans (Mach.onlyIn_trans h1 (fronts.fillEntries_onlyIn ..)) (filled.parityErrs_onlyIn ..)
    split
    rename_i acc paths hpaths
    have h3 : s.onlyIn tickTouch paths := by
      have h := parity.renderPaths_onlyIn m w.perr missed
      rw [hpaths] at h
      exact Mach.onlyIn_trans h2 h
    extract_lets sums
    split
    rename_i hand pre feeds hfeeds
    have h4 : s.onlyIn tickTouch feeds := by
      have h := paths.runFeeds_onlyIn m sums missed
      rw [hfeeds] at h
      exact Mach.onlyIn_trans h3 h
    extract_lets stored geo
    have h5 : s.onlyIn tickTouch stored := Mach.onlyIn_trans h4 (feeds.commitEntries_onlyIn ..)
    have h6 : s.onlyIn tickTouch geo := by
      simp only [geo]
      split
      · exact Mach.onlyIn_trans h5 stored.geoLate_onlyIn
      · exact Mach.onlyIn_trans h5 stored.geoDone_onlyIn
    split
    rename_i slack accounted hslack
    have h7 : s.onlyIn tickTouch accounted := by
      have h := geo.fabAccount_onlyIn m missedL
      rw [hslack] at h
      exact Mach.onlyIn_trans h6 h
    refine (Mach.onlyIn_onRend _ (by decide)).2 (Mach.onlyIn_trans ?_ (Mach.gateTick_onlyIn _))
    exact Mach.onlyIn_trans (Mach.onlyIn_trans h7 (accounted.ibexTick_onlyIn ..)) (Mach.logTick_onlyIn ..)

theorem fabricDone_frame : noStore tickFrame s (fabricDone s) := by
  have h : s.onlyIn tickTouch (fabricDone s) := by
    unfold fabricDone
    split
    · exact s.finishTick_onlyIn
    · exact s.onlyIn_refl _
  exact ⟨tickFrame_of_parts h (by decide) (by decide), h.1 .mem (by decide)⟩

end

/-! ## Rendering rows between tokens -/

section
variable (s : Mach)

theorem routeXfadeEnd_onlyIn (i : Nat) : s.onlyIn rendTouch (routeXfadeEnd i s) := by
  unfold routeXfadeEnd
  split
  · simp (disch := decide)
  · split <;> simp (disch := decide)

theorem playPrefetch_onlyIn (p : Nat) : s.onlyIn rendTouch (playPrefetch p s) := by
  unfold playPrefetch
  extract_lets
  split
  · exact s.onlyIn_refl _
  · split <;> simp (disch := decide)

theorem bulkWriteLost_onlyIn (o t : Nat) : s.onlyIn rendTouch (bulkWriteLost o t s) := by
  unfold bulkWriteLost
  split <;> simp (disch := decide)

theorem hpTimeout_onlyIn (o : Nat) : s.onlyIn rendTouch (hpTimeout o s) := by
  unfold hpTimeout
  extract_lets h t
  have ht : s.onlyIn rendTouch t := by simp (disch := decide) [t]
  split
  · exact s.onlyIn_refl _
  · simp (disch := decide) [ht]

theorem bankXfadeEnd_onlyIn (f : Nat) : s.onlyIn rendTouch (bankXfadeEnd f s) := by
  unfold bankXfadeEnd
  split
  · split <;> simp (disch := decide)
  · exact s.onlyIn_refl _

theorem spectrumWriteLost_onlyIn (f b : Nat) : s.onlyIn rendTouch (spectrumWriteLost f b s) := by
  unfold spectrumWriteLost
  split <;> simp (disch := decide)

theorem trimXfadeEnd_onlyIn (f : Nat) : s.onlyIn rendTouch (trimXfadeEnd f s) := by
  unfold trimXfadeEnd
  split <;> simp (disch := decide)

theorem zeroCrossing_onlyIn (f : Nat) (mute : Bool) : s.onlyIn rendTouch (zeroCrossing f mute s) := by
  unfold zeroCrossing
  extract_lets
  split <;> simp (disch := decide)

theorem zcTimeout_onlyIn (f : Nat) (mute : Bool) : s.onlyIn rendTouch (zcTimeout f mute s) := by
  unfold zcTimeout
  extract_lets
  split
  · split <;> simp (disch := decide)
  · exact s.onlyIn_refl _

theorem gainRampEnd_onlyIn (f : Nat) (mute : Bool) : s.onlyIn rendTouch (gainRampEnd f mute s) := by
  unfold gainRampEnd
  extract_lets
  split <;> simp (disch := decide)

theorem laXfadeEnd_onlyIn (f : Nat) : s.onlyIn rendTouch (laXfadeEnd f s) := by
  unfold laXfadeEnd
  split <;> simp (disch := decide)

theorem asrcSettling_onlyIn (i : Nat) (old : Bool) : s.onlyIn rendTouch (asrcSettling i old s) := by
  unfold asrcSettling
  extract_lets
  split <;> simp (disch := decide)

theorem asrcLocked_onlyIn (i : Nat) (old : Bool) : s.onlyIn rendTouch (asrcLocked i old s) := by
  unfold asrcLocked
  extract_lets
  split <;> simp (disch := decide)

theorem convLocked_onlyIn (i : Nat) : s.onlyIn rendTouch (convLocked i s) := by
  unfold convLocked
  extract_lets
  split
  · exact s.onlyIn_refl _
  · split <;> simp (disch := decide)

theorem Mach.muteFree_onlyIn {s t : Mach} (h : s.onlyIn rendTouch t) : s.onlyIn rendTouch t.muteFree := by
  simp (disch := decide) [Mach.muteFree, h]

theorem muteNLow_onlyIn : s.onlyIn rendTouch (muteNLow s) := by
  unfold muteNLow
  extract_lets t
  have ht : s.onlyIn rendTouch t := by simp (disch := decide) [t]
  split
  · exact ht
  · simp (disch := decide) [ht]

theorem muteNRelease_onlyIn : s.onlyIn rendTouch (muteNRelease s) := by
  unfold muteNRelease
  extract_lets t u
  have ht : s.onlyIn rendTouch t := by simp (disch := decide) [t]
  have hu : s.onlyIn rendTouch u := by simp (disch := decide) [u, ht]
  split
  · exact ht
  · split
    · simp (disch := decide) [hu]
    · exact Mach.muteFree_onlyIn hu

theorem hwmuteClrWrite_onlyIn (v : Nat) : s.onlyIn rendTouch (hwmuteClrWrite v s) := by
  unfold hwmuteClrWrite
  split
  · exact Mach.muteFree_onlyIn (s.onlyIn_refl _)
  · exact s.onlyIn_refl _

theorem hwmuteCfgWrite_onlyIn (v : Nat) : s.onlyIn rendTouch (hwmuteCfgWrite v s) := by
  unfold hwmuteCfgWrite
  extract_lets v' inForce was t u
  have ht : s.onlyIn rendTouch t := by simp (disch := decide) [t]
  have hu : s.onlyIn rendTouch u := by simp (disch := decide) [u, ht]
  split
  · exact s.onlyIn_refl _
  · split
    · split
      · exact Mach.muteFree_onlyIn hu
      · exact hu
    · exact ht

theorem Mach.askedCommit_onlyIn (b : Bool) (k : Nat) : s.onlyIn rendTouch (s.when b (·.askCommit k)) :=
  (Mach.onlyIn_when _ _ (Mach.onlyIn_askCommit k (by decide))).2 (s.onlyIn_refl _)

theorem inselWrite_onlyIn (i v : Nat) (hw : ∀ i, s.chanOk i = true → i < 640) : s.onlyIn rendTouch (inselWrite i v s) := by
  unfold inselWrite
  split
  · exact s.onlyIn_refl _
  · rename_i hok
    split
    · simp (disch := decide)
    · exact (Mach.onlyIn_wr_family _ _ i 0 (by decide) (hw i (by simpa using hok)) (by decide)).2 (s.onlyIn_refl _)

theorem playCtrlWrite_onlyIn (p v : Nat) : s.onlyIn rendTouch (playCtrlWrite p v s) := by
  unfold playCtrlWrite
  split
  · exact s.onlyIn_refl _
  · rename_i hp
    extract_lets was t w
    have ht : s.onlyIn rendTouch t := (Mach.onlyIn_wr_family _ _ p 0 (by decide) (Nat.lt_of_not_le hp) (by decide)).2 (s.onlyIn_refl _)
    split
    · exact (Mach.onlyIn_onPlay _ _ (by decide)).2 ((Mach.onlyIn_wr_family _ _ p 0 (by decide) (Nat.lt_of_not_le hp) (by decide)).2 ht)
    · exact ht

theorem playWrWrite_onlyIn (p v : Nat) : s.onlyIn rendTouch (playWrWrite p v s) := by
  unfold playWrWrite
  extract_lets v'
  split
  · exact s.onlyIn_refl _
  · rename_i h
    have hp : p < 64 := by
      simp only [Bool.or_eq_true, decide_eq_true_eq, not_or] at h
      omega
    exact (Mach.onlyIn_wr_family _ _ p 0 (by decide) hp (by decide)).2 (s.onlyIn_refl _)

theorem capCtrlWrite_onlyIn (c v : Nat) : s.onlyIn rendTouch (capCtrlWrite c v s) := by
  unfold capCtrlWrite
  split
  · exact s.onlyIn_refl _
  · rename_i hc
    extract_lets was t
    have ht : s.onlyIn rendTouch t := (Mach.onlyIn_wr_family _ _ c 0 (by decide) (Nat.lt_of_not_le hc) (by decide)).2 (s.onlyIn_refl _)
    split
    · exact (Mach.onlyIn_onRend _ (by decide)).2 ((Mach.onlyIn_wr_family _ _ c 0 (by decide) (Nat.lt_of_not_le hc) (by decide)).2 ht)
    · exact ht

theorem outselWrite_onlyIn (i v : Nat) : s.onlyIn rendTouch (outselWrite i v s) := by
  unfold outselWrite
  split
  · exact s.onlyIn_refl _
  · rename_i hi
    split
    · simp (disch := decide)
    · refine (Mach.onlyIn_wr _ _ i 0 ?_).2 (s.onlyIn_refl _)
      simp [rendTouch, Footprint.covers, Reg.at_, R.FEED_OUTSEL]
      simp at hi
      omega

theorem bulkBaseWrite_onlyIn (v : Nat) : s.onlyIn rendTouch (bulkBaseWrite v s) := by
  unfold bulkBaseWrite
  extract_lets t
  have ht : s.onlyIn rendTouch t := by simp (disch := decide) [t]
  split
  · split <;> simp (disch := decide)
  · split
    · simp (disch := decide) [Mach.bulkEnable, ht]
    · exact ht

theorem Mach.onlyIn_corrEnable {s t : Mach} (h : s.onlyIn rendTouch t) : s.onlyIn rendTouch t.corrEnable :=
  (Mach.onlyIn_onRend _ (by decide)).2 h

theorem corrBaseWrite_onlyIn (v : Nat) : s.onlyIn rendTouch (corrBaseWrite v s) := by
  unfold corrBaseWrite
  extract_lets t
  have ht : s.onlyIn rendTouch t := by simp (disch := decide) [t]
  split
  · split <;> simp (disch := decide)
  · split
    · exact Mach.onlyIn_corrEnable (by simp (disch := decide) [ht])
    · exact ht

end

end Sys2Proof.Machine
end

section
/-! PROOF. Frames of the fabric, ageing and rendering rows: each clause from its row's footprint. -/
namespace Sys2Proof.Machine

variable (s : Mach)

theorem engineAbandon_onlyIn (cls : Nat) : s.onlyIn fabTouch (engineAbandon cls s) :=
  (Mach.onlyIn_onFab _ (by decide)).2 (s.onlyIn_refl _)

theorem engineAbandonAck_onlyIn (e : Nat) : s.onlyIn fabTouch (engineAbandonAck e s) := by
  unfold engineAbandonAck
  split <;> simp (disch := decide)

theorem groupAwake_onlyIn (k : Nat) : s.onlyIn fabTouch (groupAwake k s) :=
  (Mach.onlyIn_onFab _ (by decide)).2 (s.onlyIn_refl _)

theorem tjRead_onlyIn (tj : Int) : s.onlyIn fabTouch (tjRead tj s) := by
  simp (disch := decide) [tjRead]

/-- Settles O45. -/
theorem fabricAndRenderingFrames : Obligations.FabricAndRenderingFrames :=
  ⟨fun e count s hlive hok => ⟨_, take_gives hlive hok rfl, fabFrame_of_touch (engineComplete_onlyIn s.m (of_decide_eq_true hok) count)⟩,
  fun cls => keeps_of_take (fun _ => rfl) fun m => fabFrame_of_touch (engineAbandon_onlyIn m cls),
  fun e => keeps_of_take (fun _ => rfl) fun m => fabFrame_of_touch (engineAbandonAck_onlyIn m e),
  fun e => keeps_of_take (fun _ => rfl) fun m => fabFrame_of_touch (fabricHang_onlyIn m e),
  keeps_of_take (fun _ => rfl) fun m => fabricDone_frame m,
  fun k => keeps_of_take (fun _ => rfl) fun m => fabFrame_of_touch (engineGroupGate_onlyIn m k),
  fun avs => keeps_of_take (fun _ => rfl) fun m => fabFrame_of_touch (herdWindow_onlyIn m avs),
  fun k => keeps_of_take (fun _ => rfl) fun m => fabFrame_of_touch (groupAwake_onlyIn m k),
  fun rates => keeps_of_take (fun _ => rfl) fun m => fabFrame_of_touch (fawnRead_onlyIn m rates),
  fun tj => keeps_of_take (fun _ => rfl) fun m => fabFrame_of_touch (tjRead_onlyIn m tj),
  keeps_of_take (fun _ => rfl) fun m => fabFrame_of_touch (ibexEvaluate_onlyIn m),
  fun ok => keeps_of_take (fun _ => rfl) fun m => fabFrame_of_touch (avsWrite_onlyIn m ok),
  keeps_of_take (fun _ => rfl) fun m => fabFrame_of_touch (ibexStuck_onlyIn m),
  keeps_of_take (fun _ => rfl) fun m => fabFrame_of_onlyIn (ageingLogWrite_onlyIn m) (by decide) rfl,
  fun v => keeps_of_take (fun _ => rfl) fun m => fabFrame_of_touch (fabMinClr_onlyIn m v),
  fun v => keeps_of_take (fun _ => rfl) fun m => fabFrame_of_touch (ibexApproveWrite_onlyIn m v),
  fun i => keeps_of_take (fun _ => rfl) fun m => rendFrame_of_touch (routeXfadeEnd_onlyIn m i),
  fun p => keeps_of_take (fun _ => rfl) fun m => rendFrame_of_touch (playPrefetch_onlyIn m p),
  fun o t => keeps_of_take (fun _ => rfl) fun m => rendFrame_of_touch (bulkWriteLost_onlyIn m o t),
  fun o => keeps_of_take (fun _ => rfl) fun m => rendFrame_of_touch (hpTimeout_onlyIn m o),
  fun f => keeps_of_take (fun _ => rfl) fun m => rendFrame_of_touch (bankXfadeEnd_onlyIn m f),
  fun f b => keeps_of_take (fun _ => rfl) fun m => rendFrame_of_touch (spectrumWriteLost_onlyIn m f b),
  fun f => keeps_of_take (fun _ => rfl) fun m => rendFrame_of_touch (trimXfadeEnd_onlyIn m f),
  fun f mute => keeps_of_take (fun _ => rfl) fun m => rendFrame_of_touch (zeroCrossing_onlyIn m f mute),
  fun f mute => keeps_of_take (fun _ => rfl) fun m => rendFrame_of_touch (zcTimeout_onlyIn m f mute),
  fun f mute => keeps_of_take (fun _ => rfl) fun m => rendFrame_of_touch (gainRampEnd_onlyIn m f mute),
  fun f => keeps_of_take (fun _ => rfl) fun m => rendFrame_of_touch (laXfadeEnd_onlyIn m f),
  fun i old => keeps_of_take (fun _ => rfl) fun m => rendFrame_of_touch (asrcSettling_onlyIn m i old),
  fun i old => keeps_of_take (fun _ => rfl) fun m => rendFrame_of_touch (asrcLocked_onlyIn m i old),
  fun i => keeps_of_take (fun _ => rfl) fun m => rendFrame_of_touch (convLocked_onlyIn m i),
  keeps_of_take (fun _ => rfl) fun m => rendFrame_of_touch (muteNLow_onlyIn m),
  keeps_of_take (fun _ => rfl) fun m => rendFrame_of_touch (muteNRelease_onlyIn m),
  fun v => keeps_of_take (fun _ => rfl) fun m => rendFrame_of_touch (hwmuteClrWrite_onlyIn m v),
  fun v => keeps_of_take (fun _ => rfl) fun m => rendFrame_of_touch (hwmuteCfgWrite_onlyIn m v),
  fun v => keeps_of_take (fun _ => rfl) fun m => rendFrame_of_touch (Mach.askedCommit_onlyIn m _ _),
  fun v => keeps_of_take (fun _ => rfl) fun m => rendFrame_of_touch (Mach.askedCommit_onlyIn m _ _),
  fun i v => keeps_of_take (fun _ => rfl) fun m => rendFrame_of_touch (inselWrite_onlyIn m i v fun _ => Mach.lt_of_chanOk),
  fun p v => keeps_of_take (fun _ => rfl) fun m => rendFrame_of_touch (playCtrlWrite_onlyIn m p v),
  fun p v => keeps_of_take (fun _ => rfl) fun m => rendFrame_of_touch (playWrWrite_onlyIn m p v),
  fun c v => keeps_of_take (fun _ => rfl) fun m => rendFrame_of_touch (capCtrlWrite_onlyIn m c v),
  fun v => keeps_of_take (fun _ => rfl) fun m => rendFrame_of_touch (Mach.askedCommit_onlyIn m _ _),
  fun i v => keeps_of_take (fun _ => rfl) fun m => rendFrame_of_touch (outselWrite_onlyIn m i v),
  fun v => keeps_of_take (fun _ => rfl) fun m => rendFrame_of_touch (Mach.askedCommit_onlyIn m _ _),
  fun v => keeps_of_take (fun _ => rfl) fun m => rendFrame_of_touch (bulkBaseWrite_onlyIn m v),
  fun v => keeps_of_take (fun _ => rfl) fun m => rendFrame_of_touch (corrBaseWrite_onlyIn m v),
  fun v => keeps_of_take (fun _ => rfl) fun m => rendFrame_of_touch (Mach.askedCommit_onlyIn m _ _),
  fun v => keeps_of_take (fun _ => rfl) fun m => rendFrame_of_touch (Mach.askedCommit_onlyIn m _ _)⟩

end Sys2Proof.Machine
end

section
/-! SUPPORT. The time unit's operations: what they read and what they leave (R436 to R448). -/
namespace Sys2Proof.Machine

section
variable (s : Mach)

@[simp] theorem Mach.rd_onTime (f : TimeSt → TimeSt) (r : Reg) (i j : Nat) : (s.onTime f).rd r i j = s.rd r i j := rfl
@[simp] theorem Mach.gf_onTime (f : TimeSt → TimeSt) (g : Fld) (i j : Nat) : (s.onTime f).gf g i j = s.gf g i j := rfl
@[simp] theorem Mach.on_onTime (f : TimeSt → TimeSt) (g : Fld) (i j : Nat) : (s.onTime f).on g i j = s.on g i j := rfl
@[simp] theorem Mach.rd_onPort (p : Nat) (f : PortTime → PortTime) (r : Reg) (i j : Nat) : (s.onPort p f).rd r i j = s.rd r i j := rfl
@[simp] theorem Mach.gf_onPort (p : Nat) (f : PortTime → PortTime) (g : Fld) (i j : Nat) : (s.onPort p f).gf g i j = s.gf g i j := rfl
@[simp] theorem Mach.on_onPort (p : Nat) (f : PortTime → PortTime) (g : Fld) (i j : Nat) : (s.onPort p f).on g i j = s.on g i j := rfl

end

theorem TimeSt.port_setPort_self (t : TimeSt) (p : Nat) (v : PortTime) : (t.setPort p v).port p = v := by
  unfold TimeSt.setPort TimeSt.port
  split <;> rfl

theorem TimeSt.port_setPort_ne (t : TimeSt) {p q : Nat} (v : PortTime) (hp : p < 2) (hq : q < 2) (h : q ≠ p) : (t.setPort p v).port q = t.port q := by
  unfold TimeSt.setPort TimeSt.port
  split
  · rw [if_neg (by omega)]
  · rw [if_pos (by omega)]

theorem toU_sext_of_lt {x : Nat} (h : x < 2 ^ 32) : toU 32 (sext 32 x) = x := by
  unfold toU sext
  split <;> simp only [Int.ofNat_eq_natCast] <;> omega

/-! ## The unit's state -/

/-- What a change of state touches once the state stands in STAT. -/
def stateTouch : Footprint := ⟨[.tm], [(0x380010, some 0x380014), (0x380808, some 0x380818)]⟩

theorem Mach.gridHoldover_onlyIn (s : Mach) : s.onlyIn stateTouch s.gridHoldover := by
  unfold Mach.gridHoldover
  extract_lets g
  split <;> simp (disch := decide)

theorem Mach.setTimeState_onlyIn (s : Mach) (st : Nat) :
    ((s.sf F.TIME_STAT_STATE st).sf F.TIME_STAT_TIME_VALID (b2n (st == 2))).onlyIn stateTouch (s.setTimeState st) := by
  unfold Mach.setTimeState
  extract_lets old t u v
  have hu : t.onlyIn stateTouch u := by
    by_cases h : (st = 2 && old != 2) = true
    · simp (disch := decide) [u, h]
    · simp (disch := decide) [u, h]
  have hv : t.onlyIn stateTouch v := by
    by_cases h : (st = 3 && old != 3) = true
    · simp (disch := decide) [v, h, hu]
    · simp (disch := decide) [v, h, hu]
  split
  · exact Mach.onlyIn_trans hv v.gridHoldover_onlyIn
  · exact hv

/-- The state is the one asked for. -/
theorem Mach.timeState_setTimeState (s : Mach) {st : Nat} (h : st < 4) : (s.setTimeState st).timeState = st := by
  rw [Mach.timeState, Mach.onlyIn_gf (s.setTimeState_onlyIn st) _ 0 0 (by decide)]
  simp (disch := decide) only [Mach.gf_sf_disjoint, Mach.gf_sf_self]
  exact Nat.mod_eq_of_lt h

theorem Mach.valid_setTimeState (s : Mach) (st : Nat) : (s.setTimeState st).on F.TIME_STAT_TIME_VALID = (st == 2) := by
  rw [Mach.on, Mach.onlyIn_gf (s.setTimeState_onlyIn st) _ 0 0 (by decide)]
  simp (disch := decide) only [Mach.gf_sf_self]
  cases st == 2 <;> rfl

/-- A change of state leaves the other fields of STAT. -/
theorem Mach.gf_setTimeState_stat (s : Mach) (st : Nat) {g : Fld} (hr : g.reg = R.TIME_STAT) (h : 2 ≤ g.lo)
    (hv : F.TIME_STAT_TIME_VALID.lo + F.TIME_STAT_TIME_VALID.len ≤ g.lo ∨ g.lo + g.len ≤ F.TIME_STAT_TIME_VALID.lo) : (s.setTimeState st).gf g = s.gf g := by
  rw [Mach.onlyIn_gf (s.setTimeState_onlyIn st) g 0 0 (by rw [hr]; decide), Mach.gf_sf_disjoint _ _ _ _ hr (by decide) hv,
    Mach.gf_sf_disjoint (f := F.TIME_STAT_STATE) _ _ _ _ hr (by decide) (Or.inl h)]

/-- A change of state leaves a register that it does not name. -/
theorem Mach.rd_setTimeState (s : Mach) (st : Nat) {r : Reg} (i : Nat) (h : stateTouch.covers (r.at_ i 0) = false)
    (hr : R.TIME_STAT.at_ 0 0 ≠ r.at_ i 0) : (s.setTimeState st).rd r i = s.rd r i := by
  rw [Mach.onlyIn_rd (s.setTimeState_onlyIn st) r i 0 h, Mach.rd_sf_ne _ _ hr, Mach.rd_sf_ne _ _ hr]

theorem Mach.live_setTimeState (s : Mach) (st : Nat) : (s.setTimeState st).live = s.live :=
  Mach.onlyIn_part (s.setTimeState_onlyIn st) .live (by decide)

/-! ## Commits and adjustments -/

/-- What a restart touches. -/
def restartTouch : Footprint := ⟨[.tm], [(0x38000C, some 0x380014), (0x380808, some 0x380818)]⟩

theorem Mach.setTimeState_restartTouch (s : Mach) (st : Nat) : s.onlyIn restartTouch (s.setTimeState st) :=
  Mach.onlyIn_trans (by simp (disch := decide) : s.onlyIn restartTouch ((s.sf F.TIME_STAT_STATE st).sf F.TIME_STAT_TIME_VALID (b2n (st == 2))))
    (Mach.onlyIn_mono (s.setTimeState_onlyIn st) (by decide) fun a => by simp [Footprint.covers, restartTouch, stateTouch]; omega)

theorem Mach.timeRestart_onlyIn (s : Mach) : s.onlyIn restartTouch s.timeRestart := by
  simp (disch := decide) [Mach.timeRestart, s.setTimeState_restartTouch]

/-- After a restart the unit is free, on its preferred port, with both ports' measurements empty. -/
theorem Mach.timeRestart_spec (s : Mach) : s.timeRestart.timeState = 0 ∧ s.timeRestart.tm.pa = PortTime.init
    ∧ s.timeRestart.tm.pb = PortTime.init ∧ s.timeRestart.tm.first = true ∧ s.timeRestart.activePort = s.gf F.TIME_REDUND_TIME_PREF_B := by
  have hstate := s.timeState_setTimeState (st := 0) (by decide)
  have hpref := s.gf_lt F.TIME_REDUND_TIME_PREF_B 0 0
  unfold Mach.timeRestart
  extract_lets t u v
  refine ⟨?_, rfl, rfl, rfl, ?_⟩
  · simp (disch := decide) only [Mach.timeState, Mach.gf_onTime, v, u, Mach.gf_sf_disjoint]
    exact hstate
  · simp (disch := decide) only [Mach.activePort, Mach.gf_onTime, v, u, Mach.gf_sf_disjoint, Mach.gf_sf_self]
    rw [Mach.onlyIn_gf (s.setTimeState_restartTouch 0) F.TIME_REDUND_TIME_PREF_B 0 0 (by decide)]
    exact Nat.mod_eq_of_lt (Nat.lt_of_lt_of_le hpref (by decide))

theorem rhaQ_intCast (n : Int) : rhaQ n = n := by
  have hhalf : ∀ k : Int, (((k : Rat) + 1 / 2).floor : Int) = k := fun k => by
    refine (Int.floor_eq_iff (R := Rat)).2 ⟨?_, ?_⟩ <;> linarith
  unfold rhaQ
  split
  · have := hhalf (-n)
    push_cast at this
    omega
  · exact hhalf n

end Sys2Proof.Machine
end

section
/-! PROOF. Commits, host adjustments, pulses and stamp queues of the time unit (R436, R437, R443, R446 to R448). -/
namespace Sys2Proof.Machine

theorem Mach.timeApply_spec (s : Mach) (cfg msg : Nat) (hc : cfg < 2 ^ 32) (hm : msg < 2 ^ 32) :
    (s.timeApply cfg msg).lv R.TIME_CFG = cfg ∧ (s.timeApply cfg msg).lv R.TIME_MSG = msg := by
  have hlive : (s.timeApply cfg msg).live = ((s.setLv R.TIME_CFG cfg).setLv R.TIME_MSG msg).live :=
    Mach.onlyIn_part (Mach.timeRestart_onlyIn _) .live (by decide)
  have hlv : ∀ r, (s.timeApply cfg msg).lv r = ((s.setLv R.TIME_CFG cfg).setLv R.TIME_MSG msg).lv r := fun r => by
    rw [Mach.lv, hlive, Mach.lv]
  rw [hlv, hlv, Mach.lv_setLv_self, Mach.lv_setLv_ne _ _ (by decide), Mach.lv_setLv_self, Nat.mod_eq_of_lt hc, Nat.mod_eq_of_lt hm]
  exact ⟨rfl, rfl⟩

/-- A host adjustment puts its frequency in force and moves the phase as its mode says. -/
theorem Mach.adjust_spec (s : Mach) (mode freq : Nat) (phase : Int) (hf : freq < 2 ^ 32) :
    (s.adjust mode (sext 32 freq) phase).rd R.TIME_FREQ = freq
      ∧ (mode = 0 → (s.adjust mode (sext 32 freq) phase).tm = s.tm)
      ∧ (mode = 1 → (s.adjust mode (sext 32 freq) phase).tm.slew = some phase ∧ (s.adjust mode (sext 32 freq) phase).on F.TIME_STAT_SLEWING = true)
      ∧ (mode = 2 → (s.adjust mode (sext 32 freq) phase).tm.slew = none
          ∧ (s.adjust mode (sext 32 freq) phase).tm.net = ((s.tm.net : Int) + phase * 65536).toNat) := by
  obtain ⟨t, ht⟩ : ∃ t, t = s.wr R.TIME_FREQ (toU 32 (sext 32 freq)) := ⟨_, rfl⟩
  have hfreq : t.rd R.TIME_FREQ = freq := by rw [ht, Mach.rd_wr_self, toU_sext_of_lt hf, Nat.mod_eq_of_lt hf]
  refine ⟨?_, ?_, ?_, ?_⟩
  · unfold Mach.adjust
    rw [← ht]
    dsimp only
    split
    · rw [Mach.rd_onTime, Mach.rd_sf_ne _ _ (by decide), hfreq]
    · rw [Mach.stepClock, Mach.bump, Mach.rd_wr_ne _ _ (by decide), Mach.rd_onTime, Mach.rd_onTime, Mach.rd_sf_ne _ _ (by decide), hfreq]
    · exact hfreq
  · rintro rfl
    rfl
  · rintro rfl
    refine ⟨rfl, ?_⟩
    rw [Mach.adjust, Mach.on_onTime]
    exact Mach.on_sf_one _ _ _ rfl (by decide)
  · rintro rfl
    refine ⟨rfl, ?_⟩
    have hround : rhaQ ((phase : Rat) * 65536) = phase * 65536 := by
      rw [← rhaQ_intCast (phase * 65536)]
      push_cast
      rfl
    simp only [Mach.adjust, Mach.stepClock, Mach.bump_tm, Mach.onTime_tm, Mach.sf_tm, Mach.wr_tm, hround]

/-- Settles O41. -/
theorem timeRegisterWritesAndStamps : Obligations.TimeRegisterWritesAndStamps := by
  refine ⟨?_, ?_, ?_, ?_, ?_, ?_, ?_, ?_, ?_, ?_, ?_, ?_, ?_⟩
  · intro s v hv h hgo hok
    refine ⟨_, take_gives h (by simpa using hv) (by rw [timeCommit, hgo, if_neg (by decide), if_pos hok]), ?_⟩
    obtain ⟨hcfg, hmsg⟩ := s.m.timeApply_spec _ _ (s.m.rd_lt R.TIME_CFG 0 0) (s.m.rd_lt R.TIME_MSG 0 0)
    obtain ⟨hstate, hpa, hpb, hfirst, hact⟩ :=
      ((s.m.setLv R.TIME_CFG (s.m.rd R.TIME_CFG)).setLv R.TIME_MSG (s.m.rd R.TIME_MSG)).timeRestart_spec
    exact ⟨hcfg, hmsg, hstate, hpa, hpb, hfirst, hact⟩
  · intro s v hv h hgo hbad
    exact take_gives h (by simpa using hv) (by rw [timeCommit, hgo, if_neg (by decide), hbad, if_neg (by decide)])
  · intro s v hv h hgo hhost hok
    refine ⟨_, take_gives h (by simpa using hv) (by
      rw [timeAdjGo, hgo, if_neg (by decide)]
      dsimp only
      rw [hhost, hok, if_neg (by decide)]), s.m.adjust_spec _ _ _ (s.m.rd_lt ..)⟩
  · intro s v hv h hgo hno
    refine take_gives h (by simpa using hv) ?_
    rw [timeAdjGo, hgo, if_neg (by decide)]
    refine if_pos ?_
    obtain hhost | hbad := hno
    · rw [hhost]; rfl
    · rw [hbad, Bool.not_false, Bool.or_true]
  · exact fun s h => take_gives h rfl rfl
  · intro s h hen hst
    exact take_gives h rfl (by rw [ppsPulse, hen, hst, if_pos (by decide)]; rfl)
  · intro s h hno
    refine take_gives h rfl (if_neg ?_)
    obtain hen | hst := hno
    · simp [hen]
    · simp [hst]
  · rintro s b t h hen rfl hroom
    refine ⟨_, take_gives h rfl (by rw [ptpEvtInEdge, hen, if_neg (by simp), if_neg (by omega)]), ?_, ?_⟩
    · rw [Mach.onTime_tm]
      cases s.m.tm.evtq.isEmpty <;> rfl
    · intro hempty
      rw [Mach.on_onTime, hempty]
      exact Mach.on_sf_one _ _ _ rfl (by decide)
  · rintro s b t h hen rfl hfull
    exact take_gives h rfl (by rw [ptpEvtInEdge, hen, if_neg (by simp), if_pos hfull])
  · intro s b t h hno
    refine take_gives h rfl (if_pos ?_)
    obtain hen | rfl := hno
    · simp [hen]
    · simp
  · intro s p v hp hv h hgo
    exact take_gives h (by simp [hp, hv]) (if_pos hgo)
  · intro s v hv h hgo
    exact take_gives h (by simpa using hv) (if_pos hgo)
  · intro s h
    refine ⟨_, take_gives h rfl rfl, Mach.registersOnly_wr _ _ _ _ (Mach.registersOnly_wr _ _ _ _ s.m.registersOnly_refl), ?_, ?_⟩
    · rw [timeNowNsRead, Mach.rd_wr_ne _ _ (by decide), Mach.rd_wr_self, Nat.mod_eq_of_lt (Nat.mod_lt _ (by decide))]
    · rw [timeNowNsRead, Mach.rd_wr_self, Nat.mod_eq_of_lt (Nat.lt_trans (Nat.mod_lt _ (by decide)) (by decide))]

end Sys2Proof.Machine
end

section
/-! PROOF. Lost time sources, failover, suspicion of the standby and the control port (R439, R452 to R455). -/
namespace Sys2Proof.Machine

/-- An error record leaves every field below the error block. -/
theorem Mach.gf_raise_below (s : Mach) (c : ECode) (x a : Nat) (g : Fld) (h : g.reg.at_ 0 0 < 0xD00000) : (s.raise c x a).gf g = s.gf g :=
  Mach.gf_of_rd (Mach.raise_rd_below s c x a h)

theorem Mach.tm_raise (s : Mach) (c : ECode) (x a : Nat) : (s.raise c x a).tm = s.tm := (s.raise_onlyIn c x a).1 .tm (by decide)

/-! ## Failover -/

/-- A failover makes the other port active and reports it as failing over. -/
theorem Mach.failover_spec (s : Mach) (h : s.activePort < 2) :
    s.failover.activePort = 1 - s.activePort ∧ s.failover.on F.TIME_STAT_FAILING = true := by
  unfold Mach.failover
  extract_lets old new used snap t u v w x y
  have hnew : new % 2 ^ 2 = new := Nat.mod_eq_of_lt (by omega)
  have ht : t.gf F.TIME_STAT_ACTIVE = new ∧ t.gf F.TIME_STAT_FAILING = 1 := by
    simp (disch := decide) only [t, Mach.gf_sf_disjoint, Mach.gf_sf_self]
    exact ⟨hnew, rfl⟩
  have hu : u.gf F.TIME_STAT_ACTIVE = new ∧ u.gf F.TIME_STAT_FAILING = 1 := by
    simpa (disch := decide) only [u, Mach.gf_sf_disjoint] using ht
  have hv : v.gf F.TIME_STAT_ACTIVE = new ∧ v.gf F.TIME_STAT_FAILING = 1 := by
    clear_value snap u
    cases snap
    case none => exact hu
    case some n => simpa (disch := decide) only [v, Mach.setFreq, Mach.gf_onTime, Mach.gf_wr_ne] using hu
  have hy : y.gf F.TIME_STAT_ACTIVE = new ∧ y.gf F.TIME_STAT_FAILING = 1 := by
    simpa (disch := decide) only [y, x, w, Mach.gf_onPort, Mach.gf_onTime, Mach.gf_sf_disjoint] using hv
  have hend : ∀ g : Fld, g.reg = R.TIME_STAT → (((y.evt F.TIME_EVT_FAILOVER).bump R.TIME_FAILOVERS).raise E.FAILOVER new ((snap.map (·.seq)).getD 0)).gf g = y.gf g := fun g hg => by
    rw [Mach.gf_raise_below _ _ _ _ _ (by rw [hg]; decide), Mach.bump, Mach.gf_wr_ne _ _ (by rw [hg]; decide), Mach.evt,
      Mach.gf_sf_ne _ _ (by rw [hg]; decide)]
  refine ⟨(hend _ rfl).trans hy.1, ?_⟩
  rw [Mach.on, hend _ rfl, hy.2]
  rfl

/-! ## Suspicion of the standby -/

theorem Mach.suspect_spec {s : Mach} {c : Nat} (hc : c < 4) (h : s.on F.TIME_STAT_STANDBY_SUSPECT = false) :
    (s.suspect c).on F.TIME_STAT_STANDBY_SUSPECT = true ∧ (s.suspect c).gf F.TIME_STAT_SUSPECT_CAUSE = c
      ∧ (s.suspect c).on F.TIME_EVT_SUSPECT = true := by
  unfold Mach.suspect
  rw [h, if_neg (by decide)]
  extract_lets t
  have ht : t.gf F.TIME_STAT_STANDBY_SUSPECT = 1 ∧ t.gf F.TIME_STAT_SUSPECT_CAUSE = c := by
    simp (disch := decide) only [t, Mach.gf_sf_disjoint, Mach.gf_sf_self]
    exact ⟨rfl, Nat.mod_eq_of_lt hc⟩
  have hend : ∀ g : Fld, R.TIME_SUSPECTS.at_ 0 0 ≠ g.reg.at_ 0 0 → g.reg.at_ 0 0 < 0xD00000 →
      (((t.evt F.TIME_EVT_SUSPECT).bump R.TIME_SUSPECTS).raise E.STANDBY_SUSPECT (1 - t.activePort) c).gf g = (t.evt F.TIME_EVT_SUSPECT).gf g := fun g hne hlow => by
    rw [Mach.gf_raise_below _ _ _ _ _ hlow, Mach.bump, Mach.gf_wr_ne _ _ hne]
  refine ⟨?_, ?_, ?_⟩
  · rw [Mach.on, hend _ (by decide) (by decide), Mach.evt, Mach.gf_sf_ne _ _ (by decide), ht.1]
    rfl
  · rw [hend _ (by decide) (by decide), Mach.evt, Mach.gf_sf_ne _ _ (by decide), ht.2]
  · rw [Mach.on, hend _ (by decide) (by decide)]
    exact Mach.on_sf_one _ _ _ rfl (by decide)

/-! ## Lost sources -/

/-- The unit as a lost source leaves its port: the time-out counted and the port without source. -/
def Mach.sourceGone (s : Mach) (p cause : Nat) : Mach :=
  (if cause = 1 then s.bump R.TIME_SYNC_TO else if cause = 2 then s.bump R.TIME_ANN_TO else s).onPort p
    (fun t => { t with gm := none, sync := none, req := none })

theorem timeSourceLost_of_source {s : Mach} {p cause : Nat} (h : (s.tm.port p).gm ≠ none) :
    timeSourceLost p cause s =
      let t := s.sourceGone p cause
      if p != t.activePort then
        t.when (t.timeState == 3 && (t.tm.port (1 - p)).gm.isNone) (·.onTime (fun t => { t with bothLost := true }))
      else if t.on F.TIME_STAT_FAILING then
        ((t.sf F.TIME_STAT_FAILING 0).onTime (fun t => { t with bothLost := (t.port (1 - p)).gm.isNone })).setTimeState 3
      else if !t.hostMode 6 && s.standbyReady then t.failover
      else
        let u := if t.hostMode 6 then t.raise E.TIME_PORT_FAIL p cause else t
        let u := u.onTime (fun q => { q with bothLost := (t.tm.port (1 - p)).gm.isNone })
        if u.timeState = 0 then u else u.setTimeState 3 := by
  rw [timeSourceLost, if_neg (by simpa using h)]
  rfl

theorem Mach.gf_sourceGone (s : Mach) (p cause : Nat) (g : Fld) (hs : R.TIME_SYNC_TO.at_ 0 0 ≠ g.reg.at_ 0 0)
    (ha : R.TIME_ANN_TO.at_ 0 0 ≠ g.reg.at_ 0 0) : (s.sourceGone p cause).gf g = s.gf g := by
  rw [Mach.sourceGone, Mach.gf_onPort]
  split
  · exact Mach.gf_wr_ne _ _ hs
  · split
    · exact Mach.gf_wr_ne _ _ ha
    · rfl

theorem Mach.gm_sourceGone (s : Mach) (p cause : Nat) : ((s.sourceGone p cause).tm.port p).gm = none := by
  simp only [Mach.sourceGone, Mach.onPort, Mach.onTime_tm, TimeSt.port_setPort_self]

/-- A unit that was not lost and becomes lost tells it. -/
theorem Mach.lost_setTimeState {s : Mach} (h : s.timeState ≠ 3) : (s.setTimeState 3).on F.TIME_EVT_LOST = true := by
  have hold : ∀ u : Mach, u.gridHoldover.on F.TIME_EVT_LOST = u.on F.TIME_EVT_LOST := fun u => by
    unfold Mach.gridHoldover
    extract_lets g
    split
    · rw [Mach.evt, Mach.on_sf_ne _ _ (by decide), Mach.on_sf_ne _ _ (by decide)]
    · rfl
  unfold Mach.setTimeState
  extract_lets old t u v
  have hv : v.on F.TIME_EVT_LOST = true := by
    simp only [v]
    rw [if_pos (by simpa using h)]
    exact Mach.on_sf_one _ _ _ rfl (by decide)
  split
  · rw [hold, hv]
  · exact hv

/-! ## The control port -/

theorem Mach.ctrlMove_spec {s : Mach} {p : Nat} (hp : p < 4) (h : s.gf F.TIME_STAT_CTRL_PORT ≠ p) :
    (s.ctrlMove p).gf F.TIME_STAT_CTRL_PORT = p ∧ (s.ctrlMove p).on F.TIME_EVT_CTRL_MOVE = true
      ∧ (s.ctrlMove p).rd R.TIME_CTRL_MOVES = Nat.min 0xFFFFFFFF (s.rd R.TIME_CTRL_MOVES + 1) := by
  rw [Mach.ctrlMove, if_neg h]
  refine ⟨?_, Mach.on_sf_one _ _ _ rfl (by decide), ?_⟩
  · rw [Mach.evt, Mach.gf_sf_ne _ _ (by decide), Mach.bump, Mach.gf_wr_ne _ _ (by decide), Mach.gf_sf_self _ _ _ _ _ (by decide)]
    exact Nat.mod_eq_of_lt hp
  · rw [Mach.evt, Mach.rd_sf_ne _ _ (by decide), Mach.rd_bump_self, Mach.rd_sf_ne _ _ (by decide)]

/-- Settles O40. -/
theorem sourcesFailOverAndMove : Obligations.SourcesFailOverAndMove := by
  have hact : ∀ (s : Mach) p c, (s.sourceGone p c).activePort = s.activePort := fun s p c => s.gf_sourceGone p c _ (by decide) (by decide)
  have hfail : ∀ (s : Mach) p c, (s.sourceGone p c).on F.TIME_STAT_FAILING = s.on F.TIME_STAT_FAILING := fun s p c => by
    rw [Mach.on, s.gf_sourceGone p c _ (by decide) (by decide), Mach.on]
  have hhost : ∀ (s : Mach) p c, (s.sourceGone p c).hostMode 6 = s.hostMode 6 := fun s p c => by
    rw [Mach.hostMode, s.gf_sourceGone p c _ (by decide) (by decide), Mach.hostMode]
  have hstate : ∀ (s : Mach) p c, (s.sourceGone p c).timeState = s.timeState := fun s p c => s.gf_sourceGone p c _ (by decide) (by decide)
  refine ⟨?_, ?_, ?_, ?_, ?_, ?_, ?_, ?_, ?_, ?_, ?_, ?_⟩
  · intro s p c hp h hnone
    exact take_gives h (by simpa using hp) (by rw [timeSourceLost, hnone]; rfl)
  · intro s p c hp h hgm hne
    refine ⟨_, take_gives h (by simpa using hp) ((timeSourceLost_of_source hgm).trans (if_pos (by simpa [hact] using hne))), ?_⟩
    have hst := hstate s.m p c
    have hac := hact s.m p c
    have hg := s.m.gm_sourceGone p c
    cases ((s.m.sourceGone p c).timeState == 3 && ((s.m.sourceGone p c).tm.port (1 - p)).gm.isNone)
    · exact ⟨hg, hst, hac⟩
    · exact ⟨hg, hst, hac⟩
  · intro s p c hp h hgm heq hnf hfw hready
    refine ⟨(s.m.sourceGone p c).failover, take_gives h (by simpa using hp) ((timeSourceLost_of_source hgm).trans ?_), ?_⟩
    · dsimp only
      rw [hact, ← heq, bne_self_eq_false, if_neg (by decide), hfail, hnf, if_neg (by decide), hhost, hfw, hready, if_pos (by decide)]
    · have := (s.m.sourceGone p c).failover_spec (by rw [hact, ← heq]; exact hp)
      rwa [hact, ← heq] at this
  · intro s p c hp h hgm heq hnf hfw hready hst
    obtain ⟨u, hu⟩ : ∃ u, u = (s.m.sourceGone p c).onTime (fun q => { q with bothLost := ((s.m.sourceGone p c).tm.port (1 - p)).gm.isNone }) := ⟨_, rfl⟩
    have hus : u.timeState = s.m.timeState := by rw [hu]; exact hstate s.m p c
    refine ⟨u.setTimeState 3, take_gives h (by simpa using hp) ((timeSourceLost_of_source hgm).trans ?_), u.timeState_setTimeState (by decide),
      Mach.lost_setTimeState (by omega), u.valid_setTimeState 3⟩
    dsimp only
    rw [hact, ← heq, bne_self_eq_false, if_neg (by decide), hfail, hnf, if_neg (by decide), hhost, hfw, hready, if_neg (by decide),
      if_neg Bool.false_ne_true, ← hu, if_neg (by omega)]
  · exact fun s h hf => take_gives h rfl (if_pos hf)
  · exact fun s h hf => take_gives h rfl (if_neg (by simp [hf]))
  · intro s h ha hnone hsome
    exact take_gives h rfl (if_pos (by simp [ha, hnone, hsome]))
  · exact fun s c hc hoff => Mach.suspect_spec hc hoff
  · intro s h hlink hwait hctrl
    obtain ⟨hport, hevt, hmoves⟩ := Mach.ctrlMove_spec (p := 0) (by decide) hctrl
    exact ⟨_, take_gives h rfl (if_pos (by simp [hlink, hwait])), hport, rfl, hevt, hmoves⟩
  · intro s h hno
    exact take_gives h rfl (if_neg (by obtain h | h := hno <;> simp [h]))
  · intro s v hv h hgo hhm hf hr
    exact take_gives h (by simpa using hv) (by rw [timeFailoverGo, hgo, hhm, hf, hr]; rfl)
  · intro s v hv h hgo hno
    refine take_gives h (by simpa using hv) ?_
    rw [timeFailoverGo, hgo, if_neg (by decide)]
    exact if_pos (by obtain h | h | h := hno <;> simp [h])

end Sys2Proof.Machine
end

section
/-! PROOF. Best-master selection and the delay exchanges (R437, R438). -/
namespace Sys2Proof.Machine

/-! ## The order of data sets -/

theorem find_ne_swap (l : List (Nat × Nat)) :
    (l.map Prod.swap).find? (fun e => e.1 != e.2) = (l.find? (fun e => e.1 != e.2)).map Prod.swap := by
  rw [List.find?_map]
  congr 2
  funext e
  exact bne_comm

/-- The pairs of data-set members in the order of comparison. -/
def dataPairs (a b : GmData) : List (Nat × Nat) :=
  [(a.prio1, b.prio1), (a.cls, b.cls), (a.acc, b.acc), (a.var, b.var), (a.prio2, b.prio2), (a.ident, b.ident), (a.steps, b.steps)]

theorem GmData.better_iff (a b : GmData) :
    GmData.better a b = true ↔ ∃ e, (dataPairs a b).find? (fun e => e.1 != e.2) = some e ∧ e.1 < e.2 := by
  unfold GmData.better dataPairs
  extract_lets l
  cases l.find? (fun e => e.1 != e.2) <;> simp

theorem GmData.better_asymm {a b : GmData} (h : GmData.better a b = true) : GmData.better b a = false := by
  obtain ⟨e, hfind, hlt⟩ := (GmData.better_iff a b).1 h
  rw [Bool.eq_false_iff]
  intro hb
  obtain ⟨e', hfind', hlt'⟩ := (GmData.better_iff b a).1 hb
  have hswap : (dataPairs b a).find? (fun e => e.1 != e.2) = some e.swap := by
    rw [show dataPairs b a = (dataPairs a b).map Prod.swap from rfl, find_ne_swap, hfind]
    rfl
  rw [hswap] at hfind'
  cases hfind'
  exact absurd hlt' (Nat.lt_asymm hlt)

/-! ## Selection -/

/-- What suspicion of the standby touches. -/
def suspectTouch : Footprint := ⟨[.err], [(0x38000C, some 0x380014), (0x3800A0, some 0x3800A4), (0xD00000, some 0xE00000)]⟩

theorem Mach.suspect_onlyIn (s : Mach) (c : Nat) : s.onlyIn suspectTouch (s.suspect c) := by
  unfold Mach.suspect
  split <;> simp (disch := decide)

theorem Mach.unsuspect_onlyIn (s : Mach) (c : Nat) : s.onlyIn suspectTouch (s.unsuspect c) := by
  unfold Mach.unsuspect
  split <;> simp (disch := decide)

theorem Mach.checkGm_onlyIn (s : Mach) : s.onlyIn suspectTouch s.checkGm := by
  unfold Mach.checkGm
  extract_lets a
  split
  · exact s.onlyIn_refl _
  · split
    · split
      · exact s.unsuspect_onlyIn 2
      · exact s.suspect_onlyIn 2
    · exact s.onlyIn_refl _

theorem Mach.tm_checkGm (s : Mach) : s.checkGm.tm = s.tm := s.checkGm_onlyIn.1 .tm (by decide)

theorem Mach.lastGm_checkGm (s : Mach) : s.checkGm.lastGm = s.lastGm := by
  simp only [Mach.lastGm, Mach.rd64, Mach.onlyIn_rd s.checkGm_onlyIn R.TIME_GM_LO 0 0 (by decide),
    Mach.onlyIn_rd s.checkGm_onlyIn R.TIME_GM_HI 0 0 (by decide)]

/-- Is an announced data set taken by port p? -/
def Mach.takes (s : Mach) (p : Nat) (d : GmData) : Prop := ∀ g, (s.tm.port p).gm = some g → g.ident = d.ident ∨ GmData.better d g = true

/-- A data set that is taken is the port's master, and on the active port the identity is shown. -/
theorem ptpAnnounceReceive_of_taken {s : Mach} {p : Nat} {d : GmData} (h : s.takes p d) :
    ((ptpAnnounceReceive p d s).tm.port p).gm = some d
      ∧ (p = s.activePort → d.ident < 2 ^ 64 → (ptpAnnounceReceive p d s).lastGm = d.ident) := by
  unfold ptpAnnounceReceive
  extract_lets old took changed t v u
  have htook : took = true := by
    simp only [took]
    cases hgm : old with
    | none => rfl
    | some g => simpa using h g hgm
  rw [htook, if_neg (by decide), Mach.tm_checkGm, Mach.lastGm_checkGm]
  have ht : (t.tm.port p).gm = some d := by
    simp only [t, Mach.onPort, Mach.onTime_tm, TimeSt.port_setPort_self]
  have hact : t.activePort = s.activePort := rfl
  by_cases hp : p = s.activePort
  · rw [show u = (t.when (t.lastGm != d.ident) (·.evt F.TIME_EVT_GM_CHANGE)).wr64 R.TIME_GM_LO R.TIME_GM_HI d.ident from if_pos (hp.trans hact.symm)]
    refine ⟨?_, fun _ hid => Mach.rd64_wr64_self _ 0 hid rfl (by decide)⟩
    cases t.lastGm != d.ident <;> exact ht
  · rw [show u = t.unsuspect 3 from if_neg fun h => hp (h.trans hact)]
    refine ⟨?_, fun h => absurd h hp⟩
    rw [show (t.unsuspect 3).tm = t.tm from (t.unsuspect_onlyIn 3).1 .tm (by decide)]
    exact ht

/-- A request that leaves is in flight with its stamp, and is the port's last message. -/
theorem ptpDelayReqSend_spec (s : Mach) (p q t : Nat) : ((ptpDelayReqSend p q t s).tm.port p).req = some (q, s.txStamp p t)
    ∧ mfind (ptpDelayReqSend p q t s).tm.lastPtp p = some (if s.p2p then 1 else 0, q) := by
  refine ⟨?_, mfind_mput_self ..⟩
  exact congrArg PortTime.req (TimeSt.port_setPort_self s.tm p _)

/-- Settles O38. -/
theorem masterSelectionAndExchanges : Obligations.MasterSelectionAndExchanges := by
  refine ⟨?_, ?_, ?_, ?_, ?_, ?_, ?_, ?_, ?_, ?_, ?_⟩
  · intro s p d hp h hnone
    exact ⟨_, take_gives h (by simpa using hp) rfl, (ptpAnnounceReceive_of_taken (fun g hg => by rw [hnone] at hg; cases hg)).1⟩
  · intro s p d g hp h hsome hok
    exact ⟨_, take_gives h (by simpa using hp) rfl, ptpAnnounceReceive_of_taken (fun g' hg => by rw [hsome] at hg; cases hg; exact hok)⟩
  · intro s p d g hp h hsome hne hworse
    exact take_gives h (by simpa using hp) (by simp [ptpAnnounceReceive, hsome, hne, hworse])
  · exact fun a b h => GmData.better_asymm h
  · intro s p q t hp hq h he2e
    have := ptpDelayReqSend_spec s.m p q t
    rw [he2e] at this
    exact ⟨_, take_gives h (by simp [hp, hq]) rfl, this⟩
  · intro s p q t hp hq h hp2p
    have := ptpDelayReqSend_spec s.m p q t
    rw [hp2p] at this
    exact ⟨_, take_gives h (by simp [hp, hq]) rfl, this⟩
  · intro s p q t3 t4 a b hp hq h hreq he2e
    exact take_gives h (by simp [hp, hq]) (by simp [ptpDelayRespReceive, hreq, he2e])
  · intro s p q t1 t4 t2 t3 hp hq h hreq hp2p
    exact take_gives h (by simp [hp, hq]) (by simp [ptpDelayRespReceive, hreq, hp2p])
  · intro s p q t4 a b hp hq h hno
    refine take_gives h (by simp [hp, hq]) ?_
    obtain hnone | ⟨k, t, hsome, hne⟩ := hno
    · simp [ptpDelayRespReceive, hnone]
    · simp [ptpDelayRespReceive, hsome, hne]
  · intro s p q hp hq h hp2p
    refine take_gives h (by simp [hp, hq]) ?_
    rw [ptpPdelayReqReceive, hp2p, if_neg (by decide)]
    by_cases htwo : s.m.glv F.TIME_CFG_TWO_STEP = 0
    · simp [htwo]
    · simp [htwo]
  · intro s p q hp hq h he2e
    exact take_gives h (by simp [hp, hq]) (by rw [ptpPdelayReqReceive, he2e]; rfl)

end Sys2Proof.Machine
end

section
/-! PROOF. Offsets, the servo and its snapshots (R440 to R443, R453). -/
namespace Sys2Proof.Machine

/-! ## What a change of state keeps -/

/-- The fields that a change of state writes. -/
def stateFields : List Fld :=
  [F.TIME_STAT_STATE, F.TIME_STAT_TIME_VALID, F.TIME_EVT_VALID, F.TIME_EVT_LOST, F.TIME_GRID_STAT_STATE, F.TIME_GRID_EVT_HOLDOVER]

/-- Is a predicate of the part kept by the writes of a change of state and by updates of the time unit that leave its clock? -/
def stateStable (P : Mach → Prop) : Prop :=
  (∀ u f v, f ∈ stateFields → P u → P (u.sf f v)) ∧ ∀ (u : Mach) (f : TimeSt → TimeSt), (∀ t, (f t).net = t.net) → P u → P (u.onTime f)

theorem Mach.gridHoldover_keeps {P : Mach → Prop} (hP : stateStable P) {s : Mach} (h : P s) : P s.gridHoldover := by
  unfold Mach.gridHoldover
  extract_lets g
  split
  · exact hP.1 _ _ _ (by simp [stateFields]) (hP.1 _ _ _ (by simp [stateFields]) h)
  · exact h

theorem Mach.setTimeState_keeps {P : Mach → Prop} (hP : stateStable P) {s : Mach} (st : Nat) (h : P s) : P (s.setTimeState st) := by
  unfold Mach.setTimeState
  extract_lets old t u v
  have ht : P t := hP.1 _ _ _ (by simp [stateFields]) (hP.1 _ _ _ (by simp [stateFields]) h)
  have hu : P u := by
    simp only [u]
    split
    · exact hP.2 _ _ (fun _ => rfl) (hP.1 _ _ _ (by simp [stateFields]) ht)
    · exact ht
  have hv : P v := by
    simp only [v]
    split
    · exact hP.2 _ _ (fun _ => rfl) (hP.1 _ _ _ (by simp [stateFields]) hu)
    · exact hu
  split
  · exact Mach.gridHoldover_keeps hP hv
  · exact hv

theorem Mach.timeTrack_keeps {P : Mach → Prop} (hP : stateStable P) {s : Mach} (o : Rat) (h : P s) : P (s.timeTrack o) := by
  unfold Mach.timeTrack
  extract_lets run bad t st u
  have ht : P t := hP.2 _ _ (fun _ => rfl) h
  have hu : P u := by
    simp only [u]
    split
    · exact Mach.setTimeState_keeps hP 1 ht
    · exact ht
  split
  · exact Mach.setTimeState_keeps hP 2 hu
  · split
    · exact Mach.setTimeState_keeps hP 1 (hP.2 _ _ (fun _ => rfl) hu)
    · exact hu

/-! ## An accepted offset under HOST servo -/

/-- What an accepted offset of the active port shows while the host runs the servo. -/
def Mach.shows (o : Rat) (freq net : Nat) (u : Mach) : Prop :=
  u.rd R.TIME_OFS_LO = ofsWord o % 2 ^ 32 ∧ u.rd R.TIME_OFS_HI = ofsWord o / 2 ^ 32 % 2 ^ 32 ∧ u.rd R.TIME_FREQ = freq ∧ u.tm.net = net
    ∧ u.on F.TIME_EVT_SAMPLE = true

theorem shows_stable (o : Rat) (freq net : Nat) : stateStable (Mach.shows o freq net) := by
  have hne : ∀ f ∈ stateFields, ∀ r ∈ [R.TIME_OFS_LO, R.TIME_OFS_HI, R.TIME_FREQ], f.reg.at_ 0 0 ≠ r.at_ 0 0 := by decide
  refine ⟨fun u f v hf ⟨hlo, hhi, hfreq, hnet, hevt⟩ => ?_, fun u f hf ⟨hlo, hhi, hfreq, hnet, hevt⟩ => ⟨hlo, hhi, hfreq, (hf _).trans hnet, hevt⟩⟩
  have hrd : ∀ r : Reg, f.reg.at_ 0 0 ≠ r.at_ 0 0 → (u.sf f v).rd r = u.rd r := fun r h => Mach.rd_sf_ne _ _ h
  have hsample : (u.sf f v).on F.TIME_EVT_SAMPLE = u.on F.TIME_EVT_SAMPLE := by
    simp only [stateFields, List.mem_cons, List.not_mem_nil, or_false] at hf
    obtain rfl | rfl | rfl | rfl | rfl | rfl := hf <;>
      simp (disch := decide) only [Mach.on, Mach.gf_sf_ne, Mach.gf_sf_disjoint]
  refine ⟨?_, ?_, ?_, hnet, hsample.trans hevt⟩
  · rw [hrd _ (hne f hf _ (by simp)), hlo]
  · rw [hrd _ (hne f hf _ (by simp)), hhi]
  · rw [hrd _ (hne f hf _ (by simp)), hfreq]

theorem TimeSt.net_setPort (t : TimeSt) (p : Nat) (v : PortTime) : (t.setPort p v).net = t.net := by
  unfold TimeSt.setPort
  split <;> rfl

/-- The active port adopts nothing. -/
theorem Mach.adopt_active {s : Mach} {p : Nat} (h : p = s.activePort) : s.adopt p = s := by
  rw [Mach.adopt]
  exact if_neg (by simp [h])

theorem Mach.accept_shows {s : Mach} {p : Nat} (q : Nat) (o d : Rat) (hp : p = s.activePort) (hhost : s.hostMode 1 = true) :
    Mach.shows o (s.rd R.TIME_FREQ) s.tm.net (s.accept p q o d) := by
  unfold Mach.accept
  extract_lets t u a b c e f g h
  have hu : u = t := Mach.adopt_active hp
  have hb : b.hostMode 1 = true := by
    simp (disch := decide) only [b, a, hu, t, Mach.hostMode, Mach.step32, Mach.wr64, Mach.gf_wr_ne, Mach.gf_onPort]
    exact hhost
  have hc : c = b.evt F.TIME_EVT_SAMPLE := by
    simp only [c, hb, Mach.when, if_true]
  have he : Mach.shows o (s.rd R.TIME_FREQ) s.tm.net e := by
    simp only [e, hc]
    refine ⟨?_, ?_, ?_, (congrArg (·.tm.net) hu).trans (TimeSt.net_setPort ..), ?_⟩
    · simp (disch := decide) only [Mach.evt, Mach.rd_sf_ne, b, a, Mach.step32, Mach.wr64, Mach.rd_wr_ne, Mach.rd_wr_self, Nat.mod_mod]
    · simp (disch := decide) only [Mach.evt, Mach.rd_sf_ne, b, a, Mach.step32, Mach.wr64, Mach.rd_wr_ne, Mach.rd_wr_self, Nat.mod_mod]
    · simp (disch := decide) only [Mach.evt, Mach.rd_sf_ne, b, a, Mach.step32, Mach.wr64, Mach.rd_wr_ne, hu, t, Mach.rd_onPort]
    · rw [Mach.on_sf_ne _ _ (by decide)]
      exact Mach.on_sf_one _ _ _ rfl (by decide)
  have hstable := shows_stable o (s.rd R.TIME_FREQ) s.tm.net
  have hf : Mach.shows o (s.rd R.TIME_FREQ) s.tm.net f := by
    rw [show f = e.onTime _ from if_pos (by simpa (disch := decide) only [e, hc, Mach.evt, Mach.hostMode, Mach.gf_sf_ne] using hb)]
    exact hstable.2 _ _ (fun _ => rfl) he
  rw [if_pos (by rw [hu]; exact hp)]
  exact hstable.2 _ _ (fun _ => rfl) (hstable.2 _ _ (fun _ => rfl) (Mach.timeTrack_keeps hstable o hf))

/-! ## The servo -/

/-- Without a limit on steps the servo integrates the offset and puts the clamped frequency in force. -/
theorem Mach.servo_tracks {s : Mach} {o : Rat} (hfirst : s.tm.first = false) (hrelock : s.tm.relock = false) (hlim : s.rd R.TIME_STEP_NS = 0) :
    s.servo o =
      let i := s.tm.servoI + (s.rd R.TIME_SERVO_KI : Rat) / 65536 * o / s.tau
      let f := clampQ (-500000) 500000 (-((s.rd R.TIME_SERVO_KP : Rat) / 65536 * o / s.tau + i))
      (s.setFreq f).onTime (fun t => { t with servoI := i, servoF := f }) := by
  rw [Mach.servo]
  dsimp only
  rw [hfirst, hrelock, hlim, if_neg (by decide), if_neg (by decide)]
  exact if_neg (by simp)

/-- Settles O39. -/
theorem offsetsDriveTheServo : Obligations.OffsetsDriveTheServo := by
  refine ⟨?_, ?_, ?_, ?_, ?_, ?_, ?_, ?_, ?_, ?_, ?_⟩
  · intro s p q g b t1 c t2 hp hq h hne
    exact take_gives h (by simp [hp, hq]) (if_pos (by simpa using hne))
  · intro s p q g t1 c t2 hp hq h hgm
    exact take_gives h (by simp [hp, hq]) (by simp [ptpSyncReceive, hgm])
  · intro s p q g t1 c t2 hp hq h hgm
    exact take_gives h (by simp [hp, hq]) (by simp [ptpSyncReceive, hgm])
  · intro s p q g t1 c t2 z hp hq h hsync hgm
    exact take_gives h (by simp [hp, hq]) (by simp [ptpFollowUpReceive, hsync, hgm])
  · intro s p q g t1 c hp hq h hsync
    exact take_gives h (by simp [hp, hq]) (by simp [ptpFollowUpReceive, hsync])
  · intro s p q t1 t2 he2e hex
    simp [Mach.offset, he2e, hex]
  · intro s p q o d hp hlt hhost
    obtain ⟨hlo, hhi, hfreq, hnet, hevt⟩ := Mach.accept_shows q o d hp hhost
    refine ⟨?_, hfreq, hnet, hevt⟩
    rw [Mach.rd64, hlo, hhi]
    omega
  · intro s o hfirst
    refine ⟨?_, ?_, ?_, ?_⟩ <;> rw [Mach.servo] <;> dsimp only <;> rw [if_pos hfirst]
    · rfl
    · rw [Mach.rd_onTime, Mach.setFreq, Mach.rd_wr_self, show (0 : Rat) * 256 = ((0 : Int) : Rat) by norm_num, rhaQ_intCast]
      rfl
    · rfl
    · rw [Mach.rd_onTime, Mach.setFreq, Mach.rd_wr_ne _ _ (by decide), Mach.stepClock, Mach.rd_bump_self, Mach.rd_onTime]
  · intro s o hfirst hrelock hlim
    rw [Mach.servo_tracks hfirst hrelock hlim]
    exact ⟨rfl, rfl, rfl⟩
  · intro s w h hw
    exact take_gives h rfl (by simp [servoSnapshot, hw])
  · intro s h hw
    exact take_gives h rfl (by simp [servoSnapshot, hw])

end Sys2Proof.Machine
end

section
/-! SUPPORT. One serial port: what its operations read and write, and that they leave the other ports (R385 to R399). -/
namespace Sys2Proof.Machine

/-- A fold over a list without repetition establishes what one of its steps establishes, if the others keep what that step needs and
what it gives. -/
theorem Mach.each_establish {α : Type} {f : Mach → α → Mach} {Pre Post : Mach → Prop} {k : α} {l : List α} {s : Mach} (hk : k ∈ l) (hl : l.Nodup)
    (hpre : ∀ u j, j ≠ k → Pre u → Pre (f u j)) (hstep : ∀ u, Pre u → Post (f u k)) (hpost : ∀ u j, j ≠ k → Post u → Post (f u j))
    (h : Pre s) : Post (s.each l f) := by
  induction l generalizing s with
  | nil => cases hk
  | cons a l ih =>
    rw [Mach.each_cons]
    obtain ⟨hout, hl⟩ := List.nodup_cons.1 hl
    obtain rfl | hk := List.mem_cons.1 hk
    · have hrest : ∀ (l : List α) (u : Mach), k ∉ l → Post u → Post (u.each l f) := by
        intro l
        induction l with
        | nil => exact fun u _ hu => hu
        | cons b l ih =>
          intro u hn hu
          rw [List.mem_cons, not_or] at hn
          exact ih _ hn.2 (hpost u b (Ne.symm hn.1) hu)
      exact hrest l _ hout (hstep s h)
    · exact ih hk hl (hpre s a (fun e => hout (e ▸ hk)) h)

section
variable (s : Mach)

@[simp] theorem Mach.rd_onAsp (n : Nat) (f : AspSt → AspSt) (r : Reg) (i j : Nat) : (s.onAsp n f).rd r i j = s.rd r i j := rfl
@[simp] theorem Mach.gf_onAsp (n : Nat) (f : AspSt → AspSt) (g : Fld) (i j : Nat) : (s.onAsp n f).gf g i j = s.gf g i j := rfl

theorem Mach.aspSt_onAsp (n : Nat) (f : AspSt → AspSt) : (s.onAsp n f).aspSt n = f (s.aspSt n) := mget_mput_self ..

/-- Another register at the same index stands. -/
theorem Mach.gf_sf_inst {f g : Fld} (v i : Nat) (hs : f.reg.s1 = g.reg.s1) (hb : f.reg.base ≠ g.reg.base) :
    (s.sf f v i 0).gf g i 0 = s.gf g i 0 := Mach.gf_wr_inst s _ i hs hb

end

theorem Mach.on_of_rd {s t : Mach} {f : Fld} {i j : Nat} (h : t.rd f.reg i j = s.rd f.reg i j) : t.on f i j = s.on f i j :=
  congrArg (· != 0) (Mach.gf_of_rd h)

/-! ## The window of a port -/

/-- What an operation of port n touches. -/
def portTouch (n : Nat) : Footprint :=
  ⟨[.asp, .err], [(0x200000 + 0x1000 * n, some (0x201000 + 0x1000 * n)), (0xD00000, some 0xE00000)]⟩

/-- Is a register one of each port? -/
def Reg.ofPort (r : Reg) : Bool := r.s1 == 0x1000 && decide (0x200000 ≤ r.base) && decide (r.base < 0x201000)

theorem Reg.at_ofPort {r : Reg} (h : r.ofPort = true) (n : Nat) :
    0x200000 + 0x1000 * n ≤ r.at_ n 0 ∧ r.at_ n 0 < 0x201000 + 0x1000 * n := by
  simp only [Reg.ofPort, Bool.and_eq_true, beq_iff_eq, decide_eq_true_eq] at h
  obtain ⟨⟨hs, hlow⟩, hhigh⟩ := h
  simp only [Reg.at_, hs]
  omega

theorem portTouch_covers {r : Reg} (h : r.ofPort = true) (n : Nat) : (portTouch n).covers (r.at_ n 0) = true := by
  obtain ⟨hlow, hhigh⟩ := Reg.at_ofPort h n
  simp [Footprint.covers, portTouch, hlow, hhigh]

theorem portTouch_covers_other {r : Reg} (h : r.ofPort = true) {n k : Nat} (hk : k ≠ n) (hlt : k < 64) : (portTouch n).covers (r.at_ k 0) = false := by
  obtain ⟨hlow, hhigh⟩ := Reg.at_ofPort h k
  simp [Footprint.covers, portTouch]
  omega

section
variable {s t : Mach} {n : Nat}

@[simp] theorem Mach.portTouch_wr (r : Reg) (v : Nat) (h : r.ofPort = true) : s.onlyIn (portTouch n) (t.wr r v n) ↔ s.onlyIn (portTouch n) t :=
  Mach.onlyIn_wr r v n 0 (portTouch_covers h n)
@[simp] theorem Mach.portTouch_sf (f : Fld) (v : Nat) (h : f.reg.ofPort = true) : s.onlyIn (portTouch n) (t.sf f v n) ↔ s.onlyIn (portTouch n) t :=
  Mach.portTouch_wr _ _ h
@[simp] theorem Mach.portTouch_onAsp (f : AspSt → AspSt) : s.onlyIn (portTouch n) (t.onAsp n f) ↔ s.onlyIn (portTouch n) t :=
  Mach.onlyIn_onAsp _ _ (by simp [portTouch])
@[simp] theorem Mach.portTouch_raise (c : ECode) (x a : Nat) : s.onlyIn (portTouch n) (t.raise c x a) ↔ s.onlyIn (portTouch n) t :=
  Mach.onlyIn_iff (Mach.onlyIn_mono (t.raise_onlyIn c x a) (by simp [recordTouch, portTouch])
    fun a h => by simp [Footprint.covers, recordTouch, portTouch] at h ⊢; omega)

theorem Mach.aspSet_onlyIn (s : Mach) (n st : Nat) : s.onlyIn (portTouch n) (s.aspSet n st) := by
  simp (disch := decide) [Mach.aspSet]

theorem Mach.aspReacquire_onlyIn (s : Mach) (n c : Nat) : s.onlyIn (portTouch n) (s.aspReacquire n c) := by
  unfold Mach.aspReacquire
  split <;> simp (disch := decide) [Mach.aspSet, Mach.aspQuit]

theorem Mach.aspLoss_onlyIn (s : Mach) (n c : Nat) (b : Bool) : s.onlyIn (portTouch n) (s.aspLoss n c b) := by
  unfold Mach.aspLoss
  split <;> simp (disch := decide) [Mach.aspSet, Mach.aspQuit, Mach.bump, Mach.evt]

/-- The registers of another port stand. -/
theorem Mach.rd_otherPort (h : s.onlyIn (portTouch n) t) {r : Reg} {k : Nat} (hk : k ≠ n) (hlt : k < 64) (hr : r.ofPort = true) : t.rd r k = s.rd r k :=
  Mach.onlyIn_rd h r k 0 (portTouch_covers_other hr hk hlt)

theorem Mach.gf_otherPort (h : s.onlyIn (portTouch n) t) {g : Fld} {k : Nat} (hk : k ≠ n) (hlt : k < 64) (hr : g.reg.ofPort = true) :
    t.gf g k = s.gf g k := Mach.gf_of_rd (Mach.rd_otherPort h hk hlt hr)

/-- A port's operation leaves the configurations in force. -/
theorem Mach.lv_ofPort (h : s.onlyIn (portTouch n) t) (r : Reg) (i j : Nat) : t.lv r i j = s.lv r i j := by
  rw [Mach.lv, show t.live = s.live from h.1 .live (by simp [portTouch]), Mach.lv]

theorem Mach.aspMaster_ofPort (h : s.onlyIn (portTouch n) t) (k : Nat) : t.aspMaster k = s.aspMaster k := by
  rw [Mach.aspMaster, Mach.glv, Mach.lv_ofPort h, Mach.aspMaster, Mach.glv]

end

/-! ## State, loss and acquisition of one port -/

section
variable (s : Mach) (n : Nat)

theorem Mach.aspState_aspSet {st : Nat} (h : st < 4) : (s.aspSet n st).aspState n = st := by
  simp (disch := decide) only [Mach.aspSet, Mach.aspState, Mach.gf_sf_disjoint, Mach.gf_sf_self]
  exact Nat.mod_eq_of_lt h

theorem Mach.loss_aspSet (st : Nat) : (s.aspSet n st).on F.ASP_STAT_LOSS n = (s.on F.ASP_STAT_EN n && st != 2) := by
  rw [Mach.aspSet, Mach.on_sf_b2n _ _ _ _ rfl (by decide)]

theorem Mach.aspReacquire_spec {c : Nat} (hc : c < 8) (hen : s.on F.ASP_STAT_EN n = true) :
    (s.aspReacquire n c).aspState n = 1 ∧ (s.aspReacquire n c).gf F.ASP_STAT_CAUSE n = c := by
  rw [Mach.aspReacquire, hen, if_neg (by decide)]
  refine ⟨?_, ?_⟩
  · simp (disch := decide) only [Mach.aspQuit, Mach.aspSet, Mach.aspState, Mach.gf_onAsp, Mach.gf_sf_disjoint, Mach.gf_sf_self]
    rfl
  · simp (disch := decide) only [Mach.aspQuit, Mach.aspSet, Mach.gf_onAsp, Mach.gf_sf_disjoint, Mach.gf_sf_self]
    exact Nat.mod_eq_of_lt hc

/-- The load register is above every port. -/
theorem Mach.rd_aspReload {r : Reg} {k : Nat} (hr : r.ofPort = true) (hk : k < 64) : s.aspReload.rd r k = s.rd r k :=
  Mach.rd_sf_ne _ _ (by
    have := (Reg.at_ofPort hr k).2
    simp only [Reg.at_] at this ⊢
    simp [F.ASP_LOAD_HALF, R.ASP_LOAD] at this ⊢
    omega)

theorem Mach.gf_aspReload {g : Fld} {k : Nat} (hr : g.reg.ofPort = true) (hk : k < 64) : s.aspReload.gf g k = s.gf g k :=
  Mach.gf_of_rd (s.rd_aspReload hr hk)

end

/-- A register above the ports leaves every port's. -/
theorem Mach.rd_wr_above (s : Mach) {r q : Reg} (v i : Nat) {k : Nat} (hr : r.ofPort = true) (hk : k < 64) (hq : 0x240000 ≤ q.base) :
    (s.wr q v i).rd r k = s.rd r k :=
  Mach.rd_wr_ne _ _ (by
    have := (Reg.at_ofPort hr k).2
    simp only [Reg.at_] at this ⊢
    omega)

/-- What the operations of the ports touch. -/
def portsTouch : Footprint := ⟨[.asp, .err], [(0x200000, some 0x240000), (0xD00000, some 0xE00000)]⟩

theorem Mach.onlyIn_ports {s t : Mach} {n : Nat} (hn : n < 64) (h : s.onlyIn (portTouch n) t) : s.onlyIn portsTouch t :=
  Mach.onlyIn_mono h (by simp [portTouch, portsTouch]) fun a ha => by
    simp [Footprint.covers, portTouch, portsTouch] at ha ⊢
    omega

/-- The weight of the enabled ports is read from their enables and configurations. -/
theorem Mach.aspLoad_congr {s t : Mach} (hen : ∀ i < 64, t.on F.ASP_CTRL_EN i = s.on F.ASP_CTRL_EN i) (hlv : ∀ i, t.lv R.ASP_CFG i = s.lv R.ASP_CFG i)
    (k : Nat) : t.aspLoad k = s.aspLoad k := by
  unfold Mach.aspLoad
  refine List.foldl_ext _ _ _ fun a i hi => ?_
  rw [hen i (List.mem_range.1 hi), hlv]

theorem Mach.aspLoad_aspReload (s : Mach) (k : Nat) : s.aspReload.aspLoad k = s.aspLoad k :=
  Mach.aspLoad_congr (fun i hi => Mach.on_of_rd (s.rd_aspReload (by decide) hi)) (fun _ => rfl) k

end Sys2Proof.Machine
end

section
/-! PROOF. Configuration of the serial ports: commits, enables, masks, bank references and counts (R385 to R402). -/
namespace Sys2Proof.Machine

/-! ## Commits -/

/-- What a configuration in force does to its port, before the load is summed anew. -/
theorem Mach.aspApply_spec (s : Mach) {n cfg : Nat} (hn : n < 64) (hcfg : cfg < 2 ^ 32) :
    (s.aspApply n cfg).lv R.ASP_CFG n = cfg ∧ (∀ k, k ≠ n → k < 64 → (s.aspApply n cfg).lv R.ASP_CFG k = s.lv R.ASP_CFG k)
      ∧ (s.aspApply n cfg).gf F.ASP_LOAD_HALF = (s.aspApply n cfg).aspLoad % 4096
      ∧ (s.aspApply n cfg).rd R.ASP_MASK_LIVE n = s.rd R.ASP_MASK_LIVE n &&& (2 ^ bits cfg 4 6 - 1) := by
  unfold Mach.aspApply
  extract_lets changed a b keep c d e
  have hdc : (a.onlyIn (portTouch n) e) := by
    have hd : a.onlyIn (portTouch n) d := by simp (disch := decide) [d, c, b]
    simp only [e]
    split
    · exact Mach.onlyIn_trans hd (d.aspReacquire_onlyIn n 6)
    · exact hd
  have hlive : ∀ k, e.aspReload.lv R.ASP_CFG k = a.lv R.ASP_CFG k := fun k => Mach.lv_ofPort hdc _ _ _
  refine ⟨?_, fun k hk hlt => ?_, ?_, ?_⟩
  · rw [hlive, Mach.lv_setLv_self, Nat.mod_eq_of_lt hcfg]
  · rw [hlive]
    exact Mach.lv_setLv_ne _ _ (by simp only [Reg.at_, R.ASP_CFG]; omega)
  · rw [Mach.aspLoad_aspReload]
    exact Mach.gf_sf_self _ _ _ _ _ (by decide)
  · rw [Mach.rd_aspReload _ (by decide) hn]
    have hc : c.rd R.ASP_MASK_LIVE n = s.rd R.ASP_MASK_LIVE n &&& keep := by
      simp (disch := decide) only [c, b, Mach.rd_wr_self, Mach.rd_sf_inst]
      exact Nat.mod_eq_of_lt (Nat.lt_of_le_of_lt Nat.and_le_left (s.rd_lt R.ASP_MASK_LIVE n 0))
    have hd : d.rd R.ASP_MASK_LIVE n = c.rd R.ASP_MASK_LIVE n := Mach.rd_wr_inst _ _ _ rfl (by decide)
    have he : e.rd R.ASP_MASK_LIVE n = d.rd R.ASP_MASK_LIVE n := by
      simp only [e]
      split
      · unfold Mach.aspReacquire
        split
        · rfl
        · simp (disch := decide) only [Mach.aspQuit, Mach.aspSet, Mach.rd_onAsp, Mach.rd_sf_inst]
      · rfl
    rw [he, hd, hc]

/-! ## Enables -/

theorem Mach.power_wr_ofPort (s : Mach) {r : Reg} (h : r.ofPort = true) (v : Nat) {n : Nat} (hn : n < 64) : (s.wr r v n).power = s.power :=
  Mach.gf_wr_ne _ _ (by
    have := Reg.at_ofPort h n
    simp only [Reg.at_] at this ⊢
    simp [F.SYS_PWR_STAT_STATE, R.SYS_PWR_STAT]
    omega)

/-- A port that is enabled while the power state lets it run starts to acquire. -/
theorem Mach.aspEnable_on {s : Mach} {n : Nat} (hen : s.on F.ASP_CTRL_EN n = true) (hpow : s.power < 2) (hoff : s.on F.ASP_STAT_EN n = false) :
    s.aspEnable n = (s.sf F.ASP_STAT_EN 1 n).aspSet n 1 := by
  unfold Mach.aspEnable
  simp only [hen, hoff, Mach.portsHeld, show decide (2 ≤ s.power) = false from decide_eq_false (by omega)]
  rfl

/-- A port that is disabled stops. -/
theorem Mach.aspEnable_off {s : Mach} {n : Nat} (hen : s.on F.ASP_CTRL_EN n = false) (hon : s.on F.ASP_STAT_EN n = true) :
    s.aspEnable n = (((s.sf F.ASP_STAT_EN 0 n).aspSet n 0).sf F.ASP_STAT_WRONG_RATE 0 n).aspQuit n := by
  unfold Mach.aspEnable
  simp only [hen, hon]
  rfl

theorem aspCtrlWrite_of_taken {s : Mach} {n v : Nat} (hn : n < 64)
    (h : (bitOf v 0 && !s.on F.ASP_CTRL_EN n && decide (2048 < s.aspLoad n + aspWeight (s.lv R.ASP_CFG n))) = false) :
    aspCtrlWrite n v s = ((s.wr R.ASP_CTRL (v % 8) n).aspEnable n).aspReload := by
  rw [aspCtrlWrite, if_neg (by omega), Mach.aspCtrl, h]
  rfl

theorem Mach.on_wr_ctrl (s : Mach) (n v : Nat) : (s.wr R.ASP_CTRL (v % 8) n).on F.ASP_CTRL_EN n = bitOf v 0 := by
  rw [← bitOf_mod_two_pow v (n := 3) (i := 0) (by decide)]
  show (bits ((s.wr R.ASP_CTRL (v % 8) n).rd R.ASP_CTRL n) 0 1 != 0) = _
  rw [Mach.rd_wr_self, Nat.mod_eq_of_lt (Nat.lt_trans (Nat.mod_lt v (by decide : 0 < 8)) (by decide))]
  have : bits (v % 2 ^ 3) 0 1 < 2 := bits_lt ..
  show (bits (v % 2 ^ 3) 0 1 != 0) = (bits (v % 2 ^ 3) 0 1 == 1)
  generalize bits (v % 2 ^ 3) 0 1 = x at this ⊢
  obtain rfl | rfl : x = 0 ∨ x = 1 := by omega
  · rfl
  · rfl

/-- An enabled port acquires, with LOSS set. -/
theorem Mach.enabled_spec {s : Mach} {n v : Nat} (hn : n < 64) (hgo : bitOf v 0 = true) (hpow : s.power < 2) (hoff : s.on F.ASP_STAT_EN n = false) :
    let m := ((s.wr R.ASP_CTRL (v % 8) n).aspEnable n).aspReload
    m.rd R.ASP_CTRL n = v % 8 ∧ m.on F.ASP_STAT_EN n = true ∧ m.aspState n = 1 ∧ m.on F.ASP_STAT_LOSS n = true := by
  intro m
  simp only [m]
  have hen : (s.wr R.ASP_CTRL (v % 8) n).on F.ASP_CTRL_EN n = true := (s.on_wr_ctrl n v).trans hgo
  rw [Mach.aspEnable_on hen (by rwa [s.power_wr_ofPort (by decide) _ hn])
    ((Mach.on_of_rd (Mach.rd_wr_inst (r := R.ASP_CTRL) (q := R.ASP_STAT) _ _ _ rfl (by decide))).trans hoff)]
  generalize hu : (s.wr R.ASP_CTRL (v % 8) n).sf F.ASP_STAT_EN 1 n = u
  have hon : u.on F.ASP_STAT_EN n = true := by rw [← hu]; exact Mach.on_sf_one _ _ _ rfl (by decide)
  refine ⟨?_, ?_, ?_, ?_⟩
  · rw [Mach.rd_aspReload _ (by decide) hn, ← hu]
    simp (disch := decide) only [Mach.aspSet, Mach.rd_sf_inst, Mach.rd_wr_self]
    exact Nat.mod_eq_of_lt (by omega)
  · rw [Mach.on_of_rd (Mach.rd_aspReload _ (by decide) hn), ← hon]
    simp (disch := decide) only [Mach.aspSet, Mach.on, Mach.gf_sf_disjoint]
  · exact (Mach.gf_aspReload _ (by decide) hn).trans (u.aspState_aspSet n (by decide))
  · rw [Mach.on_of_rd (Mach.rd_aspReload _ (by decide) hn), Mach.loss_aspSet, hon]
    rfl

/-- A disabled port is off, with neither LOSS nor SYNC. -/
theorem Mach.disabled_spec {s : Mach} {n v : Nat} (hn : n < 64) (hstop : bitOf v 0 = false) (hon : s.on F.ASP_STAT_EN n = true) :
    let m := ((s.wr R.ASP_CTRL (v % 8) n).aspEnable n).aspReload
    m.rd R.ASP_CTRL n = v % 8 ∧ m.on F.ASP_STAT_EN n = false ∧ m.aspState n = 0 ∧ m.on F.ASP_STAT_LOSS n = false
      ∧ m.on F.ASP_STAT_SYNC n = false := by
  intro m
  simp only [m]
  have hen : (s.wr R.ASP_CTRL (v % 8) n).on F.ASP_CTRL_EN n = false := (s.on_wr_ctrl n v).trans hstop
  rw [Mach.aspEnable_off hen ((Mach.on_of_rd (Mach.rd_wr_inst (r := R.ASP_CTRL) (q := R.ASP_STAT) _ _ _ rfl (by decide))).trans hon)]
  generalize hu : (s.wr R.ASP_CTRL (v % 8) n).sf F.ASP_STAT_EN 0 n = u
  have hoff : u.on F.ASP_STAT_EN n = false := by rw [← hu]; exact Mach.on_sf_zero _ _ _ (by decide)
  refine ⟨?_, ?_, ?_, ?_, ?_⟩
  · rw [Mach.rd_aspReload _ (by decide) hn, ← hu]
    simp (disch := decide) only [Mach.aspQuit, Mach.aspSet, Mach.rd_onAsp, Mach.rd_sf_inst, Mach.rd_wr_self]
    exact Nat.mod_eq_of_lt (by omega)
  · rw [Mach.on_of_rd (Mach.rd_aspReload _ (by decide) hn), ← hoff]
    simp (disch := decide) only [Mach.aspQuit, Mach.aspSet, Mach.on, Mach.gf_onAsp, Mach.gf_sf_disjoint]
  · rw [Mach.aspState, Mach.gf_aspReload _ (by decide) hn]
    simp (disch := decide) only [Mach.aspQuit, Mach.gf_onAsp, Mach.gf_sf_disjoint]
    exact u.aspState_aspSet n (by decide)
  · rw [Mach.on_of_rd (Mach.rd_aspReload _ (by decide) hn)]
    have := u.loss_aspSet n 0
    rw [hoff] at this
    rw [← Bool.false_and (0 != 2), ← this]
    simp (disch := decide) only [Mach.aspQuit, Mach.on, Mach.gf_onAsp, Mach.gf_sf_disjoint]
  · rw [Mach.on_of_rd (Mach.rd_aspReload _ (by decide) hn)]
    simp (disch := decide) only [Mach.aspQuit, Mach.on, Mach.gf_onAsp, Mach.gf_sf_disjoint, Mach.gf_sf_self]
    rfl

/-! ## Bank references -/

/-- A new reference of a bank is written, present if the grid makes it, and every enabled master of the bank acquires anew. -/
theorem Mach.aspBank_spec (s : Mach) {b v : Nat} (hb : b < 8) (hnew : s.rd R.ASP_BANK_CFG b ≠ v % 16) :
    (s.aspBank b v).rd R.ASP_BANK_CFG b = v % 16 ∧ ((s.aspBank b v).on F.ASP_BANK_STAT_PRESENT b = true ↔ bits v 0 2 = 1 ∨ bits v 0 2 = 2)
      ∧ ∀ k, k < 8 → s.aspMaster (8 * b + k) = true → s.on F.ASP_STAT_EN (8 * b + k) = true →
          (s.aspBank b v).aspState (8 * b + k) = 1 ∧ (s.aspBank b v).gf F.ASP_STAT_CAUSE (8 * b + k) = 6 := by
  unfold Mach.aspBank
  extract_lets same t src u w
  have hsame : same = false := beq_false_of_ne hnew
  rw [hsame, if_neg (by decide)]
  have hstep : ∀ (x : Mach) (j : Nat), x.onlyIn (portTouch (8 * b + j)) (if x.aspMaster (8 * b + j) then x.aspReacquire (8 * b + j) 6 else x) := fun x j => by
    split
    · exact x.aspReacquire_onlyIn _ 6
    · exact x.onlyIn_refl _
  have hall : w.onlyIn portsTouch (w.each (upto 8) (fun x j => if x.aspMaster (8 * b + j) then x.aspReacquire (8 * b + j) 6 else x)) :=
    (Mach.onlyIn_each _ _ fun x j hj => Mach.onlyIn_ports (by have := List.mem_range.1 hj; omega) (hstep x j)).2 (w.onlyIn_refl _)
  have hbank : ∀ r : Reg, 0x240100 ≤ r.at_ b 0 ∧ r.at_ b 0 < 0x250000 → portsTouch.covers (r.at_ b 0) = false := fun r hr => by
    simp [Footprint.covers, portsTouch]
    omega
  refine ⟨?_, ?_, fun k hk hmaster hon => ?_⟩
  · rw [Mach.onlyIn_rd hall _ _ _ (hbank _ (by simp only [Reg.at_, R.ASP_BANK_CFG]; omega))]
    simp (disch := decide) only [w, u, t, Mach.rd_sf_inst, Mach.rd_wr_self]
    exact Nat.mod_eq_of_lt (by omega)
  · rw [Mach.on_of_rd (Mach.onlyIn_rd hall R.ASP_BANK_STAT b 0 (hbank _ (by simp only [Reg.at_, R.ASP_BANK_STAT]; omega)))]
    have : w.on F.ASP_BANK_STAT_PRESENT b = (src == 1 || src == 2) := by
      rw [← (t.on_sf_b2n (f := F.ASP_BANK_STAT_PRESENT) (src == 1 || src == 2) b 0 rfl (by decide))]
      simp (disch := decide) only [w, u, Mach.on, Mach.gf_sf_disjoint]
    rw [this]
    simp [src]
  · refine Mach.each_establish (Pre := fun x => x.aspMaster (8 * b + k) = true ∧ x.on F.ASP_STAT_EN (8 * b + k) = true)
      (Post := fun x => x.aspState (8 * b + k) = 1 ∧ x.gf F.ASP_STAT_CAUSE (8 * b + k) = 6) (List.mem_range.2 hk) List.nodup_range
      ?_ ?_ ?_ ⟨hmaster, ?_⟩
    · rintro x j hj ⟨hm, he⟩
      exact ⟨(Mach.aspMaster_ofPort (hstep x j) _).trans hm,
        (Mach.on_of_rd (Mach.rd_otherPort (hstep x j) (by omega) (by omega) (by decide))).trans he⟩
    · rintro x ⟨hm, he⟩
      rw [if_pos hm]
      exact x.aspReacquire_spec _ (by decide) he
    · rintro x j hj ⟨hst, hc⟩
      exact ⟨(Mach.gf_otherPort (hstep x j) (by omega) (by omega) (by decide)).trans hst,
        (Mach.gf_otherPort (hstep x j) (by omega) (by omega) (by decide)).trans hc⟩
    · refine (Mach.on_of_rd ?_).trans hon
      simp only [w, u, t, Mach.sf]
      rw [Mach.rd_wr_above _ _ _ (by decide) (by omega) (by decide), Mach.rd_wr_above _ _ _ (by decide) (by omega) (by decide),
        Mach.rd_wr_above _ _ _ (by decide) (by omega) (by decide)]

/-- Settles O32. -/
theorem serialPortConfiguration : Obligations.SerialPortConfiguration := by
  refine ⟨?_, ?_, ?_, ?_, ?_, ?_, ?_, ?_, ?_, ?_, ?_, ?_⟩
  · intro s n v hn hv h hgo hok
    exact ⟨_, take_gives h (by simp [hn, hv]) (by rw [aspCommit, hgo, hok, if_neg (by simp; omega), if_pos rfl]),
      s.m.aspApply_spec hn (s.m.rd_lt ..)⟩
  · intro s n v hn hv h hgo hbad
    exact take_gives h (by simp [hn, hv]) (by rw [aspCommit, hgo, if_neg (by simp; omega), if_neg hbad])
  · intro s n v hn hv h hno
    exact take_gives h (by simp [hn, hv]) (if_pos (by simp [hno]))
  · intro s n v hn hv h hgo hoff hover
    refine take_gives h (by simp [hn, hv]) ?_
    rw [aspCtrlWrite, if_neg (by omega), Mach.aspCtrl, hgo, hoff, decide_eq_true hover]
    rfl
  · intro s n v hn hv h hgo hpow hoff hroom
    refine ⟨_, take_gives h (by simp [hn, hv]) (aspCtrlWrite_of_taken hn ?_), ?_⟩
    · obtain hon | hle := hroom
      · simp [hon]
      · simp [hle]
    exact Mach.enabled_spec hn hgo hpow hoff
  · intro s n v hn hv h hstop hon
    refine ⟨_, take_gives h (by simp [hn, hv]) (aspCtrlWrite_of_taken hn (by simp [hstop])), Mach.disabled_spec hn hstop hon⟩
  · intro s n v l hn hv h hfit
    refine take_gives h (by simp [hn, hv]) ?_
    rw [aspMaskWrite, if_neg (by omega), Nat.mod_eq_of_lt (show v < 2 ^ 32 from hv), if_neg (by omega)]
    rfl
  · intro s n v l hn hv h hfit
    refine take_gives h (by simp [hn, hv]) ?_
    rw [aspMaskWrite, if_neg (by omega), Nat.mod_eq_of_lt (show v < 2 ^ 32 from hv), if_pos hfit]
  · intro s b v hb hv h hratio hsame
    refine take_gives h (by simp [hb, hv]) ?_
    rw [aspBankCfgWrite, if_neg (by simp [hratio]; omega), Mach.aspBank, hsame]
    simp
  · intro s b v hb hv h hratio hnew
    refine ⟨_, take_gives h (by simp [hb, hv]) (if_neg (by simp [hratio]; omega)), s.m.aspBank_spec hb hnew⟩
  · intro s b v hb hv h hratio
    exact take_gives h (by simp [hb, hv]) (if_pos (by simp [hratio]))
  · intro s n v hn hv h hgo
    refine ⟨_, take_gives h (by simp [hn, hv]) (if_neg (by simp [hgo]; omega)), ?_, ?_, ?_, ?_⟩
    · simp (disch := decide) only [Mach.aspClear, Mach.rd_wr_inst, Mach.rd_wr_self]
      rfl
    · simp (disch := decide) only [Mach.aspClear, Mach.rd_wr_inst, Mach.rd_wr_self]
      rfl
    · simp (disch := decide) only [Mach.aspClear, Mach.rd_wr_self]
      rfl
    · exact Mach.registersOnly_wr _ _ _ _ (Mach.registersOnly_wr _ _ _ _ (Mach.registersOnly_wr _ _ _ _ s.m.registersOnly_refl))

end Sys2Proof.Machine
end

section
/-! SUPPORT. A frame of a serial port and the losses of its clocks (R391 to R400). -/
namespace Sys2Proof.Machine

theorem Mach.each_keeps_mem {α : Type} {f : Mach → α → Mach} (P : Mach → Prop) {l : List α} (hf : ∀ u, ∀ a ∈ l, P u → P (f u a)) {s : Mach} (h : P s) :
    P (s.each l f) := by
  induction l generalizing s with
  | nil => exact h
  | cons a l ih =>
    rw [Mach.each_cons]
    exact ih (fun u b hb => hf u b (List.mem_cons_of_mem _ hb)) (hf s a List.mem_cons_self h)

/-! ## The edge, the phase and the kept frame -/

section
variable (s : Mach) (n : Nat)

theorem Mach.rd_aspEdge {r : Reg} (h : r.ofPort = true) (hlive : r.base ≠ R.ASP_MASK_LIVE.base) (hstat : r.base ≠ R.ASP_STAT.base) :
    (s.aspEdge n).rd r n = s.rd r n := by
  have hs : r.s1 = 0x1000 := by simp only [Reg.ofPort, Bool.and_eq_true, beq_iff_eq] at h; exact h.1.1
  unfold Mach.aspEdge
  split
  · rfl
  · rw [Mach.rd_onAsp, Mach.rd_sf_inst _ _ _ (by rw [hs]; rfl) (Ne.symm hstat), Mach.rd_wr_inst _ _ _ (by rw [hs]; rfl) (Ne.symm hlive)]
  · rfl

theorem Mach.gf_aspEdge {g : Fld} (hr : g.reg = R.ASP_STAT) (h : F.ASP_STAT_MASKPEND.lo + F.ASP_STAT_MASKPEND.len ≤ g.lo ∨ g.lo + g.len ≤ F.ASP_STAT_MASKPEND.lo) :
    (s.aspEdge n).gf g n = s.gf g n := by
  unfold Mach.aspEdge
  split
  · rfl
  · rw [Mach.gf_onAsp, Mach.gf_sf_disjoint _ _ _ _ hr (by decide) h, Mach.gf_wr_inst _ _ _ (by rw [hr]; rfl) (by rw [hr]; decide)]
  · rfl

theorem Mach.coll_aspEdge : ((s.aspEdge n).aspSt n).coll = (s.aspSt n).coll := by
  unfold Mach.aspEdge
  split
  · rfl
  · rw [Mach.aspSt_onAsp]; rfl
  · rw [Mach.aspSt_onAsp]

theorem Mach.rd_aspPhase (ph : Int) {r : Reg} (h : r.ofPort = true) (hphase : r.base ≠ R.ASP_PHASE.base) (hstat : r.base ≠ R.ASP_STAT.base)
    (hterm : r.base ≠ R.ASP_TERM.base) : (s.aspPhase n ph).rd r n = s.rd r n := by
  have hs : r.s1 = 0x1000 := by simp only [Reg.ofPort, Bool.and_eq_true, beq_iff_eq] at h; exact h.1.1
  unfold Mach.aspPhase
  extract_lets t ok run u v hz f
  have ht : t.rd r n = s.rd r n := Mach.rd_wr_inst _ _ _ (by rw [hs]; rfl) (Ne.symm hphase)
  split
  · exact ht
  · rw [Mach.rd_sf_inst _ _ _ (by rw [hs]; rfl) (Ne.symm hterm), Mach.rd_sf_inst _ _ _ (by rw [hs]; rfl) (Ne.symm hstat)]
    exact ht

theorem Mach.phase_aspPhase (ph : Int) : (s.aspPhase n ph).rd R.ASP_PHASE n = toU 32 ph := by
  unfold Mach.aspPhase
  extract_lets t ok run u v hz f
  have ht : t.rd R.ASP_PHASE n = toU 32 ph := by rw [Mach.rd_wr_self, Nat.mod_eq_of_lt (toU_lt ..)]
  split
  · exact ht
  · simp (disch := decide) only [Mach.rd_sf_inst, v, u, Mach.rd_onAsp]
    exact ht

theorem Mach.gf_aspPhase (ph : Int) {g : Fld} (hr : g.reg = R.ASP_STAT)
    (h : F.ASP_STAT_SYNC.lo + F.ASP_STAT_SYNC.len ≤ g.lo ∨ g.lo + g.len ≤ F.ASP_STAT_SYNC.lo) : (s.aspPhase n ph).gf g n = s.gf g n := by
  unfold Mach.aspPhase
  extract_lets t ok run u v hz f
  have ht : t.gf g n = s.gf g n := Mach.gf_wr_inst _ _ _ (by rw [hr]; rfl) (by rw [hr]; decide)
  split
  · exact ht
  · rw [Mach.gf_sf_inst _ _ _ (by rw [hr]; rfl) (by rw [hr]; decide), Mach.gf_sf_disjoint _ _ _ _ hr (by decide) h]
    exact ht

theorem Mach.coll_aspPhase (ph : Int) : ((s.aspPhase n ph).aspSt n).coll = (s.aspSt n).coll := by
  unfold Mach.aspPhase
  extract_lets t ok run u v hz f
  split
  · rfl
  · exact (congrArg AspSt.coll (t.aspSt_onAsp n (fun a => { a with phaseRun := run }))).trans rfl

theorem Mach.parts_aspPhase (ph : Int) : (s.aspPhase n ph).live = s.live ∧ (s.aspPhase n ph).sys = s.sys := by
  unfold Mach.aspPhase
  extract_lets t ok run u v hz f
  split <;> exact ⟨rfl, rfl⟩

/-! ## The end of a frame -/

/-- What a port does at the end of a frame in RUN once it has been judged. -/
def Mach.frameEnd (slots : List Nat) (ph : Int) (glitch slip : Bool) : Mach := ((s.aspPhase n ph).aspKeep n slots glitch slip).aspEdge n

theorem Mach.rd_frameEnd (slots : List Nat) (ph : Int) (g l : Bool) {r : Reg} (h : r.ofPort = true)
    (hb : r.base ∉ [R.ASP_MASK_LIVE.base, R.ASP_STAT.base, R.ASP_PHASE.base, R.ASP_TERM.base]) :
    (s.frameEnd n slots ph g l).rd r n = s.rd r n := by
  simp only [List.mem_cons, List.not_mem_nil, or_false, not_or] at hb
  obtain ⟨hlive, hstat, hphase, hterm⟩ := hb
  have hkeep : ((s.aspPhase n ph).aspKeep n slots g l).rd r n = (s.aspPhase n ph).rd r n := by
    unfold Mach.aspKeep
    split <;> rfl
  rw [Mach.frameEnd, Mach.rd_aspEdge _ _ h hlive hstat, hkeep, Mach.rd_aspPhase _ _ _ h hphase hstat hterm]

theorem Mach.phase_frameEnd (slots : List Nat) (ph : Int) (g l : Bool) : (s.frameEnd n slots ph g l).rd R.ASP_PHASE n = toU 32 ph := by
  have hkeep : ((s.aspPhase n ph).aspKeep n slots g l).rd R.ASP_PHASE n = (s.aspPhase n ph).rd R.ASP_PHASE n := by
    unfold Mach.aspKeep
    split <;> rfl
  rw [Mach.frameEnd, Mach.rd_aspEdge _ _ (by decide) (by decide) (by decide), hkeep, Mach.phase_aspPhase]

theorem Mach.aspState_frameEnd (slots : List Nat) (ph : Int) (g l : Bool) : (s.frameEnd n slots ph g l).aspState n = s.aspState n := by
  have hkeep : ((s.aspPhase n ph).aspKeep n slots g l).aspState n = (s.aspPhase n ph).aspState n := by
    unfold Mach.aspKeep
    split <;> rfl
  rw [Mach.frameEnd, Mach.aspState, Mach.gf_aspEdge _ _ rfl (by decide)]
  exact hkeep.trans (s.gf_aspPhase n ph rfl (by decide))

theorem Mach.live_eq_of_parts {s t : Mach} (h : t.live = s.live) (r : Reg) (i j : Nat) : t.lv r i j = s.lv r i j := by
  rw [Mach.lv, h, Mach.lv]

theorem Mach.aspOut_of_live {s t : Mach} (h : t.live = s.live) (n : Nat) : t.aspOut n = s.aspOut n := by
  rw [Mach.aspOut, Mach.glv, Mach.live_eq_of_parts h, Mach.aspOut, Mach.glv]

theorem Mach.aspSlots_of_live {s t : Mach} (h : t.live = s.live) (n : Nat) : t.aspSlots n = s.aspSlots n := by
  rw [Mach.aspSlots, Mach.glv, Mach.live_eq_of_parts h, Mach.aspSlots, Mach.glv]

/-- An output port keeps no frame. -/
theorem Mach.coll_frameEnd_out (slots : List Nat) (ph : Int) (g l : Bool) (h : s.aspOut n = true) :
    ((s.frameEnd n slots ph g l).aspSt n).coll = (s.aspSt n).coll := by
  rw [Mach.frameEnd, Mach.coll_aspEdge, Mach.aspKeep, if_pos ((Mach.aspOut_of_live (s.parts_aspPhase n ph).1 n).trans h), Mach.coll_aspPhase]

/-- An input port keeps the frame with its words, its synchronism, its mask and its glitch. -/
theorem Mach.coll_frameEnd_in (slots : List Nat) (ph : Int) (g l : Bool) (h : s.aspOut n = false) :
    ((s.frameEnd n slots ph g l).aspSt n).coll = (s.aspSt n).coll ++ [some ⟨if g || l then [] else (s.aspPhase n ph).aspIn n slots,
      (s.frameEnd n slots ph g l).on F.ASP_STAT_SYNC n, s.rd R.ASP_MASK_LIVE n % 2 ^ s.aspSlots n, g⟩] := by
  have hout : (s.aspPhase n ph).aspOut n = false := (Mach.aspOut_of_live (s.parts_aspPhase n ph).1 n).trans h
  have hsync : (s.frameEnd n slots ph g l).on F.ASP_STAT_SYNC n = (s.aspPhase n ph).on F.ASP_STAT_SYNC n := by
    rw [Mach.frameEnd, Mach.on, Mach.gf_aspEdge _ _ rfl (by decide), Mach.aspKeep, hout]
    rfl
  rw [hsync, Mach.frameEnd, Mach.coll_aspEdge, Mach.aspKeep, hout, if_neg (by decide)]
  dsimp only
  rw [Mach.aspSt_onAsp, Mach.coll_aspPhase, Mach.aspSlots_of_live (s.parts_aspPhase n ph).1,
    Mach.rd_aspPhase _ _ _ (r := R.ASP_MASK_LIVE) (by decide) (by decide) (by decide) (by decide)]

/-- Words on the pins where no loop ends at the port. -/
theorem Mach.aspIn_pins {n : Nat} (slots : List Nat) (h : ∀ l ∈ s.sys.loops, l.1 ≠ 0 ∨ l.2.2 ≠ n) : s.aspIn n slots = slots.map (aspWord (s.lv R.ASP_CFG n)) := by
  rw [Mach.aspIn, List.find?_eq_none.2]
  intro l hl
  simpa [Decidable.imp_iff_not_or] using h l hl

end

/-! ## Losses -/

section
variable (s : Mach) (n : Nat)

theorem Mach.aspLoss_spec {c : Nat} (b : Bool) (hn : n < 64) (hc : c < 8) (hrun : s.aspRun n = true) (hen : s.on F.ASP_STAT_EN n = true) :
    (s.aspLoss n c b).aspState n = (if b then 1 else 3) ∧ (s.aspLoss n c b).gf F.ASP_STAT_CAUSE n = c ∧ (s.aspLoss n c b).on F.ASP_STAT_LOSS n = true
      ∧ (s.aspLoss n c b).on F.ASP_EVT_LOSS n = true ∧ (s.aspLoss n c b).rd R.ASP_LOSSES n = Nat.min 0xFFFFFFFF (s.rd R.ASP_LOSSES n + 1) := by
  rw [Mach.aspLoss, hrun, if_neg (by decide)]
  extract_lets t
  have hend : ∀ r : Reg, r.ofPort = true → (((t.evt F.ASP_EVT_LOSS n).bump R.ASP_LOSSES n).raise E.ASP_LOSS n c).rd r n = ((t.evt F.ASP_EVT_LOSS n).bump R.ASP_LOSSES n).rd r n :=
    fun r hr => Mach.raise_rd_below _ _ _ _ (by have := (Reg.at_ofPort hr n).2; omega)
  have hstat : ∀ g : Fld, g.reg = R.ASP_STAT → (((t.evt F.ASP_EVT_LOSS n).bump R.ASP_LOSSES n).raise E.ASP_LOSS n c).gf g n = t.gf g n := fun g hg => by
    rw [Mach.gf_of_rd (hend _ (by rw [hg]; decide)), Mach.bump, Mach.gf_wr_inst _ _ _ (by rw [hg]; rfl) (by rw [hg]; decide), Mach.evt,
      Mach.gf_sf_inst _ _ _ (by rw [hg]; rfl) (by rw [hg]; decide)]
  have hto : (if b then 1 else 3) < 4 := by cases b <;> decide
  refine ⟨?_, ?_, ?_, ?_, ?_⟩
  · rw [Mach.aspState, hstat _ rfl]
    simp (disch := decide) only [t, Mach.aspQuit, Mach.gf_onAsp, Mach.gf_sf_disjoint]
    exact Mach.aspState_aspSet _ n hto
  · rw [hstat _ rfl]
    simp (disch := decide) only [t, Mach.aspQuit, Mach.aspSet, Mach.gf_onAsp, Mach.gf_sf_disjoint, Mach.gf_sf_self]
    exact Nat.mod_eq_of_lt hc
  · rw [Mach.on, hstat _ rfl]
    have hloss := (s.sf F.ASP_STAT_CAUSE c n).loss_aspSet n (if b then 1 else 3)
    have hen' : (s.sf F.ASP_STAT_CAUSE c n).on F.ASP_STAT_EN n = true := by
      rw [← hen]
      simp (disch := decide) only [Mach.on, Mach.gf_sf_disjoint]
    rw [hen', show ((if b then 1 else 3 : Nat) != 2) = true by cases b <;> rfl] at hloss
    rw [← Bool.and_true true, ← hloss, Mach.on]
    simp (disch := decide) only [t, Mach.aspQuit, Mach.gf_onAsp, Mach.gf_sf_disjoint]
  · rw [Mach.on_of_rd (hend R.ASP_EVT (by decide)), Mach.bump, Mach.on, Mach.gf_wr_inst (r := R.ASP_LOSSES) (g := F.ASP_EVT_LOSS) _ _ _ rfl (by decide)]
    exact Mach.on_sf_one _ _ _ rfl (by decide)
  · rw [hend _ (by decide), Mach.rd_bump_self]
    simp (disch := decide) only [t, Mach.evt, Mach.aspQuit, Mach.aspSet, Mach.rd_onAsp, Mach.rd_sf_inst]

end

end Sys2Proof.Machine
end

section
/-! PROOF. Acquisition, running frames, slips, glitches, losses and measured rates of the serial ports (R392 to R399, R533). -/
namespace Sys2Proof.Machine

/-! ## Acquisition -/

/-- Entering RUN without a waiting mask on a slave port. -/
theorem Mach.aspEnter_spec {s : Mach} {n c : Nat} (hc : c < 8) (hmaster : s.aspMaster n = false) (hwait : (s.aspSt n).maskWait = none) :
    (s.aspEnter n c).aspState n = 2 ∧ (s.aspEnter n c).gf F.ASP_STAT_RATE n = c ∧ (s.aspEnter n c).on F.ASP_STAT_LOSS n = false
      ∧ (s.aspEnter n c).on F.ASP_EVT_ACQ n = true ∧ (s.aspEnter n c).gf F.ASP_STAT_FILL n = 2 := by
  unfold Mach.aspEnter
  extract_lets t u v w
  have hv : (v.aspSt n).maskWait = none := by
    simp only [v, Mach.aspSt_onAsp]
    rw [show (u.aspSt n).maskWait = (s.aspSt n).maskWait from rfl, hwait]
    rfl
  have hw : w = v := by
    simp only [w, Mach.aspEdge, hv]
  have hm : w.aspMaster n = false := by rw [hw]; exact hmaster
  rw [hm, Bool.false_and, if_neg (by decide), hw]
  have hut : ∀ g : Fld, g.reg = R.ASP_STAT → (F.ASP_STAT_FILL.lo + F.ASP_STAT_FILL.len ≤ g.lo ∨ g.lo + g.len ≤ F.ASP_STAT_FILL.lo) →
      v.gf g n = t.gf g n := fun g hg h => by
    simp only [v, u, Mach.gf_onAsp]
    rw [Mach.gf_sf_disjoint _ _ _ _ hg (by decide) h, Mach.evt, Mach.gf_sf_inst _ _ _ (by rw [hg]; rfl) (by rw [hg]; decide)]
  refine ⟨?_, ?_, ?_, ?_, ?_⟩
  · rw [Mach.aspState, hut _ rfl (by decide)]
    exact Mach.aspState_aspSet _ n (by decide)
  · rw [hut _ rfl (by decide)]
    simp (disch := decide) only [t, Mach.aspSet, Mach.gf_sf_disjoint, Mach.gf_sf_self]
    exact Nat.mod_eq_of_lt hc
  · rw [Mach.on, hut _ rfl (by decide)]
    exact (Mach.loss_aspSet _ n 2).trans (Bool.and_false _)
  · rw [Mach.on]
    simp (disch := decide) only [v, u, Mach.gf_onAsp, Mach.evt, Mach.gf_sf_inst, Mach.gf_sf_self]
    rfl
  · simp (disch := decide) only [v, u, Mach.gf_onAsp, Mach.gf_sf_self]
    rfl

theorem Mach.aspWrong_spec {s : Mach} {n : Nat} : (s.aspWrong n).on F.ASP_STAT_WRONG_RATE n = true ∧ (s.aspWrong n).aspState n = s.aspState n
    ∧ s.registersOnly (s.aspWrong n) := by
  unfold Mach.aspWrong
  split
  next h => exact ⟨h, rfl, s.registersOnly_refl⟩
  next =>
    refine ⟨?_, ?_, Mach.registersOnly_sf _ _ _ _ (Mach.registersOnly_sf _ _ _ _ s.registersOnly_refl)⟩
    · rw [Mach.on, Mach.evt, Mach.gf_sf_inst (f := F.ASP_EVT_WRONG_RATE) (g := F.ASP_STAT_WRONG_RATE) _ _ _ rfl (by decide)]
      exact Mach.on_sf_one _ _ _ rfl (by decide)
    · simp (disch := decide) only [Mach.aspState, Mach.evt, Mach.gf_sf_inst, Mach.gf_sf_disjoint]

/-- A slave that acquires at a set rate enters RUN at that rate or reports a wrong one. -/
theorem Mach.aspAcquire_slave {s : Mach} {n k : Nat} (p : Nat) (hmaster : s.aspMaster n = false) (hk : k = s.aspSlots n * bitsOf (s.glv F.ASP_CFG_WIDTH n))
    (hrate : s.glv F.ASP_CFG_RATE n ≠ 0) :
    s.aspAcquire n k p = if periodOk p (rateHz (s.glv F.ASP_CFG_RATE n)) then s.aspEnter n (s.glv F.ASP_CFG_RATE n) else s.aspWrong n := by
  unfold Mach.aspAcquire
  extract_lets rate
  rw [hmaster, if_neg (by decide), hk, bne_self_eq_false, if_neg (by decide), if_neg hrate]

/-! ## Frames in RUN -/

/-- Glitches among the last 63 frames. -/
def Mach.glitches (s : Mach) (n : Nat) : Nat := ((s.aspSt n).hist.take 63 |>.filter id).length

theorem glitches_cons (g : Bool) (l : List Bool) : (((g :: l).take 64).filter id).length = b2n g + ((l.take 63).filter id).length := by
  cases g <;> simp [b2n]; omega

/-- The port as a frame in RUN leaves it before its phase is taken. -/
def Mach.frameJudged (s : Mach) (n held : Nat) (glitch slip : Bool) : Mach :=
  let a := s.aspSt n
  let t := s.onAsp n (fun q => { q with badRate := 0, hist := (glitch :: a.hist).take 64 })
  if glitch then ((t.bump R.ASP_GLITCH n).evt F.ASP_EVT_GLITCH n).onAsp n (fun a => { a with glitched := true })
  else if slip then (((t.bump R.ASP_SLIP n).evt F.ASP_EVT_SLIP n).sf F.ASP_STAT_FILL (Nat.min 4 held) n).onAsp n (fun a => { a with slipped := true })
  else (t.sf F.ASP_STAT_FILL (Nat.min 4 (if a.slipped then 2 else held)) n).onAsp n (fun a => { a with slipped := false })

/-- A frame at the right period, with fewer than 8 glitches in 64, is judged and ends. -/
theorem Mach.aspRunFrame_of_good {s : Mach} {n k p : Nat} (l : List Nat) (ph : Int) {h : Nat} {glitch slip : Bool}
    (hp : periodOk p (rateHz (s.gf F.ASP_STAT_RATE n)) = true)
    (hg : (!s.aspMaster n && k != s.aspSlots n * bitsOf (s.glv F.ASP_CFG_WIDTH n)) = glitch)
    (hs : (if s.aspOut n then h == 0 else decide (4 ≤ h)) = slip) (hfew : b2n glitch + s.glitches n < 8) :
    s.aspRunFrame n k p l ph h = (s.frameJudged n h glitch slip).frameEnd n l ph glitch slip := by
  unfold Mach.aspRunFrame
  extract_lets a hz bad gl hist sl u fill w
  have hgl : gl = glitch := hg
  have hsl : sl = slip := hs
  have hbad : bad = 0 := if_pos hp
  have hhist : hist = (glitch :: a.hist).take 64 := by simp only [hist, hgl]
  rw [hbad, if_neg (by decide), hhist, glitches_cons, if_neg (by exact Nat.not_le.2 hfew)]
  simp only [w, u, hgl, hsl, hbad, hhist]
  rfl

section
variable (s : Mach) (n h : Nat)

/-- The judgement of a frame leaves the state, the frames kept, the live mask, the configuration and the loops. -/
theorem Mach.frameJudged_keeps (g l : Bool) :
    (s.frameJudged n h g l).aspState n = s.aspState n ∧ ((s.frameJudged n h g l).aspSt n).coll = (s.aspSt n).coll
      ∧ (s.frameJudged n h g l).rd R.ASP_MASK_LIVE n = s.rd R.ASP_MASK_LIVE n
      ∧ (s.frameJudged n h g l).live = s.live ∧ (s.frameJudged n h g l).sys = s.sys := by
  unfold Mach.frameJudged
  extract_lets a t
  have hcoll : (t.aspSt n).coll = (s.aspSt n).coll := by simp only [t, Mach.aspSt_onAsp]
  split
  · refine ⟨?_, ?_, ?_, rfl, rfl⟩
    · simp (disch := decide) only [Mach.aspState, Mach.gf_onAsp, Mach.evt, Mach.bump, Mach.gf_sf_inst, Mach.gf_wr_inst, t]
    · rw [Mach.aspSt_onAsp]; exact hcoll
    · simp (disch := decide) only [Mach.rd_onAsp, Mach.evt, Mach.bump, Mach.rd_sf_inst, Mach.rd_wr_inst, t]
  · split
    · refine ⟨?_, ?_, ?_, rfl, rfl⟩
      · simp (disch := decide) only [Mach.aspState, Mach.gf_onAsp, Mach.evt, Mach.bump, Mach.gf_sf_disjoint, Mach.gf_sf_inst, Mach.gf_wr_inst, t]
      · rw [Mach.aspSt_onAsp]; exact hcoll
      · simp (disch := decide) only [Mach.rd_onAsp, Mach.evt, Mach.bump, Mach.rd_sf_inst, Mach.rd_wr_inst, t]
    · refine ⟨?_, ?_, ?_, rfl, rfl⟩
      · simp (disch := decide) only [Mach.aspState, Mach.gf_onAsp, Mach.gf_sf_disjoint, t]
      · rw [Mach.aspSt_onAsp]; exact hcoll
      · simp (disch := decide) only [Mach.rd_onAsp, Mach.rd_sf_inst, t]

/-- A glitch counts. -/
theorem Mach.frameJudged_glitch (l : Bool) : (s.frameJudged n h true l).rd R.ASP_SLIP n = s.rd R.ASP_SLIP n
    ∧ (s.frameJudged n h true l).rd R.ASP_GLITCH n = Nat.min 0xFFFFFFFF (s.rd R.ASP_GLITCH n + 1)
    ∧ (s.frameJudged n h true l).on F.ASP_EVT_GLITCH n = true := by
  unfold Mach.frameJudged
  extract_lets a t
  rw [if_pos rfl]
  refine ⟨?_, ?_, Mach.on_sf_one _ _ _ rfl (by decide)⟩
  · simp (disch := decide) only [Mach.rd_onAsp, Mach.evt, Mach.bump, Mach.rd_sf_inst, Mach.rd_wr_inst, t]
  · simp (disch := decide) only [Mach.rd_onAsp, Mach.evt, Mach.rd_sf_inst]
    rw [Mach.rd_bump_self, Mach.rd_onAsp]

/-- A slip counts. -/
theorem Mach.frameJudged_slip : (s.frameJudged n h false true).rd R.ASP_SLIP n = Nat.min 0xFFFFFFFF (s.rd R.ASP_SLIP n + 1)
    ∧ (s.frameJudged n h false true).on F.ASP_EVT_SLIP n = true := by
  unfold Mach.frameJudged
  extract_lets a t
  rw [if_neg (by decide), if_pos rfl]
  refine ⟨?_, ?_⟩
  · simp (disch := decide) only [Mach.rd_onAsp, Mach.evt, Mach.rd_sf_inst]
    rw [Mach.rd_bump_self, Mach.rd_onAsp]
  · rw [Mach.on, Mach.gf_onAsp, Mach.gf_sf_inst (f := F.ASP_STAT_FILL) (g := F.ASP_EVT_SLIP) _ _ _ rfl (by decide)]
    exact Mach.on_sf_one _ _ _ rfl (by decide)

/-- A good frame counts nothing. -/
theorem Mach.frameJudged_good : (s.frameJudged n h false false).rd R.ASP_SLIP n = s.rd R.ASP_SLIP n
    ∧ (s.frameJudged n h false false).rd R.ASP_GLITCH n = s.rd R.ASP_GLITCH n := by
  unfold Mach.frameJudged
  extract_lets a t
  rw [if_neg (by decide), if_neg (by decide)]
  refine ⟨?_, ?_⟩ <;> simp (disch := decide) only [Mach.rd_onAsp, Mach.rd_sf_inst, t]

end

/-! ## Measured rates -/

theorem Mach.asrcDrop_onlyIn (s : Mach) (p : Nat → Bool) : s.onlyIn rendTouch (s.asrcDrop p) := by
  unfold Mach.asrcDrop
  extract_lets held hit told drop
  have h : s.onlyIn rendTouch (s.each hit (fun s e => s.onChan e.1 (fun c => { c with route := { c.route with cur := drop c.route.cur, old := c.route.old.map drop } }))) :=
    (Mach.onlyIn_each _ _ fun u e _ => (Mach.onlyIn_onChan _ _ (by decide)).2 (u.onlyIn_refl _)).2 (s.onlyIn_refl _)
  exact (Mach.onlyIn_when _ _ (Mach.onlyIn_evt _ 0 (by decide) (by decide) (by decide))).2 h

/-- The first measurement since the port entered RUN sets both rates and starts no excursion. -/
theorem Mach.aspMeasure_first {s : Mach} {n k : Nat} (hrates : (s.aspSt n).rates = []) (hlt : 6400000000000 / k < 2 ^ 32) :
    (s.aspMeasure n k).rd R.ASP_RATE n = 6400000000000 / k ∧ (s.aspMeasure n k).rd R.ASP_STABLE n = 6400000000000 / k
      ∧ ((s.aspMeasure n k).aspSt n).rates = [6400000000000 / k] ∧ ((s.aspMeasure n k).aspSt n).exc = false := by
  unfold Mach.aspMeasure
  extract_lets mhz a first rates sum tight t u st off w
  have hfirst : first = true := by simp only [first, a, hrates, List.isEmpty_nil]
  have hu : u = t.wr R.ASP_STABLE mhz n := by simp only [u, hfirst, if_true]
  have hst : st = mhz := by
    simp only [st, hu, Mach.rd_wr_self]
    exact Nat.mod_eq_of_lt hlt
  have hoff : off = false := by
    simp only [off, hst, sub_self, Int.natAbs_zero]
    exact decide_eq_false (by omega)
  have hw : w = u := by simp only [w, hoff, Bool.false_and]; rfl
  have hrates' : rates = [mhz] := by simp only [rates, a, hrates]; rfl
  refine ⟨?_, ?_, ?_, ?_⟩
  · rw [Mach.rd_onAsp, hw, hu, Mach.rd_wr_inst (r := R.ASP_STABLE) (q := R.ASP_RATE) _ _ _ rfl (by decide), Mach.rd_wr_self]
    exact Nat.mod_eq_of_lt hlt
  · rw [Mach.rd_onAsp, hw, hu, Mach.rd_wr_self]
    exact Nat.mod_eq_of_lt hlt
  · rw [Mach.aspSt_onAsp]
    exact hrates'
  · rw [Mach.aspSt_onAsp]
    exact hoff

end Sys2Proof.Machine
end

section
/-! PROOF. Frames, lost clocks, measured rates and brown-outs of the serial ports (R392 to R399, R533). -/
namespace Sys2Proof.Machine

/-- A frame that ends on a running port. -/
theorem aspFrame_running {s : Mach} {n : Nat} (k p : Nat) (l : List Nat) (ph : Int) (h : Nat) (hn : n < 64) (hst : s.aspState n = 2) :
    aspFrame n k p l ph h s = s.aspRunFrame n k p l ph h := by
  rw [aspFrame, if_neg (by omega), hst]
  rfl

theorem aspFrame_acquiring {s : Mach} {n : Nat} (k p : Nat) (l : List Nat) (ph : Int) (h : Nat) (hn : n < 64) (hst : s.aspState n = 1) :
    aspFrame n k p l ph h s = s.aspAcquire n k p := by
  rw [aspFrame, if_neg (by omega), hst]
  rfl

/-- One port of a bank whose clock is lost. -/
def Mach.bankLoss (s : Mach) (p : Nat) : Mach := if s.aspMaster p then s.aspLoss p 5 false else s

theorem Mach.bankLoss_onlyIn (s : Mach) (p : Nat) : s.onlyIn (portTouch p) (s.bankLoss p) := by
  unfold Mach.bankLoss
  split
  · exact s.aspLoss_onlyIn p 5 false
  · exact s.onlyIn_refl _

theorem Mach.bankLoss_slave {s : Mach} {p : Nat} (h : s.aspMaster p = false) : s.bankLoss p = s := by
  rw [Mach.bankLoss, h]
  rfl

/-- A lost bank clock is no longer present. -/
theorem bankLost_present {s : Mach} {b : Nat} (hb : b < 8) :
    ((s.sf F.ASP_BANK_STAT_PRESENT 0 b).each (upto 8) (fun x k => x.bankLoss (8 * b + k))).on F.ASP_BANK_STAT_PRESENT b = false := by
  generalize ht : s.sf F.ASP_BANK_STAT_PRESENT 0 b = t
  have hoff : t.on F.ASP_BANK_STAT_PRESENT b = false := by rw [← ht]; exact Mach.on_sf_zero _ _ _ (by decide)
  have hall : t.onlyIn portsTouch (t.each (upto 8) (fun x k => x.bankLoss (8 * b + k))) :=
    (Mach.onlyIn_each _ _ fun x j hj => Mach.onlyIn_ports (by have := List.mem_range.1 hj; omega) (x.bankLoss_onlyIn _)).2 (t.onlyIn_refl _)
  rw [← hoff]
  exact Mach.on_of_rd (Mach.onlyIn_rd hall R.ASP_BANK_STAT b 0 (by simp [Footprint.covers, portsTouch, Reg.at_, R.ASP_BANK_STAT]; omega))

/-- A lost bank clock stops no slave and no port of another bank. -/
theorem bankLost_others {s : Mach} {b k : Nat} (hk : k < 64) (hother : s.aspMaster k = false ∨ k / 8 ≠ b) :
    ((s.sf F.ASP_BANK_STAT_PRESENT 0 b).each (upto 8) (fun x k => x.bankLoss (8 * b + k))).aspState k = s.aspState k := by
  have hstart : (s.sf F.ASP_BANK_STAT_PRESENT 0 b).aspState k = s.aspState k := Mach.gf_of_rd (Mach.rd_wr_above _ _ _ (by decide) hk (by decide))
  refine (Mach.each_keeps_mem (fun x : Mach => x.aspState k = s.aspState k ∧ x.aspMaster k = s.aspMaster k) ?_ ⟨hstart, rfl⟩).1
  rintro x j hj ⟨hst, hm⟩
  have hj8 := List.mem_range.1 hj
  by_cases hkj : k = 8 * b + j
  · rw [Mach.bankLoss_slave (by rw [← hkj, hm]; exact hother.resolve_right (by omega))]
    exact ⟨hst, hm⟩
  · have h := x.bankLoss_onlyIn (8 * b + j)
    exact ⟨(Mach.gf_otherPort h hkj hk (by decide)).trans hst, (Mach.aspMaster_ofPort h k).trans hm⟩

/-- A brown-out of a bank stops its running ports. -/
theorem brownOut_spec {s : Mach} {b k : Nat} (hb : b < 8) (hk : k < 8) (hrun : s.aspRun (8 * b + k) = true) (hen : s.on F.ASP_STAT_EN (8 * b + k) = true) :
    (ioaspBrownOut b true s).aspState (8 * b + k) = 3 ∧ (ioaspBrownOut b true s).gf F.ASP_STAT_CAUSE (8 * b + k) = 5 := by
  rw [ioaspBrownOut, if_neg (by omega)]
  refine Mach.each_establish (Pre := fun x => x.aspRun (8 * b + k) = true ∧ x.on F.ASP_STAT_EN (8 * b + k) = true)
    (Post := fun x => x.aspState (8 * b + k) = 3 ∧ x.gf F.ASP_STAT_CAUSE (8 * b + k) = 5) (List.mem_range.2 hk) List.nodup_range
    ?_ ?_ ?_ ⟨hrun, hen⟩
  · rintro x j hj ⟨hr, he⟩
    have hrd := fun r => Mach.rd_otherPort (r := r) (x.aspLoss_onlyIn (8 * b + j) 5 false) (k := 8 * b + k) (by omega) (by omega)
    exact ⟨(congrArg (· == 2) (Mach.gf_of_rd (f := F.ASP_STAT_STATE) (hrd R.ASP_STAT (by decide)))).trans hr, (Mach.on_of_rd (f := F.ASP_STAT_EN) (hrd R.ASP_STAT (by decide))).trans he⟩
  · rintro x ⟨hr, he⟩
    obtain ⟨hst, hc, -⟩ := x.aspLoss_spec (8 * b + k) (c := 5) false (by omega) (by decide) hr he
    exact ⟨hst, hc⟩
  · rintro x j hj ⟨hst, hc⟩
    have h := x.aspLoss_onlyIn (8 * b + j) 5 false
    exact ⟨(Mach.gf_otherPort h (by omega) (by omega) (by decide)).trans hst, (Mach.gf_otherPort h (by omega) (by omega) (by decide)).trans hc⟩

/-- The return of a bank's supply lets its stopped ports acquire. -/
theorem supplyReturn_spec {s : Mach} {b k : Nat} (hb : b < 8) (hk : k < 64) :
    (ioaspBrownOut b false s).aspState k = if k / 8 = b ∧ s.aspState k = 3 then 1 else s.aspState k := by
  have hstep : ∀ (x : Mach) (j : Nat), x.onlyIn (portTouch (8 * b + j)) (if x.aspState (8 * b + j) = 3 then x.aspSet (8 * b + j) 1 else x) := fun x j => by
    split
    · exact x.aspSet_onlyIn _ 1
    · exact x.onlyIn_refl _
  rw [ioaspBrownOut, if_neg (by omega)]
  by_cases hkb : k / 8 = b
  · obtain ⟨i, hi, rfl⟩ : ∃ i, i < 8 ∧ k = 8 * b + i := ⟨k % 8, by omega, by omega⟩
    refine Mach.each_establish (Pre := fun x => x.aspState (8 * b + i) = s.aspState (8 * b + i))
      (Post := fun x => x.aspState (8 * b + i) = if (8 * b + i) / 8 = b ∧ s.aspState (8 * b + i) = 3 then 1 else s.aspState (8 * b + i))
      (List.mem_range.2 hi) List.nodup_range ?_ ?_ ?_ rfl
    · exact fun x j hj hst => (Mach.gf_otherPort (hstep x j) (by omega) hk (by decide)).trans hst
    · intro x hst
      by_cases h3 : x.aspState (8 * b + i) = 3
      · rw [if_neg (by decide), if_pos h3, if_pos ⟨hkb, hst ▸ h3⟩]
        exact x.aspState_aspSet _ (by decide)
      · rw [if_neg (by decide), if_neg h3, if_neg (fun h => h3 (hst.trans h.2))]
        exact hst
    · exact fun x j hj hst => (Mach.gf_otherPort (hstep x j) (by omega) hk (by decide)).trans hst
  · rw [if_neg (fun h => hkb h.1)]
    refine Mach.each_keeps_mem (fun x : Mach => x.aspState k = s.aspState k) (fun x j hj hst => ?_) rfl
    have hj8 := List.mem_range.1 hj
    exact (Mach.gf_otherPort (hstep x j) (by omega) hk (by decide)).trans hst

/-- A frequency of 128 · 2^RATIO · 44.1 kHz is one of the 44.1 kHz family. -/
theorem aspMclkMeasure_441 {s : Mach} {b hz : Nat} (hb : b < 8) (hsrc : s.gf F.ASP_BANK_CFG_SRC b = 3)
    (hhz : hz = 128 * 2 ^ s.gf F.ASP_BANK_CFG_RATIO b * 44100) :
    aspMclkMeasure b hz s = ((s.sf F.ASP_BANK_STAT_FREQ hz b).sf F.ASP_BANK_STAT_FAMILY 1 b).sf F.ASP_BANK_STAT_PRESENT 1 b := by
  unfold aspMclkMeasure
  rw [hsrc, if_neg (by simp; omega)]
  extract_lets k near fam t
  have hk : 0 < k := Nat.mul_pos (by decide) (Nat.two_pow_pos _)
  have hkz : hz = k * 44100 := hhz
  have h48 : near 48000 = false := by
    have hfar : ¬ 199 * k * 48000 ≤ 200 * hz := by omega
    simp only [near, hfar, decide_false, Bool.false_and]
  have h44 : near 44100 = true := by
    have hlow : 199 * k * 44100 ≤ 200 * hz := by omega
    have hhigh : 200 * hz ≤ 201 * k * 44100 := by omega
    simp only [near, hlow, hhigh, decide_true, Bool.and_self]
  have hfam : fam = some 1 := by simp only [fam, h48, h44]; rfl
  simp only [hfam, t]

/-- A good frame of an input port is kept with its words. -/
theorem goodFrame_in {s : Mach} {n k p h : Nat} (l : List Nat) (ph : Int) (hn : n < 64) (hst : s.aspState n = 2) (hout : s.aspOut n = false)
    (hp : periodOk p (rateHz (s.gf F.ASP_STAT_RATE n)) = true) (hk : k = s.aspSlots n * bitsOf (s.glv F.ASP_CFG_WIDTH n)) (hh : h < 4)
    (hloop : ∀ l ∈ s.sys.loops, l.1 ≠ 0 ∨ l.2.2 ≠ n) (hfew : s.glitches n < 8) :
    let m := aspFrame n k p l ph h s
    (m.aspSt n).coll = (s.aspSt n).coll ++ [some ⟨l.map (aspWord (s.lv R.ASP_CFG n)), m.on F.ASP_STAT_SYNC n, s.rd R.ASP_MASK_LIVE n % 2 ^ s.aspSlots n, false⟩]
      ∧ m.rd R.ASP_PHASE n = toU 32 ph ∧ m.rd R.ASP_SLIP n = s.rd R.ASP_SLIP n ∧ m.rd R.ASP_GLITCH n = s.rd R.ASP_GLITCH n ∧ m.aspState n = 2 := by
  have hrun := Mach.aspRunFrame_of_good (k := k) (glitch := false) (slip := false) l ph (h := h) hp (by rw [hk, bne_self_eq_false, Bool.and_false])
    (by rw [hout]; exact decide_eq_false (by omega)) (by simpa [b2n] using hfew)
  obtain ⟨hstate, hcoll, hmask, hlive, hsys⟩ := s.frameJudged_keeps n h false false
  obtain ⟨hslip, hgl⟩ := s.frameJudged_good n h
  dsimp only
  rw [aspFrame_running k p l ph h hn hst, hrun]
  generalize s.frameJudged n h false false = t at hstate hcoll hmask hlive hsys hslip hgl
  obtain ⟨hplive, hpsys⟩ := t.parts_aspPhase n ph
  refine ⟨?_, t.phase_frameEnd .., ?_, ?_, ?_⟩
  · rw [t.coll_frameEnd_in n l ph false false ((Mach.aspOut_of_live hlive n).trans hout), hcoll, hmask, Mach.aspSlots_of_live hlive,
      if_neg (by decide), Mach.aspIn_pins _ _ (by rw [hpsys, hsys]; exact hloop), Mach.live_eq_of_parts hplive, Mach.live_eq_of_parts hlive]
  · rw [t.rd_frameEnd n l ph false false (by decide) (by decide), hslip]
  · rw [t.rd_frameEnd n l ph false false (by decide) (by decide), hgl]
  · rw [t.aspState_frameEnd, hstate, hst]

/-- A slip of an input port keeps an empty frame and is counted. -/
theorem slippedFrame_in {s : Mach} {n k p h : Nat} (l : List Nat) (ph : Int) (hn : n < 64) (hst : s.aspState n = 2) (hout : s.aspOut n = false)
    (hp : periodOk p (rateHz (s.gf F.ASP_STAT_RATE n)) = true) (hk : k = s.aspSlots n * bitsOf (s.glv F.ASP_CFG_WIDTH n)) (hh : 4 ≤ h)
    (hfew : s.glitches n < 8) :
    let m := aspFrame n k p l ph h s
    (m.aspSt n).coll = (s.aspSt n).coll ++ [some ⟨[], m.on F.ASP_STAT_SYNC n, s.rd R.ASP_MASK_LIVE n % 2 ^ s.aspSlots n, false⟩]
      ∧ m.rd R.ASP_SLIP n = Nat.min 0xFFFFFFFF (s.rd R.ASP_SLIP n + 1) ∧ m.on F.ASP_EVT_SLIP n = true ∧ m.aspState n = 2 := by
  have hrun := Mach.aspRunFrame_of_good (k := k) (glitch := false) (slip := true) l ph (h := h) hp (by rw [hk, bne_self_eq_false, Bool.and_false])
    (by rw [hout]; exact decide_eq_true (by omega)) (by simpa [b2n] using hfew)
  obtain ⟨hstate, hcoll, hmask, hlive, -⟩ := s.frameJudged_keeps n h false true
  obtain ⟨hslip, hevt⟩ := s.frameJudged_slip n h
  dsimp only
  rw [aspFrame_running k p l ph h hn hst, hrun]
  generalize s.frameJudged n h false true = t at hstate hcoll hmask hlive hslip hevt
  refine ⟨?_, ?_, ?_, ?_⟩
  · rw [t.coll_frameEnd_in n l ph false true ((Mach.aspOut_of_live hlive n).trans hout), hcoll, hmask, Mach.aspSlots_of_live hlive, if_pos (by decide)]
  · rw [t.rd_frameEnd n l ph false true (by decide) (by decide), hslip]
  · rw [Mach.on_of_rd (t.rd_frameEnd n l ph false true (r := R.ASP_EVT) (by decide) (by decide)), hevt]
  · rw [t.aspState_frameEnd, hstate, hst]

/-- A glitch of a slave port is counted. -/
theorem glitchedFrame {s : Mach} {n k p : Nat} (l : List Nat) (ph : Int) (h : Nat) (hn : n < 64) (hst : s.aspState n = 2) (hm : s.aspMaster n = false)
    (hp : periodOk p (rateHz (s.gf F.ASP_STAT_RATE n)) = true) (hk : k ≠ s.aspSlots n * bitsOf (s.glv F.ASP_CFG_WIDTH n)) (hfew : s.glitches n < 7) :
    let m := aspFrame n k p l ph h s
    m.rd R.ASP_GLITCH n = Nat.min 0xFFFFFFFF (s.rd R.ASP_GLITCH n + 1) ∧ m.on F.ASP_EVT_GLITCH n = true ∧ m.rd R.ASP_SLIP n = s.rd R.ASP_SLIP n
      ∧ m.aspState n = 2 := by
  have hrun := Mach.aspRunFrame_of_good (k := k) l ph (h := h) (glitch := true) hp (by simpa [hm] using hk) rfl
    (by rw [b2n, if_pos rfl]; omega)
  generalize (if s.aspOut n then h == 0 else decide (4 ≤ h)) = slip at hrun
  obtain ⟨hstate, -⟩ := s.frameJudged_keeps n h true slip
  obtain ⟨hslip, hgl, hevt⟩ := s.frameJudged_glitch n h slip
  dsimp only
  rw [aspFrame_running k p l ph h hn hst, hrun]
  generalize s.frameJudged n h true slip = t at hstate hslip hgl hevt
  refine ⟨?_, ?_, ?_, ?_⟩
  · rw [t.rd_frameEnd n l ph true slip (by decide) (by decide), hgl]
  · rw [Mach.on_of_rd (t.rd_frameEnd n l ph true slip (r := R.ASP_EVT) (by decide) (by decide)), hevt]
  · rw [t.rd_frameEnd n l ph true slip (by decide) (by decide), hslip]
  · rw [t.aspState_frameEnd, hstate, hst]

/-- An output port keeps no frame, and slips when it has none to send. -/
theorem frame_out {s : Mach} {n k p : Nat} (l : List Nat) (ph : Int) (h : Nat) (hn : n < 64) (hst : s.aspState n = 2) (hout : s.aspOut n = true)
    (hp : periodOk p (rateHz (s.gf F.ASP_STAT_RATE n)) = true) (hk : k = s.aspSlots n * bitsOf (s.glv F.ASP_CFG_WIDTH n)) (hfew : s.glitches n < 8) :
    let m := aspFrame n k p l ph h s
    (m.aspSt n).coll = (s.aspSt n).coll ∧ m.aspState n = 2
      ∧ m.rd R.ASP_SLIP n = (if h = 0 then Nat.min 0xFFFFFFFF (s.rd R.ASP_SLIP n + 1) else s.rd R.ASP_SLIP n) := by
  have hrun := Mach.aspRunFrame_of_good (k := k) (glitch := false) (slip := h == 0) l ph (h := h) hp (by rw [hk, bne_self_eq_false, Bool.and_false])
    (by rw [hout]; rfl) (by simpa [b2n] using hfew)
  obtain ⟨hstate, hcoll, -, hlive, -⟩ := s.frameJudged_keeps n h false (h == 0)
  have hslip : (s.frameJudged n h false (h == 0)).rd R.ASP_SLIP n = if h = 0 then Nat.min 0xFFFFFFFF (s.rd R.ASP_SLIP n + 1) else s.rd R.ASP_SLIP n := by
    by_cases h0 : h = 0
    · rw [if_pos h0, beq_iff_eq.2 h0]
      exact (s.frameJudged_slip n h).1
    · rw [if_neg h0, beq_false_of_ne h0]
      exact (s.frameJudged_good n h).1
  dsimp only
  rw [aspFrame_running k p l ph h hn hst, hrun]
  generalize s.frameJudged n h false (h == 0) = t at hstate hcoll hlive hslip
  refine ⟨?_, ?_, ?_⟩
  · rw [t.coll_frameEnd_out n l ph false _ ((Mach.aspOut_of_live hlive n).trans hout), hcoll]
  · rw [t.aspState_frameEnd, hstate, hst]
  · rw [t.rd_frameEnd n l ph false _ (by decide) (by decide), hslip]

/-- The ports lie below the rendering's registers. -/
theorem Mach.rendTouch_port {r : Reg} (hr : r.ofPort = true) {n : Nat} (hn : n < 64) : rendTouch.covers (r.at_ n 0) = false := by
  have := (Reg.at_ofPort hr n).2
  simp [Footprint.covers, rendTouch]
  omega

/-- The first measurement of a running port. -/
theorem aspRateMeasure_first {s : Mach} {n k : Nat} (hn : n < 64) (hrun : s.aspRun n = true) (hk : 0 < k) (hrates : (s.aspSt n).rates = [])
    (hlt : 6400000000000 / k < 2 ^ 32) :
    (aspRateMeasure n k s).rd R.ASP_RATE n = 6400000000000 / k ∧ (aspRateMeasure n k s).rd R.ASP_STABLE n = 6400000000000 / k
      ∧ ((aspRateMeasure n k s).aspSt n).rates = [6400000000000 / k] ∧ ((aspRateMeasure n k s).aspSt n).exc = false := by
  obtain ⟨hrate, hstable, hrates', hexc⟩ := Mach.aspMeasure_first hrates hlt
  unfold aspRateMeasure
  rw [if_neg (by simp [hrun]; omega)]
  extract_lets bad t
  have ht : t.onlyIn rendTouch (t.when bad (·.asrcDrop (fun sel => selKind sel == 1 && selIdx sel / 32 == n && !t.srcSync sel))) :=
    Mach.when_keeps (t.onlyIn rendTouch) bad _ t (fun _ => t.asrcDrop_onlyIn _) (t.onlyIn_refl _)
  have hrd : ∀ r : Reg, r.ofPort = true → (t.when bad (·.asrcDrop (fun sel => selKind sel == 1 && selIdx sel / 32 == n && !t.srcSync sel))).rd r n = t.rd r n :=
    fun r hr => Mach.onlyIn_rd ht r n 0 (Mach.rendTouch_port hr hn)
  have hasp : (t.when bad (·.asrcDrop (fun sel => selKind sel == 1 && selIdx sel / 32 == n && !t.srcSync sel))).aspSt n = t.aspSt n := by
    rw [Mach.aspSt, ht.1 .asp (by decide), Mach.aspSt]
  have hst : (t.aspSt n) = { (s.aspMeasure n k).aspSt n with count := k } := Mach.aspSt_onAsp _ n _
  refine ⟨(hrd _ (by decide)).trans hrate, (hrd _ (by decide)).trans hstable, ?_, ?_⟩
  · rw [hasp, hst]
    exact hrates'
  · rw [hasp, hst]
    exact hexc

/-- Settles O33. -/
theorem serialPortFramesAndLosses : Obligations.SerialPortFramesAndLosses := by
  refine ⟨?_, ?_, ?_, ?_, ?_, ?_, ?_, ?_, ?_, ?_, ?_, ?_, ?_, ?_, ?_, ?_, ?_, ?_, ?_, ?_, ?_, ?_, ?_, ?_, ?_⟩
  · intro s n k p l ph h hn hlive hl hst
    refine take_gives hlive (by simp only [hl, decide_eq_true hn, Bool.and_self]) ?_
    rw [aspFrame, if_neg (by omega)]
    obtain hst | hst := hst <;> rw [hst] <;> rfl
  · intro s n k p l ph h hn hlive hl hst hm hk
    refine take_gives hlive (by simp only [hl, decide_eq_true hn, Bool.and_self]) ?_
    rw [aspFrame_acquiring _ _ _ _ _ hn hst, Mach.aspAcquire]
    dsimp only
    rw [hm, if_neg (by decide), if_pos (by simpa using hk)]
  · intro s n k p l ph h hn hlive hl hst hm hk hrate hp hen hwait
    refine ⟨_, take_gives hlive (by simp only [hl, decide_eq_true hn, Bool.and_self])
      ((aspFrame_acquiring _ _ _ _ _ hn hst).trans ((Mach.aspAcquire_slave p hm hk hrate).trans (if_pos hp))), ?_⟩
    exact Mach.aspEnter_spec (bits_lt ..) hm hwait
  · intro s n k p l ph h hn hlive hl hst hm hk hrate hp
    obtain ⟨hwrong, hstate, hregs⟩ := Mach.aspWrong_spec (s := s.m) (n := n)
    exact ⟨_, take_gives hlive (by simp only [hl, decide_eq_true hn, Bool.and_self])
      ((aspFrame_acquiring _ _ _ _ _ hn hst).trans ((Mach.aspAcquire_slave p hm hk hrate).trans (if_neg (by simp [hp])))), hwrong, hstate.trans hst, hregs⟩
  · intro s n k p l ph h hn hlive hl hst hp hbad
    refine take_gives hlive (by simp only [hl, decide_eq_true hn, Bool.and_self]) ?_
    rw [aspFrame_running _ _ _ _ _ hn hst, Mach.aspRunFrame]
    dsimp only
    rw [hp, if_neg Bool.false_ne_true, if_pos (by omega)]
  · intro s n k p l ph h hn hlive hl hst hm hp hk hmany
    refine take_gives hlive (by simp only [hl, decide_eq_true hn, Bool.and_self]) ?_
    rw [aspFrame_running _ _ _ _ _ hn hst, Mach.aspRunFrame]
    dsimp only
    rw [hp, if_pos rfl, if_neg (by decide), hm, show (!false && k != s.m.aspSlots n * bitsOf (s.m.glv F.ASP_CFG_WIDTH n)) = true by simpa using hk,
      glitches_cons, if_pos (by simp only [b2n, if_true]; omega)]
  · intro s n k p l ph h hn hlive hl hst hout hp hk hh hloop hfew
    exact ⟨_, take_gives hlive (by simp only [hl, decide_eq_true hn, Bool.and_self]) rfl, goodFrame_in l ph hn hst hout hp hk hh hloop hfew⟩
  · intro s n k p l ph h hn hlive hl hst hout hp hk hh hfew
    exact ⟨_, take_gives hlive (by simp only [hl, decide_eq_true hn, Bool.and_self]) rfl, slippedFrame_in l ph hn hst hout hp hk hh hfew⟩
  · intro s n k p l ph h hn hlive hl hst hm hp hk hfew
    exact ⟨_, take_gives hlive (by simp only [hl, decide_eq_true hn, Bool.and_self]) rfl, glitchedFrame l ph h hn hst hm hp hk hfew⟩
  · intro s n k p l ph h hn hlive hl hst hout hp hk hfew
    exact ⟨_, take_gives hlive (by simp only [hl, decide_eq_true hn, Bool.and_self]) rfl, frame_out l ph h hn hst hout hp hk hfew⟩
  · intro s n c b hn hc hrun hen
    obtain ⟨h1, h2, h3, h4, h5⟩ := s.aspLoss_spec n b hn hc hrun hen
    exact ⟨h1, h2, h3, h4, h5, fun k hk hlt => Mach.gf_otherPort (s.aspLoss_onlyIn n c b) hk hlt (by decide)⟩
  · intro s n hn h hor
    refine take_gives h (decide_eq_true hn) ?_
    rw [aspClockTimeout, if_neg (by omega), if_neg (by decide), if_pos rfl, if_pos (by simpa using hor)]
  · intro s n hn h hm
    refine take_gives h (decide_eq_true hn) ?_
    rw [aspClockTimeout, if_neg (by omega), if_neg (by decide), if_neg (by decide), if_pos (by rw [hm]; rfl)]
  · intro s n hn h hm hbcw
    refine take_gives h (decide_eq_true hn) ?_
    rw [aspClockTimeout, if_neg (by omega), if_neg (by decide), if_pos rfl, if_neg (by simp [hm, hbcw])]
  · intro s n hn h hm
    refine take_gives h (decide_eq_true hn) ?_
    rw [aspClockTimeout, if_neg (by omega), if_neg (by decide), if_neg (by decide), if_neg (by simp [hm])]
  · intro s n hn h hsrc
    refine take_gives h (decide_eq_true hn) ?_
    rw [aspClockTimeout, if_neg (by omega), if_pos rfl, if_pos (by simpa using hsrc)]
  · intro s n hn h hsrc
    refine ⟨_, take_gives h (decide_eq_true hn) ?_, bankLost_present (s := s.m) (b := n / 8) (by omega), fun k hk hother => bankLost_others hk hother⟩
    rw [aspClockTimeout, if_neg (by omega), if_pos rfl, if_neg (by simp [hsrc])]
    rfl
  · intro s n hn h hst
    exact take_gives h (decide_eq_true hn) (by rw [aspClockReturn, if_neg (by omega), if_pos hst])
  · intro s n hn h hst
    exact take_gives h (decide_eq_true hn) (by rw [aspClockReturn, if_neg (by omega), if_neg hst])
  · intro s n k hn h hrun hk hrates hlt
    exact ⟨_, take_gives h (decide_eq_true hn) rfl, aspRateMeasure_first hn hrun hk hrates hlt⟩
  · intro s n k hn h hno
    exact take_gives h (decide_eq_true hn) (if_pos (by obtain h | h := hno <;> simp [h]))
  · intro s b k hb h hsrc
    exact take_gives h (decide_eq_true hb) (if_pos (by simp [hsrc]))
  · intro s b hb h hsrc
    refine ⟨_, take_gives h (decide_eq_true hb) (aspMclkMeasure_441 hb hsrc rfl), Mach.on_sf_one _ _ _ rfl (by decide), ?_,
      Mach.registersOnly_sf _ _ _ _ (Mach.registersOnly_sf _ _ _ _ (Mach.registersOnly_sf _ _ _ _ s.m.registersOnly_refl))⟩
    generalize s.m.sf F.ASP_BANK_STAT_FREQ _ b = t
    simp (disch := decide) only [Mach.gf_sf_disjoint, Mach.gf_sf_self]
    rfl
  · intro s b hb h
    exact ⟨_, take_gives h (decide_eq_true hb) rfl, fun k hk hrun hen => brownOut_spec hb hk hrun hen⟩
  · intro s b hb h
    exact ⟨_, take_gives h (decide_eq_true hb) rfl, fun k hk => supplyReturn_spec hb hk⟩

end Sys2Proof.Machine
end

section
/-! PROOF. Merge windows, lost streams, the stream region, counts and discovery (R422, R427 to R430, R449). -/
namespace Sys2Proof.Machine

/-! ## Counts that are cleared -/

/-- A write of zero leaves a zero. -/
theorem Mach.rd_wr_zero {s : Mach} {r : Reg} {i j : Nat} (q : Reg) (a b : Nat) (h : s.rd r i j = 0) : (s.wr q 0 a b).rd r i j = 0 := by
  by_cases e : q.at_ a b = r.at_ i j
  · rw [Mach.rd, Mach.wr, e, mget_mput_self]
    rfl
  · rw [Mach.rd_wr_ne _ _ e, h]

/-- Zeros written to the registers of a list, at one index, are read there. -/
theorem Mach.rd_each_zero {s : Mach} {l : List Reg} {r : Reg} (hr : r ∈ l) (k : Nat) : (s.each l (fun s r => s.wr r 0 k)).rd r k = 0 := by
  induction l generalizing s with
  | nil => cases hr
  | cons q l ih =>
    rw [Mach.each_cons]
    obtain rfl | hr := List.mem_cons.1 hr
    · exact Mach.each_keeps_mem (fun u : Mach => u.rd r k = 0) (fun u q _ h => Mach.rd_wr_zero q k 0 h) (s.rd_wr_self r 0 k 0)
    · exact ih hr

theorem Mach.each_zero_registersOnly {s t : Mach} (l : List Reg) (k : Nat) (h : s.registersOnly t) : s.registersOnly (t.each l (fun s r => s.wr r 0 k)) :=
  Mach.each_keeps_mem (s.registersOnly ·) (fun _ _ _ h => Mach.registersOnly_wr _ _ _ _ h) h

/-- The eight counts of a stream. -/
def streamCounts : List Reg :=
  [R.STRM_IN_PKTS, R.STRM_IN_LOST, R.STRM_IN_DUP, R.STRM_IN_LATE, R.STRM_IN_EARLY, R.STRM_IN_BAD, R.STRM_OUT_PKTS, R.STRM_OUT_DROP]

theorem strmCntClr_of_go {s : Mach} {v : Nat} (h : bitOf v 0 = true) :
    strmCntClr v s = s.each (upto 256) (fun s k => s.each streamCounts (fun s r => s.wr r 0 k)) := by
  rw [strmCntClr, h]
  rfl

theorem strmCleared_zero {s : Mach} {k : Nat} {r : Reg} (hk : k < 256) (hr : r ∈ streamCounts) :
    (s.each (upto 256) (fun s k => s.each streamCounts (fun s r => s.wr r 0 k))).rd r k = 0 :=
  Mach.each_establish (Pre := fun _ => True) (Post := fun u => u.rd r k = 0) (List.mem_range.2 hk) List.nodup_range (fun _ _ _ _ => trivial)
    (fun _ _ => Mach.rd_each_zero hr k)
    (fun _ j _ h => Mach.each_keeps_mem (fun u : Mach => u.rd r k = 0) (fun _ q _ h => Mach.rd_wr_zero q j 0 h) h) trivial

/-! ## The stream region -/

theorem Mach.regionOk_of_regionHi (s : Mach) (v a n : Nat) : (s.sf F.STRM_REGION_HI_ADDR v).regionOk 2 a n = s.regionOk 2 a n := by
  simp (disch := decide) only [Mach.regionOk, Mach.inDram, Mach.dramSize, Mach.bulkOn, Mach.bulkBase, Mach.corrOn, Mach.corrBase, Mach.on,
    Mach.gf_sf_ne, beq_self_eq_true, Bool.true_or]
  rfl

/-! ## Lost streams -/

theorem streamLost_spec {s : Mach} {k : Nat} (hk : k < 256) (hrun : s.gf F.STRM_IN_STAT_STATE k = 2) :
    (streamLost k s).gf F.STRM_IN_STAT_STATE k = 3 ∧ (streamLost k s).on F.STRM_EVT_LOST = true
      ∧ ∀ j, j ≠ k → j < 256 → (streamLost k s).gf F.STRM_IN_STAT_STATE j = s.gf F.STRM_IN_STAT_STATE j := by
  unfold streamLost
  rw [hrun, if_neg (by simp; omega)]
  extract_lets last
  generalize ht : (s.sf F.STRM_IN_STAT_STATE 3 k).evt F.STRM_EVT_LOST = t
  have hcount : ∀ (u : Mach) (r : Reg) (i : Nat), R.STRM_STAT.at_ 0 0 ≠ r.at_ i 0 → u.strCount.rd r i = u.rd r i := fun u r i h => by
    unfold Mach.strCount
    extract_lets a b
    rw [Mach.rd_sf_ne _ _ h, Mach.rd_sf_ne _ _ h]
  have hstat : ∀ j, j < 256 → (t.raise E.STREAM_LOST k last).strCount.rd R.STRM_IN_STAT j = (s.sf F.STRM_IN_STAT_STATE 3 k).rd R.STRM_IN_STAT j := fun j hj => by
    rw [hcount _ _ _ (by simp only [Reg.at_, R.STRM_STAT, R.STRM_IN_STAT]; omega),
      Mach.raise_rd_below _ _ _ _ (by simp only [Reg.at_, R.STRM_IN_STAT]; omega), ← ht]
    exact Mach.rd_sf_ne _ _ (by simp only [Reg.at_, R.STRM_EVT, R.STRM_IN_STAT, F.STRM_EVT_LOST]; omega)
  refine ⟨?_, ?_, fun j hj hlt => ?_⟩
  · rw [Mach.gf_of_rd (hstat k hk), Mach.gf_sf_self _ _ _ _ _ (by decide)]
    rfl
  · rw [Mach.on_of_rd (hcount _ R.STRM_EVT 0 (by decide)), Mach.on_of_rd (Mach.raise_rd_below _ _ _ _ (r := R.STRM_EVT) (by decide)), ← ht]
    exact Mach.on_sf_one _ _ _ rfl (by decide)
  · rw [Mach.gf_of_rd (hstat j hlt)]
    exact Mach.gf_sf_ne _ _ (by simp only [Reg.at_, F.STRM_IN_STAT_STATE, R.STRM_IN_STAT]; omega)

/-! ## Announcements -/

/-- A firmware frame queued on both ports. -/
theorem Mach.queueBoth (s : Mach) (x : Nat × List Byte) :
    (s.each [0, 1] (fun s p => s.onNet p (fun n => { n with fwQ := n.fwQ ++ [x] }))).net0 = { s.net0 with fwQ := s.net0.fwQ ++ [x] }
      ∧ (s.each [0, 1] (fun s p => s.onNet p (fun n => { n with fwQ := n.fwQ ++ [x] }))).net1 = { s.net1 with fwQ := s.net1.fwQ ++ [x] }
      ∧ (s.each [0, 1] (fun s p => s.onNet p (fun n => { n with fwQ := n.fwQ ++ [x] }))).regs = s.regs := ⟨rfl, rfl, rfl⟩

/-- Settles O37. -/
theorem streamsAndDiscovery : Obligations.StreamsAndDiscovery := by
  refine ⟨?_, ?_, ?_, ?_, ?_, ?_, ?_, ?_, ?_, ?_, ?_, ?_⟩
  · intro s k q e hk hq h hfind
    exact take_gives h (by simp [hk, hq]) (by rw [mergeWindowExpire]; simp only [hfind])
  · intro s k q hk hq h hfind
    exact take_gives h (by simp [hk, hq]) (by rw [mergeWindowExpire]; simp only [hfind])
  · exact fun s k hk h hrun => ⟨_, take_gives h (decide_eq_true hk) rfl, streamLost_spec hk hrun⟩
  · exact fun s k hk h hno => take_gives h (decide_eq_true hk) (if_pos (by simp [hno]))
  · intro s v hv h hoff hgo hok
    refine ⟨(s.m.sf F.STRM_REGION_HI_ADDR v).sf F.STRM_REGION_HI_EN 1, take_gives h (decide_eq_true hv) ?_, Mach.on_sf_one _ _ _ rfl (by decide), ?_⟩
    · rw [strmRegionWrite]
      dsimp only
      rw [hoff, hgo, if_neg (by decide), Mach.regionOk_of_regionHi, hok, if_pos (by decide)]
    · simp (disch := decide) only [Mach.gf_sf_disjoint, Mach.gf_sf_self]
      rfl
  · intro s v hv h hon hstop hidle
    refine take_gives h (decide_eq_true hv) ?_
    rw [strmRegionWrite]
    dsimp only
    rw [hon, if_pos rfl, hstop, if_neg]
    simpa using fun a b hab => hidle (a, b) hab
  · intro s v hv h hgo
    refine ⟨_, take_gives h (decide_eq_true hv) (strmCntClr_of_go hgo), fun k r hk hr => strmCleared_zero hk hr, ?_⟩
    exact Mach.each_keeps_mem (s.m.registersOnly ·) (fun _ k _ h => Mach.each_zero_registersOnly _ k h) s.m.registersOnly_refl
  · intro s a h hfw hfind
    exact take_gives h rfl (by rw [discoveryAnnouncement, hfw, if_neg (by decide)]; simp only [hfind])
  · intro s a d h hfw hfind hne
    refine take_gives h rfl ?_
    rw [discoveryAnnouncement, hfw, if_neg (by decide)]
    simp only [hfind, hne, ne_eq, not_false_eq_true, decide_true]
    rfl
  · intro s n h
    exact ⟨_, take_gives h rfl rfl, rfl, fun d => by simp [discoveryExpire, Decidable.imp_iff_not_or]⟩
  · intro s k hk h hfw hen han
    have hgo : streamAnnounce k s.m = (s.m.sf F.STRM_OUT_STAT_ANNOUNCED 1 k).each [0, 1]
        (fun u p => u.onNet p (fun n => { n with fwQ := n.fwQ ++ [(3, (s.m.strOut k).name)] })) := by
      rw [streamAnnounce]
      exact if_neg (by simp [hfw, hen, han])
    obtain ⟨hA, hB, hregs⟩ := (s.m.sf F.STRM_OUT_STAT_ANNOUNCED 1 k).queueBoth (3, (s.m.strOut k).name)
    exact ⟨_, take_gives h (decide_eq_true hk) hgo, Mach.on_sf_one _ _ _ rfl (by decide), hA, hB⟩
  · intro s k hk h hno
    exact take_gives h (decide_eq_true hk) (if_pos (by obtain h | h | h := hno <;> simp [h]))

end Sys2Proof.Machine
end

section
/-! PROOF. Received frames: counts and drops, and the rows of R406 that a good frame may match (R406 to R408, R417, R418). -/
namespace Sys2Proof.Machine

/-- A frame received whole on a port that listens is judged by its length, then by its check sequence. -/
theorem netRxFrame_heard {s : Mach} {p : Nat} (f : RxFrame) (hp : p < 2) (hlink : s.linkUp p = true) (hloop : s.macLooped p = false) :
    netRxFrame p f s =
      if f.len < 64 then (if (s.bump R.NET_RUNT p).on F.NET_CFG_RUNT_SILENT p then s.bump R.NET_RUNT p else (s.bump R.NET_RUNT p).evt F.NET_EVT_RUNT p)
      else if 9216 < f.len then s.bump R.NET_OVERSIZE p
      else if !f.fcsOk then s.bump R.NET_FCS_ERR p
      else s.rxTake p f.data (parseFrame f.data) f.stamp := by
  rw [netRxFrame, hlink, hloop, if_neg (by simp; omega)]

theorem netRxFrame_good {s : Mach} {p : Nat} {f : RxFrame} (hp : p < 2) (hlink : s.linkUp p = true) (hloop : s.macLooped p = false)
    (hmin : 64 ≤ f.len) (hmax : f.len ≤ 9216) (hfcs : f.fcsOk = true) : netRxFrame p f s = s.rxTake p f.data (parseFrame f.data) f.stamp := by
  rw [netRxFrame_heard f hp hlink hloop, if_neg (by omega), if_neg (by omega), hfcs, if_neg (by decide)]

/-! ## The rows of a good frame -/

section
variable {s : Mach} {p : Nat} {d : List Byte} {f : Parsed} (stamp : Nat)

theorem Mach.rxTake_pause (hety : f.ety = 0x8808) (hop : beAt d f.l3 2 = 1) :
    s.rxTake p d f stamp = (s.bump R.NET_RX_FRAMES p).pauseFrame p (beAt d (f.l3 + 2) 2) := by
  rw [Mach.rxTake, hety, hop]
  rfl

theorem Mach.rxTake_ptp (h : f.ety = 0x88F7 ∨ (f.ety ≠ 0x8808 ∧ f.udp = true ∧ (f.dport = 319 ∨ f.dport = 320))) :
    s.rxTake p d f stamp = s.bump R.NET_RX_FRAMES p := by
  have hpause : f.ety ≠ 0x8808 := by
    obtain h | ⟨h, -⟩ := h
    · rw [h]; decide
    · exact h
  rw [Mach.rxTake, if_neg (by simp [hpause]), if_pos]
  obtain h | ⟨-, hudp, hport⟩ := h
  · simp [h]
  · simp [hudp, hport]

theorem Mach.rxTake_stream (hpause : f.ety ≠ 0x8808) (hptp : f.ety ≠ 0x88F7) (hudp : f.udp = true) (h319 : f.dport ≠ 319) (h320 : f.dport ≠ 320)
    {k : Nat} {x : StrIn} (hfind : (s.bump R.NET_RX_FRAMES p).sin.find? (fun e =>
      e.2.en && e.2.group == f.dst && e.2.port == f.dport && (e.2.source == 0 || e.2.source == f.src)) = some (k, x)) :
    s.rxTake p d f stamp = (s.bump R.NET_RX_FRAMES p).mediaIn p k f.payload := by
  rw [Mach.rxTake, if_neg (by simp [hpause]), if_neg (by simp [hptp, h319, h320]), hudp, if_pos rfl, hfind]

/-- A frame without UDP and of no firmware protocol goes to the ring of its classifier entry, or to ring 0. -/
theorem Mach.rxTake_ring (hpause : f.ety ≠ 0x8808) (hptp : f.ety ≠ 0x88F7) (hudp : f.udp = false)
    (hfw : (s.bump R.NET_RX_FRAMES p).fwProto p d f = none) :
    s.rxTake p d f stamp = match (s.bump R.NET_RX_FRAMES p).classify p f with
      | some k => (s.bump R.NET_RX_FRAMES p).ringWrite p ((s.bump R.NET_RX_FRAMES p).gf F.NET_CLASS_RING p k) k f.vlan.isSome d stamp
      | none => (s.bump R.NET_RX_FRAMES p).ringWrite p 0 15 f.vlan.isSome d stamp := by
  rw [Mach.rxTake, if_neg (by simp [hpause]), if_neg (by simp [hptp, hudp]), hudp, if_neg (by decide), hfw]
  dsimp only
  rw [if_neg (by simp)] <;> rfl

end

/-! ## The pause watchdog -/

theorem pauseWatchdog_spec {s : Mach} {p : Nat} (hp : p < 2) (hon : s.on F.NET_STAT_PAUSED p = true) :
    (pauseWatchdog p s).on F.NET_STAT_PAUSED p = false ∧ (pauseWatchdog p s).on F.NET_EVT_PAUSE_WD p = true
      ∧ (pauseWatchdog p s).rd R.NET_PAUSE_WD p = Nat.min 0xFFFFFFFF (s.rd R.NET_PAUSE_WD p + 1) ∧ ((pauseWatchdog p s).netPort p).ignore = true := by
  unfold pauseWatchdog
  rw [hon, if_neg (by simp; omega)]
  extract_lets t u
  have hrd : ∀ r : Reg, r.s1 = 0x40000 → r.base < 0x380000 → (u.onNet p (fun n => { n with ignore := true })).rd r p =
      ((t.bump R.NET_PAUSE_WD p).evt F.NET_EVT_PAUSE_WD p).rd r p := fun r hs hb => by
    have hon : ∀ (x : Mach) (f : NetPort → NetPort), (x.onNet p f).rd r p = x.rd r p := fun x f => by
      unfold Mach.onNet
      split <;> rfl
    rw [hon]
    exact Mach.raise_rd_below _ _ _ _ (by simp only [Reg.at_, hs]; omega)
  refine ⟨?_, ?_, ?_, ?_⟩
  · rw [Mach.on_of_rd (hrd R.NET_STAT rfl (by decide)), Mach.on, Mach.evt, Mach.gf_sf_inst (f := F.NET_EVT_PAUSE_WD) (g := F.NET_STAT_PAUSED) _ _ _ rfl (by decide), Mach.bump,
      Mach.gf_wr_inst (r := R.NET_PAUSE_WD) (g := F.NET_STAT_PAUSED) _ _ _ rfl (by decide)]
    exact Mach.on_sf_zero _ _ _ (by decide)
  · rw [Mach.on_of_rd (hrd R.NET_EVT rfl (by decide))]
    exact Mach.on_sf_one _ _ _ rfl (by decide)
  · rw [hrd R.NET_PAUSE_WD rfl (by decide), Mach.evt, Mach.rd_sf_inst (f := F.NET_EVT_PAUSE_WD) (q := R.NET_PAUSE_WD) _ _ _ rfl (by decide), Mach.rd_bump_self]
    simp (disch := decide) only [t, Mach.rd_sf_inst]
  · unfold Mach.onNet Mach.netPort
    split <;> rfl

/-- Settles O34. -/
theorem receivedFrames : Obligations.ReceivedFrames := by
  refine ⟨?_, ?_, ?_, ?_, ?_, ?_, ?_, ?_, ?_, ?_, ?_, ?_, ?_, ?_⟩
  · intro s p f hp h hdeaf
    exact take_gives h (decide_eq_true hp) (if_pos (by obtain h | h := hdeaf <;> simp [h]))
  · intro s p f hp h hlink hloop hlen hsilent
    refine take_gives h (decide_eq_true hp) ?_
    rw [netRxFrame_heard f hp hlink hloop, if_pos hlen, if_pos]
    rwa [Mach.on_of_rd (Mach.rd_wr_inst (r := R.NET_RUNT) (q := R.NET_CFG) _ _ _ rfl (by decide))]
  · intro s p f hp h hlink hloop hlen htold
    refine take_gives h (decide_eq_true hp) ?_
    rw [netRxFrame_heard f hp hlink hloop, if_pos hlen, if_neg]
    rw [Mach.on_of_rd (Mach.rd_wr_inst (r := R.NET_RUNT) (q := R.NET_CFG) _ _ _ rfl (by decide)), htold]
    decide
  · intro s p f hp h hlink hloop hlen
    exact take_gives h (decide_eq_true hp) (by rw [netRxFrame_heard f hp hlink hloop, if_neg (by omega), if_pos hlen])
  · intro s p f hp h hlink hloop hmin hmax hfcs
    exact take_gives h (decide_eq_true hp) (by rw [netRxFrame_heard f hp hlink hloop, if_neg (by omega), if_neg (by omega), hfcs]; rfl)
  · rintro s p f _ _ hp h hlink hloop hmin hmax hfcs rfl rfl
    have hgood := netRxFrame_good hp hlink hloop hmin hmax hfcs
    refine ⟨fun hety hop => ?_, fun hptp => ?_, fun hpause hptp hudp h319 h320 k x hfind => ?_, fun hpause hptp hudp hfw k hclass => ?_,
      fun hpause hptp hudp hfw hclass => ?_⟩
    · exact take_gives h (decide_eq_true hp) (hgood.trans (Mach.rxTake_pause _ hety hop))
    · exact take_gives h (decide_eq_true hp) (hgood.trans (Mach.rxTake_ptp _ hptp))
    · exact take_gives h (decide_eq_true hp) (hgood.trans (Mach.rxTake_stream _ hpause hptp hudp h319 h320 hfind))
    · exact take_gives h (decide_eq_true hp) (hgood.trans ((Mach.rxTake_ring _ hpause hptp hudp hfw).trans (by rw [hclass])))
    · exact take_gives h (decide_eq_true hp) (hgood.trans ((Mach.rxTake_ring _ hpause hptp hudp hfw).trans (by rw [hclass])))
  · exact fun s p hp h => take_gives h (decide_eq_true hp) (if_neg (by omega))
  · exact fun s p hp h => take_gives h (decide_eq_true hp) rfl
  · exact fun s p hp h hon => ⟨_, take_gives h (decide_eq_true hp) rfl, pauseWatchdog_spec hp hon⟩
  · exact fun s p hp h hoff => take_gives h (decide_eq_true hp) (if_pos (by simp [hoff]))
  · exact fun s p hp h => take_gives h (decide_eq_true hp) rfl
  · intro s p hp h hnone
    exact take_gives h (decide_eq_true hp) (by rw [firmwareProtocolReply, hnone])
  · intro s p k d r hp h hsome hk
    exact take_gives h (decide_eq_true hp) (by rw [firmwareProtocolReply, hsome]; simp only [hk, if_false])
  · intro s p d r hp h hsome
    exact take_gives h (decide_eq_true hp) (by rw [firmwareProtocolReply, hsome]; rfl)

end Sys2Proof.Machine
end

section
/-! PROOF. Transmission: the choice of the next frame, launch times, completed frames and media packets (R412 to R419, R428, R445, R450). -/
namespace Sys2Proof.Machine

/-! ## One network port -/

section
variable (s : Mach) (p : Nat) (f : NetPort → NetPort)

@[simp] theorem Mach.rd_onNet (r : Reg) (i j : Nat) : (s.onNet p f).rd r i j = s.rd r i j := by
  unfold Mach.onNet
  split <;> rfl

@[simp] theorem Mach.sys_onNet : (s.onNet p f).sys = s.sys := by
  unfold Mach.onNet
  split <;> rfl

theorem Mach.netPort_onNet : (s.onNet p f).netPort p = f (s.netPort p) := by
  unfold Mach.onNet Mach.netPort
  split <;> rfl

theorem Mach.onNet_id (h : f (s.netPort p) = s.netPort p) : s.onNet p f = s := by
  unfold Mach.onNet
  unfold Mach.netPort at h
  split
  · rename_i hp
    rw [if_pos hp] at h
    rw [h]
  · rename_i hp
    rw [if_neg hp] at h
    rw [h]

end

/-- A frame that starts is in flight, out of low-power idle. -/
theorem Mach.sendFrame_spec (s : Mach) (p : Nat) (f : TxFrame) :
    ((s.sendFrame p f).netPort p).inflight = some f ∧ (s.sendFrame p f).on F.NET_STAT_LPI p = false :=
  ⟨congrArg NetPort.inflight (s.netPort_onNet p _), Mach.on_sf_zero _ _ _ (by decide)⟩

/-! ## The choice of the next frame -/

/-- Where no media packet is late, none is dropped. -/
theorem mediaLateDrop_none {s : Mach} {p : Nat}
    (h : ∀ x ∈ (s.netPort p).mediaQ, s.tm.net < x.launch + s.gf F.NET_MEDIA_BUDGET_US p * 1000 * 65536) : mediaLateDrop p s = s := by
  unfold mediaLateDrop
  extract_lets lim late gone t
  have hlate : ∀ x ∈ (s.netPort p).mediaQ, late x = false := fun x hx => decide_eq_false (Nat.not_le.2 (h x hx))
  have hgone : gone = [] := List.filter_eq_nil_iff.2 fun x hx => by rw [hlate x hx]; decide
  have ht : t = s := s.onNet_id p _ (by
    rw [List.filter_eq_self.2 fun x hx => by rw [hlate x hx]; rfl])
  rw [hgone, ht]
  rfl

/-- A free transmitter with no late packet chooses its next frame. -/
theorem netTxFrameStart_of_free {s : Mach} {p : Nat} (hp : p < 2) (hlink : s.linkUp p = true) (hrun : s.on F.NET_STAT_PAUSED p = false)
    (hfree : (s.netPort p).inflight = none)
    (h : ∀ x ∈ (s.netPort p).mediaQ, s.tm.net < x.launch + s.gf F.NET_MEDIA_BUDGET_US p * 1000 * 65536) :
    netTxFrameStart p s = s.nextFrame p := by
  rw [netTxFrameStart, hlink, hrun, hfree, if_neg (by simp; omega), mediaLateDrop_none h]

section
variable {s : Mach} {p : Nat}

theorem Mach.nextFrame_ptp (h : 0 < s.ptpWait p) :
    s.nextFrame p = (s.onTime (fun t => { t with ptpQ := mput t.ptpQ p (s.ptpWait p - 1) })).sendFrame p ⟨0, 0, 0, false, 0, [], 0, none, 0⟩ := if_pos h

theorem Mach.nextFrame_media (h : s.ptpWait p = 0) {q : MediaPkt} {r : List MediaPkt} (hq : (s.netPort p).mediaQ = q :: r) :
    s.nextFrame p = (s.onNet p (fun n => { n with mediaQ := r })).sendFrame p ⟨1, 0, 0, false, 0, q.rtp, q.stream, none, 0⟩ := by
  rw [Mach.nextFrame, if_neg (by omega), hq]

theorem Mach.nextFrame_reply (h : s.ptpWait p = 0) (hq : (s.netPort p).mediaQ = []) {i a : Nat} {k : List Byte} {r : List (Nat × Nat × List Byte)}
    (hrep : s.repliesOf p = (i, a, k) :: r) (hlaunch : s.nextLaunch = none) :
    s.nextFrame p = (s.onCmd (fun c => { c with udpOut := r })).sendFrame p ⟨2, 0, 0, false, 0, k, 0, some (s.gf F.CMD_UDP_CFG_PORT, i, a), 0⟩ := by
  rw [Mach.nextFrame, if_neg (by omega), hq, hrep, hlaunch]
  rfl

theorem Mach.nextFrame_firmware (h : s.ptpWait p = 0) (hq : (s.netPort p).mediaQ = []) (hrep : s.repliesOf p = []) {i : Nat} {d : List Byte}
    {r : List (Nat × List Byte)} (hfw : (s.netPort p).fwQ = (i, d) :: r) (hlaunch : s.nextLaunch = none) :
    s.nextFrame p = (s.onNet p (fun n => { n with fwQ := r })).sendFrame p ⟨2, 1, 0, false, 0, d, 0, none, 0⟩ := by
  rw [Mach.nextFrame, if_neg (by omega), hq, hrep, hfw, hlaunch]
  rfl

end

/-! ## Host frames and their launch -/

/-- A ring with no whole frame starts nothing. -/
theorem Mach.hostStart_none {s : Mach} {p t : Nat} (limit : Option Nat) (h : s.headFrame p t = none) : s.hostStart p t limit = s := by
  rw [Mach.hostStart, h]

/-- Rings that offer nothing leave the choice to the rings after them. -/
theorem hostGo_skip {s : Mach} {p : Nat} (limit : Option Nat) (hfree : (s.netPort p).inflight = none) {l : List Nat}
    (h : ∀ u ∈ l, s.headFrame p u = none) (r : List Nat) : hostGo p limit (l ++ r) s = hostGo p limit r s := by
  induction l with
  | nil => rfl
  | cons a l ih =>
    rw [List.cons_append, hostGo, Mach.hostStart_none limit (h a List.mem_cons_self), hfree, if_neg (by decide)]
    exact ih fun u hu => h u (List.mem_cons_of_mem _ hu)

theorem hostGo_last (s : Mach) (p t : Nat) (limit : Option Nat) : hostGo p limit [t] s = s.hostStart p t limit := by
  rw [hostGo]
  exact ite_self _

theorem Mach.readLine_storeTouch (s : Mach) (reader a : Nat) : s.onlyIn storeTouch (s.readLine reader a) := by
  unfold Mach.readLine
  extract_lets l t
  have ht : s.onlyIn storeTouch t := by
    simp only [t]
    split
    · exact s.onlyIn_refl _
    · simp (disch := decide) [Mach.bankAccess]
  exact (Mach.onlyIn_each _ _ fun u i _ => u.checkWord_storeTouch reader (l + 8 * i)).2 ht

theorem Mach.busRead_onlyIn (s : Mach) (m id a n : Nat) : s.onlyIn storeTouch (s.busRead m id a n) := by
  unfold Mach.busRead
  extract_lets c bad t
  have ht : s.onlyIn storeTouch t := (Mach.onlyIn_each _ _ fun u l _ => u.readLine_storeTouch 0 l).2 (s.onlyIn_refl _)
  split
  · exact s.busErr_storeTouch ..
  · split
    · exact s.onlyIn_refl _
    · split
      · exact Mach.onlyIn_trans ht (t.busErr_storeTouch ..)
      · exact ht

theorem Mach.netPort_storeTouch {s t : Mach} (h : s.onlyIn storeTouch t) (p : Nat) : t.netPort p = s.netPort p := by
  obtain ⟨hA, hB⟩ := h.1 .net (by decide)
  rw [Mach.netPort, hA, hB, Mach.netPort]

/-- The ring's head frame after its descriptors have been read. -/
def Mach.fetched (s : Mach) (p t : Nat) (ds : List (Nat × List Byte)) : Mach :=
  s.each ds (fun s e => s.busRead (8 + p) (8 + t) (s.txBase p t + 32 * e.1) 32)

theorem Mach.fetched_onlyIn (s : Mach) (p t : Nat) (ds : List (Nat × List Byte)) : s.onlyIn storeTouch (s.fetched p t ds) :=
  (Mach.onlyIn_each _ _ fun u _ _ => u.busRead_onlyIn _ _ _ _).2 (s.onlyIn_refl _)

theorem Mach.endsBefore_none (s : Mach) (p n : Nat) : s.endsBefore p n none = true := rfl

/-- A whole good frame with a launch time: too far ahead it is abandoned, to come it waits, in time it starts, else it is late. -/
theorem Mach.hostStart_of_good {s u : Mach} {p t l : Nat} {ds : List (Nat × List Byte)} (hhead : s.headFrame p t = some ds) (hgood : badFrame ds = false)
    (hl : launchOf ds = some l) (hu : s.fetched p t ds = u) : s.hostStart p t none =
      (if u.tm.net + u.gf F.TIME_LAUNCH_CFG_AHEAD_S * 1000000000 * 65536 < l then u.endFrame p t ds.length fABORT
      else if u.tm.net < l then u
      else if u.tm.net ≤ l + u.gf F.TIME_LAUNCH_CFG_LATE_US * 1000 * 65536 then
        (u.each ds (fun s e => s.busRead (8 + p) (8 + t) (fld e.2 0 8) (fld e.2 8 2))).sendFrame p (txFrameOf u p t ds)
      else ((u.endFrame p t ds.length fABORT).bump R.TIME_LAUNCH_LATE).evt F.TIME_EVT_LAUNCH_LATE) := by
  rw [← hu]
  simp only [Mach.hostStart, hhead, hgood, hl, Mach.endsBefore_none, if_true, Mach.fetched, Bool.false_eq_true, if_false]
  congr

/-- A launch to come within the look-ahead keeps its frame waiting; one that has come, and is not too late, starts it. -/
theorem Mach.hostStart_launch {s : Mach} {p t l : Nat} {ds : List (Nat × List Byte)} (hhead : s.headFrame p t = some ds) (hgood : badFrame ds = false)
    (hl : launchOf ds = some l) :
    (s.tm.net < l → l ≤ s.tm.net + s.gf F.TIME_LAUNCH_CFG_AHEAD_S * 1000000000 * 65536 →
        ((s.hostStart p t none).netPort p).inflight = (s.netPort p).inflight)
      ∧ (l ≤ s.tm.net → s.tm.net ≤ l + s.gf F.TIME_LAUNCH_CFG_LATE_US * 1000 * 65536 →
        ((s.hostStart p t none).netPort p).inflight = some (txFrameOf (s.fetched p t ds) p t ds)) := by
  have hf := s.fetched_onlyIn p t ds
  generalize hu : s.fetched p t ds = u at *
  rw [Mach.hostStart_of_good hhead hgood hl hu, show u.tm = s.tm from hf.1 .tm (by decide),
    show u.gf F.TIME_LAUNCH_CFG_AHEAD_S = s.gf F.TIME_LAUNCH_CFG_AHEAD_S from Mach.onlyIn_gf hf _ 0 0 (by decide),
    show u.gf F.TIME_LAUNCH_CFG_LATE_US = s.gf F.TIME_LAUNCH_CFG_LATE_US from Mach.onlyIn_gf hf _ 0 0 (by decide)]
  constructor
  · intro hwait hin
    rw [if_neg (by omega), if_pos hwait, Mach.netPort_storeTouch hf]
  · intro hcome hin
    rw [if_neg (by omega), if_neg (by omega), if_pos hin]
    exact (Mach.sendFrame_spec ..).1

end Sys2Proof.Machine
end

section
/-! PROOF. Transmission: completed frames, launch times and media packets (R413 to R419, R428, R445, R450). -/
namespace Sys2Proof.Machine

/-! ## Completed frames -/

theorem netTxFrameDone_idle {s : Mach} {p : Nat} (t : Nat) (u : Bool) (h : (s.netPort p).inflight = none) : netTxFrameDone p t u s = s := by
  rw [netTxFrameDone, h]

section
variable {s : Mach} {p : Nat} {f : TxFrame}

/-- The port after its frame in flight has left. -/
def Mach.frameLeft (s : Mach) (p : Nat) (f : TxFrame) : Mach := s.onNet p (fun n => { n with inflight := none, sent := some f })

theorem Mach.macLooped_frameLeft : (s.frameLeft p f).macLooped p = s.macLooped p := by
  rw [Mach.macLooped, Mach.frameLeft, Mach.sys_onNet, Mach.macLooped]

/-- A frame of another class than the host's is counted, after it has been received again where the port is looped. -/
theorem netTxFrameDone_of_class (t : Nat) (u : Bool) (h : (s.netPort p).inflight = some f) (hc : f.cls ≠ 3) :
    netTxFrameDone p t u s = ((s.frameLeft p f).when (s.macLooped p && !u)
      (·.rxTake p f.bytes ((s.frameLeft p f).loopFrame p f) t)).bump R.NET_TX_FRAMES p := by
  rw [← Mach.macLooped_frameLeft (s := s) (f := f), netTxFrameDone, h]
  exact if_pos (by simpa using hc)

/-- A host frame that leaves whole has its descriptors written back. -/
theorem netTxFrameDone_host (t : Nat) (h : (s.netPort p).inflight = some f) (hc : f.cls = 3) (hts : f.tsReq = false) (hl : s.macLooped p = false) :
    netTxFrameDone p t false s = ((s.frameLeft p f).bump R.NET_TX_FRAMES p).endFrame p f.ring f.descs 0 := by
  have hl' : (s.frameLeft p f).macLooped p = false := Mach.macLooped_frameLeft.trans hl
  rw [netTxFrameDone, h]
  change (if (f.cls != 3) = true then _ else _) = _
  rw [hc, hts]
  change Mach.endFrame (Mach.bump (Mach.when _ ((s.frameLeft p f).macLooped p && !false) _) _ _) _ _ _ _ = _
  rw [hl']
  rfl

end

/-- The head of a ring moves past the frame. -/
theorem Mach.head_endFrame (s : Mach) (p t n x : Nat) :
    (s.endFrame p t n x).rd R.NET_TX_HEAD p t = (s.rd R.NET_TX_HEAD p t + n) % 2 ^ s.gf F.NET_TX_CTRL_SIZE p t := by
  have hsize : s.gf F.NET_TX_CTRL_SIZE p t < 16 := s.gf_lt _ p t
  have hpow : 2 ^ s.gf F.NET_TX_CTRL_SIZE p t < 2 ^ 32 := Nat.pow_lt_pow_right (by decide) (by omega)
  have := Nat.mod_lt (s.rd R.NET_TX_HEAD p t + n) (Nat.two_pow_pos (s.gf F.NET_TX_CTRL_SIZE p t))
  exact (Mach.rd_wr_self ..).trans (Nat.mod_eq_of_lt (by omega))

/-! ## Launch times -/

section
variable {s : Mach} {p t : Nat} (hp : p < 2) (ht : t < 4)
include hp ht

theorem launchTimeReached_down {ds : List (Nat × List Byte)} {l : Nat} (hlink : s.linkUp p = false) (hhead : s.headFrame p t = some ds)
    (hl : launchOf ds = some l) (hnow : l ≤ s.tm.net) : launchTimeReached p t s = s.endFrame p t ds.length fABORT := by
  rw [launchTimeReached, if_neg (by simp; omega), hlink, hhead]
  change (match launchOf ds with | some l => _ | none => _) = _
  rw [hl]
  exact if_pos hnow

theorem launchTimeReached_blocked (hlink : s.linkUp p = true)
    (h : s.on F.NET_STAT_PAUSED p = true ∨ (s.netPort p).inflight.isSome ∨ 0 < s.ptpWait p ∨ (s.netPort p).mediaQ ≠ [] ∨ s.repliesOf p ≠ []
      ∨ (s.netPort p).fwQ ≠ []) : launchTimeReached p t s = s := by
  rw [launchTimeReached, if_neg (by simp; omega), hlink, if_neg (by decide), if_pos]
  simpa [or_assoc] using h

theorem launchTimeReached_first (hlink : s.linkUp p = true) (hrun : s.on F.NET_STAT_PAUSED p = false) (hfree : (s.netPort p).inflight = none)
    (hptp : s.ptpWait p = 0) (hmed : (s.netPort p).mediaQ = []) (hrep : s.repliesOf p = []) (hfw : (s.netPort p).fwQ = [])
    (h : ∀ u, u < t → s.headFrame p u = none) : launchTimeReached p t s = s.hostStart p t s.nextLaunch := by
  rw [launchTimeReached, if_neg (by simp; omega), hlink, if_neg (by decide), hrun, hfree, hptp, hmed, hrep, hfw, if_neg (by decide), upto, List.range_succ,
    hostGo_skip _ hfree fun u hu => h u (List.mem_range.1 hu), hostGo_last]

end

/-! ## Media packets -/

/-- A stream with no packet to send sends none. -/
theorem mediaPacketLaunch_idle {s : Mach} {k : Nat}
    (h : (s.strOut k).en = false ∨ (s.strOut k).buf.length < ptimeSamples (s.strOut k).rate (s.strOut k).ptime) : mediaPacketLaunch k s = s := by
  rw [mediaPacketLaunch]
  exact if_pos (by simpa using h)

/-- The stream after one packet has been taken from its buffer. -/
def Mach.packetTaken (s : Mach) (k : Nat) : Mach :=
  s.onOut k (fun x => { x with seq := (x.seq + 1) % 65536, buf0 := x.buf0 + ptimeGrid x.ptime, buf := x.buf.drop (ptimeSamples x.rate x.ptime) })

section
variable {s : Mach} {k : Nat} (hen : (s.strOut k).en = true) (hbuf : ptimeSamples (s.strOut k).rate (s.strOut k).ptime ≤ (s.strOut k).buf.length)
include hen hbuf

theorem mediaPacketLaunch_eq :
    mediaPacketLaunch k s =
      ((s.packetTaken k).when ((if s.on F.TIME_REDUND_DUP_EGRESS then [0, 1] else [0]).any (fun p => s.linkUp p)) (·.bump R.STRM_OUT_PKTS k)).each
        (if s.on F.TIME_REDUND_DUP_EGRESS then [0, 1] else [0])
        (fun u p => u.mediaOut k p (launchAt (s.strOut k).buf0 (s.strOut k).ptime) (rtpOf (s.strOut k))) := by
  rw [mediaPacketLaunch]
  exact if_neg (by simp [hen]; exact hbuf)

end

section
variable {s : Mach} {p k : Nat} (l : Nat) (rtp : List Byte)

/-- A packet for a free transmitter leaves at once. -/
theorem Mach.mediaOut_free (hlink : s.linkUp p = true) (hrun : s.on F.NET_STAT_PAUSED p = false) (hfree : (s.netPort p).inflight = none)
    (hq : (s.netPort p).mediaQ = []) (hptp : s.ptpWait p = 0) : s.mediaOut k p l rtp = s.sendFrame p ⟨1, 0, 0, false, 0, rtp, k, none, 0⟩ := by
  rw [Mach.mediaOut, hlink, if_neg (by decide)]
  exact if_neg (by simp [hrun, hfree, hq, hptp])

/-- A packet for a paused transmitter is queued. -/
theorem Mach.mediaOut_paused (hlink : s.linkUp p = true) (hrun : s.on F.NET_STAT_PAUSED p = true) :
    s.mediaOut k p l rtp = s.onNet p (fun n => { n with mediaQ := n.mediaQ ++ [⟨k, l, rtp⟩] }) := by
  rw [Mach.mediaOut, hlink, if_neg (by decide)]
  exact if_pos (by rw [hrun]; rfl)

theorem Mach.mediaOut_down (hlink : s.linkUp p = false) : s.mediaOut k p l rtp = (s.bump R.NET_TX_DOWN_DROP p).bump R.STRM_OUT_DROP k := by
  rw [Mach.mediaOut, hlink]
  rfl

end

/-- The packet has been counted, and its port's state stands. -/
def Mach.packetCounted (s : Mach) (k : Nat) : Mach := (s.packetTaken k).bump R.STRM_OUT_PKTS k

theorem Mach.on_packetCounted (s : Mach) {k p : Nat} {g : Fld} (hg : g.reg = R.NET_STAT) (hk : k < 256) :
    (s.packetCounted k).on g p = s.on g p := by
  refine Mach.on_wr_ne _ _ ?_
  simp only [hg, Reg.at_, R.STRM_OUT_PKTS, R.NET_STAT]
  omega

section
variable {s : Mach} {k : Nat} (hen : (s.strOut k).en = true)
  (hbuf : ptimeSamples (s.strOut k).rate (s.strOut k).ptime ≤ (s.strOut k).buf.length)
include hen hbuf

/-- One port that can send: the packet is in flight. -/
theorem mediaPacketLaunch_single (hdup : s.on F.TIME_REDUND_DUP_EGRESS = false) (hlink : s.linkUp 0 = true) :
    mediaPacketLaunch k s = (s.packetCounted k).mediaOut k 0 (launchAt (s.strOut k).buf0 (s.strOut k).ptime) (rtpOf (s.strOut k)) := by
  rw [mediaPacketLaunch_eq hen hbuf, hdup]
  simp only [Bool.false_eq_true, if_false, List.any_cons, hlink, Bool.true_or]
  rfl

theorem mediaPacketLaunch_down (hdup : s.on F.TIME_REDUND_DUP_EGRESS = false) (hlink : s.linkUp 0 = false) :
    mediaPacketLaunch k s = ((s.packetTaken k).bump R.NET_TX_DOWN_DROP 0).bump R.STRM_OUT_DROP k := by
  rw [mediaPacketLaunch_eq hen hbuf, hdup]
  simp only [Bool.false_eq_true, if_false, List.any_cons, hlink, List.any_nil, Bool.or_false]
  exact Mach.mediaOut_down _ _ hlink

theorem mediaPacketLaunch_dup (hdup : s.on F.TIME_REDUND_DUP_EGRESS = true) (hlink : s.linkUp 0 = true) :
    mediaPacketLaunch k s = ((s.packetCounted k).mediaOut k 0 (launchAt (s.strOut k).buf0 (s.strOut k).ptime) (rtpOf (s.strOut k))).mediaOut k 1
      (launchAt (s.strOut k).buf0 (s.strOut k).ptime) (rtpOf (s.strOut k)) := by
  rw [mediaPacketLaunch_eq hen hbuf, hdup]
  simp only [if_true, List.any_cons, hlink, Bool.true_or]
  rfl

end

/-- On a free port 0 the packet is in flight. -/
theorem Mach.packetCounted_free {s : Mach} {k : Nat} (hk : k < 256) (l : Nat) (rtp : List Byte) (hlink : s.linkUp 0 = true)
    (hrun : s.on F.NET_STAT_PAUSED 0 = false) (hfree : s.net0.inflight = none) (hq : s.net0.mediaQ = []) (hptp : s.ptpWait 0 = 0) :
    (s.packetCounted k).mediaOut k 0 l rtp = (s.packetCounted k).sendFrame 0 ⟨1, 0, 0, false, 0, rtp, k, none, 0⟩ :=
  Mach.mediaOut_free l rtp ((s.on_packetCounted rfl hk).trans hlink) ((s.on_packetCounted rfl hk).trans hrun) hfree hq hptp

/-! ## Late media packets -/

/-- The packets that may still start stay queued, and the limit stands. -/
theorem mediaLateDrop_keeps (s : Mach) (p : Nat) :
    (mediaLateDrop p s).netPort p
        = { s.netPort p with mediaQ := (s.netPort p).mediaQ.filter (fun x => !decide (x.launch + s.gf F.NET_MEDIA_BUDGET_US p * 1000 * 65536 ≤ s.tm.net)) }
      ∧ (mediaLateDrop p s).gf F.NET_MEDIA_BUDGET_US p = s.gf F.NET_MEDIA_BUDGET_US p := by
  unfold mediaLateDrop
  extract_lets lim late gone t
  refine Mach.each_keeps (fun u => u.netPort p = _ ∧ u.gf F.NET_MEDIA_BUDGET_US p = _) _ (fun u x h => ?_) gone t ⟨s.netPort_onNet p _, ?_⟩
  · obtain ⟨hnet, hgf⟩ := h
    refine ⟨hnet, Eq.trans ?_ hgf⟩
    have haddr : R.STRM_OUT_DROP.at_ x.stream 0 ≠ R.NET_MEDIA_BUDGET.at_ p 0 := by
      simp only [Reg.at_, R.STRM_OUT_DROP, R.NET_MEDIA_BUDGET]
      omega
    rw [Mach.evt, Mach.gf_sf_inst (f := F.NET_EVT_MEDIA_LATE) (g := F.NET_MEDIA_BUDGET_US) _ _ _ rfl (by decide), Mach.bump, Mach.gf_wr_ne (g := F.NET_MEDIA_BUDGET_US) _ _ haddr, Mach.bump,
      Mach.gf_wr_inst (r := R.NET_MEDIA_LATE_DROP) (g := F.NET_MEDIA_BUDGET_US) _ _ _ rfl (by decide)]
  · exact Mach.gf_of_rd (s.rd_onNet p _ _ p 0)

end Sys2Proof.Machine
end

section
/-! PROOF. What media packets do, and O35. -/
namespace Sys2Proof.Machine

/-- A media packet of a stream with one free port is sent, numbered and counted. -/
theorem mediaPacketLaunch_sent {s : Mach} {k : Nat} (hk : k < 256) (hen : (s.strOut k).en = true)
    (hbuf : ptimeSamples (s.strOut k).rate (s.strOut k).ptime ≤ (s.strOut k).buf.length) (hdup : s.on F.TIME_REDUND_DUP_EGRESS = false)
    (hlink : s.linkUp 0 = true) (hrun : s.on F.NET_STAT_PAUSED 0 = false) (hfree : s.net0.inflight = none) (hq : s.net0.mediaQ = [])
    (hptp : s.ptpWait 0 = 0) :
    (mediaPacketLaunch k s).net0 = { s.net0 with inflight := some ⟨1, 0, 0, false, 0, rtpOf (s.strOut k), k, none, 0⟩ }
      ∧ ((mediaPacketLaunch k s).strOut k).seq = ((s.strOut k).seq + 1) % 65536
      ∧ ((mediaPacketLaunch k s).strOut k).buf0 = (s.strOut k).buf0 + ptimeGrid (s.strOut k).ptime
      ∧ (mediaPacketLaunch k s).rd R.STRM_OUT_PKTS k = Nat.min 0xFFFFFFFF (s.rd R.STRM_OUT_PKTS k + 1)
      ∧ (mediaPacketLaunch k s).net1 = s.net1 := by
  rw [mediaPacketLaunch_single hen hbuf hdup hlink, Mach.packetCounted_free hk _ _ hlink hrun hfree hq hptp]
  have hstr : (s.packetCounted k).strOut k = { s.strOut k with
      seq := ((s.strOut k).seq + 1) % 65536
      buf0 := (s.strOut k).buf0 + ptimeGrid (s.strOut k).ptime
      buf := (s.strOut k).buf.drop (ptimeSamples (s.strOut k).rate (s.strOut k).ptime) } := mget_mput_self ..
  refine ⟨rfl, congrArg StrOut.seq hstr, congrArg StrOut.buf0 hstr, ?_, rfl⟩
  have haddr : F.NET_STAT_LPI.reg.at_ 0 0 ≠ R.STRM_OUT_PKTS.at_ k 0 := by
    simp only [Reg.at_, F.NET_STAT_LPI, R.STRM_OUT_PKTS, R.NET_STAT]
    omega
  exact (Mach.rd_sf_ne _ _ haddr).trans (Mach.rd_bump_self (s.packetTaken k) R.STRM_OUT_PKTS k 1)

/-- With duplication, a free port 0 sends its packet and a paused port 1 queues its own. -/
theorem mediaPacketLaunch_both {s : Mach} {k : Nat} (hk : k < 256) (hen : (s.strOut k).en = true)
    (hbuf : ptimeSamples (s.strOut k).rate (s.strOut k).ptime ≤ (s.strOut k).buf.length) (hdup : s.on F.TIME_REDUND_DUP_EGRESS = true)
    (hlink : s.linkUp 0 = true) (hlink1 : s.linkUp 1 = true) (hrun : s.on F.NET_STAT_PAUSED 0 = false) (hrun1 : s.on F.NET_STAT_PAUSED 1 = true)
    (hfree : s.net0.inflight = none) (hq : s.net0.mediaQ = []) (hptp : s.ptpWait 0 = 0) :
    (mediaPacketLaunch k s).net0 = { s.net0 with inflight := some ⟨1, 0, 0, false, 0, rtpOf (s.strOut k), k, none, 0⟩ }
      ∧ (mediaPacketLaunch k s).net1
        = { s.net1 with mediaQ := s.net1.mediaQ ++ [⟨k, launchAt (s.strOut k).buf0 (s.strOut k).ptime, rtpOf (s.strOut k)⟩] } := by
  have hon : ∀ g : Fld, g.reg = R.NET_STAT → ((s.packetCounted k).sendFrame 0 ⟨1, 0, 0, false, 0, rtpOf (s.strOut k), k, none, 0⟩).on g 1 = s.on g 1 :=
    fun g hg => (Mach.on_sf_ne _ _ (by rw [hg]; decide)).trans (s.on_packetCounted hg hk)
  rw [mediaPacketLaunch_dup hen hbuf hdup hlink, Mach.packetCounted_free hk _ _ hlink hrun hfree hq hptp,
    Mach.mediaOut_paused _ _ ((hon _ rfl).trans hlink1) ((hon _ rfl).trans hrun1)]
  exact ⟨rfl, rfl⟩

/-- With the link down the packet is dropped and counted. -/
theorem mediaPacketLaunch_dropped {s : Mach} {k : Nat} (hen : (s.strOut k).en = true)
    (hbuf : ptimeSamples (s.strOut k).rate (s.strOut k).ptime ≤ (s.strOut k).buf.length) (hdup : s.on F.TIME_REDUND_DUP_EGRESS = false)
    (hlink : s.linkUp 0 = false) :
    (mediaPacketLaunch k s).net0 = s.net0 ∧ (mediaPacketLaunch k s).net1 = s.net1
      ∧ (mediaPacketLaunch k s).rd R.NET_TX_DOWN_DROP 0 = Nat.min 0xFFFFFFFF (s.rd R.NET_TX_DOWN_DROP 0 + 1)
      ∧ (mediaPacketLaunch k s).rd R.STRM_OUT_DROP k = Nat.min 0xFFFFFFFF (s.rd R.STRM_OUT_DROP k + 1)
      ∧ (mediaPacketLaunch k s).rd R.STRM_OUT_PKTS k = s.rd R.STRM_OUT_PKTS k := by
  have hport : ∀ q : Reg, q.s1 = R.STRM_OUT_DROP.s1 → 0x323000 ≤ q.base → R.NET_TX_DOWN_DROP.at_ 0 0 ≠ q.at_ k 0 := fun q hs hq => by
    simp only [Reg.at_, R.NET_TX_DOWN_DROP]
    omega
  have hstream : R.STRM_OUT_DROP.at_ k 0 ≠ R.NET_TX_DOWN_DROP.at_ 0 0 := (hport _ rfl (by decide)).symm
  rw [mediaPacketLaunch_down hen hbuf hdup hlink]
  refine ⟨rfl, rfl, ?_, ?_, ?_⟩
  · exact (Mach.rd_wr_ne _ _ hstream).trans (Mach.rd_bump_self ..)
  · refine (Mach.rd_bump_self ..).trans ?_
    rw [show ((s.packetTaken k).bump R.NET_TX_DOWN_DROP 0).rd R.STRM_OUT_DROP k = s.rd R.STRM_OUT_DROP k from
      Mach.rd_wr_ne _ _ (hport _ rfl (by decide))]
  · exact (Mach.rd_wr_inst (r := R.STRM_OUT_DROP) (q := R.STRM_OUT_PKTS) _ _ _ rfl (by decide)).trans (Mach.rd_wr_ne _ _ (hport _ rfl (by decide)))

/-- Settles O35: the next frame goes by class, each completed or launched frame ends as its row says, and media packets are sent, queued or dropped. -/
theorem transmittedFrames : Obligations.TransmittedFrames := by
  refine ⟨fun s p hp h hb => ?_, fun s p q r hp h hlink hrun hfree hptp hq hlate => ?_, fun s p i a k r hp h hlink hrun hfree hptp hq hctrl hudp hlaunch => ?_,
    fun s p i d r hp h hlink hrun hfree hptp hq hrep hfw hlaunch => ?_, fun s p f => s.sendFrame_spec p f,
    fun s p t u hp h hfree => take_gives h (decide_eq_true hp) (netTxFrameDone_idle t u hfree), fun s p t u f hp h hf hc hl => ?_,
    fun s p t f n hp h hf hc hl hn => ?_,
    fun s p t f hp h hf hc hts _ hl => take_gives h (decide_eq_true hp) (netTxFrameDone_host t hf hc hts hl), fun s p t n x _ _ => s.head_endFrame p t n x,
    fun s p t ds l hp ht h hlink hhead hl hnow => take_gives h (by simp [hp, ht]) (launchTimeReached_down hp ht hlink hhead hl hnow),
    fun s p t hp ht h hlink hb => take_gives h (by simp [hp, ht]) (launchTimeReached_blocked hp ht hlink hb),
    fun s p t hp ht h hlink hrun hfree hptp hmed hrep hfw hskip =>
      take_gives h (by simp [hp, ht]) (launchTimeReached_first hp ht hlink hrun hfree hptp hmed hrep hfw hskip),
    fun s p t l ds hhead hgood hl => Mach.hostStart_launch hhead hgood hl,
    fun s k hk h hen hbuf hdup hlink hrun hfree hq hptp =>
      ⟨_, take_gives h (decide_eq_true hk) rfl, mediaPacketLaunch_sent hk hen hbuf hdup hlink hrun hfree hq hptp⟩,
    fun s k hk h hen hbuf hdup hlink hlink1 hrun hrun1 hfree hq hptp =>
      ⟨_, take_gives h (decide_eq_true hk) rfl, mediaPacketLaunch_both hk hen hbuf hdup hlink hlink1 hrun hrun1 hfree hq hptp⟩,
    fun s k hk h hen hbuf hdup hlink => ⟨_, take_gives h (decide_eq_true hk) rfl, mediaPacketLaunch_dropped hen hbuf hdup hlink⟩,
    fun s k hk h hidle => take_gives h (decide_eq_true hk) (mediaPacketLaunch_idle hidle), fun s p hp h => ?_,
    fun s p hp h hlink hrun hfree hq hptp => ?_⟩
  · refine take_gives h (decide_eq_true hp) ?_
    rw [netTxFrameStart, if_pos]
    simpa [or_assoc] using Or.inr hb
  · exact take_gives h (decide_eq_true hp) ((netTxFrameStart_of_free hp hlink hrun hfree hlate).trans (Mach.nextFrame_media hptp hq))
  · refine take_gives h (decide_eq_true hp) ((netTxFrameStart_of_free hp hlink hrun hfree (by simp [hq])).trans (Mach.nextFrame_reply hptp hq ?_ hlaunch))
    rw [Mach.repliesOf, if_pos hctrl, hudp]
  · exact take_gives h (decide_eq_true hp) ((netTxFrameStart_of_free hp hlink hrun hfree (by simp [hq])).trans (Mach.nextFrame_firmware hptp hq hrep hfw hlaunch))
  · refine take_gives h (decide_eq_true hp) ((netTxFrameDone_of_class t u hf hc).trans ?_)
    rw [show (s.m.macLooped p && !u) = false by rcases hl with hl | rfl <;> simp [*]]
    rfl
  · subst hn
    refine take_gives h (decide_eq_true hp) ((netTxFrameDone_of_class t false hf hc).trans ?_)
    rw [hl]
    rfl
  · obtain ⟨hnet, hlimit⟩ := mediaLateDrop_keeps s.m p
    refine ⟨_, take_gives h (decide_eq_true hp) rfl, fun x => ?_, hlimit.symm⟩
    rw [hnet]
    simp
  · exact take_gives h (decide_eq_true hp) ((netTxFrameStart_of_free hp hlink hrun hfree (by simp [hq])).trans (Mach.nextFrame_ptp hptp))

end Sys2Proof.Machine
end

section
/-! PROOF. What the end of a command touches, and the refutation of O36.

A media packet in the queue of a port names its stream by a number that no state bounds, and STRM.OUT_DROP of stream 3712 is the word of
NET.EVT of port 1: a link that goes down counts its dropped packets there and clears the event it has just set. -/
namespace Sys2Proof.Machine

/-! ## Closing a session -/

/-- What dispatch and the close of a session may touch: a group's registers have no bound, its number being a thread's. -/
def dispatchTouch : Footprint := ⟨[.cmd, .sch], [(0xB00000, none)]⟩

theorem Mach.runOn_onlyIn (s : Mach) (t k : Nat) : s.onlyIn dispatchTouch (s.runOn t k) := by
  unfold Mach.runOn
  extract_lets th placed counted
  have hplaced : s.onlyIn dispatchTouch placed := (Mach.onlyIn_onSch _ (by decide)).2 (s.onlyIn_refl _)
  have hcounted : s.onlyIn dispatchTouch counted := by
    simp only [counted]
    split
    · exact (Mach.onlyIn_wr_open _ _ _ _ (by decide)).2 hplaced
    · exact hplaced
  split
  · split
    · exact hcounted
    · extract_lets w started late
      have hstarted : s.onlyIn dispatchTouch started := (Mach.onlyIn_onCmd _ (by decide)).2 hcounted
      have hlate : s.onlyIn dispatchTouch late := by
        simp only [late]
        split
        · exact (Mach.onlyIn_evt _ _ (by decide) (by decide) (by decide)).2 ((Mach.onlyIn_bump _ _ _ (by decide) (by decide) (by decide)).2 hstarted)
        · exact hstarted
      exact (Mach.onlyIn_wr_open _ _ _ _ (by decide)).2 hlate
  · exact hcounted

theorem dispatchGo_onlyIn (n : Nat) (s : Mach) : s.onlyIn dispatchTouch (dispatchGo n s) := by
  induction n generalizing s with
  | zero => exact s.onlyIn_refl _
  | succ n ih =>
    unfold dispatchGo
    split
    · exact s.onlyIn_refl _
    · rename_i t _
      split
      · exact Mach.onlyIn_trans (s.runOn_onlyIn t _) (ih _)
      · extract_lets low
        clear_value low
        rcases low with _ | ⟨l, k⟩
        · exact s.onlyIn_refl _
        · dsimp -zeta only
          split
          · split
            · extract_lets placed
              have hplaced : s.onlyIn dispatchTouch placed :=
                (Mach.onlyIn_onSch _ (by decide)).2 ((Mach.onlyIn_bump _ _ _ (by decide) (by decide) (by decide)).2 (s.onlyIn_refl _))
              exact Mach.onlyIn_trans hplaced (Mach.onlyIn_trans (placed.runOn_onlyIn t _) (ih _))
            · exact s.onlyIn_refl _
          · exact s.onlyIn_refl _

theorem Mach.cmdLevel_onlyIn (s : Mach) (u : Bool) : s.onlyIn dispatchTouch (s.cmdLevel u).2 := by
  unfold Mach.cmdLevel
  split
  · exact s.onlyIn_refl _
  · extract_lets w used
    split
    · exact s.onlyIn_refl _
    · simp (disch := decide)

theorem handGo_onlyIn (n : Nat) (s : Mach) : s.onlyIn dispatchTouch (handGo n s) := by
  induction n generalizing s with
  | zero => exact s.onlyIn_refl _
  | succ n ih =>
    unfold handGo
    extract_lets cand cands best
    split
    · rename_i c t _ _
      have hlevel := s.cmdLevel_onlyIn c.o.urgent
      generalize s.cmdLevel c.o.urgent = r at hlevel ⊢
      exact Mach.onlyIn_trans ((Mach.onlyIn_onSch _ (by decide)).2 ((Mach.onlyIn_onCmd _ (by decide)).2 hlevel)) (ih _)
    · exact s.onlyIn_refl _

theorem Mach.handover_onlyIn (s : Mach) : s.onlyIn dispatchTouch s.handover := by
  unfold Mach.handover
  extract_lets handed told
  have htold : handed.onlyIn dispatchTouch told := by simp (disch := decide) [told]
  exact Mach.onlyIn_trans (handGo_onlyIn ..) (Mach.onlyIn_trans htold (dispatchGo_onlyIn 16 told))

theorem Mach.discard_onlyIn (s : Mach) (p : InCmd → Bool) : s.onlyIn dispatchTouch (s.discard p none) := by
  unfold Mach.discard
  extract_lets gone freed taken
  have hfreed : s.onlyIn dispatchTouch freed := (Mach.onlyIn_each _ _ fun u c _ => by simp (disch := decide) [Mach.freeThr]).2 (s.onlyIn_refl _)
  exact Mach.onlyIn_trans ((Mach.onlyIn_onCmd _ (by decide)).2 hfreed) taken.handover_onlyIn

theorem Mach.closeSess_onlyIn (s : Mach) (n : Nat) : s.onlyIn dispatchTouch (s.closeSess n) := by
  unfold Mach.closeSess
  split
  · exact s.onlyIn_refl _
  · extract_lets keep t
    have ht : s.onlyIn dispatchTouch t := s.discard_onlyIn _
    clear_value t
    exact (Mach.onlyIn_onCmd _ (by decide)).2 ht

theorem Mach.closeDone_onlyIn (s : Mach) : s.onlyIn dispatchTouch s.closeDone :=
  (Mach.onlyIn_each _ _ fun u e _ => Mach.onlyIn_trans ((Mach.onlyIn_onCmd _ (by decide)).2 (u.onlyIn_refl _)) (Mach.closeSess_onlyIn _ _)).2
    (s.onlyIn_refl _)

/-! ## Before the closes -/

/-- What loads that begin or end may touch. -/
def loadTouch : Footprint := ⟨[.cmd, .rend], []⟩

theorem Mach.loadsRun_onlyIn (s : Mach) : s.onlyIn loadTouch s.loadsRun ∧ s.loadsRun.cmd.pool = s.cmd.pool := by
  unfold Mach.loadsRun
  extract_lets t
  have ht : s.onlyIn loadTouch t ∧ t.cmd.pool = s.cmd.pool := by
    refine Mach.each_keeps (fun u => s.onlyIn loadTouch u ∧ u.cmd.pool = s.cmd.pool) _ (fun u e h => ?_) _ _ ⟨s.onlyIn_refl _, rfl⟩
    exact ⟨(Mach.onlyIn_onCmd _ (by decide)).2 ((Mach.onlyIn_onRend _ (by decide)).2 h.1), h.2⟩
  refine Mach.each_keeps (fun u => s.onlyIn loadTouch u ∧ u.cmd.pool = s.cmd.pool) _ (fun u c h => ?_) _ _ ht
  split
  · exact ⟨(Mach.onlyIn_onCmd _ (by decide)).2 ((Mach.onlyIn_onRend _ (by decide)).2 h.1), h.2⟩
  · exact h

theorem Mach.convWatch_onlyIn (s : Mach) : s.onlyIn rendTouch s.convWatch := by
  unfold Mach.convWatch
  extract_lets up hit
  refine (Mach.onlyIn_when _ _ (Mach.onlyIn_evt _ _ (by decide) (by decide) (by decide))).2 ?_
  exact (Mach.onlyIn_each _ _ fun u e _ => (Mach.onlyIn_onRend _ (by decide)).2 (u.onlyIn_refl _)).2 (s.onlyIn_refl _)

theorem Mach.lockWatch_onlyIn (s : Mach) : s.onlyIn rendTouch s.lockWatch := Mach.onlyIn_trans (s.asrcDrop_onlyIn _) (Mach.convWatch_onlyIn _)

/-! ## Replies and the power move -/

/-- The reply at the end of a power move, and the move itself. -/
def moveTouch : Footprint := ⟨[.cmd, .free, .sys], [(0x224, some 0x228)]⟩

/-- `t` has the pool of `s`, and only what a power move touches is other. -/
def Mach.moved (s t : Mach) : Prop := s.onlyIn moveTouch t ∧ t.cmd.pool = s.cmd.pool ∧ t.sys.railsOff = s.sys.railsOff

theorem Mach.moved_refl (s : Mach) : s.moved s := ⟨s.onlyIn_refl _, rfl, rfl⟩

theorem Mach.moved_trans {s t u : Mach} (h : s.moved t) (h' : t.moved u) : s.moved u := by
  obtain ⟨hin, hpool, hrails⟩ := h
  obtain ⟨hin', hpool', hrails'⟩ := h'
  exact ⟨Mach.onlyIn_trans hin hin', hpool'.trans hpool, hrails'.trans hrails⟩

theorem Mach.moved_onCmd (s : Mach) (f : CmdSt → CmdSt) (h : (f s.cmd).pool = s.cmd.pool) : s.moved (s.onCmd f) :=
  ⟨(Mach.onlyIn_onCmd _ (by decide)).2 (s.onlyIn_refl _), h, rfl⟩

theorem Mach.moved_each {α : Type} {s t : Mach} (l : List α) {f : Mach → α → Mach} (hf : ∀ (u : Mach) a, u.moved (f u a)) (h : s.moved t) :
    s.moved (t.each l f) := Mach.each_keeps (fun u => s.moved u) f (fun u a h => Mach.moved_trans h (hf u a)) l t h

theorem Mach.moved_pushReply (s : Mach) (x : Xport) (p : List Byte) : s.moved (s.pushReply x p) := by
  cases x with
  | pcie q => exact s.moved_onCmd _ (by split <;> rfl)
  | spi => exact s.moved_onCmd _ (by split <;> rfl)
  | udp ip port => exact s.moved_onCmd _ rfl

theorem moved_flushGo (l kept : List Rel) (s : Mach) : s.moved (flushGo l kept s).2 := by
  induction l generalizing kept s with
  | nil => exact s.moved_refl
  | cons r l ih =>
    unfold flushGo
    extract_lets blocked
    split
    · extract_lets t
      have ht : s.moved t := Mach.moved_each _ (fun u _ => Mach.moved_each _ (fun v p => v.moved_pushReply r.o.xport p) u.moved_refl) s.moved_refl
      exact Mach.moved_trans (Mach.moved_trans ht (t.moved_onCmd _ rfl)) (ih ..)
    · exact ih ..

theorem Mach.moved_answer (s : Mach) (id st det tick : Nat) (data : List Byte) : s.moved (s.answer id st det tick data) := by
  unfold Mach.answer Mach.flush
  exact Mach.moved_trans (Mach.moved_trans (s.moved_onCmd _ rfl) (moved_flushGo _ _ _)) (Mach.moved_onCmd _ _ rfl)

/-- The reply of a power move at its end. -/
theorem Mach.moved_reply (s : Mach) (id : Nat) : s.moved (s.tickNow.2.answer id ST.OK 0 s.tickNow.1 []) := by
  have htick : s.moved s.tickNow.2 := by
    unfold Mach.tickNow
    split
    · exact s.moved_refl
    · exact ⟨(Mach.onlyIn_free _ (by decide)).2 (s.onlyIn_refl _), rfl, rfl⟩
  exact Mach.moved_trans htick (Mach.moved_answer ..)

theorem Mach.moved_onSys (s : Mach) (f : SysSt → SysSt) (h : (f s.sys).railsOff = s.sys.railsOff) : s.moved (s.onSys f) :=
  ⟨(Mach.onlyIn_onSys _ (by decide)).2 (s.onlyIn_refl _), rfl, h⟩

/-- A power move ends with the rails gone, or touches little. -/
theorem Mach.powerCheck_rails (s : Mach) : s.powerCheck.sys.railsOff = true ∨ s.moved s.powerCheck := by
  unfold Mach.powerCheck
  split
  · exact .inr s.moved_refl
  · rename_i v _
    split
    · exact .inr s.moved_refl
    · extract_lets id say ended
      have hsay : ∀ u : Mach, u.moved (say u) := fun u => u.moved_reply id
      have hended : s.moved ended := Mach.moved_trans (hsay s) ((say s).moved_onSys _ rfl)
      split
      · split
        · have hidle : s.moved ((s.onSys fun y => { y with move := none }).sf F.SYS_PWR_STAT_BUSY 0) :=
            Mach.moved_trans (s.moved_onSys _ rfl)
              ⟨(Mach.onlyIn_sf _ _ _ _ (by decide) (by decide) (by decide)).2 (Mach.onlyIn_refl _ _), rfl, rfl⟩
          exact .inr (Mach.moved_trans hidle (hsay _))
        · exact .inr s.moved_refl
      · split
        · split
          · exact .inl rfl
          · exact .inr hended
        · split
          · exact .inl rfl
          · exact .inr s.moved_refl

/-! ## The end of a command -/

/-- What a command's end leaves of a machine whose rails stand: the power move's, then the closes', then the interrupts'. -/
theorem Mach.powerCheck_moved {s : Mach} (h : s.fin.sys.railsOff = false) :
    s.loadsRun.lockWatch.moved s.loadsRun.lockWatch.powerCheck := by
  obtain hoff | hmoved := Mach.powerCheck_rails s.loadsRun.lockWatch
  · have hclosed : s.loadsRun.lockWatch.powerCheck.closeDone.sys = s.loadsRun.lockWatch.powerCheck.sys := (Mach.closeDone_onlyIn _).1 .sys (by decide)
    obtain ⟨-, -, -, -, -, -, -, -, -, -, hsettled, -⟩ := s.loadsRun.lockWatch.powerCheck.closeDone.settle_frame
    exact absurd (h.symm.trans ((congrArg SysSt.railsOff (hsettled.trans hclosed)).trans hoff)) (by decide)
  · exact hmoved

/-- What ends a command leaves the events of port 1, unless it takes the rails away. -/
theorem Mach.fin_netEvt {s : Mach} (h : s.fin.sys.railsOff = false) : s.fin.rd R.NET_EVT 1 = s.rd R.NET_EVT 1 := by
  obtain ⟨hmoved, -, -⟩ := Mach.powerCheck_moved h
  obtain ⟨-, -, -, -, -, -, -, -, -, -, -, -, -, -, -, -, -, -, -, -, hsettled, -⟩ := s.loadsRun.lockWatch.powerCheck.closeDone.settle_frame
  calc s.fin.rd R.NET_EVT 1 = s.loadsRun.lockWatch.powerCheck.closeDone.rd R.NET_EVT 1 := hsettled R.NET_EVT 1 0 (by decide)
    _ = s.loadsRun.lockWatch.powerCheck.rd R.NET_EVT 1 := Mach.onlyIn_rd (Mach.closeDone_onlyIn _) _ _ _ (by decide)
    _ = s.loadsRun.lockWatch.rd R.NET_EVT 1 := Mach.onlyIn_rd hmoved _ _ _ (by decide)
    _ = s.loadsRun.rd R.NET_EVT 1 := Mach.onlyIn_rd (Mach.lockWatch_onlyIn _) _ _ _ (by decide)
    _ = s.rd R.NET_EVT 1 := Mach.onlyIn_rd s.loadsRun_onlyIn.1 _ _ _ (by decide)

/-- Without a power move the rails stand. -/
theorem Mach.fin_railsOff {s : Mach} (h : s.sys.move = none) : s.fin.sys.railsOff = s.sys.railsOff := by
  have hsys : s.loadsRun.lockWatch.sys = s.sys := ((Mach.lockWatch_onlyIn _).1 .sys (by decide)).trans (s.loadsRun_onlyIn.1.1 .sys (by decide))
  have hclosed : s.loadsRun.lockWatch.closeDone.sys = s.loadsRun.lockWatch.sys := (Mach.closeDone_onlyIn _).1 .sys (by decide)
  obtain ⟨-, -, -, -, -, -, -, -, -, -, hsettled, -⟩ := s.loadsRun.lockWatch.closeDone.settle_frame
  rw [Mach.fin, powerCheck_idle _ (hsys ▸ h)]
  exact congrArg SysSt.railsOff (hsettled.trans (hclosed.trans hsys))

/-! ## The refutation -/

/-- Port 1's link is up, its LINK_UP event is set, and a packet of stream 3712 waits. -/
def strayPacket : Mach :=
  { (Mach.reset.sf F.NET_STAT_LINK 1 1).wr R.NET_EVT 1 1 with net1 := { Mach.reset.net1 with mediaQ := [⟨3712, 0, []⟩] } }

theorem strayPacket_linkUp : strayPacket.linkUp 1 = true ∧ strayPacket.sys.railsOff = false := by decide +kernel

/-- The dropped packet is counted in NET.EVT, whose LINK_DOWN bit the count has cleared. -/
theorem strayPacket_down : (netLinkDown 1 false strayPacket).rd R.NET_EVT 1 = 4 ∧ (netLinkDown 1 false strayPacket).sys.move = none
    ∧ (netLinkDown 1 false strayPacket).sys.railsOff = false := by decide +kernel

/-- Refutes O36: a packet of stream 3712 in the queue of port 1 is counted as dropped in the word of port 1's events, so that the link that
goes down shows no LINK_DOWN. -/
theorem not_linksAndRings : ¬ Obligations.LinksAndRings := by
  rintro ⟨-, -, -, hdown, -⟩
  obtain ⟨hlink, hlive⟩ := strayPacket_linkUp
  obtain ⟨hevt, hmove, hrails⟩ := strayPacket_down
  obtain ⟨m, hm, -, hset, -⟩ := hdown { m := strayPacket, pending := [] } 1 false (by decide) hlive hlink
  have hrow : exec (.netLinkDown 1 false) { m := strayPacket, pending := [] } = .next (State.gives { m := strayPacket, pending := [] }
      (netLinkDown 1 false strayPacket)) := take_gives (s := { m := strayPacket, pending := [] }) hlive (by decide) rfl
  have hfin : (netLinkDown 1 false strayPacket).fin = m.fin := by
    have := hrow.symm.trans hm
    injection this with this
    exact congrArg State.m this
  have hrailsFin : (netLinkDown 1 false strayPacket).fin.sys.railsOff = false := (Mach.fin_railsOff hmove).trans hrails
  have hword : m.rd R.NET_EVT 1 = 4 := by
    rw [← Mach.fin_netEvt (hfin ▸ hrailsFin), ← hfin, Mach.fin_netEvt hrailsFin, hevt]
  have hclear : m.on F.NET_EVT_LINK_DOWN 1 = false := by
    rw [Mach.on, Mach.gf, show F.NET_EVT_LINK_DOWN.reg = R.NET_EVT from rfl, hword]
    decide
  exact absurd (hset.symm.trans hclear) (by decide)

end Sys2Proof.Machine
end

section
/-! PROOF. The scheduler's part in the refutation of O27: what the closes at the end of a command can still do.

The state of the refutation has one core, busy with thread 33 of group 0x8000, whose latency word is CMD.QP0_CTRL, and thread 32 of group 1
ready at the same level. Dispatch prefers group 1, so thread 33 ran before thread 32 was ready: thread 32 was given to its urgent command
later, and SCHED.URG_DEMOTE counted that. Where the count must not move, nothing was dispatched and EN of the queue pair was not written. -/
namespace Sys2Proof.Machine

/-! ## Sparse tables -/

theorem mem_of_mem_mput {α : Type} {m : SMap α} {k : Nat} {v : α} {e : Nat × α} (h : e ∈ mput m k v) : e = (k, v) ∨ e ∈ m := by
  induction m with
  | nil => exact .inl (List.mem_singleton.1 h)
  | cons a r ih =>
    obtain ⟨j, w⟩ := a
    rw [mput] at h
    split at h
    · exact List.mem_cons.1 h
    · split at h
      · exact (List.mem_cons.1 h).imp_right (List.mem_cons_of_mem _)
      · obtain rfl | h := List.mem_cons.1 h
        · exact .inr List.mem_cons_self
        · exact (ih h).imp_right (List.mem_cons_of_mem _)

theorem mput_ne_nil {α : Type} (m : SMap α) (k : Nat) (v : α) : mput m k v ≠ [] := by
  cases m with
  | nil => exact List.cons_ne_nil _ _
  | cons a r =>
    rw [mput]
    split
    · exact List.cons_ne_nil _ _
    · split <;> exact List.cons_ne_nil _ _

theorem not_mem_of_mfind_none {α : Type} {m : SMap α} {k : Nat} (h : mfind m k = none) (v : α) : (k, v) ∉ m := by
  induction m with
  | nil => exact List.not_mem_nil
  | cons a r ih =>
    obtain ⟨j, w⟩ := a
    rw [mfind] at h
    split at h
    · cases h
    · rename_i hj
      rintro (_ | ⟨_, hr⟩)
      · exact hj rfl
      · exact ih h hr

/-! ## Choices -/

/-- What a choice along a list chooses is in the list. -/
theorem mem_of_foldl_choice {α : Type} {f : Option α → α → Option α} (hf : ∀ b a, f b a = b ∨ f b a = some a) (l : List α) {b : Option α} {x : α}
    (h : l.foldl f b = some x) : b = some x ∨ x ∈ l := by
  induction l generalizing b with
  | nil => exact .inl h
  | cons a l ih =>
    obtain hb | hx := ih h
    · obtain he | he := hf b a
      · exact .inl (he ▸ hb)
      · rw [he] at hb
        cases hb
        exact .inr List.mem_cons_self
    · exact .inr (List.mem_cons_of_mem _ hx)

theorem SchedSt.v_of_nil {c : SchedSt} (h : c.vt = []) (g : Nat) : c.v g = 0 := by
  rw [SchedSt.v, h]
  rfl

/-- A fold that keeps the smaller number ends at one below all. -/
theorem foldl_least {f : Option (Rat × Nat) → Nat → Option (Rat × Nat)} {g : Nat → Nat} (hf : ∀ k t, f (some (0, k)) t = some (0, min k (g t)))
    (l : List Nat) (k : Nat) : ∃ x, l.foldl f (some (0, k)) = some (0, x) ∧ x ≤ k ∧ ∀ t ∈ l, x ≤ g t := by
  induction l generalizing k with
  | nil => exact ⟨k, rfl, Nat.le_refl k, fun t ht => absurd ht List.not_mem_nil⟩
  | cons a l ih =>
    obtain ⟨x, hx, hle, hall⟩ := ih (min k (g a))
    refine ⟨x, by rw [List.foldl_cons, hf, hx], by omega, fun t ht => ?_⟩
    obtain rfl | ht := List.mem_cons.1 ht
    · omega
    · exact hall t ht

/-- With no virtual time listed, the group chosen is the smallest. -/
theorem SchedSt.minV_le {c : SchedSt} (hvt : c.vt = []) {p g : Nat} {x : Rat} (h : c.minV p = some (x, g)) {t : Nat} (ht : t ∈ c.ready)
    (hlevel : (c.thread t).level = p) : g ≤ (c.thread t).group := by
  have hv := c.v_of_nil hvt
  have hmem : t ∈ c.ready.filter (fun t => (c.thread t).level == p) := List.mem_filter.2 ⟨ht, by simpa using hlevel⟩
  unfold SchedSt.minV at h
  generalize c.ready.filter (fun t => (c.thread t).level == p) = l at h hmem
  rcases l with _ | ⟨a, l⟩
  · cases hmem
  · simp only [hv, List.foldl_cons] at h
    obtain ⟨y, hy, hle, hall⟩ := foldl_least (g := fun t => (c.thread t).group) (f := fun (b : Option (Rat × Nat)) t =>
        match b with
        | none => some (0, (c.thread t).group)
        | some (v, h) => if (decide (0 < v) || 0 == v && decide ((c.thread t).group < h)) = true then some (0, (c.thread t).group) else b)
      (fun k t => by
        simp only [lt_irrefl, decide_false, Bool.false_or, beq_self_eq_true, Bool.true_and, decide_eq_true_eq]
        split
        · rw [Nat.min_eq_right (by omega)]
        · rw [Nat.min_eq_left (by omega)]) l (c.thread a).group
    obtain ⟨-, rfl⟩ := Prod.mk.inj (Option.some.inj (h.symm.trans hy))
    obtain rfl | hm := List.mem_cons.1 hmem
    · exact hle
    · exact hall t hm

/-- The level of the thread that dispatch chooses is the highest among the ready. -/
theorem SchedSt.pick_spec {c : SchedSt} {t : Nat} (h : c.pick = some t) :
    t ∈ c.ready ∧ (∀ u ∈ c.ready, (c.thread u).level ≤ (c.thread t).level)
      ∧ (isCmdLevel (c.thread t).level = true → ∃ x, c.minV (c.thread t).level = some (x, (c.thread t).group)) := by
  unfold SchedSt.pick at h
  extract_lets p at_ at h
  have hmax : ∀ u ∈ c.ready, (c.thread u).level ≤ p := by
    have hfold : ∀ (l : List Nat) (a : Nat), a ≤ l.foldl (fun a t => Nat.max a (c.thread t).level) a
        ∧ ∀ u ∈ l, (c.thread u).level ≤ l.foldl (fun a t => Nat.max a (c.thread t).level) a := by
      intro l
      induction l with
      | nil => exact fun a => ⟨Nat.le_refl _, fun u hu => absurd hu List.not_mem_nil⟩
      | cons b l ih =>
        intro a
        obtain ⟨hle, hall⟩ := ih (Nat.max a (c.thread b).level)
        refine ⟨(Nat.le_max_left ..).trans hle, fun u hu => ?_⟩
        obtain rfl | hu := List.mem_cons.1 hu
        · exact (Nat.le_max_right ..).trans hle
        · exact hall u hu
    exact (hfold c.ready 0).2
  have hat : ∀ u ∈ at_, u ∈ c.ready ∧ (c.thread u).level = p := fun u hu => by simpa [at_] using hu
  split at h
  · split at h
    · rename_i x g hmin
      have hg : (c.thread t).group = g := by simpa using List.find?_some h
      obtain ⟨ht, hp⟩ := hat t (List.mem_of_find?_eq_some h)
      exact ⟨ht, fun u hu => hp ▸ hmax u hu, fun _ => ⟨x, by rw [hp, hmin, hg]⟩⟩
    · cases h
  · rename_i hcmd
    obtain ⟨ht, hp⟩ := hat t (List.mem_of_mem_head? h)
    exact ⟨ht, fun u hu => hp ▸ hmax u hu, fun hc => absurd (hp ▸ hc) hcmd⟩

/-! ## What can no longer come about -/

/-- What dispatch compares of a thread. -/
def SchedSt.rank (c : SchedSt) (t : Nat) : Nat × Nat := ((c.thread t).level, (c.thread t).group)

/-- Thread `t` was given to a command that is not urgent, and none of that number is still to start. -/
def heldPlain (t : Nat) (l : List InCmd) : Prop :=
  ∃ c ∈ l, c.phase = 1 ∧ c.thread = t ∧ c.o.urgent = false ∧ ∀ d ∈ l, d.o.id = c.o.id → d.phase ≠ 0

/-- Thread 33 on core 0 and thread 32 ready, both for urgent commands, are out of reach without an urgent hand-over. -/
def missed (c : SchedSt) (l : List InCmd) : Prop :=
  c.vt ≠ [] ∨ 32 ∉ c.ready ∨ c.rank 32 ≠ (16, 1) ∨ (0, 33) ∉ c.cores ∨ c.rank 33 ≠ (16, 0x8000) ∨ heldPlain 32 l ∨ heldPlain 33 l

/-- While thread 32 is ready, thread 33 is not chosen. -/
theorem SchedSt.pick_ne {c : SchedSt} (hvt : c.vt = []) (hready : 32 ∈ c.ready) (h32 : c.rank 32 = (16, 1)) (h33 : c.rank 33 = (16, 0x8000)) :
    c.pick ≠ some 33 := by
  intro h
  obtain ⟨-, -, hmin⟩ := SchedSt.pick_spec h
  obtain ⟨hl32, hg32⟩ := Prod.mk.inj h32
  obtain ⟨hl33, hg33⟩ := Prod.mk.inj h33
  rw [hl33, hg33] at hmin
  obtain ⟨x, hx⟩ := hmin rfl
  have := SchedSt.minV_le hvt hx hready hl32
  omega

/-- The scheduler after thread `t` has been put on core `k`. -/
def SchedSt.placed (c : SchedSt) (t k : Nat) : SchedSt :=
  { c with threads := mput c.threads t { c.thread t with state := 2, core := k }, ready := c.ready.filter (fun u => u != t), cores := mput c.cores k t }

theorem SchedSt.rank_mput (c : SchedSt) (t : Nat) (th : Thread) (u : Nat) (hl : th.level = (c.thread t).level) (hg : th.group = (c.thread t).group) :
    SchedSt.rank { c with threads := mput c.threads t th } u = c.rank u := by
  unfold SchedSt.rank SchedSt.thread
  dsimp only
  by_cases hu : t = u
  · subst hu
    rw [mget_mput_self, hl, hg]
    rfl
  · rw [mget_mput_ne _ _ _ hu]

/-- Whatever dispatch puts on the idle core 0. -/
theorem missed_placed {c : SchedSt} {t : Nat} (hpick : c.pick = some t) (hidle : mfind c.cores 0 = none) (l : List InCmd) : missed (c.placed t 0) l := by
  have hrank : ∀ u, (c.placed t 0).rank u = c.rank u := fun u => c.rank_mput t _ u rfl rfl
  by_cases ht : t = 33
  · subst ht
    by_cases hvt : c.vt = []
    · by_cases hready : 32 ∈ c.ready
      · by_cases h32 : c.rank 32 = (16, 1)
        · by_cases h33 : c.rank 33 = (16, 0x8000)
          · exact absurd hpick (SchedSt.pick_ne hvt hready h32 h33)
          · exact .inr (.inr (.inr (.inr (.inl (hrank 33 ▸ h33)))))
        · exact .inr (.inr (.inl (hrank 32 ▸ h32)))
      · exact .inr (.inl fun h => hready (List.mem_filter.1 h).1)
    · exact .inl hvt
  · refine .inr (.inr (.inr (.inl fun h => ?_)))
    obtain h | h := mem_of_mem_mput h
    · exact ht (Prod.mk.inj h).2.symm
    · exact not_mem_of_mfind_none hidle _ h

/-- A command that is not urgent gets a thread. -/
def handed (l : List InCmd) (id t lev : Nat) : List InCmd :=
  l.map (fun e => if e.o.id == id then { e with phase := 1, thread := t, level := lev } else e)

theorem heldPlain_handed {l : List InCmd} {c : InCmd} (hc : c ∈ l) (hphase : c.phase = 0) (t lev : Nat) {u : Nat} (h : heldPlain u l) :
    heldPlain u (handed l c.o.id t lev) := by
  obtain ⟨d, hd, hd1, hdt, hdu, hids⟩ := h
  have hne : d.o.id ≠ c.o.id := fun he => hids c hc he.symm hphase
  refine ⟨d, List.mem_map.2 ⟨d, hd, if_neg (by simpa using hne)⟩, hd1, hdt, hdu, fun e he hid => ?_⟩
  obtain ⟨x, hx, rfl⟩ := List.mem_map.1 he
  by_cases hxc : x.o.id = c.o.id
  · rw [if_pos (by simpa using hxc)]
    exact Nat.one_ne_zero
  · rw [if_neg (by simpa using hxc)] at hid ⊢
    exact hids x hx hid

theorem heldPlain_of_handed {l : List InCmd} {c : InCmd} (hc : c ∈ l) (hplain : c.o.urgent = false) (t lev : Nat) :
    heldPlain t (handed l c.o.id t lev) := by
  refine ⟨{ c with phase := 1, thread := t, level := lev }, List.mem_map.2 ⟨c, hc, if_pos (by simp)⟩, rfl, rfl, hplain, fun e he hid => ?_⟩
  obtain ⟨x, hx, rfl⟩ := List.mem_map.1 he
  by_cases hxc : x.o.id = c.o.id
  · rw [if_pos (by simpa using hxc)]
    exact Nat.one_ne_zero
  · rw [if_neg (by simpa using hxc)] at hid
    exact absurd hid hxc

theorem SchedSt.vt_makeReady {c : SchedSt} (t : Nat) (th : Thread) (front : Bool) (h : c.vt ≠ []) : (c.makeReady t th front).vt ≠ [] := by
  unfold SchedSt.makeReady
  extract_lets had vt
  change vt ≠ []
  simp only [vt]
  split
  · split
    · exact fun he => mput_ne_nil _ _ _ he
    · exact h
  · exact h

theorem SchedSt.rank_makeReady_ne (c : SchedSt) {t u : Nat} (th : Thread) (front : Bool) (h : t ≠ u) : (c.makeReady t th front).rank u = c.rank u := by
  unfold SchedSt.rank SchedSt.thread
  rw [show (c.makeReady t th front).threads = mput c.threads t { th with state := 1, core := 7 } from rfl, mget_mput_ne _ _ _ h]

/-- A hand-over to a command that is not urgent. -/
theorem missed_handed {s : SchedSt} {l : List InCmd} {c : InCmd} (hc : c ∈ l) (hphase : c.phase = 0) (hplain : c.o.urgent = false) (t lev : Nat)
    (th : Thread) (h : missed s l) : missed (s.makeReady t th false) (handed l c.o.id t lev) := by
  have hplain32 : t = 32 → missed (s.makeReady t th false) (handed l c.o.id t lev) := fun ht =>
    .inr (.inr (.inr (.inr (.inr (.inl (ht ▸ heldPlain_of_handed hc hplain t lev))))))
  have hplain33 : t = 33 → missed (s.makeReady t th false) (handed l c.o.id t lev) := fun ht =>
    .inr (.inr (.inr (.inr (.inr (.inr (ht ▸ heldPlain_of_handed hc hplain t lev))))))
  by_cases ht32 : t = 32
  · exact hplain32 ht32
  by_cases ht33 : t = 33
  · exact hplain33 ht33
  obtain h | h | h | h | h | h | h := h
  · exact .inl (s.vt_makeReady t th false h)
  · refine .inr (.inl fun hm => ?_)
    obtain hm | hm := List.mem_append.1 hm
    · exact h hm
    · exact ht32 (List.mem_singleton.1 hm).symm
  · exact .inr (.inr (.inl (s.rank_makeReady_ne th false ht32 ▸ h)))
  · exact .inr (.inr (.inr (.inl h)))
  · exact .inr (.inr (.inr (.inr (.inl (s.rank_makeReady_ne th false ht33 ▸ h)))))
  · exact .inr (.inr (.inr (.inr (.inr (.inl (heldPlain_handed hc hphase t lev h))))))
  · exact .inr (.inr (.inr (.inr (.inr (.inr (heldPlain_handed hc hphase t lev h))))))

end Sys2Proof.Machine
end

section
/-! PROOF. What the closes at the end of a command keep of the scheduler in the refutation of O27. -/
namespace Sys2Proof.Machine

/-! ## The registers that dispatch counts in -/

/-- The budget of urgent commands is used up, with one core in service. -/
def Mach.budgetSpent (s : Mach) : Prop := s.tm.up = 108900 ∧ s.sch.win = 0 ∧ s.sch.urg = 300000 ∧ s.rd R.SCHED_STAT = 1

/-- `t` has what `s` has of the budget, and its counts are no lower. -/
structure Mach.countsOn (s t : Mach) : Prop where
  budget : t.budgetSpent ↔ s.budgetSpent
  preempt : s.rd R.SCHED_PREEMPT ≠ 0 → t.rd R.SCHED_PREEMPT ≠ 0
  demoted : s.rd R.SCHED_URG_DEMOTE ≤ t.rd R.SCHED_URG_DEMOTE

theorem Mach.countsOn_refl (s : Mach) : s.countsOn s := ⟨Iff.rfl, id, Nat.le_refl _⟩

theorem Mach.countsOn_trans {s t u : Mach} (h : s.countsOn t) (h' : t.countsOn u) : s.countsOn u :=
  ⟨h'.budget.trans h.budget, h'.preempt ∘ h.preempt, h.demoted.trans h'.demoted⟩

/-- A register that is none of the three. -/
theorem Mach.countsOn_wr (s : Mach) {r : Reg} (v i : Nat) (h : 0xB00020 < r.base ∨ r.at_ i 0 = 0xB00004 ∨ r.at_ i 0 = 0xB0001C) : s.countsOn (s.wr r v i) := by
  have hne : ∀ q : Reg, q = R.SCHED_STAT ∨ q = R.SCHED_PREEMPT ∨ q = R.SCHED_URG_DEMOTE → (s.wr r v i).rd q = s.rd q := by
    intro q hq
    refine Mach.rd_wr_ne _ _ ?_
    obtain rfl | rfl | rfl := hq <;> simp only [Reg.at_, R.SCHED_STAT, R.SCHED_PREEMPT, R.SCHED_URG_DEMOTE] at h ⊢ <;> omega
  refine ⟨?_, fun h => ?_, ?_⟩
  · rw [Mach.budgetSpent, hne _ (.inl rfl)]
    exact Iff.rfl
  · rwa [hne _ (.inr (.inl rfl))]
  · rw [hne _ (.inr (.inr rfl))]

theorem Mach.countsOn_preempt (s : Mach) : s.countsOn (s.bump R.SCHED_PREEMPT) ∧ (s.bump R.SCHED_PREEMPT).rd R.SCHED_PREEMPT ≠ 0 := by
  have hself : (s.bump R.SCHED_PREEMPT).rd R.SCHED_PREEMPT ≠ 0 := by
    rw [Mach.rd_bump_self]
    exact Nat.ne_of_gt (Nat.lt_min.2 ⟨by decide, by omega⟩)
  refine ⟨⟨?_, fun _ => hself, Nat.le_of_eq (Mach.rd_wr_ne _ _ (by decide)).symm⟩, hself⟩
  rw [Mach.budgetSpent, Mach.bump, Mach.rd_wr_ne (r := R.SCHED_PREEMPT) _ _ (by decide)]
  exact Iff.rfl

theorem Mach.coresUp_of_budgetSpent {s : Mach} (h : s.budgetSpent) : s.coresUp = [0] := by
  obtain ⟨-, -, -, hstat⟩ := h
  rw [Mach.coresUp, Mach.gf, show F.SCHED_STAT_CORES.reg = R.SCHED_STAT from rfl, hstat]
  decide

/-- An urgent command beyond the budget is counted. -/
theorem Mach.countsOn_demote (s : Mach) : s.countsOn ((s.bump R.SCHED_URG_DEMOTE).evt F.SCHED_EVT_URG_DEMOTE)
    ∧ ((s.bump R.SCHED_URG_DEMOTE).evt F.SCHED_EVT_URG_DEMOTE).rd R.SCHED_URG_DEMOTE = Nat.min 0xFFFFFFFF (s.rd R.SCHED_URG_DEMOTE + 1) := by
  have hself : ((s.bump R.SCHED_URG_DEMOTE).evt F.SCHED_EVT_URG_DEMOTE).rd R.SCHED_URG_DEMOTE = Nat.min 0xFFFFFFFF (s.rd R.SCHED_URG_DEMOTE + 1) :=
    (Mach.rd_sf_ne _ _ (by decide)).trans (Mach.rd_bump_self ..)
  have hother : ∀ q : Reg, q = R.SCHED_STAT ∨ q = R.SCHED_PREEMPT → ((s.bump R.SCHED_URG_DEMOTE).evt F.SCHED_EVT_URG_DEMOTE).rd q = s.rd q := by
    rintro q (rfl | rfl) <;> exact (Mach.rd_sf_ne _ _ (by decide)).trans (Mach.rd_wr_ne _ _ (by decide))
  have hlt := s.rd_lt R.SCHED_URG_DEMOTE 0 0
  refine ⟨⟨?_, fun h => ?_, ?_⟩, hself⟩
  · rw [Mach.budgetSpent, hother _ (.inl rfl)]
    exact Iff.rfl
  · rwa [hother _ (.inr rfl)]
  · rw [hself]
    exact Nat.le_min.2 ⟨by omega, by omega⟩

theorem Mach.countsOn_cmdLevel (s : Mach) (u : Bool) : s.countsOn (s.cmdLevel u).2 := by
  unfold Mach.cmdLevel
  split
  · exact s.countsOn_refl
  · extract_lets w used
    split
    · exact s.countsOn_refl
    · exact s.countsOn_demote.1

theorem Mach.demoted_of_urgent {s : Mach} (h : s.budgetSpent) (h2 : 2 ≤ s.rd R.SCHED_URG_DEMOTE) : 3 ≤ (s.cmdLevel true).2.rd R.SCHED_URG_DEMOTE := by
  obtain ⟨hup, hwin, hurg, -⟩ := id h
  have hlevel : s.cmdLevel true = (16, (s.bump R.SCHED_URG_DEMOTE).evt F.SCHED_EVT_URG_DEMOTE) := by
    unfold Mach.cmdLevel
    rw [hup, hwin, hurg, Mach.coresUp_of_budgetSpent h]
    rfl
  rw [hlevel, s.countsOn_demote.2]
  exact Nat.le_min.2 ⟨by decide, by omega⟩

/-! ## The invariant -/

/-- The state of the refutation is out of reach. -/
def Mach.astray (s : Mach) : Prop :=
  ¬ s.budgetSpent ∨ s.rd R.SCHED_PREEMPT ≠ 0 ∨ 3 ≤ s.rd R.SCHED_URG_DEMOTE ∨ missed s.sch s.cmd.pool

/-- EN of queue pair 0 is clear, or the state of the refutation is out of reach. -/
def Mach.guarded (s : Mach) : Prop := 2 ≤ s.rd R.SCHED_URG_DEMOTE ∧ (s.on F.CMD_QP_CTRL_EN 0 = false ∨ s.astray)

theorem Mach.guarded_of_astray {s t : Mach} (h : s.guarded) (hc : s.countsOn t) (ht : t.astray) : t.guarded := ⟨h.1.trans hc.demoted, .inr ht⟩

/-- A step that counts, leaves EN, and does not bring back what was missed. -/
theorem Mach.guarded_step {s t : Mach} (h : s.guarded) (hc : s.countsOn t) (hen : t.on F.CMD_QP_CTRL_EN 0 = s.on F.CMD_QP_CTRL_EN 0)
    (hm : missed s.sch s.cmd.pool → missed t.sch t.cmd.pool) : t.guarded := by
  obtain ⟨hu, hoff | hbudget | hpre | hdem | hmiss⟩ := id h
  · exact ⟨hu.trans hc.demoted, .inl (hen.trans hoff)⟩
  · exact Mach.guarded_of_astray h hc (.inl fun hb => hbudget (hc.budget.1 hb))
  · exact Mach.guarded_of_astray h hc (.inr (.inl (hc.preempt hpre)))
  · exact Mach.guarded_of_astray h hc (.inr (.inr (.inl (hdem.trans hc.demoted))))
  · exact Mach.guarded_of_astray h hc (.inr (.inr (.inr (hm hmiss))))

/-! ## Dispatch -/

theorem Mach.sch_runOn (s : Mach) (t k : Nat) : (s.runOn t k).sch = s.sch.placed t k := by
  unfold Mach.runOn
  extract_lets th placed counted
  have hcounted : counted.sch = s.sch.placed t k := by
    simp only [counted]
    split <;> rfl
  split
  · split
    · exact hcounted
    · extract_lets w started late
      have hlate : late.sch = s.sch.placed t k := by
        simp only [late]
        split <;> exact hcounted
      exact hlate
  · exact hcounted

theorem Mach.countsOn_runOn (s : Mach) (t k : Nat) : s.countsOn (s.runOn t k) := by
  unfold Mach.runOn
  extract_lets th placed counted
  have hplaced : s.countsOn placed := ⟨Iff.rfl, id, Nat.le_refl _⟩
  have hcounted : s.countsOn counted := by
    simp only [counted]
    split
    · exact Mach.countsOn_trans hplaced (placed.countsOn_wr _ _ (.inl (by decide)))
    · exact hplaced
  split
  · split
    · exact hcounted
    · extract_lets w started late
      have hstarted : s.countsOn started := ⟨hcounted.budget, hcounted.preempt, hcounted.demoted⟩
      have hlate : s.countsOn late := by
        simp only [late]
        split
        · exact Mach.countsOn_trans hstarted (Mach.countsOn_trans (started.countsOn_wr (r := R.SCHED_LAT_HIGH) _ 0 (.inr (.inr rfl)))
            (Mach.countsOn_wr _ (r := R.SCHED_EVT) _ 0 (.inr (.inl rfl))))
        · exact hstarted
      exact Mach.countsOn_trans hlate (late.countsOn_wr _ _ (.inl (by decide)))
  · exact hcounted

/-- A thread put on an idle core. -/
theorem Mach.astray_runOn {s : Mach} {t k : Nat} (hpick : s.sch.pick = some t)
    (hk : s.coresUp.find? (fun k => (mfind s.sch.cores k).isNone) = some k) : (s.runOn t k).astray := by
  by_cases hb : s.budgetSpent
  · have hmem := List.mem_of_find?_eq_some hk
    rw [Mach.coresUp_of_budgetSpent hb, List.mem_singleton] at hmem
    subst hmem
    have hidle : mfind s.sch.cores 0 = none := by simpa using List.find?_some hk
    exact .inr (.inr (.inr (s.sch_runOn t 0 ▸ missed_placed hpick hidle _)))
  · exact .inl fun h => hb ((s.countsOn_runOn t k).budget.1 h)

theorem dispatchGo_guarded (n : Nat) {s : Mach} (h : s.guarded) : (dispatchGo n s).guarded := by
  induction n generalizing s with
  | zero => exact h
  | succ n ih =>
    unfold dispatchGo
    split
    · exact h
    · rename_i t hpick
      split
      · rename_i k hk
        exact ih (Mach.guarded_of_astray h (s.countsOn_runOn t k) (Mach.astray_runOn hpick hk))
      · extract_lets low
        clear_value low
        rcases low with _ | ⟨l, k⟩
        · exact h
        · dsimp -zeta only
          split
          · split
            · extract_lets placed
              obtain ⟨hcount, hpre⟩ := s.countsOn_preempt
              have hplaced : s.countsOn placed := ⟨hcount.budget, hcount.preempt, hcount.demoted⟩
              have hrun := placed.countsOn_runOn t k
              exact ih (Mach.guarded_of_astray h (Mach.countsOn_trans hplaced hrun) (.inr (.inl (hrun.preempt hpre))))
            · exact h
          · exact h

/-! ## Hand-over -/

/-- A hand-over to a command of the pool that may start. -/
theorem Mach.guarded_hand {s : Mach} (h : s.guarded) {c : InCmd} (hc : c ∈ s.cmd.pool) (hphase : c.phase = 0) (t : Nat) :
    (((s.cmdLevel c.o.urgent).2.onCmd (fun d => { d with pool := d.pool.map (fun e =>
      if e.o.id == c.o.id then { e with phase := 1, thread := t, level := (s.cmdLevel c.o.urgent).1 } else e) })).onSch
      (fun q => q.makeReady t ⟨1, (s.cmdLevel c.o.urgent).1, c.group, 7⟩ false)).guarded := by
  have hcount := s.countsOn_cmdLevel c.o.urgent
  cases hu : c.o.urgent with
  | false =>
    rw [show s.cmdLevel false = (16, s) from rfl]
    exact Mach.guarded_step h ⟨Iff.rfl, id, Nat.le_refl _⟩ rfl fun hm => missed_handed hc hphase hu t 16 _ hm
  | true =>
    rw [hu] at hcount
    by_cases hb : s.budgetSpent
    · have hdem := Mach.demoted_of_urgent hb h.1
      generalize s.cmdLevel true = r at hcount hdem ⊢
      exact Mach.guarded_of_astray h ⟨hcount.budget, hcount.preempt, hcount.demoted⟩ (.inr (.inr (.inl hdem)))
    · generalize s.cmdLevel true = r at hcount ⊢
      exact Mach.guarded_of_astray h ⟨hcount.budget, hcount.preempt, hcount.demoted⟩ (.inl fun h => hb (hcount.budget.1 h))

theorem handGo_guarded (n : Nat) {s : Mach} (h : s.guarded) : (handGo n s).guarded := by
  induction n generalizing s with
  | zero => exact h
  | succ n ih =>
    unfold handGo
    extract_lets cand cands best
    have hmem : ∀ c ∈ cands, c ∈ s.cmd.pool ∧ c.phase = 0 := by
      intro c hc
      have hcand : c ∈ cand := by
        simp only [cands] at hc
        split at hc
        · exact (List.mem_filter.1 hc).1
        · exact hc
      obtain ⟨hpool, hstart⟩ := List.mem_filter.1 hcand
      simp only [Mach.mayStart, Bool.and_eq_true, beq_iff_eq] at hstart
      exact ⟨hpool, hstart.1.1⟩
    split
    · rename_i c t hbest _
      have hc : c ∈ cands := by
        obtain hn | hc := mem_of_foldl_choice (fun b a => by
          rcases b with _ | d
          · exact .inr rfl
          · exact (ite_eq_or_eq _ _ _).symm) cands hbest
        · cases hn
        · exact hc
      obtain ⟨hpool, hphase⟩ := hmem c hc
      exact ih (Mach.guarded_hand h hpool hphase t)
    · exact h

theorem Mach.guarded_evt {s : Mach} (h : s.guarded) : (s.evt F.SCHED_EVT_THREADS_OUT).guarded :=
  Mach.guarded_step h (s.countsOn_wr (r := R.SCHED_EVT) _ 0 (.inr (.inl rfl))) (Mach.on_sf_ne _ _ (by decide)) id

theorem Mach.guarded_handover {s : Mach} (h : s.guarded) : s.handover.guarded := by
  unfold Mach.handover
  extract_lets handed told
  exact dispatchGo_guarded 16 (Mach.when_keeps Mach.guarded _ _ _ Mach.guarded_evt (handGo_guarded _ h))

/-! ## Closing a session -/

/-- Threads of `l` are freed. -/
def SchedSt.freed (c : SchedSt) (l : List Nat) : SchedSt :=
  l.foldl (fun c t => { c with threads := mdel c.threads t, ready := c.ready.filter (fun u => u != t), cores := c.cores.filter (fun e => e.2 != t) }) c

theorem SchedSt.freed_spec (l : List Nat) (c : SchedSt) :
    (c.freed l).vt = c.vt ∧ (c.freed l).win = c.win ∧ (c.freed l).urg = c.urg
      ∧ (∀ t, t ∈ (c.freed l).ready → t ∈ c.ready ∧ t ∉ l) ∧ (∀ e, e ∈ (c.freed l).cores → e ∈ c.cores ∧ e.2 ∉ l)
      ∧ ∀ t, t ∉ l → (c.freed l).rank t = c.rank t := by
  induction l generalizing c with
  | nil => exact ⟨rfl, rfl, rfl, fun _ h => ⟨h, List.not_mem_nil⟩, fun _ h => ⟨h, List.not_mem_nil⟩, fun _ _ => rfl⟩
  | cons a l ih =>
    obtain ⟨hvt, hwin, hurg, hready, hcores, hrank⟩ :=
      ih { c with threads := mdel c.threads a, ready := c.ready.filter (fun u => u != a), cores := c.cores.filter (fun e => e.2 != a) }
    refine ⟨hvt, hwin, hurg, fun t ht => ?_, fun e he => ?_, fun t ht => ?_⟩
    · obtain ⟨hm, hl⟩ := hready t ht
      obtain ⟨hm, hne⟩ := List.mem_filter.1 hm
      exact ⟨hm, by simp only [List.mem_cons, not_or]; exact ⟨by simpa using hne, hl⟩⟩
    · obtain ⟨hm, hl⟩ := hcores e he
      obtain ⟨hm, hne⟩ := List.mem_filter.1 hm
      exact ⟨hm, by simp only [List.mem_cons, not_or]; exact ⟨by simpa using hne, hl⟩⟩
    · simp only [List.mem_cons, not_or] at ht
      obtain ⟨hne, hl⟩ := ht
      refine (hrank t hl).trans ?_
      unfold SchedSt.rank SchedSt.thread
      rw [mget_mdel_ne _ _ (Ne.symm hne)]

/-- Commands that leave the pool free their threads. -/
theorem missed_freed {c : SchedSt} {l : List InCmd} (p : InCmd → Bool) (h : missed c l) :
    missed (c.freed (((l.filter p).filter (fun c => c.phase == 1)).map InCmd.thread)) (l.filter (fun c => !p c)) := by
  generalize hg : ((l.filter p).filter (fun c => c.phase == 1)).map InCmd.thread = g
  obtain ⟨hvt, -, -, hready, hcores, hrank⟩ := c.freed_spec g
  have hheld : ∀ t, heldPlain t l → t ∉ g → heldPlain t (l.filter (fun c => !p c)) := by
    rintro t ⟨d, hd, hd1, hdt, hdu, hids⟩ ht
    refine ⟨d, List.mem_filter.2 ⟨hd, ?_⟩, hd1, hdt, hdu, fun e he => hids e (List.mem_filter.1 he).1⟩
    by_contra hp
    refine ht (hg ▸ List.mem_map.2 ⟨d, List.mem_filter.2 ⟨List.mem_filter.2 ⟨hd, by simpa using hp⟩, by simpa using hd1⟩, hdt⟩)
  by_cases h32 : 32 ∈ g
  · exact .inr (.inl fun hm => (hready 32 hm).2 h32)
  by_cases h33 : 33 ∈ g
  · exact .inr (.inr (.inr (.inl fun hm => (hcores _ hm).2 h33)))
  obtain h | h | h | h | h | h | h := h
  · exact .inl (hvt ▸ h)
  · exact .inr (.inl fun hm => h (hready 32 hm).1)
  · exact .inr (.inr (.inl (hrank 32 h32 ▸ h)))
  · exact .inr (.inr (.inr (.inl fun hm => h (hcores _ hm).1)))
  · exact .inr (.inr (.inr (.inr (.inl (hrank 33 h33 ▸ h)))))
  · exact .inr (.inr (.inr (.inr (.inr (.inl (hheld 32 h h32))))))
  · exact .inr (.inr (.inr (.inr (.inr (.inr (hheld 33 h h33))))))

/-- Freeing the threads of a list of commands touches the scheduler alone. -/
theorem Mach.each_freeThr (s : Mach) (l : List InCmd) :
    s.each l (fun s c => s.when (c.phase == 1) (·.freeThr c.thread)) = s.onSch (·.freed ((l.filter (fun c => c.phase == 1)).map InCmd.thread)) := by
  induction l generalizing s with
  | nil => rfl
  | cons a l ih =>
    rw [Mach.each, List.foldl_cons]
    refine (ih _).trans ?_
    rw [List.filter_cons, Mach.when]
    split <;> rfl

theorem Mach.guarded_discard {s : Mach} (h : s.guarded) (p : InCmd → Bool) : (s.discard p none).guarded := by
  unfold Mach.discard
  extract_lets gone freed taken
  have hfreed : freed = s.onSch (·.freed ((gone.filter (fun c => c.phase == 1)).map InCmd.thread)) := s.each_freeThr gone
  refine Mach.guarded_handover (s := taken) ?_
  obtain ⟨-, hwin, hurg, -⟩ := s.sch.freed_spec ((gone.filter (fun c => c.phase == 1)).map InCmd.thread)
  have hsch : taken.sch = s.sch.freed ((gone.filter (fun c => c.phase == 1)).map InCmd.thread) := congrArg Mach.sch hfreed
  have hpool : taken.cmd.pool = s.cmd.pool.filter (fun c => !p c) := by simp only [taken, hfreed]; rfl
  have hregs : taken.regs = s.regs := by simp only [taken, hfreed]; rfl
  have htm : taken.tm = s.tm := by simp only [taken, hfreed]; rfl
  have hrd : ∀ q : Reg, taken.rd q = s.rd q := fun q => by rw [Mach.rd, hregs, Mach.rd]
  refine Mach.guarded_step h ⟨?_, fun h => ?_, ?_⟩ ?_ fun hm => ?_
  · rw [Mach.budgetSpent, htm, hsch, hwin, hurg, hrd]
    exact Iff.rfl
  · rwa [hrd]
  · rw [hrd]
  · rw [Mach.on, Mach.gf, hrd, Mach.on, Mach.gf]
  · rw [hsch, hpool]
    exact missed_freed p hm

theorem heldPlain_shut {t : Nat} {l : List InCmd} (n : Nat) (h : heldPlain t l) :
    heldPlain t (l.map (fun e => if e.o.sess == n then { e with o := { e.o with sess := shutSess } } else e)) := by
  have hsame : ∀ e : InCmd, ∀ e' : InCmd, e' = (if e.o.sess == n then { e with o := { e.o with sess := shutSess } } else e) →
      e'.phase = e.phase ∧ e'.thread = e.thread ∧ e'.o.urgent = e.o.urgent ∧ e'.o.id = e.o.id := by
    rintro e _ rfl
    split <;> exact ⟨rfl, rfl, rfl, rfl⟩
  obtain ⟨d, hd, hd1, hdt, hdu, hids⟩ := h
  obtain ⟨h1, h2, h3, h4⟩ := hsame d _ rfl
  refine ⟨_, List.mem_map_of_mem hd, h1.trans hd1, h2.trans hdt, h3.trans hdu, fun e he hid => ?_⟩
  obtain ⟨x, hx, rfl⟩ := List.mem_map.1 he
  obtain ⟨h1', -, -, h4'⟩ := hsame x _ rfl
  rw [h1']
  exact hids x hx (h4'.symm.trans (hid.trans h4))

theorem Mach.guarded_closeSess {s : Mach} (h : s.guarded) (n : Nat) : (s.closeSess n).guarded := by
  unfold Mach.closeSess
  split
  · exact h
  · extract_lets keep t
    have ht : t.guarded := Mach.guarded_discard h _
    clear_value t
    refine Mach.guarded_step ht ⟨Iff.rfl, id, Nat.le_refl _⟩ rfl fun hm => ?_
    obtain h | h | h | h | h | h | h := hm
    · exact .inl h
    · exact .inr (.inl h)
    · exact .inr (.inr (.inl h))
    · exact .inr (.inr (.inr (.inl h)))
    · exact .inr (.inr (.inr (.inr (.inl h))))
    · exact .inr (.inr (.inr (.inr (.inr (.inl (heldPlain_shut n h))))))
    · exact .inr (.inr (.inr (.inr (.inr (.inr (heldPlain_shut n h))))))

theorem Mach.guarded_closeDone {s : Mach} (h : s.guarded) : s.closeDone.guarded := by
  unfold Mach.closeDone
  refine Mach.each_keeps Mach.guarded _ (fun u e hu => ?_) _ s h
  have hmdel : (u.onCmd (fun c => { c with running := mdel c.running e.1 })).guarded :=
    Mach.guarded_step hu ⟨Iff.rfl, id, Nat.le_refl _⟩ rfl id
  generalize u.onCmd (fun c => { c with running := mdel c.running e.1 }) = t at hmdel ⊢
  exact Mach.guarded_closeSess hmdel _

end Sys2Proof.Machine
end

section
/-! PROOF. The refutation of O27.

CMD.QP0_CTRL is the word of SCHED.GRP_LAT_MAX of group 0x8000, and no state bounds the group of a thread. A queue pair that is stopped closes
its sessions; the first close dispatches thread 33 of that group, whose latency sets EN of the pair again. -/
namespace Sys2Proof.Machine

/-! ## A channel that keeps its lock -/

theorem mput_length_le {α : Type} (m : SMap α) (k : Nat) (v : α) : m.length ≤ (mput m k v).length := by
  induction m with
  | nil => exact Nat.zero_le _
  | cons a r ih =>
    rw [mput]
    split
    · exact Nat.le_succ _
    · split
      · exact Nat.le_refl _
      · exact Nat.succ_le_succ ih

/-- A converter that is locked does not come from one that lost its lock. -/
theorem Side.unlock_ne (k : Nat) {sd : Side} (hl : sd.lost = none) : ¬ ((sd.unlock k).asrc = 3 ∧ (sd.unlock k).lost = none) := by
  unfold Side.unlock
  rw [hl, if_neg (by decide)]
  split
  · exact fun h => absurd h.2 (by simp)
  · split
    · exact fun h => absurd h.1 (by simp)
    · exact fun h => by omega

theorem Mach.chans_each (s : Mach) (l : SMap Chan) (g : Chan → Chan) :
    (s.each l (fun s e => s.onChan e.1 g)).rend.chans = l.foldl (fun m e => mmod Chan.init m e.1 g) s.rend.chans := by
  induction l generalizing s with
  | nil => rfl
  | cons a l ih => exact ih _

theorem foldl_mmod_length_le {α : Type} (d : α) (l : SMap α) (g : α → α) (m : SMap α) :
    m.length ≤ (l.foldl (fun m e => mmod d m e.1 g) m).length := by
  induction l generalizing m with
  | nil => exact Nat.le_refl _
  | cons a l ih => exact (mput_length_le ..).trans (ih _)

/-- The one channel that is locked after the watch had a source that runs. -/
theorem Mach.asrcDrop_locked {s : Mach} {p : Nat → Bool} {i : Nat} {c : Chan} (h : (s.asrcDrop p).rend.chans = [(i, c)]) (hlock : c.route.cur.asrc = 3)
    (hlost : c.route.cur.lost = none) : p c.route.cur.sel = false := by
  by_contra hp
  have hp : p c.route.cur.sel = true := by simpa using hp
  unfold Mach.asrcDrop at h
  extract_lets held hit told drop at h
  have hchans : hit.foldl (fun m e => mmod Chan.init m e.1 (fun c => { c with route := { c.route with cur := drop c.route.cur, old := c.route.old.map drop } }))
      s.rend.chans = [(i, c)] := by
    rw [← s.chans_each, ← h]
    unfold Mach.when
    split <;> rfl
  have hheld : held c.route.cur = true := by simp [held, hlock, hlost, hp]
  simp only [hit] at hchans
  rcases hl : s.rend.chans with _ | ⟨⟨j, d⟩, _ | ⟨b, r⟩⟩
  · rw [hl] at hchans
    cases hchans
  · rw [hl] at hchans
    by_cases hd : (held d.route.cur || d.route.old.any held) = true
    · rw [List.filter_cons, if_pos hd] at hchans
      have hput : [(j, { d with route := { d.route with cur := drop d.route.cur, old := d.route.old.map drop } })] = [(i, c)] := by
        simpa [mmod, mput, mget] using hchans
      obtain ⟨-, rfl⟩ := Prod.mk.inj (List.cons.inj hput).1
      simp only [drop] at hlock hlost
      split at hlock
      · rename_i hcur
        rw [if_pos hcur] at hlost
        simp only [held, Bool.and_eq_true, decide_eq_true_eq, Option.isNone_iff_eq_none] at hcur
        exact Side.unlock_ne _ hcur.1.2 ⟨hlock, hlost⟩
      · rename_i hcur
        simp only [drop, if_neg hcur] at hheld
        exact hcur hheld
    · rw [List.filter_cons, if_neg hd] at hchans
      obtain ⟨-, rfl⟩ := Prod.mk.inj (List.cons.inj hchans).1
      exact hd (by rw [hheld]; rfl)
  · have hlen := foldl_mmod_length_le Chan.init (s.rend.chans.filter fun e => held e.2.route.cur || e.2.route.old.any held)
      (fun c => { c with route := { c.route with cur := drop c.route.cur, old := c.route.old.map drop } }) s.rend.chans
    rw [hchans, hl] at hlen
    simp at hlen

/-! ## The end of a command, read backwards -/

/-- A machine that has what `s` has of the scheduler, the pool and the upper registers. -/
theorem Mach.guarded_of_same {s t : Mach} (h : s.guarded) (hsch : t.sch = s.sch) (hpool : t.cmd.pool = s.cmd.pool) (hup : t.tm.up = s.tm.up)
    (hrd : ∀ q : Reg, q ∈ [R.SCHED_STAT, R.SCHED_PREEMPT, R.SCHED_URG_DEMOTE, R.CMD_QP_CTRL] → t.rd q = s.rd q) : t.guarded := by
  refine Mach.guarded_step h ⟨?_, fun h => ?_, ?_⟩ ?_ fun hm => ?_
  · rw [Mach.budgetSpent, hup, hsch, hrd _ (by simp)]
    exact Iff.rfl
  · rwa [hrd _ (by simp)]
  · rw [hrd _ (by simp)]
  · exact Mach.on_of_rd (hrd R.CMD_QP_CTRL (by simp))
  · rwa [hsch, hpool]

/-- If EN is clear before the end of a command and the count of demotions is at 2 or more, the part ends guarded. -/
theorem Mach.guarded_fin {s : Mach} (hrails : s.fin.sys.railsOff = false) (hen : s.on F.CMD_QP_CTRL_EN 0 = false)
    (hdem : 2 ≤ s.rd R.SCHED_URG_DEMOTE) : s.fin.guarded := by
  obtain ⟨hload, hloadPool⟩ := s.loadsRun_onlyIn
  have hlock := Mach.lockWatch_onlyIn s.loadsRun
  obtain ⟨hmove, hmovePool, -⟩ := Mach.powerCheck_moved hrails
  have hcmd : s.loadsRun.lockWatch.cmd = s.loadsRun.cmd := hlock.1 .cmd (by decide)
  have hsch : s.loadsRun.lockWatch.powerCheck.sch = s.sch :=
    (hmove.1 .sch (by decide)).trans ((hlock.1 .sch (by decide)).trans (hload.1 .sch (by decide)))
  have htm : s.loadsRun.lockWatch.powerCheck.tm = s.tm := (hmove.1 .tm (by decide)).trans ((hlock.1 .tm (by decide)).trans (hload.1 .tm (by decide)))
  have hrd : ∀ q : Reg, q ∈ [R.SCHED_STAT, R.SCHED_PREEMPT, R.SCHED_URG_DEMOTE, R.CMD_QP_CTRL] → s.loadsRun.lockWatch.powerCheck.rd q = s.rd q := by
    intro q hq
    have hout : moveTouch.covers (q.at_ 0 0) = false ∧ rendTouch.covers (q.at_ 0 0) = false ∧ loadTouch.covers (q.at_ 0 0) = false := by
      revert q
      decide
    exact (Mach.onlyIn_rd hmove _ _ _ hout.1).trans ((Mach.onlyIn_rd hlock _ _ _ hout.2.1).trans (Mach.onlyIn_rd hload _ _ _ hout.2.2))
  have hstart : s.guarded := ⟨hdem, .inl hen⟩
  have hclosed : s.loadsRun.lockWatch.powerCheck.closeDone.guarded :=
    Mach.guarded_closeDone (Mach.guarded_of_same hstart hsch (hmovePool.trans ((congrArg CmdSt.pool hcmd).trans hloadPool)) (congrArg TimeSt.up htm) hrd)
  obtain ⟨-, -, -, -, -, htm', -, -, -, -, -, -, hcmd', hsch', -, -, -, -, -, -, hreg', -⟩ := s.loadsRun.lockWatch.powerCheck.closeDone.settle_frame
  refine Mach.guarded_of_same hclosed hsch' (congrArg CmdSt.pool hcmd') (congrArg TimeSt.up htm') fun q hq => ?_
  refine hreg' q 0 0 ?_
  revert q
  decide

/-- The channels, streams and demotions of a part at the end of a command, and before it. -/
theorem Mach.locked_before {s : Mach} (hrails : s.fin.sys.railsOff = false) :
    (s.loadsRun.asrcDrop (fun sel => !s.loadsRun.srcRuns sel)).rend.chans = s.fin.rend.chans ∧ s.loadsRun.sin = s.fin.sin
      ∧ s.loadsRun.rd R.SCHED_URG_DEMOTE = s.rd R.SCHED_URG_DEMOTE := by
  obtain ⟨hload, -⟩ := s.loadsRun_onlyIn
  have hlock := Mach.lockWatch_onlyIn s.loadsRun
  obtain ⟨hmove, -, -⟩ := Mach.powerCheck_moved hrails
  have hclose := Mach.closeDone_onlyIn s.loadsRun.lockWatch.powerCheck
  obtain ⟨-, -, -, -, -, -, -, -, -, -, -, -, -, -, -, -, hsin', -, -, hrend', -⟩ := s.loadsRun.lockWatch.powerCheck.closeDone.settle_frame
  have hsin : s.fin.sin = s.loadsRun.sin :=
    hsin'.trans ((hclose.1 .strm (by decide)).1.trans ((hmove.1 .strm (by decide)).1.trans (hlock.1 .strm (by decide)).1))
  have hrend : s.fin.rend = s.loadsRun.lockWatch.rend := hrend'.trans ((hclose.1 .rend (by decide)).trans (hmove.1 .rend (by decide)))
  have hconv : ∀ u : Mach, u.convWatch.rend.chans = u.rend.chans := fun u => by
    unfold Mach.convWatch
    extract_lets up hit
    refine Mach.when_keeps (fun t => t.rend.chans = u.rend.chans) _ _ _ (fun h => h) ?_
    refine Mach.each_keeps (fun t => t.rend.chans = u.rend.chans) _ (fun t e h => ?_) _ _ rfl
    exact h
  exact ⟨((congrArg Rend.chans hrend).trans (hconv _)).symm, hsin.symm, Mach.onlyIn_rd hload _ _ _ (by decide)⟩

/-! ## The refutation -/

/-- An urgent or plain command of pool number `id`. -/
def poolCmd (id sess flow : Nat) (urgent : Bool) (group phase thread : Nat) : InCmd :=
  ⟨⟨id, .spi, sess, flow, 0, 0, false, urgent⟩, 0, [], group, 0, phase, thread, 16, false, none⟩

/-- A channel locked to the source of stream kind 2, index 0. -/
def lockedChan : Chan := { Chan.init with route := { Chan.init.route with cur := { Side.rest with sel := 0x2000, asrc := 3 } } }

/-- Queue pair 0 runs with two sessions, one core is in service, thread 33 of group 0x8000 is ready, and a command of session 2 holds the one
thread that group 1 may have, for which an urgent command waits. The channel's stream has the state word of SCHED.URG_DEMOTE. -/
def busyPair : Mach :=
  { ((((((((((Mach.reset.wr R.CMD_QP_CTRL 0x441).wr R.SCHED_STAT 1).wr R.SCHED_URG_DEMOTE 1).wr R.SCHED_GRP_RESV 127 0).wr R.SCHED_GRP_RESV 1 1).wr
      R.SCHED_GRP_RESV 0 2).wr R.SCHED_GRP_RESV 96 3).wr R.SCHED_GRP_RESV 0 4).wr R.SCHED_GRP_RESV 0 5).wr R.SCHED_GRP_RESV 0 6).wr R.SCHED_GRP_RESV 0 7 with
    tm := { Mach.reset.tm with up := 108900 }
    sch := ⟨[(32, ⟨3, 16, 1, 7⟩), (33, ⟨1, 16, 0x8000, 7⟩)], [33], [], [], 0, 300000⟩
    cmd := { Mach.reset.cmd with
      sess := [(1, ⟨.pcie 0, 64, 0, 0⟩), (2, ⟨.pcie 0, 64, 0, 0⟩)]
      pool := [poolCmd 1 2 1 false 1 1 32, poolCmd 2 77 0 true 0x8000 1 33, poolCmd 3 77 0 true 1 0 0] }
    sin := [(0x3EF81, { StrIn.off with en := true })]
    rend := { Mach.reset.rend with chans := [(0, lockedChan)] } }

theorem busyPair_runs : busyPair.sys.railsOff = false ∧ busyPair.on F.CMD_QP_CTRL_EN 0 = true ∧ busyPair.gf F.CMD_QP_CTRL_CQ_SIZE 0 = 4
    ∧ busyPair.gf F.CMD_QP_CTRL_RQ_SIZE 0 = 4 := by decide +kernel

/-- The part after queue pair 0 has been stopped. -/
def stoppedPair : Mach := (qpCtrlWrite 0 0x440 busyPair).fin

theorem stoppedPair_regs : stoppedPair.sys.railsOff = false ∧ stoppedPair.on F.CMD_QP_CTRL_EN 0 = true ∧ stoppedPair.rd R.SCHED_URG_DEMOTE = 2
    ∧ stoppedPair.rd R.SCHED_PREEMPT = 0 ∧ stoppedPair.rd R.SCHED_STAT = 1 ∧ stoppedPair.tm.up = 108900 := by decide +kernel

theorem stoppedPair_sch : stoppedPair.sch = ⟨[(32, ⟨1, 16, 1, 7⟩), (33, ⟨2, 16, 0x8000, 0⟩)], [32], [(0, 33)], [], 0, 300000⟩
    ∧ ∀ c ∈ stoppedPair.cmd.pool, c.o.urgent = true := by decide +kernel

theorem stoppedPair_stream : stoppedPair.rend.chans = [(0, lockedChan)] ∧ stoppedPair.sin = [(0x3EF81, { StrIn.off with en := true })] := by decide +kernel

/-- Thread 33 runs and thread 32 waits, both for urgent commands, after one demotion. -/
theorem stoppedPair_not_astray : ¬ stoppedPair.astray := by
  obtain ⟨-, -, hdem, hpre, hstat, hup⟩ := stoppedPair_regs
  obtain ⟨hsch, hpool⟩ := stoppedPair_sch
  have hplain : ∀ t, ¬ heldPlain t stoppedPair.cmd.pool := by
    rintro t ⟨c, hc, -, -, hu, -⟩
    exact absurd (hu.symm.trans (hpool c hc)) (by decide)
  rintro (h | h | h | h | h | h | h | h | h | h)
  · exact h ⟨hup, by rw [hsch], by rw [hsch], hstat⟩
  · exact h hpre
  · omega
  · exact h (by rw [hsch])
  · exact h (by rw [hsch]; decide)
  · exact h (by rw [hsch]; rfl)
  · exact h (by rw [hsch]; decide)
  · exact h (by rw [hsch]; rfl)
  · exact hplain 32 h
  · exact hplain 33 h

/-- A part that ends as the stopped pair has demoted twice before its command ends: its channel keeps the lock on a stream whose state is the
count of demotions, modulo 4. -/
theorem demoted_of_fin {m : Mach} (h : m.fin = stoppedPair) : 2 ≤ m.rd R.SCHED_URG_DEMOTE := by
  have hrails : m.fin.sys.railsOff = false := h ▸ stoppedPair_regs.1
  obtain ⟨hchans, hsin, hdem⟩ := Mach.locked_before hrails
  rw [h, stoppedPair_stream.1] at hchans
  rw [h, stoppedPair_stream.2] at hsin
  have hruns : (!m.loadsRun.srcRuns 0x2000) = false := Mach.asrcDrop_locked hchans rfl rfl
  have hstate : m.loadsRun.gf F.STRM_IN_STAT_STATE 0x3EF81 = 2 := by
    have : m.loadsRun.srcRuns 0x2000 = (m.loadsRun.gf F.STRM_IN_STAT_STATE 0x3EF81 == 2) := by
      rw [Mach.srcRuns, hsin]
      rfl
    simpa [this] using hruns
  have hword : m.loadsRun.rd R.STRM_IN_STAT 0x3EF81 = m.rd R.SCHED_URG_DEMOTE := hdem
  rw [Mach.gf, show F.STRM_IN_STAT_STATE.reg = R.STRM_IN_STAT from rfl, hword] at hstate
  by_contra hlow
  have hcases : m.rd R.SCHED_URG_DEMOTE = 0 ∨ m.rd R.SCHED_URG_DEMOTE = 1 := by omega
  obtain hz | hz := hcases <;> rw [hz] at hstate <;> exact absurd hstate (by decide)

/-- Refutes O27: stopping queue pair 0 in `busyPair` leaves its EN set, and no part whose EN is clear ends its command as this one does. -/
theorem not_commandQueuesAndMailbox : ¬ Obligations.CommandQueuesAndMailbox := by
  rintro ⟨-, -, -, -, -, hstop, -⟩
  obtain ⟨hlive, hen, hcq, hrq⟩ := busyPair_runs
  obtain ⟨m, hm, -, -, hoff⟩ := hstop { m := busyPair, pending := [] } 0 0x440 (by decide) (by decide) hlive (by decide) (by decide) (by decide) (by decide)
    (by decide) hen hcq.symm hrq.symm
  have hrow : exec (.qpCtrlWrite 0 0x440) { m := busyPair, pending := [] } = .next (State.gives { m := busyPair, pending := [] }
      (qpCtrlWrite 0 0x440 busyPair)) := take_gives (s := { m := busyPair, pending := [] }) hlive (by decide) rfl
  have hfin : m.fin = stoppedPair := by
    have := hm.symm.trans hrow
    injection this with this
    exact congrArg State.m this
  have hguarded : stoppedPair.guarded := hfin ▸ Mach.guarded_fin (hfin ▸ stoppedPair_regs.1) hoff (demoted_of_fin hfin)
  obtain ⟨-, hclear | hastray⟩ := hguarded
  · exact absurd (hclear.symm.trans stoppedPair_regs.2.1) (by decide)
  · exact stoppedPair_not_astray hastray

end Sys2Proof.Machine
end
